-- ==== Sys2Proof/Word.lean ====
section
/-! DEFINITION. Word.lean: the widths this block counts in, and their plainest arithmetic. -/

namespace Sys2Proof

/-- A register word (R4). -/
abbrev Word := BitVec 32

/-- One byte of a record, a buffer or a payload. -/
abbrev Byte := BitVec 8

end Sys2Proof
end

