-- ==== Sys2Proof/Syntax.lean ====
section
/-! DEFINITION. Syntax.lean: the commands of the block, one constructor per row of spec/opcode_table.json. -/

namespace Sys2Proof

/-- What the servo inputs show at one sample (R238): the eight channels SA, SB, SC, SD, SE, SF, ST1, ST2 after
averaging, in converter LSB; the three coils' currents in mA and whether each is found open (R284). -/
structure ServoObs where
  ch : List Int
  coils : List (Int × Bool) := []
  deriving DecidableEq, Repr

/-- What only the wedge field shows (R85, R235, R238): the amplitudes of bursts A to D, whether the clock mark was found, the layer
field. -/
structure WedgeObs where
  ba : Nat := 0
  bb : Nat := 0
  bc : Nat := 0
  bd : Nat := 0
  mark : Bool := false
  layer : Option Nat := none
  deriving DecidableEq, Repr

/-- What a PWM period shows beside the currents and the speed: the largest shunt current in 10 mA (R298), and the peak line-to-line
amplitude of the observer's back-EMF in mV (R291). -/
structure ShuntObs where
  peak : Nat
  emf : Nat := 0
  deriving DecidableEq, Repr

/-- What a focus sweep meets, in order (R358): the Σ peak and the peak-to-peak FES of each rise of the sum signal. -/
structure SumPeak where
  peak : Nat
  pp : Nat
  deriving DecidableEq, Repr

/-- A crossing of tracks during the pull-in (R360): peak-to-peak TES_C and the ticks between two rising crossings. -/
structure Crossing where
  pp : Nat
  ticks : Nat
  deriving DecidableEq, Repr

/-- What an equaliser sees at one bit (R154): the 15 samples of its own beam, of the beam inward and of the beam outward. -/
structure EqBit where
  own : List Int
  inn : List Int
  out : List Int
  deriving DecidableEq, Repr

/-- Equaliser outputs of consecutive bits of a track (R154): the first one's place, counted from the start of a sector slot or from
a resync's nominal position, the outputs in 1/512 LSB, and which bits are chaff. -/
structure Outs where
  start : Int := 0
  z : List Int := []
  chaff : List Bool := []
  deriving DecidableEq, Repr

/-- What a beam position reads of a whole sector (R213, R217): its equaliser outputs, and those about each resync. -/
structure TrackOuts where
  outs : Outs := {}
  rs : List Outs := []
  deriving DecidableEq, Repr

/-- What the trailing beams read of a written slot (R213, R217): the beam position that verifies, and others by number. -/
structure VerifyObs where
  own : TrackOuts := {}
  watched : List (Nat × TrackOuts) := []
  deriving DecidableEq, Repr

/-- A sector of the swath under the pickup: beam position and slot. -/
structure BeamSlot where
  beam : Nat
  slot : Nat
  deriving DecidableEq, Repr

/-- The host commands of R397 and R398, and any other opcode. -/
inductive Cmd where
  | deleteSq | createSq | getLogPage | deleteCq | createCq | identify | abort | setFeatures | getFeatures | asyncEvent
  | fwCommit | fwDownload | keepAlive | miSend | miReceive | sanitize | securitySend | securityReceive | doorbellConfig
  | connect | propertyGet | propertySet | authSend | authReceive | mount | unmount | survey | plaitLoad | ledgerRead
  | flush | write | read | compare | verify | zoneSend | zoneReceive | zoneAppend | migrate | readAsOf | compressJob
  | decompressJob | otherAdmin | otherIo
  deriving DecidableEq, Repr

/-- A command as a submission queue holds it (R415): which it is, its namespace, logical block range, Force Unit Access,
HIST, and a Migrate's source ranges (NSID, SLBA, blocks). -/
structure HostCmd where
  op : Cmd
  nsid : Nat := 0
  slba : Nat := 0
  nlb : Nat := 0
  fua : Bool := false
  hist : Bool := false
  srcs : List (Nat × Nat × Nat) := []
  deriving DecidableEq, Repr

/-- What a deck finds on a disc for a Mount (R434, R435): whether it is blank and how many layers have wedges; the 239 data
bytes of a primer header block when the primer decodes; for a CG1 disc its own label (set label, member) and its extents
(first block, blocks, PBA, offset, length); payloads of every written index unit; the highest UNIT_SEQ in the ledger band and
the next ledger SEQ after it; the unit slots used, by layer, swath, pass and slot; contents of written swath blocks by PBA; whether a primer written now verifies. -/
structure DiscObs where
  blank : Bool := false
  layers : Nat := 1
  primer : Option (List Byte) := none
  label : List Byte := []
  member : Nat := 0
  extents : List (Nat × Nat × Nat × Nat × Nat) := []
  units : List (List Byte) := []
  ledgerSeq : Nat := 0
  ledgerNext : Nat := 0
  places : List (Nat × Nat × Nat × Nat) := []
  blocks : List (Nat × List Byte) := []
  verified : Bool := true
  deriving DecidableEq, Repr

/-- What a Survey finds of one swath block (R438): blank, or its erasures at the first revolution, the glean it was
delivered after (0: none), whether it went out with an erasure mask or unchecked, miscorrected sectors, sectors that did not
converge in their first pass. -/
structure SurveyBlk where
  blank : Bool := false
  erasures : Nat := 0
  glean : Nat := 0
  masked : Bool := false
  unchecked : Bool := false
  miscorr : Nat := 0
  slow : Nat := 0
  overrun : Nat := 0
  deriving DecidableEq, Repr

/-- Symbol errors that a read of an ECC word of the DRAM meets (R500, R501): the word's number, and for each symbol in error (0
to 19) the bits of it that are wrong. What they amount to is the decoder's finding. -/
structure DramErr where
  word : Nat
  bad : List (Nat × Nat)
  deriving DecidableEq, Repr

/-- What DRAM training finds (R492): DIMM capacity in 2^n GiB, DIMMs per channel, ranks per DIMM, device width (0 ×4, 1 ×8),
row and column address bits, data rate in 10 MT/s; whether the DIMMs are all alike (R487); their serial numbers by channel ×
2 + DIMM; for each channel whether every step passed, and for each strobe group read centre, read eye, write centre, write
eye. -/
structure TrainObs where
  dimmLog2 : Nat
  dpc : Nat
  ranks : Nat
  width : Nat
  rowBits : Nat
  colBits : Nat
  mts : Nat
  alike : Bool
  serials : List Nat
  chans : List (Bool × List (Nat × Nat × Nat × Nat))
  deriving DecidableEq, Repr

/-- A re-centre of a channel (R493): for each strobe group the steps its read and write centres move, and whether a group is
left with no eye (R515), and the temperature of its DIMM's sensor in °C (R493). -/
structure CentreObs where
  moves : List (Int × Int)
  noEye : Bool := false
  temp : Int := 0
  deriving DecidableEq, Repr

/-- An error that a read of the mapping cache finds (R546): set, way, sector, word; in the tag entry; uncorrectable. -/
structure McErr where
  set : Nat
  way : Nat
  sector : Nat := 0
  word : Nat := 0
  tag : Bool := false
  uncorr : Bool := false
  deriving DecidableEq, Repr

/-- What meets the mapping cache between two of its steps: a request of the firmware or of a namespace (DRAM address, write, of a whole sector,
streaming), a victim's write-back issued or accepted, an error found by a read. -/
inductive McEv where
  | req (addr : Nat) (ns : Option Nat) (write whole stream : Bool)
  | wbIssue (line : Nat)
  | wbDone (line : Nat)
  | err (e : McErr)
  deriving DecidableEq, Repr

/-- Standard SPDM requests (R634): those that ask for something and those that act on a session. A key exchange stands for
the whole establishment of a session: digest of the requester's chain, whether mutual authentication succeeded. -/
inductive SpdmReq where
  | version | capabilities | algorithms | digests | certificate (slot : Nat) | challenge (slot : Nat)
  | measurements (index : Nat) | keyExchange (digest : List Byte) (verified : Bool) | heartbeat (sid : Nat)
  | keyUpdate (sid : Nat) | endSession (sid : Nat)
  deriving DecidableEq, Repr

/-- What the calibration of a lane measures (R603): the sum of 65,536 codes with the input shorted, the difference between the two
levels in 1/16 LSB, the edge position in interpolator steps. -/
structure CalObs where
  sum : Int
  diff : Int
  skew : Int
  deriving DecidableEq, Repr

/-- What a cold boot finds (R605, R643, R658, R662): whether the factory fuse bank has a good CRC-64, a known-answer test that
fails, whether the flash answers, whether a copy of the SEC store is good, whether TAMPER_N reads open, the PCIE_BIF strap,
whether PERST_N is released and the links that train, sums of 100,000 samples of the servo channels and shunts of each
deck; whether the boot ends OFF. -/
structure BootObs where
  fuseOk : Bool := true
  kat : Option Nat := none
  flashOk : Bool := true
  storeOk : Bool := true
  tamperOpen : Bool := false
  split : Bool := false
  perst : Bool := false
  links : Nat := 0
  offsets : List (List Int × List Int) := []
  fromOff : Bool := false
  deriving DecidableEq, Repr

/-- What ends a low state (R567, R587). -/
inductive WakeCause where
  | command | cmb | mctp | wakeN | clamp | fault | tamper
  deriving DecidableEq, Repr

/-- What a compression job finds in the buffers its descriptor names, where they lie in host memory (R473): whether all can be
reached, the list of chain buffers, the state record, the input. -/
structure JobObs where
  reach : Bool := true
  chain : List Byte := []
  state : List Byte := []
  input : List Byte := []
  deriving DecidableEq, Repr

/-- A fault record (R667). -/
structure FaultRec where
  seq : Nat
  tick : Nat
  handle : Nat
  cls : Nat
  code : Nat
  sev : Nat
  angle : Option Nat := none
  fwd : Bool := false
  lost : Bool := false
  latched : Bool := false
  rep : Nat := 0
  detail : List Byte := []
  /-- acknowledged by host software (R670) -/
  read : Bool := false
  deriving DecidableEq, Repr

/-- Completion statuses by the names the spec gives them: those NVM Express defines, the command-specific ones of Mount,
Unmount, Migrate and Survey, and the vendor ones (R676). -/
inductive Sts where
  | success | invalidOpcode | invalidField | dataTransfer | internalError | abortRequested | invalidNamespace
  | sequenceError | sanitizeInProgress | writeProtected | notReady | accessDenied | guardCheck | unrecovered
  | compareFailure | invalidLogPage | invalidQueue | invalidZoneTransition | zoneWrite | zoneFull | zoneBoundary
  | tooManyOpen | eventLimit | lbaRange | invalidImage | activationTime | controllerBusy | invalidParameter
  | noDisc | notMember | alreadyMounted | labelMismatch | blank | primerUnreadable | deckFault | notMounted | migrateLimit
  | quotaExceeded | incompressible | outputLimit | chainExhausted | writeInhibited | sectorUnreadable | discNotMounted
  | zoneWriteOnce | plaitRejected | capacityExceeded | tooManyActive | invalidSlot
  deriving DecidableEq, Repr

/-- What a register write finds outside the registers, for the words that look (R493, R637, R609): whether the case reads closed at
TAMPER_N, the re-centre of each channel, the bits of a fuse row that did not take. -/
structure BusObs where
  closed : Bool := true
  voids : Nat := 0
  centres : List CentreObs := []
  deriving DecidableEq, Repr

/-- Sums of 100,000 samples with inputs at rest (R605): the servo channels and the shunts of a deck. -/
structure OfsObs where
  svo : List Int := []
  shunt : List Int := []
  deriving DecidableEq, Repr

/-- What the far end of a seam port reports at step 4 of R44: device number, port, sheaf handle, SHEAF_DIGEST. -/
structure SeamPeer where
  dev : Nat
  port : Nat
  sheaf : Nat
  deriving DecidableEq, Repr

/-- A stored stream that the root of a sheaf sends to a member for a deck of it: the deck, the number of its swath block, whether
it opens that block, the 40 bytes of its mapping record (R105) and its bytes in on-media form (R12, R29). -/
structure SentStm where
  deck : Nat
  num : Nat
  fresh : Bool
  mrec : List Byte
  bytes : List Byte
  deriving DecidableEq, Repr

/-- A message between the members of a sheaf (R29, R30). To a member: a command other than a write, with the write sequence and
TAI of its intake at the root; the streams of a write for its decks, with the write's stamp and time. To the root, from a
device: the result of a forwarded command (status, result dwords, data, whether it is the last); a fault record. Either way:
the payloads of the index units on a device's discs (R104). -/
inductive SheafMsg where
  | cmd (hc : HostCmd) (wid tai : Nat)
  | streams (slba nlb : Nat) (time : Option Nat) (l : List SentStm)
  | result (dev stamp : Nat) (st : Sts) (dw0 dw1 : Nat) (data : List Byte) (all : Bool)
  | units (dev nsid : Nat) (l : List (List Byte))
  | fault (r : FaultRec)
  deriving DecidableEq, Repr

/-- The commands: what software, the buses, the links and the block's own hardware present to it, one constructor per row
of spec/opcode_table.json. `link` is a PCIe link, `n` a deck, `stamp` the intake stamp of a host command, `dram` the errors its
DRAM reads find and `lost` the staged writes lost with them; the other operands are what the row's summary names. -/
inductive Instr where
  /-- REG_WRITE (R7): A register write to a register with no row of its own, applied under its fields' access
  classes. -/
  | regWrite (link : Fin 2) (off width : Nat) (v : Word) (o : BusObs)
  /-- SNAP_GRAIN_READ (R71): A read of ANG.SNAP_GRAIN captures the grain and revolution counters and latches
  SNAP_REV. -/
  | snapGrainRead (link : Fin 2) (n : Fin 16)
  /-- TICK_LO_READ (R79): A read of MGMT.TICK_LO returns tick bits 31:0 and latches bits 63:32 into TICK_HI. -/
  | tickLoRead (link : Fin 2)
  /-- TAI_NS_READ (R412): A read of MGMT.TAI_NS latches the seconds of TAI_BASE into TAI_SEC_LO and TAI_SEC_HI.
  -/
  | taiNsRead (link : Fin 2)
  /-- STAMP_LO_READ (R444): A read of HQ.STAMP_LO latches the high word of the next intake stamp. -/
  | stampLoRead (link : Fin 2)
  /-- SIG_LO_READ (R615): A read of TST.SIG_LO latches the high word of the last slice signature. -/
  | sigLoRead (link : Fin 2)
  /-- REC_DATA_READ (R682): A read of FLT.REC_DATA word 0 latches words 1 to 15 of the selected record. -/
  | recDataRead (link : Fin 2)
  /-- COMMIT_REQ (R21): Writing COMMIT_CTL.REQ of a device-wide block captures the pending set and requests a
  commit. -/
  | commitReq (link : Fin 2) (b : Fin 10)
  /-- COMMIT_DISCARD (R21): Writing COMMIT_CTL.DISCARD reloads every staged field of the block from its value
  in force. -/
  | commitDiscard (link : Fin 2) (b : Fin 10)
  /-- EPOCH_BOUNDARY (R17): At each 100 us epoch boundary the device decides pending device-wide commits and
  paces shares. -/
  | epochBoundary
  /-- PLAIT_LOAD (R40): Plait Load admin command receives a plait piece and, on LAST, verifies and runs or
  stores it. -/
  | plaitLoad (stamp : Nat) (ofst : Nat) (piece : List Byte) (last : Bool) (dest : Fin 4) (select : Bool)
  (subtree : Word) (quiesce : Nat)
  /-- PLAIT_LOAD_TIMEOUT (R40): A load that receives no piece for 10 s is discarded. -/
  | plaitLoadTimeout
  /-- SUBTREE_RELOAD_APPLY (R42): Once the subtree's resources are idle, the subtree is applied at the next
  epoch boundary and held commands are released. -/
  | subtreeReloadApply
  /-- RELOAD_QUIESCE_TIMEOUT (R42): If resources do not become idle within QUIESCE_MS the reload is rejected
  with BUSY. -/
  | reloadQuiesceTimeout
  /-- SEAM_PORT_BRINGUP (R44): An enabled seam port trains, deskews, exchanges identity, authenticates and
  becomes UP. -/
  | seamPortBringup (k : Fin 6) (locked : Nat) (peer : Option SeamPeer) (digest : List Byte) (auth : Option
  Bool) (routed : Bool) (reach : List (Nat × Nat × List Byte))
  /-- SEAM_RETRY_TIMER (R44): 100 ms after a failed bring-up step the seam port restarts at step 1. -/
  | seamRetryTimer (k : Fin 6)
  /-- SEAM_LANE_FAIL (R45): A lane failing on an UP seam port retrains the port at x2. -/
  | seamLaneFail (k : Fin 6)
  /-- SEAM_MEMBER_UNREACHABLE (R45): A sheaf member becomes unreachable and its striped namespaces report
  Namespace Not Ready. -/
  | seamMemberUnreachable (dev : Nat) (eth : Option (List Byte))
  /-- CLOCK_MARK (R53): A clock mark detected in the window corrects the timebase phase and increment and
  advances the lock state machine. -/
  | clockMark (n : Fin 16) (idx : Option (Fin 1024)) (eps : List (Fin 66 × Int))
  /-- MARK_WINDOW_MISS (R53): A wedge whose mark is not found in the window applies no correction and counts
  toward loss criteria. -/
  | markWindowMiss (n : Fin 16)
  /-- HOLDOVER_TIMEOUT (R53): After HOLD_MAX wedges in HOLDOVER the timebase enters SEARCH. -/
  | holdoverTimeout (n : Fin 16)
  /-- FORCE_SEARCH (R67): Writing PLL_CFG.FORCE_SEARCH sends an enabled timebase to SEARCH. -/
  | forceSearch (link : Fin 2) (n : Fin 16)
  /-- TIMEBASE_ENABLE (R53): The sequencer enables the timebase when slot 0 captures focus, entering SEARCH. -/
  | timebaseEnable (n : Fin 16)
  /-- TIMEBASE_DISABLE (R53): The sequencer disables the timebase on focus loss or certain deck state entries,
  entering OFF. -/
  | timebaseDisable (n : Fin 16)
  /-- TRIGGER_FIRE (R57): An angle trigger fires in the tick in which the counter reaches its target, acting in
  the order of R60. -/
  | triggerFire (n : Fin 16) (w : WedgeObs) (o : ServoObs)
  /-- TRIG_CFG_WRITE (R59): A write to TRIG_CFG arms, disarms, reconfigures or clears status of a trigger, or
  is ignored with ERR while armed. -/
  | trigCfgWrite (link : Fin 2) (n : Fin 16) (t : Fin 64) (v : Word)
  /-- TRIG_POS_WRITE (R59): A write to TRIG_POS sets a trigger position, or is ignored with ERR while armed. -/
  | trigPosWrite (link : Fin 2) (n : Fin 16) (t : Fin 64) (v : Word)
  /-- TRIG_REV_WRITE (R59): A write to TRIG_REV sets a trigger revolution, or is ignored with ERR while armed.
  -/
  | trigRevWrite (link : Fin 2) (n : Fin 16) (t : Fin 64) (v : Word)
  /-- DECK_COMMIT_REQ (R62): Writing ANG.COMMIT_CTL.REQ captures the SUB_MASK staged fields for a commit at
  trigger TRIG. -/
  | deckCommitReq (link : Fin 2) (n : Fin 16) (mask : Fin 512) (trig : Fin 64)
  /-- DECK_COMMIT_CANCEL (R63): Writing CANCEL while REQ reads 1 drops the pending deck commit. -/
  | deckCommitCancel (link : Fin 2) (n : Fin 16)
  /-- DECK_COMMIT_DISCARD (R77): Writing DISCARD reloads the staged fields of the named sub-blocks from their
  values in force. -/
  | deckCommitDiscard (link : Fin 2) (n : Fin 16) (mask : Fin 512)
  /-- LANE_LOOP_BLOCK (R120): At the end of each sample block the lane's gain, offset, asymmetry or timing loop
  updates. -/
  | laneLoopBlock (n : Fin 16) (l : Fin 66) (timing : Bool) (wedge pos : Nat) (prev : Int) (ys : List Int) (eq
  : List EqBit)
  /-- WINNOW_WINDOW (R124): At the end of each 32-sample window the winnow classifies it and raises or drops
  its flag. -/
  | winnowWindow (n : Fin 16) (l : Fin 66) (wedge pos : Nat) (ys : List Int)
  /-- WINNOW_LONG_SPAN (R126): A flag up for more than MAX_SPAN samples sets LONG and signals the deck core. -/
  | winnowLongSpan (n : Fin 16) (l : Fin 66)
  /-- REINIT (R145): Writing LOOP_CTL.REINIT reloads the lane loops from LOOP_INIT at the next block boundary.
  -/
  | reinit (link : Fin 2) (n : Fin 16) (l : Fin 66)
  /-- CLR_CNT (R145): Writing LOOP_CTL.CLR_CNT clears the lane's SLIPS and SPANS counts. -/
  | clrCnt (link : Fin 2) (n : Fin 16) (l : Fin 66)
  /-- SHADOW (R132): SPARE_CTL command SHADOW puts a spare lane in SHADOW on a target beam position. -/
  | shadow (link : Fin 2) (n : Fin 16) (sp : Fin 2) (trig : Fin 64) (target : Fin 128)
  /-- SWAP (R132): SPARE_CTL command SWAP requests that a shadowing spare take over the beam position at a
  guard. -/
  | swap (link : Fin 2) (n : Fin 16) (sp : Fin 2) (trig : Fin 64) (target : Fin 128)
  /-- SWAP_BACK (R132): SPARE_CTL command SWAP_BACK requests that the native lane resume its beam position at a
  guard. -/
  | swapBack (link : Fin 2) (n : Fin 16) (sp : Fin 2) (trig : Fin 64) (target : Fin 128)
  /-- RELEASE (R132): SPARE_CTL command RELEASE returns a shadowing spare to SPARE. -/
  | release (link : Fin 2) (n : Fin 16) (sp : Fin 2) (trig : Fin 64) (target : Fin 128)
  /-- NATIVE_SHADOW (R132): SPARE_CTL command NATIVE_SHADOW puts a swapped-out native lane in SHADOW of the
  spare. -/
  | nativeShadow (link : Fin 2) (n : Fin 16) (sp : Fin 2) (trig : Fin 64) (target : Fin 128)
  /-- SPARE_SWAP_AT_GUARD (R133): At bit 16 of a sector guard after the trigger firing a pending swap is made,
  deferred, or timed out. -/
  | spareSwapAtGuard (n : Fin 16) (sp : Fin 2)
  /-- LANE_STANDBY_EXIT (R130): 20 us after release from standby a lane's front end is powered and its loops
  resume. -/
  | laneStandbyExit (n : Fin 16) (l : Fin 66)
  /-- SYNC_WINDOW (R165): When a sector's sync window closes its candidates are tested and the sector is
  accepted, flywheeled or erased. -/
  | syncWindow (n : Fin 16) (beam : Fin 64) (slot swath passes : Nat) (start : Int) (z : List Int) (chaff :
  List Bool)
  /-- RESYNC_WINDOW (R166): At each resync position the search window is evaluated and the fragment aligned or
  placed at the prediction. -/
  | resyncWindow (n : Fin 16) (p : BeamSlot) (o : Outs)
  /-- LDPC_DISPATCH (R168): A free LDPC engine takes the oldest waiting work of the highest priority class. -/
  | ldpcDispatch (die : Fin 2)
  /-- LDPC_FIRST_PASS_DONE (R169): A first-pass decode converges or ends, queuing a second turbo pass or making
  an erasure. -/
  | ldpcFirstPassDone (n : Fin 16) (slot : Nat) (beam : Fin 64) (o : Outs)
  /-- TURBO_PASS_DONE (R169): A second turbo pass converges or the sector becomes an erasure. -/
  | turboPassDone (n : Fin 16) (slot : Nat) (beam : Fin 64) (swath : Nat)
  /-- DARN_DISPATCH (R171): A darn engine takes a complete swath block. -/
  | darnDispatch (n : Fin 16) (slot : Nat)
  /-- DARN_DONE (R172): Darn finishes a block and delivers it, delivers it unchecked, or schedules a glean. -/
  | darnDone (n : Fin 16) (slot swath layer eng : Nat)
  /-- GLEAN_SET_APPLY (R174): A glean set takes effect 32 wedges before the first pending slot's sector start.
  -/
  | gleanSetApply (n : Fin 16) (g : Fin 5)
  /-- MARGIN_SNAP (R176): Writing MARGIN_CTL.SNAP freezes the deck's disc and lane margin records. -/
  | marginSnap (link : Fin 2) (n : Fin 16)
  /-- MARGIN_CLR (R184): Writing MARGIN_CTL.CLR clears the deck's margin and sync counters and stamps the
  clear. -/
  | marginClr (link : Fin 2) (n : Fin 16)
  /-- EQ_REINIT (R158): Writing BCFG.EQ_REINIT loads equaliser k from its initial set at the next data-gap
  start. -/
  | eqReinit (link : Fin 2) (n : Fin 16) (k : Fin 64)
  /-- EQ_DATA_WRITE (R186): A write to EQ_DATA sets a tap of the initial set, or is ignored with ERR. -/
  | eqDataWrite (link : Fin 2) (n : Fin 16) (v : BitVec 12)
  /-- WRITE_PASS_START (R196): Once its payloads are staged and conditions hold, a write pass of 16 tracks
  starts. -/
  | writePassStart (n : Fin 16) (layer swath pass : Nat) (dram : List DramErr) (lost : List (Nat × Nat))
  /-- SECTOR_VERIFY_DONE (R213): The trailing beam's decode of a written sector yields its verification
  outcome. -/
  | sectorVerifyDone (n : Fin 16) (e : Fin 16) (slot : Nat) (v : VerifyObs)
  /-- WRITE_PASS_END (R214): A write pass ends, each slot's outcome is reported and failed payloads are queued
  again. -/
  | writePassEnd (n : Fin 16) (swath pass : Nat)
  /-- OPC_RUN (R219): An optimum power calibration run that has fallen due starts before the next pass on a
  layer. -/
  | opcRun (n : Fin 16) (found : Nat)
  /-- LASER_TX_FRAME (R202): Each 102.4 ns a transmit frame is built with gate, phase, period, channel bits and
  message. -/
  | laserTxFrame (n : Fin 16) (seq : Nat) (dram : List DramErr) (lost : List (Nat × Nat))
  /-- LASER_RX_FRAME (R203): A receive frame is decoded and its status, fault and monitor fields acted on. -/
  | laserRxFrame (n : Fin 16) (syms : List Nat) (ofs : OfsObs)
  /-- CAP (R207): The driver's CAP message gives protocol, emitter base, lead and latency. -/
  | cap (n : Fin 16) (tag : Nat) (p : List Byte)
  /-- TABLE_DATA (R207): The driver's TABLE_DATA message returns requested table bytes. -/
  | tableData (n : Fin 16) (tag : Nat) (p : List Byte)
  /-- ACK (R207): The driver's ACK message answers a table write, commit or fault clear. -/
  | ack (n : Fin 16) (tag result : Nat) (ofs : OfsObs)
  /-- FAULT (R207): An unsolicited driver FAULT message excludes the named emitters. -/
  | fault (n : Fin 16) (mask code : Nat)
  /-- LINK_MSG_TIMEOUT (R207): After MSG_TMO frames without answer a request is resent, or after MSG_TRY sends
  the link is at fault. -/
  | linkMsgTimeout (n : Fin 16)
  /-- LINK_RX_LOSS (R210): Two failed receive frames or 204.8 ns without a marker send the kill sequence and
  retrain the link. -/
  | linkRxLoss (n : Fin 16)
  /-- LINK_BRINGUP (R209): The laser link is brought up through capability, table download and commit to UP. -/
  | linkBringup (n : Fin 16) (ok : Bool) (ofs : OfsObs)
  /-- LINK_RETRY_TIMER (R209): 10 ms after a failed bring-up step the link retries from step 1, or enters FAULT
  after three attempts. -/
  | linkRetryTimer (n : Fin 16)
  /-- SHOCK_CROSSING (R211): SHK crossing SHK_LIM closes the write gate and opens a shock window. -/
  | shockCrossing (n : Fin 16) (level : Nat)
  /-- GATE_REOPEN (R212): The gate reopens at the first sector start SETTLE wedges after its condition clears.
  -/
  | gateReopen (n : Fin 16)
  /-- WRITE_INHIBIT_TIMEOUT (R218): After INH_TMO of closure dependent FUA writes and flushes complete with
  WRITE_INHIBITED. -/
  | writeInhibitTimeout (n : Fin 16)
  /-- FORCE_DOWN (R222): Writing LINK_CFG.FORCE_DOWN holds the link down, or writing 0 releases it for
  bring-up. -/
  | forceDown (link : Fin 2) (n : Fin 16) (v : Bool)
  /-- VFY_CLR (R233): Writing VFY_CLR.CLR clears the four write outcome counts. -/
  | vfyClr (link : Fin 2) (n : Fin 16)
  /-- LOOP_SUBSAMPLE (R236): A slot with SUB takes a sub-sample at its grain within the wedge. -/
  | loopSubsample (n : Fin 16) (m : Nat) (o : ServoObs)
  /-- FREE_RUN_SAMPLE (R237): Every FREE_TICKS ticks without angle the loop engine takes a free-running sample.
  -/
  | freeRunSample (n : Fin 16) (o : ServoObs)
  /-- SLOT_MODE_WRITE (R247): A SLOT_CTL.MODE write changes a slot's mode at its next sample, or is ignored
  while SAFE is latched. -/
  | slotModeWrite (link : Fin 2) (n : Fin 16) (k : Fin 8) (mode : Fin 8)
  /-- CF_DATA_WRITE (R249): A CF_DATA write sets a coefficient or table word, or is ignored with ERR. -/
  | cfDataWrite (link : Fin 2) (n : Fin 16) (v : Word)
  /-- BANK_SWAP_REQ (R250): Writing BANK.REQ requests a coefficient bank swap now or at a trigger. -/
  | bankSwapReq (link : Fin 2) (n : Fin 16) (k : Fin 8) (trig : Fin 64) (atTrig clr : Bool)
  /-- BANK_SWAP_CANCEL (R251): Writing BANK.CANCEL while BUSY drops the pending swap. -/
  | bankSwapCancel (link : Fin 2) (n : Fin 16) (k : Fin 8)
  /-- PROF_MOVE (R253): Profile command MOVE moves a slot's set-point along the planned profile. -/
  | profMove (link : Fin 2) (n : Fin 16) (k : Fin 8) (rel : Bool)
  /-- PROF_JUMP (R253): Profile command JUMP drives the slot in JUMP mode to a new target. -/
  | profJump (link : Fin 2) (n : Fin 16) (k : Fin 8) (layer : Fin 32) (rel : Bool)
  /-- PROF_SEEK (R253): Profile command SEEK jumps tracking while counting track crossings. -/
  | profSeek (link : Fin 2) (n : Fin 16) (k : Fin 8) (rel : Bool)
  /-- PROF_STOP (R253): Profile command STOP brings a running move to rest. -/
  | profStop (link : Fin 2) (n : Fin 16) (k : Fin 8)
  /-- PROFILE_END (R253): At the end of a profile the capture and crossing or layer checks decide DONE or
  JUMP_FAIL. -/
  | profileEnd (n : Fin 16) (k : Fin 8) (restAt : Int)
  /-- LEARN (R246): Writing FF_CTL.LEARN starts runout learning at the next revolution mark. -/
  | learn (link : Fin 2) (n : Fin 16) (k : Fin 8)
  /-- FF_CLEAR (R277): Writing FF_CTL.CLEAR zeroes the runout table unless learning runs. -/
  | ffClear (link : Fin 2) (n : Fin 16) (k : Fin 8)
  /-- SAFE_RELEASE (R263): Writing 1 to ENG_STS.SAFE releases the safe-state latch. -/
  | safeRelease (link : Fin 2) (n : Fin 16)
  /-- SPN_START (R302): Spindle command START listens, catches or starts the motor toward TARGET_RPM. -/
  | spnStart (link : Fin 2) (n : Fin 16) (rpm : Fin 65536)
  /-- SPN_STOP (R302): Spindle command STOP brakes by winding short or regeneration to OFF. -/
  | spnStop (link : Fin 2) (n : Fin 16) (method : Fin 4)
  /-- SPN_COAST (R302): Spindle command COAST turns the bridge off and enters OFF. -/
  | spnCoast (link : Fin 2) (n : Fin 16)
  /-- SPN_SET_SPEED (R302): Spindle command SET_SPEED changes TARGET_RPM in RUN. -/
  | spnSetSpeed (link : Fin 2) (n : Fin 16) (rpm : Fin 65536)
  /-- SPINDLE_OC (R288): A shunt current beyond OC_LIM turns the bridge off and faults the controller. -/
  | spindleOc (n : Fin 16) (i : List Int)
  /-- SPINDLE_LISTEN_END (R297): After the 20 ms LISTEN the controller probes, ramps, enters RUN or shorts a
  backward motor. -/
  | spindleListenEnd (n : Fin 16) (amp : Nat) (rpm : Int) (angle : Nat) (ofs : OfsObs)
  /-- SPINDLE_PROBE_DONE (R294): The probe pulses end and yield the rotor angle, or a repeat on ambiguity. -/
  | spindleProbeDone (n : Fin 16) (peaks : List Nat)
  /-- SPINDLE_ALIGN_END (R293): After ALIGN_MS the open-loop ramp begins. -/
  | spindleAlignEnd (n : Fin 16)
  /-- SPINDLE_HANDOVER (R296): The observer agrees with the ramp for 64 periods and RUN begins. -/
  | spindleHandover (n : Fin 16)
  /-- SPINDLE_STALL (R296): No hand-over within 500 ms shorts the windings and repeats or fails the start. -/
  | spindleStall (n : Fin 16)
  /-- SPINDLE_SHORT_END (R298): A timed winding short ends and the controller goes OFF or restarts the start
  attempt. -/
  | spindleShortEnd (n : Fin 16) (ofs : OfsObs)
  /-- SPINDLE_REGEN_HANDOFF (R299): A regenerative stop reaching 600 rpm changes to winding short. -/
  | spindleRegenHandoff (n : Fin 16)
  /-- OBSERVER_LOST (R291): A lost observer turns the bridge off and starts a catch. -/
  | observerLost (n : Fin 16)
  /-- SPINDLE_TARGET_REACHED (R302): The commanded speed reaches TARGET_RPM and the command ends DONE. -/
  | spindleTargetReached (n : Fin 16)
  /-- VM_UNDERVOLTAGE (R304): VM below UV_LIM turns spindle and sled bridges off and holds spindles in LISTEN.
  -/
  | vmUndervoltage (vm : Nat)
  /-- VM_UV_RECOVER (R304): VM rising to UV_LIM + 0.5 V lets each deck resume its command in force. -/
  | vmUvRecover (vm : Nat)
  /-- BRK_ON (R304): VM reaching BRK_ON drives the brake chopper on. -/
  | brkOn (vm : Nat)
  /-- BRK_OFF (R304): VM falling to BRK_OFF turns the brake chopper off. -/
  | brkOff (vm : Nat)
  /-- BRAKE_FAULT (R306): A chopper fault latches BRAKE_FAULT, forces k to 0 and closes every gate. -/
  | brakeFault (vm sense : Nat)
  /-- VM_ABS (R307): VM at 63.0 V turns every bridge off, closes gates, kills lasers and faults every deck. -/
  | vmAbs (vm : Nat)
  /-- BRAKE_FAULT_CLEAR (R308): Writing 1 to VM_STS.BRAKE_FAULT drives BRK for a 20 us test. -/
  | brakeFaultClear (link : Fin 2)
  /-- BRAKE_TEST_END (R308): At the end of the 20 us chopper test the latch clears or stays with TEST_FAIL. -/
  | brakeTestEnd (sense : Nat)
  /-- VM_ABS_CLEAR (R308): Writing 1 to VM_STS.VM_ABS clears the latch if VM is below BRK_OFF. -/
  | vmAbsClear (link : Fin 2)
  /-- SLD_MOVE (R330): Sled command MOVE moves to a target in microsteps. -/
  | sldMove (link : Fin 2) (n : Fin 16) (rel : Bool)
  /-- SLD_VEL (R330): Sled command VEL runs at a signed velocity. -/
  | sldVel (link : Fin 2) (n : Fin 16)
  /-- SLD_STOP (R330): Sled command STOP brings any motion to rest. -/
  | sldStop (link : Fin 2) (n : Fin 16)
  /-- SLD_FOLLOW (R330): Sled command FOLLOW follows slot 3's output. -/
  | sldFollow (link : Fin 2) (n : Fin 16)
  /-- SLD_SET_POS (R330): Sled command SET_POS sets POS and POS_OK and clears HOME_REQ. -/
  | sldSetPos (link : Fin 2) (n : Fin 16)
  /-- SLD_DISABLE (R330): Sled command DISABLE turns both bridges off and clears POS_OK. -/
  | sldDisable (link : Fin 2) (n : Fin 16)
  /-- SLED_AT_REST (R335): The sled profile comes to rest, the command ends and the hold timer starts. -/
  | sledAtRest (n : Fin 16)
  /-- SLED_STANDSTILL (R335): After HOLD_DELAY at rest the sled current ramps down to HOLD_PCT. -/
  | sledStandstill (n : Fin 16)
  /-- SLED_BEMF_MEASURE (R336): At a coil current zero crossing in strong mode the back-EMF and load angle are
  measured. -/
  | sledBemfMeasure (n : Fin 16) (emf : Int)
  /-- REHOME_STEP (R340): Each re-home step proceeds once its measurement, revolution or seek has ended, until
  SET_POS. -/
  | rehomeStep (n : Fin 16) (p track : Option Nat)
  /-- REHOME_TIMEOUT (R340): A re-home not ended within HOME_TMO revolutions faults the deck. -/
  | rehomeTimeout (n : Fin 16)
  /-- LOAD (R357): Sequencer command LOAD spins the disc up through focus, tracking and calibration to READY.
  -/
  | load (link : Fin 2) (n : Fin 16) (layer : Fin 32) (low : Bool)
  /-- PARK (R363): Sequencer command PARK stops writing, defocuses, parks the sled and stops the spindle. -/
  | park (link : Fin 2) (n : Fin 16)
  /-- RECOVER (R366): Sequencer command RECOVER restarts a faulted deck toward READY. -/
  | recover (link : Fin 2) (n : Fin 16) (layer : Fin 32)
  /-- REL_SPN (R367): Writing CTL.REL_SPN releases the spindle to software or takes it back. -/
  | relSpn (link : Fin 2) (n : Fin 16) (v : Bool)
  /-- REL_SLD (R367): Writing CTL.REL_SLD releases the sled to software or takes it back. -/
  | relSld (link : Fin 2) (n : Fin 16) (v : Bool)
  /-- CLAMP_CLOSE (R355): CLAMP_N low for CLAMP_DB ms clears POS_OK and brings the laser link up. -/
  | clampClose (n : Fin 16)
  /-- CLAMP_OPEN (R355): CLAMP_N high for CLAMP_DB ms with the spindle OFF takes the deck to ABSENT. -/
  | clampOpen (n : Fin 16)
  /-- CLAMP_OPEN_SPINNING (R366): The clamp opening while the spindle turns kills lasers, shorts the spindle
  and faults the deck. -/
  | clampOpenSpinning (n : Fin 16)
  /-- FOCUS_SWEEP_START (R358): At FS_RPM the focus sweep begins. -/
  | focusSweepStart (n : Fin 16)
  /-- FOCUS_SWEEP_END (R358): A sweep ending without capture returns the lens and starts again or faults. -/
  | focusSweepEnd (n : Fin 16)
  /-- FOCUS_CAPTURE (R358): Slot 0 captures focus and the deck enters FOCUSED. -/
  | focusCapture (n : Fin 16) (peaks : List SumPeak) (travel : Int)
  /-- LAYER_IDENTIFIED (R359): Agreeing layer fields give layer and generation, and a layer jump follows if
  needed. -/
  | layerIdentified (n : Fin 16) (fields : List Nat)
  /-- TRACK_CAPTURE (R360): Slot 1 captures tracking and the deck enters TRACKING. -/
  | trackCapture (n : Fin 16) (x : Crossing)
  /-- SEQ_TIMEOUT (R355): A deck state timeout ends in FAULT with its cause. -/
  | seqTimeout (n : Fin 16)
  /-- IDLE_TIMER (R364): IDLE_S seconds without media access park a READY deck. -/
  | idleTimer (n : Fin 16)
  /-- SHOCK_WINDOW_END (R365): The SHOCK_WIN window after a shock crossing closes. -/
  | shockWindowEnd (n : Fin 16)
  /-- ZONE_CHANGE (R362): A swath step across a zone boundary changes speed, sector map and loop banks. -/
  | zoneChange (n : Fin 16) (swath : Nat)
  /-- SPIN_CHARGE_GRANT (R369): A waiting spin-up charge request is granted when the budget admits it. -/
  | spinChargeGrant (n : Fin 16)
  /-- COMMAND_FETCH (R416): A command is fetched when intake, contexts, locks and budget allow, and given its
  intake stamp. -/
  | commandFetch (cid sq : Nat) (hc : HostCmd)
  /-- COMMAND_UNHELD (R419): A held command leaves HELD once no earlier conflicting lock or hold remains. -/
  | commandUnheld (stamp : Nat)
  /-- WRITE_STAGED (R420): A write's data is staged and mapping reserved, releasing its lock and completing
  unless FUA. -/
  | writeStaged (stamp : Nat)
  /-- READ_DATA_OUT (R420): The last byte of a read's data leaves the buffer and its lock is released. -/
  | readDataOut (stamp : Nat)
  /-- COMMIT_TIMER (R422): COMMIT_MS after the oldest waiting record an index unit is written. -/
  | commitTimer (n : Fin 16)
  /-- INDEX_UNIT_WRITE (R422): A deck writes an index unit of mapping and commit records when needed. -/
  | indexUnitWrite (n : Fin 16) (swath slot pass : Nat)
  /-- INDEX_UNIT_VERIFIED (R421): A verified index unit makes writes described or committed and completes
  waiting flushes. -/
  | indexUnitVerified (n : Fin 16) (seq : Nat)
  /-- INVALID_OPCODE (R397): An unsupported opcode completes with Invalid Command Opcode. -/
  | invalidOpcode (stamp : Nat)
  /-- CREATE_IO_SUBMISSION_QUEUE (R397): Admin command that creates an I/O submission queue. -/
  | createIoSubmissionQueue (stamp : Nat) (qid size cq : Nat)
  /-- DELETE_IO_SUBMISSION_QUEUE (R397): Admin command that deletes an I/O submission queue. -/
  | deleteIoSubmissionQueue (stamp : Nat) (qid : Nat)
  /-- CREATE_IO_COMPLETION_QUEUE (R397): Admin command that creates an I/O completion queue. -/
  | createIoCompletionQueue (stamp : Nat) (qid size vec : Nat)
  /-- DELETE_IO_COMPLETION_QUEUE (R397): Admin command that deletes an I/O completion queue. -/
  | deleteIoCompletionQueue (stamp : Nat) (qid : Nat)
  /-- GET_LOG_PAGE (R399): Admin command that returns a supported log page. -/
  | getLogPage (stamp : Nat) (lid lsp lsi ofst len : Nat) (rae : Bool)
  /-- IDENTIFY (R403): Admin command that returns identify data. -/
  | identify (stamp : Nat) (cns nsid : Nat)
  /-- ABORT (R425): Admin command that aborts a command still in HELD. -/
  | abort (stamp : Nat) (target : Nat)
  /-- SET_FEATURES (R402): Admin command that sets a supported feature, including power state and timestamp. -/
  | setFeatures (stamp : Nat) (fid v : Nat)
  /-- GET_FEATURES (R402): Admin command that returns a feature value. -/
  | getFeatures (stamp : Nat) (fid : Nat)
  /-- ASYNCHRONOUS_EVENT_REQUEST (R673): Admin command that waits for an asynchronous event. -/
  | asynchronousEventRequest (stamp : Nat)
  /-- FIRMWARE_COMMIT (R427): Admin command that commits a firmware image and may activate it without reset. -/
  | firmwareCommit (stamp : Nat) (slot action : Nat)
  /-- FIRMWARE_IMAGE_DOWNLOAD (R657): Admin command that transfers firmware image pieces. -/
  | firmwareImageDownload (stamp : Nat) (ofst : Nat) (piece : List Byte)
  /-- KEEP_ALIVE (R402): Admin command that restarts the keep alive timer. -/
  | keepAlive (stamp : Nat)
  /-- NVME_MI_SEND (R393): Admin command that carries an NVMe-MI request in band. -/
  | nvmeMiSend (stamp : Nat) (op arg v : Nat)
  /-- NVME_MI_RECEIVE (R393): Admin command that returns an NVMe-MI response in band. -/
  | nvmeMiReceive (stamp : Nat) (op arg : Nat)
  /-- SANITIZE (R640): Admin Sanitize with Crypto Erase destroys every KEK and data key in use. -/
  | sanitize (stamp : Nat) (action : Fin 8)
  /-- SECURITY_SEND (R634): Admin command that carries SPDM or TLS security data to the controller. -/
  | securitySend (stamp : Nat) (proto : Fin 256) (r : SpdmReq)
  /-- SECURITY_RECEIVE (R634): Admin command that returns security protocol data. -/
  | securityReceive (stamp : Nat) (proto : Fin 256) (len : Nat)
  /-- DOORBELL_BUFFER_CONFIG (R397): Admin command that sets shadow doorbell buffers on a VF. -/
  | doorbellBufferConfig (stamp : Nat) (shadow eventidx : Nat)
  /-- FABRICS_CONNECT (R408): Fabrics command that creates a controller association after any TLS or
  authentication. -/
  | fabricsConnect (transport : Fin 3) (p sub : Fin 4) (nqn : List Byte) (discovery : Bool) (cid qid : Nat)
  (tls alert : Nat) (authed : Bool)
  /-- PROPERTY_GET (R397): Fabrics command that reads a controller property. -/
  | propertyGet (stamp : Nat) (off : Nat)
  /-- PROPERTY_SET (R397): Fabrics command that writes a controller property. -/
  | propertySet (stamp : Nat) (off v : Nat)
  /-- AUTHENTICATION_SEND (R388): Fabrics command that carries DH-HMAC-CHAP authentication data. -/
  | authenticationSend (stamp : Nat) (outcome : Nat)
  /-- AUTHENTICATION_RECEIVE (R388): Fabrics command that returns DH-HMAC-CHAP authentication data. -/
  | authenticationReceive (stamp : Nat)
  /-- FLUSH (R424): I/O command that completes when earlier writes to the namespace are committed. -/
  | flush (stamp : Nat)
  /-- WRITE (R13): I/O command that compresses, encrypts and stages data and completes once staged. -/
  | write (stamp : Nat) (data : List Byte)
  /-- READ (R419): I/O command that reads logical blocks from staged data or the medium. -/
  | read (stamp : Nat) (cid : Nat) (dram : List DramErr) (lost : List (Nat × Nat))
  /-- COMPARE (R419): I/O command that compares host data with stored logical blocks. -/
  | compare (stamp : Nat) (cid : Nat) (data : List Byte) (dram : List DramErr) (lost : List (Nat × Nat))
  /-- VERIFY (R419): I/O command that reads and checks logical blocks without transfer. -/
  | verify (stamp : Nat) (cid : Nat) (dram : List DramErr) (lost : List (Nat × Nat))
  /-- ZONE_MANAGEMENT_SEND (R405): Zoned command that opens, closes, finishes or refuses reset or offline of a
  zone. -/
  | zoneManagementSend (stamp : Nat) (action : Nat) (all : Bool)
  /-- ZONE_MANAGEMENT_RECEIVE (R405): Zoned command that reports zone state. -/
  | zoneManagementReceive (stamp : Nat) (state count : Nat)
  /-- ZONE_APPEND (R418): Zoned command that writes at a zone's write pointer under a whole-zone lock. -/
  | zoneAppend (stamp : Nat) (data : List Byte)
  /-- MOUNT (R434): Admin command that loads a deck, checks its primer and index and makes the disc a namespace
  member. -/
  | mount (stamp : Nat) (h : Word) (init : Bool) (o : DiscObs)
  /-- UNMOUNT (R437): Admin command that drains, commits, writes a ledger unit, snapshots and parks a member
  disc. -/
  | unmount (stamp : Nat) (h : Word) (force nopark : Bool)
  /-- SURVEY (R438): Admin command that reads a span of swaths to measure margin. -/
  | survey (stamp : Nat) (h : Word) (layer first last : Nat) (found : List (List SurveyBlk))
  /-- LEDGER_READ (R652): Admin command that returns ledger entries, checkpoints or public material. -/
  | ledgerRead (stamp : Nat) (what start numd : Nat)
  /-- MIGRATE (R441): I/O command that copies source ranges into the target namespace in atomic writes. -/
  | migrate (stamp : Nat) (cid : Nat) (recomp skipBad : Bool) (dram : List DramErr) (lost : List (Nat × Nat))
  /-- READ_AS_OF (R439): I/O command that reads a mapped namespace as of a TAI time. -/
  | readAsOf (stamp : Nat) (cid time : Nat) (dram : List DramErr) (lost : List (Nat × Nat))
  /-- COMPRESS_JOB (R473): I/O command that compresses a host buffer into a stream under a descriptor. -/
  | compressJob (stamp : Nat) (desc : List Byte) (o : JobObs)
  /-- DECOMPRESS_JOB (R474): I/O command that decompresses a stream into host buffers under a descriptor. -/
  | decompressJob (stamp : Nat) (desc : List Byte) (o : JobObs)
  /-- CMP_JOB_START (R459): A waiting job starts on a free engine of its method in stamp order. -/
  | cmpJobStart (stamp : Nat)
  /-- READ_NVME_MI_DATA_STRUCTURE (R393): MI command that returns an NVMe-MI data structure. -/
  | readNvmeMiDataStructure (pcie : Bool) (arg : Nat)
  /-- NVM_SUBSYSTEM_HEALTH_STATUS_POLL (R393): MI command that returns subsystem health status. -/
  | nvmSubsystemHealthStatusPoll (pcie : Bool)
  /-- CONTROLLER_HEALTH_STATUS_POLL (R393): MI command that returns controller health status. -/
  | controllerHealthStatusPoll (pcie : Bool) (arg : Nat)
  /-- CONFIGURATION_SET (R393): MI command that sets an MI configuration item. -/
  | configurationSet (pcie : Bool) (arg v : Nat)
  /-- CONFIGURATION_GET (R393): MI command that returns an MI configuration item. -/
  | configurationGet (pcie : Bool) (arg : Nat)
  /-- MI_RESET (R393): MI Reset command. -/
  | miReset (pcie : Bool)
  /-- REGISTER_READ (R393): Vendor MI command 0xC0 returns a register word of the window. -/
  | registerRead (pcie : Bool) (dw : Word)
  /-- REGISTER_WRITE (R393): Vendor MI command 0xC1 writes a register word of the window. -/
  | registerWrite (pcie : Bool) (dw v : Word) (o : BusObs)
  /-- SPDM_MESSAGE (R634): A standard SPDM request is answered by the responder. -/
  | spdmMessage (transport : Fin 5) (owner : Nat) (r : SpdmReq)
  /-- SPDM_HEARTBEAT_TIMEOUT (R634): An SPDM session missing its heartbeat ends, with its roles. -/
  | spdmHeartbeatTimeout (sid : Nat)
  /-- TAKE_OWNERSHIP (R628): SPDM vendor request that makes the requester Custodian entry 0 of an unowned
  module. -/
  | takeOwnership (sid : Nat)
  /-- CUST_SET (R635): SPDM vendor request that sets or clears a Custodian store entry. -/
  | custSet (sid : Nat) (entry : Fin 4) (digest : Option (List Byte))
  /-- KEK_SET (R635): SPDM vendor request that delivers the KEK of a key group. -/
  | kekSet (sid : Nat) (kid : Word) (kek : List Byte)
  /-- KEK_DESTROY (R640): SPDM vendor request that zeroizes a KID's keys and marks it erased. -/
  | kekDestroy (sid : Nat) (kid : Word)
  /-- PSK_SET (R635): SPDM vendor request that sets or clears a TLS PSK. -/
  | pskSet (sid : Nat) (nqn ident : List Byte) (psk : Option (List Byte))
  /-- SLOT_SET (R632): SPDM vendor request that installs or revokes an owner key slot. -/
  | slotSet (sid : Nat) (alg : Fin 2) (slot : Fin 8) (key : Option (List Byte))
  /-- SVN_RAISE (R633): SPDM vendor request that raises a rollback minimum in fuses. -/
  | svnRaise (sid : Nat) (kind : Fin 2) (v : Nat)
  /-- ZEROIZE (R642): SPDM vendor request that destroys keys and erases the owner store. -/
  | zeroize (sid : Nat)
  /-- KAT_RUN (R641): SPDM vendor request that runs the known-answer tests. -/
  | katRun (sid : Nat) (fail : Option (Fin 8))
  /-- ZERO_KEY_WRITE (R656): Writing 0x5A to SEC.ZERO.KEY zeroizes as ZEROIZE does. -/
  | zeroKeyWrite (link : Fin 2) (v : Byte)
  /-- TAMPER (R643): TAMPER_N opening destroys volatile keys, ends sessions and erases PSKs. -/
  | tamper (b : BootObs)
  /-- TAMPER_CLEAR (R643): Writing 1 to SEC.STS.TAMPER clears the latch if the loop is closed. -/
  | tamperClear (link : Fin 2) (closed : Bool)
  /-- LEDGER_FLUSH (R647): Buffered ledger entries are written to flash within 100 ms. -/
  | ledgerFlush (ok : Bool)
  /-- CONTROLLER_RESET (R426): A controller reset discards or completes its commands by phase. -/
  | controllerReset (cid : Nat)
  /-- NVM_SUBSYSTEM_RESET (R426): An NVM subsystem reset acts as a controller reset on every controller. -/
  | nvmSubsystemReset
  /-- KEEP_ALIVE_EXPIRY (R408): Keep Alive timer expiry ends the association as a controller reset. -/
  | keepAliveExpiry (cid : Nat)
  /-- PCIE_LINK_DOWN (R408): A PCIe link going down resets each controller on it. -/
  | pcieLinkDown (link : Fin 2)
  /-- PERST_RELEASE (R660): PERST_N release starts PCIe link training. -/
  | perstRelease (links : Fin 4)
  /-- ETH_LINK_CHANGE (R387): An Ethernet sub-port gains or loses link. -/
  | ethLinkChange (p sub : Fin 4) (up : Bool)
  /-- PTP_MESSAGE (R391): A received PTP message disciplines the tick and may set TAI_BASE. -/
  | ptpMessage (st : Fin 4) (ofs : Int) (utc tai : Nat)
  /-- PTP_TIMEOUT (R408): Loss of PTP puts it in HOLDOVER with the tick at its last rate. -/
  | ptpTimeout
  /-- CMB_ACCESS (R504): A host access to the CMB reads or writes DRAM, with partial writes merged or refused.
  -/
  | cmbAccess (wr : Bool) (off len : Nat) (data : List Byte) (dram : List DramErr)
  /-- FW_DRAIN_END (R427): Media work drains to a swath boundary and cores halt for the new firmware. -/
  | fwDrainEnd
  /-- FW_DRAIN_TIMEOUT (R428): A drain not ended by 150 ms abandons the activation. -/
  | fwDrainTimeout
  /-- FW_NEW_READY (R427): The new firmware takes over and intake resumes. -/
  | fwNewReady
  /-- FW_READY_TIMEOUT (R428): New firmware not ready by 450 ms restarts the old image. -/
  | fwReadyTimeout
  /-- TRAIN (R492): Writing MEM.CTL.TRAIN runs DRAM training. -/
  | train (link : Fin 2)
  /-- DRAM_TRAIN_DONE (R492): DRAM training ends and results go to TRN_RES and CH_TRAINED. -/
  | dramTrainDone (o : TrainObs)
  /-- MEM_START (R518): Writing MEM.CTL.START checks the DIMMs and map and enters RUN or sets START_ERR. -/
  | memStart (link : Fin 2)
  /-- RECENTER (R518): Writing MEM.CTL.RECENTER re-centres every channel. -/
  | recenter (link : Fin 2) (centres : List CentreObs)
  /-- RECENTER_TIMER (R493): RECENTER_MS elapsing or a DIMM temperature move re-centres a channel. -/
  | recenterTimer (ch : Fin 8) (o : CentreObs)
  /-- REFRESH_DUE (R495): A rank's refresh falls due and is issued or postponed. -/
  | refreshDue (ch : Fin 8) (rank : Fin 4) (prot : Bool)
  /-- MAKEUP_REFRESH (R495): When the channel is free of protected streams owed refreshes are issued in a
  burst. -/
  | makeupRefresh (ch : Fin 8)
  /-- CA_PARITY_ALERT (R498): ALERT on a channel replays buffered commands. -/
  | caParityAlert (ch : Fin 8) (done : Nat)
  /-- RINSE_STEP (R510): The rinse reads the next ECC words, correcting or poisoning them. -/
  | rinseStep (dram : List DramErr)
  /-- RETIRE_PAGE (R511): RET_CTL command retires a page after copying its content. -/
  | retirePage (link : Fin 2) (page : Nat)
  /-- RETIREMENT_COPY_DONE (R511): A retirement copy ends and users are redirected. -/
  | retirementCopyDone (dst : Nat)
  /-- DEV_MARK_WRITE (R507): A DEV_MARK write marks or unmarks a device in a rank. -/
  | devMarkWrite (link : Fin 2) (ch : Fin 8) (v : Word)
  /-- FILL_START (R509): Writing FILL_CTL.START starts the fill engine. -/
  | fillStart (link : Fin 2)
  /-- FILL_DONE (R509): The fill engine ends its range DONE, ERR or ABORTED. -/
  | fillDone
  /-- CH_STS_CLR (R532): Writing CH_STS.CLR clears a channel's error counts. -/
  | chStsClr (link : Fin 2) (ch : Fin 8)
  /-- CLEAN (R543): Mapping-cache operation CLEAN writes back dirty sectors in scope. -/
  | clean (link : Fin 2) (scope : Fin 4) (way : Fin 16)
  /-- INVAL (R543): Mapping-cache operation INVAL drops lines in scope. -/
  | inval (link : Fin 2) (scope : Fin 4) (way : Fin 16)
  /-- CLEAN_INVAL (R543): Mapping-cache operation CLEAN_INVAL writes back then drops lines in scope. -/
  | cleanInval (link : Fin 2) (scope : Fin 4) (way : Fin 16)
  /-- MAINT_DONE (R543): A maintenance operation completes once its write-backs are accepted. -/
  | maintDone
  /-- MC_FILL_DONE (R537): A mapping-cache fill returns and serves its waiting requests. -/
  | mcFillDone (evs : List McEv) (line : Nat) (half : Fin 2) (dram : List DramErr)
  /-- MC_SCRUB_STEP (R546): The background walk checks the next cache words. -/
  | mcScrubStep (errs : List McErr)
  /-- MC_STS_CLR (R554): Writing MC.STS.CLR clears CE and UE. -/
  | mcStsClr (link : Fin 2)
  /-- IDLE_ENTRY (R560): After IDLE_US of quiet the device enters IDLE. -/
  | idleEntry
  /-- IDLE_EXIT (R560): Any activity ends IDLE within 2 us. -/
  | idleExit
  /-- SLEEP_ENTRY (R561): After draining media work the device enters SLEEP. -/
  | sleepEntry
  /-- SLEEP_EXIT (R562): A wake event returns the device from SLEEP to RUN. -/
  | sleepExit (w : WakeCause) (bad : Bool) (l : List CentreObs)
  /-- DEEP_ENTRY (R563): A request for PS4 starts DEEP entry. -/
  | deepEntry
  /-- DEEP_ENTRY_STEP (R563): Each DEEP entry step proceeds once the previous has finished. -/
  | deepEntryStep
  /-- DEEP_EXIT (R564): A wake event restores domains and banks and returns to RUN. -/
  | deepExit (w : WakeCause) (banks : Nat) (l : List CentreObs) (o : TrainObs)
  /-- REQ_OFF (R566): Writing STATE_CTL.REQ_OFF requests the OFF state. -/
  | reqOff (link : Fin 2)
  /-- WAKE_N (R567): WAKE_N low for 1 ms wakes the device or boots it from OFF. -/
  | wakeN (b : BootObs)
  /-- DVFS_WRITE (R573): A DVFS_CTL write requests an operating point change or is refused. -/
  | dvfsWrite (link : Fin 2) (j : Fin 7) (v : Word)
  /-- DVFS_CHANGE_DONE (R573): A frequency or voltage change completes. -/
  | dvfsChangeDone (j : Fin 7)
  /-- PAD_REL (R570): Writing PAD_REL releases a domain's pad latch. -/
  | padRel (link : Fin 2) (v : BitVec 17)
  /-- THERM_CLR (R590): Writing THERM.CLR sets TJ_MAX to TJ. -/
  | thermClr (link : Fin 2) (i : Fin 5)
  /-- GOVERNOR_PERIOD (R574): Every 5 ms the governor compares input power with its cap and steps the ladder.
  -/
  | governorPeriod (pin vin : Nat) (tj : List Int)
  /-- THERMAL_THROTTLE (R576): A die reaching 105 C sets THROTTLE and steps the governor. -/
  | thermalThrottle (i : Fin 5) (tj : Int)
  /-- THERMAL_SHUTDOWN (R577): A die reaching 120 C latches THERM_SHUT and powers down. -/
  | thermalShutdown (i : Fin 5) (tj : Int)
  /-- THERMAL_RESTART (R577): Once every die is below 95 C the module boots again. -/
  | thermalRestart (tj : List Int) (b : BootObs)
  /-- VIN_BROWNOUT (R556): VIN falling through 8.2 V enters module reset. -/
  | vinBrownout (vin : Nat)
  /-- VIN_OVERVOLTAGE (R556): VIN rising through 64.0 V stops the converter and resets the module. -/
  | vinOvervoltage (vin : Nat)
  /-- POWER_ON_RESET (R658): VIN rising through 8.6 V starts the cold boot sequence. -/
  | powerOnReset (b : BootObs)
  /-- BOOT_READY (R658): When self-test and DRAM fill have both ended the plait takes effect and controllers
  become ready. -/
  | bootReady (fails : List (Nat × Nat))
  /-- TEST_PASS_DUE (R594): A block's test or calibration pass falls due and is scheduled. -/
  | testPassDue (u : Fin 16384) (cal : Bool)
  /-- SLICE_END (R593): A test slice ends and its signature is compared, repeating or retiring on mismatch. -/
  | sliceEnd (u : Fin 16384) (sig : BitVec 64) (o : CalObs) (voids : Nat)
  /-- SHADOW_COMPARE_DONE (R596): A lane shadow compare is decided pass, fail or inconclusive. -/
  | shadowCompareDone (u : Fin 16384) (dis cnt revs voids : Nat)
  /-- LOCKSTEP_DONE (R600): A loop engine lockstep phase of 1,024 samples ends matched or mismatched. -/
  | lockstepDone (n : Fin 16) (bad voids : Nat)
  /-- TST_TEST (R614): TST.CMD operation TEST queues a test visit for a unit. -/
  | tstTest (link : Fin 2) (u : Fin 16384)
  /-- TST_CAL (R614): TST.CMD operation CAL queues a calibration visit for a lane. -/
  | tstCal (link : Fin 2) (u : Fin 16384)
  /-- BURN (R607): Writing FROW_CTL.BURN burns a RETIRE field fuse row. -/
  | burn (link : Fin 2) (index : Fin 16384) (reason : Fin 256) (voids : Nat)
  /-- ACK_SEQ_WRITE (R678): Writing FLT.ACK_SEQ acknowledges fault records up to a SEQ. -/
  | ackSeqWrite (link : Fin 2) (v : Word)
  /-- RECORDS_LOST_INTERVAL (R670): At the end of a 100 ms loss interval one RECORDS_LOST record is made. -/
  | recordsLostInterval
  /-- SLED_PROFILE_PERIOD (R329): Once per period of Q_PWM_KHZ the sled profile advances POS, changes chopper
  mode at a full step and brakes at a travel limit. -/
  | sledProfilePeriod (n : Fin 16) (peak : Option Nat)
  /-- PWM_PERIOD (R300): Every spindle PWM period the regeneration factor k is computed, the current loops run,
  and winding-short off intervals end. -/
  | pwmPeriod (n : Fin 16) (vm : Nat) (id iq rpm : Int) (shunt : ShuntObs)
  /-- APST_TRANSITION (R559): With APST_EN = 1 an idle controller moves itself to a lower power state under the
  APST feature. -/
  | apstTransition (cid : Nat) (ps : Fin 5)
  /-- ENTROPY_HEALTH_FAIL (R641): A continuous SP 800-90B health test of the entropy source fails and SEC
  enters ERROR. -/
  | entropyHealthFail
  /-- VM_WINDOW_CROSSING (R211): VM crossing VM_LO or VM_HI closes or clears the write gate of a deck. -/
  | vmWindowCrossing (n : Fin 16) (vm : Nat)
  /-- SHOCK_CLEAR (R212): SHK returns within SHK_LIM, clearing the gate condition so that the SETTLE count
  toward reopening begins. -/
  | shockClear (n : Fin 16) (level : Nat)
  /-- VIN_OVERVOLTAGE_CLEAR (R556): After an overvoltage stop, VIN falling below 60.5 V restarts the module
  with a full boot. -/
  | vinOvervoltageClear (vin : Nat) (b : BootObs)
  /-- CONTROLLER_ENABLE (R660): A host setting CC.EN to 1 makes the controller ready, with CSTS.RDY set only
  once the boot has reached READY. -/
  | controllerEnable (link : Fin 2) (fn : Nat)
  /-- FABRIC_CONNECTION_LOSS (R426): A TCP or RDMA connection of a fabric association closes or fails, ending
  the association and acting on its commands. -/
  | fabricConnectionLoss (cid : Nat)
  /-- SHEAF_FORWARD (R29): A forwarded command, result or fault record arrives from the sheaf root or a member
  over seam links or Ethernet. -/
  | sheafForward (m : SheafMsg)
  /-- CMP_JOB_END (R478): A compression or decompression job ends on its engine with OK, a limit, a chain
  exhaustion, a CRC or a format result, and completes. -/
  | cmpJobEnd (stamp : Nat) (reach : Bool) (dram : List DramErr)
  /-- V12_RAIL_CHANGE (R285): The 12 V actuator rail leaves or returns to 11.0 V to 13.0 V, so that V12_OK
  falls or rises and the coil bridges stop or may drive. -/
  | v12RailChange (n : Fin 16) (tenths : Nat)
  /-- BOUNDARY_SCAN_INSTRUCTION (R696): A JTAG instruction such as EXTEST, CLAMP or HIGHZ is loaded, and the
  motor lands drive only while VM is below UV_LIM. -/
  | boundaryScanInstruction (i : Fin 8)
  deriving DecidableEq, Repr

end Sys2Proof
end

