-- ==== Sys2Proof/Decode.lean ====
section
/-! DEFINITION. Decode.lean: the command a word of the opcode table spells. -/

namespace Sys2Proof

/-- No row of spec/opcode_table.json gives bits, so no word spells a command. DESIGN CHOICE, log 2. -/
def decodeTableWord (_nbits _w : Nat) : Option Instr := none

end Sys2Proof
end

