-- ==== Sys2Proof/Machine/Map.lean ====
section
/-! DEFINITION. Machine/Map.lean: sparse tables with a default, kept as key and value pairs in rising key order; the
bit-field, byte-order and saturation helpers the other files share. -/

namespace Sys2Proof.Machine

/-- A sparse table: key and value pairs. A key that is not listed has the table's default. -/
abbrev FMap (α : Type) := List (Nat × α)

/-- The value under a key: the first entry, else the default. -/
def FMap.get {α : Type} (dflt : Nat → α) : FMap α → Nat → α
  | [], k => dflt k
  | (k', v) :: t, k => if k' = k then v else FMap.get dflt t k

/-- Insert or replace one entry, keeping the keys rising. -/
def FMap.ins {α : Type} : FMap α → Nat → α → FMap α
  | [], k, v => [(k, v)]
  | (k', v') :: t, k, v =>
    if k < k' then (k, v) :: (k', v') :: t
    else if k = k' then (k, v) :: t
    else (k', v') :: FMap.ins t k v

/-- Drop every entry under a key. -/
def FMap.del {α : Type} (m : FMap α) (k : Nat) : FMap α := m.filter (fun e => decide (e.1 ≠ k))

/-- Give a key a value; the default value is held by listing nothing. -/
def FMap.set {α : Type} [DecidableEq α] (dflt : Nat → α) (m : FMap α) (k : Nat) (v : α) : FMap α :=
  if v = dflt k then m.del k else m.ins k v

/-- Keys strictly rise and no listed value is the default: equal tables are equal lists. -/
def FMap.canon {α : Type} [DecidableEq α] (dflt : Nat → α) : FMap α → Bool
  | [] => true
  | (k, v) :: t => decide (v ≠ dflt k) && t.all (fun e => decide (k < e.1)) && FMap.canon dflt t

/-- Bits lo to lo + w - 1 of a number. -/
def bits (v lo w : Nat) : Nat := v / 2 ^ lo % 2 ^ w

/-- One bit of a number. -/
def bit (v i : Nat) : Bool := v / 2 ^ i % 2 == 1

/-- A number with one bit made 1. -/
def setBit (v i : Nat) : Nat := if bit v i then v else v + 2 ^ i

/-- A number with one bit made 0. -/
def clrBit (v i : Nat) : Nat := if bit v i then v - 2 ^ i else v

/-- 1 for true, 0 for false. -/
def ofB (b : Bool) : Nat := if b then 1 else 0

/-- A w-bit pattern read as a two's complement number. -/
def sx (w v : Nat) : Int := if v % 2 ^ w < 2 ^ (w - 1) then ((v % 2 ^ w : Nat) : Int) else ((v % 2 ^ w : Nat) : Int) - 2 ^ w

/-- A number as a w-bit two's complement pattern. -/
def ux (w : Nat) (i : Int) : Nat := (i % 2 ^ w).toNat

/-- A number held within two limits. -/
def clampI (lo hi v : Int) : Int := if v < lo then lo else if hi < v then hi else v

/-- A signed number saturated to w bits, as a pattern. -/
def satPat (w : Nat) (i : Int) : Nat := ux w (clampI (-(2 ^ (w - 1))) (2 ^ (w - 1) - 1) i)

/-- Add to a count that stays at its greatest w-bit value once there. -/
def satAdd (w v k : Nat) : Nat := min (v + k) (2 ^ w - 1)

/-- Bytes of a number, least significant first. -/
def le : Nat → Nat → List Byte
  | 0, _ => []
  | k + 1, v => BitVec.ofNat 8 v :: le k (v / 256)

/-- The number a little-endian byte list spells. -/
def ofLe : List Byte → Nat
  | [] => 0
  | b :: t => b.toNat + 256 * ofLe t

/-- Bytes of a number, most significant first. -/
def be (k v : Nat) : List Byte := (le k v).reverse

/-- The number a big-endian byte list spells. -/
def ofBe (l : List Byte) : Nat := ofLe l.reverse

/-- Bytes from an offset, a given count, zeros past the end. -/
def slice (l : List Byte) (off len : Nat) : List Byte :=
  let t := (l.drop off).take len
  t ++ List.replicate (len - t.length) 0

/-- Replace one element of a list. -/
def setAt {α : Type} : List α → Nat → α → List α
  | [], _, _ => []
  | _ :: t, 0, v => v :: t
  | h :: t, i + 1, v => h :: setAt t i v

/-- Change the elements that meet a test. -/
def mapIf {α : Type} (p : α → Bool) (f : α → α) (l : List α) : List α := l.map (fun a => if p a then f a else a)

/-- Insertion into a list in rising order of a test, after the elements it does not come strictly before. -/
def insertBy {α : Type} (before : α → α → Bool) (a : α) : List α → List α
  | [] => [a]
  | b :: t => if before b a then b :: insertBy before a t else a :: b :: t

/-- A list put in order; elements the test ranks alike keep their order. -/
def sortBy {α : Type} (before : α → α → Bool) (l : List α) : List α := l.reverse.foldl (fun acc a => insertBy (fun x y => before x y && !before y x) a acc) []

/-- Division rounded up. -/
def cdiv (a b : Nat) : Nat := (a + b - 1) / b

end Sys2Proof.Machine
end

