-- ==== Sys2Proof/Machine/Zones.lean ====
section
/-! DEFINITION. Machine/Zones.lean: the zone table of the Caersehel CG2 disc (R84). -/

namespace Sys2Proof.Machine

/-- One zone of R84: number (0 for zone B, z + 1 for zone z), first and last swath, wedge period P, slots S, read and
write speed in rpm. -/
structure Zone where
  num : Nat
  first : Nat
  last : Nat
  p : Nat
  s : Nat
  readRpm : Nat
  writeRpm : Nat
  deriving DecidableEq, Repr

/-- The table of R84. -/
def zones : List Zone := [
  ⟨0, 8, 31, 4680, 118, 15000, 9000⟩,
  ⟨1, 32, 113, 4881, 123, 15000, 9000⟩,
  ⟨2, 114, 195, 5082, 129, 15000, 9000⟩,
  ⟨3, 196, 277, 5284, 134, 15000, 9000⟩,
  ⟨4, 278, 359, 5485, 139, 15000, 9000⟩,
  ⟨5, 360, 441, 5686, 145, 15000, 9000⟩,
  ⟨6, 442, 523, 5888, 150, 15000, 9000⟩,
  ⟨7, 524, 605, 6089, 155, 15000, 9000⟩,
  ⟨8, 606, 687, 6290, 161, 15000, 9000⟩,
  ⟨9, 688, 769, 6491, 166, 15000, 9000⟩,
  ⟨10, 770, 851, 6693, 172, 15000, 9000⟩,
  ⟨11, 852, 933, 6894, 177, 15000, 9000⟩,
  ⟨12, 934, 1015, 7095, 182, 15000, 9000⟩,
  ⟨13, 1016, 1097, 7296, 188, 15000, 9000⟩,
  ⟨14, 1098, 1179, 7498, 193, 15000, 9000⟩,
  ⟨15, 1180, 1261, 7699, 198, 15000, 9000⟩,
  ⟨16, 1262, 1343, 7900, 204, 14833, 9000⟩,
  ⟨17, 1344, 1425, 8101, 209, 14465, 9000⟩,
  ⟨18, 1426, 1507, 8303, 215, 14113, 8821⟩,
  ⟨19, 1508, 1589, 8504, 220, 13780, 8612⟩,
  ⟨20, 1590, 1671, 8705, 225, 13462, 8413⟩,
  ⟨21, 1672, 1753, 8906, 231, 13158, 8223⟩,
  ⟨22, 1754, 1835, 9108, 236, 12866, 8041⟩,
  ⟨23, 1836, 1917, 9309, 241, 12588, 7867⟩,
  ⟨24, 1918, 1999, 9510, 247, 12322, 7701⟩,
  ⟨25, 2000, 2081, 9711, 252, 12067, 7542⟩,
  ⟨26, 2082, 2163, 9913, 257, 11821, 7388⟩,
  ⟨27, 2164, 2245, 10114, 263, 11586, 7241⟩,
  ⟨28, 2246, 2327, 10315, 268, 11360, 7100⟩,
  ⟨29, 2328, 2409, 10516, 274, 11143, 6964⟩,
  ⟨30, 2410, 2491, 10718, 279, 10933, 6833⟩,
  ⟨31, 2492, 2573, 10919, 284, 10732, 6707⟩,
  ⟨32, 2574, 2655, 11120, 290, 10538, 6586⟩]

/-- The zone of a swath (R84). -/
def zoneOf (swath : Nat) : Option Zone := zones.find? (fun z => decide (z.first ≤ swath) && decide (swath ≤ z.last))

/-- The zone a measured wedge period lies nearest to; the lower zone on a tie (R340). -/
def zoneNearest (p : Nat) : Option Zone :=
  zones.foldl (fun best z => match best with
    | none => some z
    | some b => if (Int.natAbs ((z.p : Int) - p)) < (Int.natAbs ((b.p : Int) - p)) then some z else some b) none

end Sys2Proof.Machine
end

