-- ==== Sys2Proof/Machine/Format.lean ====
section
/-! DEFINITION. Machine/Format.lean: the Caersehel CG2 disc format (spec file 04): bands and wedge fields, sector layout,
headers, scrambling, the LDPC, modulation, cross-beam and unit codes, the primer, index and ledger records. -/

namespace Sys2Proof.Machine

/-! ### The disc (R82, R83, R84, R97) -/

/-- Parts of the radial layout (R82). -/
inductive Band where
  | primer | blank | index | ledger | data | calibration | outside
  deriving DecidableEq, Repr

/-- The band of a swath on a layer (R82). -/
def bandOf (layer swath : Nat) : Band :=
  if swath ≤ 7 then (if layer = 0 then .primer else .blank)
  else if swath ≤ 27 then .index
  else if swath ≤ 31 then .ledger
  else if swath ≤ 2653 then .data
  else if swath ≤ 2655 then .calibration
  else .outside

/-- Data bits of a wedge period (R84). -/
def Zone.d (z : Zone) : Nat := z.p - 240

/-- PBA of a swath block (R97). -/
def pbaOf (layer swath slot : Nat) : Nat := layer * 2 ^ 27 + swath * 2 ^ 15 + slot

/-! ### Wedge fields (R86) -/

/-- Gray code of a wedge number. -/
def gray (w : Nat) : Nat := w ^^^ (w / 2)

/-- The number a ten-bit Gray code stands for. -/
def ungray (g : Nat) : Nat :=
  (List.range 10).foldl (fun w i => if (List.range (10 - i)).foldl (fun p j => xor p (bit g (i + j))) false then setBit w i else w) 0

/-- Parity of some bits of a number. -/
def parity (v : Nat) : Nat → Bool
  | 0 => false
  | k + 1 => xor (bit v k) (parity v k)

/-- The index field of wedge w: G, PH, PL (R85, R86). -/
def indexField (w : Nat) : Nat :=
  let g := gray w
  g * 4 + ofB (parity (g / 32) 5) * 2 + ofB (parity (g % 32) 5)

/-- The wedge number an index field gives, when both parities hold (R86). -/
def indexOf (f : Nat) : Option Nat :=
  let g := f / 4 % 1024
  if parity (g / 32) 5 = bit f 1 ∧ parity (g % 32) 5 = bit f 0 then some (ungray g) else none

/-- The layer field: GEN, L, complement of L (R85, R86). -/
def layerField (gen l : Nat) : Nat := gen % 4 * 1024 + l % 32 * 32 + (31 - l % 32)

/-- GEN and L of a layer field whose copies agree. -/
def layerOf (f : Nat) : Option (Nat × Nat) :=
  if f / 32 % 32 + f % 32 = 31 then some (f / 1024 % 4, f / 32 % 32) else none

/-- Biphase recording of data bits, most significant first (R86). -/
def biphase (l : List Bool) : List Bool := l.flatMap (fun b => [b, !b])

/-- A number of bits, most significant first. -/
def msb (w v : Nat) : List Bool := (List.range w).map (fun i => bit v (w - 1 - i))

/-- The clock mark: three spaces, eighteen marks, three spaces (R85). -/
def clockMarkBits : List Bool := List.replicate 3 false ++ List.replicate 18 true ++ List.replicate 3 false

/-- A burst: 0b1100 four times (R85). -/
def burstBits : List Bool := (List.range 16).map (fun i => decide (i % 4 < 2))

/-- The embossed bits of a wedge field, 0 to 167: preamble, clock mark, bursts A to D, layer field, index field (R85, R86). -/
def wedgeBits (gen l w : Nat) : List Bool :=
  (List.range 4).flatMap (fun _ => msb 8 0xF0) ++ clockMarkBits ++ (List.range 4).flatMap (fun _ => burstBits) ++
    biphase (msb 12 (layerField gen l)) ++ biphase (msb 12 (indexField w))

/-- What bit i of a wedge field holds: none in the splice space, bits 168 to 239 (R85). -/
def wedgeBit (gen l w i : Nat) : Option Bool := (wedgeBits gen l w)[i]?

/-- How far bit i of a wedge field lies outward of the track centre, in nm: the four bursts (R85). -/
def wedgeShift (i : Nat) : Int :=
  if i < 56 then 0 else if i < 72 then 50 else if i < 88 then -50 else if i < 104 then 100 else if i < 120 then -100 else 0

/-- The bit of a wedge field whose start is the angle of the wedge, the centre of its clock mark (R87). -/
def markBit : Nat := 44

/-! ### Positions on a track (R87, R88) -/

/-- Channel-bit position of a data-stream offset (R87). -/
def Zone.xOf (z : Zone) (q : Nat) : Nat := q / z.d * z.p + 196 + q % z.d

/-- Grain of a channel-bit position (R87). -/
def Zone.grainOf (z : Zone) (x : Nat) : Nat := x * 16384 / z.p

/-- Channel bits of a slot (R88). -/
def slotBits : Nat := 38400

/-- Grain at which sector slot k starts (R87, R88). -/
def Zone.sectorGrain (z : Zone) (k : Nat) : Nat := z.grainOf (z.xOf (slotBits * k))

/-- Grain at which the sector of slot k ends: the bit after its 38,336. -/
def Zone.sectorEnd (z : Zone) (k : Nat) : Nat := z.grainOf (z.xOf (slotBits * k + 38336))

/-- Data-stream offset of a channel-bit position inside a data gap; none within a wedge field. -/
def Zone.qOf (z : Zone) (x : Nat) : Option Nat :=
  let y := (x + 44) % z.p
  if y < 240 then none else some ((x + 44) / z.p * z.d + (y - 240))

/-! ### Bits and bytes -/

/-- The number bits spell, most significant first. -/
def ofMsb (l : List Bool) : Nat := l.foldl (fun a b => 2 * a + ofB b) 0

/-- Bits of bytes, each most significant bit first (R93). -/
def bitsOf (l : List Byte) : List Bool := l.flatMap (fun b => msb 8 b.toNat)

/-- Bytes of bits. -/
def bytesOf : Nat → List Bool → List Byte
  | 0, _ => []
  | k + 1, l => BitVec.ofNat 8 (ofMsb (l.take 8)) :: bytesOf k (l.drop 8)

/-! ### Checks -/

/-- One step of a most-significant-first CRC. -/
def crcStep (w poly : Nat) (r : Nat) (b : Bool) : Nat :=
  let top := xor (bit r (w - 1)) b
  let s := r * 2 % 2 ^ w
  if top then s ^^^ poly else s

/-- CRC-16 of the address header (R92). -/
def crc16 (l : List Byte) : Nat := (bitsOf l).foldl (crcStep 16 0x1021) 0xFFFF

/-- One byte of a reflected CRC. -/
def crcRefl (poly : Nat) (r : Nat) (b : Byte) : Nat :=
  (List.range 8).foldl (fun r _ => if r % 2 = 1 then (r / 2) ^^^ poly else r / 2) (r ^^^ b.toNat)

/-- CRC-32 of IEEE 802.3 (R207). -/
def crc32 (l : List Byte) : Nat := l.foldl (crcRefl 0xEDB88320) 0xFFFFFFFF ^^^ 0xFFFFFFFF

/-- The NVMe 64-bit guard (R104): polynomial 0xAD93D23594C93659, reflected, inverted in and out. -/
def crc64 (l : List Byte) : Nat := l.foldl (crcRefl 0x9A6C9329AC4BC9B5) (2 ^ 64 - 1) ^^^ (2 ^ 64 - 1)

/-! ### The address header (R92) -/

/-- Kinds of sector (R92). -/
def kDATA : Nat := 1
def kPARITY : Nat := 2
def kFILL : Nat := 3
def kINDEX : Nat := 4
def kIDXPAR : Nat := 5
def kLEDGER : Nat := 6
def kLEDPAR : Nat := 7
def kCAL : Nat := 8

/-- Word A. -/
def headerA (layer swath track slot : Nat) : Nat := layer * 2 ^ 27 + swath * 2 ^ 15 + track * 2 ^ 9 + slot

/-- The bytes the header's CRC covers. -/
def headerBytes (a h : Nat) : List Byte := be 4 a ++ be 2 (h / 2 ^ 16)

/-- Word H. -/
def headerH (a kind : Nat) : Nat :=
  let h := kind * 2 ^ 28 + 1 * 2 ^ 24
  h + crc16 (headerBytes a h)

/-- Whether a KIND says that a sector holds something: the others are reserved, and a reader treats such a sector as holding no
data (R92). -/
def kindKnown (kind : Nat) : Bool := decide (1 ≤ kind) && decide (kind ≤ 8)

/-- Whether a header is valid in a zone of S slots (R92). -/
def headerOk (a h : Nat) : Bool :=
  let swath := bits a 15 12
  let s := match zoneOf swath with
    | some z => z.s
    | none => 0
  bits h 0 16 == crc16 (headerBytes a h) && decide (swath ≤ 2655) && decide (bits a 0 9 < s)

/-! ### Scrambling, LDPC, modulation (R93 to R96) -/

/-- Seed of the scrambler (R94). -/
def scramSeed (a : Nat) : Nat :=
  let x := a ^^^ 0x55555555
  (x % 2 ^ 31 + x / 2 ^ 31) % (2 ^ 31 - 1) + 1

/-- The additive scrambler from a register value (R94). -/
def scramble : Nat → List Bool → List Bool
  | _, [] => []
  | r, i :: t =>
    let b := xor (bit r 30) (bit r 27)
    xor i b :: scramble (r * 2 % 2 ^ 31 + ofB b) t

/-- Shift of circulant (i, j) (R95). -/
def ldpcShift (i j : Nat) : Nat := 37 * (i + 1) * (j + 1) % 512

/-- Parity bit r of block row i of the LDPC code (R95). -/
def ldpcParity (u : Nat → Bool) : Nat → Nat → Bool
  | 0, r => (List.range 64).foldl (fun x j => xor x (u (512 * j + (r + ldpcShift 0 j) % 512))) false
  | i + 1, r => xor ((List.range 64).foldl (fun x j => xor x (u (512 * j + (r + ldpcShift (i + 1) j) % 512))) false)
      (ldpcParity u i r)

/-- The codeword of 32,768 scrambled bits (R95). -/
def ldpcEncode (l : List Bool) : List Bool :=
  l ++ (List.range 8).flatMap (fun i => (List.range 512).map (fun r => ldpcParity (fun k => l.getD k false) i r))

/-- Row k of the counts w(k, r), r = 1 to 6 (R96). -/
def modRow : Nat → List Nat
  | 0 => [1, 1, 1, 1, 1, 1]
  | k + 1 =>
    let p := modRow k
    (List.range 6).map (fun i => p.getD 0 0 + p.getD (i + 1) 0)

/-- w(k, r) (R96). -/
def modW (k r : Nat) : Nat := if r > 6 then 0 else (modRow k).getD (r - 1) 0

/-- Bits i down to 0 of the modulated word, from the bit above, the last difference, the run and the rank left. -/
def modBits : Nat → Bool → Bool → Nat → Nat → List Bool
  | 0, _, _, _, _ => []
  | i + 1, prev, lastE, run, d =>
    let r0 := if run > 0 ∧ prev = lastE then run + 1 else 1
    let n0 := modW i r0
    if d < n0 then false :: modBits i false prev r0 d
    else
      let r1 := if run > 0 ∧ (!prev) = lastE then run + 1 else 1
      true :: modBits i true (!prev) r1 (d - n0)

/-- The 33 bits of a 32-bit word, bit 32 first (R96). -/
def modEncode (d : Nat) : List Bool :=
  let n := 2 * modW 31 1
  if d < n then false :: modBits 32 false false 0 d else true :: modBits 32 true false 0 (d - n)

/-- Rank of bits i down to 0 of a word, none when it leaves C. -/
def modRank : Nat → Bool → Bool → Nat → List Bool → Option Nat
  | 0, _, _, _, _ => some 0
  | i + 1, prev, lastE, run, l =>
    let b := l.headD false
    let e := xor b prev
    let r := if run > 0 ∧ e = lastE then run + 1 else 1
    let r0 := if run > 0 ∧ prev = lastE then run + 1 else 1
    if r > 6 then none
    else (modRank i b e r l.tail).map (fun k => k + (if b then modW i r0 else 0))

/-- The 32 data bits of a 33-bit word, or a modulation error (R96). -/
def modDecode (l : List Bool) : Option Nat :=
  match modRank 32 (l.headD false) false 0 l.tail with
  | none => none
  | some k =>
    let d := k + (if l.headD false then 2 * modW 31 1 else 0)
    if d < 2 ^ 32 then some d else none

/-- Groups of n bits of a list. -/
def groups (n : Nat) : Nat → List Bool → List (List Bool)
  | 0, _ => []
  | k + 1, l => l.take n :: groups n k (l.drop n)

/-- The body of a sector: scrambled, encoded and modulated (R93). -/
def sectorBody (a : Nat) (payload : List Byte) : List Bool :=
  let code := ldpcEncode (scramble (scramSeed a) (bitsOf (slice payload 0 4096)))
  (groups 32 1152 code).flatMap (fun g => modEncode (ofMsb g))

/-! ### Framing and the sector layout (R89 to R91) -/

/-- A short pattern repeated. -/
def pat1100 (n : Nat) : List Bool := (List.range n).map (fun i => decide (i % 4 < 2))

/-- Sector sync (R91). -/
def syncBits : List Bool := msb 46 0b0011000011111111111111110000000000000111100011

/-- Resync (R91). -/
def resyncBits : List Bool := msb 16 0xFFFE

/-- Prefix of a sector: preamble, sync, header, body (R89); each bit with whether it is framing (R204). -/
def sectorPrefix (layer swath track slot kind : Nat) (payload : List Byte) : List (Bool × Bool) :=
  let a := headerA layer swath track slot
  ((pat1100 64 ++ syncBits).map (fun b => (b, true))) ++
    ((modEncode a ++ modEncode (headerH a kind) ++ sectorBody a payload).map (fun b => (b, false)))

/-- The prefix laid over the data gaps with its resyncs, and the number of resyncs (R90). -/
def layPrefix (d : Nat) : Nat → Bool → List (Bool × Bool) → List (Bool × Bool) × Nat
  | _, _, [] => ([], 0)
  | q, first, b :: t =>
    if q % d = 0 ∧ first = false then
      let r := layPrefix d (q + 17) false t
      (resyncBits.map (fun x => (x, true)) ++ b :: r.1, r.2 + 1)
    else
      let r := layPrefix d (q + 1) false t
      (b :: r.1, r.2)

/-- The 38,336 recorded bits of slot k: laid prefix and tail (R90). -/
def laySector (z : Zone) (k : Nat) (pre : List (Bool × Bool)) : List (Bool × Bool) :=
  let r := layPrefix z.d (slotBits * k) true pre
  r.1 ++ (pat1100 (144 - 16 * r.2)).map (fun b => (b, true))

/-! ### Reed-Solomon codes (R98, R101, R103, R200) -/

/-- Product in GF(2^w), most significant bit of the second factor first. -/
def gfMul (w poly a b : Nat) : Nat :=
  (List.range w).foldl (fun r i =>
    let s := if bit r (w - 1) then (r * 2 % 2 ^ w) ^^^ poly else r * 2 % 2 ^ w
    if bit b (w - 1 - i) then s ^^^ a else s) 0

/-- α to a power. -/
def gfExp (w poly : Nat) : Nat → Nat
  | 0 => 1
  | i + 1 => gfMul w poly (gfExp w poly i) 2

/-- Coefficients below the leading one of Π (x + α^i), i < t, highest first. -/
def rsGen (w poly : Nat) : Nat → List Nat
  | 0 => []
  | t + 1 =>
    let g := 1 :: rsGen w poly t
    let r := gfExp w poly t
    ((g.drop 1 ++ [0]).zip (g.map (fun c => gfMul w poly c r))).map (fun (p : Nat × Nat) => p.1 ^^^ p.2)

/-- Parity symbols of a systematic codeword, highest power first. -/
def rsParity (w poly t : Nat) (data : List Nat) : List Nat :=
  let g := rsGen w poly t
  data.foldl (fun reg s =>
    let f := s ^^^ reg.headD 0
    ((reg.drop 1 ++ [0]).zip (g.map (fun c => gfMul w poly c f))).map (fun (p : Nat × Nat) => p.1 ^^^ p.2)) (List.replicate t 0)

/-- The reduction term of the field of R98. -/
def gf16Poly : Nat := 0x100B

/-- Symbol q of a payload (R98). -/
def symOf (p : List Byte) (q : Nat) : Nat := (p.getD (2 * q) 0).toNat * 256 + (p.getD (2 * q + 1) 0).toNat

/-- Parity payloads of some sectors' payloads, t of them (R98, R103). -/
def crossParity (t : Nat) (pl : List (List Byte)) : List (List Byte) :=
  let cols := (List.range 2048).map (fun q => rsParity 16 gf16Poly t (pl.map (fun p => symOf p q)))
  (List.range t).map (fun i => cols.flatMap (fun c => be 2 (c.getD i 0)))

/-! ### Times and text -/

/-- A TAI time as records carry it: 48-bit seconds, 32-bit nanoseconds (R102, R104). -/
def taiBytes (big : Bool) (ns : Nat) : List Byte :=
  if big then be 6 (ns / 1000000000) ++ be 4 (ns % 1000000000) else le 6 (ns / 1000000000) ++ le 4 (ns % 1000000000)

/-! ### The primer (R101, R102) -/

/-- What the primer's header block says. -/
structure PrimerInfo where
  setLabel : List Byte
  discId : List Byte
  layers : Nat
  member : Nat
  setSize : Nat
  time : Nat
  text : List Byte
  deriving DecidableEq, Repr

/-- The 16 bytes "CAERSEHEL CG2" and three spaces. -/
def primerName : List Byte :=
  [0x43, 0x41, 0x45, 0x52, 0x53, 0x45, 0x48, 0x45, 0x4C, 0x20, 0x43, 0x47, 0x32, 0x20, 0x20, 0x20]

/-- Data bytes 0 to 238 of primer block b (R102). -/
def primerData (i : PrimerInfo) (b : Nat) : List Byte :=
  let k := b % 896
  let used := cdiv i.text.length 234
  if k = 0 then
    slice (be 4 b ++ [1] ++ primerName ++ slice i.setLabel 0 16 ++ slice i.discId 0 16 ++ be 1 i.layers ++ be 1 i.member ++
      be 1 i.setSize ++ be 4 i.text.length ++ taiBytes true i.time) 0 239
  else if k ≤ used then slice (be 4 b ++ [2] ++ slice i.text (234 * (k - 1)) 234) 0 239
  else slice (be 4 b ++ [0]) 0 239

/-- The 255 bytes of a primer block: RS(255,239) (R101). -/
def primerBlock (i : PrimerInfo) (b : Nat) : List Byte :=
  let data := primerData i b
  data ++ (rsParity 8 0x1D 16 (data.map BitVec.toNat)).map (BitVec.ofNat 8)

/-- Channel bits of a primer block (R101). -/
def primerBits (i : PrimerInfo) (b : Nat) : List Bool := msb 32 0xFFF000CC ++ biphase (bitsOf (primerBlock i b))

/-- Channel bits before the first primer block, of a block, and of the whole recording (R101). -/
def primerLead : Nat := 8224
def primerBlockBits : Nat := 4112
def primerLen : Nat := primerLead + 1792 * primerBlockBits

/-- Channel bit j of a primer recording: 0b01 pairs, then the 1,792 blocks (R101). -/
def primerBit (i : PrimerInfo) (j : Nat) : Bool :=
  if j < primerLead then j % 2 == 1
  else (primerBits i ((j - primerLead) / primerBlockBits)).getD ((j - primerLead) % primerBlockBits) false

/-! ### Index and ledger units (R103 to R107, R110) -/

/-- A mapping record's content (R105). -/
structure MapRec where
  store : Nat
  enc : Bool
  lbs64 : Bool
  zoned : Bool
  nsid : Nat
  slba : Nat
  nlb : Nat
  part : Nat
  pba : Nat
  offset : Nat
  length : Nat
  wid : Nat
  deriving DecidableEq, Repr

/-- Its 40 bytes. -/
def MapRec.bytes (r : MapRec) : List Byte :=
  le 1 1 ++ le 1 5 ++ le 2 (r.store % 4 + 4 * ofB r.enc + 8 * ofB r.lbs64 + 16 * ofB r.zoned) ++ le 4 r.nsid ++ le 8 r.slba ++
    le 2 r.nlb ++ le 2 r.part ++ le 4 r.pba ++ le 4 r.offset ++ le 4 r.length ++ le 8 r.wid

/-- A commit record's content: namespace, time, (WRITE_ID, PARTS) of each write (R106). -/
structure CommitRec where
  nsid : Nat
  time : Nat
  writes : List (Nat × Nat)
  deriving DecidableEq, Repr

/-- Its 24 + 16 n bytes. -/
def CommitRec.bytes (r : CommitRec) : List Byte :=
  le 1 2 ++ le 1 (3 + 2 * r.writes.length) ++ le 2 r.writes.length ++ le 4 r.nsid ++ taiBytes false r.time ++ le 6 0 ++
    r.writes.flatMap (fun w => le 8 w.1 ++ le 2 w.2 ++ le 6 0)

/-- A ledger entry or checkpoint as a record: TYPE 0x10 or 0x11, padded to whole 8-byte words (R110). -/
def ledgerRec (type : Nat) (content : List Byte) : List Byte :=
  let words := cdiv (4 + content.length) 8
  slice (le 1 type ++ le 1 words ++ le 2 0 ++ content) 0 (8 * words)

/-- A unit's 48 KiB payload (R104). -/
def unitPayload (magic count seq writer time : Nat) (label discId : List Byte) (recs : List Byte) : List Byte :=
  let body := slice (le 4 magic ++ le 2 1 ++ le 2 count ++ le 8 seq ++ le 4 (64 + recs.length) ++ le 4 writer ++
    taiBytes false time ++ le 6 0 ++ slice label 0 16 ++ slice discId 0 8 ++ recs) 0 0xBFF8
  body ++ le 8 (crc64 body)

/-- MAGIC of an index unit and of a ledger unit (R104). -/
def magicIndex : Nat := 0x58494743
def magicLedger : Nat := 0x474C4743

/-- The sixteen sector payloads of a unit: twelve of its content, four of parity (R103). -/
def unitSectors (payload : List Byte) : List (List Byte) :=
  let data := (List.range 12).map (fun i => slice payload (4096 * i) 4096)
  data ++ crossParity 4 data

/-! ### Committed content (R108) -/

/-- Writes committed by what the member discs hold (R108): a commit entry exists and PARTS mapping records are present. -/
def committedBy (maps : List MapRec) (commits : List CommitRec) (nsid wid : Nat) : Bool :=
  commits.any (fun r => r.nsid == nsid && r.writes.any (fun w => w.1 == wid &&
    (maps.filter (fun m => m.nsid == nsid && m.wid == wid)).length == w.2))

/-- Commit time of a write. -/
def commitTime (commits : List CommitRec) (nsid wid : Nat) : Option Nat :=
  (commits.find? (fun r => r.nsid == nsid && r.writes.any (fun w => w.1 == wid))).map (fun r => r.time)

/-- The mapping record that gives a logical block's content, as of a time when one is given (R108). -/
def contentRec (maps : List MapRec) (commits : List CommitRec) (nsid lba : Nat) (asOf : Option Nat) : Option MapRec :=
  let ok := maps.filter (fun m => m.nsid == nsid && decide (m.slba ≤ lba) && decide (lba < m.slba + m.nlb) &&
    committedBy maps commits nsid m.wid && (match asOf, commitTime commits nsid m.wid with
      | some t, some c => decide (c ≤ t)
      | some _, none => false
      | none, _ => true))
  ok.foldl (fun best m => match best with
    | none => some m
    | some b => if b.wid < m.wid then some m else some b) none

end Sys2Proof.Machine
end

