-- ==== Sys2Proof/Machine/Ecc.lean ====
section
/-! DEFINITION. Machine/Ecc.lean: the symbol code of the buffer memory (spec file 15, R500 to R502): check symbols, syndromes,
what the decoder makes of an error pattern, poison. -/

namespace Sys2Proof.Machine

/-- The reduction term of the field x^8 + x^4 + x^3 + x^2 + 1 (R500). -/
def eccPoly : Nat := 0x1D

/-- Product in the field of R500. -/
def eccMul (a b : Nat) : Nat := gfMul 8 eccPoly a b

/-- A power of an element. -/
def eccPow (a : Nat) : Nat → Nat
  | 0 => 1
  | k + 1 => eccMul (eccPow a k) a

/-- The inverse of an element that is not zero: its power 254. -/
def eccInv (a : Nat) : Nat :=
  let p2 := eccMul a a
  let p4 := eccMul p2 p2
  let p8 := eccMul p4 p4
  let p16 := eccMul p8 p8
  let p32 := eccMul p16 p16
  let p64 := eccMul p32 p32
  let p128 := eccMul p64 p64
  eccMul p2 (eccMul p4 (eccMul p8 (eccMul p16 (eccMul p32 (eccMul p64 p128)))))

/-- The locator of symbol j: α to the power of its coefficient's degree, 19 − j (R500). -/
def eccLoc (j : Nat) : Nat := gfExp 8 eccPoly (19 - j)

/-- Data symbol j of a word of 16 data bytes: bits 4j to 4j + 3 of the first beat below those of the second (R500). -/
def dataSym (l : List Byte) (j : Nat) : Nat :=
  let nib := fun (b : Nat) => bits (l.getD (b + j / 2) 0).toNat (4 * (j % 2)) 4
  nib 0 + 16 * nib 8

/-- The data bytes that 16 data symbols spell (R500). -/
def symBytes (s : List Nat) : List Byte :=
  (List.range 16).map (fun b =>
    let nib := fun (j : Nat) => bits (s.getD j 0) (if b < 8 then 0 else 4) 4
    BitVec.ofNat 8 (nib (2 * (b % 8)) + 16 * nib (2 * (b % 8) + 1)))

/-- The twenty symbols of the ECC word of 16 data bytes: the data, then the check symbols (R500). -/
def eccEncode (l : List Byte) : List Nat :=
  let s := (List.range 16).map (dataSym l)
  s ++ rsParity 8 eccPoly 4 s

/-- Syndrome i of a pattern of (symbol, bits in error): its value at α^i (R500). -/
def eccSynd (e : List (Nat × Nat)) (i : Nat) : Nat :=
  e.foldl (fun x p => x ^^^ eccMul p.2 (eccPow (eccLoc p.1) i)) 0

/-- The four syndromes of a pattern. -/
def eccSynds (e : List (Nat × Nat)) : List Nat := (List.range 4).map (eccSynd e)

/-- Two patterns on top of each other; symbols in rising order, none with no bit in error. -/
def eccXor (a b : List (Nat × Nat)) : List (Nat × Nat) :=
  let at' := fun (l : List (Nat × Nat)) (j : Nat) => l.foldl (fun x p => if p.1 = j then x ^^^ p.2 % 256 else x) 0
  (List.range 20).filterMap (fun j => if at' a j ^^^ at' b j = 0 then none else some (j, at' a j ^^^ at' b j))

/-- What a poison word shows beside the word it was made from: every check symbol XORed with 0xFF (R502). -/
def poisonPattern : List (Nat × Nat) := [(16, 0xFF), (17, 0xFF), (18, 0xFF), (19, 0xFF)]

/-- Coefficients of Π (x + X), lowest first. -/
def locPoly : List Nat → List Nat
  | [] => [1]
  | x :: t =>
    let g := locPoly t
    ((0 :: g).zip (g.map (eccMul x) ++ [0])).map (fun p => p.1 ^^^ p.2)

/-- The pattern confined to some symbols that has the given syndromes, if one has (R501). -/
def eccSolve (s : List Nat) (ps : List Nat) : Option (List (Nat × Nat)) :=
  let val := fun (p : Nat) =>
    let xs := (ps.filter (· != p)).map eccLoc
    let num := ((locPoly xs).zip s).foldl (fun x (c : Nat × Nat) => x ^^^ eccMul c.1 c.2) 0
    let den := xs.foldl (fun x q => eccMul x (eccLoc p ^^^ q)) 1
    eccMul num (eccInv den)
  let e := ps.map (fun p => (p, val p))
  if eccSynds e = s then some (e.filter (fun p => p.2 != 0)) else none

/-- The sets of symbols a correction may lie in: any two without a marked device, the erased ones and any one more with
(R501). -/
def eccSets (erased : List Nat) : List (List Nat) :=
  match erased with
  | [] => (List.range 20).map (fun j => [j]) ++
      (List.range 20).flatMap (fun j => ((List.range 20).filter (fun k => decide (j < k))).map (fun k => [j, k]))
  | _ => erased :: ((List.range 20).filter (fun j => !erased.contains j)).map (fun j => erased ++ [j])

/-- What the decoder makes of a word (R501 to R503): 0 no error, 1 correctable, 2 uncorrectable, 3 poison; the symbols it
corrects; what stays wrong in the word it returns. -/
structure EccRead where
  kind : Nat
  fixed : List (Nat × Nat) := []
  wrong : List (Nat × Nat) := []
  deriving DecidableEq, Repr

/-- The decoder at work on a pattern of symbol errors, with the symbols of a marked device erased (R501, R502). Errors in
erased symbols alone are no error. DEDUCED, log 95. -/
def eccRead (erased : List Nat) (e : List (Nat × Nat)) : EccRead :=
  let e := eccXor e []
  let s := eccSynds e
  if e = [] then { kind := 0 }
  else if s = eccSynds poisonPattern then { kind := 3 }
  else if s = [0, 0, 0, 0] then { kind := 0, wrong := e }
  else match (eccSets erased).findSome? (eccSolve s) with
    | none => { kind := 2 }
    | some f => { kind := if f.all (fun p => erased.contains p.1) then 0 else 1, fixed := f, wrong := eccXor e f }

/-- Bits of the 16 data bytes of a word that stay wrong. -/
def wrongBytes (e : List (Nat × Nat)) : List Byte :=
  symBytes ((List.range 16).map (fun j => e.foldl (fun x p => if p.1 = j then x ^^^ p.2 % 256 else x) 0))

end Sys2Proof.Machine
end

