-- ==== Sys2Proof/Config.lean ====
section
/-! DEFINITION. Config.lean: the values the spec leaves open. Each is a constant without a body: nothing can be proved of
its value, and every claim holds for every value of it. -/

namespace Sys2Proof.Config

/-- Whether an inexact result is taken up to the next unit or left at the unit below, where the spec gives a formula and
no rounding (notes/assumptions/4). -/
opaque roundUp : Int → Nat → Bool

/-- A quotient whose rounding the spec leaves open: the floor, or one more when it is not exact. -/
def rnd (num : Int) (den : Nat) : Int :=
  if num % den = 0 then num / den else if roundUp num den then num / den + 1 else num / den

/-- A natural quotient whose rounding the spec leaves open. -/
def rndN (num den : Nat) : Nat := (rnd num den).toNat

/-- A servo signal whose divisor is zero (R238): the spec gives it no value. Free value, log 34. -/
opaque servoDivZero : Int → Int

/-- The set-point of a move while it is brought to rest by STOP (R253), in nm, from its start, target and age.
Free value, log 35. -/
opaque stopPath : Int → Int → Nat → Int

/-- The voltage vector (d, q) in mV limited to the circle that VM, in 20 mV, allows (R290): the spec does not give the
circle. Free value, log 36. -/
opaque voltCircle : Nat → Int × Int → Int × Int

/-- A byte of a strategy or power table before calibration (R208): deck, table, offset. The spec gives their layout, not
their content. Free value, log 41. -/
opaque tableByte : Nat → Nat → Nat → Byte

/-- The set-point of a focus sweep (R358): start, target, FS_MS, ticks since its start. The spec gives its ends and its
duration only. Free value, log 35. -/
opaque sweepPath : Int → Int → Nat → Nat → Int

/-- The bank word SCALE the sequencer sets for a slot from a peak-to-peak signal (R238, R358, R360): the spec says what it
scales to, not how it is computed. Free value, log 36. -/
opaque scaleOf : Nat → Nat → Nat

/-- The CODED payload the dictionary compressor makes of a block (R463, R464): history, most recent byte first, last offset,
block. The spec fixes the format, not the choice of matches. Free value, log 61. -/
opaque dmCoded : List Byte → Nat → List Byte → List Byte

/-- A byte of DRAM that has never been written, by its address (R508): arbitrary data. Free value, log 66. -/
opaque dramByte : Nat → Byte

/-- A byte of a log page that the NVM Express specifications lay out and the spec does not give: page, offset.
Free value, log 47. -/
opaque logByte : Nat → Nat → Byte

/-- A byte of an Identify data structure that the spec does not give: CNS, offset. Free value, log 47. -/
opaque identifyByte : Nat → Nat → Byte

/-- A feature's value before any Set Features, where the spec gives none: feature identifier. Free value, log 47. -/
opaque featDefault : Nat → Nat

/-- A byte of an NVMe-MI response that the spec does not give: opcode, argument, offset. Free value, log 50. -/
opaque miByte : Nat → Nat → Nat → Byte

/-- The bytes of an SPDM response that SPDM lays out and the spec does not give: request code, DRBG draw.
Free value, log 50. -/
opaque spdmReply : Nat → Nat → List Byte

/-- The signature a slice of a kind of block is to end with (R591): the firmware image in force carries it. Kind, slice.
Free value, log 76. -/
opaque expectSig : Nat → Nat → BitVec 64

/-- Class, code and severity of the record made when an entry to DEEP is abandoned because a staged write cannot commit
(R568): the spec asks for a record and does not say which. Free value, log 71. -/
opaque abandonRecord : Nat × Nat × Nat

/-- A byte of the factory fuse bank (R609): trims and identity of the one module, by byte offset. Free value, log 76. -/
opaque fuseByte : Nat → Byte

/-! ### Cryptography (R626 to R649)
The spec names the algorithms and does not restate them; each is a function of its inputs with no body here
(notes/assumptions/5). -/

/-- SHA-384. Free value, log 5. -/
opaque sha384 : List Byte → List Byte

/-- HMAC-SHA-384: key, message. Free value, log 5. -/
opaque hmac384 : List Byte → List Byte → List Byte

/-- Whether an ECDSA P-384 signature verifies: key, message, signature. Free value, log 5. -/
opaque ecdsaOk : List Byte → List Byte → List Byte → Bool

/-- Whether an ML-DSA-87 signature verifies: key, context string, message, signature. Free value, log 5. -/
opaque mldsaOk : List Byte → List Byte → List Byte → List Byte → Bool

/-- The identity key's ECDSA signature of a message. Free value, log 5. -/
opaque ecdsaSign : List Byte → List Byte

/-- The LMS signature of a message: number of the ledger key, leaf. Free value, log 5. -/
opaque lmsSign : Nat → Nat → List Byte → List Byte

/-- The public key of a ledger key. Free value, log 5. -/
opaque lmsPublic : Nat → List Byte

/-- The n-th output of the DRBG: draw number, bytes wanted. Free value, log 5. -/
opaque drbg : Nat → Nat → List Byte

/-- AES-256-XTS of one data unit: key, tweak, bytes; encryption and decryption. Free value, log 5. -/
opaque xtsEnc : List Byte → Nat → List Byte → List Byte
opaque xtsDec : List Byte → Nat → List Byte → List Byte

/-- AES-256-KW: KEK, key; and its inverse, which fails on a wrong KEK. Free value, log 5. -/
opaque kwWrap : List Byte → List Byte → List Byte
opaque kwUnwrap : List Byte → List Byte → Option (List Byte)

/-- The Roanasyn keys in ROM: algorithm (0 ECDSA, 1 ML-DSA), slot (R632). Free value, log 5. -/
opaque romKey : Nat → Nat → List Byte

/-- Measurement 1: the boot ROM (R634). Free value, log 5. -/
opaque romDigest : List Byte

/-- Certificate chains of slot 0 and slot 1, in DER (R634). Free value, log 5. -/
opaque certChain : Nat → List Byte

/-- What a difference of path metrics is as a log-likelihood ratio, in units of 0.5 (R161). Free value, log 96. -/
opaque llrOf : Int → Int

/-- P and S of a swath in the CG1 zone table: the table is in another manual, which the spec does not hold (R84, R151, R153).
Free value, log 98. -/
opaque cg1Map : Nat → Nat × Nat

/-- The spindle speed at which a swath of a CG1 disc is read, in rpm (R84, R153). Free value, log 98. -/
opaque cg1Rpm : Nat → Nat

/-- The format description that the primer carries: plain text shipped in the firmware image, which the spec does not hold (R102).
Free value, log 101. -/
opaque formatText : List Byte

/-- The angle, in 2^-24 grains, by which an emitter runs ahead of the read spot: LEAD in 0.1 µm, track position. The spec gives the
length and no rounding (R205). Free value, log 41. -/
opaque leadAngle : Nat → Nat → Nat

/-- What a prior, in quarters of a soft value's unit, takes off a branch metric (R160, R169). Free value, log 96. -/
opaque priorMetric : Int → Int

end Sys2Proof.Config
end

