-- ==== Sys2Proof/Machine/Fields.lean ====
section
/-! DEFINITION. Machine/Fields.lean: the spec's name for every register field, as the word's offset in the register
window, the field's low bit and its width (the register tables of the rules named beside each group). -/

namespace Sys2Proof.Machine

/-- A register field: the offset of its word in the window, its lowest bit, its width. -/
structure Fld where
  off : Nat
  lo : Nat
  w : Nat
  deriving DecidableEq, Repr

/-- The key a field's value is held under: one number for each bit position of the window. -/
def Fld.key (f : Fld) : Nat := f.off * 32 + f.lo

namespace Reg

-- R21
def BLK_COMMIT_CTL_DISCARD (b : Nat) : Fld := ⟨b + 0xFF00, 1, 1⟩
def BLK_COMMIT_CTL_REQ (b : Nat) : Fld := ⟨b + 0xFF00, 0, 1⟩
-- R22
def BLK_COMMIT_STS_RULE (b : Nat) : Fld := ⟨b + 0xFF04, 16, 16⟩
def BLK_COMMIT_STS_EPOCH_LSB (b : Nat) : Fld := ⟨b + 0xFF04, 8, 8⟩
def BLK_COMMIT_STS_BUSY_REJ (b : Nat) : Fld := ⟨b + 0xFF04, 7, 1⟩
def BLK_COMMIT_STS_DIRTY (b : Nat) : Fld := ⟨b + 0xFF04, 6, 1⟩
def BLK_COMMIT_STS_RESULT (b : Nat) : Fld := ⟨b + 0xFF04, 0, 4⟩
-- R46
def MGMT_PLAIT_STS_REJ : Fld := ⟨0x100, 12, 1⟩
def MGMT_PLAIT_STS_FALLBACK : Fld := ⟨0x100, 13, 1⟩
def MGMT_PLAIT_STS_SOURCE : Fld := ⟨0x100, 14, 2⟩
def MGMT_PLAIT_STS_STATE : Fld := ⟨0x100, 16, 4⟩
def MGMT_PLAIT_STS_REASON : Fld := ⟨0x100, 24, 8⟩
-- R47
def MGMT_SELF_HANDLE_INDEX : Fld := ⟨0x104, 0, 14⟩
def MGMT_SELF_HANDLE_DEVICE_NUM : Fld := ⟨0x104, 14, 18⟩
-- R48
def SEAM_PORT_STS_STATE (p : Nat) : Fld := ⟨0x900010 + p * 0x4, 0, 4⟩
def SEAM_PORT_STS_STEP (p : Nat) : Fld := ⟨0x900010 + p * 0x4, 4, 4⟩
def SEAM_PORT_STS_LANES (p : Nat) : Fld := ⟨0x900010 + p * 0x4, 8, 3⟩
def SEAM_PORT_STS_PEER_PORT (p : Nat) : Fld := ⟨0x900010 + p * 0x4, 11, 3⟩
def SEAM_PORT_STS_PEER_DEV (p : Nat) : Fld := ⟨0x900010 + p * 0x4, 14, 18⟩
-- R67
def ANG_PLL_CFG_FORCE_SEARCH (n : Nat) : Fld := ⟨0x1000000 + n * 0x100000 + 0x0, 0, 1⟩
def ANG_PLL_CFG_HOLD_MAX (n : Nat) : Fld := ⟨0x1000000 + n * 0x100000 + 0x0, 11, 11⟩
def ANG_PLL_CFG_FF_EN (n : Nat) : Fld := ⟨0x1000000 + n * 0x100000 + 0x0, 22, 1⟩
def ANG_PLL_CFG_KI_SHIFT (n : Nat) : Fld := ⟨0x1000000 + n * 0x100000 + 0x0, 23, 5⟩
def ANG_PLL_CFG_KP_SHIFT (n : Nat) : Fld := ⟨0x1000000 + n * 0x100000 + 0x0, 28, 4⟩
-- R68
def ANG_PLL_TOL_LOCK_TOL (n : Nat) : Fld := ⟨0x1000000 + n * 0x100000 + 0x4, 0, 12⟩
def ANG_PLL_TOL_UNLOCK_TOL (n : Nat) : Fld := ⟨0x1000000 + n * 0x100000 + 0x4, 12, 12⟩
def ANG_PLL_TOL_WIN (n : Nat) : Fld := ⟨0x1000000 + n * 0x100000 + 0x4, 24, 8⟩
-- R69
def ANG_STS_STATE (n : Nat) : Fld := ⟨0x1000000 + n * 0x100000 + 0x8, 0, 3⟩
def ANG_STS_CAUSE (n : Nat) : Fld := ⟨0x1000000 + n * 0x100000 + 0x8, 8, 3⟩
def ANG_STS_UNLOCK (n : Nat) : Fld := ⟨0x1000000 + n * 0x100000 + 0x8, 11, 1⟩
def ANG_STS_JUMP (n : Nat) : Fld := ⟨0x1000000 + n * 0x100000 + 0x8, 12, 1⟩
def ANG_STS_PHASE_ERR (n : Nat) : Fld := ⟨0x1000000 + n * 0x100000 + 0x8, 16, 16⟩
-- R70
def ANG_INC_INC (n : Nat) : Fld := ⟨0x1000000 + n * 0x100000 + 0xC, 0, 32⟩
-- R71
def ANG_SNAP_GRAIN_GRAIN (n : Nat) : Fld := ⟨0x1000000 + n * 0x100000 + 0x10, 0, 24⟩
def ANG_SNAP_GRAIN_REV_HI (n : Nat) : Fld := ⟨0x1000000 + n * 0x100000 + 0x10, 24, 8⟩
-- R72
def ANG_SNAP_REV_REV_LO (n : Nat) : Fld := ⟨0x1000000 + n * 0x100000 + 0x14, 0, 32⟩
-- R73
def ANG_WR_ERR_SUB (n : Nat) : Fld := ⟨0x1000000 + n * 0x100000 + 0x18, 0, 9⟩
def ANG_WR_ERR_KIND (n : Nat) : Fld := ⟨0x1000000 + n * 0x100000 + 0x18, 10, 2⟩
def ANG_WR_ERR_OFFSET (n : Nat) : Fld := ⟨0x1000000 + n * 0x100000 + 0x18, 12, 20⟩
-- R74
def ANG_TRIG_CFG_MODE (n t : Nat) : Fld := ⟨0x1000000 + n * 0x100000 + 0x100 + t * 0x10, 0, 3⟩
def ANG_TRIG_CFG_REQ_LOCK (n t : Nat) : Fld := ⟨0x1000000 + n * 0x100000 + 0x100 + t * 0x10, 13, 1⟩
def ANG_TRIG_CFG_LATE_FIRE (n t : Nat) : Fld := ⟨0x1000000 + n * 0x100000 + 0x100 + t * 0x10, 14, 1⟩
def ANG_TRIG_CFG_IRQ_EN (n t : Nat) : Fld := ⟨0x1000000 + n * 0x100000 + 0x100 + t * 0x10, 15, 1⟩
def ANG_TRIG_CFG_FIRED (n t : Nat) : Fld := ⟨0x1000000 + n * 0x100000 + 0x100 + t * 0x10, 20, 1⟩
def ANG_TRIG_CFG_LATE (n t : Nat) : Fld := ⟨0x1000000 + n * 0x100000 + 0x100 + t * 0x10, 21, 1⟩
def ANG_TRIG_CFG_MISSED (n t : Nat) : Fld := ⟨0x1000000 + n * 0x100000 + 0x100 + t * 0x10, 22, 1⟩
def ANG_TRIG_CFG_ERR (n t : Nat) : Fld := ⟨0x1000000 + n * 0x100000 + 0x100 + t * 0x10, 23, 1⟩
def ANG_TRIG_CFG_ARM (n t : Nat) : Fld := ⟨0x1000000 + n * 0x100000 + 0x100 + t * 0x10, 31, 1⟩
-- R75
def ANG_TRIG_POS_POS (n t : Nat) : Fld := ⟨0x1000000 + n * 0x100000 + 0x104 + t * 0x10, 0, 24⟩
def ANG_TRIG_POS_REV_HI (n t : Nat) : Fld := ⟨0x1000000 + n * 0x100000 + 0x104 + t * 0x10, 24, 8⟩
-- R76
def ANG_TRIG_REV_REV_LO (n t : Nat) : Fld := ⟨0x1000000 + n * 0x100000 + 0x108 + t * 0x10, 0, 32⟩
-- R77
def ANG_COMMIT_CTL_REQ (n : Nat) : Fld := ⟨0x1000000 + n * 0x100000 + 0xFF00, 0, 1⟩
def ANG_COMMIT_CTL_DISCARD (n : Nat) : Fld := ⟨0x1000000 + n * 0x100000 + 0xFF00, 1, 1⟩
def ANG_COMMIT_CTL_CANCEL (n : Nat) : Fld := ⟨0x1000000 + n * 0x100000 + 0xFF00, 2, 1⟩
def ANG_COMMIT_CTL_TRIG (n : Nat) : Fld := ⟨0x1000000 + n * 0x100000 + 0xFF00, 8, 6⟩
def ANG_COMMIT_CTL_SUB_MASK (n : Nat) : Fld := ⟨0x1000000 + n * 0x100000 + 0xFF00, 16, 9⟩
-- R78
def ANG_COMMIT_STS_RESULT (n : Nat) : Fld := ⟨0x1000000 + n * 0x100000 + 0xFF04, 0, 4⟩
def ANG_COMMIT_STS_DIRTY (n : Nat) : Fld := ⟨0x1000000 + n * 0x100000 + 0xFF04, 5, 1⟩
def ANG_COMMIT_STS_LATE (n : Nat) : Fld := ⟨0x1000000 + n * 0x100000 + 0xFF04, 6, 1⟩
def ANG_COMMIT_STS_BUSY_REJ (n : Nat) : Fld := ⟨0x1000000 + n * 0x100000 + 0xFF04, 7, 1⟩
def ANG_COMMIT_STS_REV_LSB (n : Nat) : Fld := ⟨0x1000000 + n * 0x100000 + 0xFF04, 8, 8⟩
def ANG_COMMIT_STS_RULE (n : Nat) : Fld := ⟨0x1000000 + n * 0x100000 + 0xFF04, 16, 12⟩
def ANG_COMMIT_STS_SUB (n : Nat) : Fld := ⟨0x1000000 + n * 0x100000 + 0xFF04, 28, 4⟩
-- R79
def MGMT_TICK_LO_TICK_LO : Fld := ⟨0x200, 0, 32⟩
-- R80
def MGMT_TICK_HI_TICK_HI : Fld := ⟨0x204, 0, 32⟩
-- R138
def LANE_AFE_CFG_BOOST (n k : Nat) : Fld := ⟨0x1000000 + n * 0x100000 + 0x10000 + k * 0x40, 0, 4⟩
def LANE_AFE_CFG_LPF_FC (n k : Nat) : Fld := ⟨0x1000000 + n * 0x100000 + 0x10000 + k * 0x40, 4, 4⟩
-- R139
def LANE_GAIN_CFG_ACQ_LEN (n k : Nat) : Fld := ⟨0x1000000 + n * 0x100000 + 0x10004 + k * 0x40, 0, 10⟩
def LANE_GAIN_CFG_ACQ_DELTA (n k : Nat) : Fld := ⟨0x1000000 + n * 0x100000 + 0x10004 + k * 0x40, 10, 2⟩
def LANE_GAIN_CFG_A_SHIFT (n k : Nat) : Fld := ⟨0x1000000 + n * 0x100000 + 0x10004 + k * 0x40, 12, 4⟩
def LANE_GAIN_CFG_O_SHIFT (n k : Nat) : Fld := ⟨0x1000000 + n * 0x100000 + 0x10004 + k * 0x40, 16, 4⟩
def LANE_GAIN_CFG_G_SHIFT (n k : Nat) : Fld := ⟨0x1000000 + n * 0x100000 + 0x10004 + k * 0x40, 20, 4⟩
def LANE_GAIN_CFG_AMP_TGT (n k : Nat) : Fld := ⟨0x1000000 + n * 0x100000 + 0x10004 + k * 0x40, 24, 5⟩
-- R140
def LANE_TR_CFG_FREQ_LIM (n k : Nat) : Fld := ⟨0x1000000 + n * 0x100000 + 0x10008 + k * 0x40, 0, 16⟩
def LANE_TR_CFG_WEDGE_SHIFT (n k : Nat) : Fld := ⟨0x1000000 + n * 0x100000 + 0x10008 + k * 0x40, 19, 4⟩
def LANE_TR_CFG_KI_SHIFT (n k : Nat) : Fld := ⟨0x1000000 + n * 0x100000 + 0x10008 + k * 0x40, 23, 5⟩
def LANE_TR_CFG_KP_SHIFT (n k : Nat) : Fld := ⟨0x1000000 + n * 0x100000 + 0x10008 + k * 0x40, 28, 4⟩
-- R141
def LANE_WIN_CFG_OFF_CNT (n k : Nat) : Fld := ⟨0x1000000 + n * 0x100000 + 0x1000C + k * 0x40, 8, 4⟩
def LANE_WIN_CFG_ON_CNT (n k : Nat) : Fld := ⟨0x1000000 + n * 0x100000 + 0x1000C + k * 0x40, 12, 3⟩
def LANE_WIN_CFG_SAT_ON (n k : Nat) : Fld := ⟨0x1000000 + n * 0x100000 + 0x1000C + k * 0x40, 15, 5⟩
def LANE_WIN_CFG_ENV_LO_OFF (n k : Nat) : Fld := ⟨0x1000000 + n * 0x100000 + 0x1000C + k * 0x40, 20, 6⟩
def LANE_WIN_CFG_ENV_LO_ON (n k : Nat) : Fld := ⟨0x1000000 + n * 0x100000 + 0x1000C + k * 0x40, 26, 6⟩
-- R142
def LANE_WIN_RES_RES_OFF (n k : Nat) : Fld := ⟨0x1000000 + n * 0x100000 + 0x10010 + k * 0x40, 0, 16⟩
def LANE_WIN_RES_RES_ON (n k : Nat) : Fld := ⟨0x1000000 + n * 0x100000 + 0x10010 + k * 0x40, 16, 16⟩
-- R143
def LANE_WIN_SPAN_MAX_SPAN (n k : Nat) : Fld := ⟨0x1000000 + n * 0x100000 + 0x10014 + k * 0x40, 0, 17⟩
def LANE_WIN_SPAN_PRE (n k : Nat) : Fld := ⟨0x1000000 + n * 0x100000 + 0x10014 + k * 0x40, 17, 7⟩
def LANE_WIN_SPAN_POST (n k : Nat) : Fld := ⟨0x1000000 + n * 0x100000 + 0x10014 + k * 0x40, 24, 8⟩
-- R144
def LANE_LOOP_INIT_ASYM_INIT (n k : Nat) : Fld := ⟨0x1000000 + n * 0x100000 + 0x10018 + k * 0x40, 0, 8⟩
def LANE_LOOP_INIT_OFS_INIT (n k : Nat) : Fld := ⟨0x1000000 + n * 0x100000 + 0x10018 + k * 0x40, 8, 8⟩
def LANE_LOOP_INIT_GAIN_INIT (n k : Nat) : Fld := ⟨0x1000000 + n * 0x100000 + 0x10018 + k * 0x40, 16, 10⟩
-- R145
def LANE_LOOP_CTL_HOLD_G (n k : Nat) : Fld := ⟨0x1000000 + n * 0x100000 + 0x1001C + k * 0x40, 0, 1⟩
def LANE_LOOP_CTL_HOLD_O (n k : Nat) : Fld := ⟨0x1000000 + n * 0x100000 + 0x1001C + k * 0x40, 1, 1⟩
def LANE_LOOP_CTL_HOLD_A (n k : Nat) : Fld := ⟨0x1000000 + n * 0x100000 + 0x1001C + k * 0x40, 2, 1⟩
def LANE_LOOP_CTL_HOLD_T (n k : Nat) : Fld := ⟨0x1000000 + n * 0x100000 + 0x1001C + k * 0x40, 3, 1⟩
def LANE_LOOP_CTL_REINIT (n k : Nat) : Fld := ⟨0x1000000 + n * 0x100000 + 0x1001C + k * 0x40, 4, 1⟩
def LANE_LOOP_CTL_CLR_CNT (n k : Nat) : Fld := ⟨0x1000000 + n * 0x100000 + 0x1001C + k * 0x40, 5, 1⟩
-- R146
def LANE_LOOP_VAL_ASYM (n k : Nat) : Fld := ⟨0x1000000 + n * 0x100000 + 0x10020 + k * 0x40, 0, 8⟩
def LANE_LOOP_VAL_OFS (n k : Nat) : Fld := ⟨0x1000000 + n * 0x100000 + 0x10020 + k * 0x40, 8, 8⟩
def LANE_LOOP_VAL_GAIN (n k : Nat) : Fld := ⟨0x1000000 + n * 0x100000 + 0x10020 + k * 0x40, 16, 10⟩
-- R147
def LANE_TR_STS_LIM_A (n k : Nat) : Fld := ⟨0x1000000 + n * 0x100000 + 0x10024 + k * 0x40, 4, 1⟩
def LANE_TR_STS_LIM_O (n k : Nat) : Fld := ⟨0x1000000 + n * 0x100000 + 0x10024 + k * 0x40, 5, 1⟩
def LANE_TR_STS_LIM_G (n k : Nat) : Fld := ⟨0x1000000 + n * 0x100000 + 0x10024 + k * 0x40, 6, 1⟩
def LANE_TR_STS_LIM_T (n k : Nat) : Fld := ⟨0x1000000 + n * 0x100000 + 0x10024 + k * 0x40, 7, 1⟩
def LANE_TR_STS_SLIPS (n k : Nat) : Fld := ⟨0x1000000 + n * 0x100000 + 0x10024 + k * 0x40, 8, 8⟩
def LANE_TR_STS_FREQ (n k : Nat) : Fld := ⟨0x1000000 + n * 0x100000 + 0x10024 + k * 0x40, 16, 16⟩
-- R148
def LANE_STATE_SRC (n k : Nat) : Fld := ⟨0x1000000 + n * 0x100000 + 0x10028 + k * 0x40, 0, 7⟩
def LANE_STATE_LSTATE (n k : Nat) : Fld := ⟨0x1000000 + n * 0x100000 + 0x10028 + k * 0x40, 8, 3⟩
def LANE_STATE_ERASED (n k : Nat) : Fld := ⟨0x1000000 + n * 0x100000 + 0x10028 + k * 0x40, 14, 1⟩
def LANE_STATE_STBY (n k : Nat) : Fld := ⟨0x1000000 + n * 0x100000 + 0x10028 + k * 0x40, 15, 1⟩
-- R149
def LANE_WIN_STS_FLAG (n k : Nat) : Fld := ⟨0x1000000 + n * 0x100000 + 0x1002C + k * 0x40, 0, 1⟩
def LANE_WIN_STS_LONG (n k : Nat) : Fld := ⟨0x1000000 + n * 0x100000 + 0x1002C + k * 0x40, 1, 1⟩
def LANE_WIN_STS_SPANS (n k : Nat) : Fld := ⟨0x1000000 + n * 0x100000 + 0x1002C + k * 0x40, 16, 16⟩
-- R150
def LANE_SPARE_CTL_TARGET (n s : Nat) : Fld := ⟨0x1000000 + n * 0x100000 + 0x11100 + s * 0x4, 0, 7⟩
def LANE_SPARE_CTL_CMD (n s : Nat) : Fld := ⟨0x1000000 + n * 0x100000 + 0x11100 + s * 0x4, 8, 4⟩
def LANE_SPARE_CTL_TRIG (n s : Nat) : Fld := ⟨0x1000000 + n * 0x100000 + 0x11100 + s * 0x4, 16, 6⟩
def LANE_SPARE_CTL_TST_OWN (n s : Nat) : Fld := ⟨0x1000000 + n * 0x100000 + 0x11100 + s * 0x4, 27, 1⟩
def LANE_SPARE_CTL_RESULT (n s : Nat) : Fld := ⟨0x1000000 + n * 0x100000 + 0x11100 + s * 0x4, 28, 3⟩
def LANE_SPARE_CTL_BUSY (n s : Nat) : Fld := ⟨0x1000000 + n * 0x100000 + 0x11100 + s * 0x4, 31, 1⟩
-- R180
def DET_MAP_CFG_P (n : Nat) : Fld := ⟨0x1000000 + n * 0x100000 + 0x20000, 0, 14⟩
def DET_MAP_CFG_S (n : Nat) : Fld := ⟨0x1000000 + n * 0x100000 + 0x20000, 16, 9⟩
def DET_MAP_CFG_MODE (n : Nat) : Fld := ⟨0x1000000 + n * 0x100000 + 0x20000, 30, 2⟩
-- R181
def DET_SYNC_CFG_FLY_EN (n : Nat) : Fld := ⟨0x1000000 + n * 0x100000 + 0x20004, 0, 1⟩
def DET_SYNC_CFG_RS_PRE (n : Nat) : Fld := ⟨0x1000000 + n * 0x100000 + 0x20004, 6, 4⟩
def DET_SYNC_CFG_RS_MIN (n : Nat) : Fld := ⟨0x1000000 + n * 0x100000 + 0x20004, 10, 5⟩
def DET_SYNC_CFG_PRE_MIN (n : Nat) : Fld := ⟨0x1000000 + n * 0x100000 + 0x20004, 15, 7⟩
def DET_SYNC_CFG_SYNC_TOL (n : Nat) : Fld := ⟨0x1000000 + n * 0x100000 + 0x20004, 22, 4⟩
def DET_SYNC_CFG_SYNC_MIN (n : Nat) : Fld := ⟨0x1000000 + n * 0x100000 + 0x20004, 26, 6⟩
-- R182
def DET_EQ_CFG_EQ_HOLD_ALL (n : Nat) : Fld := ⟨0x1000000 + n * 0x100000 + 0x20008, 0, 1⟩
def DET_EQ_CFG_EQ_MU_ACQ (n : Nat) : Fld := ⟨0x1000000 + n * 0x100000 + 0x20008, 24, 4⟩
def DET_EQ_CFG_EQ_MU (n : Nat) : Fld := ⟨0x1000000 + n * 0x100000 + 0x20008, 28, 4⟩
-- R183
def DET_DEC_CFG_MAX_GLEAN (n : Nat) : Fld := ⟨0x1000000 + n * 0x100000 + 0x2000C, 5, 3⟩
def DET_DEC_CFG_DARN_CHK (n : Nat) : Fld := ⟨0x1000000 + n * 0x100000 + 0x2000C, 8, 1⟩
def DET_DEC_CFG_TURBO_EN (n : Nat) : Fld := ⟨0x1000000 + n * 0x100000 + 0x2000C, 9, 1⟩
def DET_DEC_CFG_TURBO_W (n : Nat) : Fld := ⟨0x1000000 + n * 0x100000 + 0x2000C, 10, 2⟩
def DET_DEC_CFG_ALPHA (n : Nat) : Fld := ⟨0x1000000 + n * 0x100000 + 0x2000C, 12, 2⟩
def DET_DEC_CFG_ITER_SHED (n : Nat) : Fld := ⟨0x1000000 + n * 0x100000 + 0x2000C, 14, 6⟩
def DET_DEC_CFG_ITER_MAX2 (n : Nat) : Fld := ⟨0x1000000 + n * 0x100000 + 0x2000C, 20, 6⟩
def DET_DEC_CFG_ITER_MAX1 (n : Nat) : Fld := ⟨0x1000000 + n * 0x100000 + 0x2000C, 26, 6⟩
-- R184
def DET_MARGIN_CTL_SNAP (n : Nat) : Fld := ⟨0x1000000 + n * 0x100000 + 0x20010, 0, 1⟩
def DET_MARGIN_CTL_CLR (n : Nat) : Fld := ⟨0x1000000 + n * 0x100000 + 0x20010, 1, 1⟩
-- R185
def DET_EQ_ADDR_TAP (n : Nat) : Fld := ⟨0x1000000 + n * 0x100000 + 0x20014, 0, 4⟩
def DET_EQ_ADDR_SIDE (n : Nat) : Fld := ⟨0x1000000 + n * 0x100000 + 0x20014, 6, 2⟩
def DET_EQ_ADDR_SET (n : Nat) : Fld := ⟨0x1000000 + n * 0x100000 + 0x20014, 8, 1⟩
def DET_EQ_ADDR_BEAM (n : Nat) : Fld := ⟨0x1000000 + n * 0x100000 + 0x20014, 16, 6⟩
-- R186
def DET_EQ_DATA_COEF (n : Nat) : Fld := ⟨0x1000000 + n * 0x100000 + 0x20018, 0, 12⟩
def DET_EQ_DATA_ERR (n : Nat) : Fld := ⟨0x1000000 + n * 0x100000 + 0x20018, 12, 1⟩
-- R187
def DET_STS_GLEANING (n : Nat) : Fld := ⟨0x1000000 + n * 0x100000 + 0x2001C, 0, 1⟩
def DET_STS_UNREAD (n : Nat) : Fld := ⟨0x1000000 + n * 0x100000 + 0x2001C, 12, 1⟩
def DET_STS_MISCORR (n : Nat) : Fld := ⟨0x1000000 + n * 0x100000 + 0x2001C, 13, 1⟩
def DET_STS_OVERRUN (n : Nat) : Fld := ⟨0x1000000 + n * 0x100000 + 0x2001C, 14, 1⟩
def DET_STS_SHED (n : Nat) : Fld := ⟨0x1000000 + n * 0x100000 + 0x2001C, 15, 1⟩
def DET_STS_QUEUE (n : Nat) : Fld := ⟨0x1000000 + n * 0x100000 + 0x2001C, 16, 16⟩
-- R188
def DET_SYNC_OK_SYNC_OK (n : Nat) : Fld := ⟨0x1000000 + n * 0x100000 + 0x20020, 0, 32⟩
-- R189
def DET_SYNC_REJ_FALSE_REJ (n : Nat) : Fld := ⟨0x1000000 + n * 0x100000 + 0x20024, 0, 32⟩
-- R190
def DET_SYNC_MISC_NOHDR (n : Nat) : Fld := ⟨0x1000000 + n * 0x100000 + 0x20028, 0, 16⟩
def DET_SYNC_MISC_RS_MISS (n : Nat) : Fld := ⟨0x1000000 + n * 0x100000 + 0x20028, 16, 16⟩
-- R191
def DET_GLEAN_SET_EQ_MODE (n g : Nat) : Fld := ⟨0x1000000 + n * 0x100000 + 0x20040 + (g - 1) * 0x4, 13, 2⟩
def DET_GLEAN_SET_TGT_OWN (n g : Nat) : Fld := ⟨0x1000000 + n * 0x100000 + 0x20040 + (g - 1) * 0x4, 15, 1⟩
def DET_GLEAN_SET_TGT_SEL (n g : Nat) : Fld := ⟨0x1000000 + n * 0x100000 + 0x20040 + (g - 1) * 0x4, 16, 2⟩
def DET_GLEAN_SET_ITER (n g : Nat) : Fld := ⟨0x1000000 + n * 0x100000 + 0x20040 + (g - 1) * 0x4, 18, 6⟩
def DET_GLEAN_SET_FOCUS_OFS (n g : Nat) : Fld := ⟨0x1000000 + n * 0x100000 + 0x20040 + (g - 1) * 0x4, 24, 8⟩
-- R192
def DET_TGT_G0 (n t : Nat) : Fld := ⟨0x1000000 + n * 0x100000 + 0x20080 + t * 0x8, 0, 8⟩
def DET_TGT_G1 (n t : Nat) : Fld := ⟨0x1000000 + n * 0x100000 + 0x20080 + t * 0x8, 8, 8⟩
def DET_TGT_G2 (n t : Nat) : Fld := ⟨0x1000000 + n * 0x100000 + 0x20080 + t * 0x8, 16, 8⟩
def DET_TGT_G3 (n t : Nat) : Fld := ⟨0x1000000 + n * 0x100000 + 0x20080 + t * 0x8, 24, 8⟩
-- R193
def DET_TGT_NP_P1 (n t : Nat) : Fld := ⟨0x1000000 + n * 0x100000 + 0x20084 + t * 0x8, 0, 16⟩
def DET_TGT_NP_P2 (n t : Nat) : Fld := ⟨0x1000000 + n * 0x100000 + 0x20084 + t * 0x8, 16, 16⟩
-- R194
def DET_BCFG_TGT_SEL (n k : Nat) : Fld := ⟨0x1000000 + n * 0x100000 + 0x20100 + k * 0x4, 0, 2⟩
def DET_BCFG_EQ_HOLD (n k : Nat) : Fld := ⟨0x1000000 + n * 0x100000 + 0x20100 + k * 0x4, 2, 1⟩
def DET_BCFG_EQ_REINIT (n k : Nat) : Fld := ⟨0x1000000 + n * 0x100000 + 0x20100 + k * 0x4, 3, 1⟩
-- R222
def WRP_LINK_CFG_FORCE_DOWN (n : Nat) : Fld := ⟨0x1000000 + n * 0x100000 + 0x30000, 0, 1⟩
def WRP_LINK_CFG_RS_ALARM (n : Nat) : Fld := ⟨0x1000000 + n * 0x100000 + 0x30000, 8, 4⟩
def WRP_LINK_CFG_MSG_TRY (n : Nat) : Fld := ⟨0x1000000 + n * 0x100000 + 0x30000, 12, 4⟩
def WRP_LINK_CFG_MSG_TMO (n : Nat) : Fld := ⟨0x1000000 + n * 0x100000 + 0x30000, 16, 8⟩
-- R223
def WRP_LINK_STS_STATE (n : Nat) : Fld := ⟨0x1000000 + n * 0x100000 + 0x30004, 0, 3⟩
def WRP_LINK_STS_KILL_SENT (n : Nat) : Fld := ⟨0x1000000 + n * 0x100000 + 0x30004, 4, 1⟩
def WRP_LINK_STS_ALARM (n : Nat) : Fld := ⟨0x1000000 + n * 0x100000 + 0x30004, 5, 1⟩
def WRP_LINK_STS_STEP (n : Nat) : Fld := ⟨0x1000000 + n * 0x100000 + 0x30004, 8, 4⟩
def WRP_LINK_STS_FAIL_CNT (n : Nat) : Fld := ⟨0x1000000 + n * 0x100000 + 0x30004, 16, 8⟩
-- R224
def WRP_CAP_EMITTERS (n : Nat) : Fld := ⟨0x1000000 + n * 0x100000 + 0x30008, 0, 5⟩
def WRP_CAP_EMIT_BASE (n : Nat) : Fld := ⟨0x1000000 + n * 0x100000 + 0x30008, 8, 6⟩
def WRP_CAP_LEAD (n : Nat) : Fld := ⟨0x1000000 + n * 0x100000 + 0x30008, 16, 8⟩
def WRP_CAP_PROTO (n : Nat) : Fld := ⟨0x1000000 + n * 0x100000 + 0x30008, 24, 8⟩
-- R225
def WRP_GATE_CFG_SHK_LIM (n : Nat) : Fld := ⟨0x1000000 + n * 0x100000 + 0x30010, 0, 8⟩
def WRP_GATE_CFG_SETTLE (n : Nat) : Fld := ⟨0x1000000 + n * 0x100000 + 0x30010, 8, 4⟩
def WRP_GATE_CFG_LIM_CNT (n : Nat) : Fld := ⟨0x1000000 + n * 0x100000 + 0x30010, 12, 4⟩
def WRP_GATE_CFG_FES_LIM (n : Nat) : Fld := ⟨0x1000000 + n * 0x100000 + 0x30010, 16, 8⟩
def WRP_GATE_CFG_PES_LIM (n : Nat) : Fld := ⟨0x1000000 + n * 0x100000 + 0x30010, 24, 8⟩
-- R226
def WRP_GATE_VM_VM_LO (n : Nat) : Fld := ⟨0x1000000 + n * 0x100000 + 0x30014, 0, 12⟩
def WRP_GATE_VM_VM_HI (n : Nat) : Fld := ⟨0x1000000 + n * 0x100000 + 0x30014, 12, 12⟩
def WRP_GATE_VM_INH_TMO (n : Nat) : Fld := ⟨0x1000000 + n * 0x100000 + 0x30014, 24, 8⟩
-- R227
def WRP_GATE_STS_PES (n : Nat) : Fld := ⟨0x1000000 + n * 0x100000 + 0x30018, 0, 1⟩
def WRP_GATE_STS_FES (n : Nat) : Fld := ⟨0x1000000 + n * 0x100000 + 0x30018, 1, 1⟩
def WRP_GATE_STS_SHOCK (n : Nat) : Fld := ⟨0x1000000 + n * 0x100000 + 0x30018, 2, 1⟩
def WRP_GATE_STS_LINK (n : Nat) : Fld := ⟨0x1000000 + n * 0x100000 + 0x30018, 3, 1⟩
def WRP_GATE_STS_VM (n : Nat) : Fld := ⟨0x1000000 + n * 0x100000 + 0x30018, 4, 1⟩
def WRP_GATE_STS_LOCK (n : Nat) : Fld := ⟨0x1000000 + n * 0x100000 + 0x30018, 5, 1⟩
def WRP_GATE_STS_LOOP (n : Nat) : Fld := ⟨0x1000000 + n * 0x100000 + 0x30018, 6, 1⟩
def WRP_GATE_STS_SPEED (n : Nat) : Fld := ⟨0x1000000 + n * 0x100000 + 0x30018, 7, 1⟩
def WRP_GATE_STS_DISTURB (n : Nat) : Fld := ⟨0x1000000 + n * 0x100000 + 0x30018, 8, 1⟩
def WRP_GATE_STS_LATCHED (n : Nat) : Fld := ⟨0x1000000 + n * 0x100000 + 0x30018, 9, 1⟩
def WRP_GATE_STS_CLOSED (n : Nat) : Fld := ⟨0x1000000 + n * 0x100000 + 0x30018, 15, 1⟩
def WRP_GATE_STS_EMIT_OPEN (n : Nat) : Fld := ⟨0x1000000 + n * 0x100000 + 0x30018, 16, 16⟩
-- R228
def WRP_VFY_CFG_WEAK_LIM (n : Nat) : Fld := ⟨0x1000000 + n * 0x100000 + 0x3001C, 4, 4⟩
def WRP_VFY_CFG_VFY_CHAFF (n : Nat) : Fld := ⟨0x1000000 + n * 0x100000 + 0x3001C, 8, 10⟩
def WRP_VFY_CFG_VFY_DELTA (n : Nat) : Fld := ⟨0x1000000 + n * 0x100000 + 0x3001C, 18, 8⟩
def WRP_VFY_CFG_VFY_ITER (n : Nat) : Fld := ⟨0x1000000 + n * 0x100000 + 0x3001C, 26, 6⟩
-- R229
def WRP_WATCH_CFG_WATCH_EN (n : Nat) : Fld := ⟨0x1000000 + n * 0x100000 + 0x30020, 0, 1⟩
def WRP_WATCH_CFG_DIST_LIM (n : Nat) : Fld := ⟨0x1000000 + n * 0x100000 + 0x30020, 8, 8⟩
def WRP_WATCH_CFG_WATCH_FRAC (n : Nat) : Fld := ⟨0x1000000 + n * 0x100000 + 0x30020, 16, 11⟩
def WRP_WATCH_CFG_WATCH_LLR (n : Nat) : Fld := ⟨0x1000000 + n * 0x100000 + 0x30020, 27, 5⟩
-- R230
def WRP_OPC_CFG_BETA_TGT (n : Nat) : Fld := ⟨0x1000000 + n * 0x100000 + 0x30024, 0, 8⟩
def WRP_OPC_CFG_P_HI (n : Nat) : Fld := ⟨0x1000000 + n * 0x100000 + 0x30024, 8, 8⟩
def WRP_OPC_CFG_P_LO (n : Nat) : Fld := ⟨0x1000000 + n * 0x100000 + 0x30024, 16, 8⟩
def WRP_OPC_CFG_TEMP_DELTA (n : Nat) : Fld := ⟨0x1000000 + n * 0x100000 + 0x30024, 28, 4⟩
-- R231
def WRP_OPC_STS_NOCROSS (n : Nat) : Fld := ⟨0x1000000 + n * 0x100000 + 0x30028, 0, 1⟩
def WRP_OPC_STS_FAIL (n : Nat) : Fld := ⟨0x1000000 + n * 0x100000 + 0x30028, 1, 1⟩
def WRP_OPC_STS_EXHAUSTED (n : Nat) : Fld := ⟨0x1000000 + n * 0x100000 + 0x30028, 2, 1⟩
def WRP_OPC_STS_TEMP (n : Nat) : Fld := ⟨0x1000000 + n * 0x100000 + 0x30028, 8, 8⟩
def WRP_OPC_STS_RUNS_LEFT (n : Nat) : Fld := ⟨0x1000000 + n * 0x100000 + 0x30028, 16, 16⟩
-- R232
def WRP_VFY_STS_VFY_FAIL (n : Nat) : Fld := ⟨0x1000000 + n * 0x100000 + 0x3002C, 0, 8⟩
def WRP_VFY_STS_INCOMPLETE (n : Nat) : Fld := ⟨0x1000000 + n * 0x100000 + 0x3002C, 8, 8⟩
def WRP_VFY_STS_WEAK (n : Nat) : Fld := ⟨0x1000000 + n * 0x100000 + 0x3002C, 16, 8⟩
def WRP_VFY_STS_DISTURBED (n : Nat) : Fld := ⟨0x1000000 + n * 0x100000 + 0x3002C, 24, 8⟩
-- R233
def WRP_VFY_CLR_CLR (n : Nat) : Fld := ⟨0x1000000 + n * 0x100000 + 0x30030, 0, 1⟩
-- R263
def LOOP_ENG_STS_SAFE (n : Nat) : Fld := ⟨0x1000000 + n * 0x100000 + 0x40000, 2, 1⟩
def LOOP_ENG_STS_FREE (n : Nat) : Fld := ⟨0x1000000 + n * 0x100000 + 0x40000, 3, 1⟩
def LOOP_ENG_STS_SPARE_ENG (n : Nat) : Fld := ⟨0x1000000 + n * 0x100000 + 0x40000, 8, 1⟩
def LOOP_ENG_STS_SAMPLES (n : Nat) : Fld := ⟨0x1000000 + n * 0x100000 + 0x40000, 16, 16⟩
-- R264
def LOOP_SAMPLE_CFG_FREE_TICKS (n : Nat) : Fld := ⟨0x1000000 + n * 0x100000 + 0x40004, 0, 16⟩
def LOOP_SAMPLE_CFG_OSH (n : Nat) : Fld := ⟨0x1000000 + n * 0x100000 + 0x40004, 16, 4⟩
def LOOP_SAMPLE_CFG_KDPP (n : Nat) : Fld := ⟨0x1000000 + n * 0x100000 + 0x40004, 24, 8⟩
-- R265
def LOOP_CF_ADDR_INDEX (n : Nat) : Fld := ⟨0x1000000 + n * 0x100000 + 0x40008, 0, 10⟩
def LOOP_CF_ADDR_BANK (n : Nat) : Fld := ⟨0x1000000 + n * 0x100000 + 0x40008, 16, 1⟩
def LOOP_CF_ADDR_SLOT (n : Nat) : Fld := ⟨0x1000000 + n * 0x100000 + 0x40008, 24, 3⟩
def LOOP_CF_ADDR_SPACE (n : Nat) : Fld := ⟨0x1000000 + n * 0x100000 + 0x40008, 28, 2⟩
def LOOP_CF_ADDR_ERR (n : Nat) : Fld := ⟨0x1000000 + n * 0x100000 + 0x40008, 31, 1⟩
-- R266
def LOOP_CF_DATA_DATA (n : Nat) : Fld := ⟨0x1000000 + n * 0x100000 + 0x4000C, 0, 32⟩
-- R267
def LOOP_SLOT_CFG_ACTION (n s : Nat) : Fld := ⟨0x1000000 + n * 0x100000 + 0x40100 + s * 0x40, 18, 2⟩
def LOOP_SLOT_CFG_SUP (n s : Nat) : Fld := ⟨0x1000000 + n * 0x100000 + 0x40100 + s * 0x40, 20, 2⟩
def LOOP_SLOT_CFG_SUB (n s : Nat) : Fld := ⟨0x1000000 + n * 0x100000 + 0x40100 + s * 0x40, 22, 1⟩
def LOOP_SLOT_CFG_POL (n s : Nat) : Fld := ⟨0x1000000 + n * 0x100000 + 0x40100 + s * 0x40, 23, 1⟩
def LOOP_SLOT_CFG_DEST (n s : Nat) : Fld := ⟨0x1000000 + n * 0x100000 + 0x40100 + s * 0x40, 24, 4⟩
def LOOP_SLOT_CFG_SRC (n s : Nat) : Fld := ⟨0x1000000 + n * 0x100000 + 0x40100 + s * 0x40, 28, 4⟩
-- R268
def LOOP_SLOT_CTL_MODE (n s : Nat) : Fld := ⟨0x1000000 + n * 0x100000 + 0x40104 + s * 0x40, 0, 3⟩
def LOOP_SLOT_CTL_HOLD_I (n s : Nat) : Fld := ⟨0x1000000 + n * 0x100000 + 0x40104 + s * 0x40, 4, 1⟩
-- R269
def LOOP_SP_OFS_SP_OFS (n s : Nat) : Fld := ⟨0x1000000 + n * 0x100000 + 0x40108 + s * 0x40, 0, 32⟩
-- R270
def LOOP_OUT_LIM_SAT_CNT (n s : Nat) : Fld := ⟨0x1000000 + n * 0x100000 + 0x4010C + s * 0x40, 0, 16⟩
def LOOP_OUT_LIM_OUT_LIM (n s : Nat) : Fld := ⟨0x1000000 + n * 0x100000 + 0x4010C + s * 0x40, 16, 16⟩
-- R271
def LOOP_I_LIM_I_MIN (n s : Nat) : Fld := ⟨0x1000000 + n * 0x100000 + 0x40110 + s * 0x40, 0, 16⟩
def LOOP_I_LIM_I_MAX (n s : Nat) : Fld := ⟨0x1000000 + n * 0x100000 + 0x40110 + s * 0x40, 16, 16⟩
-- R272
def LOOP_BANK_REQ (n s : Nat) : Fld := ⟨0x1000000 + n * 0x100000 + 0x40114 + s * 0x40, 0, 1⟩
def LOOP_BANK_CANCEL (n s : Nat) : Fld := ⟨0x1000000 + n * 0x100000 + 0x40114 + s * 0x40, 1, 1⟩
def LOOP_BANK_ACTIVE (n s : Nat) : Fld := ⟨0x1000000 + n * 0x100000 + 0x40114 + s * 0x40, 4, 1⟩
def LOOP_BANK_CLR_STATE (n s : Nat) : Fld := ⟨0x1000000 + n * 0x100000 + 0x40114 + s * 0x40, 6, 1⟩
def LOOP_BANK_AT_TRIG (n s : Nat) : Fld := ⟨0x1000000 + n * 0x100000 + 0x40114 + s * 0x40, 7, 1⟩
def LOOP_BANK_TRIG (n s : Nat) : Fld := ⟨0x1000000 + n * 0x100000 + 0x40114 + s * 0x40, 8, 6⟩
def LOOP_BANK_BAD (n s : Nat) : Fld := ⟨0x1000000 + n * 0x100000 + 0x40114 + s * 0x40, 20, 2⟩
def LOOP_BANK_BUSY_REJ (n s : Nat) : Fld := ⟨0x1000000 + n * 0x100000 + 0x40114 + s * 0x40, 27, 1⟩
def LOOP_BANK_RESULT (n s : Nat) : Fld := ⟨0x1000000 + n * 0x100000 + 0x40114 + s * 0x40, 28, 3⟩
def LOOP_BANK_BUSY (n s : Nat) : Fld := ⟨0x1000000 + n * 0x100000 + 0x40114 + s * 0x40, 31, 1⟩
-- R273
def LOOP_PROF_LIM_A_LIM (n s : Nat) : Fld := ⟨0x1000000 + n * 0x100000 + 0x40118 + s * 0x40, 0, 16⟩
def LOOP_PROF_LIM_V_LIM (n s : Nat) : Fld := ⟨0x1000000 + n * 0x100000 + 0x40118 + s * 0x40, 16, 16⟩
-- R274
def LOOP_PROF_J_CAP_CNT (n s : Nat) : Fld := ⟨0x1000000 + n * 0x100000 + 0x4011C + s * 0x40, 0, 8⟩
def LOOP_PROF_J_CAPTURE (n s : Nat) : Fld := ⟨0x1000000 + n * 0x100000 + 0x4011C + s * 0x40, 8, 8⟩
def LOOP_PROF_J_J_LIM (n s : Nat) : Fld := ⟨0x1000000 + n * 0x100000 + 0x4011C + s * 0x40, 16, 16⟩
-- R275
def LOOP_PROF_TGT_TARGET (n s : Nat) : Fld := ⟨0x1000000 + n * 0x100000 + 0x40120 + s * 0x40, 0, 32⟩
-- R276
def LOOP_PROF_CTL_CMD (n s : Nat) : Fld := ⟨0x1000000 + n * 0x100000 + 0x40124 + s * 0x40, 0, 4⟩
def LOOP_PROF_CTL_REL (n s : Nat) : Fld := ⟨0x1000000 + n * 0x100000 + 0x40124 + s * 0x40, 8, 1⟩
def LOOP_PROF_CTL_LAYER (n s : Nat) : Fld := ⟨0x1000000 + n * 0x100000 + 0x40124 + s * 0x40, 11, 5⟩
def LOOP_PROF_CTL_CROSS (n s : Nat) : Fld := ⟨0x1000000 + n * 0x100000 + 0x40124 + s * 0x40, 16, 12⟩
def LOOP_PROF_CTL_RESULT (n s : Nat) : Fld := ⟨0x1000000 + n * 0x100000 + 0x40124 + s * 0x40, 28, 3⟩
def LOOP_PROF_CTL_BUSY (n s : Nat) : Fld := ⟨0x1000000 + n * 0x100000 + 0x40124 + s * 0x40, 31, 1⟩
-- R277
def LOOP_FF_CTL_FF_EN (n s : Nat) : Fld := ⟨0x1000000 + n * 0x100000 + 0x40128 + s * 0x40, 0, 1⟩
def LOOP_FF_CTL_LEARN (n s : Nat) : Fld := ⟨0x1000000 + n * 0x100000 + 0x40128 + s * 0x40, 1, 1⟩
def LOOP_FF_CTL_CLEAR (n s : Nat) : Fld := ⟨0x1000000 + n * 0x100000 + 0x40128 + s * 0x40, 2, 1⟩
def LOOP_FF_CTL_CONT (n s : Nat) : Fld := ⟨0x1000000 + n * 0x100000 + 0x40128 + s * 0x40, 3, 1⟩
def LOOP_FF_CTL_FF_SPEED (n s : Nat) : Fld := ⟨0x1000000 + n * 0x100000 + 0x40128 + s * 0x40, 4, 1⟩
def LOOP_FF_CTL_LRN_SH (n s : Nat) : Fld := ⟨0x1000000 + n * 0x100000 + 0x40128 + s * 0x40, 5, 3⟩
def LOOP_FF_CTL_FF_LEAD (n s : Nat) : Fld := ⟨0x1000000 + n * 0x100000 + 0x40128 + s * 0x40, 8, 8⟩
def LOOP_FF_CTL_REVS (n s : Nat) : Fld := ⟨0x1000000 + n * 0x100000 + 0x40128 + s * 0x40, 16, 5⟩
-- R278
def LOOP_SUP_CFG_BLANK (n s : Nat) : Fld := ⟨0x1000000 + n * 0x100000 + 0x4012C + s * 0x40, 0, 12⟩
def LOOP_SUP_CFG_RES_SH (n s : Nat) : Fld := ⟨0x1000000 + n * 0x100000 + 0x4012C + s * 0x40, 12, 4⟩
def LOOP_SUP_CFG_RES_LIM (n s : Nat) : Fld := ⟨0x1000000 + n * 0x100000 + 0x4012C + s * 0x40, 16, 16⟩
-- R279
def LOOP_OSC_CFG_OSC_AMP (n s : Nat) : Fld := ⟨0x1000000 + n * 0x100000 + 0x40130 + s * 0x40, 0, 5⟩
def LOOP_OSC_CFG_OSC_REP (n s : Nat) : Fld := ⟨0x1000000 + n * 0x100000 + 0x40130 + s * 0x40, 5, 3⟩
def LOOP_OSC_CFG_CNT_HI (n s : Nat) : Fld := ⟨0x1000000 + n * 0x100000 + 0x40130 + s * 0x40, 8, 8⟩
def LOOP_OSC_CFG_CNT_LO (n s : Nat) : Fld := ⟨0x1000000 + n * 0x100000 + 0x40130 + s * 0x40, 16, 8⟩
def LOOP_OSC_CFG_OSC_WIN (n s : Nat) : Fld := ⟨0x1000000 + n * 0x100000 + 0x40130 + s * 0x40, 24, 8⟩
-- R280
def LOOP_STS_INT_SAT (n s : Nat) : Fld := ⟨0x1000000 + n * 0x100000 + 0x40134 + s * 0x40, 0, 1⟩
def LOOP_STS_OSAT (n s : Nat) : Fld := ⟨0x1000000 + n * 0x100000 + 0x40134 + s * 0x40, 1, 1⟩
def LOOP_STS_ICLAMP (n s : Nat) : Fld := ⟨0x1000000 + n * 0x100000 + 0x40134 + s * 0x40, 2, 1⟩
def LOOP_STS_FAULT (n s : Nat) : Fld := ⟨0x1000000 + n * 0x100000 + 0x40134 + s * 0x40, 3, 1⟩
def LOOP_STS_FALLBACK (n s : Nat) : Fld := ⟨0x1000000 + n * 0x100000 + 0x40134 + s * 0x40, 16, 8⟩
def LOOP_STS_MODE (n s : Nat) : Fld := ⟨0x1000000 + n * 0x100000 + 0x40134 + s * 0x40, 24, 3⟩
def LOOP_STS_FCODE (n s : Nat) : Fld := ⟨0x1000000 + n * 0x100000 + 0x40134 + s * 0x40, 28, 4⟩
-- R281
def LOOP_VAL_ERR (n s : Nat) : Fld := ⟨0x1000000 + n * 0x100000 + 0x40138 + s * 0x40, 0, 16⟩
def LOOP_VAL_OUT (n s : Nat) : Fld := ⟨0x1000000 + n * 0x100000 + 0x40138 + s * 0x40, 16, 16⟩
-- R282
def LOOP_RESID_OSC_CNT (n s : Nat) : Fld := ⟨0x1000000 + n * 0x100000 + 0x4013C + s * 0x40, 0, 16⟩
def LOOP_RESID_RES (n s : Nat) : Fld := ⟨0x1000000 + n * 0x100000 + 0x4013C + s * 0x40, 16, 16⟩
-- R283
def ACT_COIL_CFG_EN (n c : Nat) : Fld := ⟨0x1000000 + n * 0x100000 + 0x70000 + c * 0x4, 0, 1⟩
def ACT_COIL_CFG_POL (n c : Nat) : Fld := ⟨0x1000000 + n * 0x100000 + 0x70000 + c * 0x4, 1, 1⟩
def ACT_COIL_CFG_I_LIM (n c : Nat) : Fld := ⟨0x1000000 + n * 0x100000 + 0x70000 + c * 0x4, 8, 8⟩
-- R284
def ACT_COIL_STS_ON (n c : Nat) : Fld := ⟨0x1000000 + n * 0x100000 + 0x70010 + c * 0x4, 0, 1⟩
def ACT_COIL_STS_OC (n c : Nat) : Fld := ⟨0x1000000 + n * 0x100000 + 0x70010 + c * 0x4, 1, 1⟩
def ACT_COIL_STS_OPEN (n c : Nat) : Fld := ⟨0x1000000 + n * 0x100000 + 0x70010 + c * 0x4, 2, 1⟩
def ACT_COIL_STS_I_MEAS (n c : Nat) : Fld := ⟨0x1000000 + n * 0x100000 + 0x70010 + c * 0x4, 16, 16⟩
-- R285
def ACT_SAFE_CFG_V12_OK (n : Nat) : Fld := ⟨0x1000000 + n * 0x100000 + 0x70020, 0, 1⟩
def ACT_SAFE_CFG_V12 (n : Nat) : Fld := ⟨0x1000000 + n * 0x100000 + 0x70020, 8, 8⟩
def ACT_SAFE_CFG_DEFOCUS (n : Nat) : Fld := ⟨0x1000000 + n * 0x100000 + 0x70020, 16, 16⟩
-- R312
def SPN_CMD_TARGET_RPM (n : Nat) : Fld := ⟨0x1000000 + n * 0x100000 + 0x50000, 0, 16⟩
def SPN_CMD_CMD (n : Nat) : Fld := ⟨0x1000000 + n * 0x100000 + 0x50000, 16, 4⟩
def SPN_CMD_METHOD (n : Nat) : Fld := ⟨0x1000000 + n * 0x100000 + 0x50000, 24, 2⟩
def SPN_CMD_RESULT (n : Nat) : Fld := ⟨0x1000000 + n * 0x100000 + 0x50000, 28, 3⟩
def SPN_CMD_BUSY (n : Nat) : Fld := ⟨0x1000000 + n * 0x100000 + 0x50000, 31, 1⟩
-- R313
def SPN_STS_UV (n : Nat) : Fld := ⟨0x1000000 + n * 0x100000 + 0x50004, 0, 1⟩
def SPN_STS_OC (n : Nat) : Fld := ⟨0x1000000 + n * 0x100000 + 0x50004, 1, 1⟩
def SPN_STS_OBS_LOST (n : Nat) : Fld := ⟨0x1000000 + n * 0x100000 + 0x50004, 2, 1⟩
def SPN_STS_STALL (n : Nat) : Fld := ⟨0x1000000 + n * 0x100000 + 0x50004, 3, 1⟩
def SPN_STS_PROBE_AMB (n : Nat) : Fld := ⟨0x1000000 + n * 0x100000 + 0x50004, 4, 1⟩
def SPN_STS_REV (n : Nat) : Fld := ⟨0x1000000 + n * 0x100000 + 0x50004, 5, 1⟩
def SPN_STS_REGEN_LIM (n : Nat) : Fld := ⟨0x1000000 + n * 0x100000 + 0x50004, 6, 1⟩
def SPN_STS_BRK_SHORT (n : Nat) : Fld := ⟨0x1000000 + n * 0x100000 + 0x50004, 7, 1⟩
def SPN_STS_TRIES (n : Nat) : Fld := ⟨0x1000000 + n * 0x100000 + 0x50004, 10, 2⟩
def SPN_STS_STATE (n : Nat) : Fld := ⟨0x1000000 + n * 0x100000 + 0x50004, 12, 4⟩
def SPN_STS_SPEED (n : Nat) : Fld := ⟨0x1000000 + n * 0x100000 + 0x50004, 16, 16⟩
-- R314
def SPN_MOTOR_MOTOR_R (n : Nat) : Fld := ⟨0x1000000 + n * 0x100000 + 0x50008, 0, 16⟩
def SPN_MOTOR_MOTOR_L (n : Nat) : Fld := ⟨0x1000000 + n * 0x100000 + 0x50008, 16, 12⟩
def SPN_MOTOR_POLES (n : Nat) : Fld := ⟨0x1000000 + n * 0x100000 + 0x50008, 28, 4⟩
-- R315
def SPN_KE_EMF_MIN (n : Nat) : Fld := ⟨0x1000000 + n * 0x100000 + 0x5000C, 0, 16⟩
def SPN_KE_KE (n : Nat) : Fld := ⟨0x1000000 + n * 0x100000 + 0x5000C, 16, 16⟩
-- R316
def SPN_PWM_CFG_CUR_BW (n : Nat) : Fld := ⟨0x1000000 + n * 0x100000 + 0x50010, 0, 16⟩
def SPN_PWM_CFG_DEAD (n : Nat) : Fld := ⟨0x1000000 + n * 0x100000 + 0x50010, 16, 8⟩
def SPN_PWM_CFG_PWM_KHZ (n : Nat) : Fld := ⟨0x1000000 + n * 0x100000 + 0x50010, 24, 8⟩
-- R317
def SPN_SENSE_CFG_OC_LIM (n : Nat) : Fld := ⟨0x1000000 + n * 0x100000 + 0x50014, 0, 16⟩
def SPN_SENSE_CFG_SHUNT (n : Nat) : Fld := ⟨0x1000000 + n * 0x100000 + 0x50014, 16, 16⟩
-- R318
def SPN_FOC_CFG_SPD_SLEW (n : Nat) : Fld := ⟨0x1000000 + n * 0x100000 + 0x50018, 0, 8⟩
def SPN_FOC_CFG_OBS_BW (n : Nat) : Fld := ⟨0x1000000 + n * 0x100000 + 0x50018, 8, 8⟩
def SPN_FOC_CFG_IQ_FS (n : Nat) : Fld := ⟨0x1000000 + n * 0x100000 + 0x50018, 16, 16⟩
-- R319
def SPN_START_CFG_RAMP_ACC (n : Nat) : Fld := ⟨0x1000000 + n * 0x100000 + 0x5001C, 0, 8⟩
def SPN_START_CFG_START_TRY (n : Nat) : Fld := ⟨0x1000000 + n * 0x100000 + 0x5001C, 8, 2⟩
def SPN_START_CFG_START_I (n : Nat) : Fld := ⟨0x1000000 + n * 0x100000 + 0x5001C, 10, 6⟩
def SPN_START_CFG_ALIGN_MS (n : Nat) : Fld := ⟨0x1000000 + n * 0x100000 + 0x5001C, 16, 8⟩
def SPN_START_CFG_PROBE_US (n : Nat) : Fld := ⟨0x1000000 + n * 0x100000 + 0x5001C, 24, 8⟩
-- R320
def SPN_BRAKE_CFG_REGEN_ILIM (n : Nat) : Fld := ⟨0x1000000 + n * 0x100000 + 0x50020, 0, 16⟩
def SPN_BRAKE_CFG_SHORT_ILIM (n : Nat) : Fld := ⟨0x1000000 + n * 0x100000 + 0x50020, 16, 16⟩
-- R321
def SPN_MEAS_ID (n : Nat) : Fld := ⟨0x1000000 + n * 0x100000 + 0x50024, 0, 16⟩
def SPN_MEAS_IQ (n : Nat) : Fld := ⟨0x1000000 + n * 0x100000 + 0x50024, 16, 16⟩
-- R322
def PWR_VM_BRK_BRK_OFF : Fld := ⟨0x100400, 0, 12⟩
def PWR_VM_BRK_BRK_ON : Fld := ⟨0x100400, 16, 12⟩
-- R323
def PWR_VM_LIM_UV_LIM : Fld := ⟨0x100404, 0, 12⟩
def PWR_VM_LIM_REGEN_CEIL : Fld := ⟨0x100404, 16, 12⟩
-- R324
def PWR_BRK_CFG_BRK_IMIN : Fld := ⟨0x100408, 0, 16⟩
def PWR_BRK_CFG_BRK_I : Fld := ⟨0x100408, 16, 8⟩
def PWR_BRK_CFG_BRK_RISE : Fld := ⟨0x100408, 24, 8⟩
-- R325
def PWR_VM_STS_BRAKE_FAULT : Fld := ⟨0x10040C, 1, 1⟩
def PWR_VM_STS_VM_ABS : Fld := ⟨0x10040C, 2, 1⟩
def PWR_VM_STS_BRK_ACTIVE : Fld := ⟨0x10040C, 3, 1⟩
def PWR_VM_STS_UV : Fld := ⟨0x10040C, 4, 1⟩
def PWR_VM_STS_TEST_FAIL : Fld := ⟨0x10040C, 5, 1⟩
def PWR_VM_STS_K : Fld := ⟨0x10040C, 12, 8⟩
def PWR_VM_STS_VM : Fld := ⟨0x10040C, 20, 12⟩
-- R342
def SLD_CMD_CMD (n : Nat) : Fld := ⟨0x1000000 + n * 0x100000 + 0x60000, 0, 4⟩
def SLD_CMD_REL (n : Nat) : Fld := ⟨0x1000000 + n * 0x100000 + 0x60000, 8, 1⟩
def SLD_CMD_RESULT (n : Nat) : Fld := ⟨0x1000000 + n * 0x100000 + 0x60000, 28, 3⟩
def SLD_CMD_BUSY (n : Nat) : Fld := ⟨0x1000000 + n * 0x100000 + 0x60000, 31, 1⟩
-- R343
def SLD_TARGET_TARGET (n : Nat) : Fld := ⟨0x1000000 + n * 0x100000 + 0x60004, 0, 32⟩
-- R344
def SLD_POS_POS (n : Nat) : Fld := ⟨0x1000000 + n * 0x100000 + 0x60008, 0, 32⟩
-- R345
def SLD_STS_STATE (n : Nat) : Fld := ⟨0x1000000 + n * 0x100000 + 0x6000C, 0, 3⟩
def SLD_STS_CHOP (n : Nat) : Fld := ⟨0x1000000 + n * 0x100000 + 0x6000C, 3, 1⟩
def SLD_STS_UV (n : Nat) : Fld := ⟨0x1000000 + n * 0x100000 + 0x6000C, 4, 1⟩
def SLD_STS_STALL (n : Nat) : Fld := ⟨0x1000000 + n * 0x100000 + 0x6000C, 5, 1⟩
def SLD_STS_POS_OK (n : Nat) : Fld := ⟨0x1000000 + n * 0x100000 + 0x6000C, 6, 1⟩
def SLD_STS_HOME_REQ (n : Nat) : Fld := ⟨0x1000000 + n * 0x100000 + 0x6000C, 7, 1⟩
def SLD_STS_LOAD (n : Nat) : Fld := ⟨0x1000000 + n * 0x100000 + 0x6000C, 8, 8⟩
def SLD_STS_VEL (n : Nat) : Fld := ⟨0x1000000 + n * 0x100000 + 0x6000C, 16, 16⟩
-- R346
def SLD_PROF_V_FOLLOW_FS (n : Nat) : Fld := ⟨0x1000000 + n * 0x100000 + 0x60010, 0, 16⟩
def SLD_PROF_V_V_MAX (n : Nat) : Fld := ⟨0x1000000 + n * 0x100000 + 0x60010, 16, 16⟩
-- R347
def SLD_PROF_A_J_MAX (n : Nat) : Fld := ⟨0x1000000 + n * 0x100000 + 0x60014, 0, 16⟩
def SLD_PROF_A_A_MAX (n : Nat) : Fld := ⟨0x1000000 + n * 0x100000 + 0x60014, 16, 16⟩
-- R348
def SLD_CUR_CFG_HOLD_DELAY (n : Nat) : Fld := ⟨0x1000000 + n * 0x100000 + 0x60018, 0, 16⟩
def SLD_CUR_CFG_HOLD_PCT (n : Nat) : Fld := ⟨0x1000000 + n * 0x100000 + 0x60018, 16, 8⟩
def SLD_CUR_CFG_RUN_I (n : Nat) : Fld := ⟨0x1000000 + n * 0x100000 + 0x60018, 24, 8⟩
-- R349
def SLD_CHOP_CFG_Q_PWM_KHZ (n : Nat) : Fld := ⟨0x1000000 + n * 0x100000 + 0x6001C, 0, 8⟩
def SLD_CHOP_CFG_TBLANK (n : Nat) : Fld := ⟨0x1000000 + n * 0x100000 + 0x6001C, 9, 2⟩
def SLD_CHOP_CFG_FAST (n : Nat) : Fld := ⟨0x1000000 + n * 0x100000 + 0x6001C, 11, 4⟩
def SLD_CHOP_CFG_TOFF (n : Nat) : Fld := ⟨0x1000000 + n * 0x100000 + 0x6001C, 15, 5⟩
def SLD_CHOP_CFG_THRESH (n : Nat) : Fld := ⟨0x1000000 + n * 0x100000 + 0x6001C, 20, 12⟩
-- R350
def SLD_COIL_L_COIL (n : Nat) : Fld := ⟨0x1000000 + n * 0x100000 + 0x60020, 0, 16⟩
def SLD_COIL_R_COIL (n : Nat) : Fld := ⟨0x1000000 + n * 0x100000 + 0x60020, 16, 16⟩
-- R351
def SLD_STALL_CFG_KE_SLD (n : Nat) : Fld := ⟨0x1000000 + n * 0x100000 + 0x60024, 0, 16⟩
def SLD_STALL_CFG_STALL_CNT (n : Nat) : Fld := ⟨0x1000000 + n * 0x100000 + 0x60024, 20, 4⟩
def SLD_STALL_CFG_STALL_ANG (n : Nat) : Fld := ⟨0x1000000 + n * 0x100000 + 0x60024, 24, 8⟩
-- R352
def SLD_MIN_POS_MIN_POS (n : Nat) : Fld := ⟨0x1000000 + n * 0x100000 + 0x60028, 0, 32⟩
-- R353
def SLD_MAX_POS_MAX_POS (n : Nat) : Fld := ⟨0x1000000 + n * 0x100000 + 0x6002C, 0, 32⟩
-- R354
def SLD_MECH_STEP_NM (n : Nat) : Fld := ⟨0x1000000 + n * 0x100000 + 0x60030, 0, 16⟩
def SLD_MECH_HOME_TMO (n : Nat) : Fld := ⟨0x1000000 + n * 0x100000 + 0x60030, 16, 15⟩
def SLD_MECH_DIR (n : Nat) : Fld := ⟨0x1000000 + n * 0x100000 + 0x60030, 31, 1⟩
-- R373
def SEQ_CTL_CMD (n : Nat) : Fld := ⟨0x1000000 + n * 0x100000 + 0x80000, 0, 4⟩
def SEQ_CTL_L_TGT (n : Nat) : Fld := ⟨0x1000000 + n * 0x100000 + 0x80000, 16, 5⟩
def SEQ_CTL_REL_SPN (n : Nat) : Fld := ⟨0x1000000 + n * 0x100000 + 0x80000, 24, 1⟩
def SEQ_CTL_REL_SLD (n : Nat) : Fld := ⟨0x1000000 + n * 0x100000 + 0x80000, 25, 1⟩
def SEQ_CTL_RESULT (n : Nat) : Fld := ⟨0x1000000 + n * 0x100000 + 0x80000, 28, 3⟩
def SEQ_CTL_BUSY (n : Nat) : Fld := ⟨0x1000000 + n * 0x100000 + 0x80000, 31, 1⟩
-- R374
def SEQ_STS_SHOCK_CNT (n : Nat) : Fld := ⟨0x1000000 + n * 0x100000 + 0x80004, 4, 4⟩
def SEQ_STS_LAYER (n : Nat) : Fld := ⟨0x1000000 + n * 0x100000 + 0x80004, 8, 5⟩
def SEQ_STS_CHARGE (n : Nat) : Fld := ⟨0x1000000 + n * 0x100000 + 0x80004, 16, 1⟩
def SEQ_STS_BUDGET_WAIT (n : Nat) : Fld := ⟨0x1000000 + n * 0x100000 + 0x80004, 17, 1⟩
def SEQ_STS_GEN (n : Nat) : Fld := ⟨0x1000000 + n * 0x100000 + 0x80004, 18, 2⟩
def SEQ_STS_CAUSE (n : Nat) : Fld := ⟨0x1000000 + n * 0x100000 + 0x80004, 20, 4⟩
def SEQ_STS_STEP (n : Nat) : Fld := ⟨0x1000000 + n * 0x100000 + 0x80004, 24, 4⟩
def SEQ_STS_STATE (n : Nat) : Fld := ⟨0x1000000 + n * 0x100000 + 0x80004, 28, 4⟩
-- R375
def SEQ_LOAD_CFG_FS_RPM (n : Nat) : Fld := ⟨0x1000000 + n * 0x100000 + 0x80008, 0, 8⟩
def SEQ_LOAD_CFG_CLAMP_DB (n : Nat) : Fld := ⟨0x1000000 + n * 0x100000 + 0x80008, 8, 8⟩
def SEQ_LOAD_CFG_LOAD_RPM (n : Nat) : Fld := ⟨0x1000000 + n * 0x100000 + 0x80008, 16, 16⟩
-- R376
def SEQ_FOCUS_CFG_FS_SUM (n : Nat) : Fld := ⟨0x1000000 + n * 0x100000 + 0x8000C, 8, 8⟩
def SEQ_FOCUS_CFG_FS_TRY (n : Nat) : Fld := ⟨0x1000000 + n * 0x100000 + 0x8000C, 20, 4⟩
def SEQ_FOCUS_CFG_FS_MS (n : Nat) : Fld := ⟨0x1000000 + n * 0x100000 + 0x8000C, 24, 8⟩
-- R377
def SEQ_TRK_CFG_PULL_V (n : Nat) : Fld := ⟨0x1000000 + n * 0x100000 + 0x80010, 0, 8⟩
def SEQ_TRK_CFG_TRK_RANGE (n : Nat) : Fld := ⟨0x1000000 + n * 0x100000 + 0x80010, 16, 16⟩
-- R378
def SEQ_TMO_CFG_PARK_TMO (n : Nat) : Fld := ⟨0x1000000 + n * 0x100000 + 0x80014, 0, 8⟩
def SEQ_TMO_CFG_CAL_TMO (n : Nat) : Fld := ⟨0x1000000 + n * 0x100000 + 0x80014, 8, 8⟩
def SEQ_TMO_CFG_PULL_TMO (n : Nat) : Fld := ⟨0x1000000 + n * 0x100000 + 0x80014, 16, 8⟩
def SEQ_TMO_CFG_SPIN_TMO (n : Nat) : Fld := ⟨0x1000000 + n * 0x100000 + 0x80014, 24, 8⟩
-- R379
def SEQ_RECOV_CFG_ZSWAP (n : Nat) : Fld := ⟨0x1000000 + n * 0x100000 + 0x80018, 0, 1⟩
def SEQ_RECOV_CFG_SHOCK_TRY (n : Nat) : Fld := ⟨0x1000000 + n * 0x100000 + 0x80018, 20, 4⟩
def SEQ_RECOV_CFG_SHOCK_WIN (n : Nat) : Fld := ⟨0x1000000 + n * 0x100000 + 0x80018, 24, 8⟩
-- R380
def SEQ_PWR_CFG_SPIN_W (n : Nat) : Fld := ⟨0x1000000 + n * 0x100000 + 0x8001C, 8, 8⟩
def SEQ_PWR_CFG_IDLE_S (n : Nat) : Fld := ⟨0x1000000 + n * 0x100000 + 0x8001C, 16, 16⟩
-- R381
def SEQ_PARK_POS_PARK_POS (n : Nat) : Fld := ⟨0x1000000 + n * 0x100000 + 0x80020, 0, 32⟩
-- R382
def PWR_SPIN_BUDGET_IN_USE : Fld := ⟨0x100410, 0, 16⟩
def PWR_SPIN_BUDGET_SPINUP_W : Fld := ⟨0x100410, 16, 16⟩
-- R409
def MGMT_ID_REVISION : Fld := ⟨0x0, 0, 8⟩
def MGMT_ID_PART : Fld := ⟨0x0, 16, 16⟩
-- R410
def MGMT_ETH_CFG_MODE (p : Nat) : Fld := ⟨0x300 + p * 0x4, 0, 2⟩
def MGMT_ETH_CFG_EN (p : Nat) : Fld := ⟨0x300 + p * 0x4, 2, 1⟩
def MGMT_ETH_CFG_LINK (p : Nat) : Fld := ⟨0x300 + p * 0x4, 8, 4⟩
def MGMT_ETH_CFG_ERR (p : Nat) : Fld := ⟨0x300 + p * 0x4, 12, 1⟩
-- R411
def MGMT_PTP_STS_STATE : Fld := ⟨0x310, 0, 3⟩
def MGMT_PTP_STS_BASE_CHG : Fld := ⟨0x310, 3, 1⟩
def MGMT_PTP_STS_OFFSET : Fld := ⟨0x310, 4, 12⟩
def MGMT_PTP_STS_UTC_OFS : Fld := ⟨0x310, 16, 8⟩
-- R412
def MGMT_TAI_NS_NS : Fld := ⟨0x314, 0, 32⟩
-- R413
def MGMT_TAI_SEC_LO_SEC_LO : Fld := ⟨0x318, 0, 32⟩
-- R414
def MGMT_TAI_SEC_HI_SEC_HI : Fld := ⟨0x31C, 0, 16⟩
-- R444
def HQ_STAMP_LO_STAMP_LO : Fld := ⟨0x300000, 0, 32⟩
-- R445
def HQ_STAMP_HI_STAMP_HI : Fld := ⟨0x300004, 0, 32⟩
-- R446
def HQ_INTAKE_STS_CTX_USED : Fld := ⟨0x300008, 0, 18⟩
def HQ_INTAKE_STS_ACT : Fld := ⟨0x300008, 30, 1⟩
def HQ_INTAKE_STS_STOPPED : Fld := ⟨0x300008, 31, 1⟩
-- R447
def HQ_LOCK_STS_USED : Fld := ⟨0x30000C, 0, 15⟩
def HQ_LOCK_STS_STALLED : Fld := ⟨0x30000C, 16, 15⟩
-- R448
def HQ_CMT_CFG_COMMIT_MS : Fld := ⟨0x300010, 0, 10⟩
-- R449
def HQ_CTL_SEL_CNTLID : Fld := ⟨0x300100, 0, 16⟩
def HQ_CTL_SEL_VALID : Fld := ⟨0x300100, 31, 1⟩
-- R450
def HQ_CTL_BUDGET_BW_SHARE : Fld := ⟨0x300104, 0, 11⟩
def HQ_CTL_BUDGET_INFLIGHT : Fld := ⟨0x300104, 16, 16⟩
-- R451
def HQ_CTL_STS_PAUSED : Fld := ⟨0x300108, 0, 1⟩
def HQ_CTL_STS_INFLIGHT_NOW : Fld := ⟨0x300108, 16, 16⟩
-- R452
def HQ_TEN_SHARE_CMP_SHARE : Fld := ⟨0x30010C, 0, 11⟩
def HQ_TEN_SHARE_RASTER : Fld := ⟨0x30010C, 31, 1⟩
-- R453
def HQ_NS_SEL_NSID : Fld := ⟨0x300200, 0, 32⟩
-- R454
def HQ_NS_QUOTA_CAP_QUOTA : Fld := ⟨0x300204, 0, 32⟩
-- R455
def HQ_NS_USE_USED : Fld := ⟨0x300208, 0, 32⟩
-- R481
def CMP_CFG_MIN_SAVE : Fld := ⟨0x400000, 0, 8⟩
def CMP_CFG_RATIO_DEF : Fld := ⟨0x400000, 16, 16⟩
-- R482
def CMP_STS_CRC : Fld := ⟨0x400004, 0, 1⟩
def CMP_STS_FORMAT : Fld := ⟨0x400004, 1, 1⟩
def CMP_STS_QUEUED : Fld := ⟨0x400004, 16, 16⟩
-- R483
def CMP_RAS_SEL_NSID : Fld := ⟨0x400010, 0, 32⟩
-- R484
def CMP_RAS_GEOM_C : Fld := ⟨0x400014, 0, 3⟩
def CMP_RAS_GEOM_B16 : Fld := ⟨0x400014, 4, 1⟩
def CMP_RAS_GEOM_WIDTH : Fld := ⟨0x400014, 16, 16⟩
-- R485
def CMP_ENG_STS_OWNER (e : Nat) : Fld := ⟨0x400100 + e * 0x4, 0, 14⟩
def CMP_ENG_STS_STATE (e : Nat) : Fld := ⟨0x400100 + e * 0x4, 29, 3⟩
-- R517
def MEM_CFG_MTS : Fld := ⟨0x500000, 0, 12⟩
def MEM_CFG_COL_BITS : Fld := ⟨0x500000, 12, 4⟩
def MEM_CFG_ROW_BITS : Fld := ⟨0x500000, 16, 5⟩
def MEM_CFG_WIDTH : Fld := ⟨0x500000, 23, 1⟩
def MEM_CFG_RANKS : Fld := ⟨0x500000, 24, 2⟩
def MEM_CFG_DPC : Fld := ⟨0x500000, 26, 2⟩
def MEM_CFG_DIMM_LOG2 : Fld := ⟨0x500000, 28, 4⟩
-- R518
def MEM_CTL_START : Fld := ⟨0x500004, 0, 1⟩
def MEM_CTL_TRAIN : Fld := ⟨0x500004, 1, 1⟩
def MEM_CTL_RECENTER : Fld := ⟨0x500004, 2, 1⟩
-- R519
def MEM_STS_STATE : Fld := ⟨0x500008, 0, 3⟩
def MEM_STS_START_ERR : Fld := ⟨0x500008, 8, 4⟩
def MEM_STS_WR_ERR : Fld := ⟨0x500008, 12, 1⟩
def MEM_STS_CH_TRAINED : Fld := ⟨0x500008, 16, 8⟩
def MEM_STS_CH_FAIL : Fld := ⟨0x500008, 24, 8⟩
-- R520
def MEM_REF_CFG_RECENTER_MS : Fld := ⟨0x500010, 0, 16⟩
def MEM_REF_CFG_RECENTER_DT : Fld := ⟨0x500010, 24, 4⟩
def MEM_REF_CFG_POSTPONE_MAX : Fld := ⟨0x500010, 28, 4⟩
-- R521
def MEM_RINSE_CFG_RINSE_H : Fld := ⟨0x500014, 0, 8⟩
def MEM_RINSE_CFG_EN : Fld := ⟨0x500014, 31, 1⟩
-- R522
def MEM_RINSE_STS_PAGE : Fld := ⟨0x500018, 0, 30⟩
-- R523
def MEM_RET_POL_DEV_PAGES : Fld := ⟨0x50001C, 0, 8⟩
def MEM_RET_POL_UE_PAGE : Fld := ⟨0x50001C, 8, 8⟩
def MEM_RET_POL_CE_PAGE : Fld := ⟨0x50001C, 16, 8⟩
def MEM_RET_POL_POL_EN : Fld := ⟨0x50001C, 31, 1⟩
-- R524
def MEM_RET_CTL_PAGE : Fld := ⟨0x500020, 0, 30⟩
def MEM_RET_CTL_CMD : Fld := ⟨0x500020, 30, 2⟩
-- R525
def MEM_RET_STS_COUNT : Fld := ⟨0x500024, 0, 13⟩
def MEM_RET_STS_RESULT : Fld := ⟨0x500024, 28, 3⟩
def MEM_RET_STS_BUSY : Fld := ⟨0x500024, 31, 1⟩
-- R526
def MEM_FILL_BASE_PAGE : Fld := ⟨0x500030, 0, 30⟩
-- R527
def MEM_FILL_LEN_PAGES : Fld := ⟨0x500034, 0, 30⟩
-- R528
def MEM_FILL_PAT_PAT : Fld := ⟨0x500038, 0, 32⟩
-- R529
def MEM_FILL_CTL_START : Fld := ⟨0x50003C, 0, 1⟩
def MEM_FILL_CTL_RESULT : Fld := ⟨0x50003C, 28, 3⟩
def MEM_FILL_CTL_BUSY : Fld := ⟨0x50003C, 31, 1⟩
-- R530
def MEM_XMAP_MASK_LO (i : Nat) : Fld := ⟨0x500100 + i * 0x8, 0, 32⟩
-- R531
def MEM_XMAP_HI_MASK_HI (i : Nat) : Fld := ⟨0x500104 + i * 0x8, 0, 3⟩
def MEM_XMAP_HI_BASE (i : Nat) : Fld := ⟨0x500104 + i * 0x8, 8, 6⟩
-- R532
def MEM_CH_STS_STATE (c : Nat) : Fld := ⟨0x500200 + c * 0x4, 0, 2⟩
def MEM_CH_STS_CLR (c : Nat) : Fld := ⟨0x500200 + c * 0x4, 4, 1⟩
def MEM_CH_STS_ALERTS (c : Nat) : Fld := ⟨0x500200 + c * 0x4, 6, 2⟩
def MEM_CH_STS_UE (c : Nat) : Fld := ⟨0x500200 + c * 0x4, 8, 8⟩
def MEM_CH_STS_CE (c : Nat) : Fld := ⟨0x500200 + c * 0x4, 16, 16⟩
-- R533
def MEM_DEV_MARK_VALID (c r : Nat) : Fld := ⟨0x500240 + c * 0x4, 8 * r + 7, 1⟩
def MEM_DEV_MARK_DEVICE (c r : Nat) : Fld := ⟨0x500240 + c * 0x4, 8 * r, 5⟩
-- R534
def MEM_TRN_RES_WR_EYE (c g : Nat) : Fld := ⟨0x501000 + c * 0x80 + g * 0x4, 0, 8⟩
def MEM_TRN_RES_WR_CTR (c g : Nat) : Fld := ⟨0x501000 + c * 0x80 + g * 0x4, 8, 8⟩
def MEM_TRN_RES_RD_EYE (c g : Nat) : Fld := ⟨0x501000 + c * 0x80 + g * 0x4, 16, 8⟩
def MEM_TRN_RES_RD_CTR (c g : Nat) : Fld := ⟨0x501000 + c * 0x80 + g * 0x4, 24, 8⟩
-- R548
def MC_CFG_SCRUB_MIN : Fld := ⟨0x600000, 0, 11⟩
-- R549
def MC_WAYMASK_MASK (c : Nat) : Fld := ⟨0x600100 + c * 0x4, 0, 16⟩
def MC_WAYMASK_STREAM_ALL (c : Nat) : Fld := ⟨0x600100 + c * 0x4, 16, 1⟩
-- R550
def MC_OCC_LINES (c : Nat) : Fld := ⟨0x600140 + c * 0x4, 0, 18⟩
-- R551
def MC_MAINT_ADDR_LINE_LO : Fld := ⟨0x600200, 0, 32⟩
-- R552
def MC_MAINT_ARG_SET : Fld := ⟨0x600204, 0, 14⟩
def MC_MAINT_ARG_LINE_HI : Fld := ⟨0x600204, 14, 2⟩
def MC_MAINT_ARG_COUNT : Fld := ⟨0x600204, 16, 16⟩
-- R553
def MC_MAINT_CTL_CMD : Fld := ⟨0x600208, 0, 2⟩
def MC_MAINT_CTL_SCOPE : Fld := ⟨0x600208, 4, 2⟩
def MC_MAINT_CTL_WAY : Fld := ⟨0x600208, 8, 4⟩
def MC_MAINT_CTL_RESULT : Fld := ⟨0x600208, 28, 3⟩
def MC_MAINT_CTL_BUSY : Fld := ⟨0x600208, 31, 1⟩
-- R554
def MC_STS_DATA_UE : Fld := ⟨0x600210, 1, 1⟩
def MC_STS_TAG_UE : Fld := ⟨0x600210, 2, 1⟩
def MC_STS_CLR : Fld := ⟨0x600210, 3, 1⟩
def MC_STS_UE : Fld := ⟨0x600210, 8, 8⟩
def MC_STS_CE : Fld := ⟨0x600210, 16, 16⟩
-- R555
def MC_ERR_LOC_UNCORR : Fld := ⟨0x600214, 0, 1⟩
def MC_ERR_LOC_TAG : Fld := ⟨0x600214, 8, 1⟩
def MC_ERR_LOC_WORD : Fld := ⟨0x600214, 9, 3⟩
def MC_ERR_LOC_SECTOR : Fld := ⟨0x600214, 12, 2⟩
def MC_ERR_LOC_WAY : Fld := ⟨0x600214, 14, 4⟩
def MC_ERR_LOC_SET : Fld := ⟨0x600214, 18, 14⟩
-- R579
def PWR_STATE_CTL_IDLE_US : Fld := ⟨0x100000, 0, 16⟩
def PWR_STATE_CTL_CLAMP_WAKE : Fld := ⟨0x100000, 30, 1⟩
def PWR_STATE_CTL_REQ_OFF : Fld := ⟨0x100000, 31, 1⟩
-- R580
def PWR_STATE_STS_P_CAP : Fld := ⟨0x100004, 8, 8⟩
def PWR_STATE_STS_THROTTLE : Fld := ⟨0x100004, 16, 1⟩
def PWR_STATE_STS_THERM_SHUT : Fld := ⟨0x100004, 17, 1⟩
def PWR_STATE_STS_RESULT : Fld := ⟨0x100004, 20, 4⟩
def PWR_STATE_STS_TARGET : Fld := ⟨0x100004, 26, 3⟩
def PWR_STATE_STS_STATE : Fld := ⟨0x100004, 29, 3⟩
-- R581
def PWR_GOV_CFG_VIN_ILIM : Fld := ⟨0x100010, 0, 8⟩
def PWR_GOV_CFG_MARGIN : Fld := ⟨0x100010, 8, 8⟩
def PWR_GOV_CFG_HYST : Fld := ⟨0x100010, 16, 8⟩
-- R582
def PWR_GOV_STS_P_IN : Fld := ⟨0x100014, 0, 13⟩
def PWR_GOV_STS_PASS_HOLD : Fld := ⟨0x100014, 13, 1⟩
def PWR_GOV_STS_OPP_STEP : Fld := ⟨0x100014, 14, 2⟩
def PWR_GOV_STS_HELD : Fld := ⟨0x100014, 16, 16⟩
-- R583
def PWR_VIN_STS_VIN : Fld := ⟨0x100018, 0, 12⟩
-- R584
def PWR_DOM_STS_ON : Fld := ⟨0x100020, 0, 17⟩
-- R585
def PWR_PAD_LATCH_LATCHED : Fld := ⟨0x100024, 0, 17⟩
def PWR_PAD_LATCH_ERR : Fld := ⟨0x100024, 31, 1⟩
-- R586
def PWR_PAD_REL_REL : Fld := ⟨0x100028, 0, 17⟩
-- R587
def PWR_WAKE_STS_COMMAND : Fld := ⟨0x100030, 1, 1⟩
def PWR_WAKE_STS_CMB : Fld := ⟨0x100030, 2, 1⟩
def PWR_WAKE_STS_MCTP : Fld := ⟨0x100030, 3, 1⟩
def PWR_WAKE_STS_WAKE_N : Fld := ⟨0x100030, 4, 1⟩
def PWR_WAKE_STS_CLAMP : Fld := ⟨0x100030, 5, 1⟩
def PWR_WAKE_STS_FAULT : Fld := ⟨0x100030, 6, 1⟩
def PWR_WAKE_STS_TAMPER : Fld := ⟨0x100030, 7, 1⟩
def PWR_WAKE_STS_BANK : Fld := ⟨0x100030, 8, 1⟩
def PWR_WAKE_STS_FROM : Fld := ⟨0x100030, 29, 3⟩
-- R588
def PWR_RET_FAIL_FAIL : Fld := ⟨0x100034, 0, 24⟩
-- R589
def PWR_DVFS_CTL_V_OPP (j : Nat) : Fld := ⟨0x100100 + j * 0x4, 0, 2⟩
def PWR_DVFS_CTL_F_OPP (j : Nat) : Fld := ⟨0x100100 + j * 0x4, 2, 2⟩
def PWR_DVFS_CTL_EFF_V (j : Nat) : Fld := ⟨0x100100 + j * 0x4, 8, 2⟩
def PWR_DVFS_CTL_EFF_F (j : Nat) : Fld := ⟨0x100100 + j * 0x4, 10, 2⟩
def PWR_DVFS_CTL_ERR (j : Nat) : Fld := ⟨0x100100 + j * 0x4, 30, 1⟩
def PWR_DVFS_CTL_BUSY (j : Nat) : Fld := ⟨0x100100 + j * 0x4, 31, 1⟩
-- R590
def PWR_THERM_THROT (i : Nat) : Fld := ⟨0x100200 + i * 0x4, 0, 1⟩
def PWR_THERM_CLR (i : Nat) : Fld := ⟨0x100200 + i * 0x4, 1, 1⟩
def PWR_THERM_TJ (i : Nat) : Fld := ⟨0x100200 + i * 0x4, 16, 8⟩
def PWR_THERM_TJ_MAX (i : Nat) : Fld := ⟨0x100200 + i * 0x4, 24, 8⟩
-- R612
def TST_CFG_LANE_EN : Fld := ⟨0x700000, 0, 1⟩
def TST_CFG_ENG_EN : Fld := ⟨0x700000, 1, 1⟩
def TST_CFG_CMP_RET : Fld := ⟨0x700000, 2, 1⟩
def TST_CFG_FUSE_AUTO : Fld := ⟨0x700000, 3, 1⟩
def TST_CFG_CAL_DT : Fld := ⟨0x700000, 4, 4⟩
def TST_CFG_CAL_MIN : Fld := ⟨0x700000, 8, 8⟩
def TST_CFG_ENG_MIN : Fld := ⟨0x700000, 16, 8⟩
def TST_CFG_LANE_MIN : Fld := ⟨0x700000, 24, 8⟩
-- R613
def TST_STS_IN_TEST : Fld := ⟨0x700004, 0, 8⟩
def TST_STS_SLICE_FAIL : Fld := ⟨0x700004, 8, 1⟩
def TST_STS_RETIRED : Fld := ⟨0x700004, 9, 1⟩
def TST_STS_CMP_FAIL : Fld := ⟨0x700004, 10, 1⟩
def TST_STS_INCONCL : Fld := ⟨0x700004, 11, 1⟩
def TST_STS_FULL : Fld := ⟨0x700004, 15, 1⟩
def TST_STS_ROWS_USED : Fld := ⟨0x700004, 23, 9⟩
-- R614
def TST_CMD_INDEX : Fld := ⟨0x700008, 0, 14⟩
def TST_CMD_OP : Fld := ⟨0x700008, 24, 2⟩
def TST_CMD_RESULT : Fld := ⟨0x700008, 28, 3⟩
def TST_CMD_BUSY : Fld := ⟨0x700008, 31, 1⟩
-- R615
def TST_SIG_LO_SIG_LO : Fld := ⟨0x70000C, 0, 32⟩
-- R616
def TST_SIG_HI_SIG_HI : Fld := ⟨0x700010, 0, 32⟩
-- R617
def TST_UNIT_SEL_INDEX : Fld := ⟨0x700020, 0, 14⟩
-- R618
def TST_UNIT_STS_CMP_FAILS : Fld := ⟨0x700024, 4, 4⟩
def TST_UNIT_STS_AGE : Fld := ⟨0x700024, 8, 8⟩
def TST_UNIT_STS_FAILS : Fld := ⟨0x700024, 16, 8⟩
def TST_UNIT_STS_SLICE : Fld := ⟨0x700024, 24, 5⟩
def TST_UNIT_STS_STATE : Fld := ⟨0x700024, 29, 3⟩
-- R619
def TST_FUSE_ADDR_WORD : Fld := ⟨0x700030, 0, 8⟩
def TST_FUSE_ADDR_BANK : Fld := ⟨0x700030, 8, 1⟩
-- R620
def TST_FUSE_DATA_DATA : Fld := ⟨0x700034, 0, 32⟩
-- R621
def TST_FROW_CTL_INDEX : Fld := ⟨0x700038, 0, 14⟩
def TST_FROW_CTL_REASON : Fld := ⟨0x700038, 16, 8⟩
def TST_FROW_CTL_BURN : Fld := ⟨0x700038, 24, 1⟩
def TST_FROW_CTL_RESULT : Fld := ⟨0x700038, 28, 3⟩
def TST_FROW_CTL_BUSY : Fld := ⟨0x700038, 31, 1⟩
-- R622
def TST_DECK_CFG_CMP_LIM (n : Nat) : Fld := ⟨0x700100 + n * 0x4, 0, 8⟩
def TST_DECK_CFG_SHADOW_REV (n : Nat) : Fld := ⟨0x700100 + n * 0x4, 8, 4⟩
def TST_DECK_CFG_EN (n : Nat) : Fld := ⟨0x700100 + n * 0x4, 15, 1⟩
def TST_DECK_CFG_TRIG (n : Nat) : Fld := ⟨0x700100 + n * 0x4, 16, 6⟩
-- R623
def TST_LANE_CAL_VALID (n k : Nat) : Fld := ⟨0x701000 + n * 0x200 + k * 0x4, 0, 1⟩
def TST_LANE_CAL_OFS_COR (n k : Nat) : Fld := ⟨0x701000 + n * 0x200 + k * 0x4, 8, 8⟩
def TST_LANE_CAL_GAIN_COR (n k : Nat) : Fld := ⟨0x701000 + n * 0x200 + k * 0x4, 16, 8⟩
def TST_LANE_CAL_SKEW_COR (n k : Nat) : Fld := ⟨0x701000 + n * 0x200 + k * 0x4, 24, 8⟩
-- R624
def TST_SVO_OFS_OFS (n j : Nat) : Fld := ⟨0x704000 + n * 0x40 + j * 0x4, 0, 16⟩
-- R625
def TST_SHUNT_OFS_OFS (n p : Nat) : Fld := ⟨0x704020 + n * 0x40 + p * 0x4, 0, 16⟩
-- R653
def SEC_STS_TAMPER : Fld := ⟨0x800000, 0, 1⟩
def SEC_STS_KAT_FAIL : Fld := ⟨0x800000, 1, 1⟩
def SEC_STS_OWNED : Fld := ⟨0x800000, 2, 1⟩
def SEC_STS_SESSIONS : Fld := ⟨0x800000, 12, 4⟩
def SEC_STS_KIDS : Fld := ⟨0x800000, 16, 8⟩
def SEC_STS_STATE : Fld := ⟨0x800000, 29, 3⟩
-- R654
def SEC_LEDGER_STS_BUFFERED : Fld := ⟨0x800004, 0, 13⟩
def SEC_LEDGER_STS_FIRST_CP : Fld := ⟨0x800004, 13, 17⟩
def SEC_LEDGER_STS_FULL : Fld := ⟨0x800004, 30, 1⟩
def SEC_LEDGER_STS_FLASH_ERR : Fld := ⟨0x800004, 31, 1⟩
-- R655
def SEC_LEDGER_SEQ_SEQ_LO : Fld := ⟨0x800008, 0, 32⟩
-- R656
def SEC_ZERO_KEY : Fld := ⟨0x800010, 0, 8⟩
def SEC_ZERO_BUSY : Fld := ⟨0x800010, 31, 1⟩
-- R665
def MGMT_BOOT_STS_FW_SLOT : Fld := ⟨0x10, 4, 2⟩
def MGMT_BOOT_STS_FW_FALLBACK : Fld := ⟨0x10, 8, 1⟩
def MGMT_BOOT_STS_STORE_LOST : Fld := ⟨0x10, 9, 1⟩
def MGMT_BOOT_STS_FAIL : Fld := ⟨0x10, 24, 4⟩
def MGMT_BOOT_STS_STAGE : Fld := ⟨0x10, 28, 4⟩
-- R666
def MGMT_BOOT_TIME_TRAIN_MS : Fld := ⟨0x14, 0, 16⟩
def MGMT_BOOT_TIME_READY_MS : Fld := ⟨0x14, 16, 16⟩
-- R677
def FLT_SEQ_NEXT_SEQ_LO : Fld := ⟨0xA00000, 0, 32⟩
-- R678
def FLT_ACK_SEQ_ACK_LO : Fld := ⟨0xA00004, 0, 32⟩
-- R679
def FLT_STS_LOST : Fld := ⟨0xA00008, 0, 1⟩
def FLT_STS_FATAL : Fld := ⟨0xA00008, 1, 1⟩
def FLT_STS_UNREAD : Fld := ⟨0xA00008, 16, 13⟩
-- R680
def FLT_CFG_AE_SEV : Fld := ⟨0xA0000C, 0, 2⟩
def FLT_CFG_MSI_EN : Fld := ⟨0xA0000C, 2, 1⟩
def FLT_CFG_FOLD_EN : Fld := ⟨0xA0000C, 3, 1⟩
def FLT_CFG_CLASS_MASK : Fld := ⟨0xA0000C, 16, 16⟩
-- R681
def FLT_REC_SEL_SLOT : Fld := ⟨0xA00020, 0, 12⟩
-- R682
def FLT_REC_DATA_DATA (w : Nat) : Fld := ⟨0xA00040 + w * 0x4, 0, 32⟩

end Reg

end Sys2Proof.Machine
end

