-- ==== Sys2Proof/Machine/RegTable.lean ====
section
/-! DEFINITION. Machine/RegTable.lean: every register of the spec's register tables as data (R5 to R7, R21, R22,
R701, R702): its word, its instances, and for each non-reserved field its bits, access class and reset value. -/

namespace Sys2Proof.Machine

/-- The access classes of R7. -/
inductive Acc where
  | rwl | rws | rwx | ro | w1c
  deriving DecidableEq, Repr

/-- One non-reserved field of a register: low bit, width, access class, reset value. -/
structure FRow where
  lo : Nat
  w : Nat
  acc : Acc
  reset : Nat
  deriving DecidableEq, Repr

/-- One register of the tables: its name, the offset of its first instance, the (stride, count) of each index with the
widest stride first, the low bit of the one field whose reset value is the instance index (LANE.STATE.SRC, R148), and
its fields from the lowest bit up. -/
structure RRow where
  name : String
  base : Nat
  dims : List (Nat × Nat)
  idxField : Option Nat
  fields : List FRow
  deriving DecidableEq, Repr

def deckRegs0 : List RRow := [
  ⟨"ANG_PLL_CFG", 0x1000000, [], none,
    [⟨0, 1, .rwl, 0⟩, ⟨11, 11, .rws, 1024⟩, ⟨22, 1, .rws, 1⟩, ⟨23, 5, .rws, 18⟩, ⟨28, 4, .rws, 2⟩]⟩,
  ⟨"ANG_PLL_TOL", 0x1000004, [], none,
    [⟨0, 12, .rws, 64⟩, ⟨12, 12, .rws, 1024⟩, ⟨24, 8, .rws, 32⟩]⟩,
  ⟨"ANG_STS", 0x1000008, [], none,
    [⟨0, 3, .ro, 0⟩, ⟨8, 3, .ro, 0⟩, ⟨11, 1, .w1c, 0⟩, ⟨12, 1, .w1c, 0⟩, ⟨16, 16, .ro, 0⟩]⟩,
  ⟨"ANG_INC", 0x100000C, [], none,
    [⟨0, 32, .ro, 0⟩]⟩,
  ⟨"ANG_SNAP_GRAIN", 0x1000010, [], none,
    [⟨0, 24, .ro, 0⟩, ⟨24, 8, .ro, 0⟩]⟩,
  ⟨"ANG_SNAP_REV", 0x1000014, [], none,
    [⟨0, 32, .ro, 0⟩]⟩,
  ⟨"ANG_WR_ERR", 0x1000018, [], none,
    [⟨0, 9, .w1c, 0⟩, ⟨10, 2, .ro, 0⟩, ⟨12, 20, .ro, 0⟩]⟩,
  ⟨"ANG_TRIG_CFG", 0x1000100, [(0x10, 64)], none,
    [⟨0, 3, .rwl, 0⟩, ⟨13, 1, .rwl, 0⟩, ⟨14, 1, .rwl, 0⟩, ⟨15, 1, .rwl, 0⟩, ⟨20, 1, .w1c, 0⟩, ⟨21, 1, .w1c, 0⟩, ⟨22, 1, .w1c, 0⟩, ⟨23, 1, .w1c, 0⟩, ⟨31, 1, .rwl, 0⟩]⟩,
  ⟨"ANG_TRIG_POS", 0x1000104, [(0x10, 64)], none,
    [⟨0, 24, .rwl, 0⟩, ⟨24, 8, .rwl, 0⟩]⟩,
  ⟨"ANG_TRIG_REV", 0x1000108, [(0x10, 64)], none,
    [⟨0, 32, .rwl, 0⟩]⟩,
  ⟨"ANG_COMMIT_CTL", 0x100FF00, [], none,
    [⟨0, 1, .rwl, 0⟩, ⟨1, 1, .rwl, 0⟩, ⟨2, 1, .rwl, 0⟩, ⟨8, 6, .rwl, 0⟩, ⟨16, 9, .rwl, 0⟩]⟩,
  ⟨"ANG_COMMIT_STS", 0x100FF04, [], none,
    [⟨0, 4, .ro, 0⟩, ⟨5, 1, .ro, 0⟩, ⟨6, 1, .ro, 0⟩, ⟨7, 1, .w1c, 0⟩, ⟨8, 8, .ro, 0⟩, ⟨16, 12, .ro, 0⟩, ⟨28, 4, .ro, 0⟩]⟩,
  ⟨"LANE_AFE_CFG", 0x1010000, [(0x40, 66)], none,
    [⟨0, 4, .rwx, 3⟩, ⟨4, 4, .rwx, 15⟩]⟩,
  ⟨"LANE_GAIN_CFG", 0x1010004, [(0x40, 66)], none,
    [⟨0, 10, .rws, 8⟩, ⟨10, 2, .rws, 2⟩, ⟨12, 4, .rws, 3⟩, ⟨16, 4, .rws, 4⟩, ⟨20, 4, .rws, 3⟩, ⟨24, 5, .rws, 16⟩]⟩,
  ⟨"LANE_TR_CFG", 0x1010008, [(0x40, 66)], none,
    [⟨0, 16, .rws, 1000⟩, ⟨19, 4, .rws, 2⟩, ⟨23, 5, .rws, 20⟩, ⟨28, 4, .rws, 12⟩]⟩,
  ⟨"LANE_WIN_CFG", 0x101000C, [(0x40, 66)], none,
    [⟨8, 4, .rws, 4⟩, ⟨12, 3, .rws, 2⟩, ⟨15, 5, .rws, 4⟩, ⟨20, 6, .rws, 28⟩, ⟨26, 6, .rws, 20⟩]⟩]

def deckRegs1 : List RRow := [
  ⟨"LANE_WIN_RES", 0x1010010, [(0x40, 66)], none,
    [⟨0, 16, .rws, 96⟩, ⟨16, 16, .rws, 160⟩]⟩,
  ⟨"LANE_WIN_SPAN", 0x1010014, [(0x40, 66)], none,
    [⟨0, 17, .rws, 16384⟩, ⟨17, 7, .rws, 32⟩, ⟨24, 8, .rws, 32⟩]⟩,
  ⟨"LANE_LOOP_INIT", 0x1010018, [(0x40, 66)], none,
    [⟨0, 8, .rws, 0⟩, ⟨8, 8, .rws, 0⟩, ⟨16, 10, .rws, 512⟩]⟩,
  ⟨"LANE_LOOP_CTL", 0x101001C, [(0x40, 66)], none,
    [⟨0, 1, .rwl, 0⟩, ⟨1, 1, .rwl, 0⟩, ⟨2, 1, .rwl, 0⟩, ⟨3, 1, .rwl, 0⟩, ⟨4, 1, .rwl, 0⟩, ⟨5, 1, .rwl, 0⟩]⟩,
  ⟨"LANE_LOOP_VAL", 0x1010020, [(0x40, 66)], none,
    [⟨0, 8, .ro, 0⟩, ⟨8, 8, .ro, 0⟩, ⟨16, 10, .ro, 512⟩]⟩,
  ⟨"LANE_TR_STS", 0x1010024, [(0x40, 66)], none,
    [⟨4, 1, .w1c, 0⟩, ⟨5, 1, .w1c, 0⟩, ⟨6, 1, .w1c, 0⟩, ⟨7, 1, .w1c, 0⟩, ⟨8, 8, .ro, 0⟩, ⟨16, 16, .ro, 0⟩]⟩,
  ⟨"LANE_STATE[0..]", 0x1010028, [(0x40, 64)], some 0,
    [⟨0, 7, .ro, 0⟩, ⟨8, 3, .ro, 0⟩, ⟨14, 1, .ro, 0⟩, ⟨15, 1, .ro, 1⟩]⟩,
  ⟨"LANE_STATE[64..]", 0x1011028, [(0x40, 2)], none,
    [⟨0, 7, .ro, 127⟩, ⟨8, 3, .ro, 2⟩, ⟨14, 1, .ro, 0⟩, ⟨15, 1, .ro, 1⟩]⟩,
  ⟨"LANE_WIN_STS", 0x101002C, [(0x40, 66)], none,
    [⟨0, 1, .ro, 0⟩, ⟨1, 1, .w1c, 0⟩, ⟨16, 16, .ro, 0⟩]⟩,
  ⟨"LANE_SPARE_CTL", 0x1011100, [(0x4, 2)], none,
    [⟨0, 7, .rwl, 0⟩, ⟨8, 4, .rwl, 0⟩, ⟨16, 6, .rwl, 0⟩, ⟨27, 1, .ro, 0⟩, ⟨28, 3, .ro, 0⟩, ⟨31, 1, .ro, 0⟩]⟩,
  ⟨"DET_MAP_CFG", 0x1020000, [], none,
    [⟨0, 14, .ro, 4680⟩, ⟨16, 9, .ro, 118⟩, ⟨30, 2, .ro, 0⟩]⟩,
  ⟨"DET_SYNC_CFG", 0x1020004, [], none,
    [⟨0, 1, .rws, 1⟩, ⟨6, 4, .rws, 6⟩, ⟨10, 5, .rws, 12⟩, ⟨15, 7, .rws, 48⟩, ⟨22, 4, .rws, 4⟩, ⟨26, 6, .rws, 30⟩]⟩,
  ⟨"DET_EQ_CFG", 0x1020008, [], none,
    [⟨0, 1, .rwl, 0⟩, ⟨24, 4, .rws, 7⟩, ⟨28, 4, .rws, 10⟩]⟩,
  ⟨"DET_DEC_CFG", 0x102000C, [], none,
    [⟨5, 3, .rws, 4⟩, ⟨8, 1, .rws, 1⟩, ⟨9, 1, .rws, 1⟩, ⟨10, 2, .rws, 1⟩, ⟨12, 2, .rws, 2⟩, ⟨14, 6, .rws, 10⟩, ⟨20, 6, .rws, 20⟩, ⟨26, 6, .rws, 20⟩]⟩,
  ⟨"DET_MARGIN_CTL", 0x1020010, [], none,
    [⟨0, 1, .rwl, 0⟩, ⟨1, 1, .rwl, 0⟩]⟩,
  ⟨"DET_EQ_ADDR", 0x1020014, [], none,
    [⟨0, 4, .rwl, 0⟩, ⟨6, 2, .rwl, 0⟩, ⟨8, 1, .rwl, 0⟩, ⟨16, 6, .rwl, 0⟩]⟩]

def deckRegs2 : List RRow := [
  ⟨"DET_EQ_DATA", 0x1020018, [], none,
    [⟨0, 12, .rwl, 0⟩, ⟨12, 1, .w1c, 0⟩]⟩,
  ⟨"DET_STS", 0x102001C, [], none,
    [⟨0, 1, .ro, 0⟩, ⟨12, 1, .w1c, 0⟩, ⟨13, 1, .w1c, 0⟩, ⟨14, 1, .w1c, 0⟩, ⟨15, 1, .ro, 0⟩, ⟨16, 16, .ro, 0⟩]⟩,
  ⟨"DET_SYNC_OK", 0x1020020, [], none,
    [⟨0, 32, .ro, 0⟩]⟩,
  ⟨"DET_SYNC_REJ", 0x1020024, [], none,
    [⟨0, 32, .ro, 0⟩]⟩,
  ⟨"DET_SYNC_MISC", 0x1020028, [], none,
    [⟨0, 16, .ro, 0⟩, ⟨16, 16, .ro, 0⟩]⟩,
  ⟨"DET_GLEAN_SET[0]", 0x1020040, [], none,
    [⟨13, 2, .rws, 0⟩, ⟨15, 1, .rws, 1⟩, ⟨16, 2, .rws, 0⟩, ⟨18, 6, .rws, 32⟩, ⟨24, 8, .rws, 0⟩]⟩,
  ⟨"DET_GLEAN_SET[1]", 0x1020044, [], none,
    [⟨13, 2, .rws, 1⟩, ⟨15, 1, .rws, 1⟩, ⟨16, 2, .rws, 0⟩, ⟨18, 6, .rws, 32⟩, ⟨24, 8, .rws, 20⟩]⟩,
  ⟨"DET_GLEAN_SET[2]", 0x1020048, [], none,
    [⟨13, 2, .rws, 1⟩, ⟨15, 1, .rws, 1⟩, ⟨16, 2, .rws, 0⟩, ⟨18, 6, .rws, 32⟩, ⟨24, 8, .rws, 236⟩]⟩,
  ⟨"DET_GLEAN_SET[3]", 0x102004C, [], none,
    [⟨13, 2, .rws, 2⟩, ⟨15, 1, .rws, 0⟩, ⟨16, 2, .rws, 2⟩, ⟨18, 6, .rws, 48⟩, ⟨24, 8, .rws, 0⟩]⟩,
  ⟨"DET_TGT[0]", 0x1020080, [], none,
    [⟨0, 8, .rws, 32⟩, ⟨8, 8, .rws, 64⟩, ⟨16, 8, .rws, 64⟩, ⟨24, 8, .rws, 32⟩]⟩,
  ⟨"DET_TGT[1]", 0x1020088, [], none,
    [⟨0, 8, .rws, 32⟩, ⟨8, 8, .rws, 64⟩, ⟨16, 8, .rws, 32⟩, ⟨24, 8, .rws, 0⟩]⟩,
  ⟨"DET_TGT[2]", 0x1020090, [], none,
    [⟨0, 8, .rws, 24⟩, ⟨8, 8, .rws, 72⟩, ⟨16, 8, .rws, 72⟩, ⟨24, 8, .rws, 24⟩]⟩,
  ⟨"DET_TGT[3]", 0x1020098, [], none,
    [⟨0, 8, .rws, 64⟩, ⟨8, 8, .rws, 64⟩, ⟨16, 8, .rws, 0⟩, ⟨24, 8, .rws, 0⟩]⟩,
  ⟨"DET_TGT_NP", 0x1020084, [(0x8, 4)], none,
    [⟨0, 16, .rws, 0⟩, ⟨16, 16, .rws, 0⟩]⟩,
  ⟨"DET_BCFG", 0x1020100, [(0x4, 64)], none,
    [⟨0, 2, .rws, 0⟩, ⟨2, 1, .rwl, 0⟩, ⟨3, 1, .rwl, 0⟩]⟩,
  ⟨"WRP_LINK_CFG", 0x1030000, [], none,
    [⟨0, 1, .rwl, 0⟩, ⟨8, 4, .rwx, 8⟩, ⟨12, 4, .rwx, 4⟩, ⟨16, 8, .rwx, 8⟩]⟩]

def deckRegs3 : List RRow := [
  ⟨"WRP_LINK_STS", 0x1030004, [], none,
    [⟨0, 3, .ro, 0⟩, ⟨4, 1, .w1c, 0⟩, ⟨5, 1, .w1c, 0⟩, ⟨8, 4, .ro, 0⟩, ⟨16, 8, .ro, 0⟩]⟩,
  ⟨"WRP_CAP", 0x1030008, [], none,
    [⟨0, 5, .ro, 0⟩, ⟨8, 6, .ro, 0⟩, ⟨16, 8, .ro, 0⟩, ⟨24, 8, .ro, 0⟩]⟩,
  ⟨"WRP_GATE_CFG", 0x1030010, [], none,
    [⟨0, 8, .rws, 96⟩, ⟨8, 4, .rws, 4⟩, ⟨12, 4, .rws, 2⟩, ⟨16, 8, .rws, 40⟩, ⟨24, 8, .rws, 20⟩]⟩,
  ⟨"WRP_GATE_VM", 0x1030014, [], none,
    [⟨0, 12, .rws, 425⟩, ⟨12, 12, .rws, 3050⟩, ⟨24, 8, .rws, 50⟩]⟩,
  ⟨"WRP_GATE_STS", 0x1030018, [], none,
    [⟨0, 1, .w1c, 0⟩, ⟨1, 1, .w1c, 0⟩, ⟨2, 1, .w1c, 0⟩, ⟨3, 1, .w1c, 0⟩, ⟨4, 1, .w1c, 0⟩, ⟨5, 1, .w1c, 0⟩, ⟨6, 1, .w1c, 0⟩, ⟨7, 1, .w1c, 0⟩, ⟨8, 1, .w1c, 0⟩, ⟨9, 1, .w1c, 0⟩, ⟨15, 1, .ro, 0⟩, ⟨16, 16, .ro, 0⟩]⟩,
  ⟨"WRP_VFY_CFG", 0x103001C, [], none,
    [⟨4, 4, .rws, 2⟩, ⟨8, 10, .rws, 64⟩, ⟨18, 8, .rws, 8⟩, ⟨26, 6, .rws, 8⟩]⟩,
  ⟨"WRP_WATCH_CFG", 0x1030020, [], none,
    [⟨0, 1, .rws, 1⟩, ⟨8, 8, .rws, 4⟩, ⟨16, 11, .rws, 164⟩, ⟨27, 5, .rws, 4⟩]⟩,
  ⟨"WRP_OPC_CFG", 0x1030024, [], none,
    [⟨0, 8, .rws, 0⟩, ⟨8, 8, .rws, 130⟩, ⟨16, 8, .rws, 70⟩, ⟨28, 4, .rws, 10⟩]⟩,
  ⟨"WRP_OPC_STS", 0x1030028, [], none,
    [⟨0, 1, .w1c, 0⟩, ⟨1, 1, .w1c, 0⟩, ⟨2, 1, .w1c, 0⟩, ⟨8, 8, .ro, 0⟩, ⟨16, 16, .ro, 0⟩]⟩,
  ⟨"WRP_VFY_STS", 0x103002C, [], none,
    [⟨0, 8, .ro, 0⟩, ⟨8, 8, .ro, 0⟩, ⟨16, 8, .ro, 0⟩, ⟨24, 8, .ro, 0⟩]⟩,
  ⟨"WRP_VFY_CLR", 0x1030030, [], none,
    [⟨0, 1, .rwl, 0⟩]⟩,
  ⟨"LOOP_ENG_STS", 0x1040000, [], none,
    [⟨2, 1, .w1c, 0⟩, ⟨3, 1, .ro, 0⟩, ⟨8, 1, .ro, 0⟩, ⟨16, 16, .ro, 0⟩]⟩,
  ⟨"LOOP_SAMPLE_CFG", 0x1040004, [], none,
    [⟨0, 16, .rws, 977⟩, ⟨16, 4, .rws, 6⟩, ⟨24, 8, .rws, 64⟩]⟩,
  ⟨"LOOP_CF_ADDR", 0x1040008, [], none,
    [⟨0, 10, .rwl, 0⟩, ⟨16, 1, .rwl, 0⟩, ⟨24, 3, .rwl, 0⟩, ⟨28, 2, .rwl, 0⟩, ⟨31, 1, .w1c, 0⟩]⟩,
  ⟨"LOOP_CF_DATA", 0x104000C, [], none,
    [⟨0, 32, .rwl, 0⟩]⟩,
  ⟨"LOOP_SLOT_CFG[0]", 0x1040100, [], none,
    [⟨18, 2, .rws, 2⟩, ⟨20, 2, .rws, 0⟩, ⟨22, 1, .rws, 1⟩, ⟨23, 1, .rws, 0⟩, ⟨24, 4, .rws, 1⟩, ⟨28, 4, .rws, 1⟩]⟩]

def deckRegs4 : List RRow := [
  ⟨"LOOP_SLOT_CFG[1]", 0x1040140, [], none,
    [⟨18, 2, .rws, 2⟩, ⟨20, 2, .rws, 0⟩, ⟨22, 1, .rws, 1⟩, ⟨23, 1, .rws, 0⟩, ⟨24, 4, .rws, 2⟩, ⟨28, 4, .rws, 2⟩]⟩,
  ⟨"LOOP_SLOT_CFG[2]", 0x1040180, [], none,
    [⟨18, 2, .rws, 1⟩, ⟨20, 2, .rws, 0⟩, ⟨22, 1, .rws, 0⟩, ⟨23, 1, .rws, 0⟩, ⟨24, 4, .rws, 3⟩, ⟨28, 4, .rws, 3⟩]⟩,
  ⟨"LOOP_SLOT_CFG[3]", 0x10401C0, [], none,
    [⟨18, 2, .rws, 1⟩, ⟨20, 2, .rws, 0⟩, ⟨22, 1, .rws, 0⟩, ⟨23, 1, .rws, 0⟩, ⟨24, 4, .rws, 4⟩, ⟨28, 4, .rws, 4⟩]⟩,
  ⟨"LOOP_SLOT_CFG[4]", 0x1040200, [], none,
    [⟨18, 2, .rws, 1⟩, ⟨20, 2, .rws, 0⟩, ⟨22, 1, .rws, 0⟩, ⟨23, 1, .rws, 0⟩, ⟨24, 4, .rws, 5⟩, ⟨28, 4, .rws, 5⟩]⟩,
  ⟨"LOOP_SLOT_CFG[5]", 0x1040240, [], none,
    [⟨18, 2, .rws, 0⟩, ⟨20, 2, .rws, 0⟩, ⟨22, 1, .rws, 0⟩, ⟨23, 1, .rws, 0⟩, ⟨24, 4, .rws, 0⟩, ⟨28, 4, .rws, 0⟩]⟩,
  ⟨"LOOP_SLOT_CFG[6]", 0x1040280, [], none,
    [⟨18, 2, .rws, 0⟩, ⟨20, 2, .rws, 0⟩, ⟨22, 1, .rws, 0⟩, ⟨23, 1, .rws, 0⟩, ⟨24, 4, .rws, 0⟩, ⟨28, 4, .rws, 0⟩]⟩,
  ⟨"LOOP_SLOT_CFG[7]", 0x10402C0, [], none,
    [⟨18, 2, .rws, 0⟩, ⟨20, 2, .rws, 0⟩, ⟨22, 1, .rws, 0⟩, ⟨23, 1, .rws, 0⟩, ⟨24, 4, .rws, 0⟩, ⟨28, 4, .rws, 0⟩]⟩,
  ⟨"LOOP_SLOT_CTL", 0x1040104, [(0x40, 8)], none,
    [⟨0, 3, .rwl, 0⟩, ⟨4, 1, .rwl, 0⟩]⟩,
  ⟨"LOOP_SP_OFS", 0x1040108, [(0x40, 8)], none,
    [⟨0, 32, .rwl, 0⟩]⟩,
  ⟨"LOOP_OUT_LIM", 0x104010C, [(0x40, 8)], none,
    [⟨0, 16, .rws, 1024⟩, ⟨16, 16, .rws, 32767⟩]⟩,
  ⟨"LOOP_I_LIM", 0x1040110, [(0x40, 8)], none,
    [⟨0, 16, .rws, 49152⟩, ⟨16, 16, .rws, 16384⟩]⟩,
  ⟨"LOOP_BANK", 0x1040114, [(0x40, 8)], none,
    [⟨0, 1, .rwl, 0⟩, ⟨1, 1, .rwl, 0⟩, ⟨4, 1, .ro, 0⟩, ⟨6, 1, .rwl, 0⟩, ⟨7, 1, .rwl, 0⟩, ⟨8, 6, .rwl, 0⟩, ⟨20, 2, .ro, 0⟩, ⟨27, 1, .w1c, 0⟩, ⟨28, 3, .ro, 0⟩, ⟨31, 1, .ro, 0⟩]⟩,
  ⟨"LOOP_PROF_LIM", 0x1040118, [(0x40, 8)], none,
    [⟨0, 16, .rws, 2000⟩, ⟨16, 16, .rws, 2000⟩]⟩,
  ⟨"LOOP_PROF_J", 0x104011C, [(0x40, 8)], none,
    [⟨0, 8, .rws, 4⟩, ⟨8, 8, .rws, 50⟩, ⟨16, 16, .rws, 10000⟩]⟩,
  ⟨"LOOP_PROF_TGT", 0x1040120, [(0x40, 8)], none,
    [⟨0, 32, .rwl, 0⟩]⟩,
  ⟨"LOOP_PROF_CTL", 0x1040124, [(0x40, 8)], none,
    [⟨0, 4, .rwl, 0⟩, ⟨8, 1, .rwl, 0⟩, ⟨11, 5, .rwl, 0⟩, ⟨16, 12, .ro, 0⟩, ⟨28, 3, .ro, 0⟩, ⟨31, 1, .ro, 0⟩]⟩]

def deckRegs5 : List RRow := [
  ⟨"LOOP_FF_CTL", 0x1040128, [(0x40, 8)], none,
    [⟨0, 1, .rws, 0⟩, ⟨1, 1, .rwl, 0⟩, ⟨2, 1, .rwl, 0⟩, ⟨3, 1, .rwl, 0⟩, ⟨4, 1, .rws, 1⟩, ⟨5, 3, .rws, 1⟩, ⟨8, 8, .rws, 2⟩, ⟨16, 5, .ro, 0⟩]⟩,
  ⟨"LOOP_SUP_CFG", 0x104012C, [(0x40, 8)], none,
    [⟨0, 12, .rws, 64⟩, ⟨12, 4, .rws, 6⟩, ⟨16, 16, .rws, 2048⟩]⟩,
  ⟨"LOOP_OSC_CFG", 0x1040130, [(0x40, 8)], none,
    [⟨0, 5, .rws, 8⟩, ⟨5, 3, .rws, 3⟩, ⟨8, 8, .rws, 200⟩, ⟨16, 8, .rws, 20⟩, ⟨24, 8, .rws, 64⟩]⟩,
  ⟨"LOOP_STS", 0x1040134, [(0x40, 8)], none,
    [⟨0, 1, .w1c, 0⟩, ⟨1, 1, .w1c, 0⟩, ⟨2, 1, .w1c, 0⟩, ⟨3, 1, .w1c, 0⟩, ⟨16, 8, .ro, 0⟩, ⟨24, 3, .ro, 0⟩, ⟨28, 4, .ro, 0⟩]⟩,
  ⟨"LOOP_VAL", 0x1040138, [(0x40, 8)], none,
    [⟨0, 16, .ro, 0⟩, ⟨16, 16, .ro, 0⟩]⟩,
  ⟨"LOOP_RESID", 0x104013C, [(0x40, 8)], none,
    [⟨0, 16, .ro, 0⟩, ⟨16, 16, .ro, 0⟩]⟩,
  ⟨"ACT_COIL_CFG", 0x1070000, [(0x4, 3)], none,
    [⟨0, 1, .rwl, 0⟩, ⟨1, 1, .rwx, 0⟩, ⟨8, 8, .rwx, 150⟩]⟩,
  ⟨"ACT_COIL_STS", 0x1070010, [(0x4, 3)], none,
    [⟨0, 1, .ro, 0⟩, ⟨1, 1, .w1c, 0⟩, ⟨2, 1, .w1c, 0⟩, ⟨16, 16, .ro, 0⟩]⟩,
  ⟨"ACT_SAFE_CFG", 0x1070020, [], none,
    [⟨0, 1, .ro, 0⟩, ⟨8, 8, .ro, 0⟩, ⟨16, 16, .rws, 57344⟩]⟩,
  ⟨"SPN_CMD", 0x1050000, [], none,
    [⟨0, 16, .rwl, 0⟩, ⟨16, 4, .rwl, 0⟩, ⟨24, 2, .rwl, 0⟩, ⟨28, 3, .ro, 0⟩, ⟨31, 1, .ro, 0⟩]⟩,
  ⟨"SPN_STS", 0x1050004, [], none,
    [⟨0, 1, .w1c, 0⟩, ⟨1, 1, .w1c, 0⟩, ⟨2, 1, .w1c, 0⟩, ⟨3, 1, .w1c, 0⟩, ⟨4, 1, .w1c, 0⟩, ⟨5, 1, .w1c, 0⟩, ⟨6, 1, .ro, 0⟩, ⟨7, 1, .ro, 0⟩, ⟨10, 2, .ro, 0⟩, ⟨12, 4, .ro, 0⟩, ⟨16, 16, .ro, 0⟩]⟩,
  ⟨"SPN_MOTOR", 0x1050008, [], none,
    [⟨0, 16, .rwx, 500⟩, ⟨16, 12, .rwx, 200⟩, ⟨28, 4, .rwx, 4⟩]⟩,
  ⟨"SPN_KE", 0x105000C, [], none,
    [⟨0, 16, .rwx, 50⟩, ⟨16, 16, .rwx, 2500⟩]⟩,
  ⟨"SPN_PWM_CFG", 0x1050010, [], none,
    [⟨0, 16, .rwx, 2000⟩, ⟨16, 8, .rwx, 10⟩, ⟨24, 8, .rwx, 40⟩]⟩,
  ⟨"SPN_SENSE_CFG", 0x1050014, [], none,
    [⟨0, 16, .rwx, 1500⟩, ⟨16, 16, .rwx, 500⟩]⟩,
  ⟨"SPN_FOC_CFG", 0x1050018, [], none,
    [⟨0, 8, .rws, 30⟩, ⟨8, 8, .rws, 50⟩, ⟨16, 16, .rws, 1000⟩]⟩]

def deckRegs6 : List RRow := [
  ⟨"SPN_START_CFG", 0x105001C, [], none,
    [⟨0, 8, .rwx, 50⟩, ⟨8, 2, .rwx, 3⟩, ⟨10, 6, .rwx, 30⟩, ⟨16, 8, .rwx, 100⟩, ⟨24, 8, .rwx, 40⟩]⟩,
  ⟨"SPN_BRAKE_CFG", 0x1050020, [], none,
    [⟨0, 16, .rws, 500⟩, ⟨16, 16, .rws, 800⟩]⟩,
  ⟨"SPN_MEAS", 0x1050024, [], none,
    [⟨0, 16, .ro, 0⟩, ⟨16, 16, .ro, 0⟩]⟩,
  ⟨"SLD_CMD", 0x1060000, [], none,
    [⟨0, 4, .rwl, 0⟩, ⟨8, 1, .rwl, 0⟩, ⟨28, 3, .ro, 0⟩, ⟨31, 1, .ro, 0⟩]⟩,
  ⟨"SLD_TARGET", 0x1060004, [], none,
    [⟨0, 32, .rwl, 0⟩]⟩,
  ⟨"SLD_POS", 0x1060008, [], none,
    [⟨0, 32, .ro, 0⟩]⟩,
  ⟨"SLD_STS", 0x106000C, [], none,
    [⟨0, 3, .ro, 0⟩, ⟨3, 1, .ro, 0⟩, ⟨4, 1, .w1c, 0⟩, ⟨5, 1, .w1c, 0⟩, ⟨6, 1, .ro, 0⟩, ⟨7, 1, .ro, 0⟩, ⟨8, 8, .ro, 0⟩, ⟨16, 16, .ro, 0⟩]⟩,
  ⟨"SLD_PROF_V", 0x1060010, [], none,
    [⟨0, 16, .rws, 200⟩, ⟨16, 16, .rws, 4000⟩]⟩,
  ⟨"SLD_PROF_A", 0x1060014, [], none,
    [⟨0, 16, .rws, 4000⟩, ⟨16, 16, .rws, 4000⟩]⟩,
  ⟨"SLD_CUR_CFG", 0x1060018, [], none,
    [⟨0, 16, .rws, 200⟩, ⟨16, 8, .rws, 30⟩, ⟨24, 8, .rws, 150⟩]⟩,
  ⟨"SLD_CHOP_CFG", 0x106001C, [], none,
    [⟨0, 8, .rws, 40⟩, ⟨9, 2, .rws, 1⟩, ⟨11, 4, .rws, 4⟩, ⟨15, 5, .rws, 7⟩, ⟨20, 12, .rws, 400⟩]⟩,
  ⟨"SLD_COIL", 0x1060020, [], none,
    [⟨0, 16, .rwx, 3000⟩, ⟨16, 16, .rwx, 2500⟩]⟩,
  ⟨"SLD_STALL_CFG", 0x1060024, [], none,
    [⟨0, 16, .rwx, 1500⟩, ⟨20, 4, .rws, 2⟩, ⟨24, 8, .rws, 72⟩]⟩,
  ⟨"SLD_MIN_POS", 0x1060028, [], none,
    [⟨0, 32, .rws, 0⟩]⟩,
  ⟨"SLD_MAX_POS", 0x106002C, [], none,
    [⟨0, 32, .rws, 580102⟩]⟩,
  ⟨"SLD_MECH", 0x1060030, [], none,
    [⟨0, 16, .rwx, 15000⟩, ⟨16, 15, .rws, 1088⟩, ⟨31, 1, .rwx, 0⟩]⟩]

def deckRegs7 : List RRow := [
  ⟨"SEQ_CTL", 0x1080000, [], none,
    [⟨0, 4, .rwl, 0⟩, ⟨16, 5, .rwl, 0⟩, ⟨24, 1, .rwl, 0⟩, ⟨25, 1, .rwl, 0⟩, ⟨28, 3, .ro, 0⟩, ⟨31, 1, .ro, 0⟩]⟩,
  ⟨"SEQ_STS", 0x1080004, [], none,
    [⟨4, 4, .ro, 0⟩, ⟨8, 5, .ro, 0⟩, ⟨16, 1, .ro, 0⟩, ⟨17, 1, .ro, 0⟩, ⟨18, 2, .ro, 0⟩, ⟨20, 4, .ro, 0⟩, ⟨24, 4, .ro, 0⟩, ⟨28, 4, .ro, 0⟩]⟩,
  ⟨"SEQ_LOAD_CFG", 0x1080008, [], none,
    [⟨0, 8, .rws, 30⟩, ⟨8, 8, .rws, 50⟩, ⟨16, 16, .rws, 10500⟩]⟩,
  ⟨"SEQ_FOCUS_CFG", 0x108000C, [], none,
    [⟨8, 8, .rws, 64⟩, ⟨20, 4, .rws, 3⟩, ⟨24, 8, .rws, 50⟩]⟩,
  ⟨"SEQ_TRK_CFG", 0x1080010, [], none,
    [⟨0, 8, .rws, 5⟩, ⟨16, 16, .rws, 8000⟩]⟩,
  ⟨"SEQ_TMO_CFG", 0x1080014, [], none,
    [⟨0, 8, .rws, 60⟩, ⟨8, 8, .rws, 64⟩, ⟨16, 8, .rws, 64⟩, ⟨24, 8, .rws, 100⟩]⟩,
  ⟨"SEQ_RECOV_CFG", 0x1080018, [], none,
    [⟨0, 1, .rws, 0⟩, ⟨20, 4, .rws, 3⟩, ⟨24, 8, .rws, 20⟩]⟩,
  ⟨"SEQ_PWR_CFG", 0x108001C, [], none,
    [⟨8, 8, .rws, 40⟩, ⟨16, 16, .rws, 0⟩]⟩,
  ⟨"SEQ_PARK_POS", 0x1080020, [], none,
    [⟨0, 32, .rws, 0⟩]⟩]

/-- Every register of DECK[0]; deck n holds the same at n × 0x0010_0000 above (R23). -/
def deckRegs : List RRow :=
  deckRegs0 ++ deckRegs1 ++ deckRegs2 ++ deckRegs3 ++ deckRegs4 ++ deckRegs5 ++ deckRegs6 ++ deckRegs7

def devRegs0 : List RRow := [
  ⟨"MGMT.COMMIT_CTL", 0xFF00, [], none,
    [⟨1, 1, .rwl, 0⟩, ⟨0, 1, .rwl, 0⟩]⟩,
  ⟨"PWR.COMMIT_CTL", 0x10FF00, [], none,
    [⟨1, 1, .rwl, 0⟩, ⟨0, 1, .rwl, 0⟩]⟩,
  ⟨"HQ.COMMIT_CTL", 0x30FF00, [], none,
    [⟨1, 1, .rwl, 0⟩, ⟨0, 1, .rwl, 0⟩]⟩,
  ⟨"CMP.COMMIT_CTL", 0x40FF00, [], none,
    [⟨1, 1, .rwl, 0⟩, ⟨0, 1, .rwl, 0⟩]⟩,
  ⟨"MEM.COMMIT_CTL", 0x50FF00, [], none,
    [⟨1, 1, .rwl, 0⟩, ⟨0, 1, .rwl, 0⟩]⟩,
  ⟨"MC.COMMIT_CTL", 0x60FF00, [], none,
    [⟨1, 1, .rwl, 0⟩, ⟨0, 1, .rwl, 0⟩]⟩,
  ⟨"TST.COMMIT_CTL", 0x70FF00, [], none,
    [⟨1, 1, .rwl, 0⟩, ⟨0, 1, .rwl, 0⟩]⟩,
  ⟨"SEC.COMMIT_CTL", 0x80FF00, [], none,
    [⟨1, 1, .rwl, 0⟩, ⟨0, 1, .rwl, 0⟩]⟩,
  ⟨"SEAM.COMMIT_CTL", 0x90FF00, [], none,
    [⟨1, 1, .rwl, 0⟩, ⟨0, 1, .rwl, 0⟩]⟩,
  ⟨"FLT.COMMIT_CTL", 0xA0FF00, [], none,
    [⟨1, 1, .rwl, 0⟩, ⟨0, 1, .rwl, 0⟩]⟩,
  ⟨"MGMT.COMMIT_STS", 0xFF04, [], none,
    [⟨16, 16, .ro, 0⟩, ⟨8, 8, .ro, 0⟩, ⟨7, 1, .w1c, 0⟩, ⟨6, 1, .ro, 0⟩, ⟨0, 4, .ro, 0⟩]⟩,
  ⟨"PWR.COMMIT_STS", 0x10FF04, [], none,
    [⟨16, 16, .ro, 0⟩, ⟨8, 8, .ro, 0⟩, ⟨7, 1, .w1c, 0⟩, ⟨6, 1, .ro, 0⟩, ⟨0, 4, .ro, 0⟩]⟩,
  ⟨"HQ.COMMIT_STS", 0x30FF04, [], none,
    [⟨16, 16, .ro, 0⟩, ⟨8, 8, .ro, 0⟩, ⟨7, 1, .w1c, 0⟩, ⟨6, 1, .ro, 0⟩, ⟨0, 4, .ro, 0⟩]⟩,
  ⟨"CMP.COMMIT_STS", 0x40FF04, [], none,
    [⟨16, 16, .ro, 0⟩, ⟨8, 8, .ro, 0⟩, ⟨7, 1, .w1c, 0⟩, ⟨6, 1, .ro, 0⟩, ⟨0, 4, .ro, 0⟩]⟩,
  ⟨"MEM.COMMIT_STS", 0x50FF04, [], none,
    [⟨16, 16, .ro, 0⟩, ⟨8, 8, .ro, 0⟩, ⟨7, 1, .w1c, 0⟩, ⟨6, 1, .ro, 0⟩, ⟨0, 4, .ro, 0⟩]⟩,
  ⟨"MC.COMMIT_STS", 0x60FF04, [], none,
    [⟨16, 16, .ro, 0⟩, ⟨8, 8, .ro, 0⟩, ⟨7, 1, .w1c, 0⟩, ⟨6, 1, .ro, 0⟩, ⟨0, 4, .ro, 0⟩]⟩]

def devRegs1 : List RRow := [
  ⟨"TST.COMMIT_STS", 0x70FF04, [], none,
    [⟨16, 16, .ro, 0⟩, ⟨8, 8, .ro, 0⟩, ⟨7, 1, .w1c, 0⟩, ⟨6, 1, .ro, 0⟩, ⟨0, 4, .ro, 0⟩]⟩,
  ⟨"SEC.COMMIT_STS", 0x80FF04, [], none,
    [⟨16, 16, .ro, 0⟩, ⟨8, 8, .ro, 0⟩, ⟨7, 1, .w1c, 0⟩, ⟨6, 1, .ro, 0⟩, ⟨0, 4, .ro, 0⟩]⟩,
  ⟨"SEAM.COMMIT_STS", 0x90FF04, [], none,
    [⟨16, 16, .ro, 0⟩, ⟨8, 8, .ro, 0⟩, ⟨7, 1, .w1c, 0⟩, ⟨6, 1, .ro, 0⟩, ⟨0, 4, .ro, 0⟩]⟩,
  ⟨"FLT.COMMIT_STS", 0xA0FF04, [], none,
    [⟨16, 16, .ro, 0⟩, ⟨8, 8, .ro, 0⟩, ⟨7, 1, .w1c, 0⟩, ⟨6, 1, .ro, 0⟩, ⟨0, 4, .ro, 0⟩]⟩,
  ⟨"MGMT_PLAIT_STS", 0x100, [], none,
    [⟨12, 1, .w1c, 0⟩, ⟨13, 1, .w1c, 0⟩, ⟨14, 2, .ro, 0⟩, ⟨16, 4, .ro, 0⟩, ⟨24, 8, .ro, 0⟩]⟩,
  ⟨"MGMT_SELF_HANDLE", 0x104, [], none,
    [⟨0, 14, .ro, 16383⟩, ⟨14, 18, .ro, 262143⟩]⟩,
  ⟨"SEAM_PORT_STS", 0x900010, [(0x4, 6)], none,
    [⟨0, 4, .ro, 0⟩, ⟨4, 4, .ro, 0⟩, ⟨8, 3, .ro, 0⟩, ⟨11, 3, .ro, 0⟩, ⟨14, 18, .ro, 0⟩]⟩,
  ⟨"MGMT_TICK_LO", 0x200, [], none,
    [⟨0, 32, .ro, 0⟩]⟩,
  ⟨"MGMT_TICK_HI", 0x204, [], none,
    [⟨0, 32, .ro, 0⟩]⟩,
  ⟨"PWR_VM_BRK", 0x100400, [], none,
    [⟨0, 12, .rws, 2650⟩, ⟨16, 12, .rws, 2700⟩]⟩,
  ⟨"PWR_VM_LIM", 0x100404, [], none,
    [⟨0, 12, .rws, 400⟩, ⟨16, 12, .rws, 2800⟩]⟩,
  ⟨"PWR_BRK_CFG", 0x100408, [], none,
    [⟨0, 16, .rws, 50⟩, ⟨16, 8, .ro, 0⟩, ⟨24, 8, .rws, 25⟩]⟩,
  ⟨"PWR_VM_STS", 0x10040C, [], none,
    [⟨1, 1, .w1c, 0⟩, ⟨2, 1, .w1c, 0⟩, ⟨3, 1, .ro, 0⟩, ⟨4, 1, .ro, 0⟩, ⟨5, 1, .w1c, 0⟩, ⟨12, 8, .ro, 0⟩, ⟨20, 12, .ro, 0⟩]⟩,
  ⟨"PWR_SPIN_BUDGET", 0x100410, [], none,
    [⟨0, 16, .ro, 0⟩, ⟨16, 16, .rws, 0⟩]⟩,
  ⟨"MGMT_ID", 0x0, [], none,
    [⟨0, 8, .ro, 194⟩, ⟨16, 16, .ro, 38464⟩]⟩,
  ⟨"MGMT_ETH_CFG", 0x300, [(0x4, 4)], none,
    [⟨0, 2, .rwx, 0⟩, ⟨2, 1, .rwl, 0⟩, ⟨8, 4, .ro, 0⟩, ⟨12, 1, .w1c, 0⟩]⟩]

def devRegs2 : List RRow := [
  ⟨"MGMT_PTP_STS", 0x310, [], none,
    [⟨0, 3, .ro, 0⟩, ⟨3, 1, .w1c, 0⟩, ⟨4, 12, .ro, 0⟩, ⟨16, 8, .ro, 37⟩]⟩,
  ⟨"MGMT_TAI_NS", 0x314, [], none,
    [⟨0, 32, .ro, 0⟩]⟩,
  ⟨"MGMT_TAI_SEC_LO", 0x318, [], none,
    [⟨0, 32, .ro, 0⟩]⟩,
  ⟨"MGMT_TAI_SEC_HI", 0x31C, [], none,
    [⟨0, 16, .ro, 0⟩]⟩,
  ⟨"HQ_STAMP_LO", 0x300000, [], none,
    [⟨0, 32, .ro, 1⟩]⟩,
  ⟨"HQ_STAMP_HI", 0x300004, [], none,
    [⟨0, 32, .ro, 0⟩]⟩,
  ⟨"HQ_INTAKE_STS", 0x300008, [], none,
    [⟨0, 18, .ro, 0⟩, ⟨30, 1, .ro, 0⟩, ⟨31, 1, .ro, 0⟩]⟩,
  ⟨"HQ_LOCK_STS", 0x30000C, [], none,
    [⟨0, 15, .ro, 0⟩, ⟨16, 15, .ro, 0⟩]⟩,
  ⟨"HQ_CMT_CFG", 0x300010, [], none,
    [⟨0, 10, .rws, 20⟩]⟩,
  ⟨"HQ_CTL_SEL", 0x300100, [], none,
    [⟨0, 16, .rwl, 1⟩, ⟨31, 1, .ro, 0⟩]⟩,
  ⟨"HQ_CTL_BUDGET", 0x300104, [], none,
    [⟨0, 11, .rws, 0⟩, ⟨16, 16, .rws, 4096⟩]⟩,
  ⟨"HQ_CTL_STS", 0x300108, [], none,
    [⟨0, 1, .ro, 0⟩, ⟨16, 16, .ro, 0⟩]⟩,
  ⟨"HQ_TEN_SHARE", 0x30010C, [], none,
    [⟨0, 11, .rws, 0⟩, ⟨31, 1, .ro, 0⟩]⟩,
  ⟨"HQ_NS_SEL", 0x300200, [], none,
    [⟨0, 32, .rwl, 1⟩]⟩,
  ⟨"HQ_NS_QUOTA", 0x300204, [], none,
    [⟨0, 32, .rws, 0⟩]⟩,
  ⟨"HQ_NS_USE", 0x300208, [], none,
    [⟨0, 32, .ro, 0⟩]⟩]

def devRegs3 : List RRow := [
  ⟨"CMP_CFG", 0x400000, [], none,
    [⟨0, 8, .rws, 8⟩, ⟨16, 16, .rws, 64⟩]⟩,
  ⟨"CMP_STS", 0x400004, [], none,
    [⟨0, 1, .w1c, 0⟩, ⟨1, 1, .w1c, 0⟩, ⟨16, 16, .ro, 0⟩]⟩,
  ⟨"CMP_RAS_SEL", 0x400010, [], none,
    [⟨0, 32, .rwl, 1⟩]⟩,
  ⟨"CMP_RAS_GEOM", 0x400014, [], none,
    [⟨0, 3, .rws, 0⟩, ⟨4, 1, .rws, 0⟩, ⟨16, 16, .rws, 0⟩]⟩,
  ⟨"CMP_ENG_STS", 0x400100, [(0x4, 36)], none,
    [⟨0, 14, .ro, 0⟩, ⟨29, 3, .ro, 0⟩]⟩,
  ⟨"MEM_CFG", 0x500000, [], none,
    [⟨0, 12, .ro, 0⟩, ⟨12, 4, .ro, 0⟩, ⟨16, 5, .ro, 0⟩, ⟨23, 1, .ro, 0⟩, ⟨24, 2, .ro, 0⟩, ⟨26, 2, .ro, 0⟩, ⟨28, 4, .ro, 0⟩]⟩,
  ⟨"MEM_CTL", 0x500004, [], none,
    [⟨0, 1, .rwl, 0⟩, ⟨1, 1, .rwl, 0⟩, ⟨2, 1, .rwl, 0⟩]⟩,
  ⟨"MEM_STS", 0x500008, [], none,
    [⟨0, 3, .ro, 0⟩, ⟨8, 4, .ro, 0⟩, ⟨12, 1, .w1c, 0⟩, ⟨16, 8, .ro, 0⟩, ⟨24, 8, .ro, 0⟩]⟩,
  ⟨"MEM_REF_CFG", 0x500010, [], none,
    [⟨0, 16, .rws, 1000⟩, ⟨24, 4, .rws, 5⟩, ⟨28, 4, .rws, 8⟩]⟩,
  ⟨"MEM_RINSE_CFG", 0x500014, [], none,
    [⟨0, 8, .rws, 24⟩, ⟨31, 1, .rws, 1⟩]⟩,
  ⟨"MEM_RINSE_STS", 0x500018, [], none,
    [⟨0, 30, .ro, 0⟩]⟩,
  ⟨"MEM_RET_POL", 0x50001C, [], none,
    [⟨0, 8, .rws, 4⟩, ⟨8, 8, .rws, 1⟩, ⟨16, 8, .rws, 8⟩, ⟨31, 1, .rws, 1⟩]⟩,
  ⟨"MEM_RET_CTL", 0x500020, [], none,
    [⟨0, 30, .rwl, 0⟩, ⟨30, 2, .rwl, 0⟩]⟩,
  ⟨"MEM_RET_STS", 0x500024, [], none,
    [⟨0, 13, .ro, 0⟩, ⟨28, 3, .ro, 0⟩, ⟨31, 1, .ro, 0⟩]⟩,
  ⟨"MEM_FILL_BASE", 0x500030, [], none,
    [⟨0, 30, .rwl, 0⟩]⟩,
  ⟨"MEM_FILL_LEN", 0x500034, [], none,
    [⟨0, 30, .rwl, 0⟩]⟩]

def devRegs4 : List RRow := [
  ⟨"MEM_FILL_PAT", 0x500038, [], none,
    [⟨0, 32, .rwl, 0⟩]⟩,
  ⟨"MEM_FILL_CTL", 0x50003C, [], none,
    [⟨0, 1, .rwl, 0⟩, ⟨28, 3, .ro, 0⟩, ⟨31, 1, .ro, 0⟩]⟩,
  ⟨"MEM_XMAP", 0x500100, [(0x8, 10)], none,
    [⟨0, 32, .rwx, 0⟩]⟩,
  ⟨"MEM_XMAP_HI", 0x500104, [(0x8, 10)], none,
    [⟨0, 3, .rwx, 0⟩, ⟨8, 6, .rwx, 0⟩]⟩,
  ⟨"MEM_CH_STS", 0x500200, [(0x4, 8)], none,
    [⟨0, 2, .ro, 0⟩, ⟨4, 1, .rwl, 0⟩, ⟨6, 2, .ro, 0⟩, ⟨8, 8, .ro, 0⟩, ⟨16, 16, .ro, 0⟩]⟩,
  ⟨"MEM_DEV_MARK", 0x500240, [(0x4, 8)], none,
    [⟨0, 5, .rwl, 0⟩, ⟨7, 1, .rwl, 0⟩, ⟨8, 5, .rwl, 0⟩, ⟨15, 1, .rwl, 0⟩, ⟨16, 5, .rwl, 0⟩, ⟨23, 1, .rwl, 0⟩, ⟨24, 5, .rwl, 0⟩, ⟨31, 1, .rwl, 0⟩]⟩,
  ⟨"MEM_TRN_RES", 0x501000, [(0x80, 8), (0x4, 20)], none,
    [⟨0, 8, .ro, 0⟩, ⟨8, 8, .ro, 0⟩, ⟨16, 8, .ro, 0⟩, ⟨24, 8, .ro, 0⟩]⟩,
  ⟨"MC_CFG", 0x600000, [], none,
    [⟨0, 11, .rws, 60⟩]⟩,
  ⟨"MC_WAYMASK", 0x600100, [(0x4, 8)], none,
    [⟨0, 16, .rws, 65535⟩, ⟨16, 1, .rws, 0⟩]⟩,
  ⟨"MC_OCC", 0x600140, [(0x4, 8)], none,
    [⟨0, 18, .ro, 0⟩]⟩,
  ⟨"MC_MAINT_ADDR", 0x600200, [], none,
    [⟨0, 32, .rwl, 0⟩]⟩,
  ⟨"MC_MAINT_ARG", 0x600204, [], none,
    [⟨0, 14, .rwl, 0⟩, ⟨14, 2, .rwl, 0⟩, ⟨16, 16, .rwl, 1⟩]⟩,
  ⟨"MC_MAINT_CTL", 0x600208, [], none,
    [⟨0, 2, .rwl, 0⟩, ⟨4, 2, .rwl, 0⟩, ⟨8, 4, .rwl, 0⟩, ⟨28, 3, .ro, 0⟩, ⟨31, 1, .ro, 0⟩]⟩,
  ⟨"MC_STS", 0x600210, [], none,
    [⟨1, 1, .w1c, 0⟩, ⟨2, 1, .w1c, 0⟩, ⟨3, 1, .rwl, 0⟩, ⟨8, 8, .ro, 0⟩, ⟨16, 16, .ro, 0⟩]⟩,
  ⟨"MC_ERR_LOC", 0x600214, [], none,
    [⟨0, 1, .ro, 0⟩, ⟨8, 1, .ro, 0⟩, ⟨9, 3, .ro, 0⟩, ⟨12, 2, .ro, 0⟩, ⟨14, 4, .ro, 0⟩, ⟨18, 14, .ro, 0⟩]⟩,
  ⟨"PWR_STATE_CTL", 0x100000, [], none,
    [⟨0, 16, .rws, 100⟩, ⟨30, 1, .rwl, 0⟩, ⟨31, 1, .rwl, 0⟩]⟩]

def devRegs5 : List RRow := [
  ⟨"PWR_STATE_STS", 0x100004, [], none,
    [⟨8, 8, .ro, 250⟩, ⟨16, 1, .ro, 0⟩, ⟨17, 1, .w1c, 0⟩, ⟨20, 4, .ro, 0⟩, ⟨26, 3, .ro, 0⟩, ⟨29, 3, .ro, 0⟩]⟩,
  ⟨"PWR_GOV_CFG", 0x100010, [], none,
    [⟨0, 8, .rws, 140⟩, ⟨8, 8, .rws, 2⟩, ⟨16, 8, .rws, 12⟩]⟩,
  ⟨"PWR_GOV_STS", 0x100014, [], none,
    [⟨0, 13, .ro, 0⟩, ⟨13, 1, .ro, 0⟩, ⟨14, 2, .ro, 0⟩, ⟨16, 16, .ro, 0⟩]⟩,
  ⟨"PWR_VIN_STS", 0x100018, [], none,
    [⟨0, 12, .ro, 0⟩]⟩,
  ⟨"PWR_DOM_STS", 0x100020, [], none,
    [⟨0, 17, .ro, 3⟩]⟩,
  ⟨"PWR_PAD_LATCH", 0x100024, [], none,
    [⟨0, 17, .ro, 0⟩, ⟨31, 1, .w1c, 0⟩]⟩,
  ⟨"PWR_PAD_REL", 0x100028, [], none,
    [⟨0, 17, .rwl, 0⟩]⟩,
  ⟨"PWR_WAKE_STS", 0x100030, [], none,
    [⟨1, 1, .w1c, 0⟩, ⟨2, 1, .w1c, 0⟩, ⟨3, 1, .w1c, 0⟩, ⟨4, 1, .w1c, 0⟩, ⟨5, 1, .w1c, 0⟩, ⟨6, 1, .w1c, 0⟩, ⟨7, 1, .w1c, 0⟩, ⟨8, 1, .w1c, 0⟩, ⟨29, 3, .ro, 0⟩]⟩,
  ⟨"PWR_RET_FAIL", 0x100034, [], none,
    [⟨0, 24, .w1c, 0⟩]⟩,
  ⟨"PWR_DVFS_CTL", 0x100100, [(0x4, 7)], none,
    [⟨0, 2, .rwl, 0⟩, ⟨2, 2, .rwl, 0⟩, ⟨8, 2, .ro, 0⟩, ⟨10, 2, .ro, 0⟩, ⟨30, 1, .w1c, 0⟩, ⟨31, 1, .ro, 0⟩]⟩,
  ⟨"PWR_THERM", 0x100200, [(0x4, 5)], none,
    [⟨0, 1, .ro, 0⟩, ⟨1, 1, .rwl, 0⟩, ⟨16, 8, .ro, 0⟩, ⟨24, 8, .ro, 0⟩]⟩,
  ⟨"TST_CFG", 0x700000, [], none,
    [⟨0, 1, .rws, 1⟩, ⟨1, 1, .rws, 1⟩, ⟨2, 1, .rws, 1⟩, ⟨3, 1, .rws, 0⟩, ⟨4, 4, .rws, 5⟩, ⟨8, 8, .rws, 60⟩, ⟨16, 8, .rws, 60⟩, ⟨24, 8, .rws, 15⟩]⟩,
  ⟨"TST_STS", 0x700004, [], none,
    [⟨0, 8, .ro, 0⟩, ⟨8, 1, .w1c, 0⟩, ⟨9, 1, .w1c, 0⟩, ⟨10, 1, .w1c, 0⟩, ⟨11, 1, .w1c, 0⟩, ⟨15, 1, .ro, 0⟩, ⟨23, 9, .ro, 0⟩]⟩,
  ⟨"TST_CMD", 0x700008, [], none,
    [⟨0, 14, .rwl, 0⟩, ⟨24, 2, .rwl, 0⟩, ⟨28, 3, .ro, 0⟩, ⟨31, 1, .ro, 0⟩]⟩,
  ⟨"TST_SIG_LO", 0x70000C, [], none,
    [⟨0, 32, .ro, 0⟩]⟩,
  ⟨"TST_SIG_HI", 0x700010, [], none,
    [⟨0, 32, .ro, 0⟩]⟩]

def devRegs6 : List RRow := [
  ⟨"TST_UNIT_SEL", 0x700020, [], none,
    [⟨0, 14, .rwl, 0⟩]⟩,
  ⟨"TST_UNIT_STS", 0x700024, [], none,
    [⟨4, 4, .ro, 0⟩, ⟨8, 8, .ro, 0⟩, ⟨16, 8, .ro, 0⟩, ⟨24, 5, .ro, 0⟩, ⟨29, 3, .ro, 0⟩]⟩,
  ⟨"TST_FUSE_ADDR", 0x700030, [], none,
    [⟨0, 8, .rwl, 0⟩, ⟨8, 1, .rwl, 0⟩]⟩,
  ⟨"TST_FUSE_DATA", 0x700034, [], none,
    [⟨0, 32, .ro, 0⟩]⟩,
  ⟨"TST_FROW_CTL", 0x700038, [], none,
    [⟨0, 14, .rwl, 0⟩, ⟨16, 8, .rwl, 0⟩, ⟨24, 1, .rwl, 0⟩, ⟨28, 3, .ro, 0⟩, ⟨31, 1, .ro, 0⟩]⟩,
  ⟨"TST_DECK_CFG", 0x700100, [(0x4, 16)], none,
    [⟨0, 8, .rws, 16⟩, ⟨8, 4, .rws, 2⟩, ⟨15, 1, .rws, 0⟩, ⟨16, 6, .rws, 0⟩]⟩,
  ⟨"TST_LANE_CAL", 0x701000, [(0x200, 16), (0x4, 66)], none,
    [⟨0, 1, .ro, 0⟩, ⟨8, 8, .ro, 0⟩, ⟨16, 8, .ro, 0⟩, ⟨24, 8, .ro, 0⟩]⟩,
  ⟨"TST_SVO_OFS", 0x704000, [(0x40, 16), (0x4, 8)], none,
    [⟨0, 16, .ro, 0⟩]⟩,
  ⟨"TST_SHUNT_OFS", 0x704020, [(0x40, 16), (0x4, 3)], none,
    [⟨0, 16, .ro, 0⟩]⟩,
  ⟨"SEC_STS", 0x800000, [], none,
    [⟨0, 1, .w1c, 0⟩, ⟨1, 1, .ro, 0⟩, ⟨2, 1, .ro, 0⟩, ⟨12, 4, .ro, 0⟩, ⟨16, 8, .ro, 0⟩, ⟨29, 3, .ro, 0⟩]⟩,
  ⟨"SEC_LEDGER_STS", 0x800004, [], none,
    [⟨0, 13, .ro, 0⟩, ⟨13, 17, .ro, 0⟩, ⟨30, 1, .ro, 0⟩, ⟨31, 1, .w1c, 0⟩]⟩,
  ⟨"SEC_LEDGER_SEQ", 0x800008, [], none,
    [⟨0, 32, .ro, 0⟩]⟩,
  ⟨"SEC_ZERO", 0x800010, [], none,
    [⟨0, 8, .rwl, 0⟩, ⟨31, 1, .ro, 0⟩]⟩,
  ⟨"MGMT_BOOT_STS", 0x10, [], none,
    [⟨4, 2, .ro, 0⟩, ⟨8, 1, .ro, 0⟩, ⟨9, 1, .ro, 0⟩, ⟨24, 4, .ro, 0⟩, ⟨28, 4, .ro, 0⟩]⟩,
  ⟨"MGMT_BOOT_TIME", 0x14, [], none,
    [⟨0, 16, .ro, 0⟩, ⟨16, 16, .ro, 0⟩]⟩,
  ⟨"FLT_SEQ_NEXT", 0xA00000, [], none,
    [⟨0, 32, .ro, 0⟩]⟩]

def devRegs7 : List RRow := [
  ⟨"FLT_ACK_SEQ", 0xA00004, [], none,
    [⟨0, 32, .rwl, 0⟩]⟩,
  ⟨"FLT_STS", 0xA00008, [], none,
    [⟨0, 1, .w1c, 0⟩, ⟨1, 1, .w1c, 0⟩, ⟨16, 13, .ro, 0⟩]⟩,
  ⟨"FLT_CFG", 0xA0000C, [], none,
    [⟨0, 2, .rws, 3⟩, ⟨2, 1, .rws, 1⟩, ⟨3, 1, .rws, 0⟩, ⟨16, 16, .rws, 0⟩]⟩,
  ⟨"FLT_REC_SEL", 0xA00020, [], none,
    [⟨0, 12, .rwl, 0⟩]⟩,
  ⟨"FLT_REC_DATA", 0xA00040, [(0x4, 16)], none,
    [⟨0, 32, .ro, 0⟩]⟩]

/-- Every register of the ten device-wide blocks (R23). -/
def devRegs : List RRow :=
  devRegs0 ++ devRegs1 ++ devRegs2 ++ devRegs3 ++ devRegs4 ++ devRegs5 ++ devRegs6 ++ devRegs7

end Sys2Proof.Machine
end

