-- ==== Sys2Proof/Machine/State.lean ====
section
/-! DEFINITION. Machine/State.lean: everything the spec gives the module, as plain data, and the module after reset.
Register fields live in two sparse tables, the values in force and the staged values (R7); what no register shows lives
in the typed parts below. -/

namespace Sys2Proof.Machine

/-- Who asks for a change (R645): role, port, controller, SHA-384 of its NQN or certificate chain (empty: neither). -/
structure Who where
  role : Nat := 0
  port : Nat := 21
  cid : Nat := 0
  origin : List Byte := []
  deriving DecidableEq, Repr

/-- R53, R51: what the timebase of one deck remembers beside ANG.STS and ANG.INC. -/
structure Timebase where
  /-- consecutive good wedges -/
  good : Nat := 0
  /-- consecutive wedges without a mark in the window -/
  miss : Nat := 0
  /-- consecutive wedges with a phase error beyond UNLOCK_TOL -/
  badPh : Nat := 0
  /-- consecutive wedges with a disagreeing index -/
  badIx : Nat := 0
  /-- wedges spent in HOLDOVER -/
  hold : Nat := 0
  /-- in SEARCH, the last mark with a valid index: the index and its tick -/
  last : Option (Nat × Nat) := none
  /-- phase correction of the wedge in progress, in 2^-24 grains, the ticks it is spread over and those gone by -/
  corr : Int := 0
  span : Nat := 0
  done : Nat := 0
  /-- commanded acceleration since the last mark, in 2^-24 grains per tick (R56) -/
  ff : Int := 0
  /-- the counter before the ticks that passed last, and whether the triggers have acted on them (R57) -/
  prev : Nat := 0
  acted : Bool := true
  /-- in SEARCH, periodic triggers whose angle has been passed (R59) -/
  skipped : List Nat := []
  deriving DecidableEq, Repr

/-- A software commit waiting on a deck (R62): sub-block mask, trigger, tick of the request, captured staged values, and
who asked. -/
structure DeckPend where
  mask : Nat
  trig : Nat
  req : Nat
  vals : FMap Nat
  who : Who := {}
  deriving DecidableEq, Repr

/-- A commit of the deck sequencer (R64): its trigger, the fields and the lane mode it puts in force. -/
structure SeqPend where
  trig : Nat
  vals : List (Nat × Nat)
  lane : Option Nat := none
  deriving DecidableEq, Repr

/-- The parts of a lane's loops and winnow that no register shows (R120 to R127, R130). -/
structure LaneSt where
  /-- fraction of the gain code, in 1/256 (R120) -/
  gainFr : Nat := 0
  /-- frequency term and phase, in 2^-36 UI -/
  freq : Int := 0
  ph : Int := 0
  /-- samples left of the acquisition span (R122) -/
  acq : Nat := 0
  /-- consecutive ON and OFF windows (R124) -/
  onCnt : Nat := 0
  offCnt : Nat := 0
  /-- samples since the flag rose -/
  upLen : Nat := 0
  /-- the long span has been signalled (R126) -/
  long : Bool := false
  /-- the data gap in hand, the sample of it at which the flagged span in progress starts, and the chaff that ended in it, as first
  sample and the one after the last (R125) -/
  gap : Nat := 0
  spanAt : Nat := 0
  chaff : List (Nat × Nat) := []
  /-- REINIT waits for the next block boundary (R128) -/
  reinit : Bool := false
  /-- bit count shift of R121 -/
  bitShift : Int := 0
  /-- leaving standby: the 20 microseconds of R130 run -/
  waking : Bool := false
  deriving DecidableEq, Repr

/-- A spare command waiting for its guard (R133, R134). -/
structure SparePend where
  back : Bool
  trig : Nat
  fired : Bool := false
  guards : Nat := 0
  /-- the shadowed lane was retired: no trigger is waited for -/
  forced : Bool := false
  deriving DecidableEq, Repr

/-- The write gate of a deck (R211, R212). -/
structure Gate where
  /-- causes that hold now, by the bit numbers of GATE_STS -/
  hold : Nat := 0
  /-- emitters the driver reports faulted (R210) -/
  emFault : Nat := 0
  /-- emitters excluded by calibration (R220) -/
  emExcl : Nat := 0
  /-- emitters not yet reopened since they were last closed -/
  shut : Nat := 0xFFFF
  /-- angle at which the last cause cleared -/
  clearedAt : Nat := 0
  /-- angle at which an emitter's own fault cleared -/
  emAt : FMap Nat := []
  /-- PES and FES errors of wedge samples in a row (R211) -/
  pesRun : Nat := 0
  fesRun : Nat := 0
  /-- disturbed sectors since the last revolution mark -/
  disturbed : Nat := 0
  deriving DecidableEq, Repr

/-- A request on the laser link (R207). -/
structure LinkReq where
  type : Nat
  tag : Nat
  payload : List Byte
  sends : Nat := 0
  /-- to go out in the next transmit frame -/
  queued : Bool := true
  deriving DecidableEq, Repr

/-- A transmit frame as built (R202): the emitter slots as 256-bit numbers, their first bit most significant. -/
structure TxFrame where
  seq : Nat
  ack : Nat
  mode : Nat
  gate : Nat
  valid : Nat
  phase : Nat
  period : Nat
  slots : List Nat
  msg : List Byte
  deriving DecidableEq, Repr

/-- The laser link of a deck (R200 to R210). -/
structure Link where
  laserMode : Nat := 0
  txSeq : Nat := 0
  rxAck : Nat := 0
  /-- a request waiting for its answer -/
  req : Option LinkReq := none
  lastTag : Nat := 0
  /-- failed bring-up attempts in a row -/
  tries : Nat := 0
  /-- the retry timer runs -/
  retry : Bool := false
  /-- the driver's KILLED as far as known, and whether a kill sequence of ours explains it -/
  killed : Bool := false
  killSent : Bool := false
  /-- failed receive frames in a row (R210) -/
  badFrames : Nat := 0
  /-- what the last good receive frame said: OVERTEMP, SUPPLY_LOW, TABLE_VALID, active bank, temperature, monitor values (R203) -/
  overtemp : Bool := false
  supplyLow : Bool := false
  tableValid : Bool := false
  bank : Bool := false
  temp : Int := 0
  mon : List Nat := []
  /-- KILLED was seen without a kill sequence of ours, and not yet seen clear (R210) -/
  killHold : Bool := false
  /-- what CAP told: LAT_SYM, PW_MAX, PR_MAX, model text (R207) -/
  latSym : Nat := 0
  pwMax : Nat := 0
  prMax : Nat := 0
  model : List Byte := []
  /-- bytes read back by TABLE_DATA -/
  readBack : List Byte := []
  /-- messages of the table download still to send, oldest first -/
  toSend : List (Nat × List Byte) := []
  /-- TABLE_COMMIT answered OK since bring-up began -/
  commitOk : Bool := false
  /-- the last transmit frame; none once a kill sequence has broken it off (R206) -/
  tx : Option TxFrame := none
  /-- a kill sequence is to go out before the next frame (R206) -/
  killOut : Bool := false
  /-- SEQ of the last transmit frame the driver took, and its TX_FAIL, READ_ON and WRITE_ON (R203) -/
  txAcked : Nat := 0
  txFail : Bool := false
  readOn : Bool := false
  writeOn : Bool := false
  /-- power of the calibration slot in progress, in 1/15 percent of PW and PPK (R219) -/
  slotPower : Option Nat := none
  /-- power scale of the emitters after calibration, in 1/65536 (R219) -/
  powScale : FMap Nat := []
  deriving DecidableEq, Repr

/-- A move of a slot's profile generator (R252, R253). -/
structure Prof where
  kind : Nat
  start : Int
  target : Int
  t0 : Nat
  /-- V_LIM, A_LIM and J_LIM as they were when the move started (R252) -/
  vLim : Nat := 0
  aLim : Nat := 0
  jLim : Nat := 0
  /-- started by the sequencer -/
  bySeq : Bool := false
  /-- the focus sweep, which lasts FS_MS (R358) -/
  sweep : Bool := false
  /-- PROF_STOP is bringing it to rest (R253) -/
  stopping : Bool := false
  /-- profile over, capture in progress -/
  ended : Bool := false
  /-- of the capture after a SEEK: samples within its limit in a row, samples left, the sample before (R253) -/
  capRun : Nat := 0
  capLeft : Nat := 64
  lastTes : Int := 0
  /-- |TARGET| of a SEEK, in nm -/
  seek : Nat := 0
  deriving DecidableEq, Repr

/-- A learning run of a slot's runout table (R246). -/
structure Learn where
  started : Bool := false
  sums : FMap Int := []
  deriving DecidableEq, Repr

/-- A bank swap waiting on a slot (R250). -/
structure SwapPend where
  atTrig : Bool
  trig : Nat
  clr : Bool
  deriving DecidableEq, Repr

/-- One biquad's delay elements (R242). -/
structure Delay where
  x1 : Int := 0
  x2 : Int := 0
  y1 : Int := 0
  y2 : Int := 0
  deriving DecidableEq, Repr

/-- One slot of the loop engine: what its registers do not show (R234 to R257). -/
structure Slot where
  /-- a MODE write waiting for the slot's next sample -/
  pendMode : Option Nat := none
  /-- integrator, and the values that the filters hold from the samples before (R242) -/
  integ : Int := 0
  ePrev : Int := 0
  uPrev : Int := 0
  wPrev : Int := 0
  x1 : Int := 0
  x2 : Int := 0
  u1 : Int := 0
  u2 : Int := 0
  dly : List Delay := [{}, {}, {}, {}]
  /-- coefficients of both banks, by address (R248) -/
  bankA : FMap Nat := []
  bankB : FMap Nat := []
  /-- runout table, and the learning run over it (R244, R246) -/
  table : FMap Int := []
  learn : Option Learn := none
  /-- learning sums of the run in progress count from this feedback effort -/
  fb : Int := 0
  /-- the move in hand, the set-point's position, the bank swap that waits (R250, R252) -/
  prof : Option Prof := none
  profPos : Int := 0
  swap : Option SwapPend := none
  /-- samples left of the blanking after a bank swap (R250) -/
  blank : Nat := 0
  /-- mean residual of the native supervisor; counts of the compatibility supervisor (R255, R256) -/
  res : Int := 0
  oscN : Nat := 0
  oscPeak : Bool := false
  oscSign : Bool := false
  oscSamples : Nat := 0
  oscRep : Nat := 0
  /-- limited samples in a row (R257) -/
  satRun : Nat := 0
  /-- output at entry to OPEN or JUMP -/
  entry : Int := 0
  /-- a fault of it inhibits writing (R258) -/
  inhibit : Bool := false
  deriving DecidableEq, Repr

/-- The loop engine of a deck beside its slots (R237 to R239, R244). -/
structure LoopEng where
  ofsC : Int := 0
  wedge : Nat := 0
  /-- BA + BB and the sum signal of the last 64 wedge samples, latest first -/
  bursts : List Nat := []
  sums : List Nat := []
  /-- low sum signals in a row; the coil current of the wedge in progress, its samples, and the mean of the last wedge (R238) -/
  sumRun : Nat := 0
  coilSum : Int := 0
  coilN : Nat := 0
  coilMean : Int := 0
  /-- currents the last sample asks of the three coils, in mA (R240, R241) -/
  coils : List Int := []
  /-- the last wedge sample of slot 1 fell back to TES_C; the tick of the last sample (R237, R239) -/
  fell : Bool := false
  sampledAt : Option Nat := none
  /-- free-running samples so far (R237) -/
  freeN : Nat := 0
  /-- layer fields since a jump ended, and wedges without one while the timebase is not LOCKED (R253, R259) -/
  layerSeen : List (Option Nat) := []
  layerWait : Nat := 0
  deriving DecidableEq, Repr

/-- The spindle controller of a deck (R286 to R303). -/
structure Spindle where
  /-- command in force: 0 none, 1 START, 2 STOP, 4 SET_SPEED -/
  cmd : Nat := 0
  method : Nat := 0
  target : Nat := 0
  /-- commanded speed, in 1/1000 rpm -/
  cmdSpeed : Int := 0
  angle : Nat := 0
  probes : Nat := 0
  /-- why a winding short runs: 0 stop, 1 stalled start, 2 backward motor -/
  shortWhy : Nat := 0
  alignDouble : Bool := false
  /-- all six switches are off until the next PWM period (R298) -/
  shortOff : Bool := false
  /-- integrators of the d and q current loops, in 2^-32 mV (R290) -/
  intD : Int := 0
  intQ : Int := 0
  /-- voltage vector in force, in mV -/
  volt : Int × Int := (0, 0)
  /-- PWM periods in a row in which the observer's back-EMF amplitude is far from KE × speed (R291) -/
  obsRun : Nat := 0
  deriving DecidableEq, Repr

/-- The sled of a deck (R326 to R340). -/
structure Sled where
  /-- command in force: 0 none, 1 MOVE, 2 VEL, 3 STOP, 4 FOLLOW -/
  cmd : Nat := 0
  /-- a MOVE's start, target, first tick and the limits it was planned with (full steps) -/
  start : Int := 0
  target : Int := 0
  t0 : Nat := 0
  lims : Nat × Nat × Nat := (0, 0, 0)
  /-- velocity aimed at, in full steps per second -/
  velTgt : Int := 0
  /-- profile velocity and acceleration, in 1/65536 full step per second (squared) -/
  vel : Int := 0
  acc : Int := 0
  /-- fraction of POS, in 1/65536 microstep -/
  sub : Int := 0
  /-- the standstill reduction is in force (R335) -/
  hold : Bool := false
  /-- the chopper mode the velocity asks for (R332) -/
  strongReq : Bool := false
  /-- load estimates of the last crossings, periods over the limit in a row, a target that was limited (R328, R336, R337) -/
  loads : List Nat := []
  overRun : Nat := 0
  limited : Bool := false
  /-- target phase currents in 10 mA, quiet-mode duties in 1/32768, duty trim in 1/65536 (R327, R333) -/
  phase : Int × Int := (0, 0)
  duty : Int × Int := (0, 0)
  trim : Int := 65536
  /-- strong mode: blanking time, fast decay and slow decay of the off-time, in ns (R334) -/
  chop : Nat × Nat × Nat := (0, 0, 0)
  deriving DecidableEq, Repr

/-- The sequencer of a deck (R355 to R370). -/
structure Seqr where
  /-- CLAMP_N has been low for CLAMP_DB (R355) -/
  clampLow : Bool := false
  /-- job running: 0 none, 1 LOAD, 2 PARK, 3 RECOVER, 4 wake, 5 shock recovery, 6 idle or DEEP park -/
  job : Nat := 0
  /-- a park waits for a pass, a calibration run or gleans (R356) -/
  pendPark : Bool := false
  /-- the sled is being stopped before its MOVE to PARK_POS -/
  parkMove : Bool := false
  /-- focus sweeps done -/
  sweeps : Nat := 0
  /-- layer travel of the last sweep, in nm (R358) -/
  travel : Int := 0
  /-- layer sought -/
  layerTgt : Nat := 0
  /-- a shock drop is open; ticks of the drops lately -/
  shockOpen : Bool := false
  shockTicks : List Nat := []
  /-- step of R340 in progress: 0 none -/
  rehome : Nat := 0
  homeZone : Nat := 0
  /-- a charge request waiting since a tick, for a command (1 START, 4 SET_SPEED) and a speed (R369) -/
  chargeReq : Option Nat := none
  chargeCmd : Nat := 0
  chargeRpm : Nat := 0
  /-- watts of the charge held (R368) -/
  chargeW : Nat := 0
  /-- a park or VM_ABS has turned the coil bridges off, until the deck is started again (R307, R308, R363) -/
  coilsOff : Bool := false
  /-- swath under the pickup -/
  swath : Nat := 32
  /-- track position under beam position 32 (R197, R326) -/
  track : Int := 2080
  /-- swath whose sector map is staged and not yet committed (R64, R362) -/
  newZone : Option Nat := none
  /-- lane mode in force: 0 CG2, 1 CG1, 2 PRIMER (R131) -/
  laneMode : Nat := 0
  /-- lane mode and MODE staged and not yet committed (R64, R359) -/
  newMode : Option Nat := none
  /-- learning runs of CALIBRATING that have ended, a bit for each of slots 0 to 3 -/
  learned : Nat := 0
  /-- the deck is set up for writing -/
  writing : Bool := false
  /-- an optimum power calibration run is in progress -/
  opc : Bool := false
  deriving DecidableEq, Repr

/-- A sector's decision (R171). -/
inductive Dec where
  | waiting | turbo | conv | erased | notRead
  deriving DecidableEq, Repr

/-- A swath block in hand (R171 to R175): its slot, the decisions of its 64 sectors, the passes written, the glean it
is in (0 first read). -/
structure Blk where
  slot : Nat
  swath : Nat
  passes : Nat
  dec : List Dec
  glean : Nat := 0
  inDarn : Bool := false
  pending : Bool := false
  /-- beams whose header test passed, and beams whose sectors await a decode without one (R165) -/
  hdrs : Nat := 0
  blind : Nat := 0
  /-- MODE and P of the map under which it was captured (R152) -/
  mode : Nat := 0
  p : Nat := 4680
  /-- by beam position: the alignment offset, then the offsets of the fragments that begin with a resync (R165, R166) -/
  offs : FMap (List Int) := []
  /-- payloads of its converged sectors (R167) -/
  pay : FMap (List Byte) := []
  /-- tick and angle stamp at the end of its last sector (R171) -/
  ended : Option (Nat × Nat) := none
  deriving DecidableEq, Repr

/-- A block handed over the bridge: with both stamps of R16 and the 64-bit erasure mask of R175. -/
structure Delivered where
  slot : Nat
  swath : Nat
  mask : Nat
  checked : Bool
  tick : Nat
  stamp : Nat
  data : List Byte := []
  layer : Nat := 0
  deriving DecidableEq, Repr

/-- The detector's survivors at a beam position (R157, R160): metric and last bits of each state's path, the two equaliser outputs
before, and the bits whose tentative decisions are awaited, with their outputs and whether they may adapt. -/
structure Tent where
  metric : List Int := List.replicate 32 0
  path : List (List Bool) := List.replicate 32 []
  z1 : Int := 0
  z2 : Int := 0
  wait : List (EqBit × Int × Bool) := []
  deriving DecidableEq, Repr

/-- Margin counters of a lane (R177). -/
structure LaneMargin where
  sectors : Nat := 0
  iterHist : FMap Nat := []
  secondOk : Nat := 0
  flywheel : Nat := 0
  syncLost : Nat := 0
  chaff : Nat := 0
  spans : Nat := 0
  slips : Nat := 0
  deriving DecidableEq, Repr

/-- Margin counters of a disc and its lanes (R178). -/
structure Margin where
  clrStamp : Nat := 0
  clrTick : Nat := 0
  blocks : Nat := 0
  darnHist : FMap Nat := []
  gleanHist : FMap Nat := []
  unreadable : Nat := 0
  miscorr : Nat := 0
  overrun : Nat := 0
  unchecked : Nat := 0
  lanes : FMap LaneMargin := []
  deriving DecidableEq, Repr

/-- A receive frame of the laser link as decoded (R203), and the symbols corrected. -/
structure RxFrame where
  seq : Nat := 0
  ack : Nat := 0
  fault : Nat := 0
  status : Nat := 0
  temp : Int := 0
  mon : List Nat := []
  msg : List Byte := []
  corr : Nat := 0
  deriving DecidableEq, Repr

/-- The outcome of a slot of a write pass (R214), with both stamps of R16. -/
inductive SlotResult where
  | verified | vfyFail | incomplete | notWritten
  deriving DecidableEq, Repr

/-- One slot outcome of a pass: emitter, slot, outcome, tick, angle stamp. -/
structure SlotOut where
  emitter : Nat
  slot : Nat
  out : SlotResult
  tick : Nat
  stamp : Nat
  deriving DecidableEq, Repr

/-- A stored stream on its way to the medium: its mapping record and its bytes (R105, R469). -/
structure Stm where
  mrec : MapRec
  bytes : List Byte
  deriving DecidableEq, Repr

/-- Streams packed into one swath block payload, in order (R97, R469). -/
structure StageBlk where
  streams : List Stm
  /-- number of the swath block in its namespace (R35), and the zone it belongs to -/
  num : Nat := 0
  zone : Option Nat := none
  deriving DecidableEq, Repr

/-- A write pass in progress (R196 to R198) and the outcomes reported so far (R214). -/
structure Pass where
  pass : Nat
  startSlot : Nat
  /-- the calibration run it carries, none for data -/
  run : Option Nat := none
  outs : List SlotOut := []
  /-- the slot being written, the emitters open at each slot's start and those closed within it (R214) -/
  now : Option Nat := none
  opened : FMap Nat := []
  lost : FMap Nat := []
  /-- of a calibration run: emitter, step, β, iterations to converge, whether it verified (R219) -/
  steps : List (Nat × Nat × Int × Nat × Bool) := []
  deriving DecidableEq, Repr

/-- What is known of the disc in the clamp (R100 to R110, R434): its primer, the records of its index units, its ledger
records, the block payloads written, and where writing goes on. -/
structure Disc where
  gen : Nat := 2
  blank : Bool := false
  layers : Nat := 1
  discId : List Byte := []
  setLabel : List Byte := []
  member : Nat := 0
  setSize : Nat := 1
  time : Nat := 0
  maps : List MapRec := []
  commits : List CommitRec := []
  /-- KEY records: KID, wrapped data key (R637) -/
  keys : List (Nat × List Byte) := []
  /-- highest UNIT_SEQ of index units and of ledger units -/
  unitSeq : Nat := 0
  ledgerSeq : Nat := 0
  /-- index units not yet used (R436) -/
  freeUnits : Nat := 0
  /-- ledger and checkpoint records written -/
  ledger : List (List Byte) := []
  /-- swath block payloads, by PBA -/
  blocks : FMap (List Byte) := []
  /-- data swaths with a written slot, by layer, and used unit slots by layer, swath, pass and slot: none is written again (R83) -/
  written : List (Nat × Nat) := []
  units : List (Nat × Nat × Nat × Nat) := []
  /-- next swath to write on the layer, and blocks left -/
  layer : Nat := 0
  swath : Nat := 32
  blocksLeft : Nat := 0
  /-- calibration runs used, by layer (R219) -/
  calUsed : FMap Nat := []
  /-- written since its last ledger unit (R437), and the next SEQ that unit left unwritten -/
  dirty : Bool := false
  ledgerNext : Nat := 0
  deriving DecidableEq, Repr

/-- An index or ledger unit being written (R103, R104). -/
structure UnitNow where
  magic : Nat
  swath : Nat
  slot : Nat
  pass : Nat
  seq : Nat
  maps : List MapRec
  commits : List CommitRec
  keys : List (Nat × List Byte) := []
  payload : List Byte
  /-- of a ledger unit: its records, and the SEQ after its last entry -/
  recs : List (List Byte) := []
  upto : Nat := 0
  deriving DecidableEq, Repr

/-- A primer being written (R199): what it says, its emitter; whether the pickup stands at the groove's inner end; the spindle
observer's angle since then, in rpm × ns, and its value when the last gate condition cleared (R212); the first channel bit of the
recording, in 32 nm of groove; whether the gate closed on it. -/
structure PrimerNow where
  info : PrimerInfo
  emitter : Nat
  /-- the Mount that writes it -/
  stamp : Nat := 0
  /-- the pickup stands at the groove's inner end and the recording goes out -/
  moved : Bool := false
  /-- the spindle observer's angle since then, and at the last clearing of the gate -/
  obs : Nat := 0
  cleared : Nat := 0
  /-- first channel bit of the recording, in 32 nm of groove -/
  base : Option Nat := none
  /-- the gate closed on it -/
  broken : Bool := false
  deriving DecidableEq, Repr

/-- Everything a deck holds that no register shows. -/
structure Deck where
  /-- ticks since a timed thing of the deck began, by number, and 2^-24 grains turned since then (R207, R209, R335, R340, R355, R364,
  R365) -/
  ages : FMap Nat := []
  turns : FMap Nat := []
  tb : Timebase := {}
  /-- triggers whose last firing signalled the deck core, and lanes that signalled a long span (R60, R126) -/
  signals : List Nat := []
  longs : List Nat := []
  /-- slots whose sync windows trigger 2 has opened, the last first (R163) -/
  wins : List Nat := []
  /-- slot and alignment offset of the sector whose sync was accepted last, by beam position (R127, R157, R165) -/
  accepted : FMap (Option (Nat × Int)) := []
  /-- slots of the swath read since the read revolution began (R173) -/
  seen : List Nat := []
  /-- the software commit that waits, and those of the sequencer (R62, R64) -/
  pend : Option DeckPend := none
  seqPend : List SeqPend := []
  /-- lanes and spares beside their registers (R118 to R134) -/
  lanes : FMap LaneSt := []
  spare : FMap (Option SparePend) := []
  /-- write gate and laser link (R200 to R212) -/
  gate : Gate := {}
  link : Link := {}
  /-- loop slots, loop engine, spindle, sled and sequencer (R234 to R370) -/
  slots : FMap Slot := []
  eng : LoopEng := {}
  spn : Spindle := {}
  sled : Sled := {}
  seq : Seqr := {}
  /-- equaliser taps in force, initial sets, those at the start of the first read revolution, those before the gleans -/
  taps : FMap Int := []
  initTaps : FMap Int := []
  firstTaps : FMap Int := []
  preTaps : FMap Int := []
  /-- tentative decisions in the making, by beam position (R157) -/
  tents : FMap Tent := []
  /-- EQ_REINIT loads waiting for the next data gap -/
  reinit : List Nat := []
  /-- swath blocks in hand (R171) -/
  blocks : List Blk := []
  /-- fragment offset last found, by beam position -/
  frag : FMap Int := []
  align : FMap Int := []
  /-- glean set in force (0 none), whether gleans run, and the focus offset in force -/
  glean : Nat := 0
  gleanOn : Bool := false
  gleanOfs : Int := 0
  /-- blocks handed over the bridge (R171) -/
  delivered : List Delivered := []
  /-- margin counters (R176) -/
  margin : Margin := {}
  /-- the frozen margin records (R176) -/
  snap : List Byte := []
  /-- staged blocks not yet bound to a slot, oldest first (R218); blocks bound to slots of the swath being written -/
  queue : List StageBlk := []
  bound : List (Nat × StageBlk) := []
  /-- swath being written, its next pass, and the pass in hand (R196, R197) -/
  wrSwath : Nat := 0
  nextPass : Nat := 0
  pass : Option Pass := none
  /-- (slot, track) of the swath being written that did not end VERIFIED -/
  failed : List (Nat × Nat) := []
  /-- outcomes of the last pass reported to the management cores -/
  report : List SlotOut := []
  /-- mapping records of placed streams, waiting for an index unit, and since when -/
  placed : List MapRec := []
  placedAt : Option Nat := none
  /-- KEY records waiting for an index unit; COMMIT_MS has run out (R422) -/
  keysDue : List (Nat × List Byte) := []
  unitDue : Bool := false
  /-- the unit being written, the primer being written, the disc in the clamp -/
  unit : Option UnitNow := none
  primer : Option PrimerNow := none
  disc : Option Disc := none
  /-- mounted, and for which namespace -/
  mounted : Option Nat := none
  /-- driver temperature at the last calibration, by layer; layers calibrated for this disc (R219) -/
  opcTemp : FMap Int := []
  opcFresh : List Nat := []
  deriving DecidableEq, Repr

/-- The record ring and its delivery state (R669 to R674). -/
structure Flt where
  /-- oldest first -/
  ring : List FaultRec := []
  /-- next sequence number; records lost and not yet reported, and in all (R670) -/
  next : Nat := 0
  lostNow : Nat := 0
  lostOpen : Bool := false
  /-- tick of the loss that opened the interval -/
  lostAt : Nat := 0
  lostTotal : Nat := 0
  /-- records held in AON while MGMT is Off, and those beyond 16 -/
  aon : List FaultRec := []
  aonLost : Nat := 0
  /-- words 1 to 15 latched by a read of REC_DATA word 0 -/
  latch : List Byte := []
  msiEpoch : Option Nat := none
  msiSent : Nat := 0
  deriving DecidableEq, Repr

/-- A device-wide commit waiting for its boundary (R17, R18). -/
structure BlkPend where
  epoch : Nat
  vals : FMap Nat
  who : Who := {}
  deriving DecidableEq, Repr

/-- A sector on its way through a die's LDPC pool: deck, slot, beam position. -/
structure SectorId where
  deck : Nat
  slot : Nat
  beam : Nat
  deriving DecidableEq, Repr

/-- A sector whose decision is outstanding (R169, R170): the equaliser outputs stored of it, and the values its first pass ended
with. -/
structure Held where
  id : SectorId
  outs : Outs := {}
  post : List Int := []
  deriving DecidableEq, Repr

/-- The decoding pool of a data die (R10, R167 to R171): work waiting for first and second passes, oldest first, work in
engines, blocks in darn engines, engines out for self-test or retired. -/
structure Die where
  first : List SectorId := []
  turbo : List SectorId := []
  active : List SectorId := []
  /-- the buffer of equaliser outputs, oldest sector first (R170) -/
  held : List Held := []
  /-- blocks in darn engines, engines out for self-test or retired, and whether work is shed (R170, R171) -/
  darn : List (Nat × Nat) := []
  ldpcOut : Nat := 0
  darnOut : Nat := 0
  shed : Bool := false
  deriving DecidableEq, Repr

/-- The brake chopper (R304 to R308): VM when it was turned on, whether the test of R308 runs, and whether the ladder drove it before. -/
structure Brk where
  onVm : Nat := 0
  test : Bool := false
  was : Bool := false
  deriving DecidableEq, Repr

/-! ### Change ledger (R644 to R650) -/

/-- One entry (R645). TIME is TAI in nanoseconds. -/
structure LedEntry where
  seq : Nat
  dev : Nat
  time : Nat
  result : Nat
  who : Who
  cls : Nat
  detail : Nat
  object : Nat
  old : List Byte
  new : List Byte
  prev : List Byte
  deriving DecidableEq, Repr

/-- The ledger: next SEQ, entries below `flushed` in flash, the chain value of the last entry, entries held (AON buffer and
flash ring), checkpoints held with their numbers, the oldest one held, the ledger key and leaf in force (R649). -/
structure Ledger where
  next : Nat := 0
  flushed : Nat := 0
  head : List Byte := List.replicate 48 0
  entries : List LedEntry := []
  cps : List (Nat × List Byte) := []
  firstCp : Nat := 0
  key : Nat := 0
  leaf : Nat := 0
  /-- the last flash write failed, and none has succeeded since -/
  bad : Bool := false
  deriving DecidableEq, Repr

/-! ### The plait (R25 to R42, R629) -/

/-- A UNIT record: index, kind (3 TILLER, 4 SHEAF), parent, tag. -/
structure UnitRec where
  index : Nat
  kind : Nat
  parent : Nat
  tag : Nat
  deriving DecidableEq, Repr

/-- A RESOURCE record. -/
structure ResRec where
  tiller : Nat
  decks : Nat
  dms : Nat
  pms : Nat
  dramBase : Nat
  dramSize : Nat
  cls : Nat
  deriving DecidableEq, Repr

/-- A STRIPE record: layout, blocks per stripe unit, DECK handles in stripe order. -/
structure StripeRec where
  layout : Nat
  unitBlocks : Nat
  members : List Nat
  deriving DecidableEq, Repr

/-- A BINDING record. -/
structure BindRec where
  nsid : Nat
  unit : Nat
  layout : Nat
  zoned : Bool
  lbs64 : Bool
  comp : Nat
  enc : Bool
  raster : Bool
  label : List Byte
  quota : Nat
  deriving DecidableEq, Repr

/-- An entry of the POLICY record (R629): its kind, and the fields that kind has. -/
structure PolRec where
  kind : Nat
  link : Nat := 0
  fn : Nat := 0
  roles : Nat := 0
  raster : Bool := false
  auth : Bool := false
  groups : Nat := 0
  digest : List Byte := []
  nsid : Nat := 0
  group : Nat := 0
  kid : Nat := 0
  tls : Nat := 0
  deriving DecidableEq, Repr

/-- The PLACE record: sheaf, digest, and per port peer device, peer port, ENABLE. -/
structure PlaceRec where
  sheaf : Nat
  digest : List Byte
  ports : List (Nat × Nat × Bool)
  deriving DecidableEq, Repr

/-- A SHEAF record, and its bytes, over which SHEAF_DIGEST is taken. -/
structure SheafRec where
  handle : Nat
  members : List Nat
  /-- its bytes as the image spells them -/
  raw : List Byte := []
  deriving DecidableEq, Repr

/-- An ETH_PEER record: peer device, local port, IPv6 address, TCP port. -/
structure PeerRec where
  dev : Nat
  port : Nat
  addr : List Byte
  tcp : Nat
  deriving DecidableEq, Repr

/-- A plait: header fields, the SHA-384 of its signed message, its records. -/
structure Plait where
  subtree : Bool := false
  root : Nat := 0xFFFFFFFF
  sheafMember : Bool := false
  secVersion : Nat := 0
  deviceNum : Nat := 0
  buildId : Nat := 0
  digest : List Byte := []
  units : List UnitRec := []
  resources : List ResRec := []
  stripes : List StripeRec := []
  bindings : List BindRec := []
  refSrc : Nat := 0
  ptpPort : Nat := 0
  oppDefault : Nat := 0
  domainEn : Nat := 0
  spinupW : Nat := 0
  psMax : Nat := 0
  idleS : Nat := 0
  apst : Bool := false
  bar2Roles : Nat := 0
  mctpRoles : Nat := 0
  policy : List PolRec := []
  place : Option PlaceRec := none
  sheaves : List SheafRec := []
  peers : List PeerRec := []
  deriving DecidableEq, Repr

/-- A load in progress (R40): its controller, pieces by byte offset, tick of the last piece. -/
structure LoadNow where
  cid : Nat
  pieces : List (Nat × List Byte)
  last : Nat
  deriving DecidableEq, Repr

/-- A verified plait waiting for its subtree to become idle (R42): the Plait Load's stamp and dwords, the image, its result,
the tick QUIESCE_MS ends, and whether the resources have become idle. -/
structure ReloadNow where
  stamp : Nat
  image : Plait
  raw : List Byte
  dest : Nat
  select : Bool
  until' : Nat
  who : Who
  deriving DecidableEq, Repr

/-- The external flash but for the ledger ring (R37, R513, R636, R657): plait slots A and B, their selector copies
(slot, sequence number, CRC good), firmware slot 2 and its selector copies, whether the flash answers and slot 1 verifies. -/
structure Flash where
  plaitA : List Byte := []
  plaitB : List Byte := []
  sel : List (Nat × Nat × Bool) := [(0, 0, false), (0, 0, false)]
  fw2 : List Byte := []
  fwSel : List (Nat × Nat × Bool) := [(1, 1, true), (1, 0, true)]
  fw1 : List Byte := []
  /-- retirement table with the DIMM serials, map digest it was written under (R513): pages with reasons, device marks -/
  retPages : List (Nat × Nat) := []
  retMarks : FMap Nat := []
  retSerials : List Nat := []
  retMap : List Byte := []
  deriving DecidableEq, Repr

/-! ### Security (R626 to R643) -/

/-- An SPDM session: transport (0 NVMe, 1 DOE, 2 MCTP over I3C, 3 MCTP over PCIe, 4 seam), its controller or link, chain
digest, whether the requester was authenticated, roles, and the tick of the last heartbeat. -/
structure Session where
  id : Nat
  transport : Nat
  owner : Nat
  digest : List Byte
  verified : Bool
  roles : Nat
  beat : Nat
  deriving DecidableEq, Repr

/-- The security engine's state and its flash store. -/
structure Sec where
  custodians : List (Option (List Byte)) := [none, none, none, none]
  keks : List (Nat × List Byte) := []
  dataKeys : List (Nat × List Byte) := []
  erased : List Nat := []
  psks : List (List Byte × List Byte × List Byte) := []
  /-- owner slots: algorithm (0 ECDSA, 1 ML-DSA), slot, key; none revoked -/
  slots : List (Nat × Nat × Option (List Byte)) := []
  svnFw : Nat := 0
  svnPlait : Nat := 0
  sessions : List Session := []
  /-- DRBG outputs drawn so far -/
  drawn : Nat := 0
  /-- the lid tamper input is open (R643) -/
  tamperOpen : Bool := false
  deriving DecidableEq, Repr

/-! ### Host attachment and command execution (R383 to R455) -/

/-- A controller (R394, R627): its id, its function or association, its roles, its state and its queues. -/
structure Ctrl where
  id : Nat
  /-- 0 PF, 1 VF, 2 fabric, 3 management endpoint (MCTP) -/
  kind : Nat := 0
  /-- link A 0 or B 1, and function (0 PF, v for VF v) -/
  link : Nat := 0
  fn : Nat := 0
  /-- 0 PCIe, 1 TCP, 2 RDMA, 3 MCTP over I3C, 4 MCTP over PCIe; PORT of R645 -/
  transport : Nat := 0
  port : Nat := 0
  /-- discovery controller; enabled, ready, fatal status (R394) -/
  discovery : Bool := false
  enabled : Bool := false
  ready : Bool := false
  fatal : Bool := false
  /-- SHA-384 of the host NQN; whether its roles wait for authentication (R627) -/
  nqn : List Byte := []
  auth : Bool := false
  authed : Bool := false
  /-- roles by policy and by session, raster transfer, groups of namespaces (R627, R629) -/
  roles : Nat := 0
  sessRoles : Nat := 0
  raster : Bool := false
  nsGroups : Nat := 0
  /-- vendor event: 0 idle, 1 armed, 2 outstanding (R673) -/
  vendor : Nat := 0
  /-- standard events waiting or outstanding: type, information, log page, delivered -/
  events : List (Nat × Nat × Nat × Bool) := []
  /-- stamps of Asynchronous Event Requests waiting -/
  aers : List Nat := []
  /-- power state selected, and the last operational one (R559) -/
  ps : Nat := 0
  lastOp : Nat := 0
  /-- submission queues with their completion queue, completion queues with their vector, pairs granted (R396) -/
  sqs : List (Nat × Nat) := []
  cqs : List (Nat × Nat) := []
  pairs : Nat := 1
  /-- feature values, properties -/
  feats : FMap Nat := []
  props : FMap Nat := []
  /-- shadow doorbell buffers -/
  shadow : Option (Nat × Nat) := none
  /-- Keep Alive: tick of the last restart -/
  kaTick : Nat := 0
  /-- its connections run TLS (R388) -/
  tls : Bool := false
  deriving DecidableEq, Repr

/-- The phases of R417. -/
inductive Phase where
  | held | transfer | staged | media | done
  deriving DecidableEq, Repr

/-- A command context (R416, R417): stamp, controller, queue, what was fetched, phase, why HELD (0 lock, 1 Migrate with
HIST, 2 quota pause, 3 plait reload, 4 activation, 5 deck wake) or waiting in MEDIA for a deck the governor holds (6), for a member of
its sheaf (7) or for blocks that are still to be read (8), WRITE_ID, whether the write is staged or the read's data
is out (R420), whether its controller was reset (no
completion), whether it has been completed to the host, bytes waiting to leave, result dwords. -/
structure Ctx where
  stamp : Nat
  cid : Nat
  sq : Nat
  cmd : HostCmd
  phase : Phase
  why : Nat := 0
  wid : Nat := 0
  staged : Bool := false
  out : Bool := false
  mute : Bool := false
  posted : Bool := false
  status : Sts := .success
  dw0 : Nat := 0
  dw1 : Nat := 0
  data : List Byte := []
  /-- TAI at intake (R439) -/
  tai : Nat := 0
  /-- blocks that members of a sheaf have sent, by index within the command (R29) -/
  parts : List (Nat × List Byte) := []
  deriving DecidableEq, Repr

/-- A completion posted: stamp, controller, status, DNR, dwords, data returned; what a job wrote into the buffers its descriptor
names (RKEY, ADDR, bytes). -/
structure Completion where
  stamp : Nat
  cid : Nat
  status : Sts
  dnr : Bool := false
  dw0 : Nat := 0
  dw1 : Nat := 0
  data : List Byte := []
  bufs : List (Nat × Nat × List Byte) := []
  deriving DecidableEq, Repr

/-- A write that has been staged (R421): its WRITE_ID, range, stamp, extents with their member decks, the extents placed,
the decks whose units described and committed it, its original commit time (Migrate with HIST), and its command. -/
structure Wr where
  wid : Nat
  nsid : Nat
  slba : Nat
  nlb : Nat
  stamp : Nat
  fua : Bool
  exts : List (Nat × Stm)
  /-- extents described by a verified index unit -/
  described : List MapRec := []
  /-- decks, and places on other devices, whose units committed it, and its commit time -/
  committedOn : List Nat := []
  time : Option Nat := none
  /-- staged bytes on their way into a block of a deck -/
  done : Bool := false
  deriving DecidableEq, Repr

/-- A zone: NVMe zone state (1 empty, 2 and 3 open, 4 closed, 14 full) and write pointer. -/
structure ZoneSt where
  state : Nat := 1
  wp : Nat := 0
  deriving DecidableEq, Repr

/-- What a namespace has at run time beside its binding: readiness, write sequence (R418), stored bytes, zones, the next
swath block number of its stripe (R35). -/
structure Ns where
  ready : Bool := false
  wseq : Nat := 0
  used : Nat := 0
  zones : FMap ZoneSt := []
  blockNo : Nat := 0
  deriving DecidableEq, Repr

/-- A Migrate in progress (R440 to R442): source blocks left, target LBA, writes issued, blocks done, blocks skipped, how
it ends once its writes are committed. -/
structure Mig where
  stamp : Nat
  issued : Nat := 0
  blocks : Nat := 0
  skipped : Nat := 0
  status : Sts := .success
  deriving DecidableEq, Repr

/-- A Mount, Unmount or Survey that waits for its deck (R433 to R438). -/
structure DeckJob where
  stamp : Nat
  cid : Nat
  nsid : Nat
  deck : Nat
  kind : Nat
  init : Bool := false
  force : Bool := false
  who : Who := {}
  /-- of a forced Unmount: the gate has stayed closed for INH_TMO -/
  noLedger : Bool := false
  deriving DecidableEq, Repr

/-- Firmware activation (R427): the Firmware Commit's stamp, start tick, step. -/
structure ActNow where
  stamp : Nat
  start : Nat
  step : Nat
  deriving DecidableEq, Repr

/-- A member disc on another device of a sheaf, as its Mount result told the root (R29, R436): its DECK handle, namespace,
generation, layers, highest WRITE_ID. -/
structure AwayDisc where
  handle : Nat
  nsid : Nat
  gen : Nat
  layers : Nat
  top : Nat
  deriving DecidableEq, Repr

/-- Mapping and commit records of a namespace on the discs of another device of the sheaf (R108). -/
structure PeerRecs where
  dev : Nat
  nsid : Nat
  maps : List MapRec := []
  commits : List CommitRec := []
  deriving DecidableEq, Repr

/-- The host side of the module. -/
structure HostSide where
  ctxs : List Ctx := []
  posted : List Completion := []
  writes : List Wr := []
  nss : FMap Ns := []
  migs : List Mig := []
  jobs : List DeckJob := []
  /-- pieces of a firmware image downloaded, by byte offset -/
  fwPieces : List (Nat × List Byte) := []
  /-- activation in progress (R427) -/
  act : Option ActNow := none
  /-- firmware slot in force -/
  fwSlot : Nat := 1
  /-- sanitize state, as log page 0x81 codes it -/
  sanitize : Nat := 0
  /-- tags given to commands of management endpoints, which take no stamp -/
  mtag : Nat := 0
  /-- TAI_BASE in nanoseconds (R392) -/
  tai : Nat := 0
  /-- host bytes moved and engine bytes used in the epoch, by controller and tenant (R429, R431) -/
  moved : FMap Nat := []
  engUsed : FMap Nat := []
  /-- MI configuration values -/
  miCfg : FMap Nat := []
  /-- PCIe links up (bit per link), PERST_N released -/
  links : Nat := 0
  perst : Bool := false
  /-- link A is split into A and B (R383) -/
  split : Bool := false
  /-- member discs on other devices (R29), records of the discs there (R108) -/
  away : List AwayDisc := []
  peers : List PeerRecs := []
  /-- namespaces whose readiness changed since the Changed Namespace List was read -/
  changed : List Nat := []
  deriving DecidableEq, Repr

/-! ### Compression jobs (R472 to R479) -/

/-- The state of a stream between jobs (R479). -/
structure CmpState where
  method : Nat := 1
  dir : Nat := 0
  phase : Nat := 0
  inTotal : Nat := 0
  outTotal : Nat := 0
  crc : Nat := 2 ^ 64 - 1
  /-- original data, most recent byte first -/
  hist : List Byte := []
  /-- last offset, and where the parser of a sequence stands -/
  last : Nat := 1
  parse : List Byte := []
  matchLeft : Nat := 0
  litLeft : Nat := 0
  /-- payload bytes and original bytes left in the current block, and whether it is CODED -/
  blockLeft : Nat := 0
  orig : Nat := 0
  coded : Bool := false
  /-- the predictive method's adaptive state (R466) -/
  pm : List Byte := List.replicate 24 0
  pixel : Nat := 0
  comp : Nat := 0
  bitN : Nat := 0
  bitBuf : Nat := 0
  ctx : List (Nat × Nat) := []
  deriving DecidableEq, Repr

/-- A job queued or running (R457 to R459, R473): stamp, controller, namespace, whether it decompresses, its descriptor,
the engine it runs on, its method (1 DM, 2 PM), the state its stream is at, the references of its output buffers (ADDR, LEN,
RKEY), and its input where the host holds it. -/
structure Job where
  stamp : Nat
  cid : Nat
  nsid : Nat
  dec : Bool
  desc : List Byte
  eng : Option Nat := none
  method : Nat := 1
  st : CmpState := {}
  outs : List (Nat × Nat × Nat) := []
  input : List Byte := []
  deriving DecidableEq, Repr

/-! ### Buffer memory and mapping cache (R486 to R555) -/

/-- An error-log entry (R514). -/
structure MemErr where
  tick : Nat
  addr : Nat
  kind : Nat
  sym0 : Nat := 0xFF
  sym1 : Nat := 0xFF
  req : Nat
  ch : Nat
  rank : Nat
  rep : Nat := 0
  deriving DecidableEq, Repr

/-- The DRAM and its controllers. -/
structure Mem where
  /-- bytes written one by one, in canonical form -/
  cells : List Host.Cell := []
  /-- fills done: first page, pages, pattern, newest first -/
  fills : List (Nat × Nat × Nat) := []
  /-- ECC words that hold poison -/
  poison : List Nat := []
  /-- the error log, oldest first, and entries ever made -/
  errs : List MemErr := []
  errNo : Nat := 0
  /-- events and totals counted (R514) -/
  events : Nat := 0
  ceTotal : Nat := 0
  ueTotal : Nat := 0
  poisonTotal : Nat := 0
  refused : Nat := 0
  replays : Nat := 0
  /-- retired pages with their reasons, the copy running, those that wait for it -/
  retired : List (Nat × Nat) := []
  retiring : Option (Nat × Nat) := none
  retWait : List (Nat × Nat) := []
  /-- what the policy of R512 counts: words in error this pass, correctable errors and uncorrectable reads by page, devices
  (channel × 4 + rank, device, page, pass) -/
  ceWords : List Nat := []
  cePages : FMap Nat := []
  uePages : FMap Nat := []
  devPages : List (Nat × Nat × Nat × Nat) := []
  /-- rinse passes done, and the tick of the last (R510) -/
  rinsePasses : Nat := 0
  rinseTick : Nat := 0
  /-- tick and DIMM temperature of the last re-centre, by channel (R493) -/
  centred : FMap (Nat × Int) := []
  /-- refreshes owed, by channel × 4 + rank -/
  owed : FMap Nat := []
  /-- trained read and write centres, by channel × 20 + group -/
  trained : FMap (Nat × Nat) := []
  /-- channels whose training failed once, serial numbers by channel × 2 + DIMM, unequal DIMMs (R487) -/
  tried : Nat := 0
  serials : List Nat := []
  unequal : Bool := false
  /-- the controller memory buffer answers (R385) -/
  cmbOn : Bool := false
  /-- the last CMB read: its bytes, EP; uncorrectable internal errors the PF reported through AER -/
  cmbData : List Byte := []
  cmbEp : Bool := false
  aer : Nat := 0
  /-- the running fill: first page, pages, pattern -/
  fillTo : Option (Nat × Nat × Nat) := none
  deriving DecidableEq, Repr

/-- One way of a set of the mapping cache (R535): tag, valid and dirty sectors, age, filling class, poisoned sectors. -/
structure Way where
  tag : Nat
  valid : Nat
  dirty : Nat := 0
  age : Nat
  cls : Nat
  bad : Nat := 0
  deriving DecidableEq, Repr

/-- A line of the victim buffer: its number, valid, dirty and poisoned sectors, class, whether its write-back is issued. -/
structure Vic where
  line : Nat
  valid : Nat
  dirty : Nat
  bad : Nat
  cls : Nat
  issued : Bool := false
  deriving DecidableEq, Repr

/-- A fill on its way (R537): line number, half, class, the way chosen at the miss, streaming, sectors that partial writes
wait to dirty. -/
structure McFill where
  line : Nat
  half : Nat
  cls : Nat
  way : Nat
  stream : Bool
  dirty : Nat := 0
  deriving DecidableEq, Repr

/-- The mapping cache: lines by set × 16 + way, disabled ways, victim buffer, fills outstanding, maintenance operation in
progress (command, lines that wait for a fill), next set of the background walk. -/
structure McSt where
  ways : FMap Way := []
  off : List Nat := []
  victims : List Vic := []
  fills : List McFill := []
  op : Option (Nat × List Nat) := none
  scrub : Nat := 0
  deriving DecidableEq, Repr

/-! ### Self-test (R591 to R622) -/

/-- A testable unit (R592, R618). -/
structure TUnit where
  /-- 0 IDLE, 1 SHADOW, 2 TEST, 3 RETIRED -/
  state : Nat := 0
  /-- next slice, slices failed, the last complete pass, compares failed (R593, R594) -/
  slice : Nat := 0
  fails : Nat := 0
  lastPass : Nat := 0
  cmpFails : Nat := 0
  /-- the last slice mismatched once -/
  again : Bool := false
  passed : Bool := false
  /-- a visit to be retried: from which tick, and whether for calibration only (R598) -/
  retry : Option (Nat × Bool) := none
  calTick : Nat := 0
  calTj : Int := 0
  /-- the signature that mismatched -/
  badSig : Nat := 0
  deriving DecidableEq, Repr

/-- A visit (R597, R600): unit, whether by command, calibration only, step (1 shadow or lockstep, 2 the spare is tested,
3 swap asked, 4 waiting for a slice, 5 in TEST, 8 second compare, 9 swap back), spare in use (2: none),
second compare. -/
structure Visit where
  unit : Nat
  /-- the tick at which it fell due (R594) -/
  due : Nat := 0
  cmd : Bool := false
  cal : Bool := false
  step : Nat := 0
  spare : Nat := 2
  second : Bool := false
  /-- restarted after a failed compare: its result no longer counts -/
  force : Bool := false
  deriving DecidableEq, Repr

/-- Self-test as a whole: units, visits queued and running, last signature, field fuse rows, the end of the boot's initial passes. -/
structure TstSt where
  units : FMap TUnit := []
  visits : List Visit := []
  queue : List Visit := []
  sig : Nat := 0
  rows : List Nat := []
  /-- tick at which the initial passes of the boot ended (R594, R659) -/
  initial : Option Nat := none
  deriving DecidableEq, Repr

/-! ### Power, boot, management -/

/-- What the module does as a whole (R556, R558, R577): in a power-on or module reset, booting, running, IDLE, SLEEP,
DEEP, OFF, or held off by heat or overvoltage. -/
inductive PMode where
  | reset | boot | run | idle | sleep | deep | off | hot | overvolt | halt | recovery
  deriving DecidableEq, Repr

/-- Power state beside the PWR registers: the device mode; the entry in progress (2 SLEEP, 3 DEEP, 7 OFF) and its last step
done (R563); a wake that came too late to abandon it (R568); domains reported off and in which epoch (R571); the governor:
periods in a row below the cap, a step not yet in effect, whether the throttle took steps, the floors of R573 for all
domains and for each DEC domain, decks whose hold waits for their revolution (R574 to R576); what a thermal shutdown is to
report (R577); whether the previous power-on ended other than through OFF or DEEP (R644). -/
structure PwrSt where
  mode : PMode := .reset
  entry : Nat := 0
  step : Nat := 0
  wake : Bool := false
  offSeen : List (Nat × Nat) := []
  low : Nat := 0
  wait : Bool := false
  heat : Bool := false
  floor : Nat := 0
  dec0 : Nat := 0
  dec1 : Nat := 0
  holdWant : Nat := 0
  shutDie : Option (Nat × Int) := none
  dirtyEnd : Bool := false
  deriving DecidableEq, Repr

/-- A PTP state the registers do not show, seam routes, the JTAG instruction. -/
structure Misc where
  jtag : Nat := 0
  /-- ports that wait for their retry, and digests told by devices (R44) -/
  seamFail : List Nat := []
  seamDigest : List (Nat × List Byte) := []
  /-- devices of the seam group reached, with their hop counts; members lost -/
  routes : List (Nat × Nat × Nat) := []
  unreachable : List Nat := []
  /-- members reached over Ethernet (R43), and the sheaf handle each port's peer reported (R44) -/
  ethPeers : List Nat := []
  seamSheaf : List (Nat × Nat) := []
  /-- the sheaf is down (R45); the entropy source has failed (R641) -/
  sheafDown : Bool := false
  entropyFail : Bool := false
  /-- the last SPDM answer and whether it was an error, the last MI response and the severity it reported -/
  spdmOut : List Byte := []
  spdmErr : Bool := false
  miOut : List Byte := []
  miSev : Nat := 0
  /-- PTP has reached TIME_RECEIVER since power-on (R392) -/
  ptpSeen : Bool := false
  deriving DecidableEq, Repr


/-- The module but for its clocks and its command queue. DESIGN CHOICE, log 91. -/
structure Dev where
  /-- register fields in force, by key; an unlisted field has its reset value -/
  regs : FMap Nat := []
  /-- staged values of RWS fields, by key -/
  staged : FMap Nat := []
  /-- data of the last register read -/
  rdata : Nat := 0
  /-- pending commits of the device-wide blocks, by block base -/
  blkPend : FMap (Option BlkPend) := []
  decks : FMap Deck := []
  dies : FMap Die := []
  flt : Flt := {}
  ctrls : List Ctrl := []
  brk : Brk := {}
  /-- ticks since a timed thing of the module began, by number (R44, R304, R510, R546, R560, R574) -/
  ages : FMap Nat := []
  /-- who makes the register access being carried out -/
  who : Who := {}
  led : Ledger := {}
  /-- the plait in force; none is the minimal structure (R39) -/
  plait : Option Plait := none
  load : Option LoadNow := none
  reload : Option ReloadNow := none
  flash : Flash := {}
  sec : Sec := {}
  host : HostSide := {}
  jobs : List Job := []
  mem : Mem := {}
  mc : McSt := {}
  tst : TstSt := {}
  pwr : PwrSt := {}
  misc : Misc := {}
  deriving DecidableEq, Repr

/-- The clocks that run on: the reference tick (R66), each deck's counter in 2^-24 grains (R49, R51), the intake stamp
counter (R415). DESIGN CHOICE, log 10. -/
structure Clock where
  tick : Nat := 0
  ang : FMap Nat := []
  stamp : Nat := 0
  deriving DecidableEq, Repr

/-- Why the module stops. -/
inductive Fault where
  /-- An access to controller memory buffer bytes past its end. Raised by CMB_ACCESS. Safe: the spec gives the buffer no
  such bytes. -/
  | cmbOutside
  deriving DecidableEq, Repr

/-- Why a command has no meaning here. -/
inductive Refusal where
  /-- The command is not modelled. Safe: no claim about it can be proved. -/
  | notModelled (mnemonic : String)
  deriving DecidableEq, Repr

/-- The whole machine: its clocks, its parts, and the commands that wait, first in, first out. -/
structure State where
  clk : Clock := {}
  dev : Dev := {}
  pending : List Instr := []
  deriving DecidableEq, Repr

/-- The module right after power-on reset, with no command waiting. DESIGN CHOICE, log 7. -/
def State.reset : State := {}

end Sys2Proof.Machine
end

