-- ==== Sys2Proof/Machine/Ops.lean ====
section
/-! DEFINITION. Machine/Ops.lean: the named operations over registers, decks, fault records and commits that every
family shares. -/

namespace Sys2Proof.Machine

/-! ### Registers -/

/-- The index path of an offset within a row of the table: the last index, when the offset is one of its words. -/
def RRow.hit (off : Nat) (r : RRow) : Option Nat :=
  if off < r.base then none else go (off - r.base) r.dims 0
where
  go : Nat → List (Nat × Nat) → Nat → Option Nat
    | rem, [], last => if rem = 0 then some last else none
    | rem, (st, ct) :: ds, _ => if rem / st < ct then go (rem % st) ds (rem / st) else none

/-- First row of a table that holds an offset, with the instance index. -/
def findRow (off : Nat) : List RRow → Option (RRow × Nat)
  | [] => none
  | r :: t => match r.hit off with
    | some i => some (r, i)
    | none => findRow off t

/-- Base of DECK[0] (R23). -/
def deckBase : Nat := 0x1000000

/-- Size of a deck's window (R23). -/
def deckSpan : Nat := 0x100000

/-- Registers chosen through a selector hold one word per selected object, at this distance in the key space. -/
def selSpan : Nat := 0x10000000

/-- The register at an offset of the window (R23, R701). -/
def regAt (off : Nat) : Option (RRow × Nat) :=
  let o := off % selSpan
  if o < deckBase then findRow o devRegs
  else if o < deckBase + 16 * deckSpan then findRow (deckBase + (o - deckBase) % deckSpan) deckRegs
  else none

/-- The row of a field's low bit in a register. -/
def RRow.field (r : RRow) (lo : Nat) : Option FRow := r.fields.find? (fun f => f.lo == lo)

/-- Reset value of a field, by key (R6). -/
def resetOf (key : Nat) : Nat :=
  match regAt (key / 32) with
  | none => 0
  | some (r, i) =>
    if r.idxField = some (key % 32) then i
    else match r.field (key % 32) with
      | some f => f.reset
      | none => 0

/-- Access class of a field, by key (R7). -/
def accOf (key : Nat) : Acc :=
  match regAt (key / 32) with
  | none => .ro
  | some (r, _) => match r.field (key % 32) with
    | some f => f.acc
    | none => .ro

/-- A field's value in force. -/
def Dev.get (d : Dev) (f : Fld) : Nat := FMap.get resetOf d.regs f.key

/-- A field's staged value (R7). -/
def Dev.stg (d : Dev) (f : Fld) : Nat := FMap.get resetOf d.staged f.key

/-- Put a field's value in force; a field holds its own width only. -/
def Dev.set (d : Dev) (f : Fld) (v : Nat) : Dev := { d with regs := FMap.set resetOf d.regs f.key (v % 2 ^ f.w) }

/-- Stage a field's value. -/
def Dev.setStg (d : Dev) (f : Fld) (v : Nat) : Dev := { d with staged := FMap.set resetOf d.staged f.key (v % 2 ^ f.w) }

/-- Set a field from a condition. -/
def Dev.setB (d : Dev) (f : Fld) (b : Bool) : Dev := d.set f (ofB b)

/-- A one-bit field as a condition. -/
def Dev.getB (d : Dev) (f : Fld) : Bool := d.get f != 0

/-- A two's complement field as a number. -/
def Dev.getI (d : Dev) (f : Fld) : Int := sx f.w (d.get f)

/-- Put a signed value into a field, saturated to its width. -/
def Dev.setI (d : Dev) (f : Fld) (i : Int) : Dev := d.set f (satPat f.w i)

/-- Add to a count field that stays at its maximum (as the count registers state). -/
def Dev.bump (d : Dev) (f : Fld) (k : Nat) : Dev := d.set f (satAdd f.w (d.get f) k)

/-- Set several fields in order. -/
def Dev.sets (d : Dev) (l : List (Fld × Nat)) : Dev := l.foldl (fun d p => d.set p.1 p.2) d

/-- Put a staged-class field in force and staged alike, as the module's own writes of it do. -/
def Dev.setBoth (d : Dev) (f : Fld) (v : Nat) : Dev := (d.set f v).setStg f v

/-- The word of a register assembled from its fields, each from a reader of fields; reserved bits read 0 (R5). -/
def assemble (rd : Nat → Nat) (off : Nat) (fs : List FRow) : Nat :=
  fs.foldl (fun a f => a + rd (off * 32 + f.lo) % 2 ^ f.w * 2 ^ f.lo) 0

/-- The word in force at an offset. -/
def Dev.wordInForce (d : Dev) (off : Nat) : Nat :=
  match regAt off with
  | none => 0
  | some (r, _) => assemble (FMap.get resetOf d.regs) off r.fields

/-- Return every field whose word lies in a range to its reset value, in force and staged (R6). -/
def Dev.resetRange (d : Dev) (lo hi : Nat) : Dev :=
  let keep := fun (e : Nat × Nat) => decide ¬(lo ≤ e.1 / 32 % selSpan ∧ e.1 / 32 % selSpan < hi)
  { d with regs := d.regs.filter keep, staged := d.staged.filter keep }

/-! ### Decks -/

/-- What a deck holds beside its registers. -/
def Dev.deck (d : Dev) (n : Nat) : Deck := FMap.get (fun _ => {}) d.decks n

/-- Change one deck. -/
def Dev.onDeck (d : Dev) (n : Nat) (f : Deck → Deck) : Dev := { d with decks := d.decks.ins n (f (d.deck n)) }

/-- A slot of a deck's loop engine. -/
def Deck.slot (k : Deck) (s : Nat) : Slot := FMap.get (fun _ => {}) k.slots s

/-- Change one slot. -/
def Dev.onSlot (d : Dev) (n s : Nat) (f : Slot → Slot) : Dev :=
  d.onDeck n (fun k => { k with slots := k.slots.ins s (f (k.slot s)) })

/-- A lane's loops and winnow. -/
def Deck.lane (k : Deck) (l : Nat) : LaneSt := FMap.get (fun _ => {}) k.lanes l

/-- Change one lane. -/
def Dev.onLane (d : Dev) (n l : Nat) (f : LaneSt → LaneSt) : Dev :=
  d.onDeck n (fun k => { k with lanes := k.lanes.ins l (f (k.lane l)) })

/-- Do something for each of the sixteen decks in rising order. -/
def Dev.eachDeck (d : Dev) (f : Nat → Dev → Dev) : Dev := (List.range 16).foldl (fun d n => f n d) d

/-! ### Timers -/

/-- Timed things of a deck, by number: the spindle in its state, the spindle below 60 rpm, the sled at rest, the sequencer in its state, the last
media command, the shock window, the closing of the write gate, the failed step of the laser link, its last message, and the release of each lane
from standby. -/
def aSPN : Nat := 0
def aSLOW : Nat := 1
def aSLD : Nat := 2
def aSEQ : Nat := 3
def aIDLE : Nat := 4
def aSHOCK : Nat := 5
def aINH : Nat := 6
def aLINK : Nat := 7
def aMSG : Nat := 8
def aWAKE (l : Nat) : Nat := 16 + l

/-- Turns counted: since the sequencer's state or step began, since the re-home began. -/
def tSEQ : Nat := 0
def tHOME : Nat := 1

/-- Timed things of the module: BRK driven on, the governor's period, quiet, the last step of the rinse and of the mapping cache's walk, and the
failure of each seam port. -/
def gBRK : Nat := 0
def gGOV : Nat := 1
def gIDLE : Nat := 2
def gRINSE : Nat := 3
def gSCRUB : Nat := 4
def gSEAM (k : Nat) : Nat := 16 + k

/-- Reference ticks of a microsecond, a millisecond, a second and a minute (R8). -/
def tickUs : Nat := 1000
def tickMs : Nat := 1000000
def tickS : Nat := 1000 * tickMs
def tickMin : Nat := 60 * tickS

/-- One revolution of a counter, in 2^-24 grains (R49). -/
def turnOne : Nat := 2 ^ 48

/-- Ticks since a timed thing of a deck began; 0 where it never has. -/
def Dev.age (d : Dev) (n key : Nat) : Nat := FMap.get (fun _ => 0) (d.deck n).ages key

/-- A timed thing of a deck begins now. -/
def Dev.since (n key : Nat) (d : Dev) : Dev := d.onDeck n (fun k => { k with ages := k.ages.ins key 0 })

/-- Angle turned since a timed thing of a deck began, in 2^-24 grains. -/
def Dev.turned (d : Dev) (n key : Nat) : Nat := FMap.get (fun _ => 0) (d.deck n).turns key

/-- The turns of a timed thing of a deck are counted from now. -/
def Dev.turnSince (n key : Nat) (d : Dev) : Dev := d.onDeck n (fun k => { k with turns := k.turns.ins key 0 })

/-- Ticks since a timed thing of the module began. -/
def Dev.devAge (d : Dev) (key : Nat) : Nat := FMap.get (fun _ => 0) d.ages key

/-- Ticks since a timed thing of a deck began, or since reset where it never has. -/
def Dev.span (c : Clock) (d : Dev) (n key : Nat) : Nat := FMap.get (fun _ => c.tick) (d.deck n).ages key

/-- Ticks since a timed thing of the module began, or since reset where it never has. -/
def Dev.devSpan (c : Clock) (d : Dev) (key : Nat) : Nat := FMap.get (fun _ => c.tick) d.ages key

/-- A timed thing of the module begins now. -/
def Dev.devSince (key : Nat) (d : Dev) : Dev := { d with ages := d.ages.ins key 0 }

/-! ### Time -/

/-- Ticks of a scheduling epoch (R8, R16). -/
def epochTicks : Nat := 100000

/-- Number of the epoch in progress. -/
def Clock.epoch (c : Clock) : Nat := c.tick / epochTicks

/-- A deck's counter in 2^-24 grains, revolutions included. -/
def Clock.counter (c : Clock) (n : Nat) : Nat := FMap.get (fun _ => 0) c.ang n

/-- A deck's counter in grains, revolutions included. -/
def Clock.grains (c : Clock) (n : Nat) : Nat := c.counter n / 2 ^ 24

/-- The 24-bit grain counter (R49). -/
def Clock.grain (c : Clock) (n : Nat) : Nat := c.grains n % 2 ^ 24

/-- The 40-bit revolution counter (R49). -/
def Clock.rev (c : Clock) (n : Nat) : Nat := c.grains n / 2 ^ 24 % 2 ^ 40

/-- The angle stamp of R667: revolution in bits 63:24, grain in bits 23:0. -/
def Clock.angleStamp (c : Clock) (n : Nat) : Nat := c.rev n * 2 ^ 24 + c.grain n

/-- Set a deck's counter. -/
def Clock.setCounter (c : Clock) (n v : Nat) : Clock := { c with ang := FMap.set (fun _ => 0) c.ang n v }

/-! ### Fault records -/

/-- Where a record comes from (R667): the module, a deck, a unit of the module, a unit of a deck. -/
inductive Src where
  | device
  | deck (n : Nat)
  | unit (idx : Nat)
  | deckUnit (n idx : Nat)
  deriving DecidableEq, Repr

/-- Unit index of a source (R26). -/
def Src.index : Src → Nat
  | .device => 0
  | .deck n => 1 + n
  | .unit i => i
  | .deckUnit _ i => i

/-- Angle stamp of a source (R16). -/
def Src.angle (c : Clock) : Src → Option Nat
  | .device => none
  | .deck n => some (c.angleStamp n)
  | .unit _ => none
  | .deckUnit n _ => some (c.angleStamp n)

/-- The handle of a unit of this module (R25, R47). -/
def Dev.handle (d : Dev) (idx : Nat) : Nat := d.get Reg.MGMT_SELF_HANDLE_DEVICE_NUM * 2 ^ 14 + idx

/-- What a record is made from: class, code, severity, detail, latched. -/
structure Cond where
  cls : Nat
  code : Nat
  sev : Nat
  detail : List Byte := []
  latched : Bool := false

/-- Whether records of a code fold with FOLD_EN = 0 (R669): DOMAIN_OFF and BAD_ACCESS. -/
def foldsAlways (cls code : Nat) : Bool := cls == 5 && (code == 6 || code == 7)

/-- Whether a new record folds into the newest one (R669). -/
def foldsInto (en : Bool) (r new : FaultRec) : Bool :=
  (en || foldsAlways new.cls new.code) && r.handle == new.handle && r.cls == new.cls && r.code == new.code &&
    r.tick / epochTicks == new.tick / epochTicks

/-- Ring size (R670). -/
def ringSize : Nat := 4096

/-- Unread records of the ring. -/
def Flt.unread (f : Flt) : Nat := (f.ring.filter (fun r => !r.read)).length

/-- Append a record, overwriting the oldest of a full ring and counting the loss of an unread one (R670). -/
def Flt.push (f : Flt) (r : FaultRec) : Flt :=
  if f.ring.length < ringSize then { f with ring := f.ring ++ [r], next := f.next + 1 }
  else
    let loses := match f.ring.head? with
      | some o => !o.read
      | none => false
    { f with ring := f.ring.drop 1 ++ [{ r with lost := loses }], next := f.next + 1,
             lostNow := if loses then f.lostNow + 1 else f.lostNow,
             lostOpen := f.lostOpen || loses, lostAt := if loses && !f.lostOpen then r.tick else f.lostAt,
             lostTotal := if loses then satAdd 32 f.lostTotal 1 else f.lostTotal }

/-- Whether MGMT is Off: DEEP (R558, R671). -/
def Dev.inDeep (d : Dev) : Bool := d.get Reg.PWR_STATE_STS_STATE == 3

/-- Controllers that take the vendor event (R673): every PF, and any other with Custodian, Operator or Auditor. -/
def Ctrl.takesEvents (k : Ctrl) : Bool :=
  k.kind == 0 || bit (k.roles ||| k.sessRoles) 0 || bit (k.roles ||| k.sessRoles) 2 || bit (k.roles ||| k.sessRoles) 3

/-- DNR of a status, where the spec states it (R676). -/
def dnrOf : Sts → Bool
  | .quotaExceeded => true
  | .incompressible => true
  | .outputLimit => true
  | .chainExhausted => true
  | .sectorUnreadable => true
  | .zoneWriteOnce => true
  | .plaitRejected => true
  | _ => false

/-- A completion is posted for a context that is to have one, and the context is free again (R417). -/
def Dev.complete (stamp : Nat) (st : Sts) (dw0 dw1 : Nat) (data : List Byte) (d : Dev) : Dev :=
  match d.host.ctxs.find? (fun x => x.stamp == stamp) with
  | none => d
  | some x =>
    let rest := d.host.ctxs.filter (fun y => y.stamp != stamp)
    if x.mute || x.posted then { d with host := { d.host with ctxs := rest } }
    else { d with host := { d.host with ctxs := rest, posted := d.host.posted ++ [
      { stamp := stamp, cid := x.cid, status := st, dnr := dnrOf st, dw0 := dw0, dw1 := dw1, data := data }] } }

/-- The first event a controller has to tell: the vendor event (R673), then standard ones; as type + 256 × information +
65,536 × log page. -/
def Ctrl.toTell (k : Ctrl) : Option (Nat × Ctrl) :=
  if k.vendor = 1 then some (7 + 0xC1 * 65536, { k with vendor := 2 })
  else match k.events.find? (fun e => !e.2.2.2) with
    | some e => some (e.1 + e.2.1 * 256 + e.2.2.1 * 65536, { k with
        events := mapIf (fun x => x == e) (fun x => (x.1, x.2.1, x.2.2.1, true)) k.events })
    | none => none

/-- One waiting Asynchronous Event Request of a controller answers one event, until either runs out (R673, R675). -/
def tellCtrl : Nat → Nat → Dev → Dev
  | 0, _, d => d
  | fuel + 1, id, d =>
    match d.ctrls.find? (fun k => k.id == id) with
    | none => d
    | some k => match k.aers, k.toTell with
      | st :: rest, some (v, k') =>
        let d := { d with ctrls := mapIf (fun x => x.id == id) (fun _ => { k' with aers := rest }) d.ctrls }
        tellCtrl fuel id (d.complete st .success v 0 [])
      | _, _ => d

/-- Events reach every controller that waits for them, but not during firmware activation (R675). -/
def Dev.deliver (d : Dev) : Dev :=
  if d.host.act.isSome then d
  else d.ctrls.foldl (fun d k => tellCtrl k.aers.length k.id d) d

/-- Arm the vendor event and signal MSI-X vector 0, at most once an epoch (R673, R674). DEDUCED, log 86. -/
def Dev.armEvents (c : Clock) (sev cls : Nat) (d : Dev) : Dev :=
  if d.get Reg.FLT_CFG_AE_SEV ≤ sev ∧ bit (d.get Reg.FLT_CFG_CLASS_MASK) cls = false then
    let d := { d with ctrls := mapIf (fun k => k.takesEvents && k.vendor == 0) (fun k => { k with vendor := 1 }) d.ctrls }
    let d := d.deliver
    if d.getB Reg.FLT_CFG_MSI_EN ∧ d.flt.msiEpoch ≠ some c.epoch then
      { d with flt := { d.flt with msiEpoch := some c.epoch, msiSent := d.flt.msiSent + 1 } }
    else d
  else d

/-- A record reaches the ring, folded or appended, or AON while MGMT is Off; it arms events (R669 to R674). -/
def Dev.record (c : Clock) (r : FaultRec) (d : Dev) : Dev :=
  if d.inDeep then
    if d.flt.aon.length < 16 then { d with flt := { d.flt with aon := d.flt.aon ++ [r] } }
    else { d with flt := { d.flt with aonLost := d.flt.aonLost + 1 } }
  else
    let fold := match d.flt.ring.getLast? with
      | some o => foldsInto (d.getB Reg.FLT_CFG_FOLD_EN) o r
      | none => false
    let e := if fold then
        { d with flt := { d.flt with ring := match d.flt.ring.getLast? with
          | some o => d.flt.ring.dropLast ++ [{ o with rep := satAdd 8 o.rep 1 }]
          | none => [] } }
      else { d with flt := d.flt.push { r with seq := d.flt.next } }
    let e := if r.sev = 3 then e.set Reg.FLT_STS_FATAL 1 else e
    let e := if d.flt.lostNow < e.flt.lostNow then e.set Reg.FLT_STS_LOST 1 else e
    e.armEvents c r.sev r.cls

/-- Make a fault record (R667). -/
def Dev.fault (c : Clock) (src : Src) (q : Cond) (d : Dev) : Dev :=
  d.record c { seq := d.flt.next, tick := c.tick, handle := d.handle src.index, cls := q.cls, code := q.code,
               sev := q.sev, angle := src.angle c, latched := q.latched, detail := slice q.detail 0 28 }

/-! ### Staged fields and commits -/

/-- A range of words of the window. -/
structure Range where
  lo : Nat
  hi : Nat

/-- Whether a key's word lies in a range, whatever object a selector chose. -/
def Range.has (r : Range) (key : Nat) : Bool := decide (r.lo ≤ key / 32 % selSpan) && decide (key / 32 % selSpan < r.hi)

/-- The staged fields of a range: the pending set a commit captures (R18, R62). -/
def Dev.capture (d : Dev) (p : Nat → Bool) : FMap Nat := d.staged.filter (fun e => p e.1)

/-- The values in force of the staged-class fields of a range. -/
def Dev.inForceRws (d : Dev) (p : Nat → Bool) : FMap Nat := d.regs.filter (fun e => p e.1 && accOf e.1 == .rws)

/-- Put a pending set in force, whole (R19, R62). -/
def Dev.applySet (d : Dev) (p : Nat → Bool) (vals : FMap Nat) : Dev :=
  { d with regs := vals.foldl (fun m e => m.ins e.1 e.2) (d.regs.filter (fun e => !(p e.1 && accOf e.1 == .rws))) }

/-- Reload the staged fields of a range from their values in force (R21, R77). -/
def Dev.discardSet (d : Dev) (p : Nat → Bool) : Dev :=
  { d with staged := (d.inForceRws p).foldl (fun m e => m.ins e.1 e.2) (d.staged.filter (fun e => !p e.1)) }

/-- Whether a staged field of a range differs from its value in force (R22, R78). -/
def Dev.dirty (d : Dev) (p : Nat → Bool) : Bool := decide (d.capture p ≠ d.inForceRws p)

/-! ### Requests of device-wide commits (R17, R18, R21) -/

/-- Keys of a block's fields, whatever object a selector chose. -/
def blkKeys (base key : Nat) : Bool := Range.has ⟨base, base + if base = 0x100000 then 0x200000 else 0x100000⟩ key

/-- A block's pending commit. -/
def Dev.blk (d : Dev) (base : Nat) : Option BlkPend := FMap.get (fun _ => none) d.blkPend base

/-- COMMIT_REQ (R17, R18, R21): the pending set is captured, for the first boundary at least 2,000 ticks away; or the write is
ignored because a commit waits. -/
def blkRequest (c : Clock) (who : Who) (base : Nat) (d : Dev) : Dev :=
  if (d.blk base).isSome then d.set (Reg.BLK_COMMIT_STS_BUSY_REJ base) 1
  else
    let p : BlkPend := { epoch := cdiv (c.tick + 2000) epochTicks, vals := d.capture (blkKeys base), who := who }
    { d with blkPend := d.blkPend.ins base (some p) }.set (Reg.BLK_COMMIT_CTL_REQ base) 1

/-! ### The states of a deck, by name (R374, R69, R313, R345) -/

def dABSENT : Nat := 0
def dLOADED : Nat := 1
def dSPINNING : Nat := 2
def dFOCUSED : Nat := 3
def dTRACKING : Nat := 4
def dCALIBRATING : Nat := 5
def dREADY : Nat := 6
def dWRITING : Nat := 7
def dPARKING : Nat := 8
def dFAULT : Nat := 9

def tbOFF : Nat := 0
def tbSEARCH : Nat := 1
def tbACQUIRE : Nat := 2
def tbLOCKED : Nat := 3
def tbHOLDOVER : Nat := 4

def spOFF : Nat := 0
def spLISTEN : Nat := 1
def spREV : Nat := 2
def spPROBE : Nat := 3
def spALIGN : Nat := 4
def spRAMP : Nat := 5
def spRUN : Nat := 6
def spSHORT : Nat := 7
def spREGEN : Nat := 8
def spFAULT : Nat := 9

def slDISABLED : Nat := 0
def slHOLD : Nat := 1
def slSTANDSTILL : Nat := 2
def slMOVING : Nat := 3
def slFOLLOW : Nat := 4
def slSTOPPING : Nat := 5

/-- The deck's state (R355). -/
def Dev.dstate (d : Dev) (n : Nat) : Nat := d.get (Reg.SEQ_STS_STATE n)

/-- The timebase's state (R53). -/
def Dev.tbState (d : Dev) (n : Nat) : Nat := d.get (Reg.ANG_STS_STATE n)

/-- Whether a timebase state fires triggers (R53). -/
def Dev.tbFires (d : Dev) (n : Nat) : Bool := decide (2 ≤ d.tbState n)

/-- A write that is ignored and flagged in ANG.WR_ERR (R7, R73): sub-block, offset within the deck, kind. -/
def Dev.wrErr (n sub off kind : Nat) (d : Dev) : Dev :=
  let d := d.set (Reg.ANG_WR_ERR_SUB n) (setBit (d.get (Reg.ANG_WR_ERR_SUB n)) sub)
  (d.set (Reg.ANG_WR_ERR_OFFSET n) off).set (Reg.ANG_WR_ERR_KIND n) kind

/-! ### Lifting meanings to the state -/

/-- The state after a change of the module that leaves the clocks and the queue as they are. -/
def State.onDev (s : State) (f : Clock → Dev → Dev) : State := { s with dev := f s.clk s.dev }

/-- The state after a change of clocks and module that leaves the queue as it is. -/
def State.onBoth (s : State) (f : Clock → Dev → Clock × Dev) : State :=
  { s with clk := (f s.clk s.dev).1, dev := (f s.clk s.dev).2 }

end Sys2Proof.Machine
end

