-- ==== Sys2Proof/Machine/Compress.lean ====
section
/-! DEFINITION. Machine/Compress.lean: the two stream formats (spec file 14, R460 to R470): decoders that take and give one
byte at a time, as jobs need them, and the encoders. -/

namespace Sys2Proof.Machine

/-- One byte into the running CRC-64 register (R460). -/
def crc64Byte (r : Nat) (b : Byte) : Nat := crcRefl 0x9A6C9329AC4BC9B5 r b

/-- The final XOR of R460. -/
def crc64Final (r : Nat) : Nat := r ^^^ (2 ^ 64 - 1)

/-- Headers of the two methods, before the fields of the predictive one (R461, R465). -/
def dmHeader : List Byte := [0x4A, 0x44, 0x4D, 0x31, 0x01, 0x10, 0x00, 0x00]
def pmMagic : List Byte := [0x4A, 0x50, 0x4D, 0x31, 0x01]

/-! ### Predictive method (R465 to R467) -/

/-- Fields of a predictive header. -/
structure PmHdr where
  b : Nat
  c : Nat
  width : Nat
  rowOfs : Nat
  npix : Nat
  deriving DecidableEq, Repr

/-- The header's fields from its 24 bytes, when valid (R465). -/
def pmHdr (l : List Byte) : Option PmHdr :=
  let h : PmHdr := { b := ofLe (slice l 5 1), c := ofLe (slice l 6 1), width := ofLe (slice l 8 4),
                     rowOfs := ofLe (slice l 12 4), npix := ofLe (slice l 16 8) }
  if slice l 0 5 = pmMagic ∧ (h.b = 8 ∨ h.b = 16) ∧ 1 ≤ h.c ∧ h.c ≤ 4 ∧ ofLe (slice l 7 1) = 0 ∧ 1 ≤ h.width ∧
      h.width * h.c * h.b / 8 ≤ 32768 ∧ h.rowOfs < h.width ∧ 1 ≤ h.npix then some h else none

/-- The 24 bytes of a header. -/
def PmHdr.bytes (h : PmHdr) : List Byte :=
  pmMagic ++ le 1 h.b ++ le 1 h.c ++ le 1 0 ++ le 4 h.width ++ le 4 h.rowOfs ++ le 8 h.npix

/-- Contexts of a new stream: component × 8 + context, A and N (R467). -/
def pmCtx0 (b : Nat) : List (Nat × Nat) := List.replicate 32 (2 ^ (b - 6), 1)

/-- Bits of a number without leading zeros. -/
def bitLen : Nat → Nat → Nat
  | 0, _ => 0
  | k + 1, v => if v = 0 then 0 else 1 + bitLen k (v / 2)

/-- Index of the pixel at (x, y), when it is present for pixel p (R466). -/
def pmAt (h : PmHdr) (p : Nat) (x y : Int) : Option Nat :=
  let i := y * h.width + x - h.rowOfs
  if 0 ≤ x ∧ x < h.width ∧ 0 ≤ y ∧ 0 ≤ i ∧ i < p then some i.toNat else none

/-- Prediction and context of one component of pixel p; `s` gives the component of an earlier pixel (R467). -/
def pmPredict (h : PmHdr) (p : Nat) (s : Nat → Nat) : Nat × Nat :=
  let x : Int := (h.rowOfs + p) % h.width
  let y : Int := (h.rowOfs + p) / h.width
  let smp := fun (x y : Int) => (pmAt h p x y).map (fun i => (s i : Int))
  let mid : Int := 2 ^ (h.b - 1)
  let w? := smp (x - 1) y
  let n? := smp x (y - 1)
  let w := w?.getD (n?.getD mid)
  let n := n?.getD (w?.getD mid)
  let nw := (smp (x - 1) (y - 1)).getD n
  let ne := (smp (x + 1) (y - 1)).getD n
  let pr := if max w n ≤ nw then min w n else if nw ≤ min w n then max w n else w + n - nw
  let pr := clampI 0 (2 ^ h.b - 1) (pr + (ne - n) / 8)
  let d := (w - nw).natAbs + (n - nw).natAbs + (ne - n).natAbs
  (pr.toNat, min 7 (bitLen 32 (d / 2 ^ (h.b - 8))))

/-- The Golomb parameter of a context (R467). -/
def pmK (b : Nat) (a n : Nat) : Nat → Nat → Nat
  | 0, k => k
  | f + 1, k => if n * 2 ^ k < a ∧ k < b then pmK b a n f (k + 1) else k

/-- A context after a value (R467). -/
def pmLearn (e : Nat × Nat) (m : Nat) : Nat × Nat :=
  if e.2 + 1 = 64 then ((e.1 + m) / 2, 32) else (e.1 + m, e.2 + 1)

/-- The mapped error of a sample against its prediction (R467). -/
def pmMap (b s pr : Nat) : Nat :=
  let e : Int := ((s : Int) - pr) % 2 ^ b
  let e := if 2 ^ (b - 1) ≤ e then e - 2 ^ b else e
  if 0 ≤ e then (2 * e).toNat else (-2 * e - 1).toNat

/-- The sample a mapped error stands for (R467). -/
def pmUnmap (b m pr : Nat) : Nat :=
  let e : Int := if m % 2 = 0 then m / 2 else -((m + 1) / 2)
  ((pr + e) % 2 ^ b).toNat

/-- The bits of a mapped error (R467). -/
def pmBits (b k m : Nat) : List Bool :=
  let q := m / 2 ^ k
  if q < 24 then List.replicate q false ++ [true] ++ msb k (m % 2 ^ k)
  else List.replicate 24 false ++ [true] ++ msb b m

/-- Bits padded with zeros to whole bytes. -/
def padBits (l : List Bool) : List Bool := l ++ List.replicate ((8 - l.length % 8) % 8) false

/-- The components of pixel p coded in order: contexts and the bits of the row so far, after it; `smp` gives the samples by
pixel × C + component (R467). -/
def pmPixel (h : PmHdr) (smp : Nat → Nat) (p : Nat) (s : List (Nat × Nat) × List Bool) : List (Nat × Nat) × List Bool :=
  (List.range h.c).foldl (fun (acc : List (Nat × Nat) × List Bool) c =>
    let t := pmPredict h p (fun i => smp (i * h.c + c))
    let j := c * 8 + t.2
    let e := acc.1.getD j (0, 1)
    let m := pmMap h.b (smp (p * h.c + c)) t.1
    (setAt acc.1 j (pmLearn e m), acc.2 ++ pmBits h.b (pmK h.b e.1 e.2 h.b 0) m)) s

/-- The bytes of some bits, padded with zeros (R466). -/
def rowBytes (row : List Bool) : List Byte := bytesOf ((padBits row).length / 8) (padBits row)

/-- Pixels p onward coded: pixels left, contexts, bits of the row so far; bytes of the rows ended. -/
def pmEncode (h : PmHdr) (smp : Nat → Nat) : Nat → Nat → List (Nat × Nat) → List Bool → List Byte
  | 0, _, _, row => rowBytes row
  | k + 1, p, ctx, row =>
    let r := pmPixel h smp p (ctx, row)
    if (h.rowOfs + p) % h.width = h.width - 1 then rowBytes r.2 ++ pmEncode h smp k (p + 1) r.1 []
    else pmEncode h smp k (p + 1) r.1 r.2

/-- Samples of original data (R465). -/
def samplesOf (b : Nat) : Nat → List Byte → List Nat
  | 0, _ => []
  | k + 1, l => if l.isEmpty then [] else ofLe (slice l 0 (b / 8)) :: samplesOf b k (l.drop (b / 8))

/-! ### Decoding, a byte at a time (R463, R467, R478) -/

/-- Results of a job or a read (R477). -/
def rOK : Nat := 0
def rINCOMPRESSIBLE : Nat := 1
def rOUTPUT : Nat := 2
def rCHAIN : Nat := 3
def rCRC : Nat := 4
def rFORMAT : Nat := 5

/-- What a decoder does next: take an input byte into a new state, give a byte of output, go on, wait for input, or end. -/
inductive Act where
  | take (s : CmpState)
  | copy (s : CmpState)
  | emit (b : Byte) (s : CmpState)
  | go (s : CmpState)
  | wait
  | stop (r : Nat)

/-- A varint from the front of a list (R463): its value and length; none while incomplete; a fifth byte is an error. -/
def varint (l : List Byte) : Option (Nat × Nat) :=
  let n := (l.takeWhile (fun b => decide (128 ≤ b.toNat))).length
  if n < l.length then some ((List.range (n + 1)).foldl (fun v i => v + (l.getD i 0).toNat % 128 * 128 ^ i) 0, n + 1) else none

/-- A varint longer than four bytes. -/
def longVarint (l : List Byte) : Bool := decide (4 ≤ (l.takeWhile (fun b => decide (128 ≤ b.toNat))).length)

/-- A byte of output enters the history, the totals and the CRC. -/
def CmpState.out (s : CmpState) (b : Byte) : CmpState :=
  { s with hist := (b :: s.hist).take 65536, outTotal := s.outTotal + 1, crc := crc64Byte s.crc b }

/-- The sequence in hand up to its literals: their count and the bytes of CTRL and its varint (R463). -/
def seqLits (p : List Byte) : Option (Nat × Nat) :=
  match p with
  | [] => none
  | c :: t => if c.toNat / 32 = 7 then (varint t).map (fun v => (7 + v.1, 1 + v.2)) else some (c.toNat / 32, 1)

/-- The match part after n bytes: length and offset, when complete (R463). -/
def seqMatch (p : List Byte) (n : Nat) : Option (Nat × Nat) :=
  let mlc := (p.headD 0).toNat % 32
  let t := p.drop n
  if mlc = 31 then
    match varint t with
    | some v => if t.length = v.2 + 2 then some (33 + v.1, ofLe (t.drop v.2)) else none
    | none => none
  else if t.length = 2 then some (mlc + 2, ofLe t) else none

/-- Next act of the dictionary decoder within a CODED block. -/
def dmCodedAct (s : CmpState) (b? : Option Byte) : Act :=
  if 0 < s.matchLeft then
    if s.orig = 0 then .stop rFORMAT
    else
      let b := s.hist.getD (s.last - 1) 0
      .emit b { s with matchLeft := s.matchLeft - 1, orig := s.orig - 1 }
  else if 0 < s.litLeft then
    if s.orig = 0 ∨ s.blockLeft = 0 then .stop rFORMAT
    else match b? with
      | none => .wait
      | some _ => .copy { s with litLeft := s.litLeft - 1, orig := s.orig - 1, blockLeft := s.blockLeft - 1 }
  else match seqLits s.parse with
    | some (_, n) =>
      if (s.parse.headD 0).toNat % 32 = 0 then
        if s.blockLeft = 0 ∧ s.orig = 0 then .go { s with phase := 1, parse := [], coded := false } else .stop rFORMAT
      else if s.blockLeft = 0 then .stop rFORMAT
      else match b? with
        | none => .wait
        | some b =>
          let p := s.parse ++ [b]
          let s := { s with blockLeft := s.blockLeft - 1 }
          match seqMatch p n with
          | some (ml, ofs) =>
            let last := if ofs = 0 then s.last else ofs
            if s.hist.length < last then .stop rFORMAT
            else .take { s with parse := [], matchLeft := ml, last := last }
          | none => if (s.parse.headD 0).toNat % 32 = 31 ∧ longVarint (p.drop n) then .stop rFORMAT else .take { s with parse := p }
    | none =>
      if s.blockLeft = 0 then .stop rFORMAT
      else match b? with
        | none => .wait
        | some b =>
          let p := s.parse ++ [b]
          let s := { s with blockLeft := s.blockLeft - 1 }
          match seqLits p with
          | some (lit, _) => .take { s with parse := p, litLeft := lit }
          | none => if longVarint (p.drop 1) then .stop rFORMAT else .take { s with parse := p }

/-- A trailer byte (R462): ORIG_TOTAL must agree, then the CRC-64. -/
def trailerAct (s : CmpState) (b? : Option Byte) : Act :=
  if s.phase = 4 then .stop rOK
  else if s.phase = 5 then .stop rCRC
  else match b? with
    | none => .wait
    | some b =>
      let p := s.parse ++ [b]
      if p.length = 8 ∧ ofLe p ≠ s.outTotal then .stop rFORMAT
      else if p.length = 16 then
        .take { s with parse := [], phase := if ofLe (p.drop 8) = crc64Final s.crc then 4 else 5 }
      else .take { s with parse := p }

/-- Next act of the dictionary decoder (R461 to R463). -/
def dmAct (s : CmpState) (b? : Option Byte) : Act :=
  if s.phase = 0 then
    match b? with
    | none => .wait
    | some b =>
      let p := s.parse ++ [b]
      if p ≠ dmHeader.take p.length then .stop rFORMAT
      else if p.length = 8 then .take { s with phase := 1, parse := [] } else .take { s with parse := p }
  else if s.phase = 1 then
    match b? with
    | none => .wait
    | some b =>
      let p := s.parse ++ [b]
      if p.length < 8 then .take { s with parse := p }
      else
        let w := ofLe (p.take 4)
        let plen := ofLe (p.drop 4)
        let o := w % 2 ^ 17
        if bits w 17 13 ≠ 0 then .stop rFORMAT
        else if bits w 30 2 = 3 ∧ o = 0 ∧ plen = 0 then .take { s with phase := 3, parse := [] }
        else if bits w 30 2 = 0 ∧ 1 ≤ o ∧ o ≤ 65536 ∧ plen = o then
          .take { s with phase := 2, parse := [], coded := false, orig := o, blockLeft := plen, litLeft := o }
        else if bits w 30 2 = 1 ∧ 1 ≤ o ∧ o ≤ 65536 ∧ 1 ≤ plen then
          .take { s with phase := 2, parse := [], coded := true, orig := o, blockLeft := plen }
        else .stop rFORMAT
  else if s.phase = 2 then
    if s.coded then dmCodedAct s b?
    else if s.litLeft = 0 then .go { s with phase := 1 }
    else match b? with
      | none => .wait
      | some _ => .copy { s with litLeft := s.litLeft - 1, orig := s.orig - 1, blockLeft := s.blockLeft - 1 }
  else trailerAct s b?

/-- One sample from the bits held (R467): the mapped error and the bits it takes; none while bits are missing; a count of
24 zeros without a one is an error. -/
def pmTake (b k : Nat) (l : List Bool) : Option (Option (Nat × Nat)) :=
  let z := (l.takeWhile (fun x => !x)).length
  if 24 < z then some none
  else if z = l.length then none
  else
    let w := if z = 24 then b else k
    if l.length < z + 1 + w then none
    else
      let v := ofMsb ((l.drop (z + 1)).take w)
      some (some (if z = 24 then v else z * 2 ^ k + v, z + 1 + w))

/-- Next act of the predictive decoder (R465 to R467). Sample bytes decoded and not yet given out lie in the history. -/
def pmAct (s : CmpState) (b? : Option Byte) : Act :=
  if s.phase = 0 then
    match b? with
    | none => .wait
    | some b =>
      let p := s.parse ++ [b]
      if p.take 5 ≠ pmMagic.take (p.take 5).length then .stop rFORMAT
      else if p.length < 24 then .take { s with parse := p }
      else match pmHdr p with
        | none => .stop rFORMAT
        | some h => .take { s with phase := 2, parse := [], pm := p, ctx := pmCtx0 h.b }
  else if s.phase = 2 then
    match pmHdr s.pm with
    | none => .stop rFORMAT
    | some h =>
      let got := (s.pixel * h.c + s.comp) * (h.b / 8)
      if s.outTotal < got then
        let b := s.hist.getD (got - s.outTotal - 1) 0
        .emit b s
      else
        let held := msb s.bitN s.bitBuf
        let col := (h.rowOfs + s.pixel + h.width - 1) % h.width
        let x := s.hist
        let smp := fun (c i : Nat) =>
          let at' := (i * h.c + c) * (h.b / 8)
          ofLe ((List.range (h.b / 8)).map (fun j => x.getD (got - 1 - (at' + j)) 0))
        if s.comp = 0 ∧ 0 < s.pixel ∧ (col = h.width - 1 ∨ s.pixel = h.npix) ∧ 0 < s.bitN then
          if s.bitBuf = 0 then .go { s with bitN := 0 } else .stop rFORMAT
        else if s.pixel = h.npix then .go { s with phase := 3 }
        else
          let t := pmPredict h s.pixel (smp s.comp)
          let j := s.comp * 8 + t.2
          let e := s.ctx.getD j (0, 1)
          match pmTake h.b (pmK h.b e.1 e.2 h.b 0) held with
          | some none => .stop rFORMAT
          | none => (match b? with
            | none => .wait
            | some b => .take { s with bitBuf := s.bitBuf * 256 + b.toNat, bitN := s.bitN + 8 })
          | some (some (m, used)) =>
            let v := pmUnmap h.b m t.1
            let rest := s.bitN - used
            .go { s with
              bitN := rest, bitBuf := s.bitBuf % 2 ^ rest, ctx := setAt s.ctx j (pmLearn e m),
              hist := ((le (h.b / 8) v).reverse ++ s.hist).take 65536,
              comp := if s.comp + 1 = h.c then 0 else s.comp + 1,
              pixel := if s.comp + 1 = h.c then s.pixel + 1 else s.pixel }
  else trailerAct s b?

/-- Next act of a decoder of either method. -/
def decAct (s : CmpState) (b? : Option Byte) : Act := if s.method = 2 then pmAct s b? else dmAct s b?

/-- A decoder's run: state, input left, input taken, output (latest first), result when it has ended. -/
structure DecRun where
  s : CmpState
  input : List Byte
  taken : Nat := 0
  out : List Byte := []
  res : Option Nat := none

/-- A run until it ends, waits for input, or meets a limit: `lim` tells from output of this job, output and input of the
stream whether one more byte would pass OUTPUT_LIMIT; `room` is the output space. -/
def decRun (lim : Nat → Nat → Nat → Bool) (room : Nat) : Nat → DecRun → DecRun
  | 0, r => r
  | f + 1, r =>
    let blocked := fun (s : CmpState) => if lim r.out.length s.outTotal s.inTotal then some rOUTPUT
      else if room ≤ r.out.length then some rCHAIN else none
    match decAct r.s r.input.head? with
    | .wait => r
    | .stop x => { r with res := some x }
    | .go s => decRun lim room f { r with s := s }
    | .take s => decRun lim room f { r with s := { s with inTotal := s.inTotal + 1 }, input := r.input.tail, taken := r.taken + 1 }
    | .emit b s =>
      match blocked s with
      | some x => { r with res := some x }
      | none =>
        let s' := if s.method = 2 then { s with outTotal := s.outTotal + 1, crc := crc64Byte s.crc b } else s.out b
        decRun lim room f { r with s := s', out := b :: r.out }
    | .copy s =>
      match blocked s with
      | some x => { r with res := some x }
      | none =>
        let b := r.input.headD 0
        decRun lim room f { r with
          s := { s.out b with inTotal := s.inTotal + 1 }, input := r.input.tail, taken := r.taken + 1, out := b :: r.out }

/-- Steps enough for an input and an output space. -/
def decFuel (input room : Nat) : Nat := 4 * (input + room) + 64

/-- A whole stream of a namespace decoded, its output bounded (R471): the original bytes, or CRC or FORMAT. -/
def decodeStream (method bound : Nat) (l : List Byte) : List Byte ⊕ Nat :=
  let r := decRun (fun _ _ _ => false) bound (decFuel l.length bound) { s := { method := method, dir := 1 }, input := l }
  match r.res with
  | some 0 => .inl r.out.reverse
  | some 4 => .inr rCRC
  | _ => .inr rFORMAT

/-! ### Encoding (R462 to R464, R469) -/

/-- A block's CODED payload, when it decodes to the block and is shorter: with the last offset after it (R464).
DESIGN CHOICE, log 61. -/
def dmTry (hist : List Byte) (last : Nat) (blk : List Byte) : Option (List Byte × Nat) :=
  let p := Config.dmCoded hist last blk
  if blk.length ≤ p.length then none
  else
    let r := decRun (fun _ _ _ => false) blk.length (decFuel p.length blk.length)
      { s := { phase := 2, coded := true, orig := blk.length, blockLeft := p.length, hist := hist, last := last }, input := p }
    if r.res.isNone && r.s.phase == 1 && r.out.reverse == blk && r.input.isEmpty then some (p, r.s.last) else none

/-- A block: CODED when that is shorter, else RAW; the last offset after it. -/
def dmBlock (hist : List Byte) (last : Nat) (blk : List Byte) : List Byte × Nat :=
  match dmTry hist last blk with
  | some (p, l) => (le 4 (blk.length + 2 ^ 30) ++ le 4 p.length ++ p, l)
  | none => (le 4 blk.length ++ le 4 blk.length ++ blk, last)

/-- History after some bytes. -/
def histAfter (hist blk : List Byte) : List Byte := (blk.reverse ++ hist).take 65536

/-- END block and trailer, trailer alone (R462, R465). -/
def trailer (total crc : Nat) : List Byte := le 8 total ++ le 8 crc
def dmEnd (total crc : Nat) : List Byte := le 4 (3 * 2 ^ 30) ++ le 4 0 ++ trailer total crc

/-- Whether a stream of a length counts as incompressible (R470, R475). -/
def incompressible (minSave len orig : Nat) : Bool := decide (orig * (256 - minSave) < 256 * len)

/-- Blocks of a dictionary-method stream laid into a payload's room, one logical block each, while the longest coding of the
next one fits (R469): history, last offset, bytes so far; the bytes, and how many blocks were taken. -/
def dmTakeBlocks (room lbs : Nat) (first : Bool) (hist : List Byte) (last : Nat) (acc : List Byte) : List (List Byte) → List Byte × Nat
  | [] => (acc, 0)
  | b :: t =>
    if first || decide (acc.length + lbs + 32 ≤ room) then
      let r := dmBlock hist last b
      let rest := dmTakeBlocks room lbs false (histAfter hist b) r.2 (acc ++ r.1) t
      (rest.1, rest.2 + 1)
    else (acc, 0)

/-- Longest coding of a logical block in a predictive stream (R467, R469): every sample escaped, and a padding byte for
each row end. -/
def pmMargin (h : PmHdr) (lbs : Nat) : Nat :=
  let row := h.width * h.c * h.b / 8
  lbs * 8 / h.b * (25 + h.b) / 8 + lbs / max 1 row + 3

/-- The predictive stream of some original data. -/
def pmStream (h : PmHdr) (orig : List Byte) : List Byte :=
  let smp := samplesOf h.b orig.length orig
  h.bytes ++ pmEncode h (fun i => smp.getD i 0) h.npix 0 (pmCtx0 h.b) [] ++ trailer orig.length (crc64 orig)

/-- Logical blocks a predictive stream takes from a list, within a room (R469): one more while its longest coding fits after
the n before it. -/
def pmCount (room lbs : Nat) (hdr : Nat → PmHdr) (bs : List (List Byte)) : Nat → Nat → Nat
  | 0, n => n
  | k + 1, n =>
    if n < bs.length ∧ (pmStream (hdr n) (bs.take n).flatten).length + pmMargin (hdr n) lbs ≤ room then
      pmCount room lbs hdr bs k (n + 1)
    else n

/-! ### Packing a write into payloads (R105, R469, R470) -/

/-- Bytes of a swath block payload (R97, R105). -/
def payloadBytes : Nat := 229376

/-- A piece of a write: whether it begins a new payload, STORE, first block within the write, blocks, stored bytes, and
whether they are already as the medium holds them (R441). -/
structure Piece where
  fresh : Bool
  store : Nat
  first : Nat
  blocks : Nat
  bytes : List Byte
  asIs : Bool := false
  deriving DecidableEq, Repr

/-- Raw extents: pieces and the room left. -/
def packRaw (store lbs : Nat) : Nat → Nat → Nat → List (List Byte) → List Piece × Nat
  | 0, room, _, _ => ([], room)
  | _ + 1, room, _, [] => ([], room)
  | f + 1, room, idx, bs =>
    let fresh := decide (room < lbs)
    let space := if fresh then payloadBytes else room
    let n := max 1 (min bs.length (space / max 1 lbs))
    let r := packRaw store lbs f (space - n * lbs) (idx + n) (bs.drop n)
    ({ fresh := fresh, store := store, first := idx, blocks := n, bytes := (bs.take n).flatten } :: r.1, r.2)

/-- How a namespace's data is stored: 0 raw, 1 dictionary, 2 predictive with its geometry (C, B, WIDTH). -/
structure Coding where
  kind : Nat
  c : Nat := 1
  b : Nat := 8
  width : Nat := 0
  deriving DecidableEq, Repr

/-- The header of a predictive stream of n blocks that begins at a logical block (R469). -/
def Coding.hdr (g : Coding) (lbs lba n : Nat) : PmHdr :=
  let px := max 1 (g.c * g.b / 8)
  { b := g.b, c := g.c, width := g.width, rowOfs := lba * lbs / px % max 1 g.width, npix := n * lbs / px }

/-- A write's blocks as pieces (R468 to R470): an incompressible stream's blocks are stored raw, STORE 3. -/
def packWrite (g : Coding) (minSave lbs slba : Nat) : Nat → Nat → Nat → List (List Byte) → List Piece
  | 0, _, _, _ => []
  | _ + 1, _, _, [] => []
  | f + 1, room, idx, bs =>
    if g.kind = 0 then (packRaw 0 lbs bs.length room idx bs).1
    else
      let hdr := g.hdr lbs (slba + idx)
      let need := if g.kind = 2 then 24 + pmMargin (hdr 1) lbs + 16 else 8 + lbs + 32
      let fresh := decide (room < need)
      let space := if fresh then payloadBytes else room
      let t := if g.kind = 2 then
          let n := pmCount space lbs hdr bs bs.length 1
          (pmStream (hdr n) (bs.take n).flatten, n)
        else
          let r := dmTakeBlocks space lbs true [] 1 dmHeader bs
          let orig := (bs.take r.2).flatten
          (r.1 ++ dmEnd orig.length (crc64 orig), r.2)
      if incompressible minSave t.1.length (t.2 * lbs) then
        let r := packRaw 3 lbs t.2 room idx (bs.take t.2)
        r.1 ++ packWrite g minSave lbs slba f r.2 (idx + t.2) (bs.drop t.2)
      else
        { fresh := fresh, store := g.kind, first := idx, blocks := t.2, bytes := t.1 } ::
          packWrite g minSave lbs slba f (space - t.1.length) (idx + t.2) (bs.drop t.2)

end Sys2Proof.Machine
end

