-- ==== Sys2Proof/Machine/Ledger.lean ====
section
/-! DEFINITION. Machine/Ledger.lean: the change ledger (spec file 19, R644 to R652): its entries, chain, flash ring and
checkpoints. -/

namespace Sys2Proof.Machine

/-- Forty-eight zero bytes. -/
def zeros48 : List Byte := List.replicate 48 0

/-- SHA-384 as 48 bytes. DESIGN CHOICE, log 5. -/
def sha (m : List Byte) : List Byte := slice (Config.sha384 m) 0 48

/-- TAI now, in nanoseconds (R392). -/
def Dev.taiNow (d : Dev) (c : Clock) : Nat := d.host.tai + c.tick

/-- Entries the AON buffer holds (R647). -/
def ledgerRoom : Nat := 4096

/-- Whether the buffer is full: every change that needs an entry is refused (R647). -/
def Dev.ledFull (d : Dev) : Bool := decide (ledgerRoom ≤ d.led.next - d.led.flushed)

/-- The 240 bytes of an entry (R645). -/
def LedEntry.bytes (e : LedEntry) : List Byte :=
  slice (le 8 e.seq ++ taiBytes false e.time ++ le 1 e.result ++ le 1 e.who.role ++ le 4 (e.dev % 2 ^ 18) ++ le 1 e.who.port ++
    le 1 e.cls ++ le 2 e.who.cid ++ le 4 e.detail ++ le 8 e.object ++ slice e.who.origin 0 48 ++ slice e.old 0 48 ++
    slice e.new 0 48 ++ slice e.prev 0 48) 0 240

/-- Device number of this module (R25). DESIGN CHOICE, log 80. -/
def Dev.devNum (d : Dev) : Nat := d.get Reg.MGMT_SELF_HANDLE_DEVICE_NUM

/-- LEDGER_STS and LEDGER_SEQ brought up to date (R654, R655). -/
def Dev.ledShow (d : Dev) : Dev :=
  d.sets [(Reg.SEC_LEDGER_STS_BUFFERED, d.led.next - d.led.flushed), (Reg.SEC_LEDGER_STS_FULL, ofB d.ledFull),
    (Reg.SEC_LEDGER_STS_FIRST_CP, d.led.firstCp), (Reg.SEC_LEDGER_SEQ_SEQ_LO, d.led.next)]

/-- One entry is made (R644 to R646): result 0 applied, 1 refused, 2 event. -/
def Dev.ledAdd (c : Clock) (who : Who) (cls result detail object : Nat) (old new : List Byte) (d : Dev) : Dev :=
  let e : LedEntry := {
    seq := d.led.next, dev := d.devNum, time := d.taiNow c, result := result, who := who, cls := cls, detail := detail, object := object,
    old := slice old 0 48, new := slice new 0 48, prev := d.led.head }
  { d with led := { d.led with
    next := d.led.next + 1, head := sha (d.led.head ++ e.bytes), entries := d.led.entries ++ [e] } }.ledShow

/-- Leaves of a ledger key (R648: H20). -/
def lmsLeaves : Nat := 2 ^ 20

/-- The 128 signed bytes of checkpoint k (R648). -/
def cpHead (c : Clock) (d : Dev) (k : Nat) (head : List Byte) : List Byte :=
  slice (le 8 k ++ le 8 (1024 * k + 1023) ++ slice head 0 48 ++ taiBytes false (d.taiNow c) ++ le 2 0 ++ le 4 d.devNum ++
    sha (Config.lmsPublic d.led.key)) 0 128

/-- Checkpoint k is signed and stored; sixteen leaves before a key's end the next one is made and entered (R648, R649). -/
def checkpoint (c : Clock) (k : Nat) (d : Dev) : Dev :=
  let last := d.led.entries.find? (fun e => e.seq == 1024 * k + 1023)
  let head := match last with
    | some e => sha (e.prev ++ e.bytes)
    | none => zeros48
  let m := cpHead c d k head
  let leaf := d.led.leaf
  let cp := slice (m ++ slice (Config.ecdsaSign m) 0 96 ++ slice (Config.lmsSign d.led.key leaf m) 0 1140) 0 1364
  let d := { d with led := { d.led with
    cps := d.led.cps ++ [(k, cp)],
    leaf := if leaf + 1 = lmsLeaves then 0 else leaf + 1, key := if leaf + 1 = lmsLeaves then d.led.key + 1 else d.led.key } }
  if leaf + 1 + 16 = lmsLeaves then
    d.ledAdd c {} 12 2 0 5 zeros48 (sha (Config.lmsPublic (d.led.key + 1)))
  else d

/-- Buffered entries are written to flash, with the checkpoints that fall due; segments used again lose their older
content (R647, R648, R650). -/
def ledWrite (c : Clock) (d : Dev) : Dev :=
  let first := d.led.flushed / 1024
  let upto := d.led.next
  let d := (List.range (upto / 1024 - first)).foldl (fun d i => checkpoint c (first + i) d) d
  let seg := (upto - 1) / 1024
  let keep := if seg < 128 then 0 else seg - 127
  { d with led := { d.led with
    flushed := upto, bad := false, firstCp := keep, entries := d.led.entries.filter (fun e => decide (1024 * keep ≤ e.seq)),
    cps := d.led.cps.filter (fun p => decide (keep ≤ p.1)) } }.ledShow

/-- LEDGER_FLUSH: the buffer goes to flash, or the flash write fails (R647, R654). -/
def ledgerFlush (c : Clock) (ok : Bool) (d : Dev) : Dev :=
  if d.led.next = d.led.flushed then d
  else if ok then ledWrite c d
  else { d with led := { d.led with bad := true } }.set Reg.SEC_LEDGER_STS_FLASH_ERR 1

/-- Classes whose entries must be in flash before the change takes effect (R647). -/
def ledFirst (cls : Nat) : Bool := (decide (3 ≤ cls) && decide (cls ≤ 6)) || cls == 8

/-- A change that needs an entry: refused while the buffer is full or, for classes 3 to 6 and 8, while the flash fails;
otherwise the entry is made, written first where R647 asks for it, and the change takes effect. -/
def Dev.ledgered (c : Clock) (who : Who) (cls detail object : Nat) (old new : List Byte) (refuse go : Dev → Dev) (d : Dev) : Dev :=
  if d.ledFull || (ledFirst cls && d.led.bad) then refuse d
  else
    let d := d.ledAdd c who cls 0 detail object old new
    go (if ledFirst cls then ledWrite c d else d)

/-- An event or a refusal is entered when there is room for it. DEDUCED, log 78. -/
def Dev.ledEvent (c : Clock) (who : Who) (cls result detail object : Nat) (old new : List Byte) (d : Dev) : Dev :=
  if d.ledFull then d else d.ledAdd c who cls result detail object old new

/-- The (offset, selector, value) triples of the words whose fields a commit changes, in ascending order (R644): values
read from a table of fields. -/
def wordTriples (keys : List Nat) (rd : Nat → Nat) : List Byte :=
  let words := (keys.map (fun k => k / 32)).foldl (fun l w => if l.contains w then l else l ++ [w]) []
  (sortBy (fun (a b : Nat) => decide (a % selSpan < b % selSpan ∨ (a % selSpan = b % selSpan ∧ a < b))) words).flatMap
    (fun w => le 4 (w % selSpan) ++ le 4 (if w < selSpan then 0 else w / selSpan - 1) ++
      le 4 (match regAt w with
        | some (r, _) => assemble rd w r.fields
        | none => 0))

/-- Keys of a pending set whose value in force it changes. -/
def Dev.changedKeys (d : Dev) (p : Nat → Bool) (vals : FMap Nat) : List Nat :=
  let a := (vals.filter (fun e => decide (e.2 ≠ FMap.get resetOf d.regs e.1))).map (fun e => e.1)
  let b := ((d.inForceRws p).filter (fun e => !(vals.any (fun v => v.1 == e.1)))).map (fun e => e.1)
  a ++ b

/-- LEDGER_READ (R652): WHAT (0 entries, 1 checkpoints, 2 public material), START, and the data of a transfer length. -/
def ledgerBytes (d : Dev) (what start len : Nat) : List Byte :=
  let size := match what with
    | 0 => 240
    | 1 => 1364
    | _ => 0
  let held : List (List Byte) := match what with
    | 0 => (d.led.entries.filter (fun e => decide (max start (1024 * d.led.firstCp) ≤ e.seq) && decide (e.seq < d.led.flushed))).map
        (fun e => e.bytes)
    | 1 => (d.led.cps.filter (fun p => decide (max start d.led.firstCp ≤ p.1))).map (fun p => p.2)
    | _ => (List.range 2).map Config.certChain ++ (List.range (d.led.key + 1)).map Config.lmsPublic
  let items := if what < 2 then held.take ((len - 64) / size) else held
  let body := items.flatMap (fun i => (if what < 2 then [] else le 4 i.length) ++ i)
  slice (le 8 (1024 * d.led.firstCp) ++ le 8 d.led.next ++ le 8 d.led.firstCp ++ le 4 items.length ++ le 4 size ++
    List.replicate 32 0 ++ body) 0 len

end Sys2Proof.Machine
end

