-- ==== Sys2Proof/Machine/Units.lean ====
section
/-! DEFINITION. Machine/Units.lean: unit handles and the tree of units of the plait in force (spec file 02, R25 to R30,
R35). -/

namespace Sys2Proof.Machine

/-- The null handle (R27). -/
def nullHandle : Nat := 0xFFFFFFFF

/-- Index and device number of a handle (R25). -/
def hIndex (h : Nat) : Nat := h % 2 ^ 14
def hDev (h : Nat) : Nat := h / 2 ^ 14

/-- The handle of a unit. -/
def mkHandle (dev idx : Nat) : Nat := dev * 2 ^ 14 + idx

/-- Whether a handle names a unit of any kind (R26, R27). -/
def isUnit (h : Nat) : Bool :=
  let i := hIndex h
  h != nullHandle && decide (h < 2 ^ 32) && !(decide (17 ≤ i ∧ i ≤ 31)) && !(decide (1248 ≤ i ∧ i ≤ 4095)) && decide (i < 16383)

/-- Deck number of a DECK index (R26). -/
def deckOfIdx (i : Nat) : Option Nat := if 1 ≤ i ∧ i ≤ 16 then some (i - 1) else none

/-- Unit index of lane k of deck n (R26). -/
def laneIdx (n k : Nat) : Nat := 32 + 66 * n + k

/-- The RESOURCE record of the tiller that owns a deck. -/
def Plait.ownerOf (p : Plait) (n : Nat) : Option ResRec := p.resources.find? (fun r => bit r.decks n)

/-- The RESOURCE record of the tiller that owns a compression engine, DM 0 to 31 then PM 0 to 3. -/
def Plait.engOwner (p : Plait) (e : Nat) : Option ResRec :=
  p.resources.find? (fun r => if e < 32 then bit r.dms e else bit r.pms (e - 32))

/-- The UNIT record of a handle on this device. -/
def Plait.unitRec (p : Plait) (h : Nat) : Option UnitRec :=
  if hDev h = p.deviceNum then p.units.find? (fun u => u.index == hIndex h) else none

/-- The parent a plait gives a unit: that of its UNIT record, or else the sheaf whose SHEAF record lists it (R28). -/
def Plait.parentOf (p : Plait) (h : Nat) : Option Nat :=
  match p.unitRec h with
  | some u => some u.parent
  | none => (p.sheaves.find? (fun s => s.members.contains h)).map (fun s => s.handle)

/-- Whether a unit lies in the subtree of a root: the root itself, or one whose ancestors lead to it (R28). A member of a
SHEAF record of this plait counts as its child. -/
def Plait.within (p : Plait) (root : Nat) : Nat → Nat → Bool
  | 0, h => h == root
  | fuel + 1, h => h == root ||
    (match p.parentOf h with
     | some q => p.within root fuel q
     | none => false)

/-- How deep a chain of parents can be: the tree holds no unit twice. -/
def Plait.depth (p : Plait) : Nat := p.units.length + p.sheaves.length + 1

/-- Whether a tiller of this device is in a unit's subtree. -/
def Plait.tillerIn (p : Plait) (root tiller : Nat) : Bool := p.within root p.depth (mkHandle p.deviceNum tiller)

/-- Whether a deck of this device is among a unit's resources. -/
def Plait.deckIn (p : Plait) (root n : Nat) : Bool :=
  root == mkHandle p.deviceNum 0 || root == mkHandle p.deviceNum (1 + n) ||
    (match p.ownerOf n with
     | some r => p.tillerIn root r.tiller
     | none => false)

/-- Decks of this device among a unit's resources. -/
def Plait.decksIn (p : Plait) (root : Nat) : List Nat := (List.range 16).filter (p.deckIn root)

/-- The BINDING of a namespace. -/
def Plait.binding (p : Plait) (nsid : Nat) : Option BindRec := p.bindings.find? (fun b => b.nsid == nsid)

/-- The STRIPE of a layout. -/
def Plait.stripe (p : Plait) (layout : Nat) : Option StripeRec := p.stripes.find? (fun s => s.layout == layout)

/-- Binding and stripe of a namespace under the plait in force. -/
def Dev.bound (d : Dev) (nsid : Nat) : Option (BindRec × StripeRec) :=
  match d.plait with
  | none => none
  | some p => match p.binding nsid with
    | none => none
    | some b => match p.stripe b.layout with
      | none => none
      | some s => some (b, s)

/-- Logical block size. -/
def BindRec.lbs (b : BindRec) : Nat := if b.lbs64 then 65536 else 4096

/-- Members of a stripe on this device: (member index, deck). -/
def Dev.localMembers (d : Dev) (s : StripeRec) : List (Nat × Nat) :=
  ((List.range s.members.length).zip s.members).filterMap (fun p =>
    if hDev p.2 = d.devNum then (deckOfIdx (hIndex p.2)).map (fun n => (p.1, n)) else none)

/-- The member of a stripe that swath block u of a namespace is written to (R35). -/
def StripeRec.memberOf (s : StripeRec) (u : Nat) : Nat := u / max 1 s.unitBlocks % max 1 s.members.length

/-- Whether a handle names a sheaf (R26). -/
def isSheaf (h : Nat) : Bool := isUnit h && decide (12288 ≤ hIndex h ∧ hIndex h ≤ 16382)

/-- Whether this device exports a namespace: it is bound to a tiller here, or to a sheaf whose root is this device (R26, R30). -/
def Plait.exports (p : Plait) (b : BindRec) : Bool := hDev b.unit == p.deviceNum

/-- The mapping-cache class of a requester: management firmware (no namespace) and namespaces of a sheaf 0, those of a tiller
its CACHE_CLASS (R35, R538). -/
def Dev.mcClass (d : Dev) (ns : Option Nat) : Nat :=
  match ns, d.plait with
  | some n, some p => match p.binding n with
    | some b => if isSheaf b.unit then 0
        else match p.resources.find? (fun r => r.tiller == hIndex b.unit) with
          | some r => r.cls
          | none => 0
    | none => 0
  | _, _ => 0

/-- Where a record about a namespace comes from: the tiller that carries it (R29). DEDUCED, log 103. -/
def Dev.nsSrc (d : Dev) (nsid : Nat) : Src :=
  match d.plait with
  | some p => match p.binding nsid with
    | some b => if isSheaf b.unit then .device else .unit (hIndex b.unit)
    | none => .device
  | none => .device

/-- Namespaces bound in a unit's subtree. -/
def Plait.nsIn (p : Plait) (root : Nat) : List Nat :=
  (p.bindings.filter (fun b => root == mkHandle p.deviceNum 0 || p.within root p.depth b.unit)).map (fun b => b.nsid)

/-- The plait entry for a namespace (R629): its group and key group. -/
def Plait.nsPolicy (p : Plait) (nsid : Nat) : Nat × Nat :=
  match p.policy.find? (fun e => e.kind == 4 && e.nsid == nsid) with
  | some e => (e.group, e.kid)
  | none => (0, 0)

/-- Handle of the unit a deck belongs to: its tiller, or the DEVICE unit (R401). -/
def Dev.deckUnit (d : Dev) (n : Nat) : Nat :=
  match d.plait with
  | some p => match p.ownerOf n with
    | some r => mkHandle p.deviceNum r.tiller
    | none => mkHandle p.deviceNum 0
  | none => d.handle 0

/-- Whether a pending reload covers a deck (R42). -/
def Dev.reloadsDeck (d : Dev) (n : Nat) : Bool :=
  match d.reload, d.plait with
  | some r, some p => p.deckIn r.image.root n || (r.image.subtree == false)
  | some _, none => true
  | none, _ => false

/-- Whether a pending reload covers the resources of a device-wide block, by its base (R41, R42): a reload of the whole
plait covers every block, one of a subtree those its tillers hold resources of. -/
def Dev.reloadsBlock (d : Dev) (base : Nat) : Bool :=
  match d.reload, d.plait with
  | some r, some p =>
    let root := r.image.root
    let own := p.resources.filter (fun x => p.tillerIn root x.tiller)
    r.image.subtree == false || root == mkHandle p.deviceNum 0 ||
      (base == 0x400000 && own.any (fun x => x.dms != 0 || x.pms != 0)) || (base == 0x500000 && own != []) ||
      (base == 0x600000 && own != []) || (base == 0x900000 && decide (12288 ≤ hIndex root))
  | some _, none => true
  | none, _ => false

end Sys2Proof.Machine
end

