-- ==== Sys2Proof/Machine/HostOps.lean ====
section
/-! DEFINITION. Machine/HostOps.lean: what the host families do alike: controllers, roles, contexts, range locks, events,
namespaces (spec files 12, 13 and 19). -/

namespace Sys2Proof.Machine

/-! ### Controllers and roles (R394, R627, R631) -/

def rCUSTODIAN : Nat := 0
def rARCHIVIST : Nat := 1
def rOPERATOR : Nat := 2
def rAUDITOR : Nat := 3

/-- A controller by its id. -/
def Dev.ctrl (d : Dev) (cid : Nat) : Option Ctrl := d.ctrls.find? (fun k => k.id == cid)

/-- Change a controller. -/
def Dev.onCtrl (d : Dev) (cid : Nat) (f : Ctrl → Ctrl) : Dev :=
  { d with ctrls := mapIf (fun k => k.id == cid) f d.ctrls }

/-- The union of a controller's roles (R627). -/
def Ctrl.allRoles (k : Ctrl) : Nat := k.roles ||| k.sessRoles

/-- Roles, raster privilege and namespace groups of a controller under the POLICY record (R627, R629). A fabric controller
whose HOST entry asks for authentication has its roles only after it. -/
def Ctrl.withPolicy (pol : List PolRec) (k : Ctrl) : Ctrl :=
  let e? := if k.kind = 2 then pol.find? (fun e => e.kind == 2 && e.digest == k.nqn)
    else pol.find? (fun e => e.kind == 1 && e.link == k.link && e.fn == k.fn)
  match e? with
  | some e => { k with
      roles := if e.auth && !k.authed then 0 else e.roles, raster := e.raster, nsGroups := e.groups, auth := e.auth }
  | none => { k with roles := 0, raster := false, nsGroups := 0, auth := false }

/-- Every controller's identity is read again from the plait in force. -/
def Dev.refreshRoles (d : Dev) : Dev :=
  let pol := match d.plait with
    | some p => p.policy
    | none => []
  { d with ctrls := d.ctrls.map (fun k => if k.kind = 3 then k else k.withPolicy pol) }

/-- Roles that the SPDM sessions of a transport and owner give (R627). -/
def Dev.sessionRoles (d : Dev) (transport owner : Nat) : Nat :=
  (d.sec.sessions.filter (fun s => s.transport == transport && s.owner == owner)).foldl (fun m s => m ||| s.roles) 0

/-- Session roles of every controller brought up to date: its own sessions, the DOE sessions of its link for a PF, the
sessions of its binding for a management endpoint. -/
def Dev.refreshSessions (d : Dev) : Dev :=
  let gain := fun (k : Ctrl) => d.sessionRoles 0 k.id ||| (if k.kind = 0 then d.sessionRoles 1 k.link else 0) |||
    (if k.kind = 3 then d.sessionRoles (k.transport - 1) k.id else 0)
  let d := { d with ctrls := d.ctrls.map (fun (k : Ctrl) => ({ k with sessRoles := gain k } : Ctrl)) }
  d.set Reg.SEC_STS_SESSIONS d.sec.sessions.length

/-- The id under which commands forwarded over a seam port run (R645: port 20). -/
def seamCid : Nat := 65536

/-- Who a controller is, for the ledger, acting under a role (R645: 1 Custodian to 4 Auditor). -/
def Dev.whoOf (d : Dev) (cid role : Nat) : Who :=
  match d.ctrl cid with
  | some k =>
    let mine := fun (x : Session) => (x.transport == 0 && x.owner == cid) ||
      (x.transport == 1 && k.kind == 0 && x.owner == k.link) ||
      (k.kind == 3 && x.transport == k.transport - 1 && x.owner == cid)
    let origin := if k.kind = 2 then k.nqn
      else match d.sec.sessions.find? mine with
        | some x => x.digest
        | none => []
    { role := role + 1, port := k.port, cid := if k.kind = 3 then 0 else cid, origin := origin }
  | none => if cid = seamCid then { role := role + 1, port := 20 } else {}

/-- Tenant of a controller (R429): fabric controllers that share a host NQN, or one PCIe function, by the first such id. -/
def Dev.tenant (d : Dev) (cid : Nat) : Nat :=
  match d.ctrl cid with
  | some k => if k.kind = 2 then
      (match d.ctrls.find? (fun x => x.kind == 2 && x.nqn == k.nqn) with
       | some x => x.id
       | none => cid) else cid
  | none => cid

/-- Engine input is counted against the tenant of a controller (R431, R459). -/
def Dev.engCount (cid bytes : Nat) (d : Dev) : Dev :=
  let t := d.tenant cid
  if bytes = 0 then d
  else { d with host := { d.host with engUsed := d.host.engUsed.ins t (FMap.get (fun _ => 0) d.host.engUsed t + bytes) } }

/-- Data moved over a host port is counted against a controller (R429). -/
def Dev.moveCount (cid bytes : Nat) (d : Dev) : Dev :=
  { d with host := { d.host with moved := d.host.moved.ins cid (FMap.get (fun _ => 0) d.host.moved cid + bytes) } }

/-- Whether a holder with a share has had less of this epoch, for its share, than another has for its own; one without a share gets what
the others leave (R431). DESIGN CHOICE, log 82. -/
def shareFirst (share used share' used' : Nat) : Bool := share != 0 && (share' == 0 || decide (used * share' < used' * share))

/-- A field of a register chosen through a selector. -/
def Fld.sel (f : Fld) (s : Nat) : Fld := { f with off := f.off + selSpan * (s + 1) }

/-! ### Commands and range locks (R416 to R420) -/

/-- Admin commands. -/
def Cmd.isAdmin : Cmd → Bool
  | .flush => false
  | .write => false
  | .read => false
  | .compare => false
  | .verify => false
  | .zoneSend => false
  | .zoneReceive => false
  | .zoneAppend => false
  | .migrate => false
  | .readAsOf => false
  | .compressJob => false
  | .decompressJob => false
  | .otherIo => false
  | _ => true

/-- The role a command needs (R631): none for those marked "any". -/
def Cmd.role : Cmd → Option Nat
  | .flush => some rARCHIVIST
  | .write => some rARCHIVIST
  | .read => some rARCHIVIST
  | .compare => some rARCHIVIST
  | .verify => some rARCHIVIST
  | .zoneSend => some rARCHIVIST
  | .zoneReceive => some rARCHIVIST
  | .zoneAppend => some rARCHIVIST
  | .migrate => some rARCHIVIST
  | .readAsOf => some rARCHIVIST
  | .compressJob => some rARCHIVIST
  | .decompressJob => some rARCHIVIST
  | .mount => some rOPERATOR
  | .unmount => some rOPERATOR
  | .survey => some rOPERATOR
  | .plaitLoad => some rCUSTODIAN
  | .fwDownload => some rCUSTODIAN
  | .fwCommit => some rCUSTODIAN
  | .sanitize => some rCUSTODIAN
  | .ledgerRead => some rAUDITOR
  | _ => none

/-- Commands the minimal structure accepts (R39). -/
def Cmd.minimal : Cmd → Bool
  | .identify => true
  | .getLogPage => true
  | .securitySend => true
  | .securityReceive => true
  | .fwDownload => true
  | .fwCommit => true
  | .plaitLoad => true
  | _ => false

/-- Admin commands a management endpoint tunnels (R393). -/
def Cmd.tunnelled : Cmd → Bool
  | .identify => true
  | .getLogPage => true
  | .getFeatures => true
  | .setFeatures => true
  | .securitySend => true
  | .securityReceive => true
  | .fwDownload => true
  | .fwCommit => true
  | .plaitLoad => true
  | .ledgerRead => true
  | _ => false

/-- Whether a tenant's share of the compression engines comes before another's in this epoch (R431). -/
def Dev.cmpFirst (d : Dev) (t t' : Nat) : Bool :=
  let used := fun (t : Nat) => FMap.get (fun _ => 0) d.host.engUsed t
  shareFirst (d.get (Reg.HQ_TEN_SHARE_CMP_SHARE.sel t)) (used t) (d.get (Reg.HQ_TEN_SHARE_CMP_SHARE.sel t')) (used t')

/-- Whether a controller's share of the host ports comes before another's in this epoch (R431). -/
def Dev.bwFirst (d : Dev) (i i' : Nat) : Bool :=
  let used := fun (i : Nat) => FMap.get (fun _ => 0) d.host.moved i
  shareFirst (d.get (Reg.HQ_CTL_BUDGET_BW_SHARE.sel i)) (used i) (d.get (Reg.HQ_CTL_BUDGET_BW_SHARE.sel i')) (used i')

/-- Commands that take a WRITE_ID (R418). -/
def Cmd.isWrite : Cmd → Bool
  | .write => true
  | .zoneAppend => true
  | .migrate => true
  | _ => false

/-- Blocks of a zone (R405). -/
def zoneSize (b : BindRec) (s : StripeRec) : Nat := (if b.lbs64 then 1024 else 16384) * s.members.length

/-- The locks a command takes: write, namespace, first block, blocks. -/
def Dev.locksOf (d : Dev) (x : HostCmd) : List (Bool × Nat × Nat × Nat) :=
  match x.op with
  | .read => [(false, x.nsid, x.slba, x.nlb)]
  | .compare => [(false, x.nsid, x.slba, x.nlb)]
  | .verify => [(false, x.nsid, x.slba, x.nlb)]
  | .write => [(true, x.nsid, x.slba, x.nlb)]
  | .zoneAppend =>
    match d.bound x.nsid with
    | some (b, s) => [(true, x.nsid, x.slba / max 1 (zoneSize b s) * zoneSize b s, zoneSize b s)]
    | none => [(true, x.nsid, x.slba, x.nlb)]
  | .migrate => x.srcs.map (fun r => (false, r.1, r.2.1, r.2.2)) ++ [(true, x.nsid, x.slba, (x.srcs.map (fun r => r.2.2)).sum)]
  | _ => []

/-- Whether two ranges of logical blocks overlap. -/
def overlaps (a b : Bool × Nat × Nat × Nat) : Bool :=
  a.2.1 == b.2.1 && decide (a.2.2.1 < b.2.2.1 + b.2.2.2) && decide (b.2.2.1 < a.2.2.1 + a.2.2.2)

/-- Whether an earlier command's lock makes a later one wait (R419). -/
def blocksLater (staged out : Bool) (e l : Bool × Nat × Nat × Nat) : Bool :=
  overlaps e l && ((e.1 && !staged) || (!e.1 && l.1 && !out))

/-- The procedure may_start (R419). -/
def Dev.mayStart (d : Dev) (x : Ctx) : Bool :=
  d.host.ctxs.all (fun e => !decide (e.stamp < x.stamp) ||
    (d.locksOf e.cmd).all (fun le => (d.locksOf x.cmd).all (fun lx => !blocksLater e.staged e.out le lx)))

/-- A Read As-Of waits for earlier Migrates with HIST = 1 whose target overlaps it (R439). -/
def Dev.histWait (d : Dev) (x : Ctx) : Bool :=
  x.cmd.op == .readAsOf && d.host.ctxs.any (fun e => decide (e.stamp < x.stamp) && e.cmd.op == .migrate && e.cmd.hist &&
    overlaps (true, e.cmd.nsid, e.cmd.slba, (e.cmd.srcs.map (fun r => r.2.2)).sum) (false, x.cmd.nsid, x.cmd.slba, x.cmd.nlb))

/-- Range-lock entries in use (R447): those of incomplete commands not yet released. -/
def Dev.locksUsed (d : Dev) : Nat :=
  ((d.host.ctxs.filter (fun x => !x.staged && !x.out)).map (fun x => (d.locksOf x.cmd).length)).sum

/-- Fetched, incomplete commands of a controller (R429). -/
def Dev.inflight (d : Dev) (cid : Nat) : Nat := (d.host.ctxs.filter (fun x => x.cid == cid && !x.posted)).length

/-! ### Contexts -/

/-- A context by its stamp. -/
def Dev.ctx (d : Dev) (stamp : Nat) : Option Ctx := d.host.ctxs.find? (fun x => x.stamp == stamp)

/-- Change a context. -/
def Dev.onCtx (d : Dev) (stamp : Nat) (f : Ctx → Ctx) : Dev :=
  { d with host := { d.host with ctxs := mapIf (fun x => x.stamp == stamp) f d.host.ctxs } }

/-- A command in progress: its context, when it is of a kind and not HELD. -/
def Dev.running (d : Dev) (stamp : Nat) (op : Cmd) : Option Ctx :=
  match d.ctx stamp with
  | some x => if x.cmd.op = op ∧ (x.phase = .transfer ∨ (x.phase = .media ∧ (x.why = 6 ∨ x.why = 7 ∨ x.why = 8))) then some x else none
  | none => none

/-- An admin or I/O command runs: nothing happens where no such command is in progress. -/
def Dev.run (stamp : Nat) (op : Cmd) (f : Ctx → Dev → Dev) (d : Dev) : Dev :=
  match d.running stamp op with
  | some x => f x d
  | none => d

/-- A command ends with a status. -/
def Dev.ends (stamp : Nat) (st : Sts) (d : Dev) : Dev := d.complete stamp st 0 0 []

/-- A compression job leaves the queue, or the engine it runs on (R459, R478). -/
def Dev.jobGone (stamp : Nat) (d : Dev) : Dev :=
  let mine := d.jobs.filter (fun j => j.stamp == stamp)
  let d := { d with jobs := d.jobs.filter (fun j => j.stamp != stamp) }
  mine.foldl (fun d j => match j.eng with
    | some e => if d.get (Reg.CMP_ENG_STS_STATE e) = 1 then d.set (Reg.CMP_ENG_STS_STATE e) 0 else d
    | none => d) d

/-! ### Events (R673) -/

/-- A standard event for a controller: SMART temperature and reliability, namespace attributes changed. -/
def evTemp : Nat × Nat × Nat := (1, 1, 2)
def evReliable : Nat × Nat × Nat := (1, 0, 2)
def evNs : Nat × Nat × Nat := (2, 0, 4)

/-- A standard event is raised on the controllers a test picks, at most one of a kind outstanding on each. -/
def Dev.raise (p : Ctrl → Bool) (e : Nat × Nat × Nat) (d : Dev) : Dev :=
  let free := fun (k : Ctrl) => p k && !k.events.any (fun x => x.1 == e.1 && x.2.1 == e.2.1)
  let add := fun (k : Ctrl) => { k with events := k.events ++ [(e.1, e.2.1, e.2.2, false)] }
  Dev.deliver { d with ctrls := mapIf free add d.ctrls }

/-! ### Namespaces (R405, R406, R434) -/

/-- A namespace at run time. -/
def Dev.ns (d : Dev) (nsid : Nat) : Ns := FMap.get (fun _ => {}) d.host.nss nsid

/-- Change a namespace. -/
def Dev.onNs (d : Dev) (nsid : Nat) (f : Ns → Ns) : Dev :=
  { d with host := { d.host with nss := d.host.nss.ins nsid (f (d.ns nsid)) } }

/-- Whether a controller sees a namespace: the POLICY record shows it (R629), and this device exports it (R30). -/
def Dev.sees (d : Dev) (k : Ctrl) (nsid : Nat) : Bool :=
  match d.plait with
  | some p => (p.binding nsid).any p.exports && bit k.nsGroups (p.nsPolicy nsid).1
  | none => false

/-- Whether this device exports a namespace (R30). -/
def Dev.exports (d : Dev) (nsid : Nat) : Bool := d.plait.any (fun p => (p.binding nsid).any p.exports)

/-- Whether every member disc of a stripe is mounted for a namespace: those on this device, and at the sheaf's root those that
other members have mounted (R29, R406). DEDUCED, log 103. -/
def Dev.allMounted (d : Dev) (s : StripeRec) (nsid : Nat) : Bool :=
  (d.localMembers s).all (fun m => (d.deck m.2).mounted == some nsid) &&
    (!d.exports nsid || s.members.all (fun h => hDev h == d.devNum || d.host.away.any (fun a => a.handle == h && a.nsid == nsid)))

/-- Whether the sheaf a namespace is bound to is down, or a member of its stripe lies on a device that cannot be reached (R42,
R45, R406). DEDUCED, log 56. -/
def Dev.cutOff (d : Dev) (b : BindRec) (s : StripeRec) : Bool :=
  (isSheaf b.unit && d.misc.sheafDown) || s.members.any (fun h => hDev h != d.devNum && d.misc.unreachable.contains (hDev h))

/-- Whether an encrypted namespace lacks its keys (R639). -/
def Dev.keyless (d : Dev) (b : BindRec) : Bool :=
  b.enc && (match d.plait with
    | some p =>
      let kid := (p.nsPolicy b.nsid).2
      !(d.sec.keks.any (fun e => e.1 == kid)) || !(d.sec.dataKeys.any (fun e => e.1 == kid)) || d.get Reg.SEC_STS_STATE == 3
    | none => true)

/-- What keeps a namespace from serving commands, if anything (R406). -/
def Dev.nsStop (d : Dev) (nsid : Nat) : Option Sts :=
  match d.bound nsid with
  | none => some .invalidNamespace
  | some (b, s) =>
    if d.cutOff b s then some .notReady
    else if d.allMounted s nsid = false then some .discNotMounted
    else if d.keyless b || !(d.ns nsid).ready then some .notReady
    else none

/-- Whether a namespace has a CG1 member disc (R1). DEDUCED, log 90. -/
def Dev.nsCg1 (d : Dev) (nsid : Nat) : Bool :=
  match d.bound nsid with
  | some (_, s) => (d.localMembers s).any (fun m => (d.deck m.2).disc.any (fun x => x.gen == 1)) ||
      d.host.away.any (fun a => a.nsid == nsid && s.members.contains a.handle && a.gen == 1)
  | none => false

/-- What keeps a namespace from serving a command of a kind: a write to a CG1 disc is refused before anything else (R1). -/
def Dev.opStop (d : Dev) (op : Cmd) (nsid : Nat) : Option Sts :=
  if Cmd.isWrite op && d.nsCg1 nsid then some .writeProtected else d.nsStop nsid

/-- Whether a deck cannot do media work for commands: in FAULT, absent, or released to software (R406). -/
def Dev.deckDown (d : Dev) (n : Nat) : Bool :=
  d.dstate n == dFAULT || d.dstate n == dABSENT || d.getB (Reg.SEQ_CTL_REL_SPN n) || d.getB (Reg.SEQ_CTL_REL_SLD n)

end Sys2Proof.Machine
end

