-- ==== Sys2Proof/Machine/PlaitImage.lean ====
section
/-! DEFINITION. Machine/PlaitImage.lean: a plait as bytes (spec file 02, R31 to R36; file 19, R629 to R633): header, records,
signature block, and its verification in the order of the reject reasons. -/

namespace Sys2Proof.Machine

/-! ### Reading bytes -/

/-- A little-endian field of a byte list. -/
def leAt (l : List Byte) (off k : Nat) : Nat := ofLe (slice l off k)

/-- A record of the body: TYPE, CRITICAL, its bytes. -/
structure RawRec where
  type : Nat
  critical : Bool
  bytes : List Byte
  deriving DecidableEq, Repr

/-- Length in words of a record (R34). -/
def RawRec.words (r : RawRec) : Nat := r.bytes.length / 4

/-- A 32-bit word of a record. -/
def RawRec.w (r : RawRec) (off : Nat) : Nat := leAt r.bytes off 4

/-- The records of a body (R34); none where one overruns it or has no length. -/
def rawRecs : Nat → List Byte → Option (List RawRec)
  | _, [] => some []
  | 0, _ => none
  | fuel + 1, l =>
    let h := leAt l 0 4
    let n := bits h 16 16
    if l.length < 4 ∨ n = 0 ∨ l.length < 4 * n then none
    else (rawRecs fuel (l.drop (4 * n))).map (fun t => { type := bits h 0 8, critical := bit h 8, bytes := l.take (4 * n) } :: t)

/-- Least length of a record, in words (R35). -/
def RawRec.least (r : RawRec) : Nat :=
  match r.type with
  | 1 => 4
  | 2 => 7
  | 3 => 2 + bits (r.w 4) 16 8
  | 4 => 9
  | 5 => 3
  | 6 => 4
  | 7 => 2
  | 8 => 20
  | 9 => 3 + bits (r.w 8) 0 16
  | 10 => 7
  | _ => 1

/-- Whether a record's type is known (R35). -/
def RawRec.known (r : RawRec) : Bool := decide (1 ≤ r.type ∧ r.type ≤ 10)

/-! ### Records (R35, R629) -/

def RawRec.unit (r : RawRec) : UnitRec :=
  { index := bits (r.w 4) 0 14, kind := bits (r.w 4) 16 3, parent := r.w 8, tag := bits (r.w 12) 0 16 }

def RawRec.res (r : RawRec) : ResRec :=
  { tiller := bits (r.w 4) 0 14, decks := bits (r.w 8) 0 16, dms := r.w 12, pms := bits (r.w 16) 0 4,
    dramBase := bits (r.w 20) 0 16, dramSize := bits (r.w 20) 16 16, cls := bits (r.w 24) 0 3 }

def RawRec.stripe (r : RawRec) : StripeRec :=
  { layout := bits (r.w 4) 0 16, unitBlocks := bits (r.w 4) 24 8,
    members := (List.range (bits (r.w 4) 16 8)).map (fun i => r.w (8 + 4 * i)) }

/-- A BINDING record. Reserved values of NS_KIND and COMP have no reject code: NS_KIND 2 and 3 count as mapped, COMP 2 and 3
as compressed. DESIGN CHOICE, log 97. -/
def RawRec.bind (r : RawRec) : BindRec :=
  { nsid := r.w 4, unit := r.w 8, layout := bits (r.w 12) 0 16, zoned := bits (r.w 12) 16 2 == 1, lbs64 := bit (r.w 12) 18,
    comp := bits (r.w 12) 19 2, enc := bit (r.w 12) 21, raster := bit (r.w 12) 22, label := slice r.bytes 16 16,
    quota := r.w 32 }

def RawRec.place (r : RawRec) : PlaceRec :=
  { sheaf := r.w 4, digest := slice r.bytes 8 48,
    ports := (List.range 6).map (fun p => (bits (r.w (56 + 4 * p)) 0 18, bits (r.w (56 + 4 * p)) 18 3, bit (r.w (56 + 4 * p)) 21)) }

def RawRec.sheaf (r : RawRec) : SheafRec :=
  { handle := r.w 4, members := (List.range (bits (r.w 8) 0 16)).map (fun i => r.w (12 + 4 * i)), raw := r.bytes }

def RawRec.peer (r : RawRec) : PeerRec :=
  { dev := bits (r.w 4) 0 18, port := bits (r.w 4) 18 2, addr := slice r.bytes 8 16, tcp := bits (r.w 24) 0 16 }

/-- Length of a policy entry, by its KIND (R629). -/
def polWords : Nat → Option Nat
  | 1 => some 3
  | 2 => some 15
  | 3 => some 15
  | 4 => some 4
  | 5 => some 2
  | _ => none

/-- One policy entry from its bytes. -/
def polRec (l : List Byte) : PolRec :=
  let a := leAt l 4 4
  match leAt l 0 1 with
  | 1 => { kind := 1, link := bits a 0 1, fn := bits a 1 8, roles := bits a 16 4, raster := bit a 20, groups := leAt l 8 4 }
  | 2 => { kind := 2, roles := bits a 16 4, raster := bit a 20, auth := bit a 21, groups := leAt l 8 4, digest := slice l 12 48 }
  | 3 => { kind := 3, roles := bits a 16 4, digest := slice l 12 48 }
  | 4 => { kind := 4, nsid := a, group := bits (leAt l 8 4) 0 5, kid := leAt l 12 4 }
  | k => { kind := k, tls := bits a 0 16 }

/-- The entries of a POLICY record; none where a KIND is unknown or a length is not that of its KIND. DEDUCED, log 54. -/
def polRecs : Nat → List Byte → Option (List PolRec)
  | _, [] => some []
  | 0, _ => none
  | fuel + 1, l =>
    match polWords (leAt l 0 1) with
    | none => none
    | some n => if leAt l 1 1 ≠ n ∨ l.length < 4 * n then none
      else (polRecs fuel (l.drop (4 * n))).map (fun t => polRec (l.take (4 * n)) :: t)

/-- First record of a type. -/
def recOf (rs : List RawRec) (t : Nat) : Option RawRec := rs.find? (fun r => r.type == t)

/-- Records of a type. -/
def recsOf (rs : List RawRec) (t : Nat) : List RawRec := rs.filter (fun r => r.type == t)

/-! ### Header and signature block (R32, R33) -/

/-- Bytes of a plait's signature block. -/
def sigBytes : Nat := 4728

/-- Body, signed part, signature block (R32). -/
def imgBody (l : List Byte) : List Byte := slice l 64 (leAt l 8 4)
def imgSigned (l : List Byte) : List Byte := slice l 0 (64 + leAt l 8 4)
def imgSig (l : List Byte) : List Byte := slice l (64 + leAt l 8 4) sigBytes

/-- The plait an image spells. Of records that can stand once (CLOCK, POWER, POLICY, PLACE) the first counts, and of STRIPE
records with one LAYOUT_ID likewise: the spec gives no rule for a second one. DESIGN CHOICE, log 97. -/
def plaitOf (l : List Byte) (rs : List RawRec) (pol : List PolRec) : Plait :=
  let clock := match recOf rs 5 with
    | some r => (r.w 4, r.w 8)
    | none => (0, 0)
  let power := match recOf rs 6 with
    | some r => (r.w 4, r.w 8, r.w 12)
    | none => (0, 0, 0)
  let roles := match recOf rs 7 with
    | some r => r.w 4
    | none => 0
  { subtree := bit (leAt l 0x1B 1) 0, root := leAt l 0x1C 4, sheafMember := bit (leAt l 0x1B 1) 1,
    secVersion := leAt l 0x10 4, deviceNum := bits (leAt l 0x14 4) 0 18, buildId := leAt l 0x20 8, digest := sha (imgSigned l),
    units := (recsOf rs 1).map RawRec.unit, resources := (recsOf rs 2).map RawRec.res,
    stripes := (recsOf rs 3).map RawRec.stripe, bindings := (recsOf rs 4).map RawRec.bind,
    refSrc := bits clock.1 0 2, ptpPort := bits clock.1 2 4, oppDefault := clock.2,
    domainEn := power.1, spinupW := bits power.2.1 0 16, psMax := bits power.2.1 16 3, idleS := bits power.2.2 0 16,
    apst := bit power.2.2 16, bar2Roles := bits roles 0 4, mctpRoles := bits roles 4 4, policy := pol,
    place := (recOf rs 8).map RawRec.place, sheaves := (recsOf rs 9).map RawRec.sheaf, peers := (recsOf rs 10).map RawRec.peer }

/-! ### Verification (R36) -/

/-- The key a signature names (R632): algorithm 0 ECDSA or 1 ML-DSA; a plait uses the enabled owner slots of the algorithm,
slots 0 and 1 while there is none, a firmware image slots 0 and 1. -/
def imgKey (d : Dev) (fw : Bool) (alg slot : Nat) : Option (List Byte) :=
  let owner := d.sec.slots.filter (fun s => s.1 == alg && s.2.2.isSome)
  if fw || owner.isEmpty then (if slot ≤ 1 then some (Config.romKey alg slot) else none)
  else match owner.find? (fun s => s.2.1 == slot) with
    | some s => s.2.2
    | none => none

/-- Codes 0x01 to 0x05, shared by plaits and firmware images (R36, R633, R657). Header bits that R32 calls zero, SHEAF_MEMBER
beside a missing PLACE record and a SUBTREE_ROOT beside SUBTREE = 0 have no reject code and are not checked.
DESIGN CHOICE, log 97. -/
def verifyImage (d : Dev) (fw : Bool) (l : List Byte) : Option Nat :=
  let body := leAt l 8 4
  let fmtOk := decide (64 ≤ l.length) && (leAt l 0 4 == if fw then 0x5746504A else 0x544C504A) && leAt l 4 2 == 1 &&
    leAt l 6 2 == 0x40 && decide (body % 4 = 0) && decide (l.length = 64 + body + sigBytes) &&
    decide (l.length ≤ if fw then 7 * 2 ^ 20 else 4 * 2 ^ 20) && leAt l 0x28 4 == crc32 (imgBody l) &&
    (!fw || (leAt l 0xC 4 == 0 && leAt l 0x14 4 == 0 && leAt l 0x1B 1 == 0 && leAt l 0x1C 4 == 0))
  let sig := imgSig l
  let ec := match imgKey d fw 0 (leAt sig 0 1) with
    | some k => Config.ecdsaOk k (imgSigned l) (slice sig 4 96)
    | none => false
  let ctx : List Byte := if fw then [0x4A, 0x4F, 0x52, 0x52, 0x55, 0x4E, 0x2D, 0x46, 0x57]
    else [0x4A, 0x4F, 0x52, 0x52, 0x55, 0x4E, 0x2D, 0x50, 0x4C, 0x41, 0x49, 0x54]
  let pq := match imgKey d fw 1 (leAt sig 1 1) with
    | some k => Config.mldsaOk k ctx (imgSigned l) (slice sig 100 4627)
    | none => false
  if !fmtOk then some 1
  else if leAt l 0x18 2 ≠ 0x9640 ∨ leAt l 0x1A 1 ≠ 0xC2 then some 2
  else if d.get Reg.SEC_STS_STATE = 3 ∨ ec = false then some 3
  else if pq = false then some 4
  else if leAt l 0x10 4 < (if fw then d.sec.svnFw else d.sec.svnPlait) then some 5
  else none

/-- No element occurs twice. -/
def noTwice (l : List Nat) : Bool := decide l.Nodup

/-- A plait with one subtree replaced (R35, R42): what lies outside the subtree stays in force. DEDUCED, log 53. -/
def mergeSubtree (q p : Plait) : Plait :=
  let inQ := fun (h : Nat) => q.within p.root q.depth h
  let units := q.units.filter (fun u => !inQ (mkHandle q.deviceNum u.index))
  let binds := q.bindings.filter (fun b => !inQ b.unit)
  let kept := q.stripes.filter (fun s => binds.any (fun b => b.layout == s.layout))
  let mine := fun (nsid : Nat) => p.bindings.any (fun b => b.nsid == nsid)
  let lost := q.bindings.filter (fun b => inQ b.unit)
  { q with
    buildId := p.buildId, digest := p.digest, secVersion := p.secVersion, units := units ++ p.units,
    resources := q.resources.filter (fun r => !inQ (mkHandle q.deviceNum r.tiller)) ++ p.resources,
    stripes := kept ++ p.stripes.filter (fun s => !kept.any (fun k => k.layout == s.layout)),
    bindings := binds ++ p.bindings,
    policy := q.policy.filter (fun e => e.kind != 4 || !(lost.any (fun b => b.nsid == e.nsid))) ++
      p.policy.filter (fun e => e.kind == 4 && mine e.nsid),
    sheaves := q.sheaves.filter (fun s => !inQ s.handle) ++ p.sheaves }

/-- The tree an image belongs to: its own, or for an image of a subtree the plait in force with that subtree replaced. -/
def Plait.tree (p : Plait) (now : Option Plait) : Plait :=
  match now with
  | some q => if p.subtree then mergeSubtree q p else p
  | none => p

/-- Indices in range and declared once; sheaf handles of PLACE and SHEAF records name sheaves, the root of a subtree image a
unit, and no sheaf has two records (code 0x07, R27). DEDUCED, log 103. -/
def badIndex (p : Plait) : Bool :=
  p.units.any (fun u => !((u.kind == 3 && decide (4096 ≤ u.index ∧ u.index ≤ 12287)) ||
    (u.kind == 4 && decide (12288 ≤ u.index ∧ u.index ≤ 16382)))) || !noTwice (p.units.map (fun u => u.index)) ||
    p.sheaves.any (fun s => !isSheaf s.handle) || !noTwice (p.sheaves.map (fun s => s.handle)) ||
    p.place.any (fun x => !isSheaf x.sheaf) || (p.subtree && !isUnit p.root)

/-- A parent of a tiller is its DEVICE unit or a sheaf that lists it; of a sheaf, none or a sheaf that lists it (R28). -/
def goodParent (t : Plait) (u : UnitRec) : Bool :=
  let listed := isSheaf u.parent && t.sheaves.any (fun s => s.handle == u.parent && s.members.contains (mkHandle t.deviceNum u.index)) &&
    (hDev u.parent != t.deviceNum || (t.unitRec u.parent).any (fun q => q.kind == 4))
  listed || (u.kind == 3 && u.parent == mkHandle t.deviceNum 0) || (u.kind == 4 && u.parent == nullHandle)

/-- Whether the chain of parents of a unit, over UNIT and SHEAF records, ends (R28). -/
def endsUp (t : Plait) : Nat → Nat → Bool
  | 0, _ => false
  | fuel + 1, h => match t.parentOf h with
    | none => true
    | some q => endsUp t fuel q

/-- Whether a sheaf's member may stand there: a tiller or sheaf, declared where it is this device's, with that sheaf as its
parent (R28). -/
def goodMember (t : Plait) (s : SheafRec) (m : Nat) : Bool :=
  isUnit m && decide (4096 ≤ hIndex m) && m != s.handle &&
    (match t.unitRec m with
     | some u => u.parent == s.handle
     | none => hDev m != t.deviceNum)

/-- Sheaves without a parent: the root of the whole tree is at most one (R28). -/
def treeRoots (t : Plait) : List Nat :=
  ((t.units.filter (fun u => u.kind == 4)).map (fun u => mkHandle t.deviceNum u.index) ++
    (t.sheaves.filter (fun s => hDev s.handle != t.deviceNum)).map (fun s => s.handle)).filter (fun h => match t.parentOf h with
      | none => true
      | some q => q == nullHandle)

/-- The tree rules of R28 (code 0x08). -/
def badTree (t : Plait) : Bool :=
  let top := t.depth + 1
  t.units.any (fun u => !goodParent t u || !endsUp t top (mkHandle t.deviceNum u.index)) ||
    t.sheaves.any (fun s => s.members.any (fun m => !goodMember t s m) || !endsUp t top s.handle ||
      (hDev s.handle == t.deviceNum && (t.unitRec s.handle).isNone)) ||
    !noTwice (t.sheaves.flatMap (fun s => s.members)) || decide (1 < (treeRoots t).length)

/-- A bit set in two masks of a list. -/
def sharedBit (l : List Nat) (w : Nat) : Bool := (List.range w).any (fun i => decide (1 < (l.filter (fun m => bit m i)).length))

/-- Code 0x09. -/
def badResource (p : Plait) : Bool :=
  sharedBit (p.resources.map (fun r => r.decks)) 16 || sharedBit (p.resources.map (fun r => r.dms)) 32 ||
    sharedBit (p.resources.map (fun r => r.pms)) 4 ||
    p.resources.any (fun r => !(p.units.any (fun u => u.index == r.tiller && u.kind == 3)))

/-- Code 0x0A: regions in 64 MiB units, below the controller memory buffer of the installed DRAM, in GiB (R385). -/
def badMemory (p : Plait) (gib : Nat) : Bool :=
  let top := (gib - 1) * 16
  p.resources.any (fun r => r.dramSize == 0 || decide (top < r.dramBase + r.dramSize)) ||
    (List.range p.resources.length).any (fun i => (List.range i).any (fun j =>
      match p.resources[i]?, p.resources[j]? with
      | some a, some b => decide (a.dramBase < b.dramBase + b.dramSize ∧ b.dramBase < a.dramBase + a.dramSize)
      | _, _ => false))

/-- Whether a DECK lies in a unit's subtree: a deck of this device among its resources, a deck of another device that has a
member in the sheaf (R36). DEDUCED, log 103. -/
def deckWithin (t : Plait) (unit h : Nat) : Bool :=
  if hDev h = t.deviceNum then (deckOfIdx (hIndex h)).any (fun n => t.deckIn unit n)
  else t.sheaves.any (fun s => t.within unit t.depth s.handle && s.members.any (fun m => hDev m == hDev h))

/-- Code 0x0B: `t` is the tree the image belongs to. -/
def badStripe (p t : Plait) : Bool :=
  p.stripes.any (fun s => !(decide (1 ≤ s.members.length ∧ s.members.length ≤ 128)) ||
      !([1, 2, 4, 8, 16] : List Nat).contains s.unitBlocks || !noTwice s.members ||
      s.members.any (fun h => (deckOfIdx (hIndex h)).isNone || !isUnit h)) ||
    p.bindings.any (fun b => match p.stripe b.layout with
      | some s => s.members.any (fun h => !deckWithin t b.unit h)
      | none => false)

/-- Code 0x0C. -/
def badBinding (p t : Plait) : Bool :=
  p.bindings.any (fun b => b.nsid == 0 || (p.stripe b.layout).isNone ||
    ((t.unitRec b.unit).isNone && !(t.sheaves.any (fun s => s.handle == b.unit)))) ||
    !noTwice (p.bindings.map (fun b => b.nsid))

/-- Code 0x0D: reserved values of CLOCK and POWER; SPINUP_W below the need of one deck (R372). -/
def badPlan (rs : List RawRec) (p : Plait) : Bool :=
  ((recOf rs 5).isSome && (p.refSrc == 3 || decide (2 ^ 14 ≤ p.oppDefault))) ||
    ((recOf rs 6).isSome && (decide (4 < p.psMax) || decide (p.spinupW < 40) || decide (2 ^ 17 ≤ p.domainEn)))

/-- Code 0x0E: the rules of R630. -/
def badPolicy (rs : List RawRec) (p : Plait) (pol? : Option (List PolRec)) : Bool :=
  match recOf rs 7, pol? with
  | none, _ => !p.subtree && p.bindings.any (fun b => b.enc)
  | some _, none => true
  | some _, some pol =>
    pol.any (fun e => bit e.roles rCust || (bit e.roles rAud && e.roles != 8)) ||
      !noTwice ((pol.filter (fun e => e.kind == 1)).map (fun e => e.link * 512 + e.fn)) ||
      !noTwice ((pol.filter (fun e => e.kind == 4)).map (fun e => e.nsid)) ||
      !decide ((pol.filter (fun e => e.kind == 2)).map (fun e => e.digest)).Nodup ||
      !decide ((pol.filter (fun e => e.kind == 3)).map (fun e => e.digest)).Nodup ||
      p.bindings.any (fun b =>
        let kid := match pol.find? (fun e => e.kind == 4 && e.nsid == b.nsid) with
          | some e => e.kid
          | none => 0
        (b.enc && kid == 0) || (!b.enc && kid != 0)) ||
      !(bit p.bar2Roles rCust || bit p.mctpRoles rCust) || decide (4096 < pol.length)
where
  rCust : Nat := 0
  rAud : Nat := 3

/-- Code 0x0F, for an image of a subtree of the plait in force: it names a unit outside the subtree, takes a resource owned
elsewhere, or changes DEVICE_NUM, PLACE or ETH_PEER. -/
def badScope (rs : List RawRec) (p : Plait) (now : Option Plait) : Bool :=
  if !p.subtree then false
  else match now with
    | none => true
    | some q =>
      let others := q.resources.filter (fun r => !q.tillerIn p.root r.tiller)
      let inside := fun (h : Nat) => h == p.root || p.within p.root p.depth h
      p.deviceNum != q.deviceNum || (recOf rs 8).isSome || (recOf rs 10).isSome ||
        p.units.any (fun u => !inside (mkHandle p.deviceNum u.index)) ||
        p.units.any (fun u => match q.unitRec (mkHandle q.deviceNum u.index) with
          | some _ => !q.within p.root q.depth (mkHandle q.deviceNum u.index)
          | none => false) ||
        p.sheaves.any (fun s => !inside s.handle) ||
        p.resources.any (fun r => others.any (fun o => (r.decks &&& o.decks) != 0 || (r.dms &&& o.dms) != 0 || (r.pms &&& o.pms) != 0 ||
          decide (r.dramBase < o.dramBase + o.dramSize ∧ o.dramBase < r.dramBase + r.dramSize))) ||
        p.bindings.any (fun b => !inside b.unit || q.bindings.any (fun x => x.nsid == b.nsid && !q.within p.root q.depth x.unit))

/-- A plait's verification, in the order of R36: the reject reason, or the plait. `gib` is the installed DRAM. -/
def verifyPlait (d : Dev) (gib : Nat) (l : List Byte) : Nat ⊕ Plait :=
  match verifyImage d false l with
  | some r => .inl r
  | none =>
    match rawRecs (leAt l 8 4 / 4) (imgBody l) with
    | none => .inl 6
    | some all =>
      if all.any (fun r => r.type == 0 || (!r.known && r.critical) || (r.known && decide (r.words < r.least))) ∨
          all.length ≠ leAt l 0xC 4 then .inl 6
      else
        let rs := all.filter RawRec.known
        let pol? := match recOf rs 7 with
          | some r => polRecs r.words (r.bytes.drop 8)
          | none => some []
        let p := plaitOf l rs (pol?.getD [])
        let t := p.tree d.plait
        if badIndex p then .inl 7
        else if badTree t then .inl 8
        else if badResource p then .inl 9
        else if badMemory p gib then .inl 0xA
        else if badStripe p t then .inl 0xB
        else if badBinding p t then .inl 0xC
        else if badPlan rs p then .inl 0xD
        else if badPolicy rs p pol? then .inl 0xE
        else if badScope rs p d.plait then .inl 0xF
        else .inr p

end Sys2Proof.Machine
end

