-- ==== Sys2Proof/Machine/Plait.lean ====
section
/-! DEFINITION. Machine/Plait.lean: loading a plait, run-time reload and the seam links (spec file 02, R29, R30, R37 to
R45). -/

namespace Sys2Proof.Machine

/-! ### Reloads (R41, R42) -/

/-- Installed DRAM in GiB (R385, R517): eight channels. -/
def Dev.dramGib (d : Dev) : Nat := 8 * d.get Reg.MEM_CFG_DPC * 2 ^ d.get Reg.MEM_CFG_DIMM_LOG2

/-- Whether a pending reload holds the commands of a namespace (R42). -/
def Dev.reloadHolds (d : Dev) (nsid : Nat) : Bool :=
  match d.reload with
  | none => false
  | some r => !r.image.subtree || r.image.bindings.any (fun b => b.nsid == nsid) ||
    (match d.plait with
     | some p => (p.nsIn r.image.root).contains nsid
     | none => true)

/-- Whether the resources a pending plait covers are idle (R41). DEDUCED, log 52. -/
def Dev.reloadIdle (d : Dev) (img : Plait) : Bool :=
  match d.plait with
  | none => true
  | some p =>
    let covers := fun (nsid : Nat) => !img.subtree || (p.nsIn img.root).contains nsid
    let decks := if img.subtree then p.decksIn img.root else List.range 16
    let engines := fun (e : Nat) => !img.subtree || img.root == mkHandle p.deviceNum 0 || (match p.engOwner e with
      | some r => p.tillerIn img.root r.tiller
      | none => false)
    decks.all (fun n => d.dstate n != dWRITING && d.dstate n != dCALIBRATING) &&
      !d.host.ctxs.any (fun x => x.phase == .media && !Cmd.isAdmin x.cmd.op && covers x.cmd.nsid) &&
      !d.jobs.any (fun j => match j.eng with
        | some e => engines e
        | none => false) &&
      !d.host.migs.any (fun m => match d.ctx m.stamp with
        | some x => covers x.cmd.nsid || x.cmd.srcs.any (fun s => covers s.1)
        | none => false)

/-- Contexts held for a reason go on, in stamp order: those that wait for an earlier lock stay HELD for it (R419). -/
def Dev.letGo (d : Dev) (why : Nat) : Dev :=
  let stamps := sortBy (fun a b => decide (a < b)) ((d.host.ctxs.filter (fun x => x.phase == .held && x.why == why)).map (fun x => x.stamp))
  stamps.foldl (fun d st => match d.ctx st with
    | some x => d.onCtx st (fun y => { y with phase := if d.mayStart x then .transfer else .held, why := 0 })
    | none => d) d

/-- Commands held by a reload are released; those whose namespace no longer exists end (R42). -/
def Dev.reloadRelease (d : Dev) : Dev :=
  let gone := (d.host.ctxs.filter (fun x => x.phase == .held && x.why == 3 && (d.bound x.cmd.nsid).isNone)).map (fun x => x.stamp)
  (gone.foldl (fun d st => d.ends st .invalidNamespace) d).letGo 3

/-- PLAIT_STS.STATE at rest: ACTIVE, or AWAIT_HOST under the minimal structure (R38, R46). -/
def Dev.plaitRest (d : Dev) : Dev := d.set Reg.MGMT_PLAIT_STS_STATE (if d.plait.isSome then 2 else 4)

/-- SHA-384 of the signed message in force, zero without one (R644). -/
def Dev.plaitDigest (d : Dev) : List Byte :=
  match d.plait with
  | some p => p.digest
  | none => zeros48

/-- A load is rejected: reason, REJ, fault record, ledger entry, completion (R36, R40, R668). -/
def plaitReject (c : Clock) (stamp : Nat) (who : Who) (reason : Nat) (raw : List Byte) (d : Dev) : Dev :=
  let build := leAt raw 0x20 8
  let d := d.sets [(Reg.MGMT_PLAIT_STS_REASON, reason), (Reg.MGMT_PLAIT_STS_REJ, 1)]
  let d := d.fault c .device { cls := 7, code := 2, sev := 2, detail := le 4 reason ++ le 8 build }
  let d := d.ledEvent c who 3 1 reason build d.plaitDigest (sha (imgSigned raw))
  d.plaitRest.complete stamp .plaitRejected reason 0 []

/-! ### Flash slots (R37) -/

/-- The selector copy in force: the good one with the higher sequence number; its place, slot and number. -/
def selNow (l : List (Nat × Nat × Bool)) : Option (Nat × Nat × Nat) :=
  let ok := ((List.range l.length).zip l).filter (fun (p : Nat × (Nat × Nat × Bool)) => p.2.2.2)
  ok.foldl (fun best p => match best with
    | some b => if b.2.2 < p.2.2.1 then some (p.1, p.2.1, p.2.2.1) else some b
    | none => some (p.1, p.2.1, p.2.2.1)) none

/-- The selector names a slot: the other copy is overwritten (R37). -/
def selTo (l : List (Nat × Nat × Bool)) (slot : Nat) : List (Nat × Nat × Bool) :=
  match selNow l with
  | some s => setAt l (1 - s.1) (slot, s.2.2 + 1, true)
  | none => setAt l 0 (slot, 1, true)

/-- A plait is stored in the slot the selector does not name, read back and verified, and then selected when asked (R40).
DEDUCED, log 51. -/
def plaitStore (raw : List Byte) (select : Bool) (d : Dev) : Dev :=
  let slot := match selNow d.flash.sel with
    | some s => 1 - s.2.1
    | none => 1
  let f := if slot = 0 then { d.flash with plaitA := raw } else { d.flash with plaitB := raw }
  let held := if slot = 0 then f.plaitA else f.plaitB
  { d with flash := if select && held == raw && (verifyImage d false held).isNone then { f with sel := selTo f.sel slot } else f }

/-! ### Applying a plait -/

/-- Quotas of the bindings applied are loaded (R430). -/
def loadQuotas (l : List BindRec) (d : Dev) : Dev :=
  l.foldl (fun d b => d.setBoth (Reg.HQ_NS_QUOTA_CAP_QUOTA.sel b.nsid) b.quota) d

/-- Engine owners as the plait gives them (R35, R485). -/
def engOwners (p : Plait) (d : Dev) : Dev :=
  (List.range 36).foldl (fun d e => d.set (Reg.CMP_ENG_STS_OWNER e) (match p.engOwner e with
    | some r => r.tiller
    | none => 0)) d

/-- Fields of the POWER record written at boot: the spin-up budget and every idle time (R371's chapter). -/
def powerFields (p : Plait) (d : Dev) : Dev :=
  (d.setBoth Reg.PWR_SPIN_BUDGET_SPINUP_W p.spinupW).eachDeck (fun n d => d.setBoth (Reg.SEQ_PWR_CFG_IDLE_S n) p.idleS)

/-- PORT word of a port in the PLACE record. -/
def Plait.port (p : Plait) (k : Nat) : Nat × Nat × Bool :=
  match p.place with
  | some x => x.ports.getD k (0, 0, false)
  | none => (0, 0, false)

/-- Devices of the sheaves this device's plait names, its own left out. -/
def Plait.sheafDevs (p : Plait) : List Nat :=
  (p.sheaves.flatMap (fun s => s.members)).foldl (fun l h =>
    if hDev h = p.deviceNum ∨ l.contains (hDev h) then l else l ++ [hDev h]) []

/-- SHEAF_DIGEST: the SHA-384 of the SHEAF records of this device's sheaf and of every sheaf nested in it, in ascending order of
handle (R35). It follows a reload that changes the records; what the PLACE record says of it is not compared. DEDUCED, log 103. -/
def Plait.sheafDigest (p : Plait) : List Byte :=
  match p.place with
  | some x =>
    let mine := p.sheaves.filter (fun s => p.within x.sheaf p.depth s.handle)
    sha ((sortBy (fun (a b : SheafRec) => decide (a.handle < b.handle)) mine).flatMap (fun s => s.raw))
  | none => []

/-- Namespaces changed their readiness: the Changed Namespace List and its notice (R434, R673). -/
def Dev.nsChanged (d : Dev) (l : List Nat) : Dev :=
  if l.isEmpty then d
  else
    let seen := fun (k : Ctrl) => l.any (fun n => d.sees k n)
    Dev.raise seen evNs { d with host := { d.host with changed := d.host.changed ++ l.filter (fun x => !d.host.changed.contains x) } }

/-- The sheaf is down until every member that can be reached carries the same digest; its namespaces report the change (R42,
R45). -/
def Dev.sheafCheck (d : Dev) : Dev :=
  match d.plait with
  | none => { d with misc := { d.misc with sheafDown := false } }
  | some p =>
    let ok := p.sheafDevs.all (fun v => d.misc.unreachable.contains v || d.misc.seamDigest.contains (v, p.sheafDigest))
    let e := { d with misc := { d.misc with sheafDown := !ok } }
    if d.misc.sheafDown = !ok then e
    else e.nsChanged ((p.bindings.filter (fun b => isSheaf b.unit)).map (fun b => b.nsid))

/-- A seam port begins bring-up at step 1 (R44). -/
def portTrain (k : Nat) (d : Dev) : Dev :=
  { d.sets [(Reg.SEAM_PORT_STS_STATE k, 1), (Reg.SEAM_PORT_STS_STEP k, 0), (Reg.SEAM_PORT_STS_LANES k, 0)] with
    misc := { d.misc with seamFail := d.misc.seamFail.filter (fun x => x != k), routes := d.misc.routes.filter (fun r => r.2.1 != k) } }

/-- A seam port goes down. -/
def portDown (k : Nat) (d : Dev) : Dev :=
  { d.sets [(Reg.SEAM_PORT_STS_STATE k, 0), (Reg.SEAM_PORT_STS_STEP k, 0), (Reg.SEAM_PORT_STS_LANES k, 0)] with
    misc := { d.misc with seamFail := d.misc.seamFail.filter (fun x => x != k), routes := d.misc.routes.filter (fun r => r.2.1 != k) } }

/-- Ports follow the PLACE record: those whose word or whose sheaf changed start again, those not enabled go down.
DEDUCED, log 53. -/
def seamPorts (old : Option Plait) (p : Plait) (d : Dev) : Dev :=
  let same := match old with
    | some q => decide (q.sheaves = p.sheaves) && q.sheafDigest == p.sheafDigest
    | none => false
  let d := (List.range 6).foldl (fun d k =>
    if (p.port k).2.2 then
      if same && (old.map (fun q => q.port k)) == some (p.port k) then d else portTrain k d
    else portDown k d) d
  let d := if same then d else { d with misc := { d.misc with seamDigest := [], unreachable := [], ethPeers := [] } }
  d.sheafCheck

/-- Namespaces that exist under the plait in force keep what they hold; a deck whose namespace no longer stripes over it is
no longer mounted; namespaces that came, went or changed are reported (R673). -/
def nsFollow (old : Option Plait) (p : Plait) (d : Dev) : Dev :=
  let was := match old with
    | some q => q.bindings
    | none => []
  let changed := ((was ++ p.bindings).filter (fun b => (was.find? (fun x => x.nsid == b.nsid)) != (p.bindings.find? (fun x => x.nsid == b.nsid)))).map (fun b => b.nsid)
  let d := { d with host := { d.host with nss := d.host.nss.filter (fun e => (p.binding e.1).isSome) } }
  let d := d.eachDeck (fun n d => d.onDeck n (fun k => match k.mounted with
    | some nsid => if (p.binding nsid).any (fun b => (p.stripe b.layout).any (fun s => s.members.contains (mkHandle p.deviceNum (1 + n))))
        then k else { k with mounted := none }
    | none => k))
  if changed.isEmpty then d
  else Dev.raise (fun _ => true) evNs { d with host := { d.host with
    changed := d.host.changed ++ changed.filter (fun x => !d.host.changed.contains x) } }

/-- A plait takes effect (R38, R42): source 1 slot A, 2 slot B, 3 host. -/
def applyPlait (source : Nat) (img : Plait) (d : Dev) : Dev :=
  let old := d.plait
  let p := match old with
    | some q => if img.subtree then mergeSubtree q img else img
    | none => img
  let d := { d with plait := some p }
  let d := d.sets [(Reg.MGMT_SELF_HANDLE_DEVICE_NUM, p.deviceNum), (Reg.MGMT_SELF_HANDLE_INDEX, 0),
    (Reg.MGMT_PLAIT_STS_SOURCE, source), (Reg.MGMT_PLAIT_STS_STATE, 2)]
  let d := engOwners p (loadQuotas img.bindings d)
  let d := if img.subtree then d else powerFields p d
  (nsFollow old p (seamPorts old p d)).refreshRoles.refreshSessions

/-! ### The stored plait (R38) -/

/-- The stored plait of a slot (R37): 0 A, 1 B. -/
def slotPlait (d : Dev) (slot : Nat) : List Byte := if slot = 0 then d.flash.plaitA else d.flash.plaitB

/-- The plait the boot runs from: source of PLAIT_STS, whether from the slot not selected, the plait (R38).
DEDUCED, log 55. -/
def bootPlait (d : Dev) (gib : Nat) : Option (Nat × Bool × Plait) :=
  match selNow d.flash.sel with
  | none => none
  | some s =>
    match verifyPlait d gib (slotPlait d s.2.1) with
    | .inr p => some (1 + s.2.1, false, p)
    | .inl _ => match verifyPlait d gib (slotPlait d (1 - s.2.1)) with
      | .inr p => some (2 - s.2.1, true, p)
      | .inl _ => none

/-- A stored plait that is rejected at boot shows its reason and makes a record (R36, R46). -/
def bootReject (c : Clock) (gib : Nat) (d : Dev) : Dev :=
  let one := fun (d : Dev) (slot : Nat) => match verifyPlait d gib (slotPlait d slot) with
    | .inl r =>
      let d := d.sets [(Reg.MGMT_PLAIT_STS_REASON, r), (Reg.MGMT_PLAIT_STS_REJ, 1)]
      d.fault c .device { cls := 7, code := 2, sev := 2, detail := le 4 r ++ le 8 (leAt (slotPlait d slot) 0x20 8) }
    | .inr _ => d
  match selNow d.flash.sel with
  | none => d
  | some s => match verifyPlait d gib (slotPlait d s.2.1) with
    | .inr _ => d
    | .inl _ => one (one d s.2.1) (1 - s.2.1)

/-! ### Plait Load (R40) -/

/-- The image of a finished load: its pieces in order; none where bytes are missing. -/
def loadImage (pieces : List (Nat × List Byte)) : Option (List Byte) :=
  (sortBy (fun (a b : Nat × List Byte) => decide (a.1 < b.1)) pieces).foldl (fun acc p => match acc with
    | some l => if l.length = p.1 then some (l ++ p.2) else none
    | none => none) (some [])

/-- Whether two pieces share a byte. -/
def pieceOverlaps (a b : Nat × List Byte) : Bool := decide (a.1 < b.1 + b.2.length) && decide (b.1 < a.1 + a.2.length)

/-- A verified plait: stored, or waiting for its resources to become idle (R40, R42). A reload is refused during firmware
activation. DEDUCED, log 52. -/
def plaitAct (c : Clock) (x : Ctx) (who : Who) (raw : List Byte) (img : Plait) (dest : Nat) (select : Bool) (quiesce : Nat)
    (d : Dev) : Dev :=
  if dest = 2 then
    d.ledgered c who 3 0 img.buildId d.plaitDigest img.digest (fun d => (d.ends x.stamp .internalError).plaitRest)
      (fun d => ((plaitStore raw select d).ends x.stamp .success).plaitRest)
  else if d.host.act.isSome then plaitReject c x.stamp who 0x10 raw d
  else if d.reload.isSome then d.ends x.stamp .sequenceError
  else
    let till := c.tick + (if quiesce = 0 then 1000 else quiesce) * 1000000
    Dev.set { d with reload := some {
      stamp := x.stamp, image := img, raw := raw, dest := dest, select := select, until' := till, who := who } }
      Reg.MGMT_PLAIT_STS_STATE 3

/-- PLAIT_LOAD: a piece arrives; with LAST the image is verified and acted on; while MEM does not run every plait is rejected
(R662). Offsets are in dwords. DEDUCED, log 51. -/
def plaitLoad (c : Clock) (stamp ofst : Nat) (piece : List Byte) (last : Bool) (dest : Nat) (select : Bool)
    (subtree quiesce : Nat) (d : Dev) : Dev :=
  d.run stamp .plaitLoad (fun x d =>
    let mine := match d.load with
      | some l => l.cid == x.cid
      | none => true
    let held := match d.load with
      | some l => l.pieces
      | none => []
    let p := (4 * ofst, piece)
    if !mine then d.ends stamp .sequenceError
    else if dest = 3 ∨ held.any (pieceOverlaps p) then d.ends stamp .invalidField
    else if last then
      let d := { d with load := none }
      let raw := (loadImage (held ++ [p])).getD []
      let who := d.whoOf x.cid rCUSTODIAN
      if 64 ≤ raw.length ∧ leAt raw 0x1C 4 ≠ subtree then (d.ends stamp .invalidField).plaitRest
      else if d.get Reg.MEM_STS_STATE ≠ 2 then plaitReject c stamp who 0xA raw d
      else match verifyPlait d d.dramGib raw with
        | .inl r => plaitReject c stamp who r raw d
        | .inr img => plaitAct c x who raw img dest select quiesce d
    else
      let d := { d with load := some { cid := x.cid, pieces := held ++ [p], last := c.tick } }
      let d := if d.plait.isNone then d.set Reg.MGMT_PLAIT_STS_STATE 1 else d
      d.ends stamp .success)

/-- PLAIT_LOAD_TIMEOUT: no piece has come for 10 s (R40). -/
def plaitLoadTimeout (c : Clock) (d : Dev) : Dev :=
  match d.load with
  | none => d
  | some l =>
    if c.tick < l.last + 10 * tickS then d
    else
    let d := { d with load := none }
    if d.get Reg.MGMT_PLAIT_STS_STATE = 1 then d.plaitRest else d

/-- SUBTREE_RELOAD_APPLY (R42): the pending plait takes effect, whole, once its resources are idle; the ledger entry is in
flash first (R647). -/
def subtreeReloadApply (c : Clock) (d : Dev) : Dev :=
  match d.reload with
  | none => d
  | some r =>
    if d.reloadIdle r.image = false then d
    else
      let d := { d with reload := none }
      d.ledgered c r.who 3 0 r.image.buildId d.plaitDigest r.image.digest
        (fun d => (d.ends r.stamp .internalError).plaitRest.reloadRelease)
        (fun d =>
          let d := applyPlait 3 r.image d
          let d := if r.dest = 1 then plaitStore r.raw r.select d else d
          (d.ends r.stamp .success).reloadRelease)

/-- RELOAD_QUIESCE_TIMEOUT (R42): resources still busy reject the reload with BUSY. -/
def reloadQuiesceTimeout (c : Clock) (d : Dev) : Dev :=
  match d.reload with
  | none => d
  | some r =>
    if d.reloadIdle r.image ∨ c.tick < r.until' then d
    else (plaitReject c r.stamp r.who 0x10 r.raw { d with reload := none }).reloadRelease

/-! ### Seam links (R43 to R45) -/

/-- A SEAM fault record (R668). -/
def seamFault (c : Clock) (k peer : Nat) (d : Dev) : Dev :=
  let detail := le 1 k ++ le 1 (d.get (Reg.SEAM_PORT_STS_STATE k)) ++ le 2 0 ++ le 4 (peer % 2 ^ 18)
  d.fault c .device { cls := 7, code := 3, sev := 2, detail := detail }

/-- A step fails: the retry timer starts (R44). -/
def portFail (c : Clock) (k step peer : Nat) (d : Dev) : Dev :=
  let d := d.sets [(Reg.SEAM_PORT_STS_STATE k, 0), (Reg.SEAM_PORT_STS_STEP k, step), (Reg.SEAM_PORT_STS_LANES k, 0)]
  seamFault c k peer (Dev.devSince (gSEAM k) { d with misc := { d.misc with seamFail := d.misc.seamFail ++ [k] } })

/-- Lanes a port runs on from those that locked: four, two, or none (R44). With three lanes locked, which R44 does not name, the
pair that locked whole is used. DESIGN CHOICE, log 97. -/
def lanesOf (locked : Nat) : Nat :=
  if locked % 16 = 15 then 4
  else if locked % 4 = 3 ∨ locked / 4 % 4 = 3 then 2
  else 0

/-- Devices of the seam group reached, and this one. -/
def Dev.seamGroup (d : Dev) : List Nat :=
  d.misc.routes.foldl (fun l r => if l.contains r.1 then l else l ++ [r.1]) [d.devNum]

/-- Namespaces that stripe over a device. -/
def Dev.nsOver (d : Dev) (v : Nat) : List Nat :=
  match d.plait with
  | some p => (p.bindings.filter (fun b => (p.stripe b.layout).any (fun s => s.members.any (fun h => hDev h == v)))).map (fun b => b.nsid)
  | none => []

/-- SEAM_PORT_BRINGUP (R44, R45): the lanes that lock, what the peer reports (none: no exchange in time) with its SHEAF_DIGEST, whether it
authenticates (none: not in time), whether routes are updated in time, and the devices reached through the port with the
devices between and their digests. -/
def seamBringup (c : Clock) (k locked : Nat) (peer : Option SeamPeer) (digest : List Byte) (auth : Option Bool) (routed : Bool)
    (reach : List (Nat × Nat × List Byte)) (d : Dev) : Dev :=
  match d.plait with
  | none => d
  | some p =>
    let place := p.port k
    if place.2.2 = false ∨ d.get (Reg.SEAM_PORT_STS_STATE k) ≠ 1 then d
    else if locked % 16 = 0 then portFail c k 1 0 d
    else if lanesOf locked = 0 then portFail c k 2 0 d
    else match peer with
    | none => portFail c k 3 0 d
    | some f =>
      let peerDev := f.dev
      let peerPort := f.port
      let d := { d with misc := { d.misc with seamSheaf := d.misc.seamSheaf.filter (fun (x : Nat × Nat) => x.1 != k) ++ [(k, f.sheaf)] } }
      let d := d.sets [(Reg.SEAM_PORT_STS_STEP k, 4), (Reg.SEAM_PORT_STS_LANES k, lanesOf locked),
        (Reg.SEAM_PORT_STS_PEER_DEV k, peerDev), (Reg.SEAM_PORT_STS_PEER_PORT k, peerPort)]
      let hold := fun (st : Nat) (d : Dev) => d.set (Reg.SEAM_PORT_STS_STATE k) st
      let near : List (Nat × Nat × List Byte) := (peerDev, 0, digest) :: reach.filter (fun x => decide (x.2.1 ≤ 2) && x.1 != p.deviceNum && x.1 != peerDev)
      let group : List Nat := near.foldl (fun l x => if l.contains x.1 then l else l ++ [x.1]) d.seamGroup
      if peerDev = p.deviceNum then seamFault c k peerDev (hold 4 d)
      else if peerDev ≠ place.1 ∨ peerPort ≠ place.2.1 then seamFault c k peerDev (hold 3 d)
      else if digest ≠ p.sheafDigest then
        let d := hold 3 d
        Dev.sheafCheck { d with misc := { d.misc with
          seamDigest := d.misc.seamDigest.filter (fun x => x.1 != peerDev) ++ [(peerDev, digest)] } }
      else if 8 < group.length then hold 5 d
      else if auth = none then portFail c k 4 peerDev d
      else if auth = some false then (hold 6 d).ledEvent c { port := 20 } 12 2 0 4 zeros48 zeros48
      else if routed = false then portFail c k 5 peerDev d
      else
        let d := d.sets [(Reg.SEAM_PORT_STS_STEP k, 6), (Reg.SEAM_PORT_STS_STATE k, 2)]
        let back := near.map (fun (x : Nat × Nat × List Byte) => x.1)
        let d := { d with misc := { d.misc with
          routes := d.misc.routes ++ near.map (fun (x : Nat × Nat × List Byte) => (x.1, k, x.2.1)),
          seamDigest := d.misc.seamDigest.filter (fun (x : Nat × List Byte) => !back.contains x.1) ++ near.map (fun (x : Nat × Nat × List Byte) => (x.1, x.2.2)),
          unreachable := d.misc.unreachable.filter (fun v => !back.contains v),
          ethPeers := d.misc.ethPeers.filter (fun v => !back.contains v) } }
        (d.sheafCheck).nsChanged (back.flatMap (fun v => d.nsOver v))

/-- The port a device is reached by: the fewest devices between, then the lowest port (R43). -/
def Dev.routeTo (d : Dev) (v : Nat) : Option Nat :=
  ((d.misc.routes.filter (fun r => r.1 == v)).foldl (fun best r => match best with
    | some b => if r.2.2 < b.2.2 ∨ (r.2.2 = b.2.2 ∧ r.2.1 < b.2.1) then some r else some b
    | none => some r) none).map (fun r => r.2.1)

/-- SEAM_RETRY_TIMER (R44): 100 ms after it failed a port restarts at step 1. -/
def seamRetry (k : Nat) (d : Dev) : Dev :=
  if d.misc.seamFail.contains k ∧ 100 * tickMs ≤ d.devAge (gSEAM k) then portTrain k d else d

/-- SEAM_LANE_FAIL (R45): an UP port goes on at ×2 on the pair the lane is not in; a port already at ×2 starts again.
DEDUCED, log 56. -/
def seamLaneFail (c : Clock) (k : Nat) (d : Dev) : Dev :=
  if d.get (Reg.SEAM_PORT_STS_STATE k) ≠ 2 then d
  else if d.get (Reg.SEAM_PORT_STS_LANES k) = 4 then d.set (Reg.SEAM_PORT_STS_LANES k) 2
  else
    let d := { d with misc := { d.misc with routes := d.misc.routes.filter (fun r => r.2.1 != k) } }
    portFail c k 0 (d.get (Reg.SEAM_PORT_STS_PEER_DEV k)) d

/-- SEAM_MEMBER_UNREACHABLE (R43, R45): a member out of seam range is reached over Ethernet when an ETH_PEER record names it
and it answers there, with the SHEAF_DIGEST it carries; otherwise the sheaf stays up without it. -/
def seamUnreachable (v : Nat) (eth : Option (List Byte)) (d : Dev) : Dev :=
  match d.plait with
  | none => d
  | some p =>
    let d := { d with misc := { d.misc with routes := d.misc.routes.filter (fun r => r.1 != v) } }
    if (p.sheafDevs.contains v) = false then d
    else match (if p.peers.any (fun e => e.dev == v) then eth else none) with
    | some digest =>
      let d := { d with misc := { d.misc with
        ethPeers := d.misc.ethPeers.filter (fun x => x != v) ++ [v],
        seamDigest := d.misc.seamDigest.filter (fun (x : Nat × List Byte) => x.1 != v) ++ [(v, digest)],
        unreachable := d.misc.unreachable.filter (fun x => x != v) } }
      d.sheafCheck.nsChanged (d.nsOver v)
    | none =>
      let d := { d with misc := { d.misc with
        ethPeers := d.misc.ethPeers.filter (fun x => x != v),
        unreachable := d.misc.unreachable.filter (fun x => x != v) ++ [v] } }
      d.sheafCheck.nsChanged (d.nsOver v)

/-- SHEAF_FORWARD: a command from the root runs here as one of the root's, its locks held there, with the write sequence and the
TAI of its intake at the root (R29, R30, R439). Writes come as the streams the root has made of them. DEDUCED, log 57. -/
def forwardCmd (hc : HostCmd) (wid tai : Nat) (d : Dev) : Dev :=
  if d.plait.isNone ∨ hc.op = .write ∨ hc.op = .zoneAppend then d
  else
    let x : Ctx := { stamp := 2 ^ 64 + d.host.mtag, cid := seamCid, sq := 0, cmd := hc, phase := .transfer, wid := wid, tai := tai }
    { d with host := { d.host with mtag := d.host.mtag + 1, ctxs := d.host.ctxs ++ [x] } }

/-- Consecutive logical blocks of some bytes, numbered from a first one. -/
def numbered (lbs : Nat) : Nat → Nat → List Byte → List (Nat × List Byte)
  | 0, _, _ => []
  | f + 1, i, l => if l = [] then [] else (i, l.take lbs) :: numbered lbs f (i + 1) (l.drop lbs)

/-- Commands that read logical blocks. -/
def Cmd.reads : Cmd → Bool
  | .read => true
  | .compare => true
  | .verify => true
  | .readAsOf => true
  | .migrate => true
  | _ => false

/-- SHEAF_FORWARD: a member's result reaches the root; the command ends with the first failure, or when every member has
answered. Blocks that a member has read wait in the context, from the index in Dword 0 on (R29, R30). DEDUCED, log 57. -/
def forwardResult (stamp : Nat) (st : Sts) (dw0 dw1 : Nat) (data : List Byte) (all : Bool) (d : Dev) : Dev :=
  match d.ctx stamp with
  | none => d
  | some x =>
    if x.phase = .held ∨ x.phase = .done then d
    else if st ≠ .success then d.complete stamp st dw0 dw1 []
    else if Cmd.reads x.cmd.op then
      let lbs := match d.bound x.cmd.nsid with
        | some (b, _) => b.lbs
        | none => 4096
      d.onCtx stamp (fun y => { y with parts := y.parts ++ numbered lbs data.length dw0 data })
    else if all then d.complete stamp .success dw0 dw1 (x.data ++ data)
    else d.onCtx stamp (fun y => { y with data := y.data ++ data })

/-- SHEAF_FORWARD: a member's fault record reaches the root with the member's handle (R29, R667, R670). -/
def forwardFault (c : Clock) (r : FaultRec) (d : Dev) : Dev :=
  if d.plait.isNone then d else d.record c { r with fwd := true, lost := false, rep := 0, read := false }

end Sys2Proof.Machine
end

