-- ==== Sys2Proof/Machine/Darn.lean ====
section
/-! DEFINITION. Machine/Darn.lean: decoding the Reed-Solomon codes of the disc and the laser link for errors and erasures
(spec files 04, 06, 07: R98, R172, R200). -/

namespace Sys2Proof.Machine

/-- A field GF(2^w) with its reduction term. -/
structure Gf where
  w : Nat
  poly : Nat

/-- Product. -/
def Gf.mul (f : Gf) (a b : Nat) : Nat := gfMul f.w f.poly a b

/-- Power, with `fuel` at least the bits of the exponent. -/
def Gf.pow (f : Gf) (a : Nat) : Nat → Nat → Nat
  | 0, _ => 1
  | fuel + 1, e => if e = 0 then 1 else
      let h := f.pow (f.mul a a) fuel (e / 2)
      if e % 2 = 1 then f.mul a h else h

/-- Inverse of an element that is not zero. -/
def Gf.inv (f : Gf) (a : Nat) : Nat := f.pow a f.w (2 ^ f.w - 2)

/-- Value of a polynomial, lowest coefficient first. -/
def Gf.eval (f : Gf) (l : List Nat) (x : Nat) : Nat := l.foldr (fun c r => c ^^^ f.mul r x) 0

/-- Value of a word at a point, coefficient of the highest power first. -/
def Gf.evalHigh (f : Gf) (l : List Nat) (x : Nat) : Nat := l.foldl (fun r c => f.mul r x ^^^ c) 0

/-- Coefficients of Π (1 + X x), lowest first. -/
def Gf.locator (f : Gf) : List Nat → List Nat
  | [] => [1]
  | x :: t =>
    let g := f.locator t
    ((g ++ [0]).zip (0 :: g.map (f.mul x))).map (fun (p : Nat × Nat) => p.1 ^^^ p.2)

/-- Product of two polynomials, lowest first, below x^t. -/
def Gf.mulMod (f : Gf) (t : Nat) (a b : List Nat) : List Nat :=
  (List.range t).map (fun i => (List.range (i + 1)).foldl (fun r j => r ^^^ f.mul (a.getD j 0) (b.getD (i - j) 0)) 0)

/-- The search for the shortest recurrence of a sequence: the connection polynomial, the one before its last change of length with
its discrepancy, the length, the steps since. -/
structure Recur where
  c : List Nat := [1]
  b : List Nat := [1]
  bd : Nat := 1
  len : Nat := 0
  gap : Nat := 1

/-- One term of the sequence. -/
def Recur.step (f : Gf) (s : List Nat) (r : Recur) (i : Nat) : Recur :=
  let delta := (List.range (r.len + 1)).foldl (fun x j => x ^^^ f.mul (r.c.getD j 0) (s.getD (i - j) 0)) 0
  if delta = 0 then { r with gap := r.gap + 1 }
  else
    let k := f.mul delta (f.inv r.bd)
    let sub := List.replicate r.gap 0 ++ r.b.map (f.mul k)
    let c := (List.range (max r.c.length sub.length)).map (fun j => r.c.getD j 0 ^^^ sub.getD j 0)
    if 2 * r.len ≤ i then { c := c, b := r.c, bd := delta, len := i + 1 - r.len, gap := 1 }
    else { r with c := c, gap := r.gap + 1 }

/-- What a decoder finds of a word: the corrected symbols and the places where errors lay. -/
structure RsFound where
  syms : List Nat
  errs : List Nat
  deriving DecidableEq, Repr

/-- A word of a code with t parity symbols and generator Π (x + α^i), highest power first, decoded for the erasures named and for
errors beside them, with 2 × errors + erasures ≤ t; none when no such codeword is near (R98, R172, R200). -/
def rsDecode (f : Gf) (t : Nat) (word erased : List Nat) : Option RsFound :=
  let n := word.length
  let at' := fun (j : Nat) => f.pow 2 16 (n - 1 - j)
  let synd := fun (l : List Nat) => (List.range t).map (fun i => f.evalHigh l (f.pow 2 16 i))
  let s := synd word
  if t < erased.length then none
  else if s.all (fun x => x == 0) then some { syms := word, errs := [] }
  else
    let m := (f.mulMod t s (f.locator (erased.map at'))).drop erased.length
    let r := (List.range m.length).foldl (fun (r : Recur) i => r.step f m i) {}
    let errs := (List.range n).filter (fun j => !erased.contains j && f.eval r.c (f.inv (at' j)) == 0)
    let ps := erased ++ errs
    if 2 * r.len + erased.length > t ∨ errs.length ≠ r.len then none
    else
      let val := fun (p : Nat) =>
        let xs := (ps.filter (· != p)).map at'
        let g := xs.foldl (fun g x => ((0 :: g).zip (g.map (f.mul x) ++ [0])).map (fun (c : Nat × Nat) => c.1 ^^^ c.2)) [1]
        let num := (g.zip s).foldl (fun x (c : Nat × Nat) => x ^^^ f.mul c.1 c.2) 0
        let den := xs.foldl (fun x q => f.mul x (at' p ^^^ q)) 1
        f.mul num (f.inv den)
      let out := ps.foldl (fun l p => setAt l p (l.getD p 0 ^^^ val p)) word
      if (synd out).all (fun x => x == 0) then some { syms := out, errs := errs } else none

/-- The field of R98 and R103. -/
def gf16 : Gf := { w := 16, poly := gf16Poly }

/-- The field of the laser link (R200). -/
def gf10 : Gf := { w := 10, poly := 0x9 }

/-- What darn makes of the 64 sectors of a block, some of them erased: the 56 data payloads and the tracks where columns
corrected errors; none when a column cannot be decoded (R98, R172). -/
def darnDecode (pays : List (List Byte)) (erased : List Nat) : Option (List (List Byte) × List Nat) :=
  let cols := (List.range 2048).map (fun q => rsDecode gf16 8 (pays.map (fun p => symOf p q)) erased)
  if cols.any (fun c => c.isNone) then none
  else
    let cols := cols.filterMap id
    some ((List.range 56).map (fun t => cols.flatMap (fun c => be 2 (c.syms.getD t 0))),
      (List.range 64).filter (fun t => cols.any (fun c => c.errs.contains t)))

end Sys2Proof.Machine
end

