-- ==== Sys2Proof/Machine/DeckOps.lean ====
section
/-! DEFINITION. Machine/DeckOps.lean: what several deck families do alike: the write gate, the laser link's kill
sequence, lanes and standby, the timebase's entries, the safe state, charges, a deck's entry to FAULT. -/

namespace Sys2Proof.Machine

/-! ### The write gate (R211, R212) -/

def gPES : Nat := 0
def gFES : Nat := 1
def gSHOCK : Nat := 2
def gLINK : Nat := 3
def gVM : Nat := 4
def gLOCK : Nat := 5
def gLOOP : Nat := 6
def gSPEED : Nat := 7
def gDISTURB : Nat := 8
def gLATCHED : Nat := 9

/-- The cause flag of a gate condition in GATE_STS. -/
def gateFlag (n cause : Nat) : Fld := ⟨(Reg.WRP_GATE_STS_PES n).off, cause, 1⟩

/-- Emitters whose verify beam position is erased, or that calibration or the driver excludes (R215, R220). -/
def Dev.excluded (d : Dev) (n : Nat) : Nat :=
  (List.range 16).foldl (fun m e =>
    if d.getB (Reg.LANE_STATE_ERASED n (d.get (Reg.WRP_CAP_EMIT_BASE n) + e)) then setBit m e else m)
    ((d.deck n).gate.emFault ||| (d.deck n).gate.emExcl)

/-- The conditions that hold the gate of a deck; the timebase's does not apply to a primer write (R199, R211). -/
def Deck.gateHold (k : Deck) : Nat := if k.primer.isSome then clrBit k.gate.hold gLOCK else k.gate.hold

/-- Emitters whose gate is open (R211). -/
def Dev.openMask (d : Dev) (n : Nat) : Nat :=
  let g := (d.deck n).gate
  if (d.deck n).gateHold ≠ 0 ∨ d.get (Reg.WRP_LINK_STS_STATE n) ≠ 2 then 0
  else (0xFFFF - (g.shut ||| d.excluded n))

/-- Bring EMIT_OPEN and CLOSED up to date; an emitter that is closed in the midst of a slot leaves its sector incomplete, and one that
is closed in the midst of a primer stops it (R199, R214). -/
def Dev.gateShow (n : Nat) (d : Dev) : Dev :=
  let gone := fun (p : Pass) (k : Nat) =>
    FMap.get (fun _ => 0) p.lost k ||| (FMap.get (fun _ => 0) p.opened k &&& (0xFFFF - d.openMask n))
  let d := match (d.deck n).pass with
    | some p => match p.now with
      | some k => d.onDeck n (fun x => { x with pass := some { p with lost := p.lost.ins k (gone p k) } })
      | none => d
    | none => d
  let d := match (d.deck n).primer with
    | some q => if q.base.isSome && !bit (d.openMask n) q.emitter then
        d.onDeck n (fun x => { x with primer := some { q with broken := true } }) else d
    | none => d
  let d := if d.openMask n = 0 ∧ d.getB (Reg.WRP_GATE_STS_CLOSED n) = false then d.since n aINH else d
  (d.set (Reg.WRP_GATE_STS_EMIT_OPEN n) (d.openMask n)).setB (Reg.WRP_GATE_STS_CLOSED n) (decide (d.openMask n = 0))

/-- Levels of the kill sequence (R206). -/
def killLevels : List Nat := (List.range 64).map (fun i => if i % 2 = 0 then 3 else 0)

/-- The kill sequence (R206): the frame in progress is broken off; the driver stops every pulse and sets KILLED. -/
def Dev.kill (n : Nat) (d : Dev) : Dev :=
  (d.onDeck n (fun k => { k with link := { k.link with killed := true, killSent := true, tx := none, killOut := true } })).set
    (Reg.WRP_LINK_STS_KILL_SENT n) 1

/-- A condition of R211 arises: the gate closes for every emitter, with the kill sequence where it was open. -/
def Dev.gateClose (n cause : Nat) (d : Dev) : Dev :=
  let wasOpen := d.openMask n ≠ 0
  let d := d.onDeck n (fun k => { k with gate := { k.gate with hold := setBit k.gate.hold cause, shut := 0xFFFF } })
  let d := d.set (gateFlag n cause) 1
  (if wasOpen then d.kill n else d).gateShow n

/-- The gate is closed by the sequencer, with no condition of R211 behind it (R355, R363). -/
def Dev.gateShut (c : Clock) (n : Nat) (d : Dev) : Dev :=
  let wasOpen := d.openMask n ≠ 0
  let d := d.onDeck n (fun k => { k with gate := { k.gate with
    shut := 0xFFFF, clearedAt := c.grains n } })
  (if wasOpen then d.kill n else d).gateShow n

/-- A condition of R211 ends: the gate may reopen SETTLE wedges later (R212). -/
def Dev.gateClear (c : Clock) (n cause : Nat) (d : Dev) : Dev :=
  if bit (d.deck n).gate.hold cause then
    (d.onDeck n (fun k => { k with
      gate := { k.gate with hold := clrBit k.gate.hold cause, clearedAt := c.grains n }
      primer := k.primer.map (fun q => { q with cleared := q.obs }) })).gateShow n
  else d

/-- The gate after a change of its exclusions: the kill sequence when no emitter stays open (R211). -/
def Dev.gateKept (n : Nat) (wasOpen : Bool) (d : Dev) : Dev :=
  (if wasOpen && decide (d.openMask n = 0) then d.kill n else d).gateShow n

/-- Some emitters are shut out without a kill sequence unless none stays open (R210, R211). -/
def Dev.gateExclude (c : Clock) (n mask : Nat) (fault : Bool) (d : Dev) : Dev :=
  let wasOpen := d.openMask n ≠ 0
  let d := d.onDeck n (fun k => { k with gate :=
    if fault then { k.gate with
      emFault := mask, shut := k.gate.shut ||| mask,
      emAt := (List.range 16).foldl (fun m e => if bit k.gate.emFault e && !bit mask e then m.ins e (c.grains n) else m) k.gate.emAt }
    else { k.gate with emExcl := k.gate.emExcl ||| mask, shut := k.gate.shut ||| mask } })
  d.gateKept n wasOpen

/-! ### The laser link -/

/-- LASER_MODE of the frames to come (R202). -/
def Dev.laser (n mode : Nat) (d : Dev) : Dev := d.onDeck n (fun k => { k with link := { k.link with laserMode := mode } })

/-- The link goes to a state; it opens no gate unless UP (R211). -/
def Dev.linkState (n st : Nat) (d : Dev) : Dev := (d.set (Reg.WRP_LINK_STS_STATE n) st).gateShow n

/-- The link goes DOWN with the lasers off (R222, R355). -/
def Dev.linkDown (n : Nat) (d : Dev) : Dev :=
  ((d.laser n 0).onDeck n (fun k => { k with link := { k.link with
    req := none, retry := false, tries := 0, toSend := [], commitOk := false, tableValid := false } })).linkState n 0
    |>.set (Reg.WRP_LINK_STS_STEP n) 0

/-- Bring-up starts at step 1 (R209). -/
def Dev.linkTrain (n : Nat) (d : Dev) : Dev :=
  (d.onDeck n (fun k => { k with link := { k.link with
    req := none, retry := false, toSend := [], commitOk := false } })).linkState n 1
    |>.set (Reg.WRP_LINK_STS_STEP n) 0

/-! ### Lanes -/

/-- Whether a lane in ACTIVE or SHADOW is in use under the lane mode of R131: 0 CG2, 1 CG1, 2 PRIMER. -/
def laneUsed (d : Dev) (n l : Nat) : Bool :=
  decide (d.get (Reg.LANE_STATE_LSTATE n l) ≤ 1) && ((d.deck n).seq.laneMode == 0 || d.get (Reg.LANE_STATE_SRC n l) == 32)

/-- Decks whose lanes run outside standby: their state asks for it and the governor does not hold them (R130, R575). -/
def lanesWanted (d : Dev) (n : Nat) : Bool :=
  (d.dstate n == dTRACKING || d.dstate n == dCALIBRATING || d.dstate n == dREADY || d.dstate n == dWRITING) &&
    !bit (d.get Reg.PWR_GOV_STS_HELD) n

/-- The release of a lane from standby begins; one that has begun goes on (R130). -/
def Dev.laneWake (d : Dev) (n l : Nat) : Dev :=
  if ((d.deck n).lane l).waking then d else (d.onLane n l (fun a => { a with waking := true })).since n (aWAKE l)

/-- A lane goes to standby, or its release begins, as its state, the lane mode and the deck's state ask; a lane in TEST stays as it
is (R130, R131). A retired lane reads STBY = 1. DESIGN CHOICE, log 99. -/
def Dev.laneFit (n l : Nat) (d : Dev) : Dev :=
  if d.get (Reg.LANE_STATE_LSTATE n l) = 3 then d
  else if laneUsed d n l && lanesWanted d n then
    if d.getB (Reg.LANE_STATE_STBY n l) then d.laneWake n l else d
  else
    let d := d.set (Reg.LANE_STATE_STBY n l) 1
    if ((d.deck n).lane l).waking then d.onLane n l (fun a => { a with waking := false }) else d

/-- The lanes of a deck go to standby during a visit: before the native has left service the spare is released; after it,
the native is ACTIVE again and the spare SPARE (R598). A visit by command ends ABANDONED. -/
def Dev.tstStandby (n : Nat) (d : Dev) : Dev :=
  let mine := fun (v : Visit) => decide (32 + 66 * n ≤ v.unit) && decide (v.unit < 32 + 66 * n + 64) && decide (v.spare < 2)
  let back := fun (d : Dev) (v : Visit) =>
    let l := 64 + v.spare
    let k := v.unit - 32 - 66 * n
    let d := if d.get (Reg.LANE_STATE_LSTATE n l) = 4 then d
      else d.sets [(Reg.LANE_STATE_LSTATE n l, 2), (Reg.LANE_STATE_SRC n l, 127), (Reg.LANE_SPARE_CTL_TST_OWN n v.spare, 0)]
    let d := if d.get (Reg.LANE_STATE_LSTATE n k) = 4 then d
      else d.sets [(Reg.LANE_STATE_LSTATE n k, 0), (Reg.LANE_STATE_SRC n k, k)]
    let d := (d.set (Reg.LANE_SPARE_CTL_BUSY n v.spare) 0).onDeck n (fun x => { x with spare := x.spare.ins v.spare none })
    let u := FMap.get (fun _ => {}) d.tst.units v.unit
    let d := { d with tst := { d.tst with units := d.tst.units.ins v.unit { u with state := if u.state = 3 then 3 else 0, slice := 0, again := false } } }
    if v.cmd then d.sets [(Reg.TST_CMD_BUSY, 0), (Reg.TST_CMD_RESULT, 3)] else d
  let d := (d.tst.visits.filter mine).foldl back d
  { d with tst := { d.tst with visits := d.tst.visits.filter (fun v => !mine v) } }

/-- All lanes of a deck go to standby (R130). -/
def Dev.lanesStandby (n : Nat) (d : Dev) : Dev :=
  (List.range 66).foldl (fun d l =>
    let d := d.set (Reg.LANE_STATE_STBY n l) 1
    if ((d.deck n).lane l).waking then d.onLane n l (fun a => { a with waking := false }) else d) (d.tstStandby n)

/-- The lanes in use are released from standby, unless the governor holds the deck; each is ready 20 microseconds later
(R130, R575). -/
def Dev.lanesRelease (n : Nat) (d : Dev) : Dev :=
  if bit (d.get Reg.PWR_GOV_STS_HELD) n then d
  else (List.range 66).foldl (fun d l =>
    if laneUsed d n l && d.getB (Reg.LANE_STATE_STBY n l) then d.laneWake n l else d) d

/-- A track layout as a zone (R87). -/
def layoutOf (p s : Nat) : Zone := { num := 0, first := 0, last := 0, p := p, s := s, readRpm := 0, writeRpm := 0 }

/-- The map in force as a zone: P and S of MAP_CFG (R61, R151). -/
def mapZone (d : Dev) (n : Nat) : Zone := layoutOf (d.get (Reg.DET_MAP_CFG_P n)) (d.get (Reg.DET_MAP_CFG_S n))

/-- The layout and write speed that the deck's writing calls for: of the unit, the calibration run or the pass in hand, else of the swath
under the pickup (R84, R103, R111, R205). -/
def writeSwath (k : Deck) : Nat :=
  match k.unit, k.pass with
  | some u, _ => u.swath
  | none, some p => (match p.run with
    | some r => 2654 + r / 18 / 4
    | none => k.wrSwath)
  | none, none => k.seq.swath

/-- Whether a counter that goes from a to b reaches or passes a place that recurs every `period`, all in 2^-24 grains (R57). -/
def passes (pos period a b : Nat) : Bool :=
  decide ((a + period - pos % period) / period < (b + period - pos % period) / period)

/-- Change a lane's margin counters (R177). -/
def Dev.onLaneMargin (n l : Nat) (f : LaneMargin → LaneMargin) (d : Dev) : Dev :=
  d.onDeck n (fun k => { k with margin := { k.margin with
    lanes := k.margin.lanes.ins l (f (FMap.get (fun _ => {}) k.margin.lanes l)) } })

/-- An acquisition span of a lane starts (R122). -/
def Dev.laneAcq (n l : Nat) (clearFreq : Bool) (d : Dev) : Dev :=
  let d := d.onLane n l (fun a => { a with acq := d.get (Reg.LANE_GAIN_CFG_ACQ_LEN n l) * 32,
                                           freq := if clearFreq then 0 else a.freq })
  if clearFreq then d.set (Reg.LANE_TR_STS_FREQ n l) 0 else d

/-- A pending spare command ends (R134). -/
def Dev.spareEnd (n s result : Nat) (d : Dev) : Dev :=
  let d := d.onDeck n (fun k => { k with spare := k.spare.ins s none })
  (d.set (Reg.LANE_SPARE_CTL_BUSY n s) 0).set (Reg.LANE_SPARE_CTL_RESULT n s) result

/-- The pending command of a spare. -/
def Deck.sparePend (k : Deck) (s : Nat) : Option SparePend := FMap.get (fun _ => none) k.spare s

/-- A pending swap that still waits on trigger t, or any pending swap, is abandoned (R134). DEDUCED, log 104. -/
def Dev.sparesAbandon (n : Nat) (t : Option Nat) (d : Dev) : Dev :=
  [0, 1].foldl (fun d s => match (d.deck n).sparePend s with
    | some p => if (!p.forced) && (t == none || (t == some p.trig && !p.fired)) then d.spareEnd n s 3 else d
    | none => d) d

/-! ### Deck commits -/

/-- Keys of the sub-blocks a mask names, on one deck. -/
def subKeys (n mask : Nat) (key : Nat) : Bool :=
  let o := key / 32 % selSpan
  decide (deckBase + n * deckSpan ≤ o) && decide (o < deckBase + (n + 1) * deckSpan) &&
    bit mask ((o - deckBase) % deckSpan / 0x10000)

/-- A deck commit ends with a result, shown in COMMIT_CTL and COMMIT_STS (R63, R78). -/
def Dev.deckCommitShow (c : Clock) (n result sub rule : Nat) (late : Bool) (d : Dev) : Dev :=
  let d := d.onDeck n (fun k => { k with pend := none })
  d.sets [(Reg.ANG_COMMIT_CTL_REQ n, 0), (Reg.ANG_COMMIT_STS_RESULT n, result), (Reg.ANG_COMMIT_STS_SUB n, sub),
    (Reg.ANG_COMMIT_STS_RULE n, rule), (Reg.ANG_COMMIT_STS_REV_LSB n, c.rev n), (Reg.ANG_COMMIT_STS_LATE n, ofB late),
    (Reg.ANG_COMMIT_STS_DIRTY n, ofB (d.dirty (subKeys n 0x1FF)))]

/-- The ledger entry of a software deck commit (R644, class 2): result, who, mask, words before and after. -/
def Dev.deckCommitEntry (c : Clock) (n res : Nat) (who : Who) (mask : Nat) (old new : List Byte) (d : Dev) : Dev :=
  d.ledEvent c who 2 res (d.wordInForce (Reg.ANG_COMMIT_STS_RESULT n).off) (n + mask * 256) old new

/-- A deck commit ends refused (R63, R78, R644): nothing changes, the staged values stay. -/
def Dev.deckCommitEnd (c : Clock) (n result sub rule : Nat) (late : Bool) (d : Dev) : Dev :=
  match (d.deck n).pend with
  | some p =>
    let old := sha (wordTriples (d.changedKeys (subKeys n p.mask) p.vals) (FMap.get resetOf d.regs))
    (d.deckCommitShow c n result sub rule late).deckCommitEntry c n 1 p.who p.mask old old
  | none =>
    (d.deckCommitShow c n result sub rule late).deckCommitEntry c n 1 d.who (d.get (Reg.ANG_COMMIT_CTL_SUB_MASK n))
      (sha []) (sha [])

/-- A pending deck commit on trigger t, or on any, is refused (R63). -/
def Dev.deckCommitRefuse (c : Clock) (n result : Nat) (t : Option Nat) (d : Dev) : Dev :=
  match (d.deck n).pend with
  | some p => if t == none || t == some p.trig then d.deckCommitEnd c n result 0 0 false else d
  | none => d

/-! ### Bank swaps -/

/-- A slot's pending swap ends with a result (R251). -/
def Dev.swapEnd (n s result : Nat) (d : Dev) : Dev :=
  let d := d.onSlot n s (fun a => { a with swap := none })
  ((d.set (Reg.LOOP_BANK_BUSY n s) 0).set (Reg.LOOP_BANK_REQ n s) 0).set (Reg.LOOP_BANK_RESULT n s) result

/-- Pending swaps that wait on trigger t are refused (R251). -/
def Dev.swapsRefuse (n t : Nat) (d : Dev) : Dev :=
  (List.range 8).foldl (fun d s => match ((d.deck n).slot s).swap with
    | some p => if p.atTrig && p.trig == t then d.swapEnd n s 3 else d
    | none => d) d

/-! ### Triggers -/

/-- A trigger misses, or is disarmed while others wait on it: commits, swaps and lane swaps end (R63, R134, R251). -/
def Dev.trigGone (c : Clock) (n t : Nat) (d : Dev) : Dev :=
  ((d.deckCommitRefuse c n 4 (some t)).swapsRefuse n t)

/-- A trigger is disarmed: nothing waits on it any longer (R63, R134, R251). -/
def Dev.trigDisarmed (c : Clock) (n t : Nat) (d : Dev) : Dev := (d.trigGone c n t).sparesAbandon n (some t)

/-- A trigger's firing is skipped (R59). -/
def Dev.trigMiss (c : Clock) (n t : Nat) (d : Dev) : Dev := (d.set (Reg.ANG_TRIG_CFG_MISSED n t) 1).trigGone c n t

/-- Periodic modes of R57: WEDGE, SECTOR, REV. -/
def periodic (m : Nat) : Bool := m == 2 || m == 3 || m == 4

/-- Every armed periodic trigger misses once, at the entry to SEARCH or OFF (R59). DEDUCED, log 28. -/
def Dev.periodicMiss (c : Clock) (n : Nat) (d : Dev) : Dev :=
  (List.range 64).foldl (fun d t =>
    if d.getB (Reg.ANG_TRIG_CFG_ARM n t) && periodic (d.get (Reg.ANG_TRIG_CFG_MODE n t)) then d.trigMiss c n t else d) d

/-- A ONCE trigger's target, in grains with revolutions (R57, R75, R76). -/
def Dev.trigTarget (d : Dev) (n t : Nat) : Nat :=
  (d.get (Reg.ANG_TRIG_POS_REV_HI n t) * 2 ^ 32 + d.get (Reg.ANG_TRIG_REV_REV_LO n t)) * 2 ^ 24 +
    d.get (Reg.ANG_TRIG_POS_POS n t)

/-! ### The die's pool (R10, R167 to R170) -/

/-- The data die of a deck (R9). -/
def dieOf (n : Nat) : Nat := n / 8

/-- A die's pool. -/
def Dev.die (d : Dev) (i : Nat) : Die := FMap.get (fun _ => {}) d.dies i

/-- QUEUE and SHED of every deck of a die, with the hysteresis of R170. -/
def dieShow (i : Nat) (d : Dev) : Dev :=
  let p := d.die i
  let shed := if 1536 < p.first.length then true else if p.first.length < 512 then false else p.shed
  let d := { d with dies := d.dies.ins i { p with shed := shed } }
  (List.range 8).foldl (fun d k =>
    (d.set (Reg.DET_STS_QUEUE (8 * i + k)) p.first.length).setB (Reg.DET_STS_SHED (8 * i + k)) shed) d

/-- Change a die's pool. -/
def Dev.onDie (d : Dev) (i : Nat) (f : Die → Die) : Dev := dieShow i { d with dies := d.dies.ins i (f (d.die i)) }

/-- Some sectors leave a die's pool, whatever they wait for. -/
def dieDrop (i : Nat) (gone : SectorId → Bool) (d : Dev) : Dev :=
  d.onDie i (fun p => { p with
    first := p.first.filter (fun s => !gone s), turbo := p.turbo.filter (fun s => !gone s),
    active := p.active.filter (fun s => !gone s), held := p.held.filter (fun h => !gone h.id) })

/-! ### Gleans -/

/-- The 56 data payloads of a block, 0 where a sector has none (R97). -/
def Blk.data (b : Blk) : List Byte := (List.range 56).flatMap (fun t => slice (FMap.get (fun _ => []) b.pay t) 0 4096)

/-- Both stamps of a block: those of the end of its last sector (R171). -/
def Blk.stamps (b : Blk) (c : Clock) (n : Nat) : Nat × Nat := b.ended.getD (c.tick, c.angleStamp n)

/-- A block is delivered with its erasure mask, its gleans over (R175). -/
def Dev.deliverUnread (c : Clock) (n : Nat) (b : Blk) (d : Dev) : Dev :=
  let mask := (List.range 64).foldl (fun m i => if b.dec.getD i .notRead = .conv then m else setBit m i) 0
  let out : Delivered := { slot := b.slot, swath := b.swath, mask := mask, checked := false, tick := (b.stamps c n).1,
                           stamp := (b.stamps c n).2, data := b.data, layer := d.get (Reg.SEQ_STS_LAYER n) }
  let d := dieDrop (dieOf n) (fun s => s.deck == n && s.slot == b.slot) d
  let d := d.onDie (dieOf n) (fun p => { p with darn := p.darn.filter (fun x => x != (n, b.slot)) })
  let d := d.onDeck n (fun k => { k with
    blocks := k.blocks.filter (fun x => x.slot != b.slot), delivered := k.delivered ++ [out],
    margin := { k.margin with unreadable := satAdd 32 k.margin.unreadable 1 } })
  d.set (Reg.DET_STS_UNREAD n) 1

/-- A move of a slot under the limits in force (R252). -/
def Dev.mkProf (n s kind : Nat) (start target : Int) (t0 : Nat) (bySeq : Bool) (d : Dev) : Prof :=
  { kind := kind, start := start, target := target, t0 := t0, vLim := d.get (Reg.LOOP_PROF_LIM_V_LIM n s),
    aLim := d.get (Reg.LOOP_PROF_LIM_A_LIM n s), jLim := d.get (Reg.LOOP_PROF_J_J_LIM n s), bySeq := bySeq }

/-- The focus set-point moves by some nanometres, as a MOVE of slot 0 (R253). -/
def Dev.focusBy (c : Clock) (n : Nat) (by' : Int) (d : Dev) : Dev :=
  if by' = 0 ∨ d.get (Reg.LOOP_STS_MODE n 0) ≠ 2 then d
  else
    let s := (d.deck n).slot 0
    let tgt := match s.prof with
      | some p => p.target + by'
      | none => s.profPos + by'
    match s.prof with
    | some p => d.onSlot n 0 (fun a => { a with prof := some { p with target := tgt } })
    | none => (d.onSlot n 0 (fun a => { a with
        prof := some (d.mkProf n 0 1 s.profPos tgt c.tick true) })).set (Reg.LOOP_PROF_CTL_BUSY n 0) 1

/-- Gleans end: equalisers, targets and focus revert (R174). -/
def Dev.gleanStop (c : Clock) (n : Nat) (d : Dev) : Dev :=
  let d := d.focusBy c n (-(d.deck n).gleanOfs)
  (d.onDeck n (fun k => { k with glean := 0, gleanOfs := 0, gleanOn := false, taps := if k.gleanOn then k.preTaps else k.taps })).set
    (Reg.DET_STS_GLEANING n) 0

/-- Every pending glean of a deck is abandoned when no angle is left to read at (R175). -/
def Dev.gleansAbandon (c : Clock) (n : Nat) (d : Dev) : Dev :=
  let l := (d.deck n).blocks.filter (fun b => b.pending || decide (0 < b.glean))
  if l = [] then d
  else
    let d := l.foldl (fun d b => d.deliverUnread c n b) d
    (d.gleanStop c n).fault c (.deck n) { cls := 2, code := 2, sev := 2, detail := le 4 l.length }

/-- A learning run is in progress on the slot (R246). -/
def Slot.learning (a : Slot) : Bool :=
  match a.learn with
  | some l => l.started
  | none => false

/-- A learning run is dropped with the table unchanged (R246). -/
def Dev.learnDrop (n s : Nat) (d : Dev) : Dev :=
  ((d.onSlot n s (fun a => { a with learn := none })).set (Reg.LOOP_FF_CTL_LEARN n s) 0).set (Reg.LOOP_FF_CTL_REVS n s) 0

/-! ### The timebase's entries (R53, R54, R59, R63) -/

/-- The timebase leaves LOCKED: latch, record, gate (R54, R59, R211), and learning runs are abandoned (R246). -/
def Dev.tbUnlock (c : Clock) (n cause : Nat) (d : Dev) : Dev :=
  let d := (d.set (Reg.ANG_STS_UNLOCK n) 1).set (Reg.ANG_STS_CAUSE n) cause
  let d := d.fault c (.deck n) { cls := 1, code := 1, sev := 1, detail := le 1 cause }
  let d := (List.range 8).foldl (fun d s => if ((d.deck n).slot s).learning then d.learnDrop n s else d) d
  d.gateClose n gLOCK

/-- Triggers stop: entry to SEARCH or OFF. -/
def Dev.tbLoseAngle (c : Clock) (n : Nat) (d : Dev) : Dev :=
  let d := (d.deckCommitRefuse c n 5 none).periodicMiss c n
  let d := d.onDeck n (fun k => { k with seqPend := [] })
  (d.sparesAbandon n none).gleansAbandon c n |>.set (Reg.LOOP_ENG_STS_FREE n) 1

/-- Increment of a spindle speed, 8.24 fixed point: rpm × 2^24 ÷ (60 × 10^9) grains per tick (R51). -/
def incOfRpm (rpm : Nat) : Nat := Config.rndN (rpm * 2 ^ 48 : Nat) 60000000000

/-- Speed of an increment, in rpm (R70). -/
def rpmOfInc (inc : Nat) : Nat := inc * 60000000000 / 2 ^ 48

/-- The spindle controller's measured speed; in SEARCH the counter's increment follows it (R53). -/
def Dev.spnMeasured (n : Nat) (rpm : Int) (d : Dev) : Dev :=
  let d := d.set (Reg.SPN_STS_SPEED n) (ux 16 rpm)
  let d := if rpm.natAbs < 60 then d else d.since n aSLOW
  if d.tbState n = tbSEARCH then d.set (Reg.ANG_INC_INC n) (incOfRpm rpm.natAbs) else d

/-- SEARCH is entered: the counter runs on at the measured speed (R53). -/
def Dev.tbSearch (c : Clock) (n : Nat) (d : Dev) : Dev :=
  let d := d.onDeck n (fun k => { k with tb := {} })
  let d := d.set (Reg.ANG_STS_STATE n) tbSEARCH
  let d := d.set (Reg.ANG_INC_INC n) (incOfRpm (d.getI (Reg.SPN_STS_SPEED n)).natAbs)
  d.tbLoseAngle c n

/-- The timebase is disabled (R53); the counter holds, and INC reads 0. DESIGN CHOICE, log 98. -/
def Dev.tbDisable (c : Clock) (n : Nat) (d : Dev) : Dev :=
  if d.tbState n = tbOFF then d
  else
    let d := if d.tbState n = tbLOCKED then d.tbUnlock c n 4 else d
    let d := d.onDeck n (fun k => { k with tb := {} })
    ((d.set (Reg.ANG_STS_STATE n) tbOFF).set (Reg.ANG_INC_INC n) 0).tbLoseAngle c n

/-- The owned triggers that follow the sector map: 0 at the wedge sample, 2 ahead of the sync windows (R58, R235). -/
def Dev.mapTriggers (n : Nat) (d : Dev) : Dev :=
  let p := max 1 (d.get (Reg.DET_MAP_CFG_P n))
  (d.set (Reg.ANG_TRIG_POS_POS n 0) (124 * 16384 / p)).set (Reg.ANG_TRIG_POS_POS n 2) (ux 24 (-(cdiv (272 * 16384) p : Nat)))

/-- The owned triggers 0 to 5 are armed as R58 assigns them, at once: no trigger fires yet at which R64 could commit them.
DEDUCED, log 27. -/
def Dev.ownTriggers (n : Nat) (d : Dev) : Dev :=
  let d := ([(0, 2), (1, 3), (2, 3), (3, 3), (4, 2), (5, 4)] : List (Nat × Nat)).foldl (fun d p =>
    (d.set (Reg.ANG_TRIG_CFG_MODE n p.1) p.2).set (Reg.ANG_TRIG_CFG_ARM n p.1) 1) d
  (d.set (Reg.ANG_TRIG_CFG_REQ_LOCK n 3) 1).mapTriggers n

/-- The timebase is enabled (R53); the sequencer's triggers are set for it (R58). -/
def Dev.tbEnable (c : Clock) (n : Nat) (d : Dev) : Dev :=
  if d.tbState n = tbOFF then (d.ownTriggers n).tbSearch c n else d

/-! ### Loop slots -/

/-- Q1.31 reading of a Q1.15 field. -/
def q31of15 (i : Int) : Int := i * 2 ^ 16

/-- A slot's mode in force changes, with R247's effect on its states; the set-point of a slot that closes starts at rest. -/
def Dev.slotMode (n s mode : Nat) (d : Dev) : Dev :=
  let d := d.onSlot n s (fun a =>
    let a := { a with pendMode := none, blank := d.get (Reg.LOOP_SUP_CFG_BLANK n s), satRun := 0, oscSamples := 0,
                      oscN := 0 }
    match mode with
    | 0 => { a with integ := 0, ePrev := 0, uPrev := 0, wPrev := 0, dly := [{}, {}, {}, {}], prof := none, profPos := 0 }
    | 1 => { a with entry := a.uPrev, profPos := 0 }
    | 2 => if d.get (Reg.LOOP_STS_MODE n s) < 2 then { a with profPos := 0 } else a
    | 3 => { a with entry := a.uPrev }
    | _ => a)
  let d := if mode ≠ 2 ∧ ((d.deck n).slot s).learning then d.learnDrop n s else d
  d.set (Reg.LOOP_STS_MODE n s) mode

/-- A move stops at once (R254). -/
def Dev.profStop (n s : Nat) (d : Dev) : Dev :=
  if d.getB (Reg.LOOP_PROF_CTL_BUSY n s) then
    ((d.onSlot n s (fun a => { a with prof := none })).set (Reg.LOOP_PROF_CTL_BUSY n s) 0).set
      (Reg.LOOP_PROF_CTL_RESULT n s) 3
  else d

/-- A slot is put in a mode at once by the module itself, in force and in SLOT_CTL. -/
def Dev.slotForce (n s mode : Nat) (d : Dev) : Dev := ((d.profStop n s).slotMode n s mode).set (Reg.LOOP_SLOT_CTL_MODE n s) mode

/-- Slot 0 in OPEN at DEFOCUS (R258, R358, R363). -/
def Dev.defocus (n : Nat) (d : Dev) : Dev :=
  let v := q31of15 (d.getI (Reg.ACT_SAFE_CFG_DEFOCUS n))
  (d.slotForce n 0 1).onSlot n 0 (fun a => { a with entry := v, uPrev := v, wPrev := v })
    |>.set (Reg.LOOP_VAL_OUT n 0) (d.get (Reg.ACT_SAFE_CFG_DEFOCUS n))

/-- A coil bridge is on where it is enabled, the actuator rail is in range, VM_ABS is clear, the deck is not ABSENT, and neither a park nor
VM_ABS has turned the bridges off since the deck was last started (R283, R285, R307, R308, R355, R363). DEDUCED, log 37. -/
def Dev.coilsShow (n : Nat) (d : Dev) : Dev :=
  let ok := d.getB (Reg.ACT_SAFE_CFG_V12_OK n) && !d.getB Reg.PWR_VM_STS_VM_ABS && !(d.deck n).seq.coilsOff && d.dstate n != dABSENT
  [0, 1, 2].foldl (fun d k => d.setB (Reg.ACT_COIL_STS_ON n k) (ok && d.getB (Reg.ACT_COIL_CFG_EN n k))) d

/-- The coil bridges go off, until the deck is started again or, where it is not parked, its bridges are written. -/
def Dev.coilsDown (n : Nat) (d : Dev) : Dev :=
  (d.onDeck n (fun k => { k with seq := { k.seq with coilsOff := true } })).coilsShow n

/-- The coil bridges go on as they are enabled. -/
def Dev.coilsUp (n : Nat) (d : Dev) : Dev :=
  (d.onDeck n (fun k => { k with seq := { k.seq with coilsOff := false } })).coilsShow n

/-- A media command, a Survey or a Migrate reaches the deck: its idle time begins again (R364). -/
def Dev.touch (n : Nat) (d : Dev) : Dev := d.since n aIDLE

/-- A state of the deck is entered; its time-outs, and its idle time in READY, count from here (R355, R364). -/
def Dev.deckState (n st : Nat) (d : Dev) : Dev := (((d.set (Reg.SEQ_STS_STATE n) st).since n aSEQ).since n aIDLE).turnSince n tSEQ

/-! ### Spin-up charges (R368 to R370) -/

/-- A deck takes its charge, of SPIN_W watts as they then are. -/
def Dev.chargeTake (n : Nat) (d : Dev) : Dev :=
  if d.getB (Reg.SEQ_STS_CHARGE n) then d
  else
    let w := d.get (Reg.SEQ_PWR_CFG_SPIN_W n)
    ((d.set (Reg.SEQ_STS_CHARGE n) 1).set Reg.PWR_SPIN_BUDGET_IN_USE (d.get Reg.PWR_SPIN_BUDGET_IN_USE + w)).onDeck n
      (fun k => { k with seq := { k.seq with chargeW := w } })

/-- A deck gives its charge back. -/
def Dev.chargeFree (n : Nat) (d : Dev) : Dev :=
  if d.getB (Reg.SEQ_STS_CHARGE n) then
    (d.set (Reg.SEQ_STS_CHARGE n) 0).set Reg.PWR_SPIN_BUDGET_IN_USE (d.get Reg.PWR_SPIN_BUDGET_IN_USE - (d.deck n).seq.chargeW)
  else d

/-- The spindle controller enters a state; OFF, FAULT and braking give the charge back, the winding short of a stalled
start excepted (R368). -/
def Dev.spnState (n st : Nat) (d : Dev) : Dev :=
  let d := ((d.set (Reg.SPN_STS_STATE n) st).since n aSPN).since n aSLOW
  if st = spOFF ∨ st = spFAULT ∨ st = spREGEN ∨ (st = spSHORT ∧ (d.deck n).spn.shortWhy = 0) then d.chargeFree n else d

/-- A spindle command ends with a result. -/
def Dev.spnEnd (n result : Nat) (d : Dev) : Dev :=
  ((d.onDeck n (fun k => { k with spn := { k.spn with cmd := 0 } })).set (Reg.SPN_CMD_BUSY n) 0).set
    (Reg.SPN_CMD_RESULT n) result

/-- A sled command ends with a result. -/
def Dev.sldEnd (n result : Nat) (d : Dev) : Dev :=
  ((d.onDeck n (fun k => { k with sled := { k.sled with cmd := 0 } })).set (Reg.SLD_CMD_BUSY n) 0).set
    (Reg.SLD_CMD_RESULT n) result

/-- The sled's bridges go off: motion abandoned, POS_OK lost (R331). -/
def Dev.sledOff (n : Nat) (d : Dev) : Dev :=
  let busy := d.getB (Reg.SLD_CMD_BUSY n)
  let d := d.onDeck n (fun k => { k with sled := { k.sled with vel := 0, acc := 0, velTgt := 0, hold := false } })
  let d := if busy then d.sldEnd n 3 else d
  d.sets [(Reg.SLD_STS_STATE n, slDISABLED), (Reg.SLD_STS_POS_OK n, 0), (Reg.SLD_STS_VEL n, 0),
    (Reg.SLD_STS_LOAD n, 0), (Reg.SLD_STS_CHOP n, 0)]

/-- Winding short begins, as the stop of R298 or the restart of R296. -/
def Dev.spnShort (n why : Nat) (d : Dev) : Dev :=
  (d.onDeck n (fun k => { k with spn := { k.spn with shortWhy := why } })).spnState n spSHORT

/-! ### FAULT (R355, R366) -/

/-- A sequencer command ends. -/
def Dev.seqEnd (n result : Nat) (d : Dev) : Dev :=
  ((d.onDeck n (fun k => { k with seq := { k.seq with job := 0, pendPark := false } })).set (Reg.SEQ_CTL_BUSY n) 0).set
    (Reg.SEQ_CTL_RESULT n) result

/-- The deck enters FAULT with a cause: gate closed, lanes in standby, timebase disabled, charge released, record made
(R53, R355, R366, R370). -/
def Dev.deckFault (c : Clock) (n cause : Nat) (d : Dev) : Dev :=
  if d.dstate n = dFAULT then d.set (Reg.SEQ_STS_CAUSE n) cause
  else
    let left := d.dstate n
    let d := if d.getB (Reg.SEQ_CTL_BUSY n) then d.seqEnd n (if left = dABSENT then 2 else 3) else d.onDeck n (fun k => { k with seq := { k.seq with
      job := 0, pendPark := false } })
    let d := ((d.deckState n dFAULT).set (Reg.SEQ_STS_CAUSE n) cause).onDeck n (fun k => { k with primer := none })
    let d := (d.set (Reg.SEQ_STS_STEP n) 0).chargeFree n
    let d := d.onDeck n (fun k => { k with seq := { k.seq with
      chargeReq := none, rehome := 0, writing := false, newZone := none, newMode := none } })
    let d := (d.set (Reg.SEQ_STS_BUDGET_WAIT n) 0).lanesStandby n
    let d := (d.gateShut c n).tbDisable c n
    d.fault c (.deck n) { cls := 4, code := 5, sev := 2, detail := le 1 cause ++ le 1 left }

/-- The safe state of the loops (R258). -/
def Dev.safeState (c : Clock) (n : Nat) (d : Dev) : Dev :=
  let d := (d.gateClose n gLOOP).laser n 1
  let d := (List.range 8).foldl (fun d s => match ((d.deck n).slot s).swap with
    | some _ => d.swapEnd n s 4
    | none => d) d
  let d := (List.range 8).foldl (fun d s => if s = 4 then d else d.profStop n s) d
  let d := (d.defocus n).slotForce n 1 0
  let d := [2, 3, 5, 6, 7].foldl (fun d s =>
    if 2 ≤ d.get (Reg.LOOP_STS_MODE n s) then d.slotForce n s 1
    else d.set (Reg.LOOP_SLOT_CTL_MODE n s) (d.get (Reg.LOOP_STS_MODE n s))) d
  let d := [0, 1, 2, 3, 5, 6, 7].foldl (fun d s =>
    (d.learnDrop n s).onSlot n s (fun a => { a with pendMode := none })) d
  (d.set (Reg.LOOP_ENG_STS_SAFE n) 1).tbDisable c n

end Sys2Proof.Machine
end

