-- ==== Sys2Proof/Machine/Lanes.lean ====
section
/-! DEFINITION. Machine/Lanes.lean: lanes and the read front end (spec file 05): loops, winnow, spare lanes and swaps. -/

namespace Sys2Proof.Machine

/-- LSTATE codes of R148. -/
def lACTIVE : Nat := 0
def lSHADOW : Nat := 1
def lSPARE : Nat := 2
def lTEST : Nat := 3
def lRETIRED : Nat := 4

/-- A lane's state (R129). -/
def Dev.lstate (d : Dev) (n l : Nat) : Nat := d.get (Reg.LANE_STATE_LSTATE n l)

/-- "The block runs" for LANE (R137): ACTIVE or SHADOW and not in standby. -/
def laneRuns (d : Dev) (n l : Nat) : Bool := decide (d.lstate n l ≤ 1) && !d.getB (Reg.LANE_STATE_STBY n l)

/-! ### The adaptive loops (R119, R120, R122) -/

/-- A converter code after the calibration corrections of its lane (R603): OFS_COR ÷ 16 LSB taken off, then scaled by
1 + GAIN_COR ÷ 1,024. DEDUCED, log 29. -/
def laneCode (d : Dev) (n l : Nat) (y : Int) : Int :=
  Config.rnd ((16 * y - d.getI (Reg.TST_LANE_CAL_OFS_COR n l)) * (1024 + d.getI (Reg.TST_LANE_CAL_GAIN_COR n l))) 16384

/-- Samples in sixteenths after the asymmetry correction: 16 y − β. -/
def yPrime (beta : Int) (ys : List Int) : List Int := ys.map (fun y => 16 * y - beta)

/-- The sign decision of R120. -/
def dsign (y : Int) : Int := if 0 ≤ y then 1 else -1

/-- A loop shift, reduced by ACQ_DELTA in an acquisition span (R122). -/
def acqShift (d : Dev) (n l shift : Nat) : Nat :=
  if 0 < ((d.deck n).lane l).acq then shift - d.get (Reg.LANE_GAIN_CFG_ACQ_DELTA n l) else shift

/-- Gain loop (R120): code and its eight fraction bits. -/
def gainLoop (n l : Nat) (ys : List Int) (d : Dev) : Dev :=
  let sum := (ys.map (fun y => (y.natAbs : Int))).sum
  let g := (d.get (Reg.LANE_LOOP_VAL_GAIN n l) : Int) * 256 + ((d.deck n).lane l).gainFr
  let g' := clampI 0 (1023 * 256) (g + Config.rnd ((d.get (Reg.LANE_GAIN_CFG_AMP_TGT n l) : Int) * 256 - sum)
    (2 ^ acqShift d n l (d.get (Reg.LANE_GAIN_CFG_G_SHIFT n l))))
  let d := (d.set (Reg.LANE_LOOP_VAL_GAIN n l) (g'.toNat / 256)).onLane n l (fun a => { a with gainFr := g'.toNat % 256 })
  if g' ≤ 0 ∨ 1023 * 256 ≤ g' then d.set (Reg.LANE_TR_STS_LIM_G n l) 1 else d

/-- Offset loop (R120). -/
def ofsLoop (n l : Nat) (ys : List Int) (d : Dev) : Dev :=
  let amp := (d.get (Reg.LANE_GAIN_CFG_AMP_TGT n l) : Int)
  let hi := ys.filter (fun y => decide (amp ≤ 2 * y))
  let lo := ys.filter (fun y => decide (2 * y ≤ -amp))
  if hi = [] ∨ lo = [] then d
  else
    let num := 2 * (hi.sum * lo.length + lo.sum * hi.length)
    let o := d.getI (Reg.LANE_LOOP_VAL_OFS n l) -
      Config.rnd num (hi.length * lo.length * 2 ^ acqShift d n l (d.get (Reg.LANE_GAIN_CFG_O_SHIFT n l)))
    let d := d.setI (Reg.LANE_LOOP_VAL_OFS n l) o
    if o ≤ -128 ∨ 127 ≤ o then d.set (Reg.LANE_TR_STS_LIM_O n l) 1 else d

/-- Asymmetry loop (R120). -/
def asymLoop (n l : Nat) (ys : List Int) (d : Dev) : Dev :=
  let y := yPrime (d.getI (Reg.LANE_LOOP_VAL_ASYM n l)) ys
  let cr := (y.zip (y.drop 1)).filter (fun p => decide (dsign p.1 ≠ dsign p.2))
  if cr = [] then d
  else
    let b := d.getI (Reg.LANE_LOOP_VAL_ASYM n l) + Config.rnd ((cr.map (fun p => p.1 + p.2)).sum)
      (2 * cr.length * 2 ^ acqShift d n l (d.get (Reg.LANE_GAIN_CFG_A_SHIFT n l)))
    let d := d.setI (Reg.LANE_LOOP_VAL_ASYM n l) b
    if b ≤ -128 ∨ 127 ≤ b then d.set (Reg.LANE_TR_STS_LIM_A n l) 1 else d

/-- Timing loop over a 32-sample block, with the sample before it (R120). -/
def timingLoop (n l : Nat) (prev : Int) (ys : List Int) (d : Dev) : Dev :=
  let y := yPrime (d.getI (Reg.LANE_LOOP_VAL_ASYM n l)) (prev :: ys)
  let z := ((y.zip (y.drop 1)).map (fun p => p.2 * dsign p.1 - p.1 * dsign p.2)).sum
  let ki := acqShift d n l (d.get (Reg.LANE_TR_CFG_KI_SHIFT n l))
  let kp := acqShift d n l (d.get (Reg.LANE_TR_CFG_KP_SHIFT n l))
  let lim := Config.rnd ((d.get (Reg.LANE_TR_CFG_FREQ_LIM n l) : Int) * 32 * 2 ^ 36) 1000000
  let a := (d.deck n).lane l
  let f0 := a.freq + z * 2 ^ (32 - ki)
  let f := clampI (-lim) lim f0
  let d := d.onLane n l (fun a => { a with freq := f, ph := a.ph + z * 2 ^ (32 - kp) + f })
  let d := d.setI (Reg.LANE_TR_STS_FREQ n l) (Config.rnd (f * 1000000) (32 * 2 ^ 36))
  if lim ≤ (f.natAbs : Int) then d.set (Reg.LANE_TR_STS_LIM_T n l) 1 else d

/-- The loops are loaded from LOOP_INIT and an acquisition span starts (R122, R128). -/
def loopInit (n l : Nat) (d : Dev) : Dev :=
  let d := d.sets [(Reg.LANE_LOOP_VAL_GAIN n l, d.get (Reg.LANE_LOOP_INIT_GAIN_INIT n l)),
    (Reg.LANE_LOOP_VAL_OFS n l, d.get (Reg.LANE_LOOP_INIT_OFS_INIT n l)),
    (Reg.LANE_LOOP_VAL_ASYM n l, d.get (Reg.LANE_LOOP_INIT_ASYM_INIT n l))]
  (d.onLane n l (fun a => { a with gainFr := 0, reinit := false })).laneAcq n l true

/-- Samples of a data gap (R119). -/
def gapLen (d : Dev) (n : Nat) : Nat := d.get (Reg.DET_MAP_CFG_P n) - 240

/-- Whether samples a to b − 1 of the gap in hand hold chaff: of spans that have ended, or of the one in progress (R125). -/
def chaffIn (d : Dev) (n l a b : Nat) : Bool :=
  let x := (d.deck n).lane l
  x.chaff.any (fun p => decide (a < p.2) && decide (p.1 < b)) ||
    (d.getB (Reg.LANE_WIN_STS_FLAG n l) && decide (x.spanAt - d.get (Reg.LANE_WIN_SPAN_PRE n l) < b))

/-- LANE_LOOP_BLOCK: one block of samples ends, from a sample of its data gap on (R119, R120). A block of 32 samples drives the
timing loop, a block of 256 the other three; a REINIT takes effect at its end, in place of the update (R128). -/
def laneLoopBlock (n l : Nat) (timing : Bool) (pos : Nat) (prev : Int) (ys : List Int) (d : Dev) : Dev :=
  let prev := laneCode d n l prev
  let ys := ys.map (laneCode d n l)
  let len := if timing then 32 else 256
  let init := ((d.deck n).lane l).reinit
  let ok := laneRuns d n l && decide (2 ≤ d.tbState n) && decide (pos % len = 0) && decide (pos + len ≤ gapLen d n) &&
    !chaffIn d n l pos (pos + len) && !init
  let d := if timing then
      let d := if ok && !d.getB (Reg.LANE_LOOP_CTL_HOLD_T n l) then timingLoop n l prev ys d
        else d.onLane n l (fun a => { a with ph := a.ph + a.freq })
      d.onLane n l (fun a => { a with acq := a.acq - 32 })
    else if ok then
      let d := if d.getB (Reg.LANE_LOOP_CTL_HOLD_G n l) then d else gainLoop n l ys d
      let d := if d.getB (Reg.LANE_LOOP_CTL_HOLD_O n l) then d else ofsLoop n l ys d
      if d.getB (Reg.LANE_LOOP_CTL_HOLD_A n l) then d else asymLoop n l ys d
    else d
  if init then loopInit n l d else d

/-! ### The winnow (R123 to R127) -/

/-- ENV of R123. -/
def winEnv (ys : List Int) : Int := (ys.foldl max (-32)) - (ys.foldl min 31)

/-- RES of R123, in 1/(32 × 256) LSB². -/
def winRes (amp beta : Int) (ys : List Int) : Int :=
  ((yPrime beta ys).map (fun y => (((y.natAbs : Int) - 16 * amp) * ((y.natAbs : Int) - 16 * amp)))).sum

/-- CLIP of R123. -/
def winClip (ys : List Int) : Nat := (ys.filter (fun y => y == -32 || y == 31)).length

/-- A data gap begins at a lane: the chaff of the gap before is done with, a span in progress goes on from the first sample
(R125). The gap's number is the wedge's. DESIGN CHOICE, log 99. -/
def gapStart (c : Clock) (n l : Nat) (d : Dev) : Dev :=
  let x := (d.deck n).lane l
  let d := if d.getB (Reg.LANE_WIN_STS_FLAG n l) then
      d.onLaneMargin n l (fun m => { m with chaff := m.chaff + (gapLen d n - (x.spanAt - d.get (Reg.LANE_WIN_SPAN_PRE n l))) })
    else d
  d.onLane n l (fun a => { a with gap := c.grain n / 16384, spanAt := 0, chaff := [] })

/-- Whether stream bits a to b − 1 of a beam position touch the sector whose sync was accepted last, from its sync to the end of
its tail (R127, R157). -/
def inAccepted (k : Deck) (beam : Nat) (a b : Int) : Bool :=
  match FMap.get (fun _ => none) k.accepted beam with
  | some p => decide (((slotBits * p.1 : Nat) : Int) + 64 + p.2 < b) && decide (a < ((slotBits * p.1 : Nat) : Int) + 38336 + p.2)
  | none => false

/-- The flag falls at a sample: the span's chaff, the counts, and acquisition after a long span (R122, R124 to R127). -/
def spanEnd (n l stop : Nat) (d : Dev) : Dev :=
  let x := (d.deck n).lane l
  let c0 := x.spanAt - d.get (Reg.LANE_WIN_SPAN_PRE n l)
  let c1 := min (gapLen d n) (stop + d.get (Reg.LANE_WIN_SPAN_POST n l))
  let at' := ((gapLen d n * x.gap : Nat) : Int)
  let hit := inAccepted (d.deck n) (d.get (Reg.LANE_STATE_SRC n l)) (at' + x.spanAt) (at' + stop)
  let d := (d.set (Reg.LANE_WIN_STS_FLAG n l) 0).onLane n l (fun a => { a with
    upLen := 0, onCnt := 0, long := false, chaff := a.chaff ++ [(c0, c1)] })
  let d := d.onLaneMargin n l (fun m => { m with
    chaff := m.chaff + (c1 - c0), spans := if hit then satAdd 16 m.spans 1 else m.spans })
  let d := if hit then d.bump (Reg.LANE_WIN_STS_SPANS n l) 1 else d
  if x.long then d.laneAcq n l true else d

/-- WINNOW_WINDOW: one window of 32 samples, at a sample number of its data gap (R123, R124). Runs of windows carry over from one
gap to the next, and a span that began in the gap before starts at sample 0. DESIGN CHOICE, log 99. -/
def winnowWindow (c : Clock) (n l pos : Nat) (ys : List Int) (d : Dev) : Dev :=
  if laneRuns d n l = false ∨ d.tbState n < 2 then d
  else
    let d := if pos = 0 then gapStart c n l d else d
    let clip := winClip ys
    let ys := ys.map (laneCode d n l)
    let env := winEnv ys
    let res := winRes (d.get (Reg.LANE_GAIN_CFG_AMP_TGT n l)) (d.getI (Reg.LANE_LOOP_VAL_ASYM n l)) ys
    let sat := d.get (Reg.LANE_WIN_CFG_SAT_ON n l)
    let on := decide (env < d.get (Reg.LANE_WIN_CFG_ENV_LO_ON n l)) ||
      decide ((d.get (Reg.LANE_WIN_RES_RES_ON n l) : Int) * 8192 < res) || (decide (sat ≤ clip) && sat != 0)
    let off := decide ((d.get (Reg.LANE_WIN_CFG_ENV_LO_OFF n l) : Int) ≤ env) &&
      decide (res ≤ (d.get (Reg.LANE_WIN_RES_RES_OFF n l) : Int) * 8192) && (decide (clip < sat) || sat == 0)
    let flag := d.getB (Reg.LANE_WIN_STS_FLAG n l)
    let d := d.onLane n l (fun a => { a with
      onCnt := if on then a.onCnt + 1 else 0, offCnt := if off && !on then a.offCnt + 1 else 0,
      upLen := if flag then a.upLen + 32 else 0 })
    let a := (d.deck n).lane l
    let onN := d.get (Reg.LANE_WIN_CFG_ON_CNT n l)
    let offN := d.get (Reg.LANE_WIN_CFG_OFF_CNT n l)
    if flag = false ∧ on ∧ onN ≤ a.onCnt then
      (d.set (Reg.LANE_WIN_STS_FLAG n l) 1).onLane n l (fun a => { a with
        upLen := 0, spanAt := pos + 32 - 32 * onN, long := false, offCnt := 0 })
    else if flag ∧ off ∧ offN ≤ a.offCnt then spanEnd n l (pos + 32 - 32 * offN) d
    else d

/-- WINNOW_LONG_SPAN (R126): the flag has stayed up for more than MAX_SPAN samples, within the window that follows those
counted; the deck core is told. -/
def winnowLongSpan (n l : Nat) (d : Dev) : Dev :=
  if d.getB (Reg.LANE_WIN_STS_FLAG n l) ∧ d.get (Reg.LANE_WIN_SPAN_MAX_SPAN n l) < ((d.deck n).lane l).upLen + 32 then
    ((d.set (Reg.LANE_WIN_STS_LONG n l) 1).onLane n l (fun a => { a with long := true })).onDeck n (fun k => { k with
      longs := if k.longs.contains l then k.longs else k.longs ++ [l] })
  else d

/-- REINIT (R128, R145): at the next block boundary. -/
def reinit (n l : Nat) (d : Dev) : Dev := d.onLane n l (fun a => { a with reinit := true })

/-- CLR_CNT (R145). -/
def clrCnt (n l : Nat) (d : Dev) : Dev :=
  (d.set (Reg.LANE_TR_STS_SLIPS n l) 0).set (Reg.LANE_WIN_STS_SPANS n l) 0

/-- LANE_STANDBY_EXIT (R130): 20 microseconds after its release the lane is out of standby. -/
def laneStandbyExit (n l : Nat) (d : Dev) : Dev :=
  if ((d.deck n).lane l).waking ∧ 20 * tickUs ≤ d.age n (aWAKE l) then
    (d.set (Reg.LANE_STATE_STBY n l) 0).onLane n l (fun a => { a with waking := false })
  else d

/-! ### Equaliser sides at an erased neighbour (R156) -/

/-- Key of an equaliser tap: beam position, side (0 own, 1 inward, 2 outward), tap. -/
def tapKey (beam side tap : Nat) : Nat := beam * 64 + side * 16 + tap

/-- Reset value of an initial-set tap: 1.0 in Q2.9 at the centre of the own side (R158). -/
def tapReset (key : Nat) : Int := if key % 64 = 7 then 512 else 0

/-- A tap of the initial set. -/
def Deck.initTap (k : Deck) (key : Nat) : Int := FMap.get tapReset k.initTaps key

/-- A tap in force. -/
def Deck.tap (k : Deck) (key : Nat) : Int := FMap.get tapReset k.taps key

/-- Whether a side of equaliser k is held at zero (R156). -/
def eqHeld (d : Dev) (n k : Nat) : Nat → Bool
  | 1 => k == 0 || d.getB (Reg.LANE_STATE_ERASED n (k - 1))
  | 2 => k == 63 || d.getB (Reg.LANE_STATE_ERASED n (k + 1))
  | _ => false

/-- Load one side of an equaliser from its initial set; a side held at zero stays so (R156, R158). -/
def eqSideInit (n beam side : Nat) (d : Dev) : Dev :=
  if eqHeld d n beam side then d
  else d.onDeck n (fun k => { k with taps := (List.range 15).foldl (fun m t =>
    FMap.set tapReset m (tapKey beam side t) (k.initTap (tapKey beam side t))) k.taps })

/-- A beam position is served again: the facing sides of its neighbours restart (R156). -/
def eqNeighbours (n beam : Nat) (d : Dev) : Dev :=
  let d := if beam < 63 then eqSideInit n (beam + 1) 1 d else d
  if 0 < beam then eqSideInit n (beam - 1) 2 d else d

/-! ### Spare control (R132 to R135) -/

/-- A spare command ends in error (R132, R134). -/
def spareErr (n s : Nat) (d : Dev) : Dev := d.set (Reg.LANE_SPARE_CTL_RESULT n s) 2

/-- The other spare lane. -/
def otherSpare (s : Nat) : Nat := 64 + (1 - s)

/-- One lane's loop values copied to another (R132). -/
def copyLoops (n src dst : Nat) (d : Dev) : Dev :=
  let d := d.sets [(Reg.LANE_LOOP_VAL_GAIN n dst, d.get (Reg.LANE_LOOP_VAL_GAIN n src)),
    (Reg.LANE_LOOP_VAL_OFS n dst, d.get (Reg.LANE_LOOP_VAL_OFS n src)),
    (Reg.LANE_LOOP_VAL_ASYM n dst, d.get (Reg.LANE_LOOP_VAL_ASYM n src)),
    (Reg.LANE_TR_STS_FREQ n dst, d.get (Reg.LANE_TR_STS_FREQ n src))]
  let a := (d.deck n).lane src
  d.onLane n dst (fun b => { b with gainFr := a.gainFr, freq := a.freq, ph := a.ph })

/-- A lane takes a state and an input, and leaves or enters standby as they ask (R129, R130). -/
def laneTo (n l st src : Nat) (d : Dev) : Dev :=
  ((d.set (Reg.LANE_STATE_LSTATE n l) st).set (Reg.LANE_STATE_SRC n l) src).laneFit n l

/-- The lane that serves a beam position (R116). -/
def servingLane (d : Dev) (n beam : Nat) : Option Nat :=
  [beam, 64, 65].find? (fun l => d.lstate n l == lACTIVE && d.get (Reg.LANE_STATE_SRC n l) == beam)

/-- Common part of a CMD write: TRIG and TARGET take the values written, those of a write refused under TST_OWN too; nothing starts
while BUSY or owned (R132, R134, R150). DESIGN CHOICE, log 99. -/
def spareCmd (n s trig target : Nat) (d : Dev) (go : Dev → Dev) : Dev :=
  if d.getB (Reg.LANE_SPARE_CTL_BUSY n s) then d
  else
    let d := (d.set (Reg.LANE_SPARE_CTL_TRIG n s) trig).set (Reg.LANE_SPARE_CTL_TARGET n s) target
    if d.getB (Reg.LANE_SPARE_CTL_TST_OWN n s) ∨ 63 < target then spareErr n s d else go d

/-- SHADOW (R132): at once. -/
def spareShadow (n s trig target : Nat) (d : Dev) : Dev :=
  spareCmd n s trig target d (fun d =>
    let l := 64 + s
    let nat := d.lstate n target
    let ok := d.lstate n l == lSPARE &&
      (nat == lACTIVE || (nat == lRETIRED && d.getB (Reg.LANE_STATE_ERASED n target))) &&
      d.get (Reg.LANE_STATE_SRC n (otherSpare s)) != target
    if !ok then spareErr n s d
    else
      let d := match servingLane d n target with
        | some v => copyLoops n v l d
        | none => loopInit n l d
      (laneTo n l lSHADOW target d).set (Reg.LANE_SPARE_CTL_RESULT n s) 1)

/-- A swap is requested and waits for its trigger and guard (R133, R134); one on a trigger below 16 ends with RESULT = ERR.
DESIGN CHOICE, log 99. -/
def spareWait (n s trig : Nat) (back : Bool) (d : Dev) : Dev :=
  if trig < 16 ∨ d.getB (Reg.ANG_TRIG_CFG_ARM n trig) = false ∨ d.get (Reg.ANG_TRIG_CFG_MODE n trig) = 0 ∨ d.tbState n < 2 then
    d.spareEnd n s (if trig < 16 then 2 else 3)
  else (d.set (Reg.LANE_SPARE_CTL_BUSY n s) 1).onDeck n (fun k => { k with
    spare := k.spare.ins s (some { back := back, trig := trig }) })

/-- SWAP (R132). -/
def spareSwap (n s trig target : Nat) (d : Dev) : Dev :=
  spareCmd n s trig target d (fun d =>
    if d.lstate n (64 + s) = lSHADOW ∧ d.get (Reg.LANE_STATE_SRC n (64 + s)) = target then spareWait n s trig false d
    else spareErr n s d)

/-- SWAP_BACK (R132). -/
def spareSwapBack (n s trig target : Nat) (d : Dev) : Dev :=
  spareCmd n s trig target d (fun d =>
    if d.lstate n (64 + s) = lACTIVE ∧ d.get (Reg.LANE_STATE_SRC n (64 + s)) = target ∧ d.lstate n target = lSHADOW then
      spareWait n s trig true d
    else spareErr n s d)

/-- RELEASE (R132): at once. -/
def spareRelease (n s trig target : Nat) (d : Dev) : Dev :=
  spareCmd n s trig target d (fun d =>
    if d.lstate n (64 + s) = lSHADOW then
      (laneTo n (64 + s) lSPARE 127 d).set (Reg.LANE_SPARE_CTL_RESULT n s) 1
    else spareErr n s d)

/-- NATIVE_SHADOW (R132): at once. -/
def spareNativeShadow (n s trig target : Nat) (d : Dev) : Dev :=
  spareCmd n s trig target d (fun d =>
    if d.lstate n (64 + s) = lACTIVE ∧ d.get (Reg.LANE_STATE_SRC n (64 + s)) = target ∧ d.lstate n target = lTEST then
      (laneTo n target lSHADOW target (copyLoops n (64 + s) target d)).set (Reg.LANE_SPARE_CTL_RESULT n s) 1
    else spareErr n s d)

/-- The swap itself (R132): the spare takes the beam position, or gives it back. -/
def swapMake (n s : Nat) (back : Bool) (d : Dev) : Dev :=
  let l := 64 + s
  let t := d.get (Reg.LANE_STATE_SRC n l)
  if back then laneTo n l lSPARE 127 (laneTo n t lACTIVE t d)
  else
    let was := d.getB (Reg.LANE_STATE_ERASED n t)
    let d := if d.lstate n t = lACTIVE then laneTo n t lTEST 127 d else d
    let d := (laneTo n l lACTIVE t d).set (Reg.LANE_STATE_ERASED n t) 0
    (if was then eqNeighbours n t d else d).gateShow n

/-- SPARE_SWAP_AT_GUARD: bit 16 of a sector guard (R133, R134). -/
def spareSwapAtGuard (n s : Nat) (d : Dev) : Dev :=
  match (d.deck n).sparePend s with
  | none => d
  | some p =>
    if p.fired = false ∧ p.forced = false then d
    else
      let l := 64 + s
      let t := d.get (Reg.LANE_STATE_SRC n l)
      let clean := !d.getB (Reg.LANE_WIN_STS_FLAG n l) && (decide (1 < d.lstate n t) || !d.getB (Reg.LANE_WIN_STS_FLAG n t)) &&
        d.tbState n == tbLOCKED
      if clean ∨ p.forced then (swapMake n s p.back d).spareEnd n s 1
      else if 16 ≤ p.guards + 1 then d.spareEnd n s 3
      else d.onDeck n (fun k => { k with spare := k.spare.ins s (some { p with guards := p.guards + 1 }) })

/-- The firing of a trigger that a pending swap names (R133). -/
def sparesAtTrig (n t : Nat) (d : Dev) : Dev :=
  [0, 1].foldl (fun d s => match (d.deck n).sparePend s with
    | some p => if p.trig = t ∧ p.forced = false then
        d.onDeck n (fun k => { k with spare := k.spare.ins s (some { p with fired := true }) }) else d
    | none => d) d

/-- The sector in progress on the track of a beam position becomes an erasure (R135). -/
def sectorLost (n beam : Nat) (d : Dev) : Dev :=
  let cut := (d.deck n).blocks.filter (fun b => b.ended.isNone && (b.dec.getD beam .notRead == .waiting))
  let d := dieDrop (dieOf n) (fun s => s.deck == n && s.beam == beam && cut.any (fun b => b.slot == s.slot)) d
  d.onDeck n (fun k => { k with blocks := mapIf (fun b => cut.any (fun x => x.slot == b.slot)) (fun b => { b with
    dec := setAt b.dec beam .erased }) k.blocks })

/-- A beam position is erased, and the sector in progress on its track with it (R135). -/
def beamErase (n beam : Nat) (wasOpen : Bool) (d : Dev) : Dev :=
  (sectorLost n beam (d.set (Reg.LANE_STATE_ERASED n beam) 1)).gateKept n wasOpen

/-- A lane is retired (R134, R135). DEDUCED, log 31. DESIGN CHOICE, log 99. -/
def laneRetire (n l : Nat) (d : Dev) : Dev :=
  let was := d.lstate n l
  let t := d.get (Reg.LANE_STATE_SRC n l)
  let open' := decide (d.openMask n ≠ 0)
  let d := laneTo n l lRETIRED 127 d
  if was ≠ lACTIVE then d
  else match [0, 1].find? (fun s => d.lstate n (64 + s) == lSHADOW && d.get (Reg.LANE_STATE_SRC n (64 + s)) == t) with
    | some s => if l < 64 then
        (d.set (Reg.LANE_SPARE_CTL_BUSY n s) 1).onDeck n (fun k => { k with
          spare := k.spare.ins s (some { back := false, trig := 0, forced := true }) })
      else beamErase n t open' d
    | none => beamErase n t open' d

/-- Lanes that the fuse rows retire, and the spares that serve their beam positions, when the domain leaves reset
(R136). -/
def lanesFromFuses (n : Nat) (retired : List Nat) (d : Dev) : Dev :=
  let d := retired.foldl (fun d l => if d.lstate n l = lRETIRED then d else laneRetire n l d) d
  (List.range 64).foldl (fun d b =>
    if d.getB (Reg.LANE_STATE_ERASED n b) then
      match [64, 65].find? (fun l => d.lstate n l == lSPARE) with
      | some l => (laneTo n l lACTIVE b d).set (Reg.LANE_STATE_ERASED n b) 0
      | none => d
    else d) d

/-! ### Lane modes (R113, R131) -/

/-- The deck takes a lane mode: in CG1 spare 0 shadows the lane of beam position 32, where it is free to; the lanes not in use go to
standby (R113, R130, R131). DEDUCED, log 104. -/
def laneModeSet (n m : Nat) (d : Dev) : Dev :=
  let was := (d.deck n).seq.laneMode
  let d := d.onDeck n (fun k => { k with seq := { k.seq with laneMode := m } })
  let free := !d.getB (Reg.LANE_SPARE_CTL_BUSY n 0) && !d.getB (Reg.LANE_SPARE_CTL_TST_OWN n 0)
  let d := if m = 1 then
      (if free && d.lstate n 64 == lSPARE && d.lstate n 32 == lACTIVE && d.get (Reg.LANE_STATE_SRC n 65) != 32 then
        laneTo n 64 lSHADOW 32 (copyLoops n 32 64 d) else d)
    else if was == 1 && free && d.lstate n 64 == lSHADOW && d.get (Reg.LANE_STATE_SRC n 64) == 32 then laneTo n 64 lSPARE 127 d
    else d
  (List.range 66).foldl (fun d l => d.laneFit n l) d

/-! ### Consistency rules (R137) -/

/-- The first failing rule of a lane. -/
def laneRule (d : Dev) (n l : Nat) : Option Nat :=
  let g := fun (f : Nat → Nat → Fld) => d.get (f n l)
  let del := g Reg.LANE_GAIN_CFG_ACQ_DELTA
  if ¬g Reg.LANE_WIN_CFG_ENV_LO_ON < g Reg.LANE_WIN_CFG_ENV_LO_OFF then some 1
  else if ¬g Reg.LANE_WIN_RES_RES_OFF < g Reg.LANE_WIN_RES_RES_ON then some 2
  else if ¬(8 ≤ g Reg.LANE_GAIN_CFG_AMP_TGT ∧ g Reg.LANE_GAIN_CFG_AMP_TGT ≤ 24) then some 3
  else if ¬(g Reg.LANE_WIN_SPAN_PRE ≤ 96 ∧ 1 ≤ g Reg.LANE_WIN_CFG_ON_CNT ∧ g Reg.LANE_WIN_CFG_ON_CNT ≤ 5 ∧
      1 ≤ g Reg.LANE_WIN_CFG_OFF_CNT ∧ g Reg.LANE_WIN_SPAN_PRE + 32 * g Reg.LANE_WIN_CFG_ON_CNT ≤ 256) then some 4
  else if ¬g Reg.LANE_TR_CFG_KP_SHIFT < g Reg.LANE_TR_CFG_KI_SHIFT then some 5
  else if ¬(del < g Reg.LANE_GAIN_CFG_G_SHIFT ∧ del < g Reg.LANE_GAIN_CFG_O_SHIFT ∧ del < g Reg.LANE_GAIN_CFG_A_SHIFT ∧
      del < g Reg.LANE_TR_CFG_KP_SHIFT) then some 6
  else none

/-- The lowest rule number that fails on any lane (R137). -/
def laneRules (d : Dev) (n : Nat) : Option Nat :=
  let fails := (List.range 66).filterMap (fun l => laneRule d n l)
  [1, 2, 3, 4, 5, 6].find? (fun r => fails.contains r)

end Sys2Proof.Machine
end

