-- ==== Sys2Proof/Machine/Decoder.lean ====
section
/-! DEFINITION. Machine/Decoder.lean: from equaliser outputs to payloads (spec file 06): the equalisers and their adaptation, the
sequence detector, the demapper, places on a track, sync candidates, the min-sum decoder and the priors of a turbo pass. -/

namespace Sys2Proof.Machine

/-! ### Equalisers (R154 to R157, R159) -/

/-- The equaliser's output for one bit, over 15 samples of each side, in Q2.9 times LSB (R154). -/
def eqOut (own inn out : List Int) (cOwn cIn cOut : List Int) : Int :=
  ((own.zip cOwn).map (fun p => p.1 * p.2)).sum + ((inn.zip cIn).map (fun p => p.1 * p.2)).sum +
    ((out.zip cOut).map (fun p => p.1 * p.2)).sum

/-- One LMS update of a tap, saturated to its 12 bits (R155, R157): e in 1/512 LSB, y in LSB. -/
def lmsTap (cf e y : Int) (mu : Nat) : Int := clampI (-2048) 2047 (cf - Config.rnd (e * y) (2 ^ mu))

/-- The target set equaliser k adapts to: a glean's, or its own (R159, R174). -/
def eqTarget (d : Dev) (n k : Nat) : Nat :=
  let g := (d.deck n).glean
  if 0 < g ∧ d.getB (Reg.DET_GLEAN_SET_TGT_OWN n g) = false then d.get (Reg.DET_GLEAN_SET_TGT_SEL n g)
  else d.get (Reg.DET_BCFG_TGT_SEL n k)

/-- The target taps of equaliser k. -/
def eqGoal (d : Dev) (n k : Nat) : List Int :=
  let t := eqTarget d n k
  [d.getI (Reg.DET_TGT_G0 n t), d.getI (Reg.DET_TGT_G1 n t), d.getI (Reg.DET_TGT_G2 n t), d.getI (Reg.DET_TGT_G3 n t)]

/-- The output of equaliser k for a bit; sides held at zero count nothing (R154, R156). -/
def eqBitOut (d : Dev) (n k : Nat) (b : EqBit) : Int :=
  let set := fun (s : Nat) => (List.range 15).map (fun t => if eqHeld d n k s then 0 else (d.deck n).tap (tapKey k s t))
  eqOut b.own b.inn b.out (set 0) (set 1) (set 2)

/-- One adaptation of equaliser k at a bit, from its output and the decisions a[i] to a[i − 3] (R157). -/
def eqStep (n k mu : Nat) (b : EqBit) (z : Int) (a : List Bool) (d : Dev) : Dev :=
  let x := d.deck n
  let e := z - 8 * (((eqGoal d n k).zip a).map (fun p => if p.2 then p.1 else -p.1)).sum
  let one := fun (s : Nat) (ys : List Int) (m : FMap Int) =>
    if eqHeld d n k s then m
    else (List.range 15).foldl (fun m i => FMap.set tapReset m (tapKey k s i) (lmsTap (x.tap (tapKey k s i)) e (ys.getD i 0) mu)) m
  d.onDeck n (fun x => { x with taps := one 2 b.out (one 1 b.inn (one 0 b.own x.taps)) })

/-! ### The detector (R160, R161) -/

/-- A channel bit as a level: +1 for a mark, −1 for a space. -/
def level (b : Nat) : Int := if b % 2 = 1 then 1 else -1

/-- Level of channel bit i − k, from the bit i and the five bits before it (bit i − 1 lowest). -/
def levelAt (s b k : Nat) : Int := if k = 0 then level b else level (s / 2 ^ (k - 1))

/-- What the target makes of bits i − k to i − k − 3, in 1/64 LSB (R160). -/
def targetOut (g : List Int) (s b k : Nat) : Int := ((List.range 4).map (fun m => g.getD m 0 * levelAt s b (k + m))).sum

/-- The branch metric (R160): z of bits i, i − 1 and i − 2 in 1/512 LSB, target in 1/64, predictor in 2^-14; the first term in
2^-46 LSB², the prior brought to it. -/
def branch (g : List Int) (p1 p2 z0 z1 z2 prior : Int) (s b : Nat) : Int :=
  let n := fun (z : Int) (k : Nat) => z - 8 * targetOut g s b k
  let e := 2 ^ 14 * n z0 0 - p1 * n z1 1 - p2 * n z2 2
  e * e - Config.priorMetric prior * level b

/-- The state after a bit: the last five bits. -/
def nextState (s b : Nat) : Nat := (2 * s + b) % 32

/-- One step forward: the least metric with which each state is reached. -/
def viterbiF (m : Nat → Nat → Int) (al : List Int) : List Int :=
  (List.range 32).map (fun t =>
    min (al.getD (t / 2) 0 + m (t / 2) (t % 2)) (al.getD (t / 2 + 16) 0 + m (t / 2 + 16) (t % 2)))

/-- One step back: the least metric with which each state goes on. -/
def viterbiB (m : Nat → Nat → Int) (be : List Int) : List Int :=
  (List.range 32).map (fun s => min (m s 0 + be.getD (nextState s 0) 0) (m s 1 + be.getD (nextState s 1) 0))

/-- Metrics of the states before each of n bits and after the last, going forward. -/
def forwardAll (m : Nat → Nat → Nat → Int) (n : Nat) : List (List Int) :=
  ((List.range n).foldl (fun (l : List (List Int)) i => viterbiF (m i) (l.headD []) :: l) [List.replicate 32 0]).reverse

/-- Metrics with which the states go on from each of n bits and after the last. -/
def backwardAll (m : Nat → Nat → Nat → Int) (n : Nat) : List (List Int) :=
  (List.range n).reverse.foldl (fun (l : List (List Int)) i => viterbiB (m i) (l.headD []) :: l) [List.replicate 32 0]

/-- Least of a list of metrics. -/
def leastOf (l : List Int) : Int := l.tail.foldl min (l.headD 0)

/-- How much better 0 fits bit i than 1 does: the difference of the least metrics (R160). -/
def softDiff (m : Nat → Nat → Nat → Int) (al be : List (List Int)) (i : Nat) : Int :=
  let best := fun (b : Nat) => leastOf ((List.range 32).map (fun s =>
    (al.getD i []).getD s 0 + m i s b + (be.getD (i + 1) []).getD (nextState s b) 0))
  best 1 - best 0

/-- A log-likelihood ratio: units of 0.5, saturated to −31 to +31 (R161). -/
def softBit (diff : Int) : Int := clampI (-31) 31 (Config.llrOf diff)

/-- The 64 ratios of an output window, with 32 bits of warm-up before and after; a chaff sample and every bit of an erased
beam position give 0 (R160, R161). -/
def softWindow (m : Nat → Nat → Nat → Int) (chaff : Nat → Bool) (erased : Bool) : List Int :=
  let al := forwardAll m 128
  let be := backwardAll m 128
  (List.range 64).map (fun i => if erased || chaff (32 + i) then 0 else softBit (softDiff m al be (32 + i)))

/-- Branch metrics of beam position k of a deck over 128 bits: the target set it uses, the equaliser's output from two bits
earlier, and the priors (R159, R160). -/
def beamMetric (d : Dev) (n k : Nat) (z prior : Nat → Int) (i s b : Nat) : Int :=
  let t := eqTarget d n k
  branch (eqGoal d n k) (d.getI (Reg.DET_TGT_NP_P1 n t)) (d.getI (Reg.DET_TGT_NP_P2 n t)) (z (i + 2)) (z (i + 1)) (z i) (prior i) s b

/-- A window of soft values of beam position k. -/
def detect (d : Dev) (n k : Nat) (z prior : Nat → Int) (chaff : Nat → Bool) : List Int :=
  softWindow (beamMetric d n k z prior) chaff (d.getB (Reg.LANE_STATE_ERASED n k))

/-- An output of a stretch by its place; 0 outside it. -/
def outAt (o : Outs) (p : Int) : Int := if p < o.start then 0 else o.z.getD (p - o.start).toNat 0

/-- Whether the bit at a place is chaff; every bit outside the stretch is. -/
def outChaff (o : Outs) (p : Int) : Bool :=
  decide (p < o.start) || decide (o.start + o.z.length ≤ p) || o.chaff.getD (p - o.start).toNat false

/-- Soft values of consecutive bits: the first one's place, the values, which are chaff. -/
structure Soft where
  start : Int
  v : Array Int
  chaff : Array Bool

/-- A soft value by its place; 0 outside. -/
def Soft.at (s : Soft) (p : Int) : Int := if p < s.start then 0 else s.v.getD (p - s.start).toNat 0

/-- The hard decision at a place. -/
def Soft.hard (s : Soft) (p : Int) : Bool := decide (s.at p < 0)

/-- Whether the bit at a place is chaff. -/
def Soft.isChaff (s : Soft) (p : Int) : Bool := decide (p < s.start) || s.chaff.getD (p - s.start).toNat true

/-- Soft values of a stretch of beam position k, whose place 0 is data-stream offset `base`; output windows begin at multiples
of 64 of that offset. DESIGN CHOICE, log 96. -/
def softOf (d : Dev) (n k base : Nat) (prior : Int → Int) (o : Outs) : Soft :=
  let w0 : Int := (base + o.start) / 64 * 64 - base
  let skip := (o.start - w0).toNat
  let win := fun (i : Nat) =>
    let p : Int := w0 + 64 * i
    detect d n k (fun j => outAt o (p - 34 + j)) (fun j => prior (p - 32 + j)) (fun j => outChaff o (p - 32 + j))
  { start := o.start
    v := (((List.range (cdiv (o.z.length + skip) 64)).flatMap win).drop skip).toArray
    chaff := ((List.range o.z.length).map (fun i => outChaff o (o.start + i))).toArray }

/-! ### Tentative decisions (R157) -/

/-- One bit goes into the survivors of equaliser k; out of it comes, with a delay of 20 bits, a bit with its output, whether it may
adapt, and its decisions. -/
def tentPush (d : Dev) (n k : Nat) (b : EqBit) (z : Int) (ok : Bool) (t : Tent) :
    Tent × Option (EqBit × Int × Bool × List Bool) :=
  let m := beamMetric d n k (fun i => if i = 2 then z else if i = 1 then t.z1 else t.z2) (fun _ => 0) 0
  let into := fun (s : Nat) =>
    let way := fun (a : Nat) => t.metric.getD a 0 + m a (s % 2)
    let a := if way (s / 2) ≤ way (s / 2 + 16) then s / 2 else s / 2 + 16
    (way a, ((s % 2 == 1) :: t.path.getD a []).take 24)
  let next := (List.range 32).map into
  let low := leastOf (next.map (fun p => p.1))
  let path := match next.find? (fun p => p.1 == low) with
    | some p => p.2
    | none => []
  let wait := t.wait ++ [(b, z, ok)]
  let t' : Tent := { metric := next.map (fun p => p.1 - low), path := next.map (fun p => p.2), z1 := z, z2 := t.z1, wait := wait }
  match wait with
  | w :: rest => if 20 < wait.length then ({ t' with wait := rest }, some (w.1, w.2.1, w.2.2, (path.drop 20).take 4)) else (t', none)
  | [] => (t', none)

/-- One bit at beam position k: its output goes to the detector, and the bit 20 before it adapts the equaliser where it may (R157). -/
def eqPush (n k mu : Nat) (b : EqBit) (ok : Bool) (d : Dev) : Dev :=
  let r := tentPush d n k b (eqBitOut d n k b) ok (FMap.get (fun _ => {}) (d.deck n).tents k)
  let d := d.onDeck n (fun x => { x with tents := x.tents.ins k r.1 })
  match r.2 with
  | some w => if w.2.2.1 && !d.getB (Reg.DET_BCFG_EQ_HOLD n k) && !d.getB (Reg.DET_EQ_CFG_EQ_HOLD_ALL n) then
      eqStep n k mu w.1 w.2.1 w.2.2.2 d else d
  | none => d

/-- Whether a bit of beam position k, from sample p of a data gap of the lane l that serves it, may adapt: conditions 1 to 3 of R119,
inside a sector whose sync was accepted, no chaff among the samples of the sides that count (R157). -/
def eqMay (d : Dev) (n l k p : Nat) : Bool :=
  let q : Int := (gapLen d n * ((d.deck n).lane l).gap + p : Nat)
  let near := [(0, k), (1, k - 1), (2, k + 1)].filter (fun e => !eqHeld d n k e.1)
  laneRuns d n l && decide (2 ≤ d.tbState n) && decide (p < gapLen d n) && inAccepted (d.deck n) k q (q + 1) &&
    !near.any (fun e => match servingLane d n e.2 with
      | some x => chaffIn d n x (p - 7) (p + 8)
      | none => false)

/-- The bits of a block of a lane's samples, from sample `pos` of a data gap on, at the equaliser of the beam position the lane
serves (R157). -/
def eqAdapt (n l pos : Nat) (bits' : List EqBit) (d : Dev) : Dev :=
  let k := d.get (Reg.LANE_STATE_SRC n l)
  let mu := if 0 < ((d.deck n).lane l).acq then d.get (Reg.DET_EQ_CFG_EQ_MU_ACQ n) else d.get (Reg.DET_EQ_CFG_EQ_MU n)
  if d.lstate n l = lACTIVE ∧ k < 64 then
    ((List.range bits'.length).zip bits').foldl (fun d p => eqPush n k mu p.2 (eqMay d n l k (pos + p.1)) d) d
  else d

/-! ### The demapper (R96, R162) -/

/-- The candidates of a 33-bit word that are kept, as rank and cost, the least cost first; and the costs of its two weakest bits
(R162). -/
def demapKept (rank : Nat → Option Nat) (llr : List Int) : List (Nat × Nat) × Nat × Nat :=
  let idx := sortBy (fun a b => decide ((llr.getD a 0).natAbs ≤ (llr.getD b 0).natAbs)) (List.range 33)
  let b1 := idx.getD 0 0
  let b2 := idx.getD 1 1
  let h := (List.range 33).foldl (fun m j => if llr.getD j 0 < 0 then setBit m j else m) 0
  let c1 := (llr.getD b1 0).natAbs
  let c2 := (llr.getD b2 0).natAbs
  let cand := [(h, 0), (h ^^^ 2 ^ b1, c1), (h ^^^ 2 ^ b2, c2), (h ^^^ 2 ^ b1 ^^^ 2 ^ b2, c1 + c2)]
  (sortBy (fun a b => decide (a.2 ≤ b.2)) (cand.filterMap (fun p => (rank p.1).map (fun r => (r, p.2)))), c1, c2)

/-- The demapper of one 33-bit word (R162): soft values, chaff count, and the rank of a word in C below 2^32. -/
def demap (rank : Nat → Option Nat) (llr : List Int) (chaff : Nat) : List Int :=
  if 2 < chaff then List.replicate 32 0
  else match demapKept rank llr with
    | ([], _, _) => List.replicate 32 0
    | (best :: rest, c1, c2) => (List.range 32).map (fun t =>
        let mag := match rest.find? (fun p => bit p.1 t != bit best.1 t) with
          | some alt => alt.2 - best.2
          | none => c1 + c2 + 1
        if bit best.1 t then -((min mag 31 : Nat) : Int) else ((min mag 31 : Nat) : Int))

/-- A word whose bit j is bit j of the modulated word, most significant first. -/
def wordBits (h : Nat) : List Bool := (List.range 33).map (fun i => bit h (32 - i))

/-- The rank of a modulated word below 2^32. -/
def wordRank (h : Nat) : Option Nat := modDecode (wordBits h)

/-- The 32 soft values of a modulated word, both in the order they are recorded. -/
def demapWord (llr : List Int) (chaff : Nat) : List Int := (demap wordRank llr.reverse chaff).reverse

/-- Whether a word is a modulation error (R162). -/
def modError (llr : List Int) (chaff : Nat) : Bool := decide (chaff ≤ 2) && (demapKept wordRank llr.reverse).1.isEmpty

/-! ### Places on a track (R90, R163 to R166) -/

/-- The place, counted along the data stream from the start of a slot, of bit i of the stream that skips resyncs: D data bits in a gap,
slot start at offset q0. -/
def rawOf (D q0 : Nat) (i : Int) : Int :=
  let n0 := D - q0 % D
  if i < n0 then i
  else
    let j := (i - n0).toNat
    ((n0 + j / (D - 16) * D + 16 + j % (D - 16) : Nat) : Int)

/-- The fragment that holds bit i of a prefix, 0 for the first. -/
def fragOf (D q0 i : Nat) : Nat := if i < D - q0 % D then 0 else (i - (D - q0 % D)) / (D - 16) + 1

/-- Resyncs of a sector. -/
def resyncCount (D q0 : Nat) : Nat := fragOf D q0 38191

/-- The place of bit i of a prefix whose fragments lie at some offsets: the first at the alignment offset, the others at their
resync's (R165, R166). DEDUCED, log 105. -/
def placeOf (D q0 : Nat) (offs : List Int) (i : Nat) : Int :=
  match fragOf D q0 i with
  | 0 => rawOf D q0 (i + offs.headD 0)
  | f => rawOf D q0 i + offs.getD f (offs.getLastD 0)

/-! ### Sync candidates (R163, R164) -/

/-- The two words after a sync that stands at an offset from its predicted position, from hard decisions alone (R162, R164). -/
def headerAt (s : Soft) (pos : Int → Int) (c : Int) : Option (Nat × Nat) :=
  let word := fun (i : Int) => modDecode ((List.range 33).map (fun j => s.hard (pos (i + j))))
  match word (110 + c), word (143 + c) with
  | some a, some h => some (a, h)
  | _, _ => none

/-- The header test at an offset (R164). -/
def headerTest (s : Soft) (pos : Int → Int) (want : Nat → Nat → Bool) (c : Int) : Bool :=
  match headerAt s pos c with
  | some p => want p.1 p.2
  | none => false

/-- The preamble test at an offset (R164). -/
def preOk (d : Dev) (n : Nat) (s : Soft) (pos : Int → Int) (c : Int) : Bool :=
  let ok := (List.range 64).filter (fun (i : Nat) => !s.isChaff (pos (c + i)))
  let hit := (ok.filter (fun (i : Nat) => s.hard (pos (c + i)) == decide (i % 4 < 2))).length
  decide (16 ≤ ok.length) && decide (d.get (Reg.DET_SYNC_CFG_PRE_MIN n) * ok.length ≤ hit * 64)

/-- A candidate of a sync window: its position less the predicted one, its distance (R163). -/
structure SyncCand where
  c : Int
  dist : Nat
  deriving DecidableEq, Repr

/-- The candidate at an offset, if it is one (R163). -/
def syncCand (d : Dev) (n : Nat) (s : Soft) (pos : Int → Int) (c : Int) : Option SyncCand :=
  let ok := (List.range 46).filter (fun (i : Nat) => !s.isChaff (pos (64 + c + i)))
  let dist := (ok.filter (fun (i : Nat) => s.hard (pos (64 + c + i)) != syncBits.getD i false)).length
  if d.get (Reg.DET_SYNC_CFG_SYNC_MIN n) ≤ ok.length ∧ dist ≤ d.get (Reg.DET_SYNC_CFG_SYNC_TOL n) then some { c := c, dist := dist }
  else none

/-- Ranking of candidates in a window: lower distance, then nearer, then earlier (R163). -/
def candBefore (a b : SyncCand) : Bool :=
  decide (a.dist < b.dist) || (a.dist == b.dist && (decide (a.c.natAbs < b.c.natAbs) ||
    (a.c.natAbs == b.c.natAbs && decide (a.c ≤ b.c))))

/-- Ranking of passing candidates: nearer, then lower distance, then earlier (R165). -/
def passBefore (a b : SyncCand) : Bool :=
  decide (a.c.natAbs < b.c.natAbs) || (a.c.natAbs == b.c.natAbs && (decide (a.dist < b.dist) ||
    (a.dist == b.dist && decide (a.c ≤ b.c))))

/-- How a window is settled (R165): accepted at an offset, placed by flywheel with a header that passes, left to a decode
without one, or lost; with the candidates rejected. -/
inductive SyncOut where
  | ok (delta : Int) (rej : Nat)
  | fly (delta : Int)
  | blind
  | lost (rej : Nat)
  deriving DecidableEq, Repr

/-- Offsets tried by the flywheel, in order (R165). -/
def flyOffsets (shed : Bool) : List Int := if shed then [0] else [0, 1, -1, 2, -2]

/-- The settlement of a window (R163 to R165), from the soft values, the place of each stream bit of the sector, and the header words
that are wanted. -/
def syncSettle (d : Dev) (n : Nat) (s : Soft) (pos : Int → Int) (want : Nat → Nat → Bool) : SyncOut :=
  let found := (sortBy candBefore ((List.range 193).filterMap (fun (i : Nat) => syncCand d n s pos ((i : Int) - 96)))).take 4
  let pass := sortBy passBefore (found.filter (fun x => preOk d n s pos x.c && headerTest s pos want x.c))
  match pass with
  | p :: _ => .ok p.c (found.length - 1)
  | [] =>
    if found ≠ [] then .lost found.length
    else if d.getB (Reg.DET_SYNC_CFG_FLY_EN n) = false then .lost 0
    else match (flyOffsets false).find? (headerTest s pos want) with
      | some o => .fly o
      | none => .blind

/-- The offset of a resync, from soft values about its nominal position: the nearest to the predicted one that qualifies, the earlier of
two as near (R166). DESIGN CHOICE, log 96. -/
def resyncFind (d : Dev) (n : Nat) (s : Soft) (pred : Int) : Option Int :=
  let ok := fun (r : Int) =>
    decide (d.get (Reg.DET_SYNC_CFG_RS_MIN n) ≤ ((List.range 16).filter (fun (i : Nat) => s.hard (r + i) == resyncBits.getD i false)).length) &&
      decide (d.get (Reg.DET_SYNC_CFG_RS_PRE n) ≤ ((List.range 8).filter (fun (i : Nat) => !s.hard (r - 8 + i))).length)
  (sortBy (fun (a b : Int) => decide ((a - pred).natAbs ≤ (b - pred).natAbs))
    ((List.range 49).map (fun (i : Nat) => pred + ((i : Int) - 24)))).find? ok

/-! ### Min-sum decoding (R95, R167) -/

/-- Codeword bits that check r of block row i involves (R95). -/
def ldpcCheck (i r : Nat) : List Nat :=
  (List.range 64).map (fun j => 512 * j + (r + ldpcShift i j) % 512) ++ [512 * (64 + i) + r] ++
    (if 0 < i then [512 * (63 + i) + r] else [])

/-- ALPHA of DEC_CFG, in 1/16 (R183). -/
def minSumScale (alpha : Nat) : Nat := [10, 11, 12, 13].getD alpha 10

/-- The decoder at work: a value for each codeword bit, positive for 0, and the last messages of each check. -/
structure LdpcRun where
  post : Array Int
  msg : Array (List Int) := Array.replicate 4096 []

/-- The messages of a check: sign of the others' product, least of their magnitudes scaled by ALPHA, in 6 bits (R167).
DESIGN CHOICE, log 96. -/
def checkMsgs (scale : Nat) (q : List Int) : List Int :=
  (List.range q.length).map (fun e =>
    let rest := q.eraseIdx e
    let mag := leastOf (rest.map (fun (x : Int) => (x.natAbs : Int)))
    let neg := (rest.filter (fun x => decide (x < 0))).length % 2 == 1
    let v := min 31 (Config.rnd (mag * scale) 16)
    if neg then -v else v)

/-- One check of a layer: its old messages are taken off, the new ones put on. -/
def checkStep (scale i r : Nat) (x : LdpcRun) : LdpcRun :=
  let cols := ldpcCheck i r
  let old := x.msg.getD (512 * i + r) []
  let q := (List.range cols.length).map (fun e => x.post.getD (cols.getD e 0) 0 - old.getD e 0)
  let new := checkMsgs scale q
  { post := (cols.zip (q.zip new)).foldl (fun m p => m.setIfInBounds p.1 (p.2.1 + p.2.2)) x.post
    msg := x.msg.setIfInBounds (512 * i + r) new }

/-- One iteration: the eight block rows as layers, in order (R167). -/
def ldpcIter (scale : Nat) (x : LdpcRun) : LdpcRun :=
  (List.range 8).foldl (fun x i => (List.range 512).foldl (fun x r => checkStep scale i r x) x) x

/-- Whether all 4,096 checks are satisfied by the hard decisions (R167). A value of 0 is no decision, and a check that holds one is not
satisfied. DESIGN CHOICE, log 96. -/
def LdpcRun.converged (x : LdpcRun) : Bool :=
  (List.range 8).all (fun i => (List.range 512).all (fun r =>
    (ldpcCheck i r).all (fun c => x.post.getD c 0 != 0) &&
      ((ldpcCheck i r).filter (fun c => decide (x.post.getD c 0 < 0))).length % 2 == 0))

/-- Iterations until the checks are satisfied, at most `cap`: how many it took, none when it did not converge (R167, R169). -/
def ldpcDecode (scale cap : Nat) : Nat → LdpcRun → Option Nat × LdpcRun
  | 0, x => (none, x)
  | fuel + 1, x =>
    let y := ldpcIter scale x
    if y.converged then (some (cap - fuel), y) else ldpcDecode scale cap fuel y

/-- The decode of 36,864 soft values under a deck's settings: with the iterations allowed, those it took and the values it
ended with (R167, R169). -/
def decodeSoft (d : Dev) (n cap : Nat) (soft : List Int) : Option Nat × LdpcRun :=
  ldpcDecode (minSumScale (d.get (Reg.DET_DEC_CFG_ALPHA n))) cap cap
    { post := (soft.take 36864).toArray }

/-- The payload of a converged sector, descrambled with the seed of the address that was expected (R94, R167). -/
def sectorPayload (a : Nat) (x : LdpcRun) : List Byte :=
  bytesOf 4096 (scramble (scramSeed a) ((List.range 32768).map (fun c => decide (x.post.getD c 0 < 0))))

/-- Word w of a body: its 33 soft values as recorded, and how many are chaff. -/
def bodyWord (s : Soft) (place : Nat → Int) (w : Nat) : List Int × Nat :=
  let ps := (List.range 33).map (fun j => place (176 + 33 * w + j))
  (ps.map s.at, (ps.filter s.isChaff).length)

/-- The 36,864 LDPC input values of a body (R93, R162). -/
def bodyLlr (s : Soft) (place : Nat → Int) : List Int :=
  (List.range 1152).flatMap (fun w => demapWord (bodyWord s place w).1 (bodyWord s place w).2)

/-! ### Priors of a second turbo pass (R169) -/

/-- TURBO_W of DEC_CFG, in quarters (R183). -/
def turboWeight (w : Nat) : Nat := w + 1

/-- Priors of the 33 bits of a word as recorded, in quarters of a soft value's unit: the word modulated again from the decoder's
decisions on its 32 codeword bits, with the least magnitude of its 32 bits times TURBO_W; 0 where the word was a modulation
error (R169). -/
def wordPriors (w : Nat) (modErr : Bool) (post : List Int) : List Int :=
  if modErr then List.replicate 33 0
  else
    let data := ofMsb (post.map (fun x => decide (x < 0)))
    let mag := leastOf (post.map (fun (x : Int) => (x.natAbs : Int)))
    (modEncode data).map (fun b => (if b then 1 else -1) * mag * turboWeight w)

/-- The prior of the bit at each place of a sector (R169). -/
def priorsOf (d : Dev) (n : Nat) (s : Soft) (place : Nat → Int) (post : List Int) : Int → Int :=
  let put := fun (a : Array Int) (w : Nat) =>
    let x := bodyWord s place w
    let ps := wordPriors (d.get (Reg.DET_DEC_CFG_TURBO_W n)) (modError x.1 x.2) ((post.drop (32 * w)).take 32)
    (List.range 33).foldl (fun (a : Array Int) j => a.setIfInBounds (place (176 + 33 * w + j) - s.start).toNat (ps.getD j 0)) a
  let all := (List.range 1152).foldl put (Array.replicate s.v.size 0)
  fun p => if p < s.start then 0 else all.getD (p - s.start).toNat 0

end Sys2Proof.Machine
end

