-- ==== Sys2Proof/Machine/Angle.lean ====
section
/-! DEFINITION. Machine/Angle.lean: the angle timebase of a deck (spec file 03): counters, clock marks, lock states,
reads of the counters, and the trigger registers. What a firing does is in Machine/Trigger.lean. -/

namespace Sys2Proof.Machine

/-! ### The tick -/

/-- The part of a phase correction that falls on k ticks, spread evenly over the wedge (03, the loop under R52). -/
def spreadStep (corr : Int) (span done k : Nat) : Int :=
  corr * (min (done + k) span : Nat) / (max 1 span : Nat) - corr * (min done span : Nat) / (max 1 span : Nat)

/-- One deck's counter after k ticks: INC for each and the share of the phase correction; it never moves backward (R51). -/
def Dev.counterTick (d : Dev) (c : Clock) (n k : Nat) : Nat :=
  let tb := (d.deck n).tb
  if d.tbState n = tbOFF then c.counter n
  else c.counter n + (((k * d.get (Reg.ANG_INC_INC n) : Nat) : Int) + spreadStep tb.corr tb.span tb.done k).toNat

/-- Whether a counter that goes from a to b reaches or passes a target of a trigger (R57, R61, R75, R76). -/
def trigPassed (d : Dev) (n t a b : Nat) : Bool :=
  let pos := d.get (Reg.ANG_TRIG_POS_POS n t)
  match d.get (Reg.ANG_TRIG_CFG_MODE n t) with
  | 1 => decide (a < d.trigTarget n t * 2 ^ 24) && decide (d.trigTarget n t * 2 ^ 24 ≤ b)
  | 2 => passes (pos % 2 ^ 14 * 2 ^ 24) (2 ^ 38) a b
  | 3 => (List.range (mapZone d n).s).any (fun k =>
      passes ((((mapZone d n).sectorGrain k : Int) + sx 24 pos) % 2 ^ 24 * 2 ^ 24).toNat (2 ^ 48) a b)
  | 4 => passes (pos * 2 ^ 24) (2 ^ 48) a b && decide (d.trigTarget n t * 2 ^ 24 ≤ b)
  | _ => false

/-- Periodic triggers that are armed and pass a target between a and b. -/
def Dev.periodicPassed (d : Dev) (n a b : Nat) : List Nat :=
  (List.range 64).filter (fun t =>
    d.getB (Reg.ANG_TRIG_CFG_ARM n t) && periodic (d.get (Reg.ANG_TRIG_CFG_MODE n t)) && trigPassed d n t a b)

/-- What the timebase of a deck notes of ticks that have passed: where the counter stood before, how far the spread of a
correction has come, in SEARCH the periodic triggers passed over, and the ends of sectors that were passed (R51, R57, R59, R171,
R214). -/
def Dev.tickNote (c c' : Clock) (k n : Nat) (d : Dev) : Dev :=
  let ends := fun (z : Zone) (slot : Nat) => passes (z.sectorEnd slot * 2 ^ 24) (2 ^ 48) (c.counter n) (c'.counter n)
  let d := d.onDeck n (fun x => { x with
    blocks := mapIf (fun b => b.ended.isNone && ends (layoutOf b.p 0) b.slot) (fun b => { b with
      ended := some (c'.tick, c'.angleStamp n) }) x.blocks,
    pass := x.pass.map (fun p => match p.now with
      | some s => if ends (mapZone d n) s then { p with now := none } else p
      | none => p) })
  let skip := if d.tbState n = tbSEARCH then d.periodicPassed n (c.counter n) (c'.counter n) else []
  d.onDeck n (fun x => { x with tb := { x.tb with
    done := min (x.tb.done + k) x.tb.span, prev := c.counter n, acted := false,
    skipped := x.tb.skipped ++ skip.filter (fun t => !x.tb.skipped.contains t) } })

/-- The spindle observer's angle of a primer write moves on (R199, R291). -/
def Dev.primerTick (k n : Nat) (d : Dev) : Dev :=
  match (d.deck n).primer with
  | some q => d.onDeck n (fun x => { x with primer := some { q with obs := q.obs + k * (d.getI (Reg.SPN_STS_SPEED n)).toNat } })
  | none => d

/-- What is timed on a deck grows older by k ticks and by the angle turned in them. -/
def Dev.deckOlder (c c' : Clock) (k n : Nat) (d : Dev) : Dev :=
  if (d.deck n).ages = [] ∧ (d.deck n).turns = [] then d
  else d.onDeck n (fun x => { x with
    ages := x.ages.map (fun e => (e.1, e.2 + k)), turns := x.turns.map (fun e => (e.1, e.2 + (c'.counter n - c.counter n))) })

/-- What is timed in the module grows older by k ticks. -/
def Dev.older (k : Nat) (d : Dev) : Dev := { d with ages := d.ages.map (fun e => (e.1, e.2 + k)) }

/-! ### What waits for a time (R422, R560) -/

/-- Decks and remote members that hold parts of a write. -/
def Wr.places (w : Wr) : List Nat := (w.exts.map (fun e => e.1)).dedup

/-- A write every one of whose mapping records is described (R421). -/
def Wr.isDescribed (w : Wr) : Bool := w.described.length == w.exts.length

/-- Writes described everywhere whose commit record the disc in a deck still lacks. -/
def Dev.owes (d : Dev) (n : Nat) : List Wr :=
  d.host.writes.filter (fun w => w.isDescribed && w.places.contains n && !w.committedOn.contains n && (d.deck n).mounted == some w.nsid)

/-- Mapping records of placed streams that wait for an index unit of the disc in the clamp. -/
def Deck.placedHere (k : Deck) : List MapRec := k.placed.filter (fun m => k.mounted == some m.nsid)

/-- Whether a deck has records to write. -/
def Dev.unitWaits (d : Dev) (n : Nat) : Bool := !(d.deck n).placedHere.isEmpty || !(d.owes n).isEmpty || !(d.deck n).keysDue.isEmpty

/-- Nothing uses the device: no command context, no job, no deck reading or writing (R560). -/
def Dev.quiet (d : Dev) : Bool :=
  d.host.ctxs.all (fun x => x.cmd.op == .asyncEvent) && d.jobs.isEmpty &&
    (List.range 16).all (fun n => (d.deck n).pass.isNone && (d.deck n).blocks.isEmpty && (d.deck n).unit.isNone && !(d.deck n).seq.opc)

/-- Before time passes it is noted since when a deck's oldest record waits for an index unit, and whether the device is quiet
(R422, R560). -/
def Dev.waitNote (c : Clock) (d : Dev) : Dev :=
  let one := fun (n : Nat) (d : Dev) =>
    let at' := if d.unitWaits n then some ((d.deck n).placedAt.getD c.tick) else none
    if at' = (d.deck n).placedAt then d else d.onDeck n (fun k => { k with placedAt := at' })
  let d := d.eachDeck one
  if d.quiet then d else d.devSince gIDLE

/-- Reference ticks pass: every counter advances, the spread of a correction moves on, what is timed grows older (R51, R66). -/
def ticks (k : Nat) (c : Clock) (d : Dev) : Clock × Dev :=
  let c' := (List.range 16).foldl (fun c' n => c'.setCounter n (d.counterTick c n k)) { c with tick := (c.tick + k) % 2 ^ 64 }
  (c', ((d.waitNote c).older k).eachDeck (fun n d => ((if d.tbState n = tbOFF then d else d.tickNote c c' k n).primerTick k n).deckOlder c c' k n))

/-! ### Reads that latch (R71, R72, R79, R80) -/

/-- A read of SNAP_GRAIN: both counters captured, the low revolution word latched. -/
def snapGrainRead (c : Clock) (n : Nat) (d : Dev) : Dev :=
  let d := d.sets [(Reg.ANG_SNAP_GRAIN_REV_HI n, c.rev n / 2 ^ 32), (Reg.ANG_SNAP_GRAIN_GRAIN n, c.grain n),
    (Reg.ANG_SNAP_REV_REV_LO n, c.rev n % 2 ^ 32)]
  { d with rdata := c.rev n / 2 ^ 32 * 2 ^ 24 + c.grain n }

/-- A read of TICK_LO: the low word, with the high word latched. -/
def tickLoRead (c : Clock) (d : Dev) : Dev :=
  let d := (d.set Reg.MGMT_TICK_LO_TICK_LO c.tick).set Reg.MGMT_TICK_HI_TICK_HI (c.tick / 2 ^ 32)
  { d with rdata := c.tick % 2 ^ 32 }

/-! ### Clock marks (R53 to R55, R121) -/

/-- ONCE triggers whose target is at or behind the counter fire late or miss; either way they disarm (R59). `fire` is
what late firings in one tick do (R60). -/
def Dev.onceCatchUp (c : Clock) (n : Nat) (locked : Bool) (fire : List Nat → Dev → Dev) (d : Dev) : Dev :=
  let due := (List.range 64).filter (fun t =>
    d.getB (Reg.ANG_TRIG_CFG_ARM n t) && d.get (Reg.ANG_TRIG_CFG_MODE n t) == 1 &&
      decide (d.trigTarget n t ≤ c.grains n) && (locked || !d.getB (Reg.ANG_TRIG_CFG_REQ_LOCK n t)))
  let late := fun (t : Nat) => d.getB (Reg.ANG_TRIG_CFG_LATE_FIRE n t)
  let d := due.foldl (fun d t => d.set (Reg.ANG_TRIG_CFG_ARM n t) 0) d
  let d := (due.filter (fun t => !late t)).foldl (fun d t => (d.trigMiss c n t).trigDisarmed c n t) d
  let hits := due.filter late
  if hits = [] then d
  else hits.foldl (fun d t => d.trigDisarmed c n t) <| fire hits (hits.foldl (fun d t => (d.set (Reg.ANG_TRIG_CFG_FIRED n t) 1).set (Reg.ANG_TRIG_CFG_LATE n t) 1) d)

/-- Phase error of a mark: w × 16,384 minus the counter, modulo 2^24 into −8,192 to 8,191 (03, the loop under R52). -/
def markError (grain : Nat) : Int :=
  let w := (grain + 8192) / 16384
  (w * 16384 : Nat) - (grain : Int)

/-- The wedge nearest a counter value (R50). -/
def markWedge (grain : Nat) : Nat := (grain + 8192) / 16384 % 1024

/-- The nearest integer of a quotient; the spec does not say which way a half goes. DESIGN CHOICE, log 14. -/
def nearest (num : Int) (den : Nat) : Int :=
  if (2 * num + den) % (2 * den) = 0 then Config.rnd num den else (2 * num + den) / (2 * den)

/-- Correction of a lane at a clock mark: (lane, measured edge error in 2^-16 UI) (R121); none in standby, for a primer
(R131), or while the winnow's flag is up over the mark (R128). -/
def laneMark (n l : Nat) (eps : Int) (d : Dev) : Dev :=
  if d.get (Reg.LANE_STATE_LSTATE n l) > 1 ∨ d.getB (Reg.LANE_STATE_STBY n l) ∨ d.getB (Reg.LANE_WIN_STS_FLAG n l) ∨
      (d.deck n).seq.laneMode = 2 then d
  else
  let sh := d.get (Reg.LANE_TR_CFG_WEDGE_SHIFT n l)
  let unit : Int := 2 ^ 20
  if eps.natAbs < 2 ^ 15 then d.onLane n l (fun a => { a with ph := a.ph - eps * unit / 2 ^ sh })
  else
    let r := nearest eps (2 ^ 16)
    let d := d.onLane n l (fun a => { a with
      bitShift := a.bitShift + r, ph := a.ph - (eps - r * 2 ^ 16) * unit / 2 ^ sh })
    (d.bump (Reg.LANE_TR_STS_SLIPS n l) 1).onLaneMargin n l (fun m => { m with slips := satAdd 16 m.slips 1 })

/-- Entry to LOCKED: the LOCK condition of the gate ends, ONCE triggers with REQ_LOCK catch up (R53, R59, R211). -/
def Dev.tbLock (c : Clock) (n : Nat) (fire : List Nat → Dev → Dev) (d : Dev) : Dev :=
  let d := d.onDeck n (fun k => { k with tb := { k.tb with good := 0, miss := 0, badPh := 0, badIx := 0, hold := 0 } })
  ((d.set (Reg.ANG_STS_STATE n) tbLOCKED).gateClear c n gLOCK).onceCatchUp c n true fire

/-- From LOCKED to HOLDOVER (R53, R54). -/
def Dev.tbHoldover (c : Clock) (n cause : Nat) (d : Dev) : Dev :=
  let d := d.onDeck n (fun k => { k with tb := { k.tb with
    good := 0, hold := 0, corr := 0, miss := 0, badPh := 0, badIx := 0 } })
  (d.set (Reg.ANG_STS_STATE n) tbHOLDOVER).tbUnlock c n cause

/-- One wedge passes in HOLDOVER. -/
def Dev.holdCount (n : Nat) (d : Dev) : Dev :=
  if d.tbState n = tbHOLDOVER then
    d.onDeck n (fun k => { k with tb := { k.tb with hold := k.tb.hold + 1 } }) else d

/-- The counter's value at a reload to wedge w: the same revolution, or the next when the grain lies behind (R55).
DEDUCED, log 15. -/
def reloadTo (grains w : Nat) : Nat :=
  let rev := grains / 2 ^ 24
  if w * 16384 < grains % 2 ^ 24 then (rev + 1) * 2 ^ 24 + w * 16384 else rev * 2 ^ 24 + w * 16384

/-- Two marks that start ACQUIRE: consecutive indices, spacing within 2 %, speed 1,500 to 16,000 rpm (R53). -/
def acquires (inc dt i0 i1 : Nat) : Bool :=
  (i0 + 1) % 1024 == i1 &&
  decide (((dt * inc : Nat) - (16384 * 2 ^ 24 : Nat) : Int).natAbs * 50 ≤ 16384 * 2 ^ 24) &&
  decide (incOfRpm 1500 ≤ inc ∧ inc ≤ incOfRpm 16000)

/-- P and S of a swath on the disc in the deck: the table of R84, or the CG1 zone table, which the spec does not hold (R151,
R153). DESIGN CHOICE, log 98. -/
def mapOf (gen swath : Nat) : Option (Nat × Nat) :=
  if gen = 1 then some (Config.cg1Map swath) else (zoneOf swath).map (fun z => (z.p, z.s))

/-- The sequencer stages the sector map and the modes it goes to, for the next revolution mark (R64, R359, R362). -/
def stageMap (n : Nat) (d : Dev) : Dev :=
  let q := (d.deck n).seq
  let mode := match q.newMode with
    | some m => [((Reg.DET_MAP_CFG_MODE n).key, m)]
    | none => []
  let map' := match q.newZone.bind (mapOf (d.get (Reg.SEQ_STS_GEN n))) with
    | some z => [((Reg.DET_MAP_CFG_P n).key, z.1), ((Reg.DET_MAP_CFG_S n).key, z.2)]
    | none => []
  if mode ++ map' = [] then d
  else d.onDeck n (fun k => { k with seqPend := [{ trig := 5, vals := mode ++ map', lane := q.newMode }] })

/-- A mark in SEARCH (R53, R55). -/
def markSearch (c : Clock) (n : Nat) (idx : Option Nat) (fire : Clock → List Nat → Dev → Dev) (d : Dev) : Clock × Dev :=
  match idx with
  | none => (c, d.onDeck n (fun k => { k with tb := { k.tb with last := none } }))
  | some w =>
    let ok := match (d.deck n).tb.last with
      | some (i0, t0) => acquires (d.get (Reg.ANG_INC_INC n)) (c.tick - t0) i0 w
      | none => false
    if ok then
      let target := reloadTo (c.grains n) w
      let jump := target - c.grains n
      let c' := c.setCounter n (target * 2 ^ 24)
      let skip := (d.deck n).tb.skipped ++ d.periodicPassed n (c.counter n) (target * 2 ^ 24)
      let d := (skip.filter (fun t => d.getB (Reg.ANG_TRIG_CFG_ARM n t))).foldl (fun d t => d.set (Reg.ANG_TRIG_CFG_MISSED n t) 1) d
      let d := d.onDeck n (fun k => { k with tb := {} })
      let d := (d.set (Reg.ANG_STS_STATE n) tbACQUIRE).set (Reg.ANG_STS_JUMP n) 1
      let d := d.fault c' (.deck n) { cls := 1, code := 2, sev := 1, detail := le 4 jump }
      (c', stageMap n (d.onceCatchUp c' n false (fire c')))
    else (c, d.onDeck n (fun k => { k with tb := { k.tb with last := some (w, c.tick) } }))

/-- A mark found in the window, in ACQUIRE, LOCKED or HOLDOVER (R53, the loop under R52). An index of invalid parity counts as
a disagreeing one, and feed-forward gathered in HOLDOVER is added at the first mark after it. DESIGN CHOICE, log 98. -/
def markTrack (c : Clock) (n : Nat) (idx : Option Nat) (fire : List Nat → Dev → Dev) (d : Dev) : Dev :=
  let e := markError (c.grain n)
  let inTol := decide (e.natAbs ≤ d.get (Reg.ANG_PLL_TOL_LOCK_TOL n))
  let overTol := decide (d.get (Reg.ANG_PLL_TOL_UNLOCK_TOL n) < e.natAbs)
  let ixOk := idx == some (markWedge (c.grain n))
  let good := inTol && ixOk
  let st := d.tbState n
  let d := d.set (Reg.ANG_STS_PHASE_ERR n) (ux 16 e)
  let inc := d.get (Reg.ANG_INC_INC n)
  let d := if st = tbHOLDOVER then d
    else
      let ff := if d.getB (Reg.ANG_PLL_CFG_FF_EN n) then (d.deck n).tb.ff else 0
      let inc' := (inc : Int) + Config.rnd (e * 2 ^ 24) (2 ^ d.get (Reg.ANG_PLL_CFG_KI_SHIFT n)) + ff
      (d.onDeck n (fun k => { k with tb := { k.tb with
        corr := Config.rnd (e * 2 ^ 24) (2 ^ d.get (Reg.ANG_PLL_CFG_KP_SHIFT n)),
        span := cdiv (16384 * 2 ^ 24) inc, done := 0, ff := 0 } })).set (Reg.ANG_INC_INC n) (clampI 0 (2 ^ 32 - 1) inc').toNat
  let d := d.onDeck n (fun k => { k with tb := { k.tb with
    good := if good then k.tb.good + 1 else 0, miss := 0, badPh := if overTol then k.tb.badPh + 1 else 0,
    badIx := if ixOk then 0 else k.tb.badIx + 1 } })
  let d := d.holdCount n
  let tb := (d.deck n).tb
  if st = tbACQUIRE ∧ 64 ≤ tb.good then d.tbLock c n fire
  else if st = tbHOLDOVER ∧ 16 ≤ tb.good then d.tbLock c n fire
  else if st = tbLOCKED ∧ 4 ≤ tb.badPh then d.tbHoldover c n 2
  else if st = tbLOCKED ∧ 3 ≤ tb.badIx then d.tbHoldover c n 3
  else d

/-- A wedge without a mark in the window (R53): it breaks the runs of bad phases and of disagreeing indices. DESIGN CHOICE,
log 98. DESIGN CHOICE, log 98. -/
def markMiss (c : Clock) (n : Nat) (d : Dev) : Dev :=
  let st := d.tbState n
  let d := d.onDeck n (fun k => { k with tb := { k.tb with good := 0, miss := k.tb.miss + 1, badPh := 0, badIx := 0 } })
  let d := d.holdCount n
  if 8 ≤ (d.deck n).tb.miss ∧ st = tbLOCKED then d.tbHoldover c n 1
  else if 8 ≤ (d.deck n).tb.miss ∧ st = tbACQUIRE then d.tbSearch c n
  else d

/-- The speed condition of the gate, measured at each wedge whether or not the deck writes (R211): more than 0.5 % from the write speed
of where it stands. DEDUCED, log 40. -/
def speedCheck (c : Clock) (n : Nat) (d : Dev) : Dev :=
  match zoneOf (writeSwath (d.deck n)) with
  | none => d
  | some z =>
    let want : Int := z.writeRpm * 2 ^ 48
    let off := decide (want < ((60000000000 * d.get (Reg.ANG_INC_INC n) : Nat) - want).natAbs * 200)
    if off = false then d.gateClear c n gSPEED
    else if bit (d.deck n).gate.hold gSPEED then d else d.gateClose n gSPEED

/-- CLOCK_MARK: a detected clock mark, with its wedge index where its parity is valid, and the lanes' edge errors. -/
def clockMark (c : Clock) (n : Nat) (idx : Option Nat) (eps : List (Nat × Int)) (fire : Clock → List Nat → Dev → Dev)
    (d : Dev) : Clock × Dev :=
  let st := d.tbState n
  if st = tbOFF then (c, d)
  else if st = tbSEARCH then markSearch c n idx fire d
  else if (markError (c.grain n)).natAbs ≤ d.get (Reg.ANG_PLL_TOL_WIN n) * 64 then
    (c, speedCheck c n (markTrack c n idx (fire c) (eps.foldl (fun d p => laneMark n p.1 p.2 d) d)))
  else (c, markMiss c n d)

/-- MARK_WINDOW_MISS. -/
def markWindowMiss (c : Clock) (n : Nat) (d : Dev) : Dev := if 2 ≤ d.tbState n then markMiss c n d else d

/-- HOLDOVER_TIMEOUT: HOLDOVER has lasted HOLD_MAX wedges (R53, R67). -/
def holdoverTimeout (c : Clock) (n : Nat) (d : Dev) : Dev :=
  if d.tbState n = tbHOLDOVER ∧ d.get (Reg.ANG_PLL_CFG_HOLD_MAX n) ≤ (d.deck n).tb.hold then d.tbSearch c n else d

/-- FORCE_SEARCH (R67): an enabled timebase goes to SEARCH. -/
def forceSearch (c : Clock) (n : Nat) (d : Dev) : Dev :=
  if d.tbState n = tbOFF then d
  else if d.tbState n = tbLOCKED then (d.tbUnlock c n 5).tbSearch c n
  else d.tbSearch c n

/-! ### Trigger registers (R58, R59, R74 to R76) -/

/-- Whether a mode and position are valid (R57, R74, R75). -/
def trigValid (mode pos : Nat) : Bool :=
  decide (mode ≤ 4) && (mode != 2 || decide (pos < 2 ^ 14)) && (mode != 3 || decide ((sx 24 pos).natAbs < 65536))

/-- Whether the deck sequencer owns a trigger (R58). -/
def seqOwns (t : Nat) : Bool := decide (t < 16)

/-- The status bits a write of TRIG_CFG clears (W1C). -/
def trigW1c (n t v : Nat) (d : Dev) : Dev :=
  let clr := fun (f : Fld) (d : Dev) => if bit v f.lo then d.set f 0 else d
  clr (Reg.ANG_TRIG_CFG_ERR n t) (clr (Reg.ANG_TRIG_CFG_MISSED n t) (clr (Reg.ANG_TRIG_CFG_LATE n t)
    (clr (Reg.ANG_TRIG_CFG_FIRED n t) d)))

/-- The configuration part of a TRIG_CFG write. An invalid MODE sets ERR; the write then applies nothing else, unless it disarms
an armed trigger (R59, R74). DEDUCED, log 104. -/
def trigApply (c : Clock) (n t v : Nat) (fire : List Nat → Dev → Dev) (d : Dev) : Dev :=
  let mode := bits v 0 3
  let wasArmed := d.getB (Reg.ANG_TRIG_CFG_ARM n t)
  if trigValid mode (d.get (Reg.ANG_TRIG_POS_POS n t)) then
    let d := d.sets [(Reg.ANG_TRIG_CFG_ARM n t, bits v 31 1), (Reg.ANG_TRIG_CFG_IRQ_EN n t, bits v 15 1),
      (Reg.ANG_TRIG_CFG_LATE_FIRE n t, bits v 14 1), (Reg.ANG_TRIG_CFG_REQ_LOCK n t, bits v 13 1),
      (Reg.ANG_TRIG_CFG_MODE n t, mode)]
    let armed := bit v 31
    let d := if wasArmed && !armed then d.trigDisarmed c n t else d
    let due := d.tbFires n && (d.tbState n == tbLOCKED || !bit v 13) && mode == 1 && armed &&
      decide (d.trigTarget n t ≤ c.grains n)
    if due then
      let d := d.set (Reg.ANG_TRIG_CFG_ARM n t) 0
      (if bit v 14 then fire [t] ((d.set (Reg.ANG_TRIG_CFG_FIRED n t) 1).set (Reg.ANG_TRIG_CFG_LATE n t) 1)
      else d.trigMiss c n t).trigDisarmed c n t
    else d
  else
    let d := d.set (Reg.ANG_TRIG_CFG_ERR n t) 1
    if wasArmed then
      (d.sets [(Reg.ANG_TRIG_CFG_ARM n t, 0), (Reg.ANG_TRIG_CFG_IRQ_EN n t, bits v 15 1),
        (Reg.ANG_TRIG_CFG_LATE_FIRE n t, bits v 14 1), (Reg.ANG_TRIG_CFG_REQ_LOCK n t, bits v 13 1)]).trigDisarmed c n t
    else d

/-- TRIG_CFG_WRITE (R59, R74). -/
def trigCfgWrite (c : Clock) (n t v : Nat) (fire : List Nat → Dev → Dev) (d : Dev) : Dev :=
  if seqOwns t then trigW1c n t v d
  else if d.getB (Reg.ANG_TRIG_CFG_ARM n t) && bit v 31 then
    if bits v 15 1 = d.get (Reg.ANG_TRIG_CFG_IRQ_EN n t) ∧ bits v 14 1 = d.get (Reg.ANG_TRIG_CFG_LATE_FIRE n t) ∧
        bits v 13 1 = d.get (Reg.ANG_TRIG_CFG_REQ_LOCK n t) ∧ bits v 0 3 = d.get (Reg.ANG_TRIG_CFG_MODE n t) then
      trigW1c n t v d
    else d.set (Reg.ANG_TRIG_CFG_ERR n t) 1
  else trigApply c n t v fire (trigW1c n t v d)

/-- TRIG_POS_WRITE (R59, R75). -/
def trigPosWrite (n t v : Nat) (d : Dev) : Dev :=
  if seqOwns t then d
  else if d.getB (Reg.ANG_TRIG_CFG_ARM n t) || !trigValid (d.get (Reg.ANG_TRIG_CFG_MODE n t)) (bits v 0 24) then
    d.set (Reg.ANG_TRIG_CFG_ERR n t) 1
  else (d.set (Reg.ANG_TRIG_POS_REV_HI n t) (bits v 24 8)).set (Reg.ANG_TRIG_POS_POS n t) (bits v 0 24)

/-- TRIG_REV_WRITE (R59, R76). -/
def trigRevWrite (n t v : Nat) (d : Dev) : Dev :=
  if seqOwns t then d
  else if d.getB (Reg.ANG_TRIG_CFG_ARM n t) then d.set (Reg.ANG_TRIG_CFG_ERR n t) 1
  else d.set (Reg.ANG_TRIG_REV_REV_LO n t) v

/-! ### Deck commits (R62, R63, R77) -/

/-- DECK_COMMIT_REQ: SUB_MASK and TRIG as written, the pending set captured, or refused at once (R62, R63).
DESIGN CHOICE, log 107. -/
def deckCommitReq (c : Clock) (n mask trig : Nat) (d : Dev) : Dev :=
  if (d.deck n).pend.isSome then d.set (Reg.ANG_COMMIT_STS_BUSY_REJ n) 1
  else
    let d := (d.set (Reg.ANG_COMMIT_CTL_SUB_MASK n) mask).set (Reg.ANG_COMMIT_CTL_TRIG n) trig
    if d.getB (Reg.ANG_TRIG_CFG_ARM n trig) = false ∨ d.get (Reg.ANG_TRIG_CFG_MODE n trig) = 0 then
      d.deckCommitEnd c n 4 0 0 false
    else if d.tbFires n = false then d.deckCommitEnd c n 5 0 0 false
    else (d.set (Reg.ANG_COMMIT_CTL_REQ n) 1).onDeck n (fun k => { k with
      pend := some { mask := mask, trig := trig, req := c.tick, vals := d.capture (subKeys n mask), who := d.who } })

/-- DECK_COMMIT_CANCEL (R63). -/
def deckCommitCancel (c : Clock) (n : Nat) (d : Dev) : Dev := d.deckCommitRefuse c n 6 none

/-- DECK_COMMIT_DISCARD: the staged fields of the named sub-blocks take their values in force, while REQ is 0 (R77). -/
def deckCommitDiscard (n mask : Nat) (d : Dev) : Dev :=
  if (d.deck n).pend.isSome then d
  else (d.set (Reg.ANG_COMMIT_CTL_SUB_MASK n) mask).discardSet (subKeys n mask)

/-- A write of ANG.COMMIT_CTL as a word: CANCEL, DISCARD, REQ in the order of R63 and R77. -/
def deckCommitWord (c : Clock) (n v : Nat) (d : Dev) : Dev :=
  if (d.deck n).pend.isSome then
    (if bit v 2 then deckCommitCancel c n d else if bit v 0 then d.set (Reg.ANG_COMMIT_STS_BUSY_REJ n) 1 else d)
  else
    let d := (d.set (Reg.ANG_COMMIT_CTL_SUB_MASK n) (bits v 16 9)).set (Reg.ANG_COMMIT_CTL_TRIG n) (bits v 8 6)
    let d := if bit v 1 then deckCommitDiscard n (bits v 16 9) d else d
    if bit v 0 then deckCommitReq c n (bits v 16 9) (bits v 8 6) d else d

end Sys2Proof.Machine
end

