-- ==== Sys2Proof/Machine/Detect.lean ====
section
/-! DEFINITION. Machine/Detect.lean: detection and decoding (spec file 06): sync windows, the LDPC pool, swath blocks and
darn, gleans, margins, equaliser sets. -/

namespace Sys2Proof.Machine

/-! ### Sectors and blocks (R167 to R171) -/

/-- Sectors of a die whose decision is outstanding (R170). -/
def Die.outstanding (p : Die) : Nat := p.held.length

/-- The block of a slot in hand. -/
def Deck.blk (k : Deck) (slot : Nat) : Option Blk := k.blocks.find? (fun b => b.slot == slot)

/-- Change a block of a deck. -/
def onBlk (n slot : Nat) (f : Blk → Blk) (d : Dev) : Dev :=
  d.onDeck n (fun k => { k with blocks := mapIf (fun b => b.slot == slot) f k.blocks })

/-- A sector's decision is entered in its block. -/
def decide1 (n slot beam : Nat) (v : Dec) (d : Dev) : Dev :=
  onBlk n slot (fun b => { b with dec := setAt b.dec beam v }) d

/-- The margin record of the lane that serves a beam position changes. -/
def laneMargin (n beam : Nat) (f : LaneMargin → LaneMargin) (d : Dev) : Dev :=
  match servingLane d n beam with
  | some l => d.onLaneMargin n l f
  | none => d

/-- A block is complete: every sector decided (R171). -/
def Blk.complete (b : Blk) : Bool := b.dec.all (fun v => v != .waiting && v != .turbo)

/-- Erasures among the written sectors of a block (R172). -/
def Blk.erasures (b : Blk) : Nat := (b.dec.filter (fun v => v == .erased)).length

/-- Erasures among the data sectors. -/
def Blk.dataErasures (b : Blk) : Nat := ((b.dec.take 56).filter (fun v => v == .erased)).length

/-- A histogram bin counts. -/
def histAdd (m : FMap Nat) (k : Nat) : FMap Nat := m.ins k (satAdd 32 (FMap.get (fun _ => 0) m k) 1)

/-- A block is delivered over the bridge with both stamps (R16, R171). -/
def blkDeliver (c : Clock) (n : Nat) (b : Blk) (checked hist : Bool) (data : List Byte) (d : Dev) : Dev :=
  d.onDeck n (fun k => { k with
    blocks := k.blocks.filter (fun x => x.slot != b.slot),
    delivered := k.delivered ++ [⟨b.slot, b.swath, 0, checked, (b.stamps c n).1, (b.stamps c n).2, data, d.get (Reg.SEQ_STS_LAYER n)⟩],
    margin := { k.margin with
      darnHist := if hist && b.glean == 0 then histAdd k.margin.darnHist b.erasures else k.margin.darnHist,
      gleanHist := if 0 < b.glean then histAdd k.margin.gleanHist b.glean else k.margin.gleanHist,
      unchecked := if checked then k.margin.unchecked else satAdd 32 k.margin.unchecked 1 } })

/-- A block is scheduled for a glean, or delivered unread after the last one (R173, R175). -/
def blkGlean (c : Clock) (n : Nat) (b : Blk) (d : Dev) : Dev :=
  let mx := min (d.get (Reg.DET_DEC_CFG_MAX_GLEAN n)) 4
  if mx ≤ b.glean ∨ d.tbState n < 2 then
    let e := d.deliverUnread c n b
    if d.tbState n < 2 then e.fault c (.deck n) { cls := 2, code := 2, sev := 2, detail := le 4 1 } else e
  else
    let d := onBlk n b.slot (fun x => { x with inDarn := false, pending := true, glean := x.glean + 1 }) d
    d.set (Reg.DET_STS_GLEANING n) 1

/-- A block is counted once, on its first revolution (R176). -/
def blkCount (n : Nat) (b : Blk) (d : Dev) : Dev :=
  if b.glean = 0 then d.onDeck n (fun k => { k with margin := { k.margin with blocks := satAdd 32 k.margin.blocks 1 } }) else d

/-- A CG1 block has no darn: once decided it is delivered, or its failed sector is scheduled for a glean (R113, R172). -/
def blkSettle (c : Clock) (n slot : Nat) (d : Dev) : Dev :=
  match (d.deck n).blk slot with
  | some b => if b.mode == 1 && b.complete && !b.pending then
      let d := blkCount n b d
      if b.erasures = 0 then blkDeliver c n b true false b.data d else blkGlean c n b d
    else d
  | none => d

/-- A sector is decided, converged with its payload or erased: it counts for the lane that serves it (R171, R177). -/
def sectorDecide (c : Clock) (n slot beam : Nat) (pay : Option (List Byte)) (d : Dev) : Dev :=
  let d := laneMargin n beam (fun m => { m with sectors := satAdd 32 m.sectors 1 }) d
  let d := match pay with
    | some p => onBlk n slot (fun b => { b with dec := setAt b.dec beam .conv, pay := b.pay.ins beam p }) d
    | none => decide1 n slot beam .erased d
  blkSettle c n slot d

/-- A sector whose sync is lost (R165). -/
def sectorSyncLost (c : Clock) (n slot beam : Nat) (d : Dev) : Dev :=
  sectorDecide c n slot beam none (laneMargin n beam (fun m => { m with syncLost := satAdd 32 m.syncLost 1 }) d)

/-- A sector joins the first-pass queue; a full buffer makes the oldest undecided sector an erasure (R170). -/
def queueFirst (c : Clock) (n slot beam : Nat) (d : Dev) : Dev :=
  let i := dieOf n
  let d := if 4096 ≤ (d.die i).outstanding then
      match (d.die i).held with
      | o :: _ =>
        let d := sectorDecide c o.id.deck o.id.slot o.id.beam none (dieDrop i (fun s => s == o.id) d)
        (d.onDeck o.id.deck (fun k => { k with margin := { k.margin with overrun := satAdd 32 k.margin.overrun 1 } })).set
          (Reg.DET_STS_OVERRUN o.id.deck) 1
      | [] => d
    else d
  let id : SectorId := { deck := n, slot := slot, beam := beam }
  d.onDie i (fun p => { p with first := p.first ++ [id], held := p.held ++ [{ id := id }] })

/-! ### Sync windows (R163 to R166) -/

/-- The header that a sector of a data swath must carry (R164): the expected address, FORMAT 1, KIND data or fill on tracks 0 to 55,
cross-beam parity on tracks 56 to 63. -/
def dataHeader (a0 track a h : Nat) : Bool :=
  a == a0 && headerOk a h && kindKnown (bits h 28 4) && bits h 24 4 == 1 &&
    (if track < 56 then bits h 28 4 == kDATA || bits h 28 4 == kFILL else bits h 28 4 == kPARITY)

/-- The header word A of a sector of the swath under the pickup. -/
def expectedA (d : Dev) (n : Nat) (b : Blk) (beam : Nat) : Nat := headerA (d.get (Reg.SEQ_STS_LAYER n)) b.swath beam b.slot

/-- A block may be gleaned or is being gleaned. -/
def Dev.gleaning (d : Dev) (n : Nat) : Bool := (d.deck n).blocks.any (fun b => b.pending || decide (0 < b.glean))

/-- A new block for a slot of the swath under the pickup, if none is in hand (R171); the first of a read revolution notes the
equalisers' taps (R174). Slots read before are not opened while the deck gleans (R173). -/
def blkOpen (n slot passes : Nat) (d : Dev) : Dev :=
  let k := d.deck n
  if (k.blk slot).isSome ∨ (d.gleaning n ∧ k.seen.contains slot) then d
  else
    let cg1 := d.get (Reg.DET_MAP_CFG_MODE n) == 1
    let dec := (List.range 64).map (fun i =>
      if bit passes (i / 16) && (!cg1 || i == 32) then Dec.waiting else Dec.notRead)
    let b : Blk := { slot := slot, swath := k.seq.swath, passes := passes, dec := dec,
                     mode := d.get (Reg.DET_MAP_CFG_MODE n), p := d.get (Reg.DET_MAP_CFG_P n) }
    d.onDeck n (fun k => { k with
      firstTaps := if k.seen = [] ∧ d.gleaning n = false then k.taps else k.firstTaps,
      blocks := k.blocks ++ [b], seen := if k.seen.contains slot then k.seen else k.seen ++ [slot] })

/-- A sector is placed at an alignment offset and waits for its first pass (R165). -/
def sectorPlace (c : Clock) (n slot beam : Nat) (delta : Int) (d : Dev) : Dev :=
  let d := d.onDeck n (fun k => { k with align := k.align.ins beam delta, frag := k.frag.ins beam delta })
  queueFirst c n slot beam (onBlk n slot (fun b => { b with offs := b.offs.ins beam [delta] }) d)

/-- The sector whose sync was accepted last at a beam position, for the loops of its lane and its equaliser (R127, R157). -/
def Dev.accept (n beam : Nat) (v : Option (Nat × Int)) (d : Dev) : Dev :=
  d.onDeck n (fun k => { k with accepted := k.accepted.ins beam v })

/-- How the window of a sector of a block is settled, from the equaliser outputs about it (R163 to R165). -/
def syncVerdict (d : Dev) (n beam : Nat) (b : Blk) (o : Outs) : SyncOut :=
  let q0 := slotBits * b.slot
  syncSettle d n (softOf d n beam q0 (fun _ => 0) o) (rawOf (b.p - 240) q0) (dataHeader (expectedA d n b beam) beam)

/-- A window that was opened is settled (R163 to R165). -/
def syncDecide (c : Clock) (n beam : Nat) (b : Blk) (o : Outs) (d : Dev) : Dev :=
  match syncVerdict d n beam b o with
  | .ok delta rej =>
    let d := (d.bump (Reg.DET_SYNC_OK_SYNC_OK n) 1).bump (Reg.DET_SYNC_REJ_FALSE_REJ n) rej
    let d := onBlk n b.slot (fun x => { x with hdrs := setBit x.hdrs beam, blind := clrBit x.blind beam }) (d.accept n beam (some (b.slot, delta)))
    sectorPlace c n b.slot beam delta d
  | .fly delta =>
    let d := onBlk n b.slot (fun x => { x with hdrs := setBit x.hdrs beam, blind := clrBit x.blind beam }) (d.accept n beam none)
    sectorPlace c n b.slot beam delta (laneMargin n beam (fun m => { m with flywheel := satAdd 32 m.flywheel 1 }) d)
  | .blind =>
    sectorPlace c n b.slot beam 0 (onBlk n b.slot (fun x => { x with blind := setBit x.blind beam }) (d.accept n beam none))
  | .lost rej => sectorSyncLost c n b.slot beam ((d.accept n beam none).bump (Reg.DET_SYNC_REJ_FALSE_REJ n) rej)

/-- SYNC_WINDOW: a sector's sync window closes (R163 to R165, R170). `passes` is the mask of passes the mapping shows as
written. A window that trigger 2 did not open is none. -/
def syncWindow (c : Clock) (n beam slot passes : Nat) (o : Outs) (d : Dev) : Dev :=
  let d := blkOpen n slot passes d
  match (d.deck n).blk slot with
  | none => d
  | some b =>
    if b.pending || b.dec.getD beam .notRead != .waiting || (d.die (dieOf n)).held.any (fun h => h.id == ⟨n, slot, beam⟩) then d
    else if d.getB (Reg.LANE_STATE_ERASED n beam) then sectorDecide c n slot beam none d
    else if d.tbState n < 2 ∨ (d.deck n).wins.contains slot = false then sectorSyncLost c n slot beam (d.accept n beam none)
    else syncDecide c n beam b o d

/-- RESYNC_WINDOW (R166): the next resync of a sector that has been placed, from equaliser outputs about its nominal position. -/
def resyncWindow (n beam slot : Nat) (o : Outs) (d : Dev) : Dev :=
  match (d.deck n).blk slot with
  | none => d
  | some b =>
    let offs := FMap.get (fun _ => []) b.offs beam
    if offs = [] ∨ resyncCount (b.p - 240) (slotBits * slot) < offs.length then d
    else
      let pred := offs.getLastD 0
      let found := resyncFind d n (softOf d n beam 0 (fun _ => 0) o) pred
      let off := found.getD pred
      let d := onBlk n slot (fun x => { x with offs := x.offs.ins beam (offs ++ [off]) }) d
      let d := d.onDeck n (fun k => { k with frag := k.frag.ins beam off })
      if found.isSome then d else d.bump (Reg.DET_SYNC_MISC_RS_MISS n) 1

/-! ### Decoding (R168, R169) -/

/-- LDPC_DISPATCH: a free engine takes the oldest work of the highest class (R168). -/
def ldpcDispatch (i : Nat) (d : Dev) : Dev :=
  let p := d.die i
  if 48 ≤ p.active.length + p.ldpcOut then d
  else match p.first with
    | s :: t => d.onDie i (fun p => { p with first := t, active := p.active ++ [s] })
    | [] => match p.turbo with
      | s :: t => d.onDie i (fun p => { p with turbo := t, active := p.active ++ [s] })
      | [] => d

/-- Bin of ITER_HIST for a converged first pass (R177). -/
def iterBin (k : Nat) : Nat :=
  if k ≤ 1 then 0 else if k = 2 then 1 else if k ≤ 4 then 2 else if k ≤ 6 then 3 else if k ≤ 10 then 4
  else if k ≤ 16 then 5 else 6

/-- Iteration caps in force for a sector of a block in glean g (R169, R170, R174). -/
def iterCap (d : Dev) (n g : Nat) (second : Bool) : Nat :=
  if (d.die (dieOf n)).shed && !second then
    (if 0 < g then min (d.get (Reg.DET_GLEAN_SET_ITER n g)) (d.get (Reg.DET_DEC_CFG_ITER_SHED n))
     else d.get (Reg.DET_DEC_CFG_ITER_SHED n))
  else if 0 < g then d.get (Reg.DET_GLEAN_SET_ITER n g)
  else if second then d.get (Reg.DET_DEC_CFG_ITER_MAX2 n) else d.get (Reg.DET_DEC_CFG_ITER_MAX1 n)

/-- A decode of a sector's stored outputs with its fragments at some offsets: the iterations it took, the values it ended with, its
payload if it converged (R162, R167). -/
def sectorDecode (d : Dev) (n cap beam : Nat) (b : Blk) (prior : Int → Int) (o : Outs) (offs : List Int) : Option Nat × LdpcRun :=
  let q0 := slotBits * b.slot
  decodeSoft d n cap (bodyLlr (softOf d n beam q0 prior o) (placeOf (b.p - 240) q0 offs))

/-- The first pass of a sector: at its alignment offset, or without a header at each flywheel offset until one converges (R165). -/
def firstPass (d : Dev) (n beam : Nat) (b : Blk) (o : Outs) : Option Nat × LdpcRun :=
  let offs := FMap.get (fun _ => []) b.offs beam
  let cap := iterCap d n b.glean false
  let tries := if bit b.blind beam then flyOffsets (d.die (dieOf n)).shed else [offs.headD 0]
  let runs := tries.map (fun t => sectorDecode d n cap beam b (fun _ => 0) o (t :: offs.tail))
  (runs.find? (fun r => r.1.isSome)).getD (runs.headD (none, { post := #[] }))

/-- The values of a decode as plain data. -/
def LdpcRun.values (x : LdpcRun) : List Int := x.post.toList

/-- LDPC_FIRST_PASS_DONE: a first pass ends on a sector's equaliser outputs, which are kept (R165, R167, R169). -/
def ldpcFirstPassDone (c : Clock) (n slot beam : Nat) (o : Outs) (d : Dev) : Dev :=
  let i := dieOf n
  let id : SectorId := { deck := n, slot := slot, beam := beam }
  match (d.deck n).blk slot with
  | none => dieDrop i (fun s => s == id) d
  | some b =>
    if (d.die i).active.contains id = false then d
    else
      let r := firstPass d n beam b o
      let bin := match r.1 with
        | some k => iterBin k
        | none => 7
      let d := laneMargin n beam (fun m => { m with iterHist := histAdd m.iterHist bin }) d
      let blind := bit b.blind beam
      let done := r.1.isSome && (!blind || clrBit b.hdrs beam != 0)
      if done then
        let d := if blind then
            (laneMargin n beam (fun m => { m with flywheel := satAdd 32 m.flywheel 1 }) d).bump (Reg.DET_SYNC_MISC_NOHDR n) 1
          else d
        sectorDecide c n slot beam (some (sectorPayload (expectedA d n b beam) r.2)) (dieDrop i (fun s => s == id) d)
      else if blind then sectorSyncLost c n slot beam (dieDrop i (fun s => s == id) d)
      else if d.getB (Reg.DET_DEC_CFG_TURBO_EN n) && !(d.die i).shed then
        (decide1 n slot beam .turbo d).onDie i (fun p => { p with
          active := p.active.erase id, turbo := p.turbo ++ [id],
          held := mapIf (fun h => h.id == id) (fun h => { h with outs := o, post := r.2.values }) p.held })
      else sectorDecide c n slot beam none (dieDrop i (fun s => s == id) d)

/-- A second turbo pass: the detector runs again on the stored outputs with the priors of the first pass (R169). -/
def turboPass (d : Dev) (n beam : Nat) (b : Blk) (h : Held) : Option Nat × LdpcRun :=
  let offs := FMap.get (fun _ => []) b.offs beam
  let q0 := slotBits * b.slot
  let prior := priorsOf d n (softOf d n beam q0 (fun _ => 0) h.outs) (placeOf (b.p - 240) q0 offs) h.post
  sectorDecode d n (iterCap d n b.glean true) beam b prior h.outs offs

/-- TURBO_PASS_DONE (R169). -/
def turboPassDone (c : Clock) (n slot beam : Nat) (d : Dev) : Dev :=
  let i := dieOf n
  let id : SectorId := { deck := n, slot := slot, beam := beam }
  match (d.deck n).blk slot, (d.die i).held.find? (fun h => h.id == id) with
  | some b, some h =>
    if (d.die i).active.contains id = false ∨ b.dec.getD beam .notRead ≠ .turbo then d
    else
      let r := turboPass d n beam b h
      let d := dieDrop i (fun s => s == id) d
      if r.1.isSome then
        sectorDecide c n slot beam (some (sectorPayload (expectedA d n b beam) r.2))
          (laneMargin n beam (fun m => { m with secondOk := satAdd 32 m.secondOk 1 }) d)
      else sectorDecide c n slot beam none d
  | _, _ => dieDrop i (fun s => s == id) d

/-! ### Darn (R171, R172) -/

/-- DARN_DISPATCH: a darn engine of the die takes a complete block (R171). -/
def darnDispatch (n slot : Nat) (d : Dev) : Dev :=
  let i := dieOf n
  match (d.deck n).blk slot with
  | some b => if b.complete && !b.inDarn && !b.pending && b.mode != 1 && decide ((d.die i).darn.length + (d.die i).darnOut < 4) then
      (onBlk n slot (fun b => { b with inDarn := true }) d).onDie i (fun p => { p with darn := p.darn ++ [(n, slot)] })
    else d
  | none => d

/-- The 64 payloads of a block, an erased one as zeros. -/
def Blk.pays (b : Blk) : List (List Byte) := (List.range 64).map (fun t => slice (FMap.get (fun _ => []) b.pay t) 0 4096)

/-- The tracks of a block that are erased. -/
def Blk.erased (b : Blk) : List Nat := (List.range 64).filter (fun t => b.dec.getD t .notRead == .erased)

/-- A block whose columns all decode is delivered; tracks that held errors are miscorrected sectors (R172). -/
def darnDecoded (c : Clock) (n : Nat) (b : Blk) (data : List (List Byte)) (errs : List Nat) (d : Dev) : Dev :=
  let pba := pbaOf (d.get (Reg.SEQ_STS_LAYER n)) b.swath b.slot
  let d := if errs = [] then d else
    ((d.onDeck n (fun k => { k with margin := { k.margin with miscorr := satAdd 32 k.margin.miscorr errs.length } })).set
      (Reg.DET_STS_MISCORR n) 1).fault c (.deck n)
      { cls := 2, code := 1, sev := 2, detail := le 4 pba ++ le 8 (errs.foldl setBit 0) }
  blkDeliver c n b true true data.flatten d

/-- DARN_DONE: the engine has handled the block (R172). -/
def darnDone (c : Clock) (n slot : Nat) (d : Dev) : Dev :=
  match (d.deck n).blocks.find? (fun b => b.slot == slot && b.inDarn) with
  | none => d
  | some b =>
    let d := d.onDie (dieOf n) (fun p => { p with darn := p.darn.filter (fun x => x != (n, slot)) })
    let d := blkCount n b d
    let e := b.erasures
    if b.passes % 16 = 15 then
      if e ≤ 8 ∧ (d.getB (Reg.DET_DEC_CFG_DARN_CHK n) ∨ 0 < e) then
        match darnDecode b.pays b.erased with
        | none => blkGlean c n b d
        | some r => darnDecoded c n b r.1 r.2 d
      else if e = 0 then blkDeliver c n b true true b.data d
      else if b.dataErasures = 0 then blkDeliver c n b false false b.data d
      else blkGlean c n b d
    else if b.dataErasures = 0 then blkDeliver c n b false false b.data d
    else blkGlean c n b d

/-! ### Gleans (R173, R174) -/

/-- Where in its revolution a glean set takes effect: 32 wedges before the sector start of the first of some slots, in grains (R174). -/
def gleanPoint (d : Dev) (n : Nat) (slots : List Nat) : Nat :=
  ((mapZone d n).sectorGrain (slots.foldl min 511) + 2 ^ 24 - 32 * 16384) % 2 ^ 24

/-- GLEAN_SET_APPLY: set g takes effect as its point of the revolution is passed; erasures of blocks already pending are decoded again
(R174). DEDUCED, log 43. -/
def gleanSetApply (c : Clock) (n g : Nat) (d : Dev) : Dev :=
  let l := (d.deck n).blocks.filter (fun b => b.pending && b.glean == g)
  let here := passes (gleanPoint d n (l.map (fun b => b.slot)) * 2 ^ 24) (2 ^ 48) (d.deck n).tb.prev (c.counter n)
  if l = [] ∨ d.tbState n < 2 ∨ here = false then d
  else
    let d := if (d.deck n).gleanOn then d else d.onDeck n (fun k => { k with preTaps := k.taps })
    let again := fun (b : Blk) => { b with pending := false, ended := none, dec := b.dec.map (fun v => if v = .erased then .waiting else v) }
    let d := d.onDeck n (fun k => { k with
      glean := g, gleanOn := true, blocks := mapIf (fun b => b.pending && b.glean == g) again k.blocks })
    let d := match d.get (Reg.DET_GLEAN_SET_EQ_MODE n g) with
      | 1 => d.onDeck n (fun k => { k with taps := k.firstTaps })
      | 2 => d.onDeck n (fun k => { k with taps := k.initTaps })
      | _ => d
    let ofs := d.getI (Reg.DET_GLEAN_SET_FOCUS_OFS n g)
    (d.focusBy c n (ofs - (d.deck n).gleanOfs)).onDeck n (fun k => { k with gleanOfs := ofs })

/-- The revolution mark: the last glean revolution ends once no block is pending or being read again, and another read revolution may
begin (R173, R174). -/
def gleanMark (c : Clock) (n : Nat) (d : Dev) : Dev :=
  if d.gleaning n then d else (d.gleanStop c n).onDeck n (fun k => { k with seen := [] })

/-! ### Margins (R176 to R178, R184) -/

/-- MARGIN_CLR: the counters and the sync counters are cleared, the clear is stamped (R184). -/
def marginClr (c : Clock) (n : Nat) (d : Dev) : Dev :=
  let d := d.onDeck n (fun k => { k with margin := { clrStamp := c.angleStamp n, clrTick := c.tick } })
  d.sets [(Reg.DET_SYNC_OK_SYNC_OK n, 0), (Reg.DET_SYNC_REJ_FALSE_REJ n, 0), (Reg.DET_SYNC_MISC_RS_MISS n, 0),
    (Reg.DET_SYNC_MISC_NOHDR n, 0)]

/-- A lane's margin record, 64 bytes (R177). DEDUCED, log 44. -/
def laneRecord (d : Dev) (n l : Nat) : List Byte :=
  let x := FMap.get (fun _ => {}) (d.deck n).margin.lanes l
  let lst := d.lstate n l
  let beam := if lst = lACTIVE then d.get (Reg.LANE_STATE_SRC n l) else 0xFF
  le 4 (d.handle (32 + 66 * n + l)) ++ le 1 beam ++ le 1 lst ++ le 2 0 ++ le 4 x.sectors ++
    (List.range 8).flatMap (fun i => le 4 (FMap.get (fun _ => 0) x.iterHist i)) ++ le 4 x.secondOk ++ le 4 x.flywheel ++
    le 4 x.syncLost ++ le 4 (min (x.chaff / 1024) (2 ^ 32 - 1)) ++ le 2 x.spans ++ le 2 x.slips

/-- Chaff samples of all lanes of a deck: the disc's total (R127). -/
def discChaff (d : Dev) (n : Nat) : Nat :=
  ((List.range 66).map (fun l => (FMap.get (fun _ => {}) (d.deck n).margin.lanes l).chaff)).sum

/-- The disc margin record, 128 bytes (R178). DEDUCED, log 44. -/
def discRecord (d : Dev) (n : Nat) (m : Margin) (stamp tick : Nat) : List Byte :=
  le 4 (d.handle (1 + n)) ++ le 1 (d.get (Reg.DET_MAP_CFG_MODE n)) ++ le 3 0 ++ slice (((d.deck n).disc.map (fun x => x.discId)).getD []) 0 16 ++
    le 8 m.clrStamp ++ le 8 m.clrTick ++ le 8 stamp ++ le 8 tick ++ le 4 m.blocks ++
    (List.range 9).flatMap (fun i => le 4 (FMap.get (fun _ => 0) m.darnHist i)) ++
    (List.range 4).flatMap (fun i => le 4 (FMap.get (fun _ => 0) m.gleanHist (i + 1))) ++
    le 4 m.unreadable ++ le 4 m.miscorr ++ le 4 m.overrun ++ le 4 m.unchecked

/-- MARGIN_SNAP: the disc record and 66 lane records are frozen (R176). -/
def marginSnap (c : Clock) (n : Nat) (d : Dev) : Dev :=
  let l := discRecord d n (d.deck n).margin (c.angleStamp n) c.tick ++ (List.range 66).flatMap (laneRecord d n)
  d.onDeck n (fun k => { k with snap := l })

/-! ### Equaliser sets (R158, R185, R186) -/

/-- EQ_REINIT (R158): equaliser k waits for the next data-gap start. -/
def eqReinit (n k : Nat) (d : Dev) : Dev :=
  d.onDeck n (fun x => { x with reinit := if x.reinit.contains k then x.reinit else x.reinit ++ [k] })

/-- A data gap starts after a wedge: equalisers that wait load their initial sets (R158). -/
def eqGap (n : Nat) (d : Dev) : Dev :=
  let l := (d.deck n).reinit
  if l = [] then d
  else (l.foldl (fun d k => [0, 1, 2].foldl (fun d s => eqSideInit n k s d) d) d).onDeck n (fun x => { x with reinit := [] })

/-- EQ_DATA_WRITE (R186): a tap of the initial set, or ERR. DEDUCED, log 19. -/
def eqDataWrite (n v : Nat) (d : Dev) : Dev :=
  let side := d.get (Reg.DET_EQ_ADDR_SIDE n)
  let tap := d.get (Reg.DET_EQ_ADDR_TAP n)
  if d.get (Reg.DET_EQ_ADDR_SET n) = 0 ∨ side = 3 ∨ tap = 15 then d.set (Reg.DET_EQ_DATA_ERR n) 1
  else d.onDeck n (fun k => { k with
    initTaps := FMap.set tapReset k.initTaps (tapKey (d.get (Reg.DET_EQ_ADDR_BEAM n)) side tap) (sx 12 v) })

/-- What EQ_DATA reads: the tap EQ_ADDR selects; 0 on a side held at zero (R156, R186). -/
def eqDataRead (n : Nat) (d : Dev) : Nat :=
  let key := tapKey (d.get (Reg.DET_EQ_ADDR_BEAM n)) (d.get (Reg.DET_EQ_ADDR_SIDE n)) (d.get (Reg.DET_EQ_ADDR_TAP n))
  let held := eqHeld d n (d.get (Reg.DET_EQ_ADDR_BEAM n)) (d.get (Reg.DET_EQ_ADDR_SIDE n))
  let t := if d.get (Reg.DET_EQ_ADDR_SET n) = 0 then (if held then 0 else (d.deck n).tap key) else (d.deck n).initTap key
  ux 12 t

/-! ### Consistency rules (R179) -/

/-- The first failing rule of DET. -/
def detRules (d : Dev) (n : Nat) : Option Nat :=
  let gl := [1, 2, 3, 4]
  if ¬d.get (Reg.DET_DEC_CFG_ITER_SHED n) ≤ d.get (Reg.DET_DEC_CFG_ITER_MAX1 n) then some 1
  else if ¬(4 ≤ d.get (Reg.DET_DEC_CFG_ITER_MAX1 n) ∧ 4 ≤ d.get (Reg.DET_DEC_CFG_ITER_MAX2 n)) ∨
      !gl.all (fun g => decide (4 ≤ d.get (Reg.DET_GLEAN_SET_ITER n g))) then some 2
  else if ¬(24 ≤ d.get (Reg.DET_SYNC_CFG_SYNC_MIN n) ∧ d.get (Reg.DET_SYNC_CFG_SYNC_MIN n) ≤ 46 ∧
      d.get (Reg.DET_SYNC_CFG_SYNC_TOL n) ≤ 8) then some 3
  else if ¬(32 ≤ d.get (Reg.DET_SYNC_CFG_PRE_MIN n) ∧ d.get (Reg.DET_SYNC_CFG_PRE_MIN n) ≤ 64 ∧
      10 ≤ d.get (Reg.DET_SYNC_CFG_RS_MIN n) ∧ d.get (Reg.DET_SYNC_CFG_RS_MIN n) ≤ 16 ∧
      d.get (Reg.DET_SYNC_CFG_RS_PRE n) ≤ 8) then some 4
  else if ¬(4 ≤ d.get (Reg.DET_EQ_CFG_EQ_MU_ACQ n) ∧ d.get (Reg.DET_EQ_CFG_EQ_MU_ACQ n) < d.get (Reg.DET_EQ_CFG_EQ_MU n))
    then some 5
  else if !([0, 1, 2, 3] : List Nat).all (fun t => decide (16 ≤ d.getI (Reg.DET_TGT_G0 n t)) &&
      decide ((d.getI (Reg.DET_TGT_NP_P1 n t)).natAbs + (d.getI (Reg.DET_TGT_NP_P2 n t)).natAbs < 16384)) then some 6
  else if !gl.all (fun g => d.get (Reg.DET_GLEAN_SET_EQ_MODE n g) != 3) then some 7
  else none

end Sys2Proof.Machine
end

