-- ==== Sys2Proof/Machine/Profile.lean ====
section
/-! DEFINITION. Machine/Profile.lean: the minimum-time profile of R252, planned in rational numbers. Square roots are
taken to twelve decimal places and the peak velocity by bisection (notes/assumptions/12). -/

namespace Sys2Proof.Machine

/-- A rational square root to twelve decimal places. DESIGN CHOICE, log 12. -/
def ratSqrt (x : ℚ) : ℚ := (Nat.sqrt (x * 1000000000000000000000000).floor.toNat : ℚ) / 1000000000000

/-- Duration and distance to accelerate from rest to v (R252). -/
def reach (a j v : ℚ) : ℚ × ℚ :=
  if a * a / j ≤ v then (v / a + a / j, v * (v / a + a / j) / 2)
  else (2 * ratSqrt (v / j), v * ratSqrt (v / j))

/-- Bisection for the v in lo..hi at which twice the distance of reach equals d. DESIGN CHOICE, log 12. -/
def bisect (a j d : ℚ) : Nat → ℚ → ℚ → ℚ
  | 0, lo, _ => lo
  | k + 1, lo, hi =>
    let m := (lo + hi) / 2
    if 2 * (reach a j m).2 ≤ d then bisect a j d k m hi else bisect a j d k lo m

/-- A planned move (R252): peak velocity, ramp time, cruise time. -/
structure Plan where
  vp : ℚ
  ramp : ℚ
  cruise : ℚ
  deriving DecidableEq, Repr

/-- The plan of a distance under velocity, acceleration and jerk limits (R252). -/
def planOf (v a j d : ℚ) : Plan :=
  let (t1, s1) := reach a j v
  if 2 * s1 ≤ d then { vp := v, ramp := t1, cruise := (d - 2 * s1) / v }
  else
    let vp := bisect a j d 40 0 v
    { vp := vp, ramp := (reach a j vp).1, cruise := 0 }

/-- Duration of a plan. -/
def Plan.dur (p : Plan) : ℚ := 2 * p.ramp + p.cruise

/-- Distance, velocity and acceleration t into the ramp up: jerk +J, a held, jerk −J (R252). -/
def rampAt (a j vp ramp t : ℚ) : ℚ × ℚ × ℚ :=
  let ap := if a * a / j ≤ vp then a else ratSqrt (vp * j)
  let tj := ap / j
  let th := ramp - 2 * tj
  let v1 := ap * tj / 2
  let s1 := ap * tj * tj / 6
  if t ≤ tj then (j * t * t * t / 6, j * t * t / 2, j * t)
  else if t ≤ tj + th then
    let u := t - tj
    (s1 + v1 * u + ap * u * u / 2, v1 + ap * u, ap)
  else
    let u := t - tj - th
    let v2 := v1 + ap * th
    let s2 := s1 + v1 * th + ap * th * th / 2
    (s2 + v2 * u + ap * u * u / 2 - j * u * u * u / 6, v2 + ap * u - j * u * u / 2, ap - j * u)

/-- Distance, velocity and acceleration t into a plan of distance d. -/
def Plan.at (p : Plan) (a j d t : ℚ) : ℚ × ℚ × ℚ :=
  if t ≤ 0 then (0, 0, 0)
  else if p.dur ≤ t then (d, 0, 0)
  else if t ≤ p.ramp then rampAt a j p.vp p.ramp t
  else if t ≤ p.ramp + p.cruise then ((rampAt a j p.vp p.ramp p.ramp).1 + p.vp * (t - p.ramp), p.vp, 0)
  else
    let r := rampAt a j p.vp p.ramp (p.dur - t)
    (d - r.1, r.2.1, -r.2.2)

end Sys2Proof.Machine
end

