-- ==== Sys2Proof/Machine/Loop.lean ====
section
/-! DEFINITION. Machine/Loop.lean: the servo loop engine of a deck (spec file 08): signals, the sample path, runout
feedforward, supervision, profiles, banks, and the slot registers with rows of their own. -/

namespace Sys2Proof.Machine

/-! ### Faults of a slot (R257 to R259) -/

/-- Shock drops of a deck in the last 10 s (R365). -/
def shockDrops (c : Clock) (n : Nat) (d : Dev) : Nat :=
  ((d.deck n).seq.shockTicks.filter (fun t => decide (c.tick < t + 10000000000))).length

/-- A slot raises a fault: record, status, and its action (R257, R258). DEDUCED, log 33. -/
def slotFault (c : Clock) (n s fcode : Nat) (d : Dev) : Dev :=
  let act := if 4 ≤ fcode then 2 else min (d.get (Reg.LOOP_SLOT_CFG_ACTION n s)) 2
  let was := d.getB (Reg.LOOP_ENG_STS_SAFE n)
  let d := (d.set (Reg.LOOP_STS_FAULT n s) 1).set (Reg.LOOP_STS_FCODE n s) fcode
  let d := d.fault c (.deck n) { cls := 4, code := 1, sev := 2, detail := le 1 s ++ le 1 fcode ++ le 1 act }
  if was then d
  else match act with
    | 0 => d
    | 1 => (d.onSlot n s (fun a => { a with inhibit := true })).gateClose n gLOOP
    | _ =>
      let d := d.safeState c n
      let d := if d.get (Reg.SLD_STS_STATE n) = slFOLLOW then
        (d.set (Reg.SLD_STS_STATE n) slSTOPPING).onDeck n (fun k => { k with sled := { k.sled with velTgt := 0, cmd := 3 } })
        else d
      let q := (d.deck n).seq
      let st := d.dstate n
      if q.shockOpen && s ≤ 1 && decide (2 ≤ st) && decide (st ≤ 7) &&
          decide (shockDrops c n d < d.get (Reg.SEQ_RECOV_CFG_SHOCK_TRY n)) then
        -- a shock drop (R365): record, count, SAFE released, the focus sweep rerun with the spindle left running
        let cnt := satAdd 4 (shockDrops c n d) 1
        let d := d.set (Reg.SEQ_STS_SHOCK_CNT n) cnt
        let d := d.fault c (.deck n) { cls := 4, code := 2, sev := 1, detail := le 1 cnt }
        let d := d.onDeck n (fun k => { k with seq := { k.seq with
          shockTicks := k.seq.shockTicks ++ [c.tick], job := 5, sweeps := 0, rehome := 0,
          layerTgt := d.get (Reg.SEQ_STS_LAYER n) } })
        ((((d.set (Reg.LOOP_ENG_STS_SAFE n) 0).gateClear c n gLOOP).deckState n dSPINNING).set (Reg.SEQ_STS_STEP n) 5).lanesStandby n
      else if 2 ≤ st ∧ st ≤ 7 then d.deckFault c n (if fcode = 4 ∧ s = 0 ∧ st = dFOCUSED then 4 else 8) else d

/-! ### Banks (R248 to R251) -/

/-- Reset value of a bank word (R248). -/
def bankReset (w : Nat) : Nat := if w = 5 ∨ w = 6 ∨ w = 8 ∨ w = 13 ∨ w = 18 ∨ w = 23 then 0x40000000 else 0

/-- A word of a bank. -/
def Slot.word (a : Slot) (b w : Nat) : Nat := FMap.get bankReset (if b = 0 then a.bankA else a.bankB) w

/-- Write a word of a bank. -/
def Slot.setWord (a : Slot) (b w v : Nat) : Slot :=
  if b = 0 then { a with bankA := FMap.set bankReset a.bankA w (v % 2 ^ 32) }
  else { a with bankB := FMap.set bankReset a.bankB w (v % 2 ^ 32) }

/-- A coefficient in Q2.30. -/
def Slot.coef (a : Slot) (b w : Nat) : Int := sx 32 (a.word b w)

/-- A biquad is stable: |a2| < 1 and |a1| < 1 + a2 (R250). -/
def stable (a : Slot) (b q : Nat) : Bool :=
  let a1 := a.coef b (11 + 5 * q)
  let a2 := a.coef b (12 + 5 * q)
  decide ((a2.natAbs : Int) < 2 ^ 30) && decide ((a1.natAbs : Int) < 2 ^ 30 + a2)

/-- The swap of a slot's banks, with the stability check (R250, R251). -/
def bankSwap (n s : Nat) (clr : Bool) (d : Dev) : Dev :=
  let to' := 1 - d.get (Reg.LOOP_BANK_ACTIVE n s)
  match [0, 1, 2, 3].find? (fun q => !stable ((d.deck n).slot s) to' q) with
  | some q => (d.swapEnd n s 2).set (Reg.LOOP_BANK_BAD n s) q
  | none =>
    let d := (d.swapEnd n s 1).set (Reg.LOOP_BANK_ACTIVE n s) to'
    d.onSlot n s (fun a =>
      let a := { a with blank := d.get (Reg.LOOP_SUP_CFG_BLANK n s), oscSamples := 0, oscN := 0 }
      if clr then { a with dly := [{}, {}, {}, {}], ePrev := 0 } else a)

/-- BANK_SWAP_REQ (R250, R251, R272). -/
def bankSwapReq (n s trig : Nat) (atTrig clr : Bool) (d : Dev) : Dev :=
  if d.getB (Reg.LOOP_BANK_BUSY n s) then d.set (Reg.LOOP_BANK_BUSY_REJ n s) 1
  else
    let d := ((d.set (Reg.LOOP_BANK_TRIG n s) trig).setB (Reg.LOOP_BANK_AT_TRIG n s) atTrig).setB
      (Reg.LOOP_BANK_CLR_STATE n s) clr
    if atTrig ∧ (d.getB (Reg.ANG_TRIG_CFG_ARM n trig) = false ∨ d.get (Reg.ANG_TRIG_CFG_MODE n trig) = 0) then
      d.swapEnd n s 3
    else ((d.set (Reg.LOOP_BANK_BUSY n s) 1).set (Reg.LOOP_BANK_REQ n s) 1).onSlot n s
      (fun a => { a with swap := some { atTrig := atTrig, trig := trig, clr := clr } })

/-- BANK_SWAP_CANCEL (R251). -/
def bankSwapCancel (n s : Nat) (d : Dev) : Dev :=
  if d.getB (Reg.LOOP_BANK_BUSY n s) then d.swapEnd n s 4 else d

/-- The swaps that wait on a trigger are made at its firing (R250). -/
def swapsAtTrig (n t : Nat) (d : Dev) : Dev :=
  (List.range 8).foldl (fun d s => match ((d.deck n).slot s).swap with
    | some p => if p.atTrig && p.trig == t then bankSwap n s p.clr d else d
    | none => d) d

/-! ### Input signals (R238, R239) -/

/-- A ratio as a Q1.31 fraction. DESIGN CHOICE, log 34. -/
def ratio (num : Int) (den : Int) : Int :=
  if den = 0 then clampI (-(2 ^ 31)) (2 ^ 31 - 1) (Config.servoDivZero num)
  else clampI (-(2 ^ 31)) (2 ^ 31 - 1) (Config.rnd (if 0 < den then num * 2 ^ 31 else -num * 2 ^ 31) den.natAbs)

/-- A loop sample: what every sample sees, and of a wedge sample what the wedge field shows beside. -/
structure Sample extends ServoObs, WedgeObs where
  deriving DecidableEq, Repr

/-- A servo channel after the offset correction of R605. -/
def chan (d : Dev) (n : Nat) (o : Sample) (j : Nat) : Int := o.ch.getD j 0 - d.getI (Reg.TST_SVO_OFS_OFS n j)

/-- The sum signal of the central spot. -/
def sumSig (d : Dev) (n : Nat) (o : Sample) : Int := chan d n o 0 + chan d n o 1 + chan d n o 2 + chan d n o 3

/-- FES (R238). -/
def fes (d : Dev) (n : Nat) (o : Sample) : Int :=
  ratio (chan d n o 0 + chan d n o 2 - (chan d n o 1 + chan d n o 3)) (sumSig d n o)

/-- TES_C (R238). -/
def tesC (d : Dev) (n : Nat) (o : Sample) : Int :=
  let main := ratio (chan d n o 0 + chan d n o 3 - (chan d n o 1 + chan d n o 2)) (sumSig d n o)
  let side := ratio (chan d n o 4 - chan d n o 5) (chan d n o 4 + chan d n o 5)
  clampI (-(2 ^ 31)) (2 ^ 31 - 1) (main - Config.rnd (d.get (Reg.LOOP_SAMPLE_CFG_KDPP n) * side) 64)

/-- PES_W, or twice the C and D bursts when beyond 0.6 (R238). -/
def pesW (o : Sample) : Int :=
  let p := ratio ((o.ba : Int) - o.bb) (o.ba + o.bb)
  if 6 * 2 ^ 31 < 10 * (p.natAbs : Int) then clampI (-(2 ^ 31)) (2 ^ 31 - 1) (2 * ratio ((o.bc : Int) - o.bd) (o.bc + o.bd))
  else p

/-- SPEED_ERR (R238): the commanded speed less the measured one, from INC while the timebase has an angle, from the spindle observer
otherwise. -/
def speedErr (d : Dev) (n : Nat) : Int :=
  let cmd := (d.deck n).spn.cmdSpeed
  if 2 ≤ d.tbState n then
    ratio (cmd * 2 ^ 48 - 1000 * 60000000000 * (d.get (Reg.ANG_INC_INC n) : Int)) (1000 * 2048 * 2 ^ 48)
  else ratio (cmd - 1000 * d.getI (Reg.SPN_STS_SPEED n)) (1000 * 2048)

/-- The measured speed for the loops (R238). -/
def loopRpm (d : Dev) (n : Nat) : Int :=
  if 2 ≤ d.tbState n then rpmOfInc (d.get (Reg.ANG_INC_INC n)) else d.getI (Reg.SPN_STS_SPEED n)

/-- Whether the wedge sample of slot 1 falls back to TES_C (R239). -/
def fallsBack (d : Dev) (n : Nat) (o : Sample) : Bool :=
  !o.mark || decide ((o.ba + o.bb) * 4 * (d.deck n).eng.bursts.length < (d.deck n).eng.bursts.sum)

/-- The input signal of a slot by its SRC (R238); kind 0 wedge sample, 1 sub-sample, 2 free-running. -/
def srcSignal (d : Dev) (n s kind : Nat) (o : Sample) : Int :=
  match d.get (Reg.LOOP_SLOT_CFG_SRC n s) with
  | 0 => 0
  | 1 => fes d n o
  | 2 => if kind = 0 ∧ (d.deck n).eng.fell = false then pesW o
         else clampI (-(2 ^ 31)) (2 ^ 31 - 1) (tesC d n o - (d.deck n).eng.ofsC)
  | 3 => ratio (chan d n o 6 - chan d n o 7) (chan d n o 6 + chan d n o 7)
  | 4 => (d.deck n).eng.coilMean
  | 5 => speedErr d n
  | k => if 8 ≤ k then ratio (chan d n o (k - 8)) 2048 else 0

/-! ### Profiles in a sample (R252) -/

/-- Position in nm and acceleration in m/s² of a slot's move at a tick. DESIGN CHOICE, log 35. -/
def profNow (d : Dev) (n : Nat) (p : Prof) (tick : Nat) : Int × Int :=
  if p.stopping then (Config.stopPath p.start p.target (tick - p.t0), 0)
  else if p.sweep then (Config.sweepPath p.start p.target (d.get (Reg.SEQ_FOCUS_CFG_FS_MS n)) (tick - p.t0), 0)
  else
    let v : ℚ := (p.vLim : ℚ) / 10000
    let a : ℚ := p.aLim
    let j : ℚ := (p.jLim : ℚ) * 10000
    let dist : ℚ := ((p.target - p.start).natAbs : ℚ) / 1000000000
    let r := (planOf v a j dist).at a j dist (((tick - p.t0 : Nat) : ℚ) / 1000000000)
    let sg : Int := if p.start ≤ p.target then 1 else -1
    (p.start + sg * (r.1 * 1000000000).floor, sg * r.2.2.floor)

/-- A profile position as a Q1.31 fraction: nm of ±1,024 nm, or 2^-20 of output full scale in OPEN (R238, R247). -/
def profQ (mode : Nat) (nm : Int) : Int := if mode = 1 then nm * 2 ^ 11 else nm * 2 ^ 21

/-! ### Runout feedforward (R244 to R246) -/

/-- A runout table entry. -/
def Slot.entryAt (a : Slot) (w : Nat) : Int := FMap.get (fun _ => 0) a.table (w % 1024)

/-- Q1.31 saturation, with whether it acted. -/
def sat31 (v : Int) : Int × Bool :=
  let r := clampI (-(2 ^ 31)) (2 ^ 31 - 1) v
  (r, decide (r ≠ v))

/-- ff(w, m) of R245, saturated like every stage, with whether it was (R241). -/
def ffTerm (d : Dev) (n s m : Nat) (a : Slot) : Int × Bool :=
  let mode := d.get (Reg.LOOP_STS_MODE n s)
  if d.getB (Reg.LOOP_FF_CTL_FF_EN n s) ∧ 2 ≤ d.tbState n ∧ d.getB (Reg.LOOP_ENG_STS_FREE n) = false ∧ 2 ≤ mode then
    let w := (d.deck n).eng.wedge + d.get (Reg.LOOP_FF_CTL_FF_LEAD n s)
    let t0 := a.entryAt w
    let ff := t0 + Config.rnd (m * (a.entryAt (w + 1) - t0)) 5
    sat31 (if d.getB (Reg.LOOP_FF_CTL_FF_SPEED n s) then
      Config.rnd (ff * loopRpm d n * loopRpm d n) (12000 * 12000)
    else ff)
  else (0, false)

/-! ### The signal path (R241 to R243) -/

/-- A product sum in Q.61 brought to Q1.31. -/
def prod31 (sum : Int) : Int × Bool := sat31 (Config.rnd sum (2 ^ 30))

/-- One biquad (R242). -/
def biquad (a : Slot) (b q : Nat) (dl : Delay) (v : Int) : Int × Delay × Bool :=
  let r := prod31 (a.coef b (8 + 5 * q) * v + a.coef b (9 + 5 * q) * dl.x1 + a.coef b (10 + 5 * q) * dl.x2
    - a.coef b (11 + 5 * q) * dl.y1 - a.coef b (12 + 5 * q) * dl.y2)
  (r.1, { x1 := v, x2 := dl.x1, y1 := r.1, y2 := dl.y1 }, r.2)

/-- The four biquads in order. -/
def biquads (a : Slot) (b : Nat) (v : Int) : Int × List Delay × Bool :=
  [0, 1, 2, 3].foldl (fun st q =>
    let r := biquad a b q (a.dly.getD q {}) st.1
    (r.1, st.2.1 ++ [r.2.1], st.2.2 || r.2.2)) (v, [], false)

/-- Sum of the outputs aimed at a slot's set-point, from the previous sample (R242, R267). -/
def cascadeIn (d : Dev) (n s : Nat) : Int :=
  (List.range 8).foldl (fun acc j =>
    if s < 3 && d.get (Reg.LOOP_SLOT_CFG_DEST n j) == 6 + s then acc + ((d.deck n).slot j).uPrev else acc) 0

/-- The native supervisor (R255): the new residual, and whether it is a plant fault. -/
def residual (d : Dev) (n s : Nat) (a : Slot) (b : Nat) (x : Int) : Int × Bool :=
  let pred := (prod31 (a.coef b 28 * a.x1 + a.coef b 29 * a.x2 + a.coef b 30 * a.u1 + a.coef b 31 * a.u2)).1
  let r := a.res + Config.rnd (((x - pred).natAbs : Int) - a.res) (2 ^ d.get (Reg.LOOP_SUP_CFG_RES_SH n s))
  (r, decide ((d.get (Reg.LOOP_SUP_CFG_RES_LIM n s) : Int) * 2 ^ 16 < r))

/-- The compatibility supervisor (R256): the slot after this sample, and whether an oscillation fault arises. -/
def oscillate (d : Dev) (n s : Nat) (a : Slot) (e : Int) : Slot × Option Nat × Bool :=
  let amp := decide ((d.get (Reg.LOOP_OSC_CFG_OSC_AMP n s) : Int) * 2 ^ 23 < (e.natAbs : Int))
  let neg := decide (e < 0)
  let crossed := decide (neg ≠ a.oscSign) && a.oscPeak
  let a := { a with
    oscSign := neg, oscPeak := if crossed then amp else a.oscPeak || amp,
    oscN := if crossed then a.oscN + 1 else a.oscN, oscSamples := a.oscSamples + 1 }
  if 16 * d.get (Reg.LOOP_OSC_CFG_OSC_WIN n s) ≤ a.oscSamples then
    let osc := decide (d.get (Reg.LOOP_OSC_CFG_CNT_LO n s) ≤ a.oscN ∧ a.oscN ≤ d.get (Reg.LOOP_OSC_CFG_CNT_HI n s))
    let rep := if osc then a.oscRep + 1 else 0
    ({ a with oscSamples := 0, oscN := 0, oscRep := rep }, some a.oscN,
      osc && decide (d.get (Reg.LOOP_OSC_CFG_OSC_REP n s) ≤ rep))
  else (a, none, false)

/-- A jump or seek is decided: capture, crossings, layers, which have 64 wedges to be found again (R253, R259). -/
def profDecide (c : Clock) (n s : Nat) (d : Dev) : Dev :=
  match ((d.deck n).slot s).prof with
  | none => d
  | some p =>
    if p.ended = false ∨ p.kind = 1 then d
    else
      let captured := decide (d.get (Reg.LOOP_PROF_J_CAP_CNT n s) ≤ p.capRun)
      let seen := (d.deck n).eng.layerSeen
      let want := d.get (Reg.LOOP_PROF_CTL_LAYER n s)
      let good := (seen.filter (fun l => l == some want)).length
      let bad := seen.any (fun l => l.isSome && l != some want)
      let isLayer := decide (s = 0 ∧ p.kind = 2)
      let seekOk := decide (p.kind ≠ 3 ∨ d.get (Reg.LOOP_PROF_CTL_CROSS n s) = p.seek / 200)
      let fin := fun (r : Nat) (d : Dev) =>
        ((d.onSlot n s (fun a => { a with prof := none })).set (Reg.LOOP_PROF_CTL_BUSY n s) 0).set
          (Reg.LOOP_PROF_CTL_RESULT n s) r
      if captured = false ∧ p.capLeft = 0 then slotFault c n s 4 (fin 4 d)
      else if captured ∧ isLayer ∧ (bad = true ∨ (8 ≤ seen.length ∧ good < 5) ∨ 64 ≤ (d.deck n).eng.layerWait) then slotFault c n s 4 (fin 4 d)
      else if captured ∧ seekOk = false then slotFault c n s 4 (fin 4 d)
      else if captured ∧ (isLayer = false ∨ 8 ≤ seen.length) then fin 1 d
      else d

/-- The capture count of a running jump or seek moves on (R253). -/
def profCapture (n s : Nat) (e : Int) (d : Dev) : Dev :=
  d.onSlot n s (fun a => match a.prof with
    | none => a
    | some p =>
      if p.ended then
        let inside := decide ((e.natAbs : Int) < (d.get (Reg.LOOP_PROF_J_CAPTURE n s) : Int) * 2 ^ 21)
        let need := d.get (Reg.LOOP_PROF_J_CAP_CNT n s)
        { a with prof := some { p with
          capRun := if need ≤ p.capRun then p.capRun else if inside then p.capRun + 1 else 0, capLeft := p.capLeft - 1 } }
      else a)

/-- A slot in CLOSED computes its output (R242, R243). -/
def closedSample (c : Clock) (n s m : Nat) (x : Int) (d : Dev) : Dev :=
  let a := (d.deck n).slot s
  let b := d.get (Reg.LOOP_BANK_ACTIVE n s)
  let pp := match a.prof with
    | some p => if p.ended then (p.target, 0) else profNow d n p c.tick
    | none => (a.profPos, 0)
  let r := sat31 (d.getI (Reg.LOOP_SP_OFS_SP_OFS n s) + profQ 2 pp.1 + cascadeIn d n s)
  let e0 := sat31 (r.1 - x)
  let e1 := if d.getB (Reg.LOOP_SLOT_CFG_POL n s) then sat31 (-e0.1) else e0
  let e := e1.1
  let p := prod31 (a.coef b 0 * e)
  let iS := sat31 (a.integ + Config.rnd (a.coef b 1 * e + a.coef b 3 * (a.uPrev - a.wPrev)) (2 ^ 30))
  let iMin := q31of15 (d.getI (Reg.LOOP_I_LIM_I_MIN n s))
  let iMax := q31of15 (d.getI (Reg.LOOP_I_LIM_I_MAX n s))
  let iC := clampI iMin iMax iS.1
  let i := if d.getB (Reg.LOOP_SLOT_CTL_HOLD_I n s) then a.integ else iC
  let dd := prod31 (a.coef b 2 * (e - a.ePrev))
  let v := sat31 ((p.1 + i + dd.1) * 2 ^ (a.word b 7 % 16))
  let bq := biquads a b v.1
  let fb := bq.1
  let ff := ffTerm d n s m a
  let w := sat31 (fb + Config.rnd (a.coef b 5 * ff.1 + a.coef b 4 * (pp.2 * 2 ^ 15)) (2 ^ 30))
  let lim := (d.get (Reg.LOOP_OUT_LIM_OUT_LIM n s) : Int) * 2 ^ 16
  let u := clampI (-lim) lim w.1
  let limited := decide (u ≠ w.1)
  let sup := d.get (Reg.LOOP_SLOT_CFG_SUP n s)
  let run := decide (a.blank = 0)
  let res := if run && bit sup 0 then residual d n s a b x else (a.res, false)
  let a1 := { a with
    integ := i, ePrev := e, uPrev := u, wPrev := w.1, x2 := a.x1, x1 := x, u2 := a.u1, u1 := u, dly := bq.2.1, fb := fb,
    blank := a.blank - 1, res := res.1, profPos := pp.1, satRun := if limited then a.satRun + 1 else 0 }
  let os := if run && bit sup 1 then oscillate d n s a1 e else (a1, none, false)
  let satF := decide (d.get (Reg.LOOP_OUT_LIM_SAT_CNT n s) ≤ os.1.satRun) && limited
  let a2 := if satF then { os.1 with satRun := 0 } else os.1
  let d := d.onSlot n s (fun _ => a2)
  let intSat := r.2 || e0.2 || e1.2 || p.2 || iS.2 || dd.2 || v.2 || bq.2.2 || ff.2 || w.2
  let d := if intSat then d.set (Reg.LOOP_STS_INT_SAT n s) 1 else d
  let d := if limited then d.set (Reg.LOOP_STS_OSAT n s) 1 else d
  let d := if iC ≠ iS.1 then d.set (Reg.LOOP_STS_ICLAMP n s) 1 else d
  let d := (d.set (Reg.LOOP_VAL_OUT n s) (ux 16 (u / 2 ^ 16))).set (Reg.LOOP_VAL_ERR n s) (ux 16 (e / 2 ^ 16))
  let d := d.set (Reg.LOOP_RESID_RES n s) (res.1 / 2 ^ 16).toNat
  let d := match os.2.1 with
    | some k => d.set (Reg.LOOP_RESID_OSC_CNT n s) k
    | none => d
  let d := profDecide c n s (profCapture n s e d)
  let d := if res.2 then slotFault c n s 1 d else d
  let d := if os.2.2 then slotFault c n s 2 d else d
  if satF then slotFault c n s 3 d else d

/-- A slot's output in OPEN or JUMP (R247). -/
def openSample (c : Clock) (n s m mode : Nat) (x : Int) (d : Dev) : Dev :=
  let a := (d.deck n).slot s
  let b := d.get (Reg.LOOP_BANK_ACTIVE n s)
  let pp := match a.prof with
    | some p => if p.ended then (p.target, 0) else profNow d n p c.tick
    | none => (a.profPos, 0)
  let ff := ffTerm d n s m a
  let r := if mode = 1 then sat31 (a.entry + profQ 1 pp.1)
    else sat31 (a.entry + Config.rnd (a.coef b 5 * ff.1 + a.coef b 4 * (pp.2 * 2 ^ 15)) (2 ^ 30))
  let u := r.1
  let d := if r.2 || (mode != 1 && ff.2) then d.set (Reg.LOOP_STS_INT_SAT n s) 1 else d
  let d := d.onSlot n s (fun a => { a with
    uPrev := u, wPrev := u, x2 := a.x1, x1 := x, u2 := a.u1, u1 := u, profPos := pp.1, blank := a.blank - 1 })
  d.set (Reg.LOOP_VAL_OUT n s) (ux 16 (u / 2 ^ 16))

/-- One sample of one slot: pending mode, swap before the sample, then the path of its mode (R247, R250); the timebase is
disabled when slot 0 leaves CLOSED (R53). -/
def slotSample (c : Clock) (n s kind m : Nat) (o : Sample) (d : Dev) : Dev :=
  let d := match ((d.deck n).slot s).swap with
    | some p => if p.atTrig then d else bankSwap n s p.clr d
    | none => d
  let d := match ((d.deck n).slot s).pendMode with
    | some md =>
      let lost := s == 0 && decide (2 ≤ d.get (Reg.LOOP_STS_MODE n 0)) && decide (md < 2)
      let d := (d.profStop n s).slotMode n s md
      if lost then d.tbDisable c n else d
    | none => d
  let a := (d.deck n).slot s
  let in' := prod31 (a.coef (d.get (Reg.LOOP_BANK_ACTIVE n s)) 6 * srcSignal d n s kind o)
  let x := in'.1
  let d := if in'.2 then d.set (Reg.LOOP_STS_INT_SAT n s) 1 else d
  match d.get (Reg.LOOP_STS_MODE n s) with
  | 0 => d.set (Reg.LOOP_VAL_OUT n s) 0
  | 1 => openSample c n s m 1 x d
  | 2 => closedSample c n s m x d
  | _ => openSample c n s m 3 x d

/-- Position and focus errors against the gate's limits, for LIM_CNT samples in a row (R211). -/
def gateErrors (c : Clock) (n : Nat) (took : List Nat) (d : Dev) : Dev :=
  let past := fun (s lim : Nat) => d.get (Reg.LOOP_STS_MODE n s) == 2 &&
    decide ((lim : Int) * 2 ^ 21 < ((((d.deck n).slot s).ePrev).natAbs : Int))
  let p := past 1 (d.get (Reg.WRP_GATE_CFG_PES_LIM n))
  let f := past 0 (d.get (Reg.WRP_GATE_CFG_FES_LIM n))
  let cnt := d.get (Reg.WRP_GATE_CFG_LIM_CNT n)
  let d := d.onDeck n (fun k => { k with gate := { k.gate with
    pesRun := if took.contains 1 = false then k.gate.pesRun else if p then k.gate.pesRun + 1 else 0,
    fesRun := if took.contains 0 = false then k.gate.fesRun else if f then k.gate.fesRun + 1 else 0 } })
  let d := if decide (cnt ≤ (d.deck n).gate.pesRun) && p then d.gateClose n gPES else if p then d else d.gateClear c n gPES
  if decide (cnt ≤ (d.deck n).gate.fesRun) && f then d.gateClose n gFES else if f then d else d.gateClear c n gFES

/-- Crossings of TES_C counted by a SEEK (R253). -/
def seekCross (n : Nat) (o : Sample) (d : Dev) : Dev :=
  match ((d.deck n).slot 1).prof with
  | some p =>
    let t := tesC d n o
    let rise := decide (p.lastTes < 0 ∧ 0 ≤ t)
    let d := d.onSlot n 1 (fun a => { a with prof := some { p with lastTes := t } })
    if p.kind == 3 && !p.ended && rise then
      d.set (Reg.LOOP_PROF_CTL_CROSS n 1) (d.get (Reg.LOOP_PROF_CTL_CROSS n 1) + 1) else d
  | none => d

/-- Focus lost: the sum signal below a quarter of its mean for 8 samples in CLOSED (R257). -/
def focusLost (c : Clock) (n : Nat) (wedge : Bool) (o : Sample) (d : Dev) : Dev :=
  let s := (sumSig d n o).toNat
  let low := decide (s * 4 * (d.deck n).eng.sums.length < (d.deck n).eng.sums.sum) && d.get (Reg.LOOP_STS_MODE n 0) == 2
  let d := d.onDeck n (fun k => { k with eng := { k.eng with
    sumRun := if low then k.eng.sumRun + 1 else 0,
    sums := if wedge then (s :: k.eng.sums).take 64 else k.eng.sums } })
  if 8 ≤ (d.deck n).eng.sumRun then slotFault c n 0 5 (d.onDeck n (fun k => { k with eng := { k.eng with sumRun := 0 } }))
  else d

/-- Output of the slot that drives a destination; 0 when none does (R234, R267). -/
def destOut (d : Dev) (n dest : Nat) : Int :=
  match (List.range 8).find? (fun s => d.get (Reg.LOOP_SLOT_CFG_DEST n s) == dest) with
  | some s => ((d.deck n).slot s).uPrev
  | none => 0

/-- Current asked of coil k, in mA: its slot's output of ±1.5 A full scale, reversed under POL, held to the bridge limit; none while the
bridge is off (R241, R283). -/
def coilDrive (d : Dev) (n k : Nat) : Int :=
  let lim : Int := 10 * (min (d.get (Reg.ACT_COIL_CFG_I_LIM n k)) 150 : Nat)
  let i := Config.rnd (destOut d n (1 + k) * 1500) (2 ^ 31)
  if d.getB (Reg.ACT_COIL_STS_ON n k) = false then 0
  else clampI (-lim) lim (if d.getB (Reg.ACT_COIL_CFG_POL n k) then -i else i)

/-- Slots that take part in a sample of a kind (R236, R237), in order 0 to 7 (R240). -/
def sampleSlots (d : Dev) (n kind : Nat) : List Nat :=
  (List.range 8).filter (fun s => kind == 0 || d.getB (Reg.LOOP_SLOT_CFG_SUB n s) ||
    (kind == 2 && (d.deck n).eng.freeN % 5 == 0))

/-- What a sample shows of coil k: its current, a current that reached the bridge limit, an open coil; the slot that drives a
coil newly found open raises SAT (R283, R284). DEDUCED, log 37. -/
def coilSense (c : Clock) (n k : Nat) (i : Int × Bool) (d : Dev) : Dev :=
  let lim := 10 * min (d.get (Reg.ACT_COIL_CFG_I_LIM n k)) 150
  let was := d.getB (Reg.ACT_COIL_STS_OPEN n k)
  let d := d.setI (Reg.ACT_COIL_STS_I_MEAS n k) i.1
  let d := if lim ≤ i.1.natAbs then d.set (Reg.ACT_COIL_STS_OC n k) 1 else d
  if i.2 then
    let d := d.set (Reg.ACT_COIL_STS_OPEN n k) 1
    match (List.range 8).find? (fun s => d.get (Reg.LOOP_SLOT_CFG_DEST n s) == 1 + k) with
    | some s => if was then d else slotFault c n s 3 d
    | none => d
  else d

/-- The coils a sample reports. -/
def coilsSense (c : Clock) (n : Nat) (o : Sample) (d : Dev) : Dev :=
  ((List.range 3).zip o.coils).foldl (fun d (p : Nat × (Int × Bool)) => coilSense c n p.1 p.2 d) d

/-- One sample of the engine (R235 to R240). -/
def loopSample (c : Clock) (n kind m : Nat) (o : Sample) (d : Dev) : Dev :=
  let d := coilsSense c n o d
  let d := focusLost c n (kind == 0) o d
  let d := seekCross n o d
  let took := sampleSlots d n kind
  let d := took.foldl (fun d s => slotSample c n s kind m o d) d
  let d := d.set (Reg.LOOP_ENG_STS_SAMPLES n) (d.get (Reg.LOOP_ENG_STS_SAMPLES n) + 1)
  let u1 := ((d.deck n).slot 1).uPrev
  let d := d.onDeck n (fun k => { k with eng := { k.eng with
    coilSum := if kind = 2 then 0 else k.eng.coilSum + u1, coilN := if kind = 2 then 0 else k.eng.coilN + 1,
    coils := [coilDrive d n 0, coilDrive d n 1, coilDrive d n 2], sampledAt := some c.tick } })
  gateErrors c n took d

/-- The wedge sample of trigger 0: bursts, offset of the continuous signal, layer field, learning sums (R239, R246). -/
def wedgeSample (c : Clock) (n : Nat) (o : Sample) (d : Dev) : Dev :=
  let fb := fallsBack d n o
  let found := d.tbState n == tbLOCKED || o.mark
  let d := if fb then d.bump (Reg.LOOP_STS_FALLBACK n 1) 1
    else d.onDeck n (fun k => { k with eng := { k.eng with
      ofsC := k.eng.ofsC + Config.rnd (tesC d n o - pesW o) (2 ^ d.get (Reg.LOOP_SAMPLE_CFG_OSH n)) } })
  let d := d.onDeck n (fun k => { k with eng := { k.eng with
    bursts := ((o.ba + o.bb) :: k.eng.bursts).take 64,
    coilMean := if k.eng.coilN = 0 then k.eng.coilMean else Config.rnd k.eng.coilSum k.eng.coilN, coilSum := 0, coilN := 0,
    fell := fb,
    layerSeen := if found && decide (k.eng.layerSeen.length < 8) then k.eng.layerSeen ++ [o.layer] else k.eng.layerSeen,
    layerWait := if found then k.eng.layerWait else k.eng.layerWait + 1 } })
  let d := (d.set (Reg.LOOP_ENG_STS_FREE n) 0)
  let d := loopSample c n 0 0 o d
  let w := (d.deck n).eng.wedge
  (List.range 8).foldl (fun d s => d.onSlot n s (fun a => match a.learn with
    | some l => if l.started then
        { a with learn := some { l with sums := l.sums.ins w (FMap.get (fun _ => 0) l.sums w +
          (if loopRpm d n = 0 then 0 else Config.rnd (a.fb * 12000 * 12000) ((loopRpm d n) * (loopRpm d n)).natAbs)) } }
      else a
    | none => a)) d

/-- Trigger 4 advances the table index (R245). -/
def wedgeAdvance (c : Clock) (n : Nat) (d : Dev) : Dev :=
  d.onDeck n (fun k => { k with eng := { k.eng with wedge := c.grain n / 16384 } })

/-- The revolution mark for learning runs (R246): start, count, apply at the 16th. DEDUCED, log 33. -/
def learnMark (n s : Nat) (d : Dev) : Dev :=
  match ((d.deck n).slot s).learn with
  | none => d
  | some l =>
    if l.started = false then
      if d.get (Reg.LOOP_STS_MODE n s) = 2 ∧ d.tbState n = tbLOCKED then d.onSlot n s (fun a => { a with learn := some { started := true } })
      else d.learnDrop n s
    else
      let r := d.get (Reg.LOOP_FF_CTL_REVS n s) + 1
      if r < 16 then d.set (Reg.LOOP_FF_CTL_REVS n s) r
      else
        let sh := d.get (Reg.LOOP_FF_CTL_LRN_SH n s)
        let d := d.onSlot n s (fun a => { a with table := (List.range 1024).foldl (fun t w =>
          FMap.set (fun _ => (0 : Int)) t w (sat31 (FMap.get (fun _ => 0) t w +
            Config.rnd (FMap.get (fun _ => 0) l.sums w) (16 * 2 ^ sh))).1) a.table })
        let d := d.set (Reg.LOOP_FF_CTL_REVS n s) 0
        if d.getB (Reg.LOOP_FF_CTL_CONT n s) then d.onSlot n s (fun a => { a with learn := some { started := true } })
        else (d.onSlot n s (fun a => { a with learn := none })).set (Reg.LOOP_FF_CTL_LEARN n s) 0

/-! ### Commands of the slots -/

/-- LOOP_SUBSAMPLE (R236): sub-sample m of the slots with SUB, while the engine is angle driven. -/
def loopSubsample (c : Clock) (n m : Nat) (o : Sample) (d : Dev) : Dev :=
  if 2 ≤ d.tbState n ∧ d.getB (Reg.LOOP_ENG_STS_FREE n) = false then loopSample c n 1 m o d else d

/-- Trigger 0 falls due in the ticks gone by, or has been acted on in them with a sample (R237). -/
def sampleHere (c : Clock) (n : Nat) (d : Dev) : Bool :=
  (d.deck n).eng.sampledAt == some c.tick ||
    (!(d.deck n).tb.acted && d.tbFires n && d.getB (Reg.ANG_TRIG_CFG_ARM n 0) && trigPassed d n 0 (d.deck n).tb.prev (c.counter n))

/-- FREE_RUN_SAMPLE (R237, R264): without angle, FREE_TICKS after the last sample; dropped in a tick in which trigger 0 takes a sample. DEDUCED, log 32. -/
def freeRunSample (c : Clock) (n : Nat) (o : Sample) (d : Dev) : Dev :=
  if (d.getB (Reg.LOOP_ENG_STS_FREE n) ∨ d.tbState n < 2) ∧ sampleHere c n d = false ∧
      ((d.deck n).eng.sampledAt.all fun t => decide (t + d.get (Reg.LOOP_SAMPLE_CFG_FREE_TICKS n) ≤ c.tick)) = true then
    let d := d.set (Reg.LOOP_ENG_STS_FREE n) 1
    let d := loopSample c n 2 0 o d
    d.onDeck n (fun k => { k with eng := { k.eng with
      freeN := k.eng.freeN + 1, layerWait := if k.eng.freeN % 5 = 0 then k.eng.layerWait + 1 else k.eng.layerWait } })
  else d

/-- SLOT_MODE_WRITE (R247, R254, R258, R268): MODE 3 ignored, 4 to 7 invalid, all flagged while SAFE is latched.
DEDUCED, log 93. -/
def slotModeWrite (n s mode : Nat) (d : Dev) : Dev :=
  let off := 0x40104 + 0x40 * s
  if d.getB (Reg.LOOP_ENG_STS_SAFE n) ∧ s ≠ 4 then d.wrErr n 4 off 2
  else if mode = 3 then d
  else if 4 ≤ mode then d.wrErr n 4 off 2
  else (d.set (Reg.LOOP_SLOT_CTL_MODE n s) mode).onSlot n s (fun a => { a with pendMode := some mode })

/-- CF_DATA_WRITE (R249, R265, R266): the word CF_ADDR selects, or ERR. -/
def cfDataWrite (n v : Nat) (d : Dev) : Dev :=
  let s := d.get (Reg.LOOP_CF_ADDR_SLOT n)
  let i := d.get (Reg.LOOP_CF_ADDR_INDEX n)
  let b := d.get (Reg.LOOP_CF_ADDR_BANK n)
  match d.get (Reg.LOOP_CF_ADDR_SPACE n) with
  | 0 =>
    if 32 ≤ i ∨ b = d.get (Reg.LOOP_BANK_ACTIVE n s) ∨ d.getB (Reg.LOOP_BANK_BUSY n s) then
      d.set (Reg.LOOP_CF_ADDR_ERR n) 1
    else d.onSlot n s (fun a => a.setWord b i (if i = 7 then v % 16 else v))
  | 1 =>
    if ((d.deck n).slot s).learning then d.set (Reg.LOOP_CF_ADDR_ERR n) 1
    else d.onSlot n s (fun a => { a with table := FMap.set (fun _ => (0 : Int)) a.table i (sx 32 v) })
  | _ => d.set (Reg.LOOP_CF_ADDR_ERR n) 1

/-- A profile command is refused (R254). -/
def profErr (n s : Nat) (d : Dev) : Dev := d.set (Reg.LOOP_PROF_CTL_RESULT n s) 2

/-- The current set-point of a slot's profile, in nm or output units. -/
def profBase (n s : Nat) (d : Dev) : Int := ((d.deck n).slot s).profPos

/-- A move starts (R252, R253). -/
def profStart (c : Clock) (n s kind : Nat) (tgt : Int) (bySeq : Bool) (d : Dev) : Dev :=
  let base := profBase n s d
  let mv := { d.mkProf n s kind base tgt c.tick bySeq with seek := (if bySeq then tgt - base else d.getI (Reg.LOOP_PROF_TGT_TARGET n s)).natAbs }
  let d := d.onSlot n s (fun a => { a with prof := some mv })
  let d := if kind = 3 then d.set (Reg.LOOP_PROF_CTL_CROSS n s) 0 else d
  let d := if 2 ≤ kind then d.slotMode n s 3 else d
  let d := if 2 ≤ kind then d.onSlot n s (fun a => { a with prof := some mv }) else d
  d.set (Reg.LOOP_PROF_CTL_BUSY n s) 1

/-- The target of a command: TARGET, or TARGET beyond the current set-point with REL (R253, R275, R276). -/
def profTarget (n s : Nat) (rel : Bool) (d : Dev) : Int :=
  d.getI (Reg.LOOP_PROF_TGT_TARGET n s) + (if rel then profBase n s d else 0)

/-- PROF_MOVE (R253, R254). -/
def profMove (c : Clock) (n s : Nat) (rel : Bool) (d : Dev) : Dev :=
  let d := d.setB (Reg.LOOP_PROF_CTL_REL n s) rel
  let mode := d.get (Reg.LOOP_STS_MODE n s)
  if d.getB (Reg.LOOP_PROF_CTL_BUSY n s) ∨ (mode ≠ 1 ∧ mode ≠ 2) then profErr n s d
  else profStart c n s 1 (profTarget n s rel d) false d

/-- PROF_JUMP (R253, R254). -/
def profJump (c : Clock) (n s layer : Nat) (rel : Bool) (d : Dev) : Dev :=
  let d := (d.setB (Reg.LOOP_PROF_CTL_REL n s) rel).set (Reg.LOOP_PROF_CTL_LAYER n s) layer
  if d.getB (Reg.LOOP_PROF_CTL_BUSY n s) ∨ d.get (Reg.LOOP_STS_MODE n s) ≠ 2 then profErr n s d
  else profStart c n s 2 (profTarget n s rel d) false d

/-- PROF_SEEK (R253, R254): slot 1 in CLOSED, at most 64,000 nm. -/
def profSeek (c : Clock) (n s : Nat) (rel : Bool) (d : Dev) : Dev :=
  let d := d.setB (Reg.LOOP_PROF_CTL_REL n s) rel
  if d.getB (Reg.LOOP_PROF_CTL_BUSY n s) ∨ d.get (Reg.LOOP_STS_MODE n s) ≠ 2 ∨ s ≠ 1 ∨
      64000 < (d.getI (Reg.LOOP_PROF_TGT_TARGET n s)).natAbs then profErr n s d
  else profStart c n s 3 (profTarget n s rel d) false d

/-- PROF_STOP (R253, R254): a running move is brought to rest; a sequencer's move is left alone. -/
def profStopCmd (n s : Nat) (d : Dev) : Dev :=
  match ((d.deck n).slot s).prof with
  | some p => if p.bySeq then profErr n s d else d.onSlot n s (fun a => { a with prof := some { p with stopping := true } })
  | none => d

/-- Ticks a planned move lasts (R252). -/
def Prof.ticks (p : Prof) : ℚ :=
  (planOf ((p.vLim : ℚ) / 10000) p.aLim ((p.jLim : ℚ) * 10000) (((p.target - p.start).natAbs : ℚ) / 1000000000)).dur * 1000000000

/-- A move has not come to its planned end: one that is being stopped, or a sweep, has none of that kind. -/
def Prof.runs (p : Prof) (tick : Nat) : Bool :=
  !p.stopping && !p.sweep && !p.ended && decide ((tick : ℚ) < p.t0 + p.ticks)

/-- PROFILE_END (R253): the planned end of a move, or the place where a stopped move came to rest. A jump or seek
returns to CLOSED and must capture. -/
def profileEnd (c : Clock) (n s : Nat) (restAt : Int) (d : Dev) : Dev :=
  match ((d.deck n).slot s).prof with
  | none => d
  | some p =>
    if p.runs c.tick then d
    else if p.stopping then
      let d := if p.kind ≠ 1 then d.slotMode n s 2 else d
      ((d.onSlot n s (fun a => { a with prof := none, profPos := restAt })).set (Reg.LOOP_PROF_CTL_BUSY n s) 0).set
        (Reg.LOOP_PROF_CTL_RESULT n s) 3
    else if p.kind = 1 then
      ((d.onSlot n s (fun a => { a with prof := none, profPos := p.target })).set (Reg.LOOP_PROF_CTL_BUSY n s) 0).set
        (Reg.LOOP_PROF_CTL_RESULT n s) 1
    else if p.ended then profDecide c n s d
    else
      let d := d.slotMode n s 2
      let d := d.onSlot n s (fun a => { a with prof := some { p with ended := true }, profPos := p.target })
      d.onDeck n (fun k => { k with eng := { k.eng with layerSeen := [], layerWait := 0 } })

/-- LEARN (R246, R277): learning starts at the next revolution mark, where the slot is in CLOSED and the timebase LOCKED. -/
def learnWrite (n s : Nat) (d : Dev) : Dev :=
  if ((d.deck n).slot s).learn = none then
    ((d.onSlot n s (fun a => { a with learn := some {} })).set (Reg.LOOP_FF_CTL_LEARN n s) 1).set
      (Reg.LOOP_FF_CTL_REVS n s) 0
  else d

/-- FF_CLEAR (R277): the table is zeroed unless a learning run is in progress. -/
def ffClear (n s : Nat) (d : Dev) : Dev :=
  if ((d.deck n).slot s).learning then d else d.onSlot n s (fun a => { a with table := [] })

/-- SAFE_RELEASE (R258, R263). -/
def safeRelease (c : Clock) (n : Nat) (d : Dev) : Dev :=
  if d.getB (Reg.LOOP_ENG_STS_SAFE n) then
    let d := d.set (Reg.LOOP_ENG_STS_SAFE n) 0
    if (List.range 8).any (fun s => ((d.deck n).slot s).inhibit) then d else d.gateClear c n gLOOP
  else d

/-- A write of 1 to STS.FAULT ends a slot's inhibit (R258, R280). -/
def slotFaultClear (c : Clock) (n s : Nat) (d : Dev) : Dev :=
  let d := (d.set (Reg.LOOP_STS_FAULT n s) 0).onSlot n s (fun a => { a with inhibit := false })
  if (List.range 8).any (fun s => ((d.deck n).slot s).inhibit) || d.getB (Reg.LOOP_ENG_STS_SAFE n) then d
  else d.gateClear c n gLOOP

/-- V12_RAIL_CHANGE (R285): the actuator rail as measured; the coil bridges stay off while it is out of range. -/
def v12RailChange (n tenths : Nat) (d : Dev) : Dev :=
  let ok := decide (110 ≤ tenths ∧ tenths ≤ 130)
  ((d.set (Reg.ACT_SAFE_CFG_V12 n) tenths).setB (Reg.ACT_SAFE_CFG_V12_OK n) ok).coilsShow n

/-! ### Consistency rules (R261, R262) -/

/-- The first failing rule of LOOP, given the deck as the commit would leave it and as it stands (R261). -/
def loopRules (old d : Dev) (n : Nat) : Option Nat :=
  let all := fun (p : Nat → Bool) => (List.range 8).all p
  let dest := fun s => d.get (Reg.LOOP_SLOT_CFG_DEST n s)
  let src := fun s => d.get (Reg.LOOP_SLOT_CFG_SRC n s)
  if !all (fun s => decide (d.getI (Reg.LOOP_I_LIM_I_MIN n s) < d.getI (Reg.LOOP_I_LIM_I_MAX n s))) then some 1
  else if !all (fun s => decide (0x100 ≤ d.get (Reg.LOOP_OUT_LIM_OUT_LIM n s))) then some 2
  else if !all (fun s => !d.getB (Reg.LOOP_SLOT_CFG_SUB n s) || src s == 1 || src s == 2 || src s == 3 || decide (8 ≤ src s))
    then some 3
  else if !all (fun s => !(decide (1 ≤ dest s ∧ dest s ≤ 5) && (List.range 8).any (fun j => j != s && dest j == dest s))
      && dest s != 6 + s) then some 4
  else if !all (fun s => old.get (Reg.LOOP_STS_MODE n s) == 0 ||
      (src s == old.get (Reg.LOOP_SLOT_CFG_SRC n s) && dest s == old.get (Reg.LOOP_SLOT_CFG_DEST n s))) then some 5
  else if !all (fun s => decide (d.get (Reg.LOOP_OSC_CFG_CNT_LO n s) < d.get (Reg.LOOP_OSC_CFG_CNT_HI n s)) &&
      decide (1 ≤ d.get (Reg.LOOP_OSC_CFG_OSC_WIN n s))) then some 6
  else if !decide (500 ≤ d.get (Reg.LOOP_SAMPLE_CFG_FREE_TICKS n) ∧ d.get (Reg.LOOP_SAMPLE_CFG_FREE_TICKS n) ≤ 20000)
    then some 7
  else if !all (fun s => decide (d.get (Reg.LOOP_FF_CTL_FF_LEAD n s) ≤ 64)) then some 8
  else if !all (fun s => decide (1 ≤ d.get (Reg.LOOP_PROF_LIM_V_LIM n s) ∧ 1 ≤ d.get (Reg.LOOP_PROF_LIM_A_LIM n s) ∧
      1 ≤ d.get (Reg.LOOP_PROF_J_J_LIM n s))) then some 9
  else none

/-- The rule of ACT (R262). -/
def actRules (d : Dev) (n : Nat) : Option Nat :=
  let f := d.getI (Reg.ACT_SAFE_CFG_DEFOCUS n)
  if -0x4000 ≤ f ∧ f ≤ 0 ∧ f.natAbs * 150 ≤ min (d.get (Reg.ACT_COIL_CFG_I_LIM n 0)) 150 * 32768 then none else some 1

end Sys2Proof.Machine
end

