-- ==== Sys2Proof/Machine/Sled.lean ====
section
/-! DEFINITION. Machine/Sled.lean: the sled of a deck (spec file 10): commands, profile generator, chopper mode, standstill
current, stall detection. -/

namespace Sys2Proof.Machine

/-! ### Cosines (R327, R336; rounded, notes/assumptions/13) -/

/-- Quarter wave of the cosine, 2^20 full scale, entries 0 to 63. -/
def cosQ0 : List Nat := [
  1048576, 1048556, 1048497, 1048398, 1048260, 1048083, 1047865, 1047609, 1047313, 1046978, 1046603, 1046188, 1045735, 1045242, 1044709, 1044138,
  1043527, 1042877, 1042187, 1041458, 1040690, 1039883, 1039037, 1038151, 1037227, 1036263, 1035261, 1034219, 1033138, 1032019, 1030861, 1029664,
  1028428, 1027153, 1025840, 1024488, 1023098, 1021669, 1020201, 1018696, 1017151, 1015569, 1013948, 1012289, 1010592, 1008857, 1007084, 1005273,
  1003425, 1001538, 999614, 997652, 995652, 993616, 991541, 989429, 987281, 985094, 982871, 980611, 978314, 975980, 973609, 971202]

/-- Quarter wave of the cosine, 2^20 full scale, entries 64 to 127. -/
def cosQ1 : List Nat := [
  968758, 966278, 963761, 961208, 958618, 955993, 953332, 950634, 947901, 945133, 942328, 939489, 936614, 933703, 930758, 927777,
  924761, 921711, 918626, 915506, 912352, 909164, 905941, 902684, 899394, 896069, 892711, 889319, 885893, 882434, 878942, 875417,
  871859, 868268, 864645, 860988, 857300, 853579, 849826, 846041, 842224, 838376, 834495, 830584, 826641, 822667, 818662, 814627,
  810560, 806463, 802336, 798179, 793991, 789774, 785526, 781250, 776944, 772608, 768244, 763850, 759428, 754977, 750498, 745991]

/-- Quarter wave of the cosine, 2^20 full scale, entries 128 to 191. -/
def cosQ2 : List Nat := [
  741455, 736892, 732301, 727682, 723036, 718362, 713662, 708935, 704181, 699400, 694593, 689760, 684901, 680017, 675106, 670171,
  665210, 660224, 655213, 650177, 645117, 640033, 634924, 629792, 624636, 619456, 614254, 609028, 603779, 598507, 593213, 587896,
  582558, 577197, 571815, 566411, 560986, 555539, 550072, 544584, 539076, 533547, 527998, 522430, 516841, 511233, 505606, 499960,
  494295, 488612, 482910, 477190, 471452, 465696, 459922, 454132, 448324, 442499, 436658, 430800, 424926, 419036, 413131, 407209]

/-- Quarter wave of the cosine, 2^20 full scale, entries 192 to 255. -/
def cosQ3 : List Nat := [
  401273, 395321, 389354, 383373, 377377, 371367, 365343, 359306, 353255, 347190, 341113, 335022, 328919, 322804, 316676, 310537,
  304386, 298223, 292049, 285864, 279669, 273462, 267246, 261020, 254783, 248537, 242282, 236018, 229744, 223462, 217172, 210873,
  204567, 198253, 191931, 185602, 179267, 172924, 166575, 160219, 153858, 147491, 141118, 134740, 128357, 121969, 115576, 109179,
  102778, 96374, 89965, 83553, 77138, 70720, 64299, 57876, 51451, 45024, 38595, 32165, 25733, 19301, 12868, 6434]

/-- Quarter wave of the cosine, 2^20 full scale, entries 256 to 256. -/
def cosQ4 : List Nat := [
  0]

/-- The quarter wave. -/
def cosQ : List Nat := cosQ0 ++ cosQ1 ++ cosQ2 ++ cosQ3 ++ cosQ4

/-- cos of a 1,024th of a cycle, 2^20 full scale. -/
def cos1024 (k : Nat) : Int :=
  let m := k % 1024
  if m ≤ 256 then (cosQ.getD m 0 : Int)
  else if m ≤ 512 then -(cosQ.getD (512 - m) 0 : Int)
  else if m ≤ 768 then -(cosQ.getD (m - 512) 0 : Int)
  else (cosQ.getD (1024 - m) 0 : Int)

/-- sin of a 1,024th of a cycle. -/
def sin1024 (k : Nat) : Int := cos1024 (k + 768)

/-- Cosine of whole degrees, 10^9 full scale, entries 0 to 45. -/
def cosD0 : List Nat := [
  1000000000, 999847695, 999390827, 998629535, 997564050, 996194698, 994521895, 992546152,
  990268069, 987688341, 984807753, 981627183, 978147601, 974370065, 970295726, 965925826,
  961261696, 956304756, 951056516, 945518576, 939692621, 933580426, 927183855, 920504853,
  913545458, 906307787, 898794046, 891006524, 882947593, 874619707, 866025404, 857167301,
  848048096, 838670568, 829037573, 819152044, 809016994, 798635510, 788010754, 777145961,
  766044443, 754709580, 743144825, 731353702, 719339800, 707106781]

/-- Cosine of whole degrees, 10^9 full scale, entries 46 to 90. -/
def cosD1 : List Nat := [
  694658370, 681998360, 669130606, 656059029, 642787610, 629320391, 615661475, 601815023,
  587785252, 573576436, 559192903, 544639035, 529919264, 515038075, 500000000, 484809620,
  469471563, 453990500, 438371147, 422618262, 406736643, 390731128, 374606593, 358367950,
  342020143, 325568154, 309016994, 292371705, 275637356, 258819045, 241921896, 224951054,
  207911691, 190808995, 173648178, 156434465, 139173101, 121869343, 104528463, 87155743,
  69756474, 52335956, 34899497, 17452406, 0]

/-- Cosines of 0 to 90 degrees. -/
def cosD : List Nat := cosD0 ++ cosD1

/-- arccos of a fraction in whole degrees; the spec leaves the rounding open. -/
def arccosDeg (num den : Nat) : Nat :=
  let k := ((List.range 91).filter (fun i => decide (num * 1000000000 ≤ cosD.getD i 0 * den))).length - 1
  if num * 1000000000 = cosD.getD k 0 * den then k
  else if Config.roundUp num den then min 90 (k + 1) else k

/-! ### Small readings -/

/-- The sled's state (R345). -/
def Dev.sldSt (d : Dev) (n : Nat) : Nat := d.get (Reg.SLD_STS_STATE n)

/-- Position in microsteps. -/
def Dev.sldPos (d : Dev) (n : Nat) : Int := d.getI (Reg.SLD_POS_POS n)

/-- Change the sled. -/
def Dev.onSled (d : Dev) (n : Nat) (f : Sled → Sled) : Dev := d.onDeck n (fun k => { k with sled := f k.sled })

/-- At rest: HOLD, STANDSTILL, or bridges off (R330, R331). -/
def Dev.sldRest (d : Dev) (n : Nat) : Bool := decide (d.sldSt n ≤ slSTANDSTILL)

/-- A command is refused. -/
def Dev.sldErr (n : Nat) (d : Dev) : Dev := d.set (Reg.SLD_CMD_RESULT n) 2

/-- The current scale 1 of R327, in units of sldScale: percent of 32 ms. -/
def sldOne : Nat := 100 * (32 * tickMs)

/-- Current scale s of R327: 1, or at standstill falling in 32 ms to HOLD_PCT ÷ 100 (R335). -/
def Dev.sldScale (d : Dev) (n : Nat) : Nat :=
  if (d.deck n).sled.hold then sldOne - (100 - d.get (Reg.SLD_CUR_CFG_HOLD_PCT n)) * min (d.age n aSLD) (32 * tickMs) else sldOne

/-- The sled comes to rest in HOLD: the hold timer starts (R335). -/
def Dev.sldHold (n : Nat) (d : Dev) : Dev := (d.set (Reg.SLD_STS_STATE n) slHOLD).since n aSLD

/-- Limits in full steps: V, A, J (R346, R347). -/
def Dev.sldLims (d : Dev) (n : Nat) : Nat × Nat × Nat :=
  (d.get (Reg.SLD_PROF_V_V_MAX n), 10 * d.get (Reg.SLD_PROF_A_A_MAX n), 1000 * d.get (Reg.SLD_PROF_A_J_MAX n))

/-- A motion begins: full current first, which takes 1 ms from STANDSTILL or DISABLED (R331, R335). -/
def Dev.sldBegin (c : Clock) (n st cmd : Nat) (d : Dev) : Dev :=
  let late := if d.sldSt n = slDISABLED ∨ (d.deck n).sled.hold then 1000000 else 0
  let lims := d.sldLims n
  let d := d.onSled n (fun s => { s with cmd := cmd, t0 := c.tick + late, hold := false, limited := false, overRun := 0, lims := lims })
  (d.set (Reg.SLD_STS_STATE n) st).set (Reg.SLD_CMD_BUSY n) 1

/-! ### Commands (R330, R331) -/

/-- MOVE to TARGET, or by TARGET. DEDUCED, log 39. -/
def sldMove (c : Clock) (n : Nat) (rel : Bool) (target : Int) (d : Dev) : Dev :=
  let tgt := if rel then d.sldPos n + target else target
  let inside := decide (d.getI (Reg.SLD_MIN_POS_MIN_POS n) ≤ tgt) && decide (tgt ≤ d.getI (Reg.SLD_MAX_POS_MAX_POS n))
  if d.sldRest n && (rel || d.getB (Reg.SLD_STS_POS_OK n)) && inside then
    (d.sldBegin c n slMOVING 1).onSled n (fun s => { s with start := d.sldPos n, target := tgt, vel := 0, acc := 0, sub := 0 })
  else d.sldErr n

/-- VEL: at rest, in VEL or in FOLLOW; |TARGET| at most V_MAX (R329). -/
def sldVel (c : Clock) (n : Nat) (target : Int) (d : Dev) : Dev :=
  let cmd := (d.deck n).sled.cmd
  if (d.sldRest n || cmd == 2 || cmd == 4) && decide (target.natAbs ≤ d.get (Reg.SLD_PROF_V_V_MAX n)) then
    (d.sldBegin c n slMOVING 2).onSled n (fun s => { s with velTgt := target })
  else d.sldErr n

/-- STOP: any motion is brought to rest. -/
def sldStop (c : Clock) (n : Nat) (d : Dev) : Dev :=
  if d.sldSt n = slSTOPPING then d
  else if d.sldSt n = slDISABLED then (d.sldHold n).sldEnd n 1
  else if d.sldRest n then d.sldEnd n 1
  else
    let limited := (d.deck n).sled.limited
    (d.sldBegin c n slSTOPPING 3).onSled n (fun s => { s with velTgt := 0, limited := limited })

/-- FOLLOW: at rest or in VEL, POS_OK = 1. -/
def sldFollow (c : Clock) (n : Nat) (d : Dev) : Dev :=
  if (d.sldRest n || (d.deck n).sled.cmd == 2) && d.getB (Reg.SLD_STS_POS_OK n) then d.sldBegin c n slFOLLOW 4
  else d.sldErr n

/-- SET_POS: at rest (R326, R330, R339). -/
def sldSetPos (n : Nat) (target : Int) (d : Dev) : Dev :=
  if d.sldRest n then
    let d := d.sets [(Reg.SLD_POS_POS n, ux 32 target), (Reg.SLD_STS_POS_OK n, 1), (Reg.SLD_STS_HOME_REQ n, 0)]
    let d := if d.sldSt n = slDISABLED then d.sldHold n else d
    (d.onSled n (fun s => { s with sub := 0 })).sldEnd n 1
  else d.sldErr n

/-- DISABLE (R330, R331). -/
def sldDisable (n : Nat) (d : Dev) : Dev :=
  if d.getB (Reg.SLD_CMD_BUSY n) then d.sledOff n else (d.sledOff n).set (Reg.SLD_CMD_RESULT n) 1

/-- A write of SLD.CMD from software: accepted only while the sled is released (R330, R367). -/
def sldSoft (n : Nat) (d : Dev) (go : Dev → Dev) : Dev := if d.getB (Reg.SEQ_CTL_REL_SLD n) then go d else d.sldErr n

/-! ### The profile (R327 to R333) -/

/-- The plan of a MOVE and its distance in full steps (R252, R329). -/
def sldPlan (s : Sled) : Plan × ℚ :=
  let dist : ℚ := ((s.target - s.start).natAbs : ℚ) / 256
  (planOf s.lims.1 s.lims.2.1 s.lims.2.2 dist, dist)

/-- Position, velocity and acceleration of a MOVE at a tick: microsteps, then 1/65536 full step per second (squared). -/
def sldMoveAt (s : Sled) (tick : Nat) : Int × Int × Int :=
  let p := sldPlan s
  let sg : Int := if s.start ≤ s.target then 1 else -1
  let r := p.1.at s.lims.2.1 s.lims.2.2 p.2 (((tick : Int) - s.t0 : ℚ) / 1000000000)
  (s.start + sg * (r.1 * 256).floor, sg * (r.2.1 * 65536).floor, sg * (r.2.2 * 65536).floor)

/-- Distance in microsteps, rounded up, to come to rest from a velocity and acceleration (R328). -/
def stopDist (a j : Nat) (vel acc : Int) : Int :=
  let v : ℚ := (vel.natAbs : ℚ) / 65536
  let q : ℚ := (acc.natAbs : ℚ) / 65536
  let peak := v + q * q / (2 * j)
  ((reach a j peak).2 * 256 + peak * (q / j) * 256).ceil + 1

/-- One period of a velocity change under A and J (R329): velocity and acceleration after it. -/
def velStep (a j hz : Nat) (tgt vel acc : Int) : Int × Int :=
  let dv := tgt * 65536 - vel
  let dj : Int := (j : Int) * 65536 / hz
  let lim : Int := (a : Int) * 65536
  let toGo : Int := acc * acc / (2 * (max 1 j : Nat) * 65536)
  let acc' : Int :=
    if 0 ≤ dv then (if 0 < acc ∧ dv ≤ toGo then max 0 (acc - dj) else min lim (acc + dj))
    else (if acc < 0 ∧ -dv ≤ toGo then min 0 (acc + dj) else max (-lim) (acc - dj))
  let v' := vel + acc' / hz
  if (0 ≤ dv ∧ tgt * 65536 ≤ v') ∨ (dv < 0 ∧ v' ≤ tgt * 65536) ∨ dv.natAbs ≤ (acc' / hz).natAbs then (tgt * 65536, 0) else (v', acc')

/-- Chopper mode at a velocity, and in force once a full step is passed (R332). -/
def chopMode (n : Nat) (old new : Int) (d : Dev) : Dev :=
  let v := (d.deck n).sled.vel.natAbs
  let th := d.get (Reg.SLD_CHOP_CFG_THRESH n) * 65536
  let d := d.onSled n (fun s => { s with
    strongReq := if th ≤ v then true else if v * 8 < th * 7 then false else s.strongReq })
  let passed := decide (old / 256 ≠ new / 256) || decide (new % 256 = 0)
  let req := (d.deck n).sled.strongReq
  if passed then
    let d := d.setB (Reg.SLD_STS_CHOP n) req
    if req then d else d.set (Reg.SLD_STS_LOAD n) 0
  else d

/-- Target phase currents in 10 mA (R327). -/
def phaseCurrents (d : Dev) (n : Nat) (pos : Int) : Int × Int :=
  let k := (pos % 1024).toNat
  let i : Int := d.get (Reg.SLD_CUR_CFG_RUN_I n) * d.sldScale n
  let sg : Int := if d.getB (Reg.SLD_MECH_DIR n) then -1 else 1
  (Config.rnd (i * cos1024 k) (sldOne * 2 ^ 20), sg * Config.rnd (i * sin1024 k) (sldOne * 2 ^ 20))

/-- Quiet-mode duties in 1/32768 (R333), from the current targets, their change over the period, and the predicted
back-EMF. -/
def quietDuty (d : Dev) (n : Nat) (pos : Int) (now before : Int × Int) : Int × Int :=
  let k := (pos % 1024).toNat
  let hz : Int := 1000 * d.get (Reg.SLD_CHOP_CFG_Q_PWM_KHZ n)
  let r : Int := d.get (Reg.SLD_COIL_R_COIL n)
  let l : Int := d.get (Reg.SLD_COIL_L_COIL n)
  let e := fun (w : Int) => Config.rnd ((d.get (Reg.SLD_STALL_CFG_KE_SLD n) : Int) * (d.deck n).sled.vel * w) (65536 * 2 ^ 20)
  let vm : Int := 20000 * d.get Reg.PWR_VM_STS_VM
  let one := fun (i i0 back : Int) =>
    let uv := r * i * 10 + Config.rnd (l * (i - i0) * hz) 100 + back
    if vm = 0 then 0 else clampI (-32768) 32767 (Config.rnd (uv * 32768 * (d.deck n).sled.trim) (65536 * vm).natAbs)
  (one now.1 before.1 (-e (sin1024 k)), one now.2 before.2 (e (cos1024 k)))

/-- Strong mode (R334, R349): blanking time, fast decay and slow decay of the off-time, in ns. DESIGN CHOICE, log 4. -/
def chopTimes (d : Dev) (n : Nat) : Nat × Nat × Nat :=
  let off := (d.get (Reg.SLD_CHOP_CFG_TOFF n) + 1) * 500
  let fast := Config.rndN (off * d.get (Reg.SLD_CHOP_CFG_FAST n)) 16
  ((d.get (Reg.SLD_CHOP_CFG_TBLANK n) + 1) * 500, fast, off - fast)

/-- SLED_PROFILE_PERIOD: one period of Q_PWM_KHZ; `peak`, once an electrical cycle, is the peak phase current in 10 mA. -/
def sledProfilePeriod (c : Clock) (n : Nat) (peak : Option Nat) (d : Dev) : Dev :=
  let st := d.sldSt n
  if st = slDISABLED then d
  else
    let s := (d.deck n).sled
    let old := d.sldPos n
    let hz := 1000 * max 1 (d.get (Reg.SLD_CHOP_CFG_Q_PWM_KHZ n))
    let lims := d.sldLims n
    let d :=
      if st ≤ slSTANDSTILL ∨ c.tick < s.t0 then d
      else if s.cmd = 1 then
        let r := sldMoveAt s c.tick
        (d.onSled n (fun s => { s with vel := r.2.1, acc := r.2.2 })).setI (Reg.SLD_POS_POS n) r.1
      else
        let tgt := if s.cmd = 4 then
            Config.rnd (destOut d n 4 * d.get (Reg.SLD_PROF_V_FOLLOW_FS n)) (2 ^ 31) else s.velTgt
        let lo := d.getI (Reg.SLD_MIN_POS_MIN_POS n)
        let hi := d.getI (Reg.SLD_MAX_POS_MAX_POS n)
        let room := if 0 < s.vel ∨ (s.vel = 0 ∧ 0 < tgt) then hi - old else old - lo
        let brake := s.limited || (decide (s.vel ≠ 0 ∨ tgt ≠ 0) &&
          decide (room ≤ stopDist lims.2.1 lims.2.2 s.vel s.acc + (s.vel.natAbs : Int) * 256 / (65536 * hz)))
        let r := velStep lims.2.1 lims.2.2 hz (if brake then 0 else tgt) s.vel s.acc
        let p := s.sub + r.1 * 256 / hz
        let new := clampI (min lo old) (max hi old) (old + p / 65536)
        (d.onSled n (fun s => { s with vel := r.1, acc := r.2, sub := p % 65536, limited := brake })).setI (Reg.SLD_POS_POS n) new
    let new := d.sldPos n
    let d := chopMode n old new d
    let d := d.setI (Reg.SLD_STS_VEL n) (Config.rnd (d.deck n).sled.vel 65536)
    let d := match peak with
      | some p =>
        let want : Int := d.get (Reg.SLD_CUR_CFG_RUN_I n) * d.sldScale n
        if d.getB (Reg.SLD_STS_CHOP n) ∨ want = 0 then d
        else d.onSled n (fun s => { s with
          trim := clampI 49152 81920 (s.trim + Config.rnd ((want - sldOne * (p : Int)) * 65536) (4 * want).natAbs) })
      | none => d
    let ph := phaseCurrents d n new
    let du := if d.getB (Reg.SLD_STS_CHOP n) then (0, 0) else quietDuty d n new ph s.phase
    d.onSled n (fun s => { s with phase := ph, duty := du, chop := if d.getB (Reg.SLD_STS_CHOP n) then chopTimes d n else (0, 0, 0) })

/-- Whether the profile has come to rest. -/
def sldAtEnd (c : Clock) (d : Dev) (n : Nat) : Bool :=
  let s := (d.deck n).sled
  if s.cmd = 1 then decide ((s.t0 : ℚ) + (sldPlan s).1.dur * 1000000000 ≤ c.tick)
  else s.vel == 0 && s.acc == 0 && (s.cmd == 3 || s.limited || (s.cmd == 2 && s.velTgt == 0))

/-- SLED_AT_REST: the command ends, the hold timer starts (R328, R335). -/
def sledAtRest (c : Clock) (n : Nat) (d : Dev) : Dev :=
  if d.sldRest n || !sldAtEnd c d n then d
  else
    let s := (d.deck n).sled
    let d := if s.cmd = 1 then d.setI (Reg.SLD_POS_POS n) s.target else d
    let d := d.onSled n (fun s => { s with vel := 0, acc := 0, velTgt := 0, sub := 0, limited := false })
    ((d.sldHold n).set (Reg.SLD_STS_VEL n) 0).sldEnd n (if s.limited && s.cmd != 1 && s.cmd != 3 then 5 else 1)

/-- SLED_STANDSTILL: HOLD_DELAY ms at rest have passed; s begins to fall to HOLD_PCT (R335). -/
def sledStandstill (n : Nat) (d : Dev) : Dev :=
  if d.sldSt n = slHOLD ∧ d.get (Reg.SLD_CUR_CFG_HOLD_DELAY n) * tickMs ≤ d.age n aSLD then
    ((d.onSled n (fun s => { s with hold := true })).set (Reg.SLD_STS_STATE n) slSTANDSTILL).since n aSLD
  else d

/-! ### Stalls (R336 to R338) -/

/-- A stall: the profile stops at once, POS is held, re-home required (R338). -/
def sledStall (c : Clock) (n : Nat) (d : Dev) : Dev :=
  let d := d.onSled n (fun s => { s with vel := 0, acc := 0, velTgt := 0, sub := 0, overRun := 0, loads := [], limited := false })
  let d := d.sets [(Reg.SLD_STS_POS_OK n, 0), (Reg.SLD_STS_STALL n, 1), (Reg.SLD_STS_HOME_REQ n, 1),
    (Reg.SLD_STS_VEL n, 0)]
  let d := (d.sldHold n).sldEnd n 4
  d.fault c (.deck n)
    { cls := 4, code := 4, sev := 2, detail := le 4 (d.get (Reg.SLD_POS_POS n)) ++ le 1 (d.get (Reg.SLD_STS_LOAD n)) }

/-- SLED_BEMF_MEASURE: the back-EMF at a crossing in µV, positive in the sense the motion predicts (R336, R337). -/
def sledBemfMeasure (c : Clock) (n : Nat) (emf : Int) (d : Dev) : Dev :=
  let s := (d.deck n).sled
  if d.getB (Reg.SLD_STS_CHOP n) = false ∨ d.sldRest n ∨ s.vel = 0 then d
  else if emf < 0 then sledStall c n d
  else
    let nom := d.get (Reg.SLD_STALL_CFG_KE_SLD n) * s.vel.natAbs / 65536
    let load := if nom ≤ emf.natAbs then 0 else arccosDeg emf.natAbs nom
    let loads := (load :: s.loads).take 4
    let avg := Config.rndN loads.sum loads.length
    let past := decide (d.get (Reg.SLD_STALL_CFG_STALL_ANG n) ≤ avg)
    let run := if past then s.overRun + 1 else 0
    let d := (d.onSled n (fun s => { s with loads := loads, overRun := run })).set (Reg.SLD_STS_LOAD n) avg
    if past ∧ d.get (Reg.SLD_STALL_CFG_STALL_CNT n) ≤ run then sledStall c n d else d

/-! ### Places on the disc (R326) -/

/-- POS that puts beam position 32 over a track position: the nearest microstep (R326, R340). -/
def posOfTrack (d : Dev) (n track : Nat) : Int :=
  let step := max 1 (d.get (Reg.SLD_MECH_STEP_NM n))
  ((track * 200 * 256 * 2 + step : Nat) : Int) / (2 * step)

/-! ### Consistency rules (R341) -/

/-- The first failing rule of SLD. -/
def sldRules (d : Dev) (n : Nat) : Option Nat :=
  let v := d.get (Reg.SLD_PROF_V_V_MAX n)
  let fs := d.get (Reg.SLD_PROF_V_FOLLOW_FS n)
  let ri := d.get (Reg.SLD_CUR_CFG_RUN_I n)
  let hp := d.get (Reg.SLD_CUR_CFG_HOLD_PCT n)
  let th := d.get (Reg.SLD_CHOP_CFG_THRESH n)
  let q := d.get (Reg.SLD_CHOP_CFG_Q_PWM_KHZ n)
  let sa := d.get (Reg.SLD_STALL_CFG_STALL_ANG n)
  if ¬(1 ≤ fs ∧ fs ≤ v ∧ v ≤ 8000) then some 1
  else if ¬(1 ≤ d.get (Reg.SLD_PROF_A_A_MAX n) ∧ 1 ≤ d.get (Reg.SLD_PROF_A_J_MAX n)) then some 2
  else if ¬(10 ≤ ri ∧ ri ≤ 200 ∧ 10 ≤ hp ∧ hp ≤ 100 ∧ ri * hp ≤ 14000) then some 3
  else if ¬(50 ≤ th ∧ th < v) then some 4
  else if ¬(20 ≤ q ∧ q ≤ 100) then some 5
  else if ¬d.getI (Reg.SLD_MIN_POS_MIN_POS n) < d.getI (Reg.SLD_MAX_POS_MAX_POS n) then some 6
  else if ¬(30 ≤ sa ∧ sa ≤ 120 ∧ 1 ≤ d.get (Reg.SLD_STALL_CFG_STALL_CNT n)) then some 7
  else if ¬16 ≤ d.get (Reg.SLD_MECH_HOME_TMO n) then some 8
  else none

end Sys2Proof.Machine
end

