-- ==== Sys2Proof/Machine/Spindle.lean ====
section
/-! DEFINITION. Machine/Spindle.lean: spindle drive and braking (spec file 09): the spindle controller of a deck, VM
supervision and the brake chopper. -/

namespace Sys2Proof.Machine

/-! ### Small readings -/

/-- The spindle controller's state (R313). -/
def Dev.spnSt (d : Dev) (n : Nat) : Nat := d.get (Reg.SPN_STS_STATE n)

/-- Measured speed in rpm, forward positive. -/
def Dev.spnRpm (d : Dev) (n : Nat) : Int := d.getI (Reg.SPN_STS_SPEED n)

/-- Start attempts of a command (R319). -/
def Dev.startTry (d : Dev) (n : Nat) : Nat := max 1 (d.get (Reg.SPN_START_CFG_START_TRY n))

/-- Change the controller. -/
def Dev.onSpn (d : Dev) (n : Nat) (f : Spindle → Spindle) : Dev := d.onDeck n (fun k => { k with spn := f k.spn })

/-- A command becomes the one in force; a running one is aborted (R303). -/
def Dev.spnTake (n cmd : Nat) (d : Dev) : Dev :=
  let d := if d.getB (Reg.SPN_CMD_BUSY n) then d.set (Reg.SPN_CMD_RESULT n) 4 else d
  (d.onSpn n (fun s => { s with cmd := cmd })).set (Reg.SPN_CMD_BUSY n) 1

/-- A command is ignored (R302, R303). -/
def Dev.spnErr (n : Nat) (d : Dev) : Dev := d.set (Reg.SPN_CMD_RESULT n) 2

/-- The controller waits in LISTEN, the bridge off. -/
def Dev.spnListen (n : Nat) (d : Dev) : Dev := d.spnState n spLISTEN

/-! ### Commands (R302, R303) -/

/-- SET_SPEED: in RUN only. -/
def spnSetSpeed (n rpm : Nat) (d : Dev) : Dev :=
  if d.spnSt n ≠ spRUN ∨ rpm < 600 ∨ 15000 < rpm then d.spnErr n
  else ((d.spnTake n 4).set (Reg.SPN_CMD_TARGET_RPM n) rpm).onSpn n (fun s => { s with target := rpm })

/-- START: the first of START_TRY attempts begins with LISTEN (R293, R297, R303). DEDUCED, log 38. -/
def spnStart (n rpm : Nat) (d : Dev) : Dev :=
  if rpm < 600 ∨ 15000 < rpm ∨ d.getB Reg.PWR_VM_STS_VM_ABS then d.spnErr n
  else if d.spnSt n = spRUN then spnSetSpeed n rpm d
  else
    let d := ((d.spnTake n 1).set (Reg.SPN_CMD_TARGET_RPM n) rpm).onSpn n (fun s => { s with
      target := rpm, probes := 0, alignDouble := false, shortWhy := 0 })
    ((d.set (Reg.SPN_STS_TRIES n) 1).set (Reg.SPN_STS_BRK_SHORT n) 0).spnState n spLISTEN

/-- STOP by a method: winding short, or regeneration from RUN; during undervoltage it waits in LISTEN (R298, R299, R303,
R304). -/
def spnStop (n method : Nat) (d : Dev) : Dev :=
  let d := d.set (Reg.SPN_CMD_METHOD n) method
  if d.spnSt n = spOFF then (d.spnEnd n 1)
  else
    let d := (d.spnTake n 2).onSpn n (fun s => { s with method := method, target := 0 })
    if d.getB Reg.PWR_VM_STS_UV then d.spnListen n
    else if method = 1 ∧ d.getB Reg.PWR_VM_STS_BRAKE_FAULT = false ∧ (d.spnSt n = spRUN ∨ d.spnSt n = spREGEN) then d.spnState n spREGEN
    else
      let d := if method = 1 ∧ d.getB Reg.PWR_VM_STS_BRAKE_FAULT then d.set (Reg.SPN_STS_BRK_SHORT n) 1 else d
      d.spnShort n 0

/-- COAST: the bridge off at once, OFF (R302). -/
def spnCoast (n : Nat) (d : Dev) : Dev :=
  if d.spnSt n = spOFF then d.spnEnd n 1
  else
    let d := if d.getB (Reg.SPN_CMD_BUSY n) then d.spnEnd n 4 else d
    (d.spnState n spOFF).spnEnd n 1

/-- A write of SPN.CMD from software: accepted only while the spindle is released (R302, R367). -/
def spnSoft (n : Nat) (d : Dev) (go : Dev → Dev) : Dev := if d.getB (Reg.SEQ_CTL_REL_SPN n) then go d else d.spnErr n

/-! ### Starting and catching (R293 to R297) -/

/-- PROBE begins. -/
def Dev.spnProbe (n : Nat) (d : Dev) : Dev :=
  (d.onSpn n (fun s => { s with probes := 0, alignDouble := false })).spnState n spPROBE

/-- Hand-over to RUN at a commanded speed in 1/1000 rpm. -/
def Dev.spnRun (n : Nat) (cmd : Int) (d : Dev) : Dev := (d.onSpn n (fun s => { s with cmdSpeed := cmd })).spnState n spRUN

/-- The controller enters FAULT, its command ending FAIL. -/
def Dev.spnFault (n : Nat) (d : Dev) : Dev := (d.spnState n spFAULT).spnEnd n 3

/-- SPINDLE_LISTEN_END: 20 ms of back-EMF: amplitude in mV, speed in rpm, electrical angle (R297, R303, R304). -/
def spindleListenEnd (n amp : Nat) (rpm : Int) (angle : Nat) (d : Dev) : Dev :=
  if d.spnSt n ≠ spLISTEN ∨ d.getB Reg.PWR_VM_STS_UV ∨ d.age n aSPN < 20 * tickMs then d
  else
    let standing := decide (amp < d.get (Reg.SPN_KE_EMF_MIN n)) || decide (rpm.natAbs < 60)
    let d := d.spnMeasured n (if standing then 0 else rpm)
    let d := d.onSpn n (fun s => { s with angle := angle })
    if (d.deck n).spn.cmd = 2 then
      (if standing then (d.spnState n spOFF).spnEnd n 1
       else if (d.deck n).spn.method = 1 ∧ d.getB Reg.PWR_VM_STS_BRAKE_FAULT = false ∧ 600 ≤ rpm then
        (d.onSpn n (fun s => { s with cmdSpeed := rpm * 1000 })).spnState n spREGEN
       else d.spnShort n 0)
    else if standing then d.spnProbe n
    else if 600 ≤ rpm then d.spnRun n (rpm * 1000)
    else if 60 ≤ rpm then (d.onSpn n (fun s => { s with cmdSpeed := rpm * 1000 })).spnState n spRAMP
    else ((d.set (Reg.SPN_STS_REV n) 1).onSpn n (fun s => { s with shortWhy := 2 })).spnState n spREV

/-- Directions of a probe, in order (R294). -/
def probeDirs : List Nat := [0, 180, 60, 240, 120, 300]

/-- Sum of the peak currents of the two pulses in a direction. -/
def probeSum (peaks : List Nat) (dir : Nat) : Nat :=
  (((probeDirs ++ probeDirs).zip peaks).map (fun p => if p.1 = dir then p.2 else 0)).sum

/-- The direction with the largest average, first in rising order. -/
def probeBest (peaks : List Nat) : Nat :=
  [60, 120, 180, 240, 300].foldl (fun b dir => if probeSum peaks b < probeSum peaks dir then dir else b) 0

/-- SPINDLE_PROBE_DONE: twelve peak currents, at 500 µs spacing (R293, R294, R295). -/
def spindleProbeDone (n : Nat) (peaks : List Nat) (d : Dev) : Dev :=
  if d.spnSt n ≠ spPROBE ∨ d.age n aSPN < 6 * tickMs then d
  else
    let big := probeDirs.foldl (fun m dir => max m (probeSum peaks dir)) 0
    let small := probeDirs.foldl (fun m dir => min m (probeSum peaks dir)) big
    let amb := decide ((big - small) * 20 < big) || big == 0
    if amb ∧ (d.deck n).spn.probes = 0 then (d.onSpn n (fun s => { s with probes := 1 })).since n aSPN
    else if amb then
      ((d.set (Reg.SPN_STS_PROBE_AMB n) 1).onSpn n (fun s => { s with angle := 0, alignDouble := true })).spnState n spALIGN
    else
      let b := probeBest peaks
      let a := if probeSum peaks ((b + 300) % 360) < probeSum peaks ((b + 60) % 360) then b + 15 else (b + 345) % 360
      (d.onSpn n (fun s => { s with angle := a })).spnState n spALIGN

/-- Ticks of the alignment: ALIGN_MS, twice that after two ambiguous probes (R293, R295). -/
def alignTicks (d : Dev) (n : Nat) : Nat :=
  d.get (Reg.SPN_START_CFG_ALIGN_MS n) * tickMs * (if (d.deck n).spn.alignDouble then 2 else 1)

/-- SPINDLE_ALIGN_END: the open-loop ramp begins (R293). -/
def spindleAlignEnd (n : Nat) (d : Dev) : Dev :=
  if d.spnSt n ≠ spALIGN ∨ d.getB Reg.PWR_VM_STS_UV ∨ d.age n aSPN < alignTicks d n then d
  else (d.onSpn n (fun s => { s with cmdSpeed := 0 })).spnState n spRAMP

/-- The open-loop ramp at RAMP_ACC had come to 600 rpm some ticks ago (R293, R319). -/
def ramped (d : Dev) (n ago : Nat) : Bool :=
  decide (ago ≤ d.age n aSPN) &&
    decide (600000 ≤ (d.deck n).spn.cmdSpeed + (d.get (Reg.SPN_START_CFG_RAMP_ACC n) * (d.age n aSPN - ago) / 100000 : Nat))

/-- SPINDLE_HANDOVER: the observer has agreed for 64 periods: integrator preset, RUN at 600 rpm (R296). -/
def spindleHandover (n : Nat) (d : Dev) : Dev :=
  if d.spnSt n ≠ spRAMP ∨ ramped d n 0 = false then d
  else
    let fs := d.get (Reg.SPN_FOC_CFG_IQ_FS n)
    let u : Int := if fs = 0 then 2 ^ 31 - 1
      else clampI 0 (2 ^ 31 - 1) (Config.rnd ((10 * d.get (Reg.SPN_START_CFG_START_I n) * 2 ^ 31 : Nat)) fs)
    (d.onSlot n 4 (fun a => { a with integ := u })).spnRun n 600000

/-- SPINDLE_STALL: no hand-over within 500 ms of 600 rpm: windings shorted, attempt counted (R296). -/
def spindleStall (n : Nat) (d : Dev) : Dev :=
  if d.spnSt n ≠ spRAMP ∨ ramped d n (500 * tickMs) = false then d
  else (d.set (Reg.SPN_STS_STALL n) 1).spnShort n 1

/-- A winding short has been held long enough: 200 ms for a stalled start, 200 ms below 60 rpm for a backward motor, 500 ms below 60 rpm
for a stop (R296 to R298). -/
def shortHeld (d : Dev) (n : Nat) : Bool :=
  if d.spnSt n = spREV then decide (200 * tickMs ≤ d.age n aSLOW)
  else d.spnSt n == spSHORT &&
    (if (d.deck n).spn.shortWhy = 1 then decide (200 * tickMs ≤ d.age n aSPN) else decide (500 * tickMs ≤ d.age n aSLOW))

/-- SPINDLE_SHORT_END: a timed winding short ends (R296 to R298): OFF after a stop, another attempt or FAULT after a
stall, PROBE after a backward motor. -/
def spindleShortEnd (n : Nat) (d : Dev) : Dev :=
  let why := (d.deck n).spn.shortWhy
  if shortHeld d n = false then d
  else if d.spnSt n = spREV then d.spnProbe n
  else if why = 1 then (if d.startTry n ≤ d.get (Reg.SPN_STS_TRIES n) then d.spnFault n
    else (d.bump (Reg.SPN_STS_TRIES n) 1).spnListen n)
  else ((d.set (Reg.SPN_STS_BRK_SHORT n) 0).spnMeasured n 0).spnState n spOFF |>.spnEnd n 1

/-- SPINDLE_REGEN_HANDOFF: 600 rpm (R299). -/
def spindleRegenHandoff (n : Nat) (d : Dev) : Dev :=
  if d.spnSt n = spREGEN ∧ d.spnRpm n ≤ 600 then d.spnShort n 0 else d

/-- The observer's back-EMF amplitude differs by more than 50 % from KE × speed, in mV (R291, R315). -/
def emfOff (d : Dev) (n emf : Nat) : Bool :=
  let want := d.get (Reg.SPN_KE_KE n) * (d.spnRpm n).natAbs
  decide (want < ((1000 * emf : Nat) - (want : Int)).natAbs * 2)

/-- The observer is lost: 64 periods in a row of such amplitudes, or less than 480 rpm (R291). -/
def obsLost (d : Dev) (n : Nat) : Bool := decide (64 ≤ (d.deck n).spn.obsRun) || decide (d.spnRpm n < 480)

/-- OBSERVER_LOST: the bridge off, a catch that counts as a start attempt (R291, R297, R370). -/
def observerLost (n : Nat) (d : Dev) : Dev :=
  if d.spnSt n ≠ spRUN ∨ obsLost d n = false then d
  else
    let d := d.set (Reg.SPN_STS_OBS_LOST n) 1
    if d.startTry n ≤ d.get (Reg.SPN_STS_TRIES n) then d.spnFault n
    else
      let d := (d.bump (Reg.SPN_STS_TRIES n) 1).onSpn n (fun s => { s with cmd := if s.cmd = 0 then 1 else s.cmd })
      ((d.set (Reg.SPN_CMD_BUSY n) 1).chargeTake n).spnListen n

/-- SPINDLE_TARGET_REACHED: the commanded speed is TARGET_RPM; START or SET_SPEED ends DONE, the charge is given back
(R302, R368). -/
def spindleTargetReached (n : Nat) (d : Dev) : Dev :=
  if d.spnSt n ≠ spRUN ∨ (d.deck n).spn.cmdSpeed ≠ ((d.deck n).spn.target : Int) * 1000 then d
  else
    let d := d.chargeFree n
    if (d.deck n).spn.cmd = 1 ∨ (d.deck n).spn.cmd = 4 then d.spnEnd n 1 else d

/-- Overcurrent: bridge off, FAULT, record with the phase currents (R288). -/
def spindleOc (c : Clock) (n : Nat) (i : List Int) (d : Dev) : Dev :=
  let over' := i.any (fun x => decide (d.get (Reg.SPN_SENSE_CFG_OC_LIM n) < x.natAbs))
  if over' = false ∨ d.spnSt n = spOFF ∨ d.spnSt n = spLISTEN ∨ d.spnSt n = spFAULT then d
  else
    let d := (d.set (Reg.SPN_STS_OC n) 1).spnFault n
    d.fault c (.deck n) { cls := 4, code := 3, sev := 3, detail := ([0, 1, 2] : List Nat).flatMap (fun p => le 2 (ux 16 (i.getD p 0))) }

/-! ### The PWM period (R290, R292, R298, R300, R301) -/

/-- k as a fraction: numerator and denominator (R300). -/
def regenK (d : Dev) : Nat × Nat :=
  let on' := d.get Reg.PWR_VM_BRK_BRK_ON
  let ceil := d.get Reg.PWR_VM_LIM_REGEN_CEIL
  let den := max 1 (ceil - on')
  if d.getB Reg.PWR_VM_STS_BRAKE_FAULT then (0, den) else (min den (ceil - d.get Reg.PWR_VM_STS_VM), den)

/-- K as VM_STS shows it. -/
def showK (d : Dev) : Dev := d.set Reg.PWR_VM_STS_K (Config.rndN (255 * (regenK d).1) (regenK d).2)

/-- The q-axis command, in 10 mA, of the slot that drives the spindle torque, slot 4 at reset; zero unless slot 4 is CLOSED (R234, R290,
R303). DEDUCED, log 32. -/
def iqWanted (d : Dev) (n : Nat) : Int :=
  if d.get (Reg.LOOP_STS_MODE n 4) = 2 then Config.rnd (destOut d n 5 * d.get (Reg.SPN_FOC_CFG_IQ_FS n)) (2 ^ 31) else 0

/-- The command after the regeneration limit (R300). -/
def iqLimited (d : Dev) (n : Nat) : Int :=
  let k := regenK d
  max (iqWanted d n) (-Config.rnd ((k.1 * d.get (Reg.SPN_BRAKE_CFG_REGEN_ILIM n) : Nat)) k.2)

/-- A current loop of R290 over one period: error in 10 mA, integrator; the voltage asked for in mV and the integrator
after. 2π is taken as 6,283,185,307 ÷ 10^9 (notes/assumptions/13). -/
def currentLoop (d : Dev) (n : Nat) (err integ : Int) : Int × Int :=
  let bw := d.get (Reg.SPN_PWM_CFG_CUR_BW n)
  let w : Int := 6283185307 * (bw : Int)
  let p := Config.rnd (w * d.get (Reg.SPN_MOTOR_MOTOR_L n) * err * 10) 1000000000000000
  let i := integ + Config.rnd (w * d.get (Reg.SPN_MOTOR_MOTOR_R n) * err * 10 * 2 ^ 32)
    (1000000000000 * 1000 * max 1 (d.get (Reg.SPN_PWM_CFG_PWM_KHZ n)))
  (p + Config.rnd i (2 ^ 32), i)

/-- The commanded speed one PWM period on (R292): the ramp at SPD_SLEW, or the measured speed while braking is limited. -/
def cmdSpeedNext (d : Dev) (n : Nat) (limited : Bool) : Int :=
  let s := (d.deck n).spn
  let step : Int := Config.rnd ((d.get (Reg.SPN_FOC_CFG_SPD_SLEW n) * 100 : Nat)) (max 1 (d.get (Reg.SPN_PWM_CFG_PWM_KHZ n)))
  let tgt : Int := (s.target : Int) * 1000
  if s.cmdSpeed < tgt then min tgt (s.cmdSpeed + step)
  else
    let ramp := max tgt (s.cmdSpeed - step)
    if limited then clampI ramp s.cmdSpeed (max tgt (d.spnRpm n * 1000)) else ramp

/-- PWM_PERIOD: one PWM period of a deck: VM, measured d and q currents, measured speed, largest shunt current and back-EMF amplitude.
DESIGN CHOICE, log 11. -/
def pwmPeriod (n vm : Nat) (id iq rpm : Int) (o : ShuntObs) (d : Dev) : Dev :=
  let d := showK (d.set Reg.PWR_VM_STS_VM vm)
  let d := (d.sets [(Reg.SPN_MEAS_ID n, ux 16 id), (Reg.SPN_MEAS_IQ n, ux 16 iq)]).spnMeasured n rpm
  let st := d.spnSt n
  let k := regenK d
  let want := iqWanted d n
  let braking := (st == spRUN && decide (want < 0)) || st == spREGEN
  let limited := decide (k.1 < k.2) && braking
  let d := d.setB (Reg.SPN_STS_REGEN_LIM n) limited
  let d := d.onSpn n (fun s => { s with
    shortOff := (st == spSHORT || st == spREV || d.getB (Reg.SPN_STS_BRK_SHORT n)) &&
      decide (d.get (Reg.SPN_BRAKE_CFG_SHORT_ILIM n) < o.peak)
    obsRun := if st = spRUN ∧ d.getB (Reg.SPN_STS_BRK_SHORT n) = false ∧ emfOff d n o.emf then s.obsRun + 1 else 0 })
  if st = spRUN ∨ st = spREGEN then
    let faulted := d.getB Reg.PWR_VM_STS_BRAKE_FAULT
    let short := if d.getB (Reg.SPN_STS_BRK_SHORT n) then faulted && decide (((d.deck n).spn.target : Int) < rpm)
      else faulted && st == spRUN && decide (want < 0)
    let d := if st = spRUN then d.setB (Reg.SPN_STS_BRK_SHORT n) short else d
    let next := cmdSpeedNext d n (limited || short)
    let rate : Int := (incOfRpm next.toNat / 1000 : Nat) - (incOfRpm ((d.deck n).spn.cmdSpeed).toNat / 1000 : Nat)
    let q := currentLoop d n (iqLimited d n - iq) (d.deck n).spn.intQ
    let dd := currentLoop d n (-id) (d.deck n).spn.intD
    let d := d.onSpn n (fun s => { s with
      cmdSpeed := next, intQ := q.2, intD := dd.2, volt := Config.voltCircle vm (dd.1, q.1) })
    d.onDeck n (fun a => { a with tb := { a.tb with ff := a.tb.ff + rate } })
  else d

/-! ### VM supervision (R304 to R308) -/

/-- Every deck's gate gets or loses the latched cause (R211). -/
def latchGates (d : Dev) : Dev := d.eachDeck (fun n d => d.gateClose n gLATCHED)

/-- The latched cause ends on every deck once no latch of R211 holds. -/
def unlatchGates (c : Clock) (d : Dev) : Dev :=
  if d.getB Reg.PWR_VM_STS_BRAKE_FAULT ∨ d.getB Reg.PWR_VM_STS_VM_ABS ∨ d.getB Reg.PWR_STATE_STS_THERM_SHUT then d
  else d.eachDeck (fun n d => d.gateClear c n gLATCHED)

/-- VM_UNDERVOLTAGE: spindle and sled bridges off, spindles not OFF wait in LISTEN (R304, R331). -/
def vmUndervoltage (c : Clock) (vm : Nat) (d : Dev) : Dev :=
  let d := showK (d.set Reg.PWR_VM_STS_VM vm)
  if d.get Reg.PWR_VM_LIM_UV_LIM ≤ vm ∨ d.getB Reg.PWR_VM_STS_UV then d
  else
    let d := d.set Reg.PWR_VM_STS_UV 1
    let d := d.eachDeck (fun n d =>
      let st := d.spnSt n
      let d := if st = spOFF ∨ st = spFAULT then d
        else
          let d := d.onSpn n (fun s => { s with cmd := if s.cmd = 0 then 1 else s.cmd })
          (((d.set (Reg.SPN_CMD_BUSY n) 1).set (Reg.SPN_STS_UV n) 1).set (Reg.SPN_STS_BRK_SHORT n) 0).spnState n spLISTEN
      if d.get (Reg.SLD_STS_STATE n) = slDISABLED then d else (d.sledOff n).set (Reg.SLD_STS_UV n) 1)
    d.fault c .device { cls := 5, code := 1, sev := 2, detail := le 2 vm }

/-- VM_UV_RECOVER: VM at UV_LIM + 0.5 V; a deck whose command is START or SET_SPEED takes its charge at once (R304,
R370). -/
def vmUvRecover (vm : Nat) (d : Dev) : Dev :=
  let d := showK (d.set Reg.PWR_VM_STS_VM vm)
  if vm < d.get Reg.PWR_VM_LIM_UV_LIM + 25 ∨ d.getB Reg.PWR_VM_STS_UV = false then d
  else (d.set Reg.PWR_VM_STS_UV 0).eachDeck (fun n d =>
    let d := if d.spnSt n = spLISTEN then d.since n aSPN else d
    if d.spnSt n = spLISTEN ∧ (d.deck n).spn.cmd ≠ 2 then d.chargeTake n else d)

/-- BRK_ON: VM has reached BRK_ON and the chopper is driven (R304, R692). -/
def brkOn (vm : Nat) (d : Dev) : Dev :=
  let d := showK (d.set Reg.PWR_VM_STS_VM vm)
  if vm < d.get Reg.PWR_VM_BRK_BRK_ON then d
  else if d.getB Reg.PWR_VM_STS_BRK_ACTIVE then d
  else Dev.devSince gBRK { d.set Reg.PWR_VM_STS_BRK_ACTIVE 1 with brk := { d.brk with onVm := vm } }

/-- BRK_OFF: VM has fallen to BRK_OFF (R304). -/
def brkOff (vm : Nat) (d : Dev) : Dev :=
  let d := showK (d.set Reg.PWR_VM_STS_VM vm)
  if d.get Reg.PWR_VM_BRK_BRK_OFF < vm then d else d.set Reg.PWR_VM_STS_BRK_ACTIVE 0

/-- BRAKE_FAULT: the chopper judged after 50 µs on: VM, greatest BRK_SENSE over the last 50 µs in 10 mA (R305, R306). -/
def brakeFault (c : Clock) (vm sense : Nat) (d : Dev) : Dev :=
  let d := (d.set Reg.PWR_VM_STS_VM vm).set Reg.PWR_BRK_CFG_BRK_I (sense / 10)
  let bad := decide (sense < d.get Reg.PWR_BRK_CFG_BRK_IMIN) || decide (d.brk.onVm + d.get Reg.PWR_BRK_CFG_BRK_RISE ≤ vm)
  if d.getB Reg.PWR_VM_STS_BRK_ACTIVE = false ∨ d.devAge gBRK < 50000 ∨ bad = false ∨ d.getB Reg.PWR_VM_STS_BRAKE_FAULT then showK d
  else
    let d := showK (d.set Reg.PWR_VM_STS_BRAKE_FAULT 1)
    let d := d.eachDeck (fun n d =>
      if d.spnSt n = spREGEN then (d.set (Reg.SPN_STS_BRK_SHORT n) 1).spnShort n 0
      else if d.spnSt n = spRUN ∧ iqWanted d n < 0 then d.set (Reg.SPN_STS_BRK_SHORT n) 1 else d)
    (latchGates d).fault c .device { cls := 5, code := 2, sev := 3, detail := le 2 vm ++ le 1 (sense / 10), latched := true }

/-- VM_ABS: every bridge off, gates closed, lasers killed, every deck to FAULT (R307). DEDUCED, log 38. -/
def vmAbs (c : Clock) (vm : Nat) (d : Dev) : Dev :=
  let d := showK (d.set Reg.PWR_VM_STS_VM vm)
  if vm < 3150 ∨ d.getB Reg.PWR_VM_STS_VM_ABS then d
  else
    let d := latchGates (d.set Reg.PWR_VM_STS_VM_ABS 1)
    let d := d.eachDeck (fun n d =>
      let d := if d.getB (Reg.SPN_CMD_BUSY n) then d.spnEnd n 4 else d
      let d := if d.spnSt n = spFAULT then d else d.spnState n spOFF
      let d := if d.get (Reg.SLD_STS_STATE n) = slDISABLED then d else d.sledOff n
      let d := d.coilsDown n
      let d := (d.kill n).laser n 0
      d.deckFault c n 10)
    d.fault c .device { cls := 5, code := 3, sev := 3, detail := le 2 vm, latched := true }

/-- BRAKE_FAULT_CLEAR: BRK is driven on for a 20 µs test (R308). -/
def brakeFaultClear (d : Dev) : Dev :=
  if d.getB Reg.PWR_VM_STS_BRAKE_FAULT ∧ d.brk.test = false then
    Dev.devSince gBRK { d.set Reg.PWR_VM_STS_BRK_ACTIVE 1 with brk := { d.brk with
      test := true, was := d.getB Reg.PWR_VM_STS_BRK_ACTIVE, onVm := d.get Reg.PWR_VM_STS_VM } }
  else d

/-- BRAKE_TEST_END: greatest BRK_SENSE of the 20 µs test, in 10 mA; BRK is the ladder's again (R308). -/
def brakeTestEnd (c : Clock) (sense : Nat) (d : Dev) : Dev :=
  if d.brk.test = false ∨ d.devAge gBRK < 20000 then d
  else
    let vm := d.get Reg.PWR_VM_STS_VM
    let on' := if d.brk.was then decide (d.get Reg.PWR_VM_BRK_BRK_OFF < vm) else decide (d.get Reg.PWR_VM_BRK_BRK_ON ≤ vm)
    let d := { d.setB Reg.PWR_VM_STS_BRK_ACTIVE on' with brk := { d.brk with test := false } }
    let d := d.set Reg.PWR_BRK_CFG_BRK_I (sense / 10)
    if d.get Reg.PWR_BRK_CFG_BRK_IMIN ≤ sense then
      unlatchGates c (showK (d.set Reg.PWR_VM_STS_BRAKE_FAULT 0))
    else d.set Reg.PWR_VM_STS_TEST_FAIL 1

/-- VM_ABS_CLEAR: only while VM is below BRK_OFF (R308). -/
def vmAbsClear (c : Clock) (d : Dev) : Dev :=
  if d.get Reg.PWR_VM_STS_VM < d.get Reg.PWR_VM_BRK_BRK_OFF then unlatchGates c (d.set Reg.PWR_VM_STS_VM_ABS 0) else d

/-! ### Consistency rules (R310, R311) -/

/-- The first failing rule of SPN. -/
def spnRules (d : Dev) (n : Nat) : Option Nat :=
  let oc := d.get (Reg.SPN_SENSE_CFG_OC_LIM n)
  let khz := d.get (Reg.SPN_PWM_CFG_PWM_KHZ n)
  if ¬(20 ≤ khz ∧ khz ≤ 100 ∧ 5 ≤ d.get (Reg.SPN_PWM_CFG_DEAD n)) then some 1
  else if ¬d.get (Reg.SPN_PWM_CFG_CUR_BW n) ≤ 100 * khz then some 2
  else if ¬(d.get (Reg.SPN_FOC_CFG_IQ_FS n) < oc ∧ d.get (Reg.SPN_BRAKE_CFG_SHORT_ILIM n) < oc ∧
      d.get (Reg.SPN_BRAKE_CFG_REGEN_ILIM n) < oc ∧ 10 * d.get (Reg.SPN_START_CFG_START_I n) < oc) then some 3
  else if ¬(1 ≤ d.get (Reg.SPN_FOC_CFG_SPD_SLEW n) ∧ d.get (Reg.SPN_FOC_CFG_SPD_SLEW n) ≤ 30) then some 4
  else if ¬(1 ≤ d.get (Reg.SPN_MOTOR_POLES n) ∧ 10 ≤ d.get (Reg.SPN_FOC_CFG_OBS_BW n)) then some 5
  else none

/-- The first failing VM ladder rule of PWR (R311). -/
def vmRules (d : Dev) : Option Nat :=
  let on' := d.get Reg.PWR_VM_BRK_BRK_ON
  let off := d.get Reg.PWR_VM_BRK_BRK_OFF
  let ceil := d.get Reg.PWR_VM_LIM_REGEN_CEIL
  if ¬(off < on' ∧ on' < ceil ∧ ceil ≤ 3100) then some 101
  else if ¬off + 25 ≤ on' then some 102
  else if ¬(350 ≤ d.get Reg.PWR_VM_LIM_UV_LIM ∧ d.get Reg.PWR_VM_LIM_UV_LIM ≤ 450) then some 103
  else if ¬(10 ≤ d.get Reg.PWR_BRK_CFG_BRK_RISE ∧ 10 ≤ d.get Reg.PWR_BRK_CFG_BRK_IMIN) then some 104
  else none

end Sys2Proof.Machine
end

