-- ==== Sys2Proof/Machine/Sequencer.lean ====
section
/-! DEFINITION. Machine/Sequencer.lean: the deck sequencer (spec file 11): loading, re-home, parking, shocks, faults and
recovery, zone changes, release to software, the spin-up budget. -/

namespace Sys2Proof.Machine

/-- Change the sequencer. -/
def Dev.onSeq (d : Dev) (n : Nat) (f : Seqr → Seqr) : Dev := d.onDeck n (fun k => { k with seq := f k.seq })

/-- The step shown in STS.STEP (R374). -/
def Dev.seqStep (n step : Nat) (d : Dev) : Dev := d.set (Reg.SEQ_STS_STEP n) step

/-! ### The spin-up budget (R368 to R370) -/

/-- The command a granted charge was requested for is written. -/
def seqSpin (n cmd rpm : Nat) (d : Dev) : Dev :=
  if cmd = 1 then ((spnStart n rpm d).deckState n dSPINNING).seqStep n 4 else spnSetSpeed n rpm d

/-- A charge request waits: before one of another deck when older, or as old and of a lower deck (R369). -/
def waitsBefore (d : Dev) (a b : Nat) : Bool :=
  match (d.deck a).seq.chargeReq, (d.deck b).seq.chargeReq with
  | some x, some y => decide (x < y) || (x == y && decide (a < b))
  | _, _ => false

/-- A deck's waiting request is granted when it is the oldest and the budget admits it (R369), but not while the actuator die
is hot (R576) or the spindle is released (R367). -/
def chargeTry (n : Nat) (d : Dev) : Dev :=
  let q := (d.deck n).seq
  if q.chargeReq = none ∨ d.getB (Reg.SEQ_CTL_REL_SPN n) ∨ d.getB (Reg.PWR_THERM_THROT 3) ∨ (List.range 16).any (fun m => waitsBefore d m n) ∨
      d.get Reg.PWR_SPIN_BUDGET_SPINUP_W < d.get Reg.PWR_SPIN_BUDGET_IN_USE + d.get (Reg.SEQ_PWR_CFG_SPIN_W n) then d
  else
    let d := (d.onSeq n (fun s => { s with chargeReq := none })).set (Reg.SEQ_STS_BUDGET_WAIT n) 0
    seqSpin n q.chargeCmd q.chargeRpm (d.chargeTake n)

/-- The sequencer wants START, or SET_SPEED to a higher speed: at once under a charge held, else after a request. -/
def chargeWant (c : Clock) (n cmd rpm : Nat) (d : Dev) : Dev :=
  if d.getB (Reg.SEQ_STS_CHARGE n) then seqSpin n cmd rpm d
  else
    let d := d.onSeq n (fun s => { s with chargeReq := some c.tick, chargeCmd := cmd, chargeRpm := rpm })
    chargeTry n (d.set (Reg.SEQ_STS_BUDGET_WAIT n) 1)

/-- SPIN_CHARGE_GRANT. -/
def spinChargeGrant (n : Nat) (d : Dev) : Dev := chargeTry n d

/-- A speed for the zone or the load: a lower one takes no charge (R370). -/
def seqSpeed (c : Clock) (n rpm : Nat) (d : Dev) : Dev :=
  if (d.deck n).spn.target < rpm then chargeWant c n 4 rpm d else spnSetSpeed n rpm d

/-! ### Loading (R357 to R361) -/

/-- Step 3 of R357: the coil bridges are on again, the charge is requested, then START is written. -/
def loadGo (c : Clock) (n job : Nat) (d : Dev) : Dev :=
  let d := (d.onSeq n (fun s => { s with job := job, sweeps := 0, rehome := 0, learned := 0 })).coilsUp n
  chargeWant c n 1 (d.get (Reg.SEQ_LOAD_CFG_LOAD_RPM n)) (d.seqStep n 3)

/-- Slot 0 or slot 1 has KP, KI and KD all zero in the bank in force: its loop cannot close (R664). -/
def noGains (n : Nat) (d : Dev) : Bool :=
  [0, 1].any (fun s => [0, 1, 2].all (fun w => ((d.deck n).slot s).coef (d.get (Reg.LOOP_BANK_ACTIVE n s)) w == 0))

/-- LOAD: the pin CLAMP_N at the write, the layer written (R356, R357). DEDUCED, log 45. -/
def seqLoad (c : Clock) (n layer : Nat) (pinLow : Bool) (d : Dev) : Dev :=
  let st := d.dstate n
  let rel := d.getB (Reg.SEQ_CTL_REL_SPN n) || d.getB (Reg.SEQ_CTL_REL_SLD n)
  let take := fun (d : Dev) =>
    ((d.set (Reg.SEQ_CTL_L_TGT n) layer).set (Reg.SEQ_CTL_BUSY n) 1).onSeq n (fun s => { s with job := 1, layerTgt := layer })
  if rel ∨ noGains n d then d.set (Reg.SEQ_CTL_RESULT n) 2
  else if st = dABSENT ∧ pinLow then take d
  else if st = dLOADED ∧ d.getB (Reg.SEQ_CTL_BUSY n) = false ∧ (d.deck n).seq.job = 0 then loadGo c n 1 (take d)
  else d.set (Reg.SEQ_CTL_RESULT n) 2

/-- A media access: a parked, mounted deck is woken, unless a controller is released (R367); the idle time of another begins again (R364). -/
def deckWake (c : Clock) (n : Nat) (d : Dev) : Dev :=
  if d.dstate n = dLOADED ∧ (d.deck n).seq.job = 0 ∧ d.getB (Reg.SEQ_CTL_REL_SPN n) = false ∧ d.getB (Reg.SEQ_CTL_REL_SLD n) = false then
    loadGo c n 4 (d.onSeq n (fun s => { s with layerTgt := d.get (Reg.SEQ_STS_LAYER n) }))
  else d.touch n

/-- The link has come UP: LOADED, and a LOAD held pending goes on (R355, R356). -/
def seqLinkUp (c : Clock) (n : Nat) (d : Dev) : Dev :=
  if d.dstate n = dABSENT ∧ (d.deck n).seq.clampLow then
    let d := d.deckState n dLOADED
    if (d.deck n).seq.job = 1 then loadGo c n 1 d else d
  else d

/-- READY is reached: a LOAD or RECOVER ends DONE (R355, R366). -/
def enterReady (n : Nat) (d : Dev) : Dev :=
  let j := (d.deck n).seq.job
  let d := (d.deckState n dREADY).seqStep n 0
  if j = 1 ∨ j = 3 ∨ d.getB (Reg.SEQ_CTL_BUSY n) then d.seqEnd n 1 else d.onSeq n (fun s => { s with job := 0 })

/-- CALIBRATING after a load or RECOVER: tables cleared, learning runs started, lane loops reloaded (R361). -/
def enterCal (n : Nat) (d : Dev) : Dev :=
  let d := ((d.deckState n dCALIBRATING).seqStep n 11).onSeq n (fun s => { s with learned := 0 })
  let d := [0, 1, 2, 3].foldl (fun d s => learnWrite n s (d.onSlot n s (fun a => { a with table := [], learn := none }))) d
  (List.range 66).foldl (fun d l => if d.lstate n l = lACTIVE then reinit n l d else d) d

/-- The revolution mark in CALIBRATING: runs that ended are noted with FF_EN set, abandoned ones start again, and READY
follows the last (R361). -/
def calMark (n : Nat) (before : List Bool) (d : Dev) : Dev :=
  if d.dstate n ≠ dCALIBRATING ∨ (d.deck n).seq.opc then d
  else
    let d := d.seqStep n 12
    let d := [0, 1, 2, 3].foldl (fun d s =>
      if bit (d.deck n).seq.learned s then d
      else if before.getD s false then
        (d.setBoth (Reg.LOOP_FF_CTL_FF_EN n s) 1).onSeq n (fun q => { q with learned := setBit q.learned s })
      else learnWrite n s d) d
    if (d.deck n).seq.learned = 15 then enterReady n d else d

/-- TRACKING is left once the re-home is done and the commanded speed is LOAD_RPM (R355, R357, R364, R365). -/
def trackDone (n : Nat) (d : Dev) : Dev :=
  let q := (d.deck n).seq
  let atSpeed := d.spnSt n == spRUN && !d.getB (Reg.SPN_CMD_BUSY n) && q.chargeReq == none
  if d.dstate n ≠ dTRACKING ∨ q.rehome ≠ 0 then d
  else if q.job = 5 then enterReady n d
  else if atSpeed = false then d
  else if q.job = 4 then enterReady n d
  else enterCal n d

/-- FOCUS_SWEEP_START (R358). -/
def focusSweepStart (c : Clock) (n : Nat) (d : Dev) : Dev :=
  let j := (d.deck n).seq.job
  if d.dstate n ≠ dSPINNING ∨ d.spnSt n ≠ spRUN ∨ d.spnRpm n < 100 * d.get (Reg.SEQ_LOAD_CFG_FS_RPM n) ∨ j = 0 ∨
      ((d.deck n).slot 0).prof.isSome then d
  else
    let d := (if (d.deck n).link.laserMode = 0 then d.laser n 1 else d).defocus n
    let tgt : Int := 2 * ((d.getI (Reg.ACT_SAFE_CFG_DEFOCUS n)).natAbs : Int) * 32
    let mv : Prof := { kind := 1, start := 0, target := tgt, t0 := c.tick, bySeq := true, sweep := true }
    ((d.onSlot n 0 (fun a => { a with prof := some mv, profPos := 0 })).set (Reg.LOOP_PROF_CTL_BUSY n 0) 1).seqStep n 6

/-- FOCUS_SWEEP_END: no capture in a sweep of FS_MS: the lens goes back and starts again, or FAULT after FS_TRY (R355, R358). -/
def focusSweepEnd (c : Clock) (n : Nat) (d : Dev) : Dev :=
  let over' := ((d.deck n).slot 0).prof.any (fun p => decide (p.t0 + d.get (Reg.SEQ_FOCUS_CFG_FS_MS n) * tickMs ≤ c.tick))
  if d.dstate n ≠ dSPINNING ∨ over' = false then d
  else
    let d := (d.profStop n 0).onSeq n (fun s => { s with sweeps := s.sweeps + 1 })
    if d.get (Reg.SEQ_FOCUS_CFG_FS_TRY n) ≤ (d.deck n).seq.sweeps then d.deckFault c n 3
    else d.defocus n

/-- A slot's SCALE is set from a peak-to-peak signal: into the bank not in force, swapped, then into the other (R358).
DESIGN CHOICE, log 36. -/
def scaleSet (n s pp : Nat) (d : Dev) : Dev :=
  let v := Config.scaleOf s pp
  let a := d.get (Reg.LOOP_BANK_ACTIVE n s)
  let d := d.onSlot n s (fun x => (x.setWord (1 - a) 6 v).setWord a 6 v)
  if ([0, 1, 2, 3] : List Nat).all (fun q => stable ((d.deck n).slot s) (1 - a) q) then
    (d.set (Reg.LOOP_BANK_ACTIVE n s) (1 - a)).onSlot n s (fun x => { x with blank := d.get (Reg.LOOP_SUP_CFG_BLANK n s) })
  else d

/-- The S-curves among the rises of the sum signal in a sweep: Σ beyond FS_SUM ÷ 256 of its full scale, four channels of 2,048
(R358). DESIGN CHOICE, log 36. -/
def sCurves (d : Dev) (n : Nat) (peaks : List SumPeak) : List SumPeak :=
  peaks.filter (fun p => decide (d.get (Reg.SEQ_FOCUS_CFG_FS_SUM n) * 8192 < p.peak * 256))

/-- FOCUS_CAPTURE: slot 0 holds on the second S-curve of a sweep: FOCUSED, timebase enabled; the layer travel is the lens travel from
the surface to layer 0, in nm, times 0.12 (R53, R358). -/
def focusCapture (c : Clock) (n : Nat) (peaks : List SumPeak) (lens : Int) (d : Dev) : Dev :=
  match (sCurves d n peaks)[1]? with
  | none => d
  | some s =>
  if d.dstate n ≠ dSPINNING ∨ ((d.deck n).slot 0).prof = none then d
  else
    let pp := s.pp
    let travel := Config.rnd (lens * 12) 100
    let d := (scaleSet n 0 pp (d.profStop n 0)).slotForce n 0 2
    let d := d.onSlot n 0 (fun a => { a with profPos := 0 })
    let d := d.onSeq n (fun s => { s with travel := travel })
    ((d.deckState n dFOCUSED).seqStep n 7).tbEnable c n

/-- TIMEBASE_ENABLE (R53). -/
def timebaseEnable (c : Clock) (n : Nat) (d : Dev) : Dev := if d.dstate n = dFOCUSED then d.tbEnable c n else d

/-- TIMEBASE_DISABLE: focus loss, or the deck in ABSENT, LOADED, SPINNING, PARKING or FAULT (R53). -/
def timebaseDisable (c : Clock) (n : Nat) (d : Dev) : Dev := d.tbDisable c n

/-- LAYER_IDENTIFIED: the layer fields of eight consecutive wedges; the lane mode and MODE are staged (R64, R86, R359). -/
def layerIdentified (c : Clock) (n : Nat) (fields : List Nat) (d : Dev) : Dev :=
  let ok := fields.filterMap layerOf
  if d.dstate n ≠ dFOCUSED ∨ d.tbState n ≠ tbLOCKED ∨ d.get (Reg.SEQ_STS_STEP n) ≠ 7 ∨ fields.length ≠ 8 ∨ ok.length < 5 then d
  else match ok with
    | [] => d
    | (gen, l) :: t =>
      if t.any (fun x => x != (gen, l)) then d
      else
        let d := d.set (Reg.SEQ_STS_LAYER n) l
        if gen ≠ 1 ∧ gen ≠ 2 then d.deckFault c n 4
        else
          let d := (d.set (Reg.SEQ_STS_GEN n) gen).onSeq n (fun s => { s with newMode := some (2 - gen) })
          let d := ((stageMap n d).slotForce n 2 2).turnSince n tSEQ
          let tgt := (d.deck n).seq.layerTgt
          if l = tgt then d.seqStep n 8
          else
            let base := ((d.deck n).slot 0).profPos
            let d := d.set (Reg.LOOP_PROF_CTL_LAYER n 0) tgt
            let d := profStart c n 0 2 (base + ((tgt : Int) - l) * (d.deck n).seq.travel) true d
            (d.set (Reg.SEQ_STS_LAYER n) tgt).seqStep n 8

/-- A re-home begins; HOME_TMO counts from here (R340). -/
def rehomeGo (n : Nat) (d : Dev) : Dev := (d.onSeq n (fun s => { s with rehome := 1 })).turnSince n tHOME

/-- The crossing speed, 200 nm a crossing, is below PULL_V mm/s (R360). -/
def slowCrossing (d : Dev) (n : Nat) (x : Crossing) : Bool := decide (200000 < d.get (Reg.SEQ_TRK_CFG_PULL_V n) * x.ticks)

/-- TRACK_CAPTURE: slot 1, closed at a slow crossing, holds, the modes committed: TRACKING, slot 3 closed, lanes released, re-home
where needed (R355, R359, R360). -/
def trackCapture (c : Clock) (n : Nat) (x : Crossing) (d : Dev) : Dev :=
  if d.dstate n ≠ dFOCUSED ∨ d.get (Reg.SEQ_STS_STEP n) ≠ 8 ∨ d.tbState n ≠ tbLOCKED ∨ (d.deck n).seq.newMode ≠ none ∨
      slowCrossing d n x = false then d
  else
    let d := ((scaleSet n 1 x.pp d).slotForce n 1 2).slotForce n 3 2
    let d := ((d.deckState n dTRACKING).seqStep n 9).lanesRelease n
    if d.getB (Reg.SLD_STS_POS_OK n) = false ∨ d.getB (Reg.SLD_STS_HOME_REQ n) then
      rehomeGo n d
    else trackDone n ((sldFollow c n d).seqStep n 10)

/-- The sled's position is to be found again while the deck reads (R340). DEDUCED, log 45. -/
def rehomeDue (n : Nat) (d : Dev) : Dev :=
  if d.dstate n = dREADY ∧ d.getB (Reg.SLD_STS_HOME_REQ n) ∧ (d.deck n).seq.rehome = 0 then rehomeGo n d else d

/-- The tracking actuator stands off centre by more than a quarter (R360). -/
def offCentre (d : Dev) (n : Nat) : Bool := decide (2 ^ 29 < ((d.deck n).eng.coilMean.natAbs : Int))

/-- The sled is re-centred under the tracking actuator while POS_OK = 0, and during a re-home (R340, R360). -/
def sledRecentre (c : Clock) (n : Nat) (d : Dev) : Dev :=
  let m := (d.deck n).eng.coilMean
  if ((d.dstate n = dTRACKING ∧ d.getB (Reg.SLD_STS_POS_OK n) = false) ∨ ((d.dstate n = dTRACKING ∨ d.dstate n = dREADY) ∧ (d.deck n).seq.rehome ≠ 0)) ∧
      d.sldRest n ∧ offCentre d n then
    let step := max 1 (d.get (Reg.SLD_MECH_STEP_NM n))
    sldMove c n true (Config.rnd (-m * d.get (Reg.SEQ_TRK_CFG_TRK_RANGE n) * 10 * 256) (2 ^ 31 * step)) d
  else d

/-! ### Re-home (R340) -/

/-- The re-home ends on a track: sled stopped, SET_POS, FOLLOW. -/
def rehomeEnd (c : Clock) (n track : Nat) (d : Dev) : Dev :=
  let d := if d.sldRest n then d else
    ((d.onSled n (fun s => { s with vel := 0, acc := 0, velTgt := 0 })).sldHold n).sldEnd n 3
  let d := sldFollow c n (sldSetPos n (posOfTrack d n track) d)
  let d := d.onSeq n (fun s => { s with rehome := 0, swath := track / 64, track := track })
  trackDone n (d.seqStep n 10)

/-- A SEEK of slot 1 by the sequencer, in nm. -/
def seqSeek (c : Clock) (n : Nat) (by' : Int) (d : Dev) : Dev := profStart c n 1 3 (((d.deck n).slot 1).profPos + by') true d

/-- REHOME_STEP: what the step found: the wedge period, when a clock mark was found, and the track under beam 32, when a
header was decoded. The sector map of the zone found is committed before step 2 ends; a swath seek waits until the sled is centred.
DEDUCED, log 45. -/
def rehomeStep (c : Clock) (n : Nat) (p : Option Nat) (track : Option Nat) (d : Dev) : Dev :=
  let q := (d.deck n).seq
  let zone := p.bind zoneNearest
  let waits := offCentre d n || !d.sldRest n
  if (d.dstate n ≠ dTRACKING ∧ d.dstate n ≠ dREADY) ∨ (q.rehome = 1 ∧ d.tbState n ≠ tbLOCKED) then d
  else if q.rehome = 1 then
    (match zone with
    | some z => stageMap n (d.onSeq n (fun s => { s with rehome := 2, homeZone := z.num, newZone := some z.first }))
    | none => d)
  else if q.rehome = 2 then
    (if q.newZone.isSome then d
     else match track with
      | some t => rehomeEnd c n t d
      | none => if waits then d else seqSeek c n (-12800) (d.onSeq n (fun s => { s with rehome := 4 })))
  else if q.rehome = 4 then
    (if zone.map (fun z => z.num) = some q.homeZone then (if waits then d else seqSeek c n (-12800) d)
     else seqSeek c n 200 (d.onSeq n (fun s => { s with rehome := 5 })))
  else if q.rehome = 5 then
    (if zone.map (fun z => z.num) = some q.homeZone then
      (match zones.find? (fun z => z.num == q.homeZone) with
      | some z => rehomeEnd c n (64 * z.first) d
      | none => d)
     else seqSeek c n 200 d)
  else d

/-- The re-home has lasted HOME_TMO revolutions (R340, R354). -/
def homeLate (d : Dev) (n : Nat) : Bool :=
  (d.deck n).seq.rehome != 0 && decide (d.get (Reg.SLD_MECH_HOME_TMO n) * turnOne ≤ d.turned n tHOME)

/-- REHOME_TIMEOUT (R340, R355). -/
def rehomeTimeout (c : Clock) (n : Nat) (d : Dev) : Dev :=
  if (d.dstate n = dTRACKING ∨ d.dstate n = dREADY) ∧ homeLate d n then d.deckFault c n 6 else d

/-! ### Parking (R363, R364) -/

/-- The park ends at spindle OFF: LOADED (R355, R363). -/
def parkEnd (n : Nat) (d : Dev) : Dev :=
  if d.dstate n = dPARKING ∧ d.spnSt n = spOFF then
    let j := (d.deck n).seq.job
    let d := (d.deckState n dLOADED).seqStep n 0
    if j = 2 then d.seqEnd n 1 else d.onSeq n (fun s => { s with job := 0 })
  else d

/-- The steps of R363. -/
def parkGo (c : Clock) (n job : Nat) (d : Dev) : Dev :=
  let rest := d.sldRest n
  let d := (d.deckState n dPARKING).onSeq n (fun s => { s with
    job := job, pendPark := false, chargeReq := none, rehome := 0, opc := false, writing := false, newZone := none, newMode := none })
  let d := d.onDeck n (fun k => { k with seqPend := [] })
  let d := ((d.gateShut c n).lanesStandby n).set (Reg.SEQ_STS_BUDGET_WAIT n) 0
  let d := (([1, 2, 3] : List Nat).foldl (fun d s => d.slotForce n s 0) ((d.profStop n 0).defocus n))
  let d := d.coilsDown n
  let d := (d.laser n 0).tbDisable c n
  let d := d.chargeFree n
  let d := if d.getB (Reg.SLD_STS_POS_OK n) = false then d
    else if rest then sldMove c n false (d.getI (Reg.SEQ_PARK_POS_PARK_POS n)) d
    else (sldStop c n d).onSeq n (fun s => { s with parkMove := true })
  let d := d.seqStep n (if d.getB (Reg.SLD_STS_POS_OK n) then 4 else 5)
  parkEnd n (spnStop n 0 d)

/-- The sled has come to rest in a park: its MOVE, or step 5. -/
def parkSled (c : Clock) (n : Nat) (d : Dev) : Dev :=
  if d.dstate n = dPARKING ∧ d.sldRest n then
    (if (d.deck n).seq.parkMove then
      sldMove c n false (d.getI (Reg.SEQ_PARK_POS_PARK_POS n)) (d.onSeq n (fun s => { s with parkMove := false }))
     else d.seqStep n 5)
  else d

/-- PARK (R356, R363, R366). -/
def seqPark (c : Clock) (n : Nat) (d : Dev) : Dev :=
  let st := d.dstate n
  let q := (d.deck n).seq
  if d.getB (Reg.SEQ_CTL_REL_SPN n) ∨ d.getB (Reg.SEQ_CTL_REL_SLD n) then d.set (Reg.SEQ_CTL_RESULT n) 2
  else if st = dABSENT ∨ (st = dLOADED ∧ q.job = 0) then d.set (Reg.SEQ_CTL_RESULT n) 1
  else if st = dPARKING then (d.set (Reg.SEQ_CTL_BUSY n) 1).onSeq n (fun s => { s with job := 2 })
  else
    let d := if d.getB (Reg.SEQ_CTL_BUSY n) then d.set (Reg.SEQ_CTL_RESULT n) 4 else d
    let d := d.set (Reg.SEQ_CTL_BUSY n) 1
    if st = dWRITING ∨ q.opc ∨ (st = dREADY ∧ d.gleaning n) then d.onSeq n (fun s => { s with pendPark := true })
    else if st = dLOADED then
      (d.onSeq n (fun s => { s with chargeReq := none })).set (Reg.SEQ_STS_BUDGET_WAIT n) 0 |>.seqEnd n 1
    else parkGo c n 2 d

/-- A park that waited goes on once nothing holds it (R356). -/
def parkPending (c : Clock) (n : Nat) (d : Dev) : Dev :=
  if (d.deck n).seq.pendPark && d.dstate n == dREADY && !d.gleaning n then parkGo c n 2 d else d

/-- IDLE_TIMER: IDLE_S seconds have passed with no media command, Survey or Migrate on the deck (R364). -/
def idleTimer (c : Clock) (n : Nat) (d : Dev) : Dev :=
  if d.dstate n = dREADY ∧ d.get (Reg.SEQ_PWR_CFG_IDLE_S n) ≠ 0 ∧ d.gleaning n = false ∧
      d.get (Reg.SEQ_PWR_CFG_IDLE_S n) * 1000 * tickMs ≤ d.age n aIDLE then parkGo c n 6 d else d

/-! ### Recovery (R366) -/

/-- RECOVER. -/
def seqRecover (c : Clock) (n layer : Nat) (d : Dev) : Dev :=
  if d.getB (Reg.SEQ_CTL_REL_SPN n) ∨ d.getB (Reg.SEQ_CTL_REL_SLD n) ∨ d.dstate n ≠ dFAULT then d.set (Reg.SEQ_CTL_RESULT n) 2
  else
    let d := safeRelease c n d
    let d := ((d.set (Reg.SEQ_CTL_L_TGT n) layer).set (Reg.SEQ_CTL_BUSY n) 1).onSeq n (fun s => { s with
      job := 3, layerTgt := layer, sweeps := 0, rehome := 0, learned := 0 })
    if d.spnSt n = spRUN then
      seqSpeed c n (d.get (Reg.SEQ_LOAD_CFG_LOAD_RPM n)) ((d.deckState n dSPINNING).seqStep n 5)
    else loadGo c n 3 d

/-- The time-out of the deck's state (R355, R378): SPIN_TMO × 100 ms; 256 wedges to the layer, then PULL_TMO revolutions; HOME_TMO
and CAL_TMO revolutions; PARK_TMO seconds. DEDUCED, log 45. -/
def seqLate (d : Dev) (n : Nat) : Bool :=
  let st := d.dstate n
  if st = dSPINNING then decide (d.get (Reg.SEQ_TMO_CFG_SPIN_TMO n) * 100 * tickMs ≤ d.age n aSEQ)
  else if st = dFOCUSED then
    (if d.get (Reg.SEQ_STS_STEP n) = 7 then decide (256 * 16384 * 2 ^ 24 ≤ d.turned n tSEQ)
     else decide (d.get (Reg.SEQ_TMO_CFG_PULL_TMO n) * turnOne ≤ d.turned n tSEQ))
  else if st = dTRACKING then homeLate d n
  else if st = dCALIBRATING then decide (d.get (Reg.SEQ_TMO_CFG_CAL_TMO n) * turnOne ≤ d.turned n tSEQ)
  else if st = dPARKING then decide (d.get (Reg.SEQ_TMO_CFG_PARK_TMO n) * 1000 * tickMs ≤ d.age n aSEQ)
  else false

/-- SEQ_TIMEOUT: the time-out of the deck's state has run out (R355). -/
def seqTimeout (c : Clock) (n : Nat) (d : Dev) : Dev :=
  let st := d.dstate n
  if seqLate d n = false then d
  else if st = dSPINNING then d.deckFault c n 2
  else if st = dFOCUSED then d.deckFault c n (if d.get (Reg.SEQ_STS_STEP n) = 7 then 4 else 5)
  else if st = dTRACKING then d.deckFault c n 6
  else if st = dCALIBRATING then d.deckFault c n 7
  else if st = dPARKING then d.deckFault c n 11
  else d

/-- What the sequencer does once a controller has moved on (R355, R357, R363): RUN turns the read laser on, a failed
spindle faults the deck, a spindle at rest ends a park, LOAD_RPM ends TRACKING, a stalled sled is homed again. -/
def seqPoll (c : Clock) (n : Nat) (d : Dev) : Dev :=
  let st := d.dstate n
  if d.spnSt n = spFAULT ∧ 1 ≤ st ∧ st ≤ 8 then d.deckFault c n 12
  else if st = dSPINNING ∧ d.get (Reg.SEQ_STS_STEP n) = 4 ∧ d.spnSt n = spRUN then (d.laser n 1).seqStep n 5
  else if st = dPARKING then parkEnd n d
  else rehomeDue n (trackDone n d)

/-! ### The clamp (R355, R356, R366) -/

/-- CLAMP_CLOSE: CLAMP_N low for CLAMP_DB (R339, R355, R357). -/
def clampClose (n : Nat) (d : Dev) : Dev :=
  let d := (d.onSeq n (fun s => { s with clampLow := true })).set (Reg.SLD_STS_POS_OK n) 0
  if d.dstate n = dABSENT ∧ d.getB (Reg.WRP_LINK_CFG_FORCE_DOWN n) = false then d.linkTrain n else d

/-- CLAMP_OPEN: CLAMP_N high for CLAMP_DB with the spindle OFF (R355, R356, R363). -/
def clampOpen (c : Clock) (n : Nat) (d : Dev) : Dev :=
  if d.spnSt n ≠ spOFF then d
  else
    let d := if d.getB (Reg.SEQ_CTL_BUSY n) then d.seqEnd n 2 else d.onSeq n (fun s => { s with job := 0 })
    let d := d.onDeck n (fun k => { k with
      seq := { k.seq with clampLow := false, pendPark := false, chargeReq := none, rehome := 0, newZone := none, newMode := none },
      disc := none, mounted := none, primer := none, delivered := [], pass := none, unit := none,
      queue := k.bound.map (fun b => b.2) ++ k.queue, bound := [], failed := [], nextPass := 0, keysDue := [], unitDue := false })
    let d := ((((d.linkDown n).sledOff n).lanesStandby n).tbDisable c n).set (Reg.SEQ_STS_BUDGET_WAIT n) 0
    ((d.deckState n dABSENT).seqStep n 0).coilsShow n

/-- CLAMP_OPEN_SPINNING (R366). -/
def clampOpenSpinning (c : Clock) (n : Nat) (d : Dev) : Dev :=
  if d.spnSt n = spOFF then d
  else
    let d := (d.onSeq n (fun s => { s with clampLow := false })).kill n |>.laser n 0
    let d := ([1, 2, 3] : List Nat).foldl (fun d s => d.slotForce n s 0) ((d.profStop n 0).defocus n)
    (spnStop n 0 d).deckFault c n 9

/-! ### Shocks (R365) -/

/-- SHOCK_CROSSING: |SHK − 0.9 V| beyond SHK_LIM, in 1/256 of full scale (R211, R365, R689). -/
def shockCrossing (n level : Nat) (d : Dev) : Dev :=
  if level ≤ d.get (Reg.WRP_GATE_CFG_SHK_LIM n) then d
  else ((d.gateClose n gSHOCK).onSeq n (fun s => { s with shockOpen := true })).since n aSHOCK

/-- SHOCK_CLEAR (R212). -/
def shockClear (c : Clock) (n level : Nat) (d : Dev) : Dev :=
  if d.get (Reg.WRP_GATE_CFG_SHK_LIM n) < level then d else d.gateClear c n gSHOCK

/-- SHOCK_WINDOW_END: SHOCK_WIN ms after the last crossing (R365). -/
def shockWindowEnd (n : Nat) (d : Dev) : Dev :=
  if d.get (Reg.SEQ_RECOV_CFG_SHOCK_WIN n) * tickMs ≤ d.age n aSHOCK then d.onSeq n (fun s => { s with shockOpen := false }) else d

/-! ### Zone changes (R362) -/

/-- Speed of a zone for the deck's state (R84, R362). -/
def zoneRpm (d : Dev) (n : Nat) (z : Zone) : Nat := if d.dstate n = dWRITING ∨ (d.deck n).seq.writing then z.writeRpm else z.readRpm

/-- Speed of a swath on the disc in the deck: by R84, or by the CG1 zone table, which the spec does not hold (R153). -/
def swathRpm (d : Dev) (n swath : Nat) : Nat :=
  match zoneOf swath with
  | some z => if d.get (Reg.SEQ_STS_GEN n) = 1 then Config.cg1Rpm swath else zoneRpm d n z
  | none => Config.cg1Rpm swath

/-- The map, the speed and the banks of the zone of a swath that the pickup has come to (R362). The swath is held through a read
revolution and the gleans (R152, R173). -/
def zoneGo (c : Clock) (n swath : Nat) (d : Dev) : Dev :=
  let gen := d.get (Reg.SEQ_STS_GEN n)
  match mapOf gen swath with
  | none => d
  | some m =>
    let same := mapOf gen (d.deck n).seq.swath == some m
    let rpm := swathRpm d n swath
    if d.gleaning n ∨ (d.deck n).seen ≠ [] then d
    else
    let d := d.onSeq n (fun s => { s with swath := swath })
    if (same ∧ (d.deck n).spn.target = rpm) ∨ d.dstate n < dTRACKING ∨ dWRITING < d.dstate n then d
    else if same then seqSpeed c n rpm d
    else
      let d := seqSpeed c n rpm d
      let d := stageMap n (d.onSeq n (fun s => { s with newZone := some swath }))
      if d.getB (Reg.SEQ_RECOV_CFG_ZSWAP n) then
        [0, 1, 2, 3, 4].foldl (fun d s =>
          let d := match ((d.deck n).slot s).swap with
            | some _ => d.swapEnd n s 4
            | none => d
          ((d.set (Reg.LOOP_BANK_BUSY n s) 1).set (Reg.LOOP_BANK_REQ n s) 1).onSlot n s
            (fun a => { a with swap := some { atTrig := true, trig := 5, clr := false } })) d
      else d

/-- ZONE_CHANGE: a swath step, once it has settled: beam position b lies over track b of the swath (R83, R362). -/
def zoneChange (c : Clock) (n swath : Nat) (d : Dev) : Dev :=
  let e := zoneGo c n swath d
  if (e.deck n).seq.swath = swath then e.onSeq n (fun s => { s with track := (64 * swath + 32 : Nat) }) else e

/-- Whether a speed in rpm lies within ±0.5 % of another. -/
def withinHalf (rpm : Int) (want : Nat) : Bool := decide ((rpm - want).natAbs * 200 ≤ want)

/-- Whether the measured speed lies within ±0.5 % of a speed: from INC while the timebase has an angle (R70, R198). -/
def speedNear (d : Dev) (n want : Nat) : Bool :=
  if 2 ≤ d.tbState n then
    decide (((60000000000 * d.get (Reg.ANG_INC_INC n) : Nat) - (want * 2 ^ 48 : Nat) : Int).natAbs * 200 ≤ want * 2 ^ 48)
  else withinHalf (d.spnRpm n) want

/-! ### Release to software (R367) -/

/-- REL_SPN. -/
def relSpn (n : Nat) (v : Bool) (d : Dev) : Dev :=
  if v then
    (if d.dstate n = dLOADED ∨ d.dstate n = dFAULT then d.set (Reg.SEQ_CTL_REL_SPN n) 1 else d.set (Reg.SEQ_CTL_RESULT n) 2)
  else if d.getB (Reg.SEQ_CTL_REL_SPN n) then
    let d := d.set (Reg.SEQ_CTL_REL_SPN n) 0
    if d.spnSt n = spOFF then d else spnStop n 0 d
  else d

/-- REL_SLD. -/
def relSld (n : Nat) (v : Bool) (d : Dev) : Dev :=
  if v then
    (if d.dstate n = dLOADED ∨ d.dstate n = dFAULT then d.set (Reg.SEQ_CTL_REL_SLD n) 1 else d.set (Reg.SEQ_CTL_RESULT n) 2)
  else d.set (Reg.SEQ_CTL_REL_SLD n) 0

/-! ### Consistency rules (R371, R372) -/

/-- The first failing rule of SEQ. -/
def seqRules (d : Dev) (n : Nat) : Option Nat :=
  let g := fun (f : Nat → Fld) => d.get (f n)
  let load := g Reg.SEQ_LOAD_CFG_LOAD_RPM
  let fs := 100 * g Reg.SEQ_LOAD_CFG_FS_RPM
  let park := d.getI (Reg.SEQ_PARK_POS_PARK_POS n)
  if ¬(1500 ≤ load ∧ load ≤ 10538 ∧ 1500 ≤ fs ∧ fs ≤ load) then some 1
  else if ¬(10 ≤ g Reg.SEQ_FOCUS_CFG_FS_MS ∧ 1 ≤ g Reg.SEQ_FOCUS_CFG_FS_TRY ∧ 16 ≤ g Reg.SEQ_FOCUS_CFG_FS_SUM ∧
      1 ≤ g Reg.SEQ_TRK_CFG_PULL_V) then some 2
  else if ¬(20 ≤ g Reg.SEQ_TMO_CFG_SPIN_TMO ∧ 4 ≤ g Reg.SEQ_TMO_CFG_PULL_TMO ∧ 20 ≤ g Reg.SEQ_TMO_CFG_CAL_TMO ∧
      10 ≤ g Reg.SEQ_TMO_CFG_PARK_TMO) then some 3
  else if ¬1 ≤ g Reg.SEQ_RECOV_CFG_SHOCK_WIN then some 4
  else if ¬(40 ≤ g Reg.SEQ_PWR_CFG_SPIN_W ∧ g Reg.SEQ_PWR_CFG_SPIN_W ≤ d.get Reg.PWR_SPIN_BUDGET_SPINUP_W) then some 5
  else if ¬(d.getI (Reg.SLD_MIN_POS_MIN_POS n) ≤ park ∧ park ≤ d.getI (Reg.SLD_MAX_POS_MAX_POS n)) then some 6
  else none

end Sys2Proof.Machine
end

