-- ==== Sys2Proof/Machine/WritePath.lean ====
section
/-! DEFINITION. Machine/WritePath.lean: the laser link, the write gate's reopening, write passes, verification and power
calibration (spec file 07). -/

namespace Sys2Proof.Machine

/-- Change the link. -/
def Dev.onLink (d : Dev) (n : Nat) (f : Link → Link) : Dev := d.onDeck n (fun k => { k with link := f k.link })

/-- The link's state (R223). -/
def Dev.linkSt (d : Dev) (n : Nat) : Nat := d.get (Reg.WRP_LINK_STS_STATE n)

def lkDOWN : Nat := 0
def lkTRAINING : Nat := 1
def lkUP : Nat := 2
def lkFAULT : Nat := 3

/-! ### Tables (R207, R208, R219) -/

/-- Bytes of a table: 512 of strategy, 136 of power. -/
def tableLen (t : Nat) : Nat := if t < 16 then 512 else 136

/-- A power of the power table scaled by calibration. -/
def scaled (d : Dev) (n e v : Nat) : Nat :=
  Config.rndN (v * FMap.get (fun _ => 65536) (d.deck n).link.powScale e) 65536 % 65536

/-- A table as downloaded (R208, R219): of a strategy table entries 96 to 127 are zero; of the power table PW and PPK of each emitter
are scaled, and the unused bytes are zero. DESIGN CHOICE, log 41. -/
def tableBytes (d : Dev) (n t : Nat) : List Byte :=
  let raw := (List.range (tableLen t)).map (Config.tableByte n t)
  if t < 16 then slice (raw.take 384) 0 512
  else (List.range 16).flatMap (fun e =>
    le 2 (scaled d n e (ofLe (slice raw (8 * e) 2))) ++ le 2 (scaled d n e (ofLe (slice raw (8 * e + 2) 2))) ++
      slice raw (8 * e + 4) 2 ++ [0, 0]) ++ slice (slice raw 128 2) 0 8

/-- The TABLE_WRITE requests of a table, at most 96 bytes each (R207). -/
def tableWrites (d : Dev) (n t : Nat) : List (Nat × List Byte) :=
  let b := tableBytes d n t
  (List.range (cdiv b.length 96)).map (fun i => (0x02, le 1 t ++ le 2 (96 * i) ++ (b.drop (96 * i)).take 96))

/-- The TABLE_COMMIT request (R207). -/
def tableCommit (d : Dev) (n : Nat) : Nat × List Byte :=
  (0x03, le 4 (crc32 ((List.range 17).flatMap (fun t => tableBytes d n t))))

/-! ### Requests (R207) -/

/-- A new request with a new non-zero TAG. -/
def linkSend (n type : Nat) (payload : List Byte) (d : Dev) : Dev :=
  d.onLink n (fun k =>
    let tag := k.lastTag % 255 + 1
    { k with lastTag := tag, req := some { type := type, tag := tag, payload := payload } })

/-- The next request of those still to send; TABLE_COMMIT completes step 5 of a bring-up. -/
def linkNext (n : Nat) (d : Dev) : Dev :=
  match (d.deck n).link.toSend with
  | [] => d.onLink n (fun k => { k with req := none })
  | (ty, p) :: t =>
    let d := linkSend n ty p (d.onLink n (fun k => { k with toSend := t }))
    if ty = 0x03 ∧ d.linkSt n = lkTRAINING then d.set (Reg.WRP_LINK_STS_STEP n) 5 else d

/-- Requests join those still to send; the first goes out at once when none is in hand (R207). -/
def linkQueue (n : Nat) (l : List (Nat × List Byte)) (d : Dev) : Dev :=
  let d := d.onLink n (fun k => { k with toSend := k.toSend ++ l })
  if (d.deck n).link.req.isNone then linkNext n d else d

/-- TABLE_READ: table, bank, offset, at most 96 bytes (R207). -/
def tableRead (t bank ofs count : Nat) : Nat × List Byte := (0x04, le 1 t ++ le 1 bank ++ le 2 ofs ++ le 1 (min count 96))

/-- FAULT_CLR for some emitters (R207). -/
def faultClr (mask : Nat) : Nat × List Byte := (0x05, le 2 mask)

/-- Whether a message answers the request in hand. -/
def answers (d : Dev) (n type tag : Nat) : Bool :=
  match (d.deck n).link.req with
  | some r => r.type == type && r.tag == tag
  | none => false

/-! ### Bring-up and link faults (R209, R210) -/

/-- A bring-up step has failed: retry in 10 ms (R209). -/
def linkFail (n : Nat) (d : Dev) : Dev :=
  (d.onLink n (fun k => { k with tries := k.tries + 1, retry := true, req := none, toSend := [], commitOk := false })).since n aLINK

/-- The kill sequence with LASER_MODE held, and a retrain from step 1 (R210). -/
def linkRetrain (n : Nat) (d : Dev) : Dev :=
  let d := ((d.gateClose n gLINK).kill n).laser n (min 1 (d.deck n).link.laserMode)
  let d := d.onLink n (fun k => { k with tries := 0, toSend := [], commitOk := false, tableValid := false })
  d.linkTrain n

/-- A bit of the driver's status holds the gate: OVERTEMP, SUPPLY_LOW, or KILLED that no kill sequence explained, until it is seen
clear (R210). -/
def linkHolds (k : Link) : Bool := k.overtemp || k.supplyLow || k.killHold

/-- Step 6: ACK OK and TABLE_VALID make the link UP (R209); emitters still reported faulted are sent FAULT_CLR. DESIGN CHOICE, log 100. -/
def linkTryUp (c : Clock) (n : Nat) (d : Dev) : Dev :=
  let k := (d.deck n).link
  if d.linkSt n = lkTRAINING ∧ k.commitOk ∧ k.tableValid then
    let d := (d.onLink n (fun k => { k with tries := 0, retry := false, commitOk := false })).set (Reg.WRP_LINK_STS_STEP n) 6
    let d := d.linkState n lkUP
    let d := if linkHolds k then d else d.gateClear c n gLINK
    let d := if (d.deck n).gate.emFault = 0 then d else linkQueue n [faultClr (d.deck n).gate.emFault] d
    seqLinkUp c n d
  else d

/-- LINK_BRINGUP: the next step of a bring-up has ended, well or not (R209). Steps 1 to 3 need nothing from the driver but
its frames; step 4 sends CAP_REQ. -/
def linkBringup (c : Clock) (n : Nat) (ok : Bool) (d : Dev) : Dev :=
  if d.linkSt n ≠ lkTRAINING ∨ (d.deck n).link.retry then d
  else if ok = false then linkFail n d
  else
    let s := d.get (Reg.WRP_LINK_STS_STEP n)
    if s < 3 then
      let d := d.set (Reg.WRP_LINK_STS_STEP n) (s + 1)
      if s = 2 then linkSend n 0x01 [] d else d
    else linkTryUp c n d

/-- LINK_RETRY_TIMER: 10 ms after a failed attempt (R209, R355). DEDUCED, log 40. -/
def linkRetryTimer (c : Clock) (n : Nat) (d : Dev) : Dev :=
  let k := (d.deck n).link
  if d.linkSt n ≠ lkTRAINING ∨ k.retry = false ∨ d.age n aLINK < 10 * tickMs then d
  else
    let d := d.onLink n (fun k => { k with retry := false })
    if 3 ≤ k.tries then (d.linkState n lkFAULT).deckFault c n 1 else d.linkTrain n

/-- LINK_RX_LOSS: two failed receive frames in a row, or 204.8 ns without a marker (R210). -/
def linkRxLoss (n : Nat) (d : Dev) : Dev :=
  if d.linkSt n = lkUP then linkRetrain n d
  else if d.linkSt n = lkTRAINING ∧ (d.deck n).link.retry = false ∧ 2 ≤ d.get (Reg.WRP_LINK_STS_STEP n) then linkFail n d
  else d

/-- LINK_MSG_TIMEOUT: MSG_TMO frames of 102.4 ns without an answer (R207, R210). -/
def linkMsgTimeout (c : Clock) (n : Nat) (d : Dev) : Dev :=
  match (d.deck n).link.req with
  | none => d
  | some r =>
    if r.queued ∨ 10 * d.age n aMSG < 1024 * d.get (Reg.WRP_LINK_CFG_MSG_TMO n) then d
    else if r.sends < d.get (Reg.WRP_LINK_CFG_MSG_TRY n) then
      d.onLink n (fun k => { k with req := some { r with queued := true } })
    else
      let d := d.fault c (.deck n) { cls := 3, code := 1, sev := 2, detail := le 2 0 ++ le 1 0 }
      if d.linkSt n = lkUP then linkRetrain n d else linkFail n d

/-! ### Messages of the driver (R207) -/

/-- CAP. -/
def capMsg (n tag : Nat) (p : List Byte) (d : Dev) : Dev :=
  if answers d n 0x01 tag = false then d
  else
    let f := fun (o w : Nat) => ofLe (slice p o w)
    if f 0 2 = 1 ∧ f 2 1 = 16 ∧ f 3 1 ≤ 48 then
      let d := d.sets [(Reg.WRP_CAP_PROTO n, f 0 1), (Reg.WRP_CAP_LEAD n, f 4 1), (Reg.WRP_CAP_EMIT_BASE n, f 3 1),
        (Reg.WRP_CAP_EMITTERS n, f 2 1), (Reg.WRP_LINK_STS_STEP n, 4)]
      let msgs := (List.range 17).flatMap (fun t => tableWrites d n t) ++ [tableCommit d n]
      linkNext n (d.onLink n (fun k => { k with
        latSym := f 5 2, pwMax := f 7 2, prMax := f 9 2, model := slice p 11 16, toSend := msgs }))
    else linkFail n d

/-- TABLE_DATA. -/
def tableData (n tag : Nat) (p : List Byte) (d : Dev) : Dev :=
  if answers d n 0x04 tag then linkNext n (d.onLink n (fun k => { k with readBack := p })) else d

/-- ACK: OK goes on to the next request; BUSY sends it again; anything else fails a bring-up, or drops the request. -/
def ackMsg (c : Clock) (n tag result : Nat) (d : Dev) : Dev :=
  match (d.deck n).link.req with
  | none => d
  | some r =>
    if r.tag ≠ tag ∨ (r.type ≠ 0x02 ∧ r.type ≠ 0x03 ∧ r.type ≠ 0x05) then d
    else if result = 0 then
      let d := if r.type = 0x03 ∧ d.linkSt n = lkTRAINING then d.onLink n (fun k => { k with commitOk := true }) else d
      linkTryUp c n (linkNext n d)
    else if d.linkSt n = lkTRAINING then linkFail n d
    else if result = 4 then linkSend n r.type r.payload d
    else linkNext n d

/-- FAULT: unsolicited; the named emitters are excluded, with a record (R207, R210). -/
def faultMsg (c : Clock) (n mask code : Nat) (d : Dev) : Dev :=
  let d := d.gateExclude c n ((d.deck n).gate.emFault ||| mask) true
  (d.set (Reg.WRP_GATE_STS_LINK n) 1).fault c (.deck n) { cls := 3, code := 1, sev := 2, detail := le 2 mask ++ le 1 code }

/-! ### What a pass writes (R195 to R198, R204) -/

/-- Bytes of the streams of a block. -/
def StageBlk.bytes (b : StageBlk) : List Byte := b.streams.flatMap (fun s => s.bytes)

/-- Bytes used in its payload. -/
def StageBlk.used (b : StageBlk) : Nat := (b.streams.map (fun s => s.bytes.length)).sum

/-- Payload of a data track of a block. -/
def StageBlk.track (b : StageBlk) (t : Nat) : List Byte := slice b.bytes (4096 * t) 4096

/-- The block bound to a slot. -/
def boundTo (k : Deck) (slot : Nat) : StageBlk :=
  match k.bound.find? (fun p => p.1 == slot) with
  | some p => p.2
  | none => { streams := [] }

/-- The sector an emitter writes in a slot: swath, track, KIND and payload; none when it writes nothing there. -/
def passSector (d : Dev) (n e slot : Nat) : Option (Nat × Nat × Nat × List Byte) :=
  let k := d.deck n
  match k.unit, k.pass with
  | some u, _ =>
    if slot = u.slot then
      some (u.swath, 16 * u.pass + e, (if u.magic = magicIndex then kINDEX else kLEDGER) + (if e < 12 then 0 else 1),
        (unitSectors u.payload).getD e [])
    else none
  | none, some p =>
    match p.run with
    | some r =>
      if 16 * (r % 18) ≤ slot ∧ slot < 16 * (r % 18) + 16 then
        some (2654 + r / 18 / 4, 16 * (r / 18 % 4) + e, kCAL, [])
      else none
    | none =>
      let t := 16 * p.pass + e
      let b := boundTo k slot
      if t < 56 then some (k.wrSwath, t, if 4096 * t < b.used then kDATA else kFILL, b.track t)
      else some (k.wrSwath, t, kPARITY, (crossParity 8 ((List.range 56).map b.track)).getD (t - 56) [])
  | none, none => none

/-- The channel bit an emitter writes at a track position and its class bit: 0 and 1 where the track stays blank (R204). -/
def trackBit (d : Dev) (n e x : Nat) (z : Zone) : Bool × Bool :=
  match z.qOf (x % (1024 * z.p)) with
  | none => (false, true)
  | some q =>
    let slot := q / slotBits
    if z.s ≤ slot ∨ 38336 ≤ q % slotBits then (false, true)
    else match passSector d n e slot with
      | none => (false, true)
      | some (swath, track, kind, payload) =>
        let s := laySector z slot (sectorPrefix (d.get (Reg.SEQ_STS_LAYER n)) swath track slot kind payload)
        let b := s.getD (q % slotBits) (false, false)
        (b.1, b.1 && b.2)

/-- An emitter slot of 256 bits, from its first `valid` channel bits: the bits, then the class bits, first most significant
(R202, R204). -/
def slotWord (valid : Nat) (at' : Nat → Bool × Bool) : Nat :=
  let bs := (List.range 128).map (fun i => if i < valid then at' i else (false, false))
  ofMsb (bs.map (fun b => b.1) ++ bs.map (fun b => b.2))

/-- Symbols of a frame (R200): 102.4 ns at 26.5625 GBd. A tick of 1 ns is 425 sixteenths of a symbol. -/
def frameSymbols : Nat := 2720

/-- A stretch of channel bits that a frame carries: where the first lies, how many, PHASE and PERIOD. -/
structure BitSpan where
  first : Nat := 0
  valid : Nat := 0
  phase : Nat := 0
  period : Nat := 0

/-- The channel bits that begin within a frame, when the place on the track goes from a/den to b/den bits over it: the first one at or
after its start; PHASE in 1/16 symbol, PERIOD in 8.16 symbols (R202, R205). -/
def bitSpan (a b den : Nat) : BitSpan :=
  let first := cdiv a den
  { first := first, valid := min 128 (cdiv b den - first)
    phase := min 43519 (Config.rndN ((first * den - a) * 16 * frameSymbols) (max 1 (b - a)))
    period := Config.rndN (frameSymbols * 65536 * den) (max 1 (b - a)) % 2 ^ 24 }

/-- The channel bits of a frame by the angle counter: an emitter runs ahead of the read spot by LEAD, and a bit reaches it LAT_SYM symbols
after its place in the frame (R205). The counter and INC are in 2^-24 grains, here in 1/425 of them. DEDUCED, log 42. -/
def frameSpan (c : Clock) (d : Dev) (n : Nat) (z : Zone) : BitSpan :=
  let inc := d.get (Reg.ANG_INC_INC n)
  let lead := Config.leadAngle (d.get (Reg.WRP_CAP_LEAD n)) (d.deck n).seq.track.toNat
  let a := (c.counter n + lead) * 425 + (d.deck n).link.latSym * 16 * inc
  bitSpan (a * z.p) ((a + frameSymbols * 16 * inc) * z.p) (425 * 2 ^ 24 * 16384)

/-- Groove gone by at an observer's angle in fifths of rpm × ns, in 32 nm of channel bit: numerator, over `grooveDen`. The spiral starts at
24.0008 mm and goes out 1.6 µm a turn (R100); 2π is taken as 6,283,185,307 ÷ 10^9. DESIGN CHOICE, log 101. -/
def groove (o : Nat) : Nat := 6283185307 * (24000800 * o * 5 * 60000000000 + 800 * o * o)
def grooveDen : Nat := 1000000000 * 60000000000 * 60000000000 * 32 * 25

/-- The channel bits of a frame of a primer write, by the spindle observer (R199). -/
def primerSpan (d : Dev) (n : Nat) (q : PrimerNow) : BitSpan :=
  bitSpan (groove (5 * q.obs)) (groove (5 * q.obs + 512 * (d.getI (Reg.SPN_STS_SPEED n)).toNat)) grooveDen

/-- Message area of a frame: 112 bytes (R207). -/
def msgArea (r : Option LinkReq) : List Byte :=
  match r with
  | some q => if q.queued then slice (le 1 q.type ++ le 1 q.tag ++ le 1 q.payload.length ++ q.payload) 0 112 else slice [] 0 112
  | none => slice [] 0 112

/-- What a frame carries for the emitters: the span of channel bits, GATE, the sixteen slots. A primer bit is 40 channel bits of 32 nm,
since PERIOD could not hold it as one. DESIGN CHOICE, log 101. -/
def frameBits (c : Clock) (d : Dev) (n : Nat) : BitSpan × Nat × List Nat :=
  let none' := List.replicate 16 0
  match (d.deck n).primer, zoneOf (writeSwath (d.deck n)) with
  | some q, _ =>
    let s := primerSpan d n q
    let base := q.base.getD s.first
    let bit' := fun (i : Nat) =>
      let j := (s.first + i - base) / 40
      if j < primerLen then (primerBit q.info j, false) else (false, true)
    if q.moved && !q.broken then (s, d.openMask n &&& 2 ^ q.emitter, setAt none' q.emitter (slotWord s.valid bit')) else (s, 0, none')
  | none, some z =>
    let s := frameSpan c d n z
    if (d.deck n).pass.isSome then
      (s, d.openMask n, (List.range 16).map (fun e => slotWord s.valid (fun i => trackBit d n e (s.first + i) z)))
    else (s, 0, none')
  | none, none => ({}, 0, none')

/-- A primer write has begun once a frame carries bits of it with the emitter's gate open (R199). -/
def primerMark (n first : Nat) (d : Dev) : Dev :=
  match (d.deck n).primer with
  | some q => if q.moved && !q.broken && q.base.isNone && bit (d.openMask n) q.emitter then
      d.onDeck n (fun k => { k with primer := some { q with base := some first } }) else d
  | none => d

/-- LASER_TX_FRAME: a transmit frame (R202, R204, R205): the next one in order, or after a kill sequence a new one at a marker (R206). -/
def laserTxFrame (c : Clock) (n : Nat) (d : Dev) : Dev :=
  let b := frameBits c d n
  let k := (d.deck n).link
  let f : TxFrame := {
    seq := k.txSeq, ack := k.rxAck, mode := k.laserMode, gate := if k.laserMode = 2 then b.2.1 else 0, valid := b.1.valid,
    phase := b.1.phase, period := b.1.period, slots := b.2.2, msg := msgArea k.req }
  let d := if k.laserMode = 2 then primerMark n b.1.first d else d
  let d := if k.req.any (fun r => r.queued) then d.since n aMSG else d
  d.onLink n (fun l => { l with
    txSeq := (l.txSeq + 1) % 256, tx := some f, killOut := false,
    req := l.req.map (fun r => if r.queued then { r with queued := false, sends := r.sends + 1 } else r) })

/-- Payload bits of a transmit frame before scrambling (R201, R202). -/
def TxFrame.bits (f : TxFrame) : List Bool :=
  msb 40 0xA53C960FF0 ++ msb 8 f.seq ++ msb 8 f.ack ++ msb 2 f.mode ++ msb 6 0 ++ msb 16 f.gate ++ msb 8 f.valid ++ msb 16 f.phase ++
    msb 24 f.period ++ f.slots.flatMap (fun s => msb 256 s) ++ bitsOf f.msg ++ msb 20 0

/-- The frame as sent: scrambled after the marker, 514 ten-bit symbols and 30 of parity (R200, R201). -/
def TxFrame.coded (f : TxFrame) : List Bool :=
  let b := f.bits
  let p := b.take 40 ++ scramble 0x7FFFFFFF (b.drop 40)
  let syms := (groups 10 514 p).map ofMsb
  p ++ (rsParity 10 0x9 30 syms).flatMap (fun s => msb 10 s)

/-- The PAM4 level of a bit pair: Gray code, the first bit the more significant (R200). -/
def pam4 (hi lo : Bool) : Nat := if hi then (if lo then 2 else 3) else (if lo then 1 else 0)

/-- The 2,720 levels of a frame on the lane (R200). -/
def TxFrame.levels (f : TxFrame) : List Nat := (groups 2 frameSymbols f.coded).map (fun g => pam4 (g.getD 0 false) (g.getD 1 false))

/-- A receive frame as the lane carries it: 256 data symbols of its payload, 16 of parity (R200). -/
def rxCode (data : List Nat) : List Nat := data ++ rsParity 10 0x9 16 data

/-- A receive frame from its 272 symbols: none when the Reed-Solomon decode fails or the marker is not there (R200, R201, R203). -/
def rxDecode (syms : List Nat) : Option RxFrame :=
  if syms.length ≠ 272 then none
  else match rsDecode gf10 16 (syms.map (fun s => s % 1024)) [] with
    | none => none
    | some r =>
      let p := (r.syms.take 256).flatMap (msb 10)
      let b := p.take 40 ++ scramble 0x7FFFFFFF (p.drop 40)
      let f := fun (at' w : Nat) => ofMsb ((b.drop at').take w)
      if f 0 40 ≠ 0x5AC369F00F then none
      else some {
        seq := f 40 8, ack := f 48 8, fault := f 56 16, status := f 72 16, temp := sx 16 (f 88 16),
        mon := (List.range 16).map (fun e => f (104 + 12 * e) 12), msg := bytesOf 112 (b.drop 296), corr := r.errs.length }

/-- A receive frame fails its decode (R210). -/
def rxBad (n : Nat) (d : Dev) : Dev :=
  let d := (d.bump (Reg.WRP_LINK_STS_FAIL_CNT n) 1).onLink n (fun k => { k with badFrames := k.badFrames + 1 })
  if 2 ≤ (d.deck n).link.badFrames then linkRxLoss n (d.onLink n (fun k => { k with badFrames := 0 })) else d

/-- What a good receive frame says of the driver (R203, R210). -/
def rxTake (f : RxFrame) (k : Link) : Link :=
  let killed := bit f.status 0
  { k with
    badFrames := 0, rxAck := f.seq, txAcked := f.ack, killed := killed, killSent := k.killSent && killed,
    killHold := killed && (k.killHold || !k.killSent), overtemp := bit f.status 1, supplyLow := bit f.status 2, bank := bit f.status 3,
    tableValid := bit f.status 4, txFail := bit f.status 5, readOn := bit f.status 6, writeOn := bit f.status 7, temp := f.temp,
    mon := f.mon }

/-- A good receive frame (R203, R210); an answer in its message area comes as a command of its own. -/
def rxGood (c : Clock) (n : Nat) (f : RxFrame) (d : Dev) : Dev :=
  let old := (d.deck n).gate.emFault
  let d := if d.get (Reg.WRP_LINK_CFG_RS_ALARM n) ≤ f.corr then d.set (Reg.WRP_LINK_STS_ALARM n) 1 else d
  let held := linkHolds (d.deck n).link
  let d := d.onLink n (rxTake f)
  let new := (List.range 16).foldl (fun m e => if bit f.fault e && !bit old e then setBit m e else m) 0
  let d := if f.fault = old then d else d.gateExclude c n f.fault true
  let d := if new = 0 then d
    else (d.set (Reg.WRP_GATE_STS_LINK n) 1).fault c (.deck n) { cls := 3, code := 1, sev := 2, detail := le 2 new ++ le 1 0 }
  let holds := linkHolds (d.deck n).link
  let d := if holds && !held then (d.gateClose n gLINK).kill n
    else if !holds && d.linkSt n == lkUP then d.gateClear c n gLINK else d
  linkTryUp c n d

/-- LASER_RX_FRAME: the 272 symbols of a receive frame (R200, R201, R203, R210). -/
def laserRxFrame (c : Clock) (n : Nat) (syms : List Nat) (d : Dev) : Dev :=
  match rxDecode syms with
  | none => rxBad n d
  | some f => rxGood c n f d

/-- FORCE_DOWN (R222): a release is one only of a link that is held down. -/
def forceDown (n : Nat) (v : Bool) (d : Dev) : Dev :=
  if v then ((d.set (Reg.WRP_LINK_CFG_FORCE_DOWN n) 1).kill n).linkDown n
  else if d.getB (Reg.WRP_LINK_CFG_FORCE_DOWN n) = false then d
  else
    let d := d.set (Reg.WRP_LINK_CFG_FORCE_DOWN n) 0
    if (d.deck n).seq.clampLow then d.linkTrain n else d

/-- VFY_CLR (R233). -/
def vfyClr (n : Nat) (d : Dev) : Dev :=
  d.sets [(Reg.WRP_VFY_STS_DISTURBED n, 0), (Reg.WRP_VFY_STS_WEAK n, 0), (Reg.WRP_VFY_STS_INCOMPLETE n, 0),
    (Reg.WRP_VFY_STS_VFY_FAIL n, 0)]

/-- Emitters that open as their waits end at a place, all in one unit (R212): those that have been clear for SETTLE. -/
def Dev.reopen (n : Nat) (waits : Nat → Bool) (d : Dev) : Dev :=
  (d.onDeck n (fun k => { k with gate := { k.gate with
    shut := (List.range 16).foldl (fun m e => if bit k.gate.shut e && (bit k.gate.emFault e || waits e) then setBit m e else m) 0 } })).gateShow n

/-- GATE_REOPEN: a sector start SETTLE wedges or more after the last condition cleared (R212). DEDUCED, log 40. -/
def gateReopen (c : Clock) (n : Nat) (d : Dev) : Dev :=
  let g := (d.deck n).gate
  let settle := d.get (Reg.WRP_GATE_CFG_SETTLE n) * 16384
  if g.hold = 0 ∧ (d.deck n).primer = none ∧ d.linkSt n = lkUP ∧ d.tbState n = tbLOCKED ∧ g.clearedAt + settle ≤ c.grains n then
    d.reopen n (fun e => decide (c.grains n < FMap.get (fun _ => 0) g.emAt e + settle))
  else d

/-- VM_WINDOW_CROSSING: VM in 20 mV against a deck's window (R211). -/
def vmWindowCrossing (c : Clock) (n vm : Nat) (d : Dev) : Dev :=
  if vm < d.get (Reg.WRP_GATE_VM_VM_LO n) ∨ d.get (Reg.WRP_GATE_VM_VM_HI n) < vm then d.gateClose n gVM
  else d.gateClear c n gVM

/-! ### Passes (R196 to R198, R214 to R216) -/

/-- Whether a calibration run is due on the layer (R219). -/
def opcDue (d : Dev) (n : Nat) : Bool :=
  let k := d.deck n
  let l := d.get (Reg.SEQ_STS_LAYER n)
  !k.opcFresh.contains l ||
    decide (16 * d.get (Reg.WRP_OPC_CFG_TEMP_DELTA n) ≤ (k.link.temp - FMap.get (fun _ => 0) k.opcTemp l).natAbs)

/-- What writing needs of the deck, its state apart (R198, R356). -/
def writeFit (d : Dev) (n : Nat) : Bool :=
  let k := d.deck n
  d.pwr.mode != .sleep && d.pwr.entry != 2 && d.tbState n == tbLOCKED && d.getB (Reg.SLD_STS_POS_OK n) &&
    !d.getB (Reg.SLD_STS_HOME_REQ n) && !bit k.gate.hold gLATCHED && !d.getB Reg.PWR_VM_STS_BRAKE_FAULT && !d.getB Reg.PWR_GOV_STS_PASS_HOLD &&
    !d.gleaning n && !k.seq.pendPark && k.pass.isNone && k.unit.isNone && k.primer.isNone && d.get (Reg.SEQ_STS_GEN n) == 2

/-- What writing needs of the deck (R198, R355, R356). -/
def mayWrite (d : Dev) (n : Nat) : Bool := (d.dstate n == dREADY || d.dstate n == dWRITING) && writeFit d n

/-- The deck goes over to a zone's write speed (R84, R355). DEDUCED, log 42. -/
def toWriteSpeed (c : Clock) (n : Nat) (z : Zone) (d : Dev) : Dev :=
  let d := d.onSeq n (fun s => { s with writing := true })
  if (d.deck n).spn.target = z.writeRpm then d else seqSpeed c n z.writeRpm d

/-- The track position under beam position 32 while pass p of a swath is written: beam position b lies over 64 s + 16 p + b − j0
(R197). -/
def passTrack (d : Dev) (n swath pass : Nat) : Int :=
  (64 * swath + 16 * pass + 32 : Nat) - (d.get (Reg.WRP_CAP_EMIT_BASE n) : Int)

/-- Slot 1 follows a track, with no move in hand, and the sled rests or follows (R198, R253). -/
def settled (d : Dev) (n : Nat) : Bool :=
  ((d.deck n).slot 1).prof.isNone && d.get (Reg.LOOP_STS_MODE n 1) == 2 && (d.sldRest n || d.get (Reg.SLD_STS_STATE n) == slFOLLOW)

/-- The pickup stands where pass p of a swath is written, settled, at the zone's write speed and with its map in force (R197, R198). -/
def inPlace (d : Dev) (n swath pass : Nat) (z : Zone) : Bool :=
  (d.deck n).seq.track == passTrack d n swath pass && settled d n && (d.deck n).seq.swath == swath &&
    d.get (Reg.DET_MAP_CFG_P n) == z.p && speedNear d n z.writeRpm

/-- One step toward the place of a pass (R197, R198): a SEEK of up to 64 tracks, a sled MOVE when the place is farther, the map and
speed of the zone. DEDUCED, log 42. -/
def toPlace (c : Clock) (n swath pass : Nat) (z : Zone) (d : Dev) : Dev :=
  let by' := passTrack d n swath pass - (d.deck n).seq.track
  if settled d n = false then d
  else if by' ≠ 0 then
    let d := d.onSeq n (fun s => { s with writing := true, track := passTrack d n swath pass })
    if by'.natAbs ≤ 64 then seqSeek c n (200 * by') d else sldMove c n false (posOfTrack d n (passTrack d n swath pass).toNat) d
  else if (d.deck n).seq.swath ≠ swath then zoneGo c n swath (d.onSeq n (fun s => { s with writing := true }))
  else toWriteSpeed c n z d

/-- Slots in the order a pass takes them (R198). -/
def slotOrder (s start : Nat) : List Nat := (List.range s).map (fun i => (start + i) % max 1 s)

/-- START_SLOT: the first slot whose sector start lies after the angle (R198). -/
def startSlot (z : Zone) (grain : Nat) : Nat := ((List.range z.s).find? (fun k => decide (grain < z.sectorGrain k))).getD 0

/-- The slot that an angle lies in. -/
def slotAt (z : Zone) (grain : Nat) : Option Nat := (List.range z.s).reverse.find? (fun k => decide (z.sectorGrain k ≤ grain))

/-- Blocks that wait for the disc in the clamp: those staged for a disc that was taken out stay staged (R218, R437). -/
def Deck.waiting (k : Deck) : List StageBlk := k.queue.filter (fun q => q.streams.all (fun s => some s.mrec.nsid == k.mounted))

/-- WRITE_PASS_START: pass p of a swath (R196 to R198), from the first slot whose sector start comes after the pickup has settled there;
a zone's blocks go to the zone's own swath (R405); staged data waits while the gate is closed (R218); no slot is written twice (R83). -/
def writePassStart (c : Clock) (n swath pass : Nat) (d : Dev) : Dev :=
  let k := d.deck n
  match zoneOf swath, k.disc with
  | none, _ | _, none => d
  | some z, some x =>
    let layer := d.get (Reg.SEQ_STS_LAYER n)
    let first := decide (pass = 0) && k.nextPass == 0 && !k.waiting.isEmpty && !x.written.contains (layer, swath)
    let later := decide (0 < pass) && k.nextPass == pass && k.wrSwath == swath
    let zone := k.waiting.head?.bind (fun q => q.zone)
    let here := match zone with
      | some a => layer == a / 2622 && swath == 32 + a % 2622
      | none => true
    if mayWrite d n = false ∨ opcDue d n ∨ bandOf layer swath ≠ .data ∨ (first || later) = false ∨ (first && !here) then d
    else if inPlace d n swath pass z = false then toPlace c n swath pass z d
    else if d.openMask n = 0 then d
    else
      let start := startSlot z (c.grain n)
      let batch := (k.waiting.takeWhile (fun q => q.zone == zone)).take z.s
      let d := if first then d.onDeck n (fun k => { k with
          wrSwath := swath, failed := [], bound := (slotOrder z.s start).zip batch, queue := batch.foldl (fun l q => l.erase q) k.queue,
          disc := k.disc.map (fun x => { x with
            written := (layer, swath) :: x.written, blocksLeft := x.blocksLeft - z.s, dirty := true }) }) else d
      let d := (d.deckState n dWRITING).onSeq n (fun s => { s with writing := true })
      (d.laser n 2).onDeck n (fun k => { k with pass := some { pass := pass, startSlot := start } })

/-- Whether a pass in hand writes in a slot. -/
def passWrites (k : Deck) (p : Pass) (slot : Nat) : Bool :=
  match k.unit, p.run with
  | some u, _ => slot == u.slot
  | none, some r => decide (16 * (r % 18) ≤ slot) && decide (slot < 16 * (r % 18) + 16)
  | none, none => true

/-- Power of step i of a calibration run, in 1/15 percent of PW and PPK (R219). -/
def runPower (d : Dev) (n i : Nat) : Nat :=
  15 * d.get (Reg.WRP_OPC_CFG_P_LO n) + i * (d.get (Reg.WRP_OPC_CFG_P_HI n) - d.get (Reg.WRP_OPC_CFG_P_LO n))

/-- The start of a sector (trigger 1): the slot that begins is noted with the emitters whose gate is open, and the power of its
calibration step (R211, R214, R219). -/
def sectorStart (c : Clock) (n : Nat) (d : Dev) : Dev :=
  match (d.deck n).pass, slotAt (mapZone d n) (c.grain n) with
  | some p, some k =>
    if passWrites (d.deck n) p k = false ∨ p.opened.any (fun e => e.1 == k) then
      d.onDeck n (fun x => { x with pass := some { p with now := none }, link := { x.link with slotPower := none } })
    else
      d.onDeck n (fun x => { x with
        pass := some { p with now := some k, opened := p.opened ++ [(k, d.openMask n)] }
        link := { x.link with slotPower := p.run.map (fun _ => runPower d n (k % 16)) } })
  | _, _ => d

/-! ### Verification (R213 to R217) -/

/-- What a beam position makes of a sector: how its sync was settled, the soft values, the place of each stream bit, how the decode
ended. -/
structure TrackRead where
  sync : SyncOut
  soft : Soft
  place : Nat → Int
  run : Option Nat × LdpcRun

/-- A sector of a track read and decoded once, with the header that is wanted (R163 to R167, R213). -/
def trackRead (d : Dev) (n beam : Nat) (z : Zone) (slot cap : Nat) (want : Nat → Nat → Bool) (o : TrackOuts) : TrackRead :=
  let q0 := slotBits * slot
  let s := softOf d n beam q0 (fun _ => 0) o.outs
  let sync := syncSettle d n s (rawOf z.d q0) want
  let delta := match sync with
    | .ok x _ => x
    | .fly x => x
    | _ => 0
  let offs := o.rs.foldl (fun (l : List Int) r =>
    l ++ [(resyncFind d n (softOf d n beam 0 (fun _ => 0) r) (l.getLastD 0)).getD (l.getLastD 0)]) [delta]
  let place := placeOf z.d q0 (offs.take (1 + resyncCount z.d q0))
  { sync := sync, soft := s, place := place, run := decodeSoft d n cap (bodyLlr s place) }

/-- Chaff among the samples of a sector. -/
def TrackRead.chaff (r : TrackRead) : Nat := ((List.range 38192).filter (fun i => r.soft.isChaff (r.place i))).length

/-- Iterations a verifying decode is allowed (R170, R213). -/
def verifyCap (d : Dev) (n : Nat) : Nat :=
  if (d.die (dieOf n)).shed then d.get (Reg.DET_DEC_CFG_ITER_SHED n) else d.get (Reg.WRP_VFY_CFG_VFY_ITER n)

/-- The verifying read of an emitter's sector: what it was, and what its beam position makes of it (R213). -/
def verifyRead (d : Dev) (n e slot : Nat) (o : TrackOuts) : Option (List Byte × Nat × TrackRead) :=
  match passSector d n e slot, zoneOf (writeSwath (d.deck n)) with
  | some (swath, track, kind, payload), some z =>
    let a := headerA (d.get (Reg.SEQ_STS_LAYER n)) swath track slot
    some (slice payload 0 4096, a, trackRead d n (d.get (Reg.WRP_CAP_EMIT_BASE n) + e) z slot (verifyCap d n)
      (fun x h => x == a && h == headerH a kind) o)
  | _, _ => none

/-- Whether a sector verifies (R213). -/
def verifies (d : Dev) (n : Nat) (v : List Byte × Nat × TrackRead) : Bool :=
  (match v.2.2.sync with
    | .ok delta _ => decide (delta.natAbs ≤ d.get (Reg.WRP_VFY_CFG_VFY_DELTA n))
    | _ => false) && v.2.2.run.1.isSome && decide (v.2.2.chaff ≤ d.get (Reg.WRP_VFY_CFG_VFY_CHAFF n)) &&
    sectorPayload v.2.1 v.2.2.run.2 == v.1

/-- Header word A of the sector that a beam position sees in a slot while a pass is written (R197). -/
def watchedA (d : Dev) (n beam slot : Nat) : Nat :=
  let t := ((d.deck n).seq.track + beam - 32).toNat
  headerA (d.get (Reg.SEQ_STS_LAYER n)) (t / 64) (t % 64) slot

/-- Whether a sector of a neighbouring track is disturbed: its sync accepted, and too many of its body bits weak (R217). -/
def disturbedAt (d : Dev) (n beam slot : Nat) (o : TrackOuts) : Bool :=
  match zoneOf (watchedA d n beam slot / 2 ^ 15 % 2 ^ 12) with
  | none => false
  | some z =>
    let r := trackRead d n beam z slot 0 (fun a h => a == watchedA d n beam slot && headerOk a h && kindKnown (bits h 28 4)) o
    let lim : Int := d.get (Reg.WRP_WATCH_CFG_WATCH_LLR n)
    let weak := ((List.range 38016).filter (fun i => decide (((r.soft.at (r.place (176 + i))).natAbs : Int) < lim))).length
    (match r.sync with
      | .ok _ _ => true
      | _ => false) && decide (d.get (Reg.WRP_WATCH_CFG_WATCH_FRAC n) * 38016 < weak * 4096)

/-- Disturbed sectors of the neighbours, seen by the beam positions that do not verify: records, counts, and the gate at DIST_LIM (R211,
R217). -/
def watch (c : Clock) (n slot : Nat) (l : List (Nat × TrackOuts)) (d : Dev) : Dev :=
  if d.getB (Reg.WRP_WATCH_CFG_WATCH_EN n) = false then d
  else
    let base := d.get (Reg.WRP_CAP_EMIT_BASE n)
    let hit := l.filter (fun p => !(decide (base ≤ p.1) && decide (p.1 < base + 16)) && disturbedAt d n p.1 slot p.2)
    let d := hit.foldl (fun d p =>
      ((d.bump (Reg.WRP_VFY_STS_DISTURBED n) 1).fault c (.deck n) { cls := 3, code := 2, sev := 1, detail := le 4 (watchedA d n p.1 slot) }).onDeck n
        (fun k => { k with gate := { k.gate with disturbed := k.gate.disturbed + 1 } })) d
    let lim := d.get (Reg.WRP_WATCH_CFG_DIST_LIM n)
    if lim ≠ 0 ∧ hit ≠ [] ∧ lim ≤ (d.deck n).gate.disturbed then d.gateClose n gDISTURB else d

/-- How a slot ends for an emitter as far as its gate goes: not written when it was closed at the sector start or the emitter is excluded,
incomplete when it closed within the sector (R214, R215). -/
def gateOutcome (e slot : Nat) (p : Pass) : Option SlotResult :=
  if !bit (FMap.get (fun _ => 0) p.opened slot) e then some .notWritten
  else if bit (FMap.get (fun _ => 0) p.lost slot) e then some .incomplete
  else none

/-- The outcome of a slot (R214, R215). -/
def outcome (d : Dev) (n e slot : Nat) (p : Pass) (v : Option (List Byte × Nat × TrackRead)) : SlotResult :=
  match gateOutcome e slot p, v with
  | some r, _ => r
  | none, some v => if verifies d n v then .verified else .vfyFail
  | none, none => .notWritten

/-- An outcome is counted in VFY_STS (R232). -/
def countOut (n : Nat) (o : SlotResult) (d : Dev) : Dev :=
  match o with
  | .verified => d
  | .vfyFail => d.bump (Reg.WRP_VFY_STS_VFY_FAIL n) 1
  | .incomplete => d.bump (Reg.WRP_VFY_STS_INCOMPLETE n) 1
  | .notWritten => d.bump (Reg.WRP_VFY_STS_INCOMPLETE n) 1

/-- β of the lane that serves a beam position (R120). -/
def betaOf (d : Dev) (n beam : Nat) : Int :=
  match servingLane d n beam with
  | some l => d.getI (Reg.LANE_LOOP_VAL_ASYM n l)
  | none => 0

/-- SECTOR_VERIFY_DONE (R213, R214, R217, R219): the sector of an emitter, and what the other beam positions saw beside it. -/
def sectorVerifyDone (c : Clock) (n e slot : Nat) (x : VerifyObs) (d : Dev) : Dev :=
  match (d.deck n).pass with
  | none => d
  | some p =>
    if p.outs.any (fun r => r.emitter == e && r.slot == slot) ∨ passWrites (d.deck n) p slot = false then d
    else
      let v := verifyRead d n e slot x.own
      let r := outcome d n e slot p v
      let iters := (v.bind (fun v => v.2.2.run.1)).getD 0
      let step := (e, slot % 16, betaOf d n (d.get (Reg.WRP_CAP_EMIT_BASE n) + e), iters, r == .verified)
      let d := d.onDeck n (fun k => { k with pass := some { p with
        outs := p.outs ++ [⟨e, slot, r, c.tick, c.angleStamp n⟩], steps := if p.run.isSome then p.steps ++ [step] else p.steps } })
      watch c n slot x.watched (countOut n r d)

/-- The streams of a block with their offsets in its payload (R105). -/
def placeFrom : Nat → List Stm → List (Nat × Stm)
  | _, [] => []
  | off, s :: t => (off, s) :: placeFrom (off + s.bytes.length) t

/-- A stream at an offset touches a failed track of its slot. -/
def hitBy (failed : List (Nat × Nat)) (slot off len : Nat) : Bool :=
  failed.any (fun f => f.1 == slot && decide (f.2 < 56) && decide (4096 * f.2 < off + len) && decide (off < 4096 * (f.2 + 1)))

/-- The fourth pass of a swath has ended: weak blocks and streams on failed sectors are queued again, the rest is placed
(R99, R105, R214, R216). -/
def swathEnd (c : Clock) (n : Nat) (d : Dev) : Dev :=
  let k := d.deck n
  let layer := d.get (Reg.SEQ_STS_LAYER n)
  let weak := fun (slot : Nat) => decide (d.get (Reg.WRP_VFY_CFG_WEAK_LIM n) < (k.failed.filter (fun f => f.1 == slot)).length)
  let weakN := ((List.range 512).filter weak).length
  let parts := k.bound.map (fun b => (b.1, placeFrom 0 b.2.streams))
  let bad := fun (slot off len : Nat) => weak slot || hitBy k.failed slot off len
  let again := (k.bound.map (fun b => ({ b.2 with
      streams := ((placeFrom 0 b.2.streams).filter (fun s => bad b.1 s.1 s.2.bytes.length)).map (fun s => s.2) } : StageBlk))).filter
    (fun b => !b.streams.isEmpty)
  let good := parts.flatMap (fun b => (b.2.filter (fun s => !bad b.1 s.1 s.2.bytes.length)).map (fun s =>
    { s.2.mrec with pba := pbaOf layer k.wrSwath b.1, offset := s.1, length := s.2.bytes.length }))
  let d := d.bump (Reg.WRP_VFY_STS_WEAK n) weakN
  d.onDeck n (fun k => { k with
    queue := again ++ k.queue, bound := [], failed := [], nextPass := 0, placed := k.placed ++ good,
    placedAt := if good = [] then k.placedAt else (match k.placedAt with
      | some t => some t
      | none => some c.tick)
    disc := k.disc.map (fun x => { x with
      dirty := true, layer := layer, swath := k.wrSwath + 1,
      blocks := k.bound.foldl (fun m b => m.ins (pbaOf layer k.wrSwath b.1) b.2.bytes) x.blocks }) })

/-! ### Optimum power calibration (R219, R220, R231) -/

/-- OPC_RUN: a due run starts, or one whose gate closed is repeated; `found` is the runs used as the first read of the layer found them
(R219, R220). It is written like every pass in its place, in zone 31's layout and at its write speed (R84, R198). -/
def opcRun (n found : Nat) (c : Clock) (d : Dev) : Dev :=
  let k := d.deck n
  let l := d.get (Reg.SEQ_STS_LAYER n)
  let again := d.dstate n == dCALIBRATING && k.seq.opc
  if writeFit d n = false ∨ opcDue d n = false ∨ (again || d.dstate n == dREADY || d.dstate n == dWRITING) = false then d
  else match k.disc with
    | none => d
    | some x =>
      let seen := FMap.get (fun _ => 0) x.calUsed l
      let used := if k.opcFresh.contains l then seen else max seen found
      let swath := 2654 + used / 18 / 4
      if 144 ≤ used then
        let d := (d.set (Reg.WRP_OPC_STS_EXHAUSTED n) 1).set (Reg.WRP_OPC_STS_RUNS_LEFT n) 0
        let d := d.onDeck n (fun k => { k with opcFresh := l :: k.opcFresh.erase l, opcTemp := k.opcTemp.ins l k.link.temp })
        let d := d.fault c (.deck n) { cls := 3, code := 3, sev := 1, detail := le 1 3 ++ le 1 l ++ le 2 0 }
        if again then
          parkPending c n ((d.onSeq n (fun s => { s with opc := false })).deckState n (if k.waiting.isEmpty ∨ k.seq.pendPark then dREADY else dWRITING))
        else d
      else match zoneOf swath with
        | none => d
        | some z =>
          if inPlace d n swath (used / 18 % 4) z = false then toPlace c n swath (used / 18 % 4) z d
          else if d.openMask n = 0 then d
          else
            let d := ((d.deckState n dCALIBRATING).onSeq n (fun s => { s with opc := true, writing := true })).laser n 2
            d.onDeck n (fun k => { k with
              pass := some { pass := used / 18 % 4, startSlot := 16 * (used % 18), run := some used },
              disc := k.disc.map (fun x => { x with calUsed := x.calUsed.ins l (used + 1), dirty := true }) })

/-- The power at which β meets the target, in 1/65536 of the present power; none when the range holds no crossing
(R219). -/
def opcCross (d : Dev) (n : Nat) (steps : List (Int × Nat × Bool)) : Option Nat :=
  let t := d.getI (Reg.WRP_OPC_CFG_BETA_TGT n)
  let lo : Int := d.get (Reg.WRP_OPC_CFG_P_LO n)
  let hi : Int := d.get (Reg.WRP_OPC_CFG_P_HI n)
  let b := fun (i : Nat) => (steps.getD i (0, 0, false)).1
  match (List.range 15).find? (fun i => decide ((b i - t) * (b (i + 1) - t) ≤ 0)) with
  | none => none
  | some i =>
    let dv := b (i + 1) - b i
    let num := if dv = 0 then lo * 15 + i * (hi - lo) else (lo * 15 + i * (hi - lo)) * dv.natAbs + (hi - lo) * (t - b i).natAbs
    some (Config.rnd (num * 65536) (if dv = 0 then 1500 else 1500 * dv.natAbs)).toNat

/-- The verified step with the fewest iterations, as a power in 1/65536 (R220). -/
def opcBest (d : Dev) (n : Nat) (steps : List (Int × Nat × Bool)) : Option Nat :=
  let ok := (List.range 16).filter (fun i => (steps.getD i (0, 0, false)).2.2)
  let it := fun (i : Nat) => (steps.getD i (0, 0, false)).2.1
  match ok with
  | [] => none
  | i :: t =>
    let j := t.foldl (fun m x => if it x < it m then x else m) i
    let lo := d.get (Reg.WRP_OPC_CFG_P_LO n)
    some (Config.rndN ((lo * 15 + j * (d.get (Reg.WRP_OPC_CFG_P_HI n) - lo)) * 65536) 1500)

/-- Pickup temperature in whole degrees: nearest, halves away from zero, saturated (R231). -/
def opcTempReg (t : Int) : Int :=
  let m : Int := ((t.natAbs + 8) / 16 : Nat)
  clampI (-128) 127 (if t < 0 then -m else m)

/-- The steps of an emitter in a run, by number: β, iterations, whether it verified. -/
def emitterSteps (p : Pass) (e : Nat) : List (Int × Nat × Bool) :=
  (List.range 16).map (fun i => match p.steps.find? (fun s => s.1 == e && s.2.1 == i) with
    | some s => s.2.2
    | none => (0, 0, false))

/-- The gate closed for an emitter that is not excluded during a run (R220). -/
def runCut (d : Dev) (n r : Nat) (p : Pass) : Bool :=
  (List.range 16).any (fun i => (List.range 16).any (fun e => !bit (d.excluded n) e &&
    (gateOutcome e (16 * (r % 18) + i) p).isSome))

/-- The new power of an emitter, in 1/65536 of the present one (R219, R220). -/
def opcPower (d : Dev) (n : Nat) (steps : List (Int × Nat × Bool)) : Option Nat :=
  match opcBest d n steps, opcCross d n steps with
  | some _, some x => some x
  | some y, none => some y
  | none, _ => none

/-- The end of a calibration run: 16 steps for each of 16 emitters, or a gate closure, after which it is repeated (R219, R220, R231). -/
def opcEnd (c : Clock) (n run : Nat) (p : Pass) (d : Dev) : Dev :=
  let l := d.get (Reg.SEQ_STS_LAYER n)
  let d := d.onDeck n (fun k => { k with pass := none, link := { k.link with slotPower := none } })
  if runCut d n run p then d
  else
    let em := (List.range 16).filter (fun e => !bit (d.excluded n) e)
    let st := emitterSteps p
    let fails := em.filter (fun e => (opcBest d n (st e)).isNone)
    let nocross := em.filter (fun e => (opcBest d n (st e)).isSome && (opcCross d n (st e)).isNone)
    let mask := fun (es : List Nat) => es.foldl setBit 0
    let d := em.foldl (fun d e => match opcPower d n (st e) with
      | some x => d.onLink n (fun k => { k with
          powScale := k.powScale.ins e (Config.rndN (FMap.get (fun _ => 65536) k.powScale e * x) 65536) })
      | none => d) d
    let d := if nocross = [] then d
      else (d.set (Reg.WRP_OPC_STS_NOCROSS n) 1).fault c (.deck n)
        { cls := 3, code := 3, sev := 1, detail := le 1 1 ++ le 1 l ++ le 2 (mask nocross) }
    let d := if fails = [] then d
      else ((d.set (Reg.WRP_OPC_STS_FAIL n) 1).gateExclude c n (mask fails) false).fault c (.deck n)
        { cls := 3, code := 3, sev := 2, detail := le 1 2 ++ le 1 l ++ le 2 (mask fails) }
    let d := (d.set (Reg.WRP_OPC_STS_RUNS_LEFT n) (144 - (run + 1))).set (Reg.WRP_OPC_STS_TEMP n) (ux 8 (opcTempReg (d.deck n).link.temp))
    let d := linkQueue n (tableWrites d n 16 ++ [tableCommit d n]) d
    let d := d.onDeck n (fun k => { k with opcFresh := l :: k.opcFresh.erase l, opcTemp := k.opcTemp.ins l k.link.temp })
    let d := d.onSeq n (fun s => { s with opc := false })
    if d.dstate n ≠ dCALIBRATING then d
    else parkPending c n (d.deckState n (if (d.deck n).waiting.isEmpty ∨ (d.deck n).seq.pendPark then dREADY else dWRITING))

/-- The deck has nothing more to write for now: READY, and the read speed again (R355). -/
def writeIdle (c : Clock) (n : Nat) (d : Dev) : Dev :=
  let d := ((d.deckState n dREADY).laser n 1).onSeq n (fun s => { s with writing := false })
  match zoneOf (d.deck n).seq.swath with
  | some z => if (d.deck n).seq.pendPark then d else seqSpeed c n z.readRpm d
  | none => d

/-- WRITE_PASS_END: every slot has its outcome; failed payloads are queued again (R214, R216, R355). A unit's pass ends as the unit
does. -/
def writePassEnd (c : Clock) (n : Nat) (d : Dev) : Dev :=
  match (d.deck n).pass, (d.deck n).unit with
  | none, _ | _, some _ => d
  | some p, none =>
    match p.run with
    | some r => opcEnd c n r p d
    | none =>
      let s := match zoneOf (d.deck n).wrSwath with
        | some z => z.s
        | none => 0
      let missing := (List.range 16).flatMap (fun e => ((List.range s).filter (fun k =>
        !p.outs.any (fun o => o.emitter == e && o.slot == k))).map (fun k => (⟨e, k, .notWritten, c.tick, c.angleStamp n⟩ : SlotOut)))
      let d := missing.foldl (fun d o => countOut n o.out d) d
      let outs := p.outs ++ missing
      let bad := (outs.filter (fun o => o.out != .verified)).map (fun o => (o.slot, 16 * p.pass + o.emitter))
      let d := d.onDeck n (fun k => { k with
        pass := none, report := outs, failed := k.failed ++ bad, nextPass := p.pass + 1 })
      let d := if p.pass = 3 then swathEnd c n d else d
      let more := decide (p.pass < 3) || !(d.deck n).waiting.isEmpty
      parkPending c n (if d.dstate n ≠ dWRITING ∨ (more && !(d.deck n).seq.pendPark) then d else writeIdle c n d)

/-! ### The primer (R199, R435) -/

/-- Whether a deck has an emitter that can write the primer (R199). -/
def primerDeck (d : Dev) (n : Nat) : Bool :=
  decide (15 ≤ d.get (Reg.WRP_CAP_EMIT_BASE n) ∧ d.get (Reg.WRP_CAP_EMIT_BASE n) ≤ 34)

/-- The emitter that writes the primer: its beam position lies nearest beam position 32 (R199). -/
def primerEmitter (d : Dev) (n : Nat) : Nat := min 15 (32 - d.get (Reg.WRP_CAP_EMIT_BASE n))

/-- Speed of a primer write, in rpm, and the track position at the groove's inner end, 24.0008 mm (R100, R199). -/
def primerRpm : Nat := 1500
def primerTrack : Nat := 4

/-- Mode of the lanes and of the sector map: 2 for a primer, 0 for CG2 (R131, R153, R180). -/
def primerMode (n m : Nat) (d : Dev) : Dev := (laneModeSet n m d).set (Reg.DET_MAP_CFG_MODE n) m

/-- A primer write begins (R199): WRITING in lane mode PRIMER, 1,500 rpm, the pickup on its way to the groove's inner end on layer 0, the
set-point of slot 1 off by the writing emitter's distance. DEDUCED, log 42. -/
def primerBegin (c : Clock) (n stamp : Nat) (i : PrimerInfo) (d : Dev) : Dev :=
  let e := primerEmitter d n
  let off : Int := (32 - (d.get (Reg.WRP_CAP_EMIT_BASE n) : Int) - e) * 200
  let d := ((d.deckState n dWRITING).onSeq n (fun s => { s with writing := true, track := primerTrack })).gateShut c n
  let d := d.onDeck n (fun k => { k with primer := some { info := i, emitter := e, stamp := stamp } })
  let d := seqSpeed c n primerRpm (primerMode n 2 d)
  let l := d.get (Reg.SEQ_STS_LAYER n)
  let d := if l = 0 then d
    else ((profStart c n 0 2 (((d.deck n).slot 0).profPos - l * (d.deck n).seq.travel) true (d.set (Reg.LOOP_PROF_CTL_LAYER n 0) 0)).set
      (Reg.SEQ_STS_LAYER n) 0)
  (sldMove c n false (posOfTrack d n primerTrack) d).setI (Reg.LOOP_SP_OFS_SP_OFS n 1) (off * 2 ^ 21)

/-- A primer write is over: the deck is READY in CG2 mode. -/
def primerEnd (c : Clock) (n : Nat) (d : Dev) : Dev :=
  let d := (d.onDeck n (fun k => { k with primer := none })).set (Reg.LOOP_SP_OFS_SP_OFS n 1) 0
  let d := primerMode n 0 (((d.deckState n dREADY).laser n 1).onSeq n (fun s => { s with writing := false }))
  parkPending c n (if (d.deck n).seq.pendPark then d else seqSpeed c n (d.get (Reg.SEQ_LOAD_CFG_LOAD_RPM n)) d)

/-- Whether every channel bit of the recording has gone out. -/
def primerOut (q : PrimerNow) : Bool :=
  match q.base with
  | some b => decide (b + 40 * primerLen ≤ cdiv (groove (5 * q.obs)) grooveDen)
  | none => false

/-- The spindle observer has measured anew during a primer write (R199, R212): its speed window, the pickup's arrival, the gate's reopening
SETTLE × 2^-10 of a turn after the last condition cleared. -/
def primerTurn (c : Clock) (n : Nat) (d : Dev) : Dev :=
  match (d.deck n).primer with
  | none => d
  | some q =>
    let d := if withinHalf (d.spnRpm n) primerRpm then d.gateClear c n gSPEED
      else if bit (d.deck n).gate.hold gSPEED then d else d.gateClose n gSPEED
    if q.moved = false then
      (if withinHalf (d.spnRpm n) primerRpm && settled d n && ((d.deck n).slot 0).prof.isNone then
        sldFollow c n ((d.laser n 2).onDeck n (fun k => { k with primer := some { q with moved := true, obs := 0, cleared := 0 } }))
      else d)
    else match (d.deck n).primer with
      | none => d
      | some q => if (d.deck n).gateHold = 0 ∧ d.linkSt n = lkUP ∧ q.cleared + d.get (Reg.WRP_GATE_CFG_SETTLE n) * 60000000000 / 1024 ≤ q.obs then
          d.reopen n (fun _ => false) else d

/-! ### Consistency rules (R221) -/

/-- The first failing rule of WRP. -/
def wrpRules (d : Dev) (n : Nat) : Option Nat :=
  let g := fun (f : Nat → Fld) => d.get (f n)
  if ¬(1 ≤ g Reg.WRP_GATE_CFG_LIM_CNT ∧ 1 ≤ g Reg.WRP_GATE_CFG_SETTLE) then some 1
  else if ¬(400 ≤ g Reg.WRP_GATE_VM_VM_LO ∧ g Reg.WRP_GATE_VM_VM_LO < g Reg.WRP_GATE_VM_VM_HI ∧ g Reg.WRP_GATE_VM_VM_HI ≤ 3100)
    then some 2
  else if ¬(4 ≤ g Reg.WRP_VFY_CFG_VFY_ITER ∧ g Reg.WRP_VFY_CFG_VFY_ITER ≤ g Reg.DET_DEC_CFG_ITER_MAX1) then some 3
  else if ¬g Reg.WRP_VFY_CFG_VFY_DELTA ≤ 96 then some 4
  else if ¬(50 ≤ g Reg.WRP_OPC_CFG_P_LO ∧ g Reg.WRP_OPC_CFG_P_LO < g Reg.WRP_OPC_CFG_P_HI ∧ g Reg.WRP_OPC_CFG_P_HI ≤ 150) then some 5
  else if ¬(g Reg.WRP_VFY_CFG_WEAK_LIM ≤ 7 ∧ 1 ≤ g Reg.WRP_GATE_VM_INH_TMO) then some 6
  else none

end Sys2Proof.Machine
end

