-- ==== Sys2Proof/Machine/Host.lean ====
section
/-! DEFINITION. Machine/Host.lean: how commands are taken in, read and written, committed and flushed (spec file 13; file 12,
R405 and R406; file 14, R468 to R471; file 19, R637 to R639). -/

namespace Sys2Proof.Machine

/-! ### Namespace keys (R637 to R640) -/

/-- The ten bytes "JORRUN KCV". -/
def kcvText : List Byte := [0x4A, 0x4F, 0x52, 0x52, 0x55, 0x4E, 0x20, 0x4B, 0x43, 0x56]

/-- Key check value of a key, as a ledger entry carries it (R644). -/
def kcv (k : List Byte) : List Byte := slice (Config.hmac384 k kcvText) 0 48

/-- Random bytes from the DRBG (R636). DEDUCED, log 88. -/
def Dev.draw (d : Dev) (n : Nat) : List Byte × Dev :=
  (slice (Config.drbg d.sec.drawn n) 0 n, { d with sec := { d.sec with drawn := d.sec.drawn + 1 } })

/-- The KEK and the data key of a KID. -/
def Dev.kek (d : Dev) (kid : Nat) : Option (List Byte) := (d.sec.keks.find? (fun e => e.1 == kid)).map (fun e => e.2)
def Dev.dataKey (d : Dev) (kid : Nat) : Option (List Byte) := (d.sec.dataKeys.find? (fun e => e.1 == kid)).map (fun e => e.2)

/-- Key group of a namespace. -/
def Dev.kidOf (d : Dev) (nsid : Nat) : Nat :=
  match d.plait with
  | some p => (p.nsPolicy nsid).2
  | none => 0

/-- Different wrapped values of a KID on the member discs of a stripe on this device. -/
def Dev.wrapped (d : Dev) (s : StripeRec) (kid : Nat) : List (List Byte) :=
  ((d.localMembers s).filterMap (fun m => (d.deck m.2).disc.bind (fun x => (x.keys.find? (fun e => e.1 == kid)).map (fun e => e.2)))).dedup

/-- Member discs without the KEY record get one with their next index unit (R637). -/
def keyRecsDue (s : StripeRec) (kid : Nat) (w : List Byte) (d : Dev) : Dev :=
  (d.localMembers s).foldl (fun d m => d.onDeck m.2 (fun k =>
    match k.disc with
    | some x => if x.keys.any (fun e => e.1 == kid) || k.keysDue.any (fun e => e.1 == kid) then k
        else { k with keysDue := k.keysDue ++ [(kid, w)] }
    | none => k)) d

/-- The data key of a key group: taken from the KEY records, or made; whether the namespace may become ready (R637, R639).
DEDUCED, log 77. -/
def keyReady (c : Clock) (src : Src) (s : StripeRec) (kid : Nat) (d : Dev) : Bool × Dev :=
  match d.kek kid with
  | none => (false, d)
  | some kek =>
    if d.get Reg.SEC_STS_STATE = 3 ∨ d.sec.erased.contains kid then (false, d)
    else match d.wrapped s kid with
      | [] =>
        (match d.dataKey kid with
         | some k => (true, keyRecsDue s kid (slice (Config.kwWrap kek k) 0 72) d)
         | none =>
           if d.ledFull || d.led.bad then (false, d)
           else
             let r := d.draw 64
             let d := ledWrite c (r.2.ledAdd c {} 5 0 3 kid zeros48 (kcv r.1))
             (true, keyRecsDue s kid (slice (Config.kwWrap kek r.1) 0 72)
               { d with sec := { d.sec with dataKeys := d.sec.dataKeys ++ [(kid, r.1)] } }))
      | [w] =>
        (match Config.kwUnwrap kek w with
         | some k =>
           let keys := d.sec.dataKeys.filter (fun e => e.1 != kid) ++ [(kid, slice k 0 64)]
           (true, keyRecsDue s kid w { d with sec := { d.sec with dataKeys := keys } })
         | none =>
           let d := d.fault c src { cls := 9, code := 3, sev := 2, detail := le 4 kid ++ [1] }
           (false, d.ledEvent c {} 5 1 3 kid zeros48 zeros48))
      | _ => (false, d.fault c src { cls := 9, code := 3, sev := 2, detail := le 4 kid ++ [2] })

/-! ### Sizes (R405, R112) -/

/-- Stored bytes of a layer (R112). -/
def layerBytes : Nat := 541194 * 229376

/-- Quota of a namespace in GiB, 0 for none (R454). -/
def Dev.quota (d : Dev) (nsid : Nat) : Nat := d.get (Reg.HQ_NS_QUOTA_CAP_QUOTA.sel nsid)

/-- NSZE: logical blocks over the member discs, those on other devices as their Mounts told, capped at the quota (R29, R405).
DEDUCED, log 58. -/
def Dev.nsBlocks (d : Dev) (b : BindRec) (s : StripeRec) : Nat :=
  let here := ((d.localMembers s).map (fun m => match (d.deck m.2).disc with
    | some x => x.layers
    | none => 0)).sum
  let away := ((d.host.away.filter (fun a => a.nsid == b.nsid && s.members.contains a.handle)).map (fun a => a.layers)).sum
  let cap := (here + away) * layerBytes / b.lbs
  if d.quota b.nsid = 0 then cap else min cap (d.quota b.nsid * 2 ^ 30 / b.lbs)

/-- ZCAP of a zone: layer-major, data swaths 32 to 2,653 ascending (R405). DEDUCED, log 59. -/
def zoneCap (b : BindRec) (s : StripeRec) (k : Nat) : Nat :=
  match zoneOf (32 + k % 2622) with
  | some z => 56 * z.s * s.members.length * 4096 / b.lbs
  | none => 0

/-- A zone of a namespace. -/
def Ns.zone (x : Ns) (k : Nat) : ZoneSt := FMap.get (fun _ => {}) x.zones k

/-- Change a zone. -/
def Dev.onZone (d : Dev) (nsid k : Nat) (f : ZoneSt → ZoneSt) : Dev :=
  d.onNs nsid (fun x => { x with zones := x.zones.ins k (f (x.zone k)) })

/-- Zones that count as active: open or closed. -/
def Ns.active (x : Ns) : Nat := (x.zones.filter (fun e => e.2.state == 2 || e.2.state == 3 || e.2.state == 4)).length

/-! ### Readiness (R406, R418, R434) -/

/-- Devices of a stripe other than this one. -/
def Dev.devsOf (d : Dev) (s : StripeRec) : List Nat := ((s.members.map hDev).filter (fun v => v != d.devNum)).dedup

/-- Mapping and commit records of the member discs, on this device and as other devices have told them (R108). -/
def Dev.nsMaps (d : Dev) (s : StripeRec) : List MapRec :=
  (d.localMembers s).flatMap (fun m => match (d.deck m.2).disc with
    | some x => x.maps
    | none => []) ++ (d.host.peers.filter (fun p => (d.devsOf s).contains p.dev)).flatMap (fun p => p.maps)
def Dev.nsCommits (d : Dev) (s : StripeRec) : List CommitRec :=
  (d.localMembers s).flatMap (fun m => match (d.deck m.2).disc with
    | some x => x.commits
    | none => []) ++ (d.host.peers.filter (fun p => (d.devsOf s).contains p.dev)).flatMap (fun p => p.commits)

/-- What the discs say of a namespace: write sequence above every WRITE_ID found, bytes stored, zones, blocks written. -/
def nsFrom (d : Dev) (b : BindRec) (s : StripeRec) (x : Ns) : Ns :=
  let maps := (d.nsMaps s).filter (fun m => m.nsid == b.nsid)
  let commits := d.nsCommits s
  let far := (d.host.away.filter (fun a => a.nsid == b.nsid && decide (a.top ≠ 0))).map (fun a => a.top)
  let top := (maps.map (fun m => m.wid) ++ far).foldl (fun a w => max a (w / 65536 + 1)) 0
  let live := maps.filter (fun m => committedBy maps commits b.nsid m.wid)
  let zs := zoneSize b s
  let zones := if b.zoned then live.foldl (fun (z : FMap ZoneSt) m =>
      let k := m.slba / max 1 zs
      let wp := max (FMap.get (fun _ => {}) z k).wp (m.slba % max 1 zs + m.nlb)
      z.ins k { state := if zoneCap b s k ≤ wp then 14 else 4, wp := wp }) [] else []
  { x with
    ready := true, wseq := max x.wseq top, used := max x.used ((maps.map (fun m => m.length)).sum),
    zones := if x.zones = [] then zones else x.zones, blockNo := max x.blockNo ((maps.map (fun m => m.pba)).dedup.length) }

/-- A namespace becomes ready when its last member is mounted, its sheaf is up and its keys are held (R406, R434, R639). -/
def nsTry (c : Clock) (nsid : Nat) (d : Dev) : Dev :=
  match d.bound nsid with
  | none => d
  | some (b, s) =>
    if (d.ns nsid).ready || !d.allMounted s nsid || d.cutOff b s then d
    else
      let r := if b.enc then keyReady c (d.nsSrc nsid) s (d.kidOf nsid) d else (true, d)
      if r.1 then ((r.2.onNs nsid (nsFrom r.2 b s)).nsChanged [nsid]) else r.2

/-- Every namespace that can become ready does. -/
def nsTryAll (c : Clock) (d : Dev) : Dev :=
  match d.plait with
  | some p => p.bindings.foldl (fun d b => nsTry c b.nsid d) d
  | none => d

/-- Namespaces stop being ready. -/
def nsLose (l : List Nat) (d : Dev) : Dev :=
  let l := l.filter (fun n => (d.ns n).ready)
  (l.foldl (fun d n => d.onNs n (fun x => { x with ready := false })) d).nsChanged l

/-! ### Intake (R415 to R419) -/

/-- Any activity ends IDLE (R560). -/
def Dev.activity (d : Dev) : Dev :=
  if d.pwr.mode = .idle then { d with pwr := { d.pwr with mode := .run } }.set Reg.PWR_STATE_STS_STATE 0 else d

/-- A wake event is latched in WAKE_STS while the device is below IDLE or on its way there (R567, R568). -/
def Dev.wakeBy (d : Dev) (f : Fld) : Dev :=
  if d.pwr.mode = .sleep ∨ d.pwr.mode = .deep ∨ d.pwr.entry ≠ 0 then
    { d with pwr := { d.pwr with wake := true } }.set f 1 else d

/-- A controller returns to its last operational power state (R559). -/
def Dev.toOperational (d : Dev) (cid : Nat) : Dev :=
  d.onCtrl cid (fun k => if 3 ≤ k.ps then { k with ps := k.lastOp } else k)

/-- Whether a command waiting in a queue may be fetched (R416, R429). DESIGN CHOICE, log 82. -/
def Dev.mayFetch (d : Dev) (k : Ctrl) : Bool :=
  !d.getB Reg.HQ_INTAKE_STS_STOPPED && decide (d.host.ctxs.length < 131072) && decide (d.locksUsed + 258 ≤ 16384) &&
    decide (d.inflight k.id < d.get (Reg.HQ_CTL_BUDGET_INFLIGHT.sel k.id))

/-- What a command meets before it runs, apart from waiting: the status it completes with at once (R39, R397, R406, R631).
PRESUMED, log 48. -/
def Dev.intakeStop (d : Dev) (k : Ctrl) (x : HostCmd) : Option Sts :=
  if k.kind = 3 && !Cmd.tunnelled x.op then some .invalidOpcode
  else if d.pwr.mode = .recovery && !(x.op == .identify || x.op == .getLogPage || x.op == .fwDownload || x.op == .fwCommit) then
    some .invalidOpcode
  else if d.plait.isNone && !Cmd.minimal x.op then some .invalidOpcode
  else if (match Cmd.role x.op with
      | some r => !bit k.allRoles r
      | none => false) then some .accessDenied
  else if Cmd.isAdmin x.op || (x.op == .flush && x.nsid == 0xFFFFFFFF) || x.op == .otherIo then none
  else if !d.sees k x.nsid then some .invalidNamespace
  else if x.op == .compressJob || x.op == .decompressJob then none
  else if d.reloadHolds x.nsid then none
  else if d.host.sanitize == 1 then some .sanitizeInProgress
  else if d.host.jobs.any (fun j => j.kind == 1 && j.nsid == x.nsid) && !(Cmd.isWrite x.op && d.nsCg1 x.nsid) then some .discNotMounted
  else d.opStop x.op x.nsid

/-- Why a fetched command is held, if it is (R417). -/
def Dev.holdWhy (d : Dev) (x : Ctx) : Option Nat :=
  if (!Cmd.isAdmin x.cmd.op || x.cmd.op == .mount) && d.reloadHolds x.cmd.nsid then some 3
  else if d.histWait x then some 1
  else if d.mayStart x then none
  else some 0

/-- COMMAND_FETCH: a controller's command is taken from a queue and given its stamp, or waits there (R415 to R419). A
management endpoint's commands take no stamp. DEDUCED, log 92. -/
def commandFetch (cid sq : Nat) (hc : HostCmd) (c : Clock) (d : Dev) : Clock × Dev :=
  match d.ctrl cid with
  | none => (c, d)
  | some k =>
    let d := (d.activity.wakeBy Reg.PWR_WAKE_STS_COMMAND).toOperational cid
    let queue := decide (sq = 0) || k.sqs.any (fun q => q.1 == sq)
    if !(k.ready || k.kind == 3) || !queue || !d.mayFetch k || d.pwr.mode == .sleep || d.pwr.mode == .deep || d.pwr.mode == .halt || d.pwr.entry != 0 then (c, d)
    else
      let op := if Cmd.isAdmin hc.op = decide (sq = 0) then hc.op else if sq = 0 then .otherAdmin else .otherIo
      let hc := { hc with op := op }
      let mi := k.kind == 3
      let stamp := if mi then 2 ^ 64 + d.host.mtag else c.stamp + 1
      let c := if mi then c else { c with stamp := stamp }
      let d := if mi then { d with host := { d.host with mtag := d.host.mtag + 1 } } else d
      let wseq := (d.ns hc.nsid).wseq
      let writes := Cmd.isWrite op && (d.bound hc.nsid).isSome
      let d := if writes then d.onNs hc.nsid (fun x => { x with wseq := x.wseq + 1 }) else d
      let d := d.onCtrl cid (fun k => { k with kaTick := c.tick })
      let x : Ctx := { stamp := stamp, cid := cid, sq := sq, cmd := hc, phase := .transfer,
                       wid := if op = .readAsOf then wseq else wseq * 65536, tai := d.taiNow c }
      let d := Dev.devSince gIDLE { d with host := { d.host with ctxs := d.host.ctxs ++ [x] } }
      match d.intakeStop k hc with
      | some st => (c, d.ends stamp st)
      | none => match d.holdWhy x with
        | some w => (c, d.onCtx stamp (fun y => { y with phase := .held, why := w }))
        | none => (c, d)

/-- COMMAND_UNHELD: a held command goes on once nothing holds it (R417, R419, R439); a deck wake has ended when no member
deck of the namespace is on its way to READY (R364, R406). -/
def commandUnheld (stamp : Nat) (d : Dev) : Dev :=
  match d.ctx stamp with
  | none => d
  | some x =>
    let waking := x.why == 5 && (match d.bound x.cmd.nsid with
      | some (_, s) => (d.localMembers s).any (fun m => !d.deckDown m.2 && d.dstate m.2 != dREADY && d.dstate m.2 != dWRITING)
      | none => false)
    if x.phase ≠ .held ∨ (d.holdWhy x).isSome ∨ waking ∨ d.host.act.isSome ∨ d.pwr.entry ≠ 0 ∨ d.pwr.mode = .sleep ∨ d.pwr.mode = .deep then d
    else match (if Cmd.isAdmin x.cmd.op || x.cmd.op == .flush then none else d.opStop x.cmd.op x.cmd.nsid) with
      | some st => d.ends stamp st
      | none => d.onCtx stamp (fun y => { y with phase := .transfer, why := 0 })

/-! ### Stored extents (R638, R468) -/

/-- Data units of an extent: 4,096 bytes, a remainder under 16 bytes joined to the unit before it (R638). -/
def xtsUnits : Nat → List Byte → List (List Byte)
  | 0, _ => []
  | f + 1, l => if l = [] then [] else if l.length < 4112 then [l] else l.take 4096 :: xtsUnits f (l.drop 4096)

/-- An extent encrypted or decrypted under a data key. -/
def xtsExt (f : List Byte → Nat → List Byte → List Byte) (key l : List Byte) : List Byte :=
  let us := xtsUnits l.length l
  ((List.range us.length).zip us).flatMap (fun u => slice (f key u.1 u.2) 0 u.2.length)

/-- The coding of a namespace's writes (R468). -/
def Dev.coding (d : Dev) (b : BindRec) : Coding :=
  let w := d.get (Reg.CMP_RAS_GEOM_WIDTH.sel b.nsid)
  if b.zoned ∨ b.comp = 0 then { kind := 0 }
  else if b.raster ∧ w ≠ 0 then
    { kind := 2, c := d.get (Reg.CMP_RAS_GEOM_C.sel b.nsid), b := 8 * (1 + d.get (Reg.CMP_RAS_GEOM_B16.sel b.nsid)), width := w }
  else { kind := 1 }

/-- Logical blocks of some data. -/
def blocksOf (lbs : Nat) : Nat → List Byte → List (List Byte)
  | 0, _ => []
  | k + 1, l => l.take lbs :: blocksOf lbs k (l.drop lbs)

/-! ### Staging a write (R105, R109, R420, R430) -/

/-- Room left in the open payload of a namespace: the last block opened, while it waits on its deck. -/
def Dev.openRoom (d : Dev) (b : BindRec) (s : StripeRec) (zone : Option Nat) (wp : Nat) : Nat :=
  match zone with
  | some _ =>
    let per := payloadBytes / b.lbs
    if wp % per = 0 then 0 else (per - wp % per) * b.lbs
  | none =>
    let u := (d.ns b.nsid).blockNo
    if u = 0 then 0
    else match s.members[s.memberOf (u - 1)]? with
      | none => 0
      | some h => match (if hDev h = d.devNum then deckOfIdx (hIndex h) else none) with
        | none => 0
        | some n => match (d.deck n).queue.getLast? with
          | some q => if q.num = u - 1 ∧ q.zone = none ∧ q.streams ≠ [] then payloadBytes - q.used else 0
          | none => 0

/-- Where a block goes: a deck of this device, or 16 + the member on another one. DEDUCED, log 57. -/
def Dev.blockPlace (d : Dev) (s : StripeRec) (u : Nat) : Nat :=
  let m := s.memberOf u
  match s.members[m]? with
  | some h => if hDev h = d.devNum then (deckOfIdx (hIndex h)).getD (16 + m) else 16 + m
  | none => 16 + m

/-- Pieces with their places: (place, block number, piece); the number of the next block to open. DEDUCED, log 58. -/
def Dev.placePieces (d : Dev) (s : StripeRec) : Nat → List Piece → List (Nat × Nat × Piece) × Nat
  | u, [] => ([], u)
  | u, p :: t =>
    let mine := if p.fresh then u else u - 1
    let next := if p.fresh then u + 1 else u
    let r := d.placePieces s next t
    ((d.blockPlace s mine, mine, p) :: r.1, r.2)

/-- A stream joins the last block of a deck's queue, or opens a new one. -/
def queueStm (n num : Nat) (zone : Option Nat) (fresh : Bool) (x : Stm) (d : Dev) : Dev :=
  if 16 ≤ n then d
  else d.onDeck n (fun k => match k.queue.getLast? with
    | some q => if fresh || q.num != num || q.zone != zone then
        { k with queue := k.queue ++ [{ streams := [x], num := num, zone := zone }] }
      else { k with queue := k.queue.dropLast ++ [{ q with streams := q.streams ++ [x] }] }
    | none => { k with queue := [{ streams := [x], num := num, zone := zone }] })

/-- What staging a write needs to know: where it goes and what it holds. -/
structure WriteJob where
  b : BindRec
  s : StripeRec
  slba : Nat
  nlb : Nat
  wid : Nat
  stamp : Nat
  fua : Bool
  zone : Option Nat
  time : Option Nat := none
  pieces : List Piece

/-- The extents of a write: encrypted where the namespace asks for it, with their mapping records (R105). -/
def Dev.extents (d : Dev) (j : WriteJob) (start : Nat) : List (Nat × Nat × Bool × Stm) × Nat :=
  let key := if j.b.enc then d.dataKey (d.kidOf j.b.nsid) else none
  let pl := d.placePieces j.s start j.pieces
  (((List.range pl.1.length).zip pl.1).map (fun (e : Nat × Nat × Nat × Piece) =>
    let p := e.2.2.2
    let bytes := match key with
      | some k => if p.asIs then p.bytes else xtsExt Config.xtsEnc k p.bytes
      | none => p.bytes
    (e.2.1, e.2.2.1, p.fresh, {
      mrec := { store := p.store, enc := j.b.enc, lbs64 := j.b.lbs64, zoned := j.b.zoned, nsid := j.b.nsid,
                slba := j.slba + p.first, nlb := p.blocks, part := e.1, pba := 0, offset := 0, length := bytes.length, wid := j.wid }
      bytes := bytes : Stm })), pl.2)

/-- A write is staged and its mapping reserved, or refused with nothing stored (R109, R420, R430). Without its data key an encrypted
namespace stages nothing (R12, R639). -/
def Dev.stageWrite (d : Dev) (c : Clock) (j : WriteJob) : Sts ⊕ Dev :=
  let ns := d.ns j.b.nsid
  let start := match j.zone with
    | some k => if (ns.zone k).wp % (payloadBytes / j.b.lbs) = 0 then (ns.zone k).wp / (payloadBytes / j.b.lbs)
        else (ns.zone k).wp / (payloadBytes / j.b.lbs) + 1
    | none => ns.blockNo
  let r := d.extents j start
  let size := (r.1.map (fun e => e.2.2.2.bytes.length)).sum
  let decks := (r.1.map (fun e => e.1)).dedup.filter (fun n => decide (n < 16))
  let noRoom := decks.any (fun n => match (d.deck n).disc with
    | some x => x.freeUnits == 0 || decide (x.blocksLeft < (d.deck n).queue.length +
        (r.1.filter (fun e => e.1 == n && e.2.2.1)).length)
    | none => true)
  if decks.any d.deckDown then .inl .notReady
  else if j.b.enc && (d.dataKey (d.kidOf j.b.nsid)).isNone then .inl .notReady
  else if d.quota j.b.nsid ≠ 0 ∧ d.quota j.b.nsid * 2 ^ 30 < ns.used + size then .inl .quotaExceeded
  else if noRoom then .inl .capacityExceeded
  else
    let d := r.1.foldl (fun d e => queueStm e.1 e.2.1 j.zone e.2.2.1 e.2.2.2 d) d
    let d := d.onNs j.b.nsid (fun x => { x with used := x.used + size, blockNo := if j.zone.isSome then x.blockNo else r.2 })
    let d := match j.zone with
      | some k => d.onZone j.b.nsid k (fun z =>
          { state := if zoneCap j.b j.s k ≤ z.wp + j.nlb then 14 else if z.state = 3 then 3 else 2, wp := z.wp + j.nlb })
      | none => d
    let w : Wr := { wid := j.wid, nsid := j.b.nsid, slba := j.slba, nlb := j.nlb, stamp := j.stamp, fua := j.fua,
                    exts := r.1.map (fun e => (e.1, e.2.2.2)), time := j.time, done := true }
    let d := { d with host := { d.host with writes := d.host.writes ++ [w] } }
    .inr (decks.foldl (fun d n => deckWake c n d) d)

/-! ### Commit (R421, R422, R424) -/

/-- A committed write (R421). -/
def Wr.isCommitted (w : Wr) : Bool := w.isDescribed && w.places.all (fun n => w.committedOn.contains n)

/-- Whether a pending flush covers a namespace. -/
def Dev.flushCovers (d : Dev) (x : Ctx) (nsid : Nat) : Bool :=
  x.cmd.op == .flush && (x.cmd.nsid == nsid || (x.cmd.nsid == 0xFFFFFFFF && (match d.ctrl x.cid with
    | some k => d.sees k nsid
    | none => true)))

/-- A flush is complete when no earlier write it covers is under way (R424). -/
def Dev.flushDone (d : Dev) (x : Ctx) : Bool :=
  !d.host.writes.any (fun w => decide (w.stamp < x.stamp) && d.flushCovers x w.nsid) &&
    !d.host.ctxs.any (fun y => decide (y.stamp < x.stamp) && !y.posted && Cmd.isWrite y.cmd.op && d.flushCovers x y.cmd.nsid)

/-- Flushes that have nothing left to wait for complete. -/
def Dev.settle (d : Dev) : Dev :=
  ((d.host.ctxs.filter (fun x => x.cmd.op == .flush && x.phase == .media)).map (fun x => x.stamp)).foldl (fun d st =>
    match d.ctx st with
    | some x => if d.flushDone x then d.ends st .success else d
    | none => d) d

/-- A Migrate whose writes are all committed completes (R442). -/
def Dev.migDone (d : Dev) (stamp : Nat) : Dev :=
  match d.host.migs.find? (fun m => m.stamp == stamp) with
  | none => d
  | some m =>
    if d.host.writes.any (fun w => w.stamp == stamp) then d
    else
      let d := { d with host := { d.host with migs := d.host.migs.filter (fun x => x.stamp != stamp) } }
      d.complete stamp m.status m.blocks m.skipped []

/-- Writes that have become committed leave the table; what waited for them completes. -/
def Dev.commitSweep (d : Dev) : Dev :=
  let done := d.host.writes.filter Wr.isCommitted
  let gain := fun (m : Mig) => ((done.filter (fun w => w.stamp == m.stamp)).map (fun w => w.nlb)).sum
  let migs := d.host.migs.map (fun m => ({ m with blocks := m.blocks + gain m } : Mig))
  let d := { d with host := { d.host with
    writes := d.host.writes.filter (fun w => !w.isCommitted), migs := migs } }
  (done.foldl (fun d w => if d.host.migs.any (fun m => m.stamp == w.stamp) then d.migDone w.stamp
    else if (d.ctx w.stamp).any (fun x => x.cmd.op == .migrate) then d else d.ends w.stamp .success) d).settle

/-- Writes that still depend on a deck. -/
def Dev.dependsOn (d : Dev) (n : Nat) : List Wr := d.host.writes.filter (fun w => w.places.contains n && !w.committedOn.contains n)

/-- Whether data staged for the disc in a deck is still to be written and committed (R437, step 3). -/
def Dev.openOn (d : Dev) (n : Nat) : Bool :=
  !(d.dependsOn n).isEmpty || d.unitWaits n || (d.deck n).unit.isSome || (d.deck n).pass.isSome

/-- Whether a deck is to write a ledger unit: an Unmount has come to step 4, and the disc was written since its last one (R110, R437). -/
def Dev.ledgerDue (d : Dev) (n : Nat) : Bool :=
  (d.deck n).disc.any (fun x => x.dirty) &&
    d.host.jobs.any (fun j => j.deck == n && j.kind == 1 && !j.noLedger && (j.force || !d.openOn n))

/-- Whether a deck is to write an index unit (R422): COMMIT_MS has passed, or a flush, a Force Unit Access write, a Migrate,
an Unmount or entry to a low state needs it, or 126 writes of one namespace wait. -/
def Dev.unitNeeded (d : Dev) (n : Nat) : Bool :=
  let k := d.deck n
  d.unitWaits n && (k.unitDue || d.pwr.entry == 3 || d.pwr.entry == 7 || !d.host.migs.isEmpty ||
    d.host.jobs.any (fun j => j.deck == n && j.kind == 1) ||
    (match k.mounted with
     | some nsid => d.host.ctxs.any (fun x => d.flushCovers x nsid) || d.host.writes.any (fun w => w.fua && w.nsid == nsid) ||
         decide (126 ≤ (d.owes n).length)
     | none => false))

/-- COMMIT_TIMER: COMMIT_MS after the oldest record of a deck began to wait (R422); paused while SLEEP is in force (R561). -/
def commitTimer (c : Clock) (n : Nat) (d : Dev) : Dev :=
  if d.pwr.mode ≠ .sleep ∧ d.unitWaits n ∧
      (d.deck n).placedAt.any (fun t => decide (t + d.get Reg.HQ_CMT_CFG_COMMIT_MS * tickMs ≤ c.tick)) then d.onDeck n (fun k => { k with unitDue := true }) else d

/-- Commit records for some writes: one namespace, one commit time, at most 126 writes each (R106). DEDUCED, log 60. -/
def commitRecs (now : Nat) : Nat → List Wr → List CommitRec
  | 0, _ => []
  | _ + 1, [] => []
  | f + 1, w :: t =>
    let same := fun (v : Wr) => v.nsid == w.nsid && v.time.getD now == w.time.getD now
    let mine := (w :: t.filter same).take 126
    let rest := (t.filter same).drop 125 ++ t.filter (fun v => !same v)
    { nsid := w.nsid, time := w.time.getD now, writes := mine.map (fun v => (v.wid, v.exts.length)) } :: commitRecs now f rest

/-- Records that fit into the space a unit has, in order. -/
def fitRecs {α : Type} (size : α → Nat) : Nat → List α → List α
  | _, [] => []
  | room, a :: t => if size a ≤ room then a :: fitRecs size (room - size a) t else []

/-- Bytes of the KEY record (R637). -/
def keyRecBytes (e : Nat × List Byte) : List Byte := le 1 3 ++ le 1 11 ++ le 2 0 ++ le 4 e.1 ++ le 8 0 ++ slice e.2 0 72

/-- What the records of an index unit say: mapping, commit and KEY records. -/
structure UnitRecs where
  maps : List MapRec := []
  commits : List CommitRec := []
  keys : List (Nat × List Byte) := []

/-- The records that the next index unit of a deck takes, as far as there is room: KEY records first, then commit records of writes
described before, then mapping records of placed streams (R422, R637). -/
def Dev.unitRecs (d : Dev) (c : Clock) (n : Nat) : UnitRecs :=
  let space := 0xBFF8 - 64
  let keys := fitRecs (fun _ => 88) space (d.deck n).keysDue
  let space := space - 88 * keys.length
  let size := fun (r : CommitRec) => 24 + 16 * r.writes.length
  let commits := fitRecs size space (commitRecs (d.taiNow c) (d.owes n).length (d.owes n))
  let space := space - (commits.map size).sum
  { maps := fitRecs (fun (_ : MapRec) => 40) space (d.deck n).placedHere, commits := commits, keys := keys }

/-- Where a unit goes: its band swath, slot and pass. -/
structure UnitPlace where
  swath : Nat
  slot : Nat
  pass : Nat

/-- The next index unit of a disc (R104). -/
def Dev.indexUnit (d : Dev) (c : Clock) (n : Nat) (x : Disc) (w : UnitPlace) : UnitNow :=
  let r := d.unitRecs c n
  let recs := r.keys.flatMap keyRecBytes ++ r.commits.flatMap CommitRec.bytes ++ r.maps.flatMap MapRec.bytes
  { magic := magicIndex, swath := w.swath, slot := w.slot, pass := w.pass, seq := x.unitSeq + 1, maps := r.maps, commits := r.commits,
    keys := r.keys, payload := unitPayload magicIndex (r.keys.length + r.commits.length + r.maps.length) (x.unitSeq + 1) d.devNum
      (d.taiNow c) x.setLabel x.discId recs }

/-- The next ledger unit of a disc: at most 192 entries made since the last one, in order, and the latest checkpoint (R104, R110).
DEDUCED, log 89. -/
def Dev.ledgerUnit (d : Dev) (c : Clock) (x : Disc) (w : UnitPlace) : UnitNow :=
  let es := (d.led.entries.filter (fun e => decide (x.ledgerNext ≤ e.seq))).take 192
  let recs := es.map (fun e => ledgerRec 0x10 e.bytes) ++ (d.led.cps.getLast?.map (fun p => ledgerRec 0x11 p.2)).toList
  { magic := magicLedger, swath := w.swath, slot := w.slot, pass := w.pass, seq := x.ledgerSeq + 1, maps := [], commits := [],
    payload := unitPayload magicLedger recs.length (x.ledgerSeq + 1) d.devNum (d.taiNow c) x.setLabel x.discId recs.flatten
    recs := recs, upto := (es.getLast?.map (fun e => e.seq + 1)).getD x.ledgerNext }

/-- Whether the commit records of a unit name a write. -/
def UnitNow.tells (u : UnitNow) (w : Wr) : Bool := u.commits.any (fun r => r.nsid == w.nsid && r.writes.any (fun e => e.1 == w.wid))

/-- INDEX_UNIT_WRITE: a unit in an unused place of the index band, or of the ledger band (R83, R103, R104, R110, R422). -/
def indexUnitWrite (c : Clock) (n swath slot pass : Nat) (d : Dev) : Dev :=
  match (d.deck n).disc, zoneOf swath with
  | none, _ | _, none => d
  | some x, some z =>
    let layer := d.get (Reg.SEQ_STS_LAYER n)
    let index := bandOf layer swath == .index
    let due := (index && d.unitNeeded n && x.freeUnits != 0) || (bandOf layer swath == .ledger && d.ledgerDue n)
    if mayWrite d n = false ∨ opcDue d n ∨ due = false ∨ z.s ≤ slot ∨ 3 < pass ∨ x.units.contains (layer, swath, pass, slot) then d
    else if inPlace d n swath pass z = false then toPlace c n swath pass z d
    else if d.openMask n = 0 then d
    else
      let u := if index then d.indexUnit c n x ⟨swath, slot, pass⟩ else d.ledgerUnit c x ⟨swath, slot, pass⟩
      let now := d.taiNow c
      let d := { d with host := { d.host with writes := mapIf u.tells (fun w => { w with time := some (w.time.getD now) }) d.host.writes } }
      let y : Disc := { x with
        units := (layer, swath, pass, slot) :: x.units, freeUnits := if index then x.freeUnits - 1 else x.freeUnits, dirty := true }
      let d := d.onDeck n (fun k => { k with
        unit := some u, unitDue := k.unitDue && !index, placedAt := if index then some c.tick else k.placedAt, pass := some { pass := pass, startSlot := slot }, disc := some y })
      ((d.deckState n dWRITING).onSeq n (fun s => { s with writing := true })).laser n 2

/-- A deck that has nothing more to write for now is READY at the read speed again (R355). -/
def writingEnds (c : Clock) (n : Nat) (d : Dev) : Dev :=
  let more := decide (0 < (d.deck n).nextPass) || !(d.deck n).waiting.isEmpty
  if d.dstate n ≠ dWRITING ∨ (more && !(d.deck n).seq.pendPark) then d else parkPending c n (writeIdle c n d)

/-- Whether a unit is verified: no more of its sixteen sectors failed than its parity can restore, nor more than WEAK_LIM.
DESIGN CHOICE, log 102. -/
def unitHolds (d : Dev) (n slot : Nat) (p : Pass) : Bool :=
  let good := fun (e : Nat) => p.outs.any (fun o => o.emitter == e && o.slot == slot && o.out == .verified)
  decide (((List.range 16).filter (fun e => !good e)).length ≤ min 4 (d.get (Reg.WRP_VFY_CFG_WEAK_LIM n)))

/-- A verified index unit: its writes are described or committed, and what waited for that completes (R421, R424). -/
def unitCommits (c : Clock) (n : Nat) (u : UnitNow) (d : Dev) : Dev :=
  let d := d.onDeck n (fun k => { k with
    placed := k.placed.filter (fun m => !u.maps.contains m), keysDue := k.keysDue.filter (fun e => !u.keys.contains e),
    placedAt := if k.placed.all (fun m => u.maps.contains m) then none else some c.tick,
    disc := k.disc.map (fun x => { x with
      maps := x.maps ++ u.maps, commits := x.commits ++ u.commits, keys := x.keys ++ u.keys, unitSeq := u.seq }) })
  let ws := d.host.writes.map (fun (w : Wr) =>
    let mine := u.maps.filter (fun m => m.wid == w.wid && m.nsid == w.nsid)
    ({ w with described := w.described ++ mine, committedOn := if u.tells w then w.committedOn ++ [n] else w.committedOn } : Wr))
  Dev.commitSweep { d with host := { d.host with writes := ws } }

/-- A verified ledger unit: its records are on the disc; entries that it left out go into another (R110). -/
def unitLedger (n : Nat) (u : UnitNow) (d : Dev) : Dev :=
  d.onDeck n (fun k => { k with disc := k.disc.map (fun x => { x with
    ledger := x.ledger ++ u.recs, ledgerSeq := u.seq, ledgerNext := u.upto, dirty := d.led.entries.any (fun e => decide (u.upto ≤ e.seq)) }) })

/-- INDEX_UNIT_VERIFIED: the verifying read of a unit is over (R214, R421, R424): a unit that holds takes effect, another is written again
elsewhere. -/
def indexUnitVerified (c : Clock) (n : Nat) (d : Dev) : Dev :=
  match (d.deck n).unit, (d.deck n).pass with
  | none, _ | _, none => d
  | some u, some p =>
    let missing := ((List.range 16).filter (fun e => !p.outs.any (fun o => o.emitter == e && o.slot == u.slot))).map
      (fun e => (⟨e, u.slot, .notWritten, c.tick, c.angleStamp n⟩ : SlotOut))
    let holds := unitHolds d n u.slot p
    let d := missing.foldl (fun d o => countOut n o.out d) d
    let d := d.onDeck n (fun k => { k with
      unit := none, pass := none, report := p.outs ++ missing, unitDue := k.unitDue || (!holds && u.magic == magicIndex) })
    let d := if holds = false then d else if u.magic = magicIndex then unitCommits c n u d else unitLedger n u d
    writingEnds c n d

/-- Writes whose first pass has begun are in MEDIA (R417). -/
def passMedia (n : Nat) (d : Dev) : Dev :=
  let now := (d.deck n).bound.flatMap (fun b => b.2.streams.map (fun s => (s.mrec.nsid, s.mrec.wid)))
  let stamps := (d.host.writes.filter (fun w => now.contains (w.nsid, w.wid))).map (fun w => w.stamp)
  { d with host := { d.host with ctxs := mapIf (fun x => x.phase == .staged && stamps.contains x.stamp) (fun x => { x with phase := .media }) d.host.ctxs } }

/-- The device that holds the part of a write at a place: this one, or that of the stripe's member (R35). -/
def Dev.placeDev (d : Dev) (nsid place : Nat) : Nat :=
  if place < 16 then d.devNum
  else match d.bound nsid with
    | some (_, s) => (s.members[place - 16]?).elim d.devNum hDev
    | none => d.devNum

/-- SHEAF_FORWARD of a write's result: the parts on the device that answers are committed there; the write is committed, and a
flush ends, when every member has answered (R30). -/
def forwardCommitted (dev stamp : Nat) (d : Dev) : Dev :=
  let ws := d.host.writes.map (fun (w : Wr) =>
    let away := w.exts.filter (fun e => decide (16 ≤ e.1) && d.placeDev w.nsid e.1 == dev && !w.committedOn.contains e.1)
    if w.stamp = stamp then
      ({ w with described := w.described ++ away.map (fun e => e.2.mrec), committedOn := w.committedOn ++ (away.map (fun e => e.1)).dedup } : Wr)
    else w)
  Dev.commitSweep { d with host := { d.host with writes := ws } }

/-! ### Writes held back (R218) -/

/-- Force Unit Access writes, flushes and Unmounts that depend on data staged for a deck end with WRITE_INHIBITED. -/
def Dev.inhibit (d : Dev) (n : Nat) : Dev :=
  let ws := d.dependsOn n
  let stamps := (ws.filter (fun w => w.fua)).map (fun w => w.stamp) ++
    ((d.host.ctxs.filter (fun x => x.cmd.op == .flush && x.phase == .media &&
      ws.any (fun w => decide (w.stamp < x.stamp) && d.flushCovers x w.nsid))).map (fun x => x.stamp)) ++
    ((d.host.jobs.filter (fun j => j.deck == n && j.kind == 1 && !j.force)).map (fun j => j.stamp))
  let d := stamps.foldl (fun d st => d.ends st .writeInhibited) d
  { d with host := { d.host with
    writes := d.host.writes.map (fun w => if stamps.contains w.stamp then { w with fua := false } else w),
    jobs := mapIf (fun j => j.deck == n && j.kind == 1) (fun j => { j with noLedger := true })
      (d.host.jobs.filter (fun j => !stamps.contains j.stamp)) } }

/-- Decks whose gate is latched inhibit at once (R218). -/
def Dev.inhibitLatched (d : Dev) : Dev :=
  d.eachDeck (fun n d => if bit (d.deck n).gate.hold gLATCHED then d.inhibit n else d)

/-- WRITE_INHIBIT_TIMEOUT: the gate has stayed closed for INH_TMO (R218). -/
def writeInhibitTimeout (c : Clock) (n : Nat) (d : Dev) : Dev :=
  if d.openMask n ≠ 0 ∨ d.span c n aINH < d.get (Reg.WRP_GATE_VM_INH_TMO n) * 100 * tickMs then d else d.inhibit n

/-! ### Write, Zone Append (R419, R420, R423, R430) -/

/-- Blocks MDTS admits: 4 MiB (R403, R423). -/
def maxBlocks (b : BindRec) : Nat := 4194304 / b.lbs

/-- What a write to a zone meets (R405): the zone's number and the block it lands on, or a status. -/
def Dev.zoneCheck (d : Dev) (b : BindRec) (s : StripeRec) (append : Bool) (slba nlb : Nat) : Sts ⊕ (Nat × Nat) :=
  let zs := zoneSize b s
  let k := slba / max 1 zs
  let ns := d.ns b.nsid
  let z := ns.zone k
  let at' := if append then k * zs + z.wp else slba
  if append && slba != k * zs then .inl .invalidField
  else if z.state = 14 then .inl .zoneFull
  else if !append && slba != k * zs + z.wp then .inl .zoneWrite
  else if zoneCap b s k < z.wp + nlb then .inl .zoneBoundary
  else if z.state = 1 ∧ s.members.length ≤ ns.active then .inl .tooManyActive
  else .inr (k, at')

/-- The transfer of a write's data: checks that need no staging; the data waits in the context. -/
def hostWrite (op : Cmd) (stamp : Nat) (data : List Byte) (d : Dev) : Dev :=
  d.run stamp op (fun x d =>
    match d.opStop op x.cmd.nsid, d.bound x.cmd.nsid with
    | some st, _ => (d.ends stamp st).settle
    | none, none => (d.ends stamp .invalidNamespace).settle
    | none, some (b, s) =>
      let bad : Option Sts :=
        if x.cmd.nlb = 0 ∨ maxBlocks b < x.cmd.nlb then some .invalidField
        else if d.nsBlocks b s < x.cmd.slba + x.cmd.nlb then some .lbaRange
        else if op = .zoneAppend ∧ b.zoned = false then some .invalidOpcode
        else if data.length ≠ x.cmd.nlb * b.lbs then some .dataTransfer
        else if b.zoned then (match d.zoneCheck b s (op == .zoneAppend) x.cmd.slba x.cmd.nlb with
          | .inl st => some st
          | .inr _ => none)
        else none
      match bad with
      | some st => (d.ends stamp st).settle
      | none =>
        let d := d.onCtx stamp (fun y => { y with data := data })
        d.moveCount x.cid data.length)

/-- WRITE_STAGED: compressed, encrypted and staged, or refused; the lock is released and the command completes unless it
carries Force Unit Access (R13, R417, R420, R430). -/
def writeStaged (c : Clock) (stamp : Nat) (d : Dev) : Dev :=
  match d.ctx stamp with
  | none => d
  | some x =>
    if (x.cmd.op ≠ .write ∧ x.cmd.op ≠ .zoneAppend) ∨ x.phase ≠ .transfer ∨ x.data = [] then d
    else match d.opStop x.cmd.op x.cmd.nsid, d.bound x.cmd.nsid with
      | some st, _ => (d.ends stamp st).settle
      | none, none => (d.ends stamp .invalidNamespace).settle
      | none, some (b, s) =>
        let z := if b.zoned then d.zoneCheck b s (x.cmd.op == .zoneAppend) x.cmd.slba x.cmd.nlb else .inr (0, x.cmd.slba)
        match z with
        | .inl st => (d.ends stamp st).settle
        | .inr (k, lba) =>
          let zone := if b.zoned then some k else none
          let room := d.openRoom b s zone ((d.ns b.nsid).zone k).wp
          let bs := blocksOf b.lbs x.cmd.nlb x.data
          let pieces := packWrite (d.coding b) (d.get Reg.CMP_CFG_MIN_SAVE) b.lbs lba bs.length room 0 bs
          match d.stageWrite c { b := b, s := s, slba := lba, nlb := x.cmd.nlb, wid := x.wid, stamp := stamp, fua := x.cmd.fua,
                                 zone := zone, pieces := pieces } with
          | .inl st => (d.ends stamp st).settle
          | .inr d =>
            let d := d.engCount x.cid (if (d.coding b).kind = 0 then 0 else x.data.length)
            let d := d.onCtx stamp (fun y => { y with phase := .staged, staged := true, data := [], dw0 := if b.zoned then lba % 2 ^ 32 else 0, dw1 := if b.zoned then lba / 2 ^ 32 else 0 })
            if x.cmd.fua then d.inhibitLatched
            else
              let dw := if x.cmd.op = .zoneAppend then (lba % 2 ^ 32, lba / 2 ^ 32) else (0, 0)
              let d := if x.mute then d else { d with host := { d.host with posted := d.host.posted ++ [
                { stamp := stamp, cid := x.cid, status := .success, dw0 := dw.1, dw1 := dw.2 }] } }
              d.onCtx stamp (fun y => { y with posted := true })

/-! ### Read, Compare, Verify (R108, R406, R471) -/

/-- A version of a logical block: its record, its stored bytes, the deck whose disc holds it (none: staged), whether the disc
is on another device, the erasure mask of its swath block (R175), and whether that block is still to be read. -/
structure Version where
  mrec : MapRec
  bytes : List Byte
  deck : Option Nat
  away : Bool := false
  lost : Nat := 0
  unread : Bool := false

/-- What a deck has of a swath block: the erasure mask and the bytes it was delivered with last, or as it was written here or found by
the Mount. DESIGN CHOICE, log 102. -/
def Deck.content (k : Deck) (pba : Nat) : Option (Nat × List Byte) :=
  match k.delivered.reverse.find? (fun x => pbaOf x.layer x.swath x.slot == pba) with
  | some x => some (x.mask, x.data)
  | none => (k.disc.bind (fun y => y.blocks.find? (fun e => e.1 == pba))).map (fun e => (0, e.2))

/-- The version that a mapping record on the disc of deck n names. -/
def Deck.version (k : Deck) (n : Nat) (m : MapRec) : Version :=
  match k.content m.pba with
  | some x => { mrec := m, bytes := slice x.2 m.offset m.length, deck := some n, lost := x.1 }
  | none => { mrec := m, bytes := [], deck := some n, unread := true }

/-- A logical block of a version lies in an erased sector: of a compressed stream all of it does (R175). -/
def Version.erased (v : Version) (lbs lba : Nat) : Bool :=
  let whole := v.mrec.store == 1 || v.mrec.store == 2
  let off := if whole then v.mrec.offset else v.mrec.offset + (lba - v.mrec.slba) * lbs
  let len := if whole then v.mrec.length else lbs
  (List.range 56).any (fun t => bit v.lost t && decide (4096 * t < off + len) && decide (off < 4096 * (t + 1)))

/-- Staged extents of a namespace over a logical block. -/
def Dev.stagedOver (d : Dev) (nsid lba : Nat) : List Version :=
  (d.host.writes.filter (fun w => w.nsid == nsid)).flatMap (fun w => (w.exts.filter (fun e =>
    decide (e.2.mrec.slba ≤ lba) && decide (lba < e.2.mrec.slba + e.2.mrec.nlb))).map (fun e => { mrec := e.2.mrec, bytes := e.2.bytes, deck := none : Version }))

/-- The committed version of a block on the member discs, as of a time and below a write sequence where given (R108, R439). -/
def Dev.committedOver (d : Dev) (s : StripeRec) (nsid lba : Nat) (asOf below : Option Nat) : Option Version :=
  let maps := (d.nsMaps s).filter (fun m => match below with
    | some q => decide (m.wid / 65536 < q)
    | none => true)
  match contentRec maps (d.nsCommits s) nsid lba asOf with
  | none => none
  | some m =>
    let n? := (d.localMembers s).find? (fun e => match (d.deck e.2).disc with
      | some x => x.maps.contains m
      | none => false)
    match n? with
    | none => some { mrec := m, bytes := [], deck := none, away := true }
    | some e => some ((d.deck e.2).version e.2 m)

/-- The version a command reads: the newest, staged ones included; as of a time, committed ones only. -/
def Dev.versionOf (d : Dev) (s : StripeRec) (nsid lba : Nat) (asOf below : Option Nat) : Option Version :=
  let old := d.committedOver s nsid lba asOf below
  if asOf.isSome then old
  else (d.stagedOver nsid lba).foldl (fun best v => match best with
    | some b => if b.mrec.wid < v.mrec.wid then some v else some b
    | none => some v) old

/-- The original bytes of a version's whole extent, or CRC or FORMAT (R471). -/
def Dev.openVersion (d : Dev) (lbs : Nat) (v : Version) : List Byte ⊕ Nat :=
  let l := if v.mrec.enc then (match d.dataKey (d.kidOf v.mrec.nsid) with
    | some k => xtsExt Config.xtsDec k v.bytes
    | none => v.bytes) else v.bytes
  if v.mrec.store = 1 ∨ v.mrec.store = 2 then
    match decodeStream v.mrec.store (v.mrec.nlb * lbs) l with
    | .inl o => if o.length = v.mrec.nlb * lbs then .inl o else .inr rFORMAT
    | .inr e => .inr e
  else .inl (slice l 0 (v.mrec.nlb * lbs))

/-- How a block reads: its bytes, unreadable, or a stream error with its PBA, offset and kind. -/
inductive BlockRead where
  | data (l : List Byte)
  | bad
  | check (pba offset kind : Nat)
  deriving DecidableEq, Repr

/-- One logical block; `sent` holds what another member has sent of it. A member reads only what its own discs hold. -/
def Dev.readBlock (d : Dev) (b : BindRec) (s : StripeRec) (asOf below : Option Nat) (sent : Option (List Byte)) (lba : Nat) : BlockRead :=
  match d.versionOf s b.nsid lba asOf below with
  | none => .data (List.replicate b.lbs 0)
  | some v =>
    if v.away then .data (sent.getD [])
    else if v.unread || v.erased b.lbs lba then .bad
    else match d.openVersion b.lbs v with
      | .inl o => .data (slice o ((lba - v.mrec.slba) * b.lbs) b.lbs)
      | .inr e => .check v.mrec.pba v.mrec.offset (if e = rCRC then 1 else 2)

/-- Decks a read needs. -/
def Dev.readDecks (d : Dev) (b : BindRec) (s : StripeRec) (asOf below : Option Nat) (slba nlb : Nat) : List Nat :=
  ((List.range nlb).filterMap (fun i => (d.versionOf s b.nsid (slba + i) asOf below).bind (fun v => v.deck))).dedup

/-- Blocks of a command whose newest version lies on another device and has not been sent here (R29). -/
def Dev.blocksAway (d : Dev) (s : StripeRec) (nsid : Nat) (asOf below : Option Nat) (parts : List (Nat × List Byte)) (slba nlb : Nat) : Bool :=
  (List.range nlb).any (fun i => (d.versionOf s nsid (slba + i) asOf below).any (fun v => v.away) && !parts.any (fun p => p.1 == i))

/-- Blocks of a command whose version lies in a swath block that is still to be read. -/
def Dev.blocksUnread (d : Dev) (s : StripeRec) (nsid : Nat) (asOf below : Option Nat) (slba nlb : Nat) : Bool :=
  (List.range nlb).any (fun i => (d.versionOf s nsid (slba + i) asOf below).any (fun v => v.unread))

/-- Bytes of the compressed streams that a read decodes (R459, R471). -/
def Dev.codedBytes (d : Dev) (b : BindRec) (s : StripeRec) (asOf below : Option Nat) (slba nlb : Nat) : Nat :=
  let ms := (List.range nlb).filterMap (fun i => (d.versionOf s b.nsid (slba + i) asOf below).bind (fun v =>
    if !v.away && (v.mrec.store == 1 || v.mrec.store == 2) then some v.mrec else none))
  (ms.dedup.map (fun m => m.length)).sum

/-- Blocks read in order up to the first that fails: the bytes, the index of the block that failed and how. -/
def readUntil (f : Nat → BlockRead) : Nat → List Nat → List Byte × Option (Nat × BlockRead)
  | _, [] => ([], none)
  | i, lba :: t =>
    match f lba with
    | .data l =>
      let r := readUntil f (i + 1) t
      (l ++ r.1, r.2)
    | e => ([], some (i, e))

/-- A stream's check has failed: fault record and CMP.STS (R471). -/
def Dev.streamCheck (c : Clock) (nsid pba offset kind : Nat) (d : Dev) : Dev :=
  let d := d.fault c (d.nsSrc nsid) { cls := 2, code := 3, sev := 2, detail := le 4 pba ++ le 4 offset ++ [BitVec.ofNat 8 kind] }
  d.set (if kind = 1 then Reg.CMP_STS_CRC else Reg.CMP_STS_FORMAT) 1

/-- What a read command does with its blocks: waits for other members (R29), for a deck (R364) or for blocks to be read (R171), fails
with its decks (R406) or its blocks (R175), or goes on with the bytes. -/
def readCore (c : Clock) (op : Cmd) (stamp : Nat) (asOf below : Ctx → Option Nat) (go : Ctx → BindRec → List Byte → Dev → Dev)
    (d : Dev) : Dev :=
  d.run stamp op (fun x d =>
    match (if x.cid = seamCid then none else d.nsStop x.cmd.nsid), d.bound x.cmd.nsid with
    | some st, _ => d.ends stamp st
    | none, none => d.ends stamp .invalidNamespace
    | none, some (b, s) =>
      if x.cmd.nlb = 0 ∨ maxBlocks b < x.cmd.nlb then d.ends stamp .invalidField
      else if x.cid ≠ seamCid ∧ d.nsBlocks b s < x.cmd.slba + x.cmd.nlb then d.ends stamp .lbaRange
      else if x.cid ≠ seamCid ∧ d.blocksAway s b.nsid (asOf x) (below x) x.parts x.cmd.slba x.cmd.nlb then
        d.onCtx stamp (fun y => { y with phase := .media, why := 7 })
      else
        let decks := d.readDecks b s (asOf x) (below x) x.cmd.slba x.cmd.nlb
        if decks.any d.deckDown then d.ends stamp .notReady
        else
        let d := decks.foldl (fun d n => deckWake c n d) d
        if decks.any (fun n => d.dstate n != dREADY && d.dstate n != dWRITING) then
          d.onCtx stamp (fun y => { y with phase := .held, why := 5 })
        else if decks.any (fun n => bit (d.get Reg.PWR_GOV_STS_HELD) n) then d.onCtx stamp (fun y => { y with phase := .media, why := 6 })
        else if d.blocksUnread s b.nsid (asOf x) (below x) x.cmd.slba x.cmd.nlb then d.onCtx stamp (fun y => { y with phase := .media, why := 8 })
        else
          let d := (d.onCtx stamp (fun y => { y with why := 0 })).engCount x.cid (d.codedBytes b s (asOf x) (below x) x.cmd.slba x.cmd.nlb)
          let sent := fun (i : Nat) => (x.parts.find? (fun p => p.1 == i)).map (fun p => p.2)
          let r := readUntil (fun i => d.readBlock b s (asOf x) (below x) (sent i) (x.cmd.slba + i)) 0 (List.range x.cmd.nlb)
          match r.2 with
          | some (i, .bad) => d.complete stamp .sectorUnreadable i 0 []
          | some (_, .check p o k) => (d.streamCheck c b.nsid p o k).ends stamp .guardCheck
          | _ => go x b r.1 d)

/-- READ: the data is in the buffer, on its way to the host (R417). -/
def hostRead (c : Clock) (stamp : Nat) (d : Dev) : Dev :=
  readCore c .read stamp (fun _ => none) (fun _ => none) (fun _ _ l d =>
    d.onCtx stamp (fun y => { y with phase := .media, data := l, dw0 := 1 })) d

/-- A read whose data is in the buffer waits while one of a controller whose share comes before is there too (R431). -/
def Dev.outWaits (d : Dev) (x : Ctx) : Bool :=
  d.host.ctxs.any (fun y => y.cmd.op == .read && y.phase == .media && y.dw0 == 1 && d.bwFirst y.cid x.cid)

/-- READ_DATA_OUT: the last byte has left: the lock is released and the read completes (R420). -/
def readDataOut (stamp : Nat) (d : Dev) : Dev :=
  match d.ctx stamp with
  | none => d
  | some x =>
    if x.cmd.op ≠ .read ∨ x.phase ≠ .media ∨ x.dw0 ≠ 1 ∨ d.outWaits x then d
    else
      let d := d.moveCount x.cid x.data.length
      d.complete stamp .success 0 0 x.data

/-- COMPARE. -/
def hostCompare (c : Clock) (stamp : Nat) (data : List Byte) (d : Dev) : Dev :=
  readCore c .compare stamp (fun _ => none) (fun _ => none) (fun x b l d =>
    if data.length ≠ x.cmd.nlb * b.lbs then d.ends stamp .dataTransfer
    else d.ends stamp (if l = data then .success else .compareFailure)) d

/-- VERIFY. -/
def hostVerify (c : Clock) (stamp : Nat) (d : Dev) : Dev :=
  readCore c .verify stamp (fun _ => none) (fun _ => none) (fun _ _ _ d => d.ends stamp .success) d

/-- READ_AS_OF (R439): T in nanoseconds of TAI; on a zoned namespace Invalid Field. -/
def readAsOf (c : Clock) (stamp t : Nat) (d : Dev) : Dev :=
  match d.running stamp .readAsOf with
  | none => d
  | some x =>
    if (d.bound x.cmd.nsid).any (fun p => p.1.zoned) then d.ends stamp .invalidField
    else readCore c .readAsOf stamp (fun x => some (min t x.tai)) (fun x => some x.wid) (fun x b l d =>
      match d.bound x.cmd.nsid with
      | none => d.ends stamp .invalidNamespace
      | some (_, s) =>
        let top := ((List.range x.cmd.nlb).filterMap (fun i =>
          (d.versionOf s b.nsid (x.cmd.slba + i) (some (min t x.tai)) (some x.wid)).map (fun v => v.mrec.wid))).foldl max 0
        d.complete stamp .success (top % 2 ^ 32) 0 l) d

/-! ### Flush and zones (R405, R424) -/

/-- FLUSH: waits for the writes it covers; a latched gate inhibits it at once (R218). -/
def hostFlush (stamp : Nat) (d : Dev) : Dev :=
  d.run stamp .flush (fun _ d => ((d.onCtx stamp (fun y => { y with phase := .media })).settle).inhibitLatched)

/-- ZONE_MANAGEMENT_SEND: action 1 close, 2 finish, 3 open, 4 reset, 5 offline; on one zone or, with `all`, on every zone in
a state it applies to (R405). -/
def zoneSend (stamp action : Nat) (all : Bool) (d : Dev) : Dev :=
  d.run stamp .zoneSend (fun x d =>
    match d.bound x.cmd.nsid with
    | none => d.ends stamp .invalidNamespace
    | some (b, s) =>
      let zs := zoneSize b s
      let k := x.cmd.slba / max 1 zs
      let ns := d.ns x.cmd.nsid
      let set := fun (st : Nat) (d : Dev) => d.onZone x.cmd.nsid k (fun z => { z with state := st })
      let z := (ns.zone k).state
      let each := fun (p : Nat → Bool) (st : Nat) (d : Dev) => d.onNs x.cmd.nsid (fun y => { y with
        zones := y.zones.map (fun e => if p e.2.state then (e.1, { e.2 with state := st }) else e) })
      if !b.zoned then d.ends stamp .invalidOpcode
      else if !all && x.cmd.slba != k * zs then d.ends stamp .invalidField
      else if !all && decide (d.nsBlocks b s ≤ x.cmd.slba) then d.ends stamp .lbaRange
      else if action = 4 then d.ends stamp .zoneWriteOnce
      else if action = 5 then d.ends stamp .invalidZoneTransition
      else if action = 1 then
        if all then (each (fun st => st == 2 || st == 3) 4 d).ends stamp .success
        else if z = 2 ∨ z = 3 then (set 4 d).ends stamp .success
        else if z = 4 then d.ends stamp .success
        else d.ends stamp .invalidZoneTransition
      else if action = 2 then
        if all then (each (fun st => st == 2 || st == 3 || st == 4) 14 d).ends stamp .success
        else (set 14 d).ends stamp .success
      else if action = 3 then
        if all then (each (fun st => st == 4) 3 d).ends stamp .success
        else if z = 14 then d.ends stamp .invalidZoneTransition
        else if z = 1 ∧ s.members.length ≤ ns.active then d.ends stamp .tooManyActive
        else (set 3 d).ends stamp .success
      else d.ends stamp .invalidField)

/-- A zone descriptor, 64 bytes, as the Zoned Namespace Command Set lays it out: type, state, capacity, start, pointer.
PRESUMED, log 46. -/
def zoneDesc (b : BindRec) (s : StripeRec) (ns : Ns) (k : Nat) : List Byte :=
  let z := ns.zone k
  slice (le 1 2 ++ le 1 (16 * z.state) ++ le 6 0 ++ le 8 (zoneCap b s k) ++ le 8 (k * zoneSize b s) ++
    le 8 (k * zoneSize b s + z.wp)) 0 64

/-- ZONE_MANAGEMENT_RECEIVE: the zones from a start LBA on, as many as asked, in the states asked (0: every state). -/
def zoneReceive (stamp state count : Nat) (d : Dev) : Dev :=
  d.run stamp .zoneReceive (fun x d =>
    match d.bound x.cmd.nsid with
    | none => d.ends stamp .invalidNamespace
    | some (b, s) =>
      let zs := max 1 (zoneSize b s)
      if !b.zoned then d.ends stamp .invalidOpcode
      else if d.nsBlocks b s ≤ x.cmd.slba then d.ends stamp .lbaRange
      else
        let first := x.cmd.slba / zs
        let total := cdiv (d.nsBlocks b s) zs
        let ns := d.ns x.cmd.nsid
        let ks := (((List.range (total - first)).map (fun i => first + i)).filter (fun k => state == 0 || (ns.zone k).state == state)).take count
        d.complete stamp .success 0 0 (le 8 ks.length ++ List.replicate 56 0 ++ ks.flatMap (zoneDesc b s ns)))

end Sys2Proof.Machine
end

