-- ==== Sys2Proof/Machine/Memory.lean ====
section
/-! DEFINITION. Machine/Memory.lean: the buffer memory (spec file 15, R486 to R516): address map, training, refresh, parity
alerts, reads and writes against errors, fill, rinse, retirement, channel failure. -/

namespace Sys2Proof.Machine

/-! ### Bytes of the DRAM

The memory is a list of (address, byte) pairs over the fills done. An address that is not listed reads the pattern of the
newest fill over it; where nothing was ever written it has no value. -/

/-- Pages (4 KiB) of an address and of an ECC word (16 bytes). -/
def pageOf (a : Nat) : Nat := a / 4096
def pageOfWord (w : Nat) : Nat := w / 256

/-- Whether a fill covers a page. -/
def fillHas (f : Nat × Nat × Nat) (page : Nat) : Bool := decide (f.1 ≤ page) && decide (page < f.1 + f.2.1)

/-- What an unlisted address reads as (R508, R509). DESIGN CHOICE, log 66. -/
def Mem.base (m : Mem) (a : Nat) : Option Byte :=
  (m.fills.find? (fun f => fillHas f (pageOf a))).map (fun f => BitVec.ofNat 8 (bits f.2.2 (8 * (a % 4)) 8))

/-- One byte, if anything has been written there. -/
def Mem.read (m : Mem) (a : Nat) : Option Byte :=
  match m.cells.find? (fun e => e.1 == a) with
  | some e => some e.2
  | none => m.base a

/-- One byte written; a byte equal to what the address reads as unlisted is held by listing nothing. -/
def Mem.write (m : Mem) (a : Nat) (v : Byte) : Mem :=
  if m.base a = some v then { m with cells := FMap.del m.cells a } else { m with cells := FMap.ins m.cells a v }

/-- Bytes written from an address on. -/
def Mem.writes (m : Mem) (a : Nat) : List Byte → Mem
  | [] => m
  | v :: t => (m.write a v).writes (a + 1) t

/-- A fill of whole pages: it supersedes what they held and clears their poison (R509). -/
def Mem.fill (m : Mem) (page n pat : Nat) : Mem :=
  let f := (page, n, pat)
  { m with
    cells := m.cells.filter (fun e => !fillHas f (pageOf e.1)),
    fills := f :: m.fills,
    poison := m.poison.filter (fun w => !fillHas f (pageOfWord w)) }

/-- The canonical form: addresses strictly rise, and no entry equals what its address reads as unlisted. -/
def Mem.wf (m : Mem) : Bool := FMap.canon m.base (m.cells.map (fun e => (e.1, some e.2)))

/-- A byte as a requester gets it: where nothing was written the spec gives none (R508). DESIGN CHOICE, log 66. -/
def Mem.got (m : Mem) (a : Nat) : Byte := (m.read a).getD (Config.dramByte a)

/-- Bytes from an address on. -/
def Mem.bytes (m : Mem) (a n : Nat) : List Byte := (List.range n).map (fun i => m.got (a + i))

/-- An ECC word holds poison. -/
def Mem.poisonAdd (m : Mem) (w : Nat) : Mem := { m with poison := sortBy (fun a b => decide (a < b)) (m.poison.filter (· != w) ++ [w]) }
def Mem.poisonDel (m : Mem) (w : Nat) : Mem := { m with poison := m.poison.filter (· != w) }

/-- Change the memory. -/
def Dev.onMem (d : Dev) (f : Mem → Mem) : Dev := { d with mem := f d.mem }

/-! ### Capacity and address map (R488 to R491) -/

def mSTOPPED : Nat := 0
def mTRAINING : Nat := 1
def mRUN : Nat := 2
def mSELFREF : Nat := 3
def mFAILED : Nat := 4

/-- MEM.STS.STATE. -/
def Dev.mstate (d : Dev) : Nat := d.get Reg.MEM_STS_STATE

/-- Installed bytes, and 4 KiB pages. -/
def Dev.dramBytes (d : Dev) : Nat := 8 * d.get Reg.MEM_CFG_DPC * 2 ^ d.get Reg.MEM_CFG_DIMM_LOG2 * 2 ^ 30
def Dev.dramPages (d : Dev) : Nat := d.dramBytes / 4096

/-- First address of the controller memory buffer (R385). -/
def Dev.cmbBase (d : Dev) : Nat := d.dramBytes - 2 ^ 30

/-- Bits of a line address (R488). -/
def Dev.laBits (d : Dev) : Nat := Nat.log2 (max 1 d.dramBytes) - 7

/-- The mask of an output bit (R489). -/
def Dev.xmask (d : Dev) (i : Nat) : Nat := d.get (Reg.MEM_XMAP_MASK_LO i) + 2 ^ 32 * d.get (Reg.MEM_XMAP_HI_MASK_HI i)
def Dev.xbase (d : Dev) (i : Nat) : Nat := d.get (Reg.MEM_XMAP_HI_BASE i)
def Dev.xused (d : Dev) : List Nat := (List.range 10).filter (fun i => d.xmask i != 0)

/-- The exclusive-or of the bits of a number that a mask picks. -/
def xorBits (w v m : Nat) : Nat := ((List.range w).filter (fun i => bit v i && bit m i)).length % 2

/-- The plain bits, ascending (R489). -/
def Dev.plainBits (d : Dev) : List Nat :=
  (List.range d.laBits).filter (fun b => !d.xused.any (fun i => d.xbase i == b))

/-- The number some bits of a line address spell. -/
def gather (la : Nat) (l : List Nat) : Nat := l.foldr (fun b a => ofB (bit la b) + 2 * a) 0

/-- A place in the DRAM. -/
structure Place where
  ch : Nat
  rk : Nat
  bg : Nat
  ba : Nat
  row : Nat
  col : Nat
  deriving DecidableEq, Repr

/-- Where a line lies (R489). -/
def Dev.place (d : Dev) (la : Nat) : Place :=
  let out := fun (i : Nat) => xorBits 35 la (d.xmask i)
  let n := d.get Reg.MEM_CFG_COL_BITS - 4
  let p := d.plainBits
  { ch := out 0 + 2 * out 1 + 4 * out 2, rk := out 3 + 2 * out 4, bg := out 5 + 2 * out 6 + 4 * out 7,
    ba := out 8 + 2 * out 9, row := gather la ((p.drop n).take (d.get Reg.MEM_CFG_ROW_BITS)), col := 16 * gather la (p.take n) }

/-- The place of an ECC word. -/
def Dev.placeOfWord (d : Dev) (w : Nat) : Place := d.place (w / 8)

/-- Rank bits used: one for each doubling of ranks per channel. -/
def Dev.rankBits (d : Dev) : Nat := Nat.log2 (max 1 (d.get Reg.MEM_CFG_DPC * d.get Reg.MEM_CFG_RANKS))

/-- The first reason for which START refuses the map (R490). -/
def Dev.mapErr (d : Dev) : Option Nat :=
  let u := d.xused
  let rk := d.rankBits
  if u.any (fun i => u.any (fun j => j != i && bit (d.xmask i) (d.xbase j))) then some 1
  else if u.any (fun i => !bit (d.xmask i) (d.xbase i)) then some 2
  else if u.any (fun i => decide (d.laBits ≤ d.xbase i)) ||
      !([0, 1, 2].all (fun i => u.contains i)) ||
      !((List.range 2).all (fun r => u.contains (3 + r) == decide (r < rk))) ||
      u.length + (d.get Reg.MEM_CFG_COL_BITS - 4) + d.get Reg.MEM_CFG_ROW_BITS != d.laBits then some 3
  else none

/-- One output bit of the map, as written. -/
def setMap (i base : Nat) (add : List Nat) (d : Dev) : Dev :=
  let top := d.laBits
  let mask := (base :: add.filter (fun b => decide (b < top))).foldl (fun m b => setBit m b) 0
  d.sets [(Reg.MEM_XMAP_MASK_LO i, mask % 2 ^ 32), (Reg.MEM_XMAP_HI_MASK_HI i, mask / 2 ^ 32), (Reg.MEM_XMAP_HI_BASE i, base)]

/-- The default map (R491), with as many bank bits as the installed geometry has. -/
def defaultMap (d : Dev) : Dev :=
  let rk := d.rankBits
  let banks := d.laBits - 3 - rk - (d.get Reg.MEM_CFG_COL_BITS - 4) - d.get Reg.MEM_CFG_ROW_BITS
  let d := (List.range 10).foldl (fun d i => d.sets [(Reg.MEM_XMAP_MASK_LO i, 0), (Reg.MEM_XMAP_HI_MASK_HI i, 0),
    (Reg.MEM_XMAP_HI_BASE i, 0)]) d
  let d := (List.range 3).foldl (fun d j => setMap j j [j + 12, j + 18] d) d
  let d := (List.range 3).foldl (fun d j => setMap (5 + j) (3 + j) [j + 15, j + 21] d) d
  let d := (List.range (min 2 (banks - 3))).foldl (fun d j => setMap (8 + j) (6 + j) [j + 24] d) d
  (List.range rk).foldl (fun d r => setMap (3 + r) (d.laBits - rk + r) [] d) d

/-! ### Error log (R503, R514) -/

/-- Entries of the log. -/
def memLogSize : Nat := 1024

/-- Whether an entry is about a channel and not about a word. -/
def ofChannel (kind : Nat) : Bool := decide (5 ≤ kind)

/-- The 32 bytes of an entry (R514). -/
def Dev.memErrBytes (d : Dev) (e : MemErr) : List Byte :=
  let p := d.place (e.addr / 128)
  let at' := if ofChannel e.kind then 0 else 4 * p.bg + p.ba
  slice (le 8 e.tick ++ le 8 e.addr ++ le 1 e.ch ++ le 1 e.rank ++ le 1 e.kind ++ le 1 e.sym0 ++ le 1 e.sym1 ++ le 1 e.req ++
    le 1 at' ++ le 1 0 ++ le 4 (if ofChannel e.kind then 0 else p.row) ++ le 2 (if ofChannel e.kind then 0 else p.col) ++
    le 2 e.rep) 0 32

/-- An event enters the log, folded into the entry of the same word (or channel) and kind where one is held.
DEDUCED, log 64. -/
def Mem.log (m : Mem) (e : MemErr) : Mem :=
  let same := fun (o : MemErr) => o.kind == e.kind && (if ofChannel e.kind then o.ch == e.ch else o.addr == e.addr)
  let m := { m with events := satAdd 32 m.events 1 }
  if m.errs.any same then { m with errs := mapIf same (fun o => { o with rep := satAdd 16 o.rep 1 }) m.errs }
  else { m with errs := (m.errs ++ [e]).drop (m.errs.length + 1 - memLogSize), errNo := m.errNo + 1 }

/-- The entry of an event. -/
def Dev.memErr (c : Clock) (d : Dev) (word kind s0 s1 req : Nat) : MemErr :=
  let p := d.placeOfWord word
  { tick := c.tick, addr := 16 * word, kind := kind, sym0 := s0, sym1 := s1, req := req, ch := p.ch, rank := p.rk }

/-- A DRAM fault record: the entry's first 28 bytes (R668). Severities DEDUCED (notes/assumptions/20). -/
def Dev.memFault (c : Clock) (e : MemErr) (d : Dev) : Dev :=
  let sev := if e.kind = 6 then 3 else if e.kind = 7 ∨ e.kind = 1 ∨ e.kind = 5 then 1 else 2
  d.fault c .device { cls := 6, code := 1, sev := sev, detail := (d.memErrBytes e).take 28 }

/-! ### Retirement and marks (R507, R511 to R513) -/

/-- Pages the table holds. -/
def retMax : Nat := 4096

/-- The bytes the digest of the map is taken over: XMAP and XMAP_HI in register order. -/
def Dev.mapBytes (d : Dev) : List Byte :=
  (List.range 10).flatMap (fun i => le 4 (d.get (Reg.MEM_XMAP_MASK_LO i)) ++
    le 4 (d.get (Reg.MEM_XMAP_HI_MASK_HI i) + 256 * d.xbase i))

/-- The table goes to flash with the serial numbers and the map digest (R513). -/
def Dev.retStore (d : Dev) : Dev :=
  let marks := (List.range 32).filterMap (fun k =>
    if d.getB (Reg.MEM_DEV_MARK_VALID (k / 4) (k % 4)) then some (k, 128 + d.get (Reg.MEM_DEV_MARK_DEVICE (k / 4) (k % 4))) else none)
  { d with flash := { d.flash with
    retPages := d.mem.retired, retMarks := marks, retSerials := d.mem.serials, retMap := sha d.mapBytes } }

/-- A page goes to be copied: one at a time. -/
def Dev.retNext (d : Dev) : Dev :=
  match d.mem.retiring, d.mem.retWait with
  | none, e :: t => (d.onMem (fun m => { m with retiring := some e, retWait := t })).set Reg.MEM_RET_STS_BUSY 1
  | _, _ => d

/-- Whether a page is retired or on its way. -/
def Mem.retOut (m : Mem) (page : Nat) : Bool :=
  m.retired.any (fun e => e.1 == page) || m.retWait.any (fun e => e.1 == page) ||
    (match m.retiring with
     | some e => e.1 == page
     | none => false)

/-- What stands against retiring a page: 5 RANGE, 3 CMB, 4 ALREADY, 2 FULL (R525). -/
def Dev.retErr (d : Dev) (page : Nat) : Option Nat :=
  if d.dramPages ≤ page then some 5
  else if pageOf d.cmbBase ≤ page then some 3
  else if d.mem.retOut page then some 4
  else if retMax ≤ d.mem.retired.length + d.mem.retWait.length + (if d.mem.retiring.isSome then 1 else 0) then some 2
  else none

/-- A retirement under the policy starts, unless something stands against it. -/
def Dev.policyRetire (page reason : Nat) (d : Dev) : Dev :=
  if (d.retErr page).isSome || d.ledFull then d
  else (d.onMem (fun m => { m with retWait := m.retWait ++ [(page, reason)] })).retNext

/-- A device is marked, with its ledger entry: OBJECT channel × 4 + rank (R507, R512, R644). DEDUCED, log 79. -/
def Dev.mark (c : Clock) (who : Who) (reason ch r dev : Nat) (d : Dev) : Dev :=
  d.ledgered c who 9 reason (4 * ch + r) zeros48 zeros48 (fun d => d) (fun d =>
    (d.sets [(Reg.MEM_DEV_MARK_VALID ch r, 1), (Reg.MEM_DEV_MARK_DEVICE ch r, dev)]).retStore)

/-- Devices the symbols of an error lie in (R500). -/
def Dev.symDevs (d : Dev) (s0 s1 : Nat) : List Nat :=
  (([s0, s1].filter (· != 0xFF)).map (fun s => if d.get Reg.MEM_CFG_WIDTH = 1 then s / 2 else s)).dedup

/-- The policy of R512 after an error-log entry of a word. DEDUCED, log 64. -/
def Dev.retPolicy (c : Clock) (e : MemErr) (d : Dev) : Dev :=
  if d.getB Reg.MEM_RET_POL_POL_EN = false ∨ 3 ≤ e.kind then d
  else
    let w := e.addr / 16
    let page := pageOfWord w
    let bump := fun (m : FMap Nat) => m.ins page (FMap.get (fun _ => 0) m page + 1)
    let d :=
      if e.kind = 2 then
        let d := d.onMem (fun m => { m with uePages := bump m.uePages })
        if d.get Reg.MEM_RET_POL_UE_PAGE ≤ FMap.get (fun _ => 0) d.mem.uePages page then d.policyRetire page 2 else d
      else if d.mem.ceWords.contains w then d
      else
        let d := d.onMem (fun m => { m with ceWords := m.ceWords ++ [w], cePages := bump m.cePages })
        if d.get Reg.MEM_RET_POL_CE_PAGE ≤ FMap.get (fun _ => 0) d.mem.cePages page then d.policyRetire page 3 else d
    (d.symDevs e.sym0 e.sym1).foldl (fun d v =>
      let k := 4 * e.ch + e.rank
      let d := d.onMem (fun m => { m with devPages := m.devPages ++ [(k, v, page, m.rinsePasses)] })
      let mine := (d.mem.devPages.filter (fun (x : Nat × Nat × Nat × Nat) =>
        x.1 == k && x.2.1 == v && decide (d.mem.rinsePasses ≤ x.2.2.2 + 1))).map (fun x => x.2.2.1)
      if d.get Reg.MEM_RET_POL_DEV_PAGES ≤ mine.dedup.length ∧ d.getB (Reg.MEM_DEV_MARK_VALID e.ch e.rank) = false
        then d.mark c {} 2 e.ch e.rank v else d) d

/-- RET_CTL: a page is retired by software (R512, R524, R525). Ignored while a copy runs. DEDUCED, log 64. -/
def retirePage (page : Nat) (d : Dev) : Dev :=
  let d := d.set Reg.MEM_RET_CTL_PAGE page
  if d.getB Reg.MEM_RET_STS_BUSY then d
  else match d.retErr page with
    | some e => d.set Reg.MEM_RET_STS_RESULT e
    | none => if d.ledFull then d
      else ((d.onMem (fun m => { m with retWait := m.retWait ++ [(page, 1)] })).retNext).set Reg.MEM_RET_STS_RESULT 0

/-- What a retired page held goes to a free page: bytes, pattern and poison (R511). DEDUCED, log 65. -/
def Mem.copyPage (m : Mem) (src dst : Nat) : Mem :=
  let cells := m.cells.filter (fun e => pageOf e.1 == src)
  let bad := m.poison.filter (fun w => pageOfWord w == src)
  let m := match m.fills.find? (fun f => fillHas f src) with
    | some f => m.fill dst 1 f.2.2
    | none => { m with cells := m.cells.filter (fun e => pageOf e.1 != dst), poison := m.poison.filter (fun w => pageOfWord w != dst) }
  let m := cells.foldl (fun m e => m.write (e.1 - 4096 * src + 4096 * dst) e.2) m
  bad.foldl (fun m w => m.poisonAdd (w - 256 * src + 256 * dst)) m

/-- Whether a page is free to take a retired one's content: installed, outside the CMB, not retired (R511). -/
def Dev.pageFree (d : Dev) (page : Nat) : Bool :=
  decide (page < d.dramPages) && decide (page < pageOf d.cmbBase) && !d.mem.retOut page

/-- RETIREMENT_COPY_DONE: the page's content is on a free page, and it is entered in the table and the ledger (R511 to R513). -/
def retirementCopyDone (c : Clock) (to' : Nat) (d : Dev) : Dev :=
  match d.mem.retiring with
  | none => d
  | some (page, reason) =>
    let go := fun (d : Dev) =>
      let d := d.onMem (fun m => { m.copyPage page to' with
        retiring := none, retired := m.retired ++ [(page, reason)] })
      (d.sets [(Reg.MEM_RET_STS_BUSY, 0), (Reg.MEM_RET_STS_RESULT, 1), (Reg.MEM_RET_STS_COUNT, d.mem.retired.length)]).retStore.retNext
    let stop := fun (d : Dev) => ((d.onMem (fun m => { m with retiring := none })).sets
      [(Reg.MEM_RET_STS_BUSY, 0), (Reg.MEM_RET_STS_RESULT, 0)]).retNext
    d.ledgered c (if reason = 1 then d.who else {}) 9 reason page zeros48 zeros48 stop go

/-- DEV_MARK: a write marks or unmarks the devices of the four ranks of a channel (R507). DEDUCED, log 64. -/
def devMarkWrite (c : Clock) (ch v : Nat) (d : Dev) : Dev :=
  (List.range 4).foldl (fun d r =>
    let b := bits v (8 * r) 8
    let was := d.getB (Reg.MEM_DEV_MARK_VALID ch r)
    if bit b 7 then
      if was then d.set Reg.MEM_RET_STS_RESULT 4
      else d.mark c d.who 1 ch r (b % 32)
    else
      let d := d.sets [(Reg.MEM_DEV_MARK_VALID ch r, 0), (Reg.MEM_DEV_MARK_DEVICE ch r, b % 32)]
      if was then d.retStore else d) d

/-- The table and marks in flash are applied again at START: entries of a DIMM that was changed, and pages of another map,
are dropped with a fault record (R513). -/
def retApply (c : Clock) (d : Dev) : Dev :=
  let f := d.flash
  let changed := fun (k : Nat) => decide (f.retSerials.getD k 0 ≠ d.mem.serials.getD k 0)
  let dimm := fun (p : Place) => 2 * p.ch + (if d.get Reg.MEM_CFG_RANKS = 0 then 0 else p.rk / d.get Reg.MEM_CFG_RANKS)
  let drop := fun (ch why : Nat) (d : Dev) => 
    d.fault c .device { cls := 6, code := 3, sev := 1, detail := [BitVec.ofNat 8 ch, BitVec.ofNat 8 why] }
  let mapOk := decide (f.retMap = sha d.mapBytes)
  let d := f.retPages.foldl (fun d e =>
    let places := (List.range 32).map (fun i => d.place (32 * e.1 + i))
    match places.find? (fun p => changed (dimm p)) with
    | some p => drop p.ch 1 d
    | none =>
      if mapOk then d.onMem (fun m => { m with retired := m.retired ++ [e] })
      else drop (d.place (32 * e.1)).ch 2 d) d
  let d := f.retMarks.foldl (fun d (e : Nat × Nat) =>
    let ch := e.1 / 4
    let r := e.1 % 4
    if changed (2 * ch + (if d.get Reg.MEM_CFG_RANKS = 0 then 0 else r / d.get Reg.MEM_CFG_RANKS)) then drop ch 1 d
    else d.sets [(Reg.MEM_DEV_MARK_VALID ch r, 1), (Reg.MEM_DEV_MARK_DEVICE ch r, e.2 % 32)]) d
  (d.set Reg.MEM_RET_STS_COUNT d.mem.retired.length).retStore

/-! ### Reads and writes against errors (R503 to R506) -/

def rqRINSE : Nat := 0
def rqHOST : Nat := 1
def rqCMB : Nat := 2
def rqWRITE : Nat := 4
def rqCACHE : Nat := 6
def rqCORE : Nat := 7

/-- How a read finds a word: 0 no error, 1 correctable, 2 uncorrectable, 3 poison; the first two symbols corrected (0xFF:
none, or not located); the bits that stay wrong in a word it returns. -/
structure WordRead where
  word : Nat
  kind : Nat
  s0 : Nat := 0xFF
  s1 : Nat := 0xFF
  wrong : List (Nat × Nat) := []
  deriving DecidableEq, Repr

/-- Symbols of the device marked in a rank: erasures (R500, R501). -/
def Dev.erased (d : Dev) (ch rk : Nat) : List Nat :=
  let v := d.get (Reg.MEM_DEV_MARK_DEVICE ch rk)
  if d.getB (Reg.MEM_DEV_MARK_VALID ch rk) then
    (if d.get Reg.MEM_CFG_WIDTH = 1 then [2 * v, 2 * v + 1] else [v]).filter (fun j => decide (j < 20))
  else []

/-- How a word stands against the symbol errors a read of it meets, which come on top of the pattern of a poison word (R501,
R502). A failed channel's words read as uncorrectable (R515). DEDUCED, log 95. -/
def Dev.wordState (d : Dev) (errs : List DramErr) (w : Nat) : WordRead :=
  let p := d.placeOfWord w
  if bit (d.get Reg.MEM_STS_CH_FAIL) p.ch then { word := w, kind := 2 }
  else
    let e := eccXor ((errs.filter (fun e => e.word == w)).flatMap (fun e => e.bad))
      (if d.mem.poison.contains w then poisonPattern else [])
    if e = [] then { word := w, kind := 0 }
    else
      let r := eccRead (d.erased p.ch p.rk) e
      let f := eccXor r.fixed []
      { word := w, kind := r.kind, s0 := (f.map Prod.fst).getD 0 0xFF, s1 := (f.map Prod.fst).getD 1 0xFF, wrong := r.wrong }

/-- Bytes as a read returns them: those of a miscorrected word, or of errors no syndrome shows, are wrong (R501). -/
def Dev.readBytes (d : Dev) (errs : List DramErr) (a n : Nat) : List Byte :=
  (errs.map (fun e => e.word)).dedup.foldl (fun l w =>
    let x := wrongBytes (d.wordState errs w).wrong
    l.mapIdx (fun i b => if (a + i) / 16 = w then b ^^^ x.getD ((a + i) % 16) 0 else b)) (d.mem.bytes a n)

/-- A word written back as the decoder gave it: changed only where that was wrong (R501, R504, R510). -/
def Mem.mend (m : Mem) (w : Nat) (wrong : List (Nat × Nat)) : Mem :=
  if wrong = [] then m
  else m.writes (16 * w) (((m.bytes (16 * w) 16).zip (wrongBytes wrong)).map (fun p => p.1 ^^^ p.2))

/-- A word in error is met by a read: counted, logged, poisoned where uncorrectable, and the policy applied (R503, R512). -/
def Dev.dramError (c : Clock) (req : Nat) (e : WordRead) (d : Dev) : Dev :=
  let m := d.memErr c e.word e.kind e.s0 e.s1 req
  let d := d.onMem (fun x => x.log m)
  let d :=
    if e.kind = 1 then (d.onMem (fun x => { x with ceTotal := satAdd 32 x.ceTotal 1 })).bump (Reg.MEM_CH_STS_CE m.ch) 1
    else if e.kind = 2 then
      (d.onMem (fun x => { x.poisonAdd e.word with ueTotal := satAdd 32 x.ueTotal 1 })).bump (Reg.MEM_CH_STS_UE m.ch) 1
    else (d.onMem (fun x => { x with poisonTotal := satAdd 32 x.poisonTotal 1 })).bump (Reg.MEM_CH_STS_UE m.ch) 1
  d.retPolicy c m

/-- A requester reads words: true when all could be read (R503). -/
def Dev.dramRead (c : Clock) (req : Nat) (errs : List DramErr) (words : List Nat) (d : Dev) : Dev × Bool :=
  words.foldl (fun (p : Dev × Bool) w =>
    let e := p.1.wordState errs w
    if e.kind = 0 then p else (p.1.dramError c req e, p.2 && decide (e.kind = 1))) (d, true)

/-- Errors met by a read of data the model does not place: each entered as it was found. -/
def Dev.dramErrors (c : Clock) (req : Nat) (errs : List DramErr) (d : Dev) : Dev := (d.dramRead c req errs (errs.map (fun e => e.word))).1

/-- A partial write of one word (R504): merged, or refused; true when it was made. -/
def Dev.partialWrite (c : Clock) (req : Nat) (errs : List DramErr) (a : Nat) (l : List Byte) (d : Dev) : Dev × Bool :=
  let e := d.wordState errs (a / 16)
  if e.kind = 0 then (d.onMem (fun m => (m.mend e.word e.wrong).writes a l), true)
  else if e.kind = 1 then ((d.dramError c req e).onMem (fun m => (m.mend e.word e.wrong).writes a l), true)
  else
    let m := d.memErr c e.word 4 e.s0 e.s1 req
    let d := d.onMem (fun x => { (x.poisonAdd e.word).log m with refused := satAdd 32 x.refused 1 })
    (d, false)

/-- A write of bytes, word by word: whole words clear errors and poison, partial ones are merged or refused (R504). The
words whose partial writes were refused. -/
def Dev.dramWrite (c : Clock) (req : Nat) (errs : List DramErr) : Nat → Nat → List Byte → Dev → Dev × List Nat
  | 0, _, _, d => (d, [])
  | fuel + 1, a, l, d =>
    if l = [] then (d, [])
    else
      let k := 16 - a % 16
      let now := l.take k
      let r : Dev × Bool := if now.length = 16 then (d.onMem (fun m => (m.writes a now).poisonDel (a / 16)), true)
        else d.partialWrite c req errs a now
      let rest := Dev.dramWrite c req errs fuel (a + k) (l.drop k) r.1
      (rest.1, (if r.2 then [] else [a / 16]) ++ rest.2)

/-- Words of a range of bytes. -/
def wordsOf (a n : Nat) : List Nat := if n = 0 then [] else (List.range ((a + n - 1) / 16 - a / 16 + 1)).map (fun i => a / 16 + i)

/-- Whether requesters reach the DRAM. -/
def Dev.memRuns (d : Dev) : Bool := d.mstate == mRUN || d.mstate == mFAILED

/-- A host read of the CMB: a word that fails poisons the completion, all bytes 0xFF (R505). -/
def cmbRead (c : Clock) (off n : Nat) (errs : List DramErr) (d : Dev) : Dev :=
  if d.memRuns = false then d
  else
    let a := d.cmbBase + off
    let r := d.dramRead c rqCMB errs (wordsOf a n)
    r.1.onMem (fun m => { m with
      cmbOn := true, cmbEp := !r.2, cmbData := if r.2 then d.readBytes errs a n else List.replicate n 0xFF })

/-- A host write of the CMB: a refused partial write is dropped, reported through AER and recorded (R504). -/
def cmbWrite (c : Clock) (off : Nat) (l : List Byte) (errs : List DramErr) (d : Dev) : Dev :=
  if d.memRuns = false then d
  else
    let d := d.onMem (fun m => { m with cmbOn := true })
    let r := d.dramWrite c rqCMB errs (l.length + 1) (d.cmbBase + off) l
    r.2.foldl (fun d w => (d.onMem (fun m => { m with aer := m.aer + 1 })).memFault c (d.memErr c w 4 0xFF 0xFF rqCMB)) r.1

/-- Parts of a write are dropped wherever they wait: no record of it will name them. -/
def dropWrite (nsid wid : Nat) (d : Dev) : Dev :=
  let mine := fun (m : MapRec) => m.nsid == nsid && m.wid == wid
  let cut := fun (b : StageBlk) => ({ b with streams := b.streams.filter (fun x => !mine x.mrec) } : StageBlk)
  { d with
    decks := d.decks.map (fun (e : Nat × Deck) => (e.1, { e.2 with
      queue := e.2.queue.map cut, bound := e.2.bound.map (fun x => (x.1, cut x.2)),
      placed := e.2.placed.filter (fun m => !mine m) })),
    host := { d.host with writes := d.host.writes.filter (fun w => !(w.nsid == nsid && w.wid == wid)) } }

/-- A write whose staged copy cannot be read is lost whole (R505, R506). -/
def writeLost (c : Clock) (nsid wid : Nat) (d : Dev) : Dev :=
  match d.host.writes.find? (fun w => w.nsid == nsid && w.wid == wid && !w.isDescribed) with
  | none => d
  | some w =>
    let d := dropWrite nsid wid d
    let d := d.fault c (d.nsSrc nsid) { cls := 3, code := 4, sev := 2, detail := le 4 nsid ++ le 8 w.slba ++ le 4 w.nlb ++ le 8 w.wid }
    let d := { d with host := { d.host with migs := mapIf (fun m => m.stamp == w.stamp) (fun m => { m with status := .internalError }) d.host.migs } }
    let flushes := (d.host.ctxs.filter (fun x => x.cmd.op == .flush && x.phase == .media && decide (w.stamp < x.stamp) &&
      d.flushCovers x nsid)).map (fun x => x.stamp)
    let d := flushes.foldl (fun d st => d.ends st .internalError) d
    let d := if d.host.migs.any (fun m => m.stamp == w.stamp) then d.migDone w.stamp else d.ends w.stamp .internalError
    d.settle

/-- Staged copies that a command finds unreadable: their writes are lost, in the order found (R505). -/
def writesLost (c : Clock) (l : List (Nat × Nat)) (d : Dev) : Dev := l.foldl (fun d (p : Nat × Nat) => writeLost c p.1 p.2 d) d

/-- Every staged write that is not committed is lost, as on power failure (R421, R515). -/
def stagedGone (d : Dev) : Dev :=
  { d with
    decks := d.decks.map (fun (e : Nat × Deck) => (e.1, { e.2 with queue := [], bound := [], placed := [], placedAt := none, unitDue := false })),
    host := { d.host with writes := [] } }

/-! ### Channel failure (R515) -/

/-- A channel fails. DEDUCED, log 69. -/
def channelFail (c : Clock) (ch : Nat) (d : Dev) : Dev :=
  if bit (d.get Reg.MEM_STS_CH_FAIL) ch then d
  else
    let e : MemErr := { tick := c.tick, addr := 0, kind := 6, req := 0xFF, ch := ch, rank := 0 }
    let d := d.sets [(Reg.MEM_STS_CH_FAIL, setBit (d.get Reg.MEM_STS_CH_FAIL) ch), (Reg.MEM_STS_STATE, mFAILED),
      (Reg.MEM_CH_STS_STATE ch, 2), (Reg.HQ_INTAKE_STS_STOPPED, 1)]
    let d := if d.mem.fillTo.isSome then
        (d.onMem (fun m => { m with fillTo := none })).sets [(Reg.MEM_FILL_CTL_BUSY, 0), (Reg.MEM_FILL_CTL_RESULT, 3)] else d
    let d := { d with ctrls := d.ctrls.map (fun (k : Ctrl) => ({ k with fatal := true } : Ctrl)) }
    let d := (d.onMem (fun m => m.log e)).memFault c e
    let d := d.raise (fun _ => true) evReliable
    let d := stagedGone d
    d.eachDeck (fun n d => if d.dstate n = dABSENT ∨ d.dstate n = dFAULT then d else seqPark c n d)

/-- CA_PARITY_ALERT: buffered commands are replayed, or the third consecutive alert fails the channel (R498, R499). `done`
commands have completed without an alert since the previous replay ended. -/
def caParityAlert (c : Clock) (ch done : Nat) (d : Dev) : Dev :=
  if d.mstate ≠ mRUN then d
  else
    let was := d.get (Reg.MEM_CH_STS_ALERTS ch)
    let now := if done < 1024 ∧ was ≠ 0 then was + 1 else 1
    let d := d.set (Reg.MEM_CH_STS_ALERTS ch) now
    if now = 3 then channelFail c ch d
    else
      let e : MemErr := { tick := c.tick, addr := 0, kind := 5, req := 0xFF, ch := ch, rank := 0 }
      d.onMem (fun m => { m.log e with replays := satAdd 32 m.replays 1 })

/-! ### Training and re-centring (R492 to R494) -/

/-- CTL.TRAIN (R518). -/
def memTrain (d : Dev) : Dev :=
  if d.mstate = mSTOPPED then d.sets [(Reg.MEM_CTL_TRAIN, 1), (Reg.MEM_STS_STATE, mTRAINING)] else d

/-- Strobe groups of a channel (R492). -/
def Dev.groups (d : Dev) : Nat := if d.get Reg.MEM_CFG_WIDTH = 1 then 10 else 20

/-- Least eye, in 1/64 UI (R492). -/
def leastEye : Nat := 16

/-- The results of one channel: it passes when every step did and every eye is wide enough. -/
def trainChannel (ch : Nat) (o : Bool × List (Nat × Nat × Nat × Nat)) (d : Dev) : Dev :=
  let n := d.groups
  let d := (List.range 20).foldl (fun d g =>
    let r := if g < n then o.2.getD g (0, 0, 0, 0) else (0, 0, 0, 0)
    let d := d.sets [(Reg.MEM_TRN_RES_RD_CTR ch g, r.1), (Reg.MEM_TRN_RES_RD_EYE ch g, r.2.1),
      (Reg.MEM_TRN_RES_WR_CTR ch g, r.2.2.1), (Reg.MEM_TRN_RES_WR_EYE ch g, r.2.2.2)]
    d.onMem (fun m => { m with trained := m.trained.ins (20 * ch + g) (r.1, r.2.2.1) })) d
  let ok := o.1 && (List.range n).all (fun g =>
    let r := o.2.getD g (0, 0, 0, 0)
    decide (leastEye ≤ r.2.1) && decide (leastEye ≤ r.2.2.2))
  if ok then d.set Reg.MEM_STS_CH_TRAINED (setBit (d.get Reg.MEM_STS_CH_TRAINED) ch) else d

/-- Training ends: CFG from the SPDs, and, with all DIMMs alike, the channels' results (R487, R492). -/
def trainDone (o : TrainObs) (d : Dev) : Dev :=
  let d := d.sets [(Reg.MEM_CFG_DIMM_LOG2, o.dimmLog2), (Reg.MEM_CFG_DPC, o.dpc), (Reg.MEM_CFG_RANKS, o.ranks),
    (Reg.MEM_CFG_WIDTH, o.width), (Reg.MEM_CFG_ROW_BITS, o.rowBits), (Reg.MEM_CFG_COL_BITS, o.colBits), (Reg.MEM_CFG_MTS, o.mts),
    (Reg.MEM_STS_CH_TRAINED, 0), (Reg.MEM_CTL_TRAIN, 0), (Reg.MEM_STS_STATE, mSTOPPED)]
  let d := d.onMem (fun m => { m with serials := o.serials, unequal := !o.alike })
  if o.alike then (List.range 8).foldl (fun d ch => trainChannel ch (o.chans.getD ch (false, [])) d) d else d

/-- CTL.START: the DIMMs, the map and the channels are checked, in that order, then MEM runs (R487, R490, R513, R518). -/
def memStart (c : Clock) (d : Dev) : Dev :=
  if d.mstate ≠ mSTOPPED then d
  else if d.mem.unequal then d.set Reg.MEM_STS_START_ERR 4
  else match d.mapErr with
    | some e => d.set Reg.MEM_STS_START_ERR e
    | none =>
      if d.get Reg.MEM_STS_CH_TRAINED ≠ 0xFF then d.set Reg.MEM_STS_START_ERR 5
      else retApply c (d.set Reg.MEM_STS_STATE mRUN)

/-- One channel is re-centred: each centre moves by at most 2 steps; a drift of more than 16 is logged; a group left with
no eye fails the channel (R493, R515). -/
def recentreChannel (c : Clock) (ch : Nat) (o : CentreObs) (d : Dev) : Dev :=
  if o.noEye then channelFail c ch d
  else
    let d := d.onMem (fun m => { m with centred := m.centred.ins ch (c.tick, o.temp) })
    let step := fun (v : Nat) (m : Int) => ((v : Int) + clampI (-2) 2 m).toNat
    let d := (List.range d.groups).foldl (fun d g =>
      let m := o.moves.getD g (0, 0)
      d.sets [(Reg.MEM_TRN_RES_RD_CTR ch g, step (d.get (Reg.MEM_TRN_RES_RD_CTR ch g)) m.1),
        (Reg.MEM_TRN_RES_WR_CTR ch g, step (d.get (Reg.MEM_TRN_RES_WR_CTR ch g)) m.2)]) d
    let off := fun (a b : Nat) => decide (16 < ((a : Int) - b).natAbs)
    let far := (List.range d.groups).any (fun g =>
      let t := FMap.get (fun _ => (0, 0)) d.mem.trained (20 * ch + g)
      off (d.get (Reg.MEM_TRN_RES_RD_CTR ch g)) t.1 || off (d.get (Reg.MEM_TRN_RES_WR_CTR ch g)) t.2)
    if far then
      let e : MemErr := { tick := c.tick, addr := 0, kind := 7, req := 0xFF, ch := ch, rank := 0 }
      (d.onMem (fun m => m.log e)).memFault c e
    else d

/-- CTL.RECENTER: every channel, in RUN (R518). -/
def memRecentre (c : Clock) (l : List CentreObs) (d : Dev) : Dev :=
  if d.mstate ≠ mRUN then d
  else (List.range 8).foldl (fun d ch => match l[ch]? with
    | some o => if d.mstate = mRUN then recentreChannel c ch o d else d
    | none => d) d

/-- Whether a channel is to be re-centred: RECENTER_MS has passed, or a DIMM's sensor has moved by RECENTER_DT °C, since it last was (R493). -/
def recentreDue (c : Clock) (ch : Nat) (temp : Int) (d : Dev) : Bool :=
  let last := FMap.get (fun _ => (0, 0)) d.mem.centred ch
  decide (last.1 + d.get Reg.MEM_REF_CFG_RECENTER_MS * tickMs ≤ c.tick) || decide (d.get Reg.MEM_REF_CFG_RECENTER_DT ≤ (temp - last.2).natAbs)

/-- RECENTER_TIMER: one channel, its interval over or a DIMM's temperature moved (R493). -/
def recentreTimer (c : Clock) (ch : Nat) (o : CentreObs) (d : Dev) : Dev :=
  if d.mstate = mRUN ∧ recentreDue c ch o.temp d then recentreChannel c ch o d else d

/-! ### Refresh (R495 to R497) -/

/-- A refresh falls due: postponed behind a protected stream while fewer than POSTPONE_MAX are owed, else issued. -/
def refreshDue (ch rank : Nat) (prot : Bool) (d : Dev) : Dev :=
  let k := 4 * ch + rank
  let owed := FMap.get (fun _ => 0) d.mem.owed k
  if d.mstate = mRUN ∧ prot ∧ owed < d.get Reg.MEM_REF_CFG_POSTPONE_MAX then d.onMem (fun m => { m with owed := m.owed.ins k (owed + 1) })
  else d

/-- Every refresh a channel owes is issued. -/
def makeupRefresh (ch : Nat) (d : Dev) : Dev := d.onMem (fun m => { m with owed := m.owed.filter (fun e => e.1 / 4 != ch) })

/-- No rank enters self-refresh with refreshes owed (R496). -/
def selfRefresh (d : Dev) : Dev :=
  let d := d.onMem (fun m => { m with owed := [] })
  if d.mstate = mRUN then d.set Reg.MEM_STS_STATE mSELFREF else d

/-! ### Fill and rinse (R509, R510) -/

/-- FILL_CTL.START. -/
def fillStart (d : Dev) : Dev :=
  if d.mstate ≠ mRUN ∨ d.getB Reg.MEM_FILL_CTL_BUSY then d
  else
    let f := (d.get Reg.MEM_FILL_BASE_PAGE, d.get Reg.MEM_FILL_LEN_PAGES, d.get Reg.MEM_FILL_PAT_PAT)
    (d.onMem (fun m => { m with fillTo := some f })).sets [(Reg.MEM_FILL_CTL_BUSY, 1), (Reg.MEM_FILL_CTL_RESULT, 0)]

/-- The fill engine ends its range. -/
def fillDone (d : Dev) : Dev :=
  match d.mem.fillTo with
  | none => d
  | some f =>
    let ok := decide (f.1 + f.2.1 ≤ d.dramPages)
    let d := d.onMem (fun m => { (if ok then m.fill f.1 f.2.1 f.2.2 else m) with fillTo := none })
    d.sets [(Reg.MEM_FILL_CTL_BUSY, 0), (Reg.MEM_FILL_CTL_RESULT, if ok then 1 else 2)]

/-- One 4 KiB page is rinsed, at the even pace of a pass in RINSE_H hours, with correctable words written back, and the walk goes on; a pass ends at the top (R510). DEDUCED, log 65. -/
def rinseStep (c : Clock) (errs : List DramErr) (d : Dev) : Dev :=
  if d.mstate ≠ mRUN ∨ d.getB Reg.MEM_RINSE_CFG_EN = false ∨
      d.devSpan c gRINSE * d.dramPages < d.get Reg.MEM_RINSE_CFG_RINSE_H * 60 * tickMin then d
  else
    let d := d.devSince gRINSE
    let page := d.get Reg.MEM_RINSE_STS_PAGE
    let skip := d.mem.retired.any (fun e => e.1 == page) || (decide (pageOf d.cmbBase ≤ page) && !d.mem.cmbOn)
    let words := ((errs.map (fun e => e.word)) ++ d.mem.poison).filter (fun w => pageOfWord w == page)
    let ws := sortBy (fun a b => decide (a < b)) words.dedup
    let back := fun (d' : Dev) => ws.foldl (fun d' w =>
      let e := d.wordState errs w
      if e.kind = 1 then d'.onMem (fun m => m.mend w e.wrong) else d') d'
    let d := if skip then d else back (d.dramRead c rqRINSE errs ws).1
    if page + 1 < d.dramPages then d.set Reg.MEM_RINSE_STS_PAGE (page + 1)
    else (d.onMem (fun m => { m with
      rinsePasses := satAdd 32 m.rinsePasses 1, rinseTick := c.tick, ceWords := [],
      devPages := m.devPages.filter (fun x => decide (m.rinsePasses ≤ x.2.2.2)) })).set Reg.MEM_RINSE_STS_PAGE 0

/-- CH_STS.CLR (R532). -/
def chStsClr (ch : Nat) (d : Dev) : Dev := d.sets [(Reg.MEM_CH_STS_CE ch, 0), (Reg.MEM_CH_STS_UE ch, 0)]

/-! ### Rules and log page (R514, R516) -/

/-- The first failing rule of MEM. -/
def memRules (d : Dev) : Option Nat :=
  if ¬d.get Reg.MEM_REF_CFG_POSTPONE_MAX ≤ 8 then some 1
  else if ¬(1 ≤ d.get Reg.MEM_RINSE_CFG_RINSE_H ∧ d.get Reg.MEM_RINSE_CFG_RINSE_H ≤ 168) then some 2
  else if ¬(100 ≤ d.get Reg.MEM_REF_CFG_RECENTER_MS ∧ 1 ≤ d.get Reg.MEM_REF_CFG_RECENTER_DT) then some 3
  else if ¬(1 ≤ d.get Reg.MEM_RET_POL_UE_PAGE ∧ 2 ≤ d.get Reg.MEM_RET_POL_CE_PAGE ∧ 2 ≤ d.get Reg.MEM_RET_POL_DEV_PAGES) then some 4
  else none

/-- A list of 32-byte or 8-byte records padded to a length. -/
def padTo (n : Nat) (l : List Byte) : List Byte := l ++ List.replicate (n - l.length) 0

/-- The first 192 bytes of log page 0xC3 (R514). -/
def memLogHead (d : Dev) : List Byte :=
  let m := d.mem
  let marks := (List.range 32).map (fun k => (d.getB (Reg.MEM_DEV_MARK_VALID (k / 4) (k % 4)), d.get (Reg.MEM_DEV_MARK_DEVICE (k / 4) (k % 4))))
  le 4 m.events ++ le 2 m.errs.length ++ le 2 (if m.errNo ≤ memLogSize then 0 else m.errNo % memLogSize) ++ le 4 m.ceTotal ++
    le 4 m.ueTotal ++ le 4 m.poisonTotal ++ le 4 m.refused ++ le 4 m.replays ++ le 2 m.retired.length ++
    le 1 (marks.filter (fun x => x.1)).length ++ le 1 (d.get Reg.MEM_STS_CH_FAIL) ++ le 4 m.rinsePasses ++ le 8 m.rinseTick ++
    List.replicate 20 0 ++ marks.flatMap (fun x => le 4 (128 * ofB x.1 + x.2))

/-- Log page 0xC3: head, the ring of error entries by ring index, the retired pages (R514). -/
def memLogPage (d : Dev) : List Byte :=
  let m := d.mem
  let turn := if m.errNo ≤ memLogSize then 0 else memLogSize - m.errNo % memLogSize
  let ring := (m.errs.drop turn) ++ (m.errs.take turn)
  memLogHead d ++ padTo 32768 (ring.flatMap d.memErrBytes) ++
    padTo 32768 (m.retired.flatMap (fun e => le 4 e.1 ++ le 1 e.2 ++ le 3 0))

end Sys2Proof.Machine
end

