-- ==== Sys2Proof/Machine/MapCache.lean ====
section
/-! DEFINITION. Machine/MapCache.lean: the mapping cache (spec file 16, R535 to R547): tags, sectors, ages, classes,
victim buffer, maintenance and errors. -/

namespace Sys2Proof.Machine

def mcSets : Nat := 12288
def mcWays : Nat := 16

/-- Set and tag of a line number (R536). -/
def mcSet (line : Nat) : Nat := line % mcSets
def mcTag (line : Nat) : Nat := line / mcSets

/-- Sectors of a half line (R537). -/
def halfMask (h : Nat) : Nat := if h = 0 then 3 else 12

/-- Change the cache. -/
def Dev.onMc (d : Dev) (f : McSt → McSt) : Dev := { d with mc := f d.mc }

/-- A way of a set, if it holds a line. -/
def McSt.at (m : McSt) (set way : Nat) : Option Way := (m.ways.find? (fun e => e.1 == mcWays * set + way)).map (fun e => e.2)
def McSt.put (m : McSt) (set way : Nat) (w : Way) : McSt := { m with ways := m.ways.ins (mcWays * set + way) w }
def McSt.drop (m : McSt) (set way : Nat) : McSt := { m with ways := m.ways.del (mcWays * set + way) }

/-- The line a way holds. -/
def lineOf (set tag : Nat) : Nat := mcSets * tag + set

/-- The way that holds a line, whatever the masks say (R536). -/
def McSt.hit (m : McSt) (line : Nat) : Option (Nat × Way) :=
  ((List.range mcWays).filterMap (fun w => (m.at (mcSet line) w).bind (fun x => if x.tag = mcTag line then some (w, x) else none))).head?

/-- Occupancy registers (R550). -/
def mcOcc (d : Dev) : Dev :=
  (List.range 8).foldl (fun d c => d.set (Reg.MC_OCC_LINES c) (d.mc.ways.filter (fun e => e.2.cls == c && e.2.valid != 0)).length) d

/-- Ways a class may allocate: those of its mask in force that are neither disabled nor being filled (R539, R545, R546). -/
def mcAllowed (d : Dev) (set cls : Nat) : List Nat :=
  (List.range mcWays).filter (fun w => bit (d.get (Reg.MC_WAYMASK_MASK cls)) w && !d.mc.off.contains (mcWays * set + w) &&
    !d.mc.fills.any (fun f => mcSet f.line == set && f.way == w))

/-- Every way of a set ages (R542). -/
def mcAge (set by' : Nat) (m : McSt) : McSt :=
  { m with ways := m.ways.map (fun (e : Nat × Way) => if e.1 / mcWays = set then (e.1, { e.2 with age := min 3 (e.2.age + by') }) else e) }

/-- The victim of a miss: way chosen, with the cache after ageing; none where the class may not allocate (R539, R542). -/
def mcVictim (set cls : Nat) (d : Dev) : Option (Nat × Dev) :=
  let ok := mcAllowed d set cls
  let empty := fun (w : Nat) => match d.mc.at set w with
    | some x => x.valid == 0
    | none => true
  let age := fun (m : McSt) (w : Nat) => match m.at set w with
    | some x => x.age
    | none => 0
  match ok.find? empty with
  | some w => some (w, d)
  | none =>
    let a := (ok.map (age d.mc)).foldl max 0
    let d' := d.onMc (mcAge set (3 - a))
    (ok.find? (fun w => age d'.mc w == 3)).map (fun w => (w, d'))

/-- The line in a way leaves it: its dirty sectors go to the victim buffer (R542). -/
def mcEvict (set way : Nat) (d : Dev) : Dev :=
  match d.mc.at set way with
  | none => d
  | some x =>
    let d := d.onMc (fun m => m.drop set way)
    if x.dirty = 0 then d
    else
      let v : Vic := { line := lineOf set x.tag, valid := x.valid, dirty := x.dirty, bad := x.bad, cls := x.cls }
      d.onMc (fun m => { m with victims := m.victims ++ [v] })

/-- ECC words of a sector. -/
def sectorWords (line sector : Nat) : List Nat := (List.range 4).map (fun i => 16 * line + 4 * sector + i)

/-- Dirty sectors reach the DRAM: whole words, or poison words for poisoned sectors (R538, R546). -/
def mcWriteBack (line dirty bad : Nat) (d : Dev) : Dev :=
  ((List.range 4).filter (fun s => bit dirty s)).foldl (fun d s =>
    (sectorWords line s).foldl (fun d w => d.onMem (fun m => if bit bad s then m.poisonAdd w else m.poisonDel w)) d) d

/-- Age at which a fill enters (R541). -/
def mcFillAge (d : Dev) (cls : Nat) (stream : Bool) : Nat := if stream || d.getB (Reg.MC_WAYMASK_STREAM_ALL cls) then 3 else 1

/-- A victim goes back into its set without a DRAM read (R545). -/
def mcReinstate (v : Vic) (d : Dev) : Dev :=
  let set := mcSet v.line
  match mcVictim set v.cls d with
  | none => d
  | some (w, d) =>
    let d := (mcEvict set w d).onMc (fun m => { m with victims := m.victims.filter (fun x => x.line != v.line) })
    let dirty := if v.issued then 0 else v.dirty
    let d := if v.issued then mcWriteBack v.line v.dirty v.bad d else d
    d.onMc (fun m => m.put set w { tag := mcTag v.line, valid := v.valid, dirty := dirty, age := 0, cls := v.cls, bad := v.bad })

/-- A request: hit, reinstated victim, whole-sector allocation, or a miss that shares or starts a fill (R536, R537, R541,
R545). DEDUCED, log 68. -/
def mcRequest (addr cls : Nat) (write whole stream : Bool) (d : Dev) : Dev :=
  let line := addr / 256
  let sec := addr / 64 % 4
  let set := mcSet line
  let d := if (d.mc.hit line).isNone then
      (match d.mc.victims.find? (fun v => v.line == line) with
       | some v => mcReinstate v d
       | none => d) else d
  let held := d.mc.hit line
  let valid := match held with
    | some (_, x) => bit x.valid sec
    | none => false
  if valid then
    match held with
    | some (w, x) =>
      let dirty := if write then setBit x.dirty sec else x.dirty
      let bad := if write && whole then clrBit x.bad sec else x.bad
      d.onMc (fun m => m.put set w { x with age := 0, dirty := dirty, bad := bad })
    | none => d
  else
    match d.mc.fills.find? (fun f => f.line == line && f.half == sec / 2) with
    | some _ =>
      let mark := fun (f : McFill) => ({ f with dirty := setBit f.dirty sec } : McFill)
      if write then d.onMc (fun m => { m with fills := mapIf (fun f => f.line == line && f.half == sec / 2) mark m.fills }) else d
    | none =>
      let place? := match held with
        | some (w, _) => some (w, d)
        | none => match d.mc.fills.find? (fun f => f.line == line) with
          | some f => some (f.way, d)
          | none => (mcVictim set cls d).map (fun p => (p.1, mcEvict set p.1 p.2))
      match place? with
      | none => d
      | some (w, d) =>
        if write && whole then
          let age := mcFillAge d cls stream
          d.onMc (fun m => match m.at set w with
            | some x => m.put set w { x with valid := setBit x.valid sec, dirty := setBit x.dirty sec, age := age }
            | none => m.put set w { tag := mcTag line, valid := setBit 0 sec, dirty := setBit 0 sec, age := age, cls := cls })
        else
          let dirty := if write then setBit 0 sec else 0
          let f : McFill := { line := line, half := sec / 2, cls := cls, way := w, stream := stream, dirty := dirty }
          d.onMc (fun m => { m with fills := m.fills ++ [f] })

/-- CLEAN, INVAL and CLEAN_INVAL on one way (R543). -/
def mcLineOp (cmd set way : Nat) (d : Dev) : Dev :=
  match d.mc.at set way with
  | none => d
  | some x =>
    let line := lineOf set x.tag
    let d := if cmd = 1 ∨ cmd = 3 then mcWriteBack line x.dirty x.bad d else d
    if cmd = 1 then d.onMc (fun m => m.put set way { x with dirty := 0 }) else d.onMc (fun m => m.drop set way)

/-- The operation on a line by its number, in the victim buffer too (R543, R545). -/
def mcAddrOp (cmd line : Nat) (d : Dev) : Dev :=
  let d := match d.mc.hit line with
    | some (w, _) => mcLineOp cmd (mcSet line) w d
    | none => d
  match d.mc.victims.find? (fun v => v.line == line) with
  | some v =>
    let d := if cmd = 2 then d else mcWriteBack line v.dirty v.bad d
    d.onMc (fun m => { m with victims := m.victims.filter (fun x => x.line != line) })
  | none => d

/-- Lines of the installed DRAM. -/
def Dev.mcLines (d : Dev) : Nat := d.dramBytes / 256

/-- MAINT_CTL with a command: CLEAN 1, INVAL 2, CLEAN_INVAL 3 (R543, R545, R553). DEDUCED, log 68. -/
def mcMaint (cmd scope way : Nat) (d : Dev) : Dev :=
  if d.getB Reg.MC_MAINT_CTL_BUSY then d
  else
    let d := d.sets [(Reg.MC_MAINT_CTL_SCOPE, scope), (Reg.MC_MAINT_CTL_WAY, way)]
    let first := d.get Reg.MC_MAINT_ADDR_LINE_LO + 2 ^ 32 * d.get Reg.MC_MAINT_ARG_LINE_HI
    let count := d.get Reg.MC_MAINT_ARG_COUNT
    let set := d.get Reg.MC_MAINT_ARG_SET
    if scope % 4 = 0 ∧ (count = 0 ∨ d.mcLines < first + count) then d.set Reg.MC_MAINT_CTL_RESULT 2
    else
      let lines := (List.range count).map (fun i => first + i)
      let waits := if scope % 4 = 0 then lines.filter (fun l => d.mc.fills.any (fun f => f.line == l)) else []
      let d := d.sets [(Reg.MC_MAINT_CTL_BUSY, 1), (Reg.MC_MAINT_CTL_RESULT, 0)]
      let d := match scope % 4 with
        | 0 => (lines.filter (fun l => !waits.contains l)).foldl (fun d l => mcAddrOp cmd l d) d
        | 1 => mcLineOp cmd set (way % 16) d
        | 2 => (List.range mcWays).foldl (fun d w => mcLineOp cmd set w d) d
        | _ => d.mc.ways.foldl (fun d (e : Nat × Way) => mcLineOp cmd (e.1 / mcWays) (e.1 % mcWays) d) d
      mcOcc (d.onMc (fun m => { m with op := some (cmd, waits) }))

/-- MAINT_DONE: every write-back of the operation has been accepted and no line of it waits for a fill. -/
def mcMaintDone (d : Dev) : Dev :=
  match d.mc.op with
  | some (_, []) => (d.onMc (fun m => { m with op := none })).sets [(Reg.MC_MAINT_CTL_BUSY, 0), (Reg.MC_MAINT_CTL_RESULT, 1)]
  | _ => d

/-- ERR_LOC of an error (R555). -/
def mcErrLoc (e : McErr) (d : Dev) : Dev :=
  d.sets [(Reg.MC_ERR_LOC_SET, e.set), (Reg.MC_ERR_LOC_WAY, e.way), (Reg.MC_ERR_LOC_SECTOR, if e.tag then 0 else e.sector),
    (Reg.MC_ERR_LOC_WORD, if e.tag then 0 else e.word), (Reg.MC_ERR_LOC_TAG, ofB e.tag), (Reg.MC_ERR_LOC_UNCORR, ofB e.uncorr)]

/-- A cache fault record (R668). -/
def mcFault (c : Clock) (d : Dev) : Dev :=
  d.fault c .device { cls := 6, code := 2, sev := 2, detail := le 4 (d.wordInForce Reg.MC_ERR_LOC_SET.off) }

/-- A read of the array finds an error (R546). -/
def mcError (c : Clock) (e : McErr) (d : Dev) : Dev :=
  let d := mcErrLoc e d
  if !e.uncorr then d.bump Reg.MC_STS_CE 1
  else
    let d := d.bump Reg.MC_STS_UE 1
    if e.tag then
      let d := (d.onMc (fun m => { m.drop e.set e.way with off := m.off ++ [mcWays * e.set + e.way] })).set Reg.MC_STS_TAG_UE 1
      mcOcc (mcFault c d)
    else match d.mc.at e.set e.way with
      | none => d
      | some x =>
        if bit x.dirty e.sector then
          mcFault c ((d.onMc (fun m => m.put e.set e.way { x with bad := setBit x.bad e.sector })).set Reg.MC_STS_DATA_UE 1)
        else if bit x.valid e.sector then
          let f : McFill := { line := lineOf e.set x.tag, half := e.sector / 2, cls := x.cls, way := e.way, stream := false }
          d.onMc (fun m => { m.put e.set e.way { x with valid := clrBit x.valid e.sector } with fills := m.fills ++ [f] })
        else d

/-- One event of the cache. -/
def mcEvent (c : Clock) (d : Dev) : McEv → Dev
  | .req a ns w whole st => mcRequest a (d.mcClass ns) w whole st d
  | .wbIssue line =>
    let go := fun (v : Vic) => ({ v with issued := true } : Vic)
    d.onMc (fun m => { m with victims := mapIf (fun v => v.line == line) go m.victims })
  | .wbDone line => match d.mc.victims.find? (fun v => v.line == line && v.issued) with
    | some v => (mcWriteBack line v.dirty v.bad d).onMc (fun m => { m with victims := m.victims.filter (fun x => x.line != line) })
    | none => d
  | .err e => mcError c e d

/-- MC_FILL_DONE: after what met the cache since its last step, the fill of a half line returns: both its sectors are valid
and its requests are served; a word it cannot read fails it (R505, R537, R541, R545). -/
def mcFillDone (c : Clock) (evs : List McEv) (line half : Nat) (errs : List DramErr) (d : Dev) : Dev :=
  let d := evs.foldl (mcEvent c) d
  match d.mc.fills.find? (fun f => f.line == line && f.half == half) with
  | none => mcOcc d
  | some f =>
    let words := (List.range 8).map (fun i => 16 * line + 8 * (half % 2) + i)
    let r := d.dramRead c rqCACHE errs words
    let d := r.1.onMc (fun m => { m with fills := m.fills.filter (fun x => !(x.line == line && x.half == half)) })
    let d :=
      if r.2 then
        let age := mcFillAge d f.cls f.stream
        let set := mcSet line
        d.onMc (fun m => match m.at set f.way with
          | some x =>
            if x.tag = mcTag line then m.put set f.way { x with
              valid := x.valid ||| halfMask half, dirty := x.dirty ||| f.dirty, age := if x.valid = 0 then age else min x.age age }
            else m
          | none => m.put set f.way { tag := mcTag line, valid := halfMask half, dirty := f.dirty, age := age, cls := f.cls })
      else
        match (words.map (d.wordState errs)).find? (fun e => decide (2 ≤ e.kind)) with
        | some e => d.memFault c (d.memErr c e.word e.kind e.s0 e.s1 rqCACHE)
        | none => d
    let d := match d.mc.op with
      | some (cmd, waits) => if waits.contains line && !d.mc.fills.any (fun x => x.line == line) then
          (mcAddrOp cmd line d).onMc (fun m => { m with op := some (cmd, waits.filter (· != line)) }) else d
      | none => d
    mcOcc d

/-- MC_SCRUB_STEP: the background walk reads the next set, at the pace of a walk in SCRUB_MIN minutes (R546). -/
def mcScrubStep (c : Clock) (errs : List McErr) (d : Dev) : Dev :=
  if d.devSpan c gSCRUB * mcSets < d.get Reg.MC_CFG_SCRUB_MIN * tickMin then d
  else
  let d := d.devSince gSCRUB
  let d := (errs.filter (fun e => e.set == d.mc.scrub)).foldl (fun d e => mcError c e d) d
  mcOcc (d.onMc (fun m => { m with scrub := (m.scrub + 1) % mcSets }))

/-- STS.CLR (R554). -/
def mcStsClr (d : Dev) : Dev := d.sets [(Reg.MC_STS_CE, 0), (Reg.MC_STS_UE, 0)]

/-- Before a page is retired its sixteen lines are cleaned and dropped (R544); then its copy ends. -/
def retireCopied (c : Clock) (to' : Nat) (d : Dev) : Dev :=
  if d.pageFree to' = false then d else
  let d := match d.mem.retiring with
    | some (page, _) => mcOcc ((List.range 16).foldl (fun d i => mcAddrOp 3 (16 * page + i) d) d)
    | none => d
  retirementCopyDone c to' d

/-- Every dirty sector is cleaned before DEEP; the cache leaves it empty (R544). -/
def mcDeep (d : Dev) : Dev :=
  let d := d.mc.ways.foldl (fun d e => mcLineOp 1 (e.1 / mcWays) (e.1 % mcWays) d) d
  let d := d.mc.victims.foldl (fun d v => mcWriteBack v.line v.dirty v.bad d) d
  mcOcc (d.onMc (fun m => { m with ways := [], victims := [], fills := [] }))

/-- The first failing rule of MC (R547). -/
def mcRules (d : Dev) : Option Nat :=
  if d.get (Reg.MC_WAYMASK_MASK 0) = 0 then some 1
  else if ¬(1 ≤ d.get Reg.MC_CFG_SCRUB_MIN ∧ d.get Reg.MC_CFG_SCRUB_MIN ≤ 1440) then some 2
  else none

end Sys2Proof.Machine
end

