-- ==== Sys2Proof/Machine/Faults.lean ====
section
/-! DEFINITION. Machine/Faults.lean: the fault record ring as software reads and acknowledges it (spec file 21, R667, R670 to
R682). -/

namespace Sys2Proof.Machine

/-- The 64 bytes of a record (R667). -/
def faultBytes (r : FaultRec) : List Byte :=
  let flags := ofB r.angle.isSome + 2 * ofB r.fwd + 4 * ofB r.lost + 8 * ofB r.latched
  slice (le 8 r.seq ++ le 8 r.tick ++ le 4 r.handle ++ le 1 r.cls ++ le 1 r.sev ++ le 2 r.code ++ le 8 (r.angle.getD 0) ++
    le 1 flags ++ le 1 r.rep ++ le 2 0 ++ slice r.detail 0 28) 0 64

/-- The header of log page 0xC1 (R672). -/
def Flt.header (f : Flt) : List Byte :=
  let oldest := match f.ring with
    | r :: _ => r.seq
    | [] => f.next
  let unread := match f.ring.find? (fun r => !r.read) with
    | some r => r.seq
    | none => f.next
  slice (le 8 oldest ++ le 8 f.next ++ le 8 unread ++ le 4 f.lostTotal ++ le 2 f.ring.length) 0 64

/-- Log page 0xC1: the header, then the records, oldest first. -/
def Flt.page (f : Flt) : List Byte := f.header ++ f.ring.flatMap faultBytes

/-- Records that a transfer of `len` bytes from `ofst` carries in full are acknowledged (R672). -/
def Flt.ackSpan (f : Flt) (ofst len : Nat) : Flt :=
  let full := fun (i : Nat) => decide (ofst ≤ 64 + 64 * i) && decide (64 + 64 * (i + 1) ≤ ofst + len)
  let ring := (List.range f.ring.length).zip f.ring
  { f with ring := ring.map (fun (p : Nat × FaultRec) => if full p.1 then ({ p.2 with read := true } : FaultRec) else p.2) }

/-- The SEQ that an ACK_LO value names: taken modulo 2^32 nearest the next SEQ (R678). DEDUCED, log 86. -/
def ackSeqOf (next lo : Nat) : Int :=
  let base : Int := (next / 2 ^ 32 : Nat) * 2 ^ 32 + lo
  let near := fun (a b : Int) => if (a - next).natAbs ≤ (b - next).natAbs then a else b
  near (near base (base - 2 ^ 32)) (base + 2 ^ 32)

/-- ACK_SEQ: every record at or below it is acknowledged (R670, R675, R678). -/
def ackSeqWrite (lo : Nat) (d : Dev) : Dev :=
  let d := d.set Reg.FLT_ACK_SEQ_ACK_LO lo
  let upto := ackSeqOf d.flt.next (lo % 2 ^ 32)
  let ring := mapIf (fun (r : FaultRec) => decide ((r.seq : Int) ≤ upto)) (fun r => ({ r with read := true } : FaultRec)) d.flt.ring
  { d with flt := { d.flt with ring := ring } }

/-- The RECORDS_LOST record counts the losses since the last one (R670, R671). -/
def lostRecord (c : Clock) (d : Dev) : Dev :=
  let k := d.flt.lostNow
  let d := { d with flt := { d.flt with lostNow := 0, lostOpen := false } }
  d.fault c .device { cls := 11, code := 1, sev := 2, detail := le 4 k }

/-- RECORDS_LOST_INTERVAL: 100 ms after the first loss one record counts the losses of the interval that ends (R670). -/
def recordsLost (c : Clock) (d : Dev) : Dev := if d.flt.lostOpen = false ∨ c.tick < d.flt.lostAt + 100 * tickMs then d else lostRecord c d

/-- The record that REC_SEL shows (R681). -/
def Dev.recShown (d : Dev) : List Byte :=
  match d.flt.ring.find? (fun r => r.seq % ringSize == d.get Reg.FLT_REC_SEL_SLOT) with
  | some r => faultBytes r
  | none => List.replicate 64 0

/-- A read of REC_DATA word 0: the selected record's first word, words 1 to 15 latched (R682). -/
def recDataRead (d : Dev) : Dev :=
  let l := d.recShown
  { d with rdata := ofLe (slice l 0 4), flt := { d.flt with latch := l.drop 4 } }

/-- The first failing rule of FLT: it has none of its own. -/
def fltRules (_ : Dev) : Option Nat := none

/-- Severity of the newest unread record, 0 without one (R674). -/
def Dev.newestUnread (d : Dev) : Nat :=
  match d.flt.ring.reverse.find? (fun r => !r.read) with
  | some r => r.sev
  | none => 0

end Sys2Proof.Machine
end

