-- ==== Sys2Proof/Machine/HostDeck.lean ====
section
/-! DEFINITION. Machine/HostDeck.lean: Mount, Unmount, Survey, Migrate and Ledger Read (spec file 13, R433 to R442; file 04,
R100 to R113; file 19, R652). -/

namespace Sys2Proof.Machine

/-! ### Reading a disc (R102 to R106, R637) -/

/-- A TAI time from its ten bytes, in nanoseconds. -/
def taiOf (big : Bool) (l : List Byte) : Nat :=
  if big then ofBe (slice l 0 6) * 1000000000 + ofBe (slice l 6 4) else ofLe (slice l 0 6) * 1000000000 + ofLe (slice l 6 4)

/-- The primer header of 239 data bytes, when it is one (R102). -/
def primerOf (l : List Byte) : Option PrimerInfo :=
  if slice l 4 1 = [1] ∧ slice l 5 16 = primerName then some {
    setLabel := slice l 21 16, discId := slice l 37 16, layers := ofBe (slice l 53 1), member := ofBe (slice l 54 1),
    setSize := ofBe (slice l 55 1), time := taiOf true (slice l 60 10), text := [] }
  else none

/-- A mapping record from its 40 bytes (R105). -/
def mapRecOf (l : List Byte) : MapRec :=
  let f := ofLe (slice l 2 2)
  { store := f % 4, enc := bit f 2, lbs64 := bit f 3, zoned := bit f 4, nsid := ofLe (slice l 4 4), slba := ofLe (slice l 8 8),
    nlb := ofLe (slice l 16 2), part := ofLe (slice l 18 2), pba := ofLe (slice l 20 4), offset := ofLe (slice l 24 4),
    length := ofLe (slice l 28 4), wid := ofLe (slice l 32 8) }

/-- A commit record from its bytes (R106). -/
def commitOf (l : List Byte) : CommitRec :=
  { nsid := ofLe (slice l 4 4), time := taiOf false (slice l 8 10),
    writes := (List.range (ofLe (slice l 2 2))).map (fun i => (ofLe (slice l (24 + 16 * i) 8), ofLe (slice l (32 + 16 * i) 2))) }

/-- The records of a unit, n of them. -/
def recsFrom : Nat → List Byte → UnitRecs
  | 0, _ => {}
  | n + 1, l =>
    let len := 8 * ofLe (slice l 1 1)
    let r := recsFrom n (l.drop len)
    if len = 0 then {}
    else match ofLe (slice l 0 1) with
      | 1 => { r with maps := mapRecOf l :: r.maps }
      | 2 => { r with commits := commitOf l :: r.commits }
      | 3 => { r with keys := (ofLe (slice l 4 4), slice l 16 72) :: r.keys }
      | _ => r

/-- An index unit payload: its UNIT_SEQ and records, when header and CRC-64 hold (R104). -/
def unitOf (l : List Byte) : Option (Nat × UnitRecs) :=
  if ofLe (slice l 0 4) = magicIndex ∧ ofLe (slice l 4 2) = 1 ∧ ofLe (slice l 0xBFF8 8) = crc64 (slice l 0 0xBFF8) then
    some (ofLe (slice l 8 8), recsFrom (ofLe (slice l 6 2)) ((slice l 0 (ofLe (slice l 16 4))).drop 64))
  else none

/-- Index units of a layer: 20 swaths of 4 passes of 118 slots (R82, R103). -/
def unitsPerLayer : Nat := 20 * 4 * 118

/-- The disc an observation shows, with the labels that identify it. -/
def discOf (gen : Nat) (i : PrimerInfo) (nsid : Nat) (b : BindRec) (o : DiscObs) : Disc :=
  let us := o.units.filterMap unitOf
  let old := o.extents.map (fun (e : Nat × Nat × Nat × Nat × Nat) =>
    ({ store := 0, enc := false, lbs64 := b.lbs64, zoned := false, nsid := nsid, slba := e.1, nlb := e.2.1, part := 0, pba := e.2.2.1,
       offset := e.2.2.2.1, length := e.2.2.2.2, wid := 0 } : MapRec))
  let maps := if gen = 1 then old else us.flatMap (fun u => u.2.maps)
  let pbas := ((maps.map (fun m => m.pba)) ++ o.blocks.map (fun e => e.1)).dedup
  let last := pbas.foldl max 0
  let written := (pbas.map (fun p => (p / 2 ^ 27, p / 2 ^ 15 % 2 ^ 12))).dedup
  let gone := (written.map (fun w => ((zoneOf w.2).map (fun z => z.s)).getD 0)).sum
  { gen := gen, layers := i.layers, discId := i.discId, setLabel := i.setLabel, member := i.member, setSize := i.setSize,
    time := i.time, maps := maps,
    commits := if gen = 1 then [{ nsid := nsid, time := 0, writes := [(0, old.length)] }] else us.flatMap (fun u => u.2.commits),
    keys := us.flatMap (fun u => u.2.keys), unitSeq := us.foldl (fun a u => max a u.1) 0, ledgerSeq := o.ledgerSeq,
    freeUnits := i.layers * unitsPerLayer - o.units.length, blocks := o.blocks.foldl (fun m e => m.ins e.1 e.2) [],
    written := written, units := o.places, layer := last / 2 ^ 27,
    swath := max 32 (last / 2 ^ 15 % 2 ^ 12 + (if pbas = [] then 0 else 1)), blocksLeft := i.layers * 541194 - gone,
    ledgerNext := o.ledgerNext }

/-! ### Mount (R433 to R436) -/

/-- The deck of this device a handle names. -/
def Dev.deckOf (d : Dev) (h : Nat) : Option Nat := if hDev h = d.devNum then deckOfIdx (hIndex h) else none

/-- A Mount, Unmount or Survey waits for its deck. -/
def Dev.addJob (d : Dev) (j : DeckJob) : Dev :=
  if d.host.jobs.any (fun x => x.stamp == j.stamp) then d else { d with host := { d.host with jobs := d.host.jobs ++ [j] } }

/-- A job is over. -/
def Dev.dropJob (d : Dev) (stamp : Nat) : Dev := { d with host := { d.host with jobs := d.host.jobs.filter (fun j => j.stamp != stamp) } }

/-- Writes on the discs that are committed, and those that are not. -/
def writeCounts (maps : List MapRec) (commits : List CommitRec) (nsid : Nat) : Nat × Nat :=
  let wids := ((maps.filter (fun m => m.nsid == nsid)).map (fun m => m.wid)).dedup
  let ok := wids.filter (committedBy maps commits nsid)
  (min ok.length (2 ^ 32 - 1), min (wids.length - ok.length) (2 ^ 32 - 1))

/-- The 64 bytes of a Mount result (R436). -/
def mountResult (d : Dev) (b : BindRec) (s : StripeRec) (h : Nat) (x : Disc) (wrote : Bool) : List Byte :=
  let counts := writeCounts x.maps x.commits b.nsid
  let here := ((d.localMembers s).filter (fun m => (d.deck m.2).mounted == some b.nsid)).length +
    (d.host.away.filter (fun a => a.nsid == b.nsid && s.members.contains a.handle)).length
  slice (le 4 h ++ le 1 x.gen ++ le 1 x.layers ++ le 1 ((s.members.findIdx? (fun m => m == h)).getD 0) ++ le 1 s.members.length ++
    (if x.gen = 1 then List.replicate 16 0 else slice x.discId 0 16) ++ taiBytes false x.time ++
    le 1 (ofB wrote + 2 * ofB (d.ns b.nsid).ready) ++ le 1 here ++ le 4 x.freeUnits ++
    le 8 ((x.maps.filter (fun m => m.nsid == b.nsid)).foldl (fun a m => max a m.wid) 0) ++ le 4 counts.1 ++ le 4 counts.2) 0 64

/-- The disc becomes a member: ledger entry, readiness, result (R434, R644). -/
def mountDone (c : Clock) (stamp h n : Nat) (b : BindRec) (s : StripeRec) (who : Who) (x : Disc) (wrote : Bool) (d : Dev) : Dev :=
  d.ledgered c who 7 1 (b.nsid * 2 ^ 32 + h) zeros48 (sha x.discId) (fun d => (d.dropJob stamp).ends stamp .internalError) (fun d =>
    let d := (d.onDeck n (fun k => { k with
      disc := some x, mounted := some b.nsid, opcFresh := [], gate := { k.gate with emExcl := 0 } })).gateShow n
    let d := nsTry c b.nsid (d.dropJob stamp)
    d.complete stamp .success 0 0 (mountResult d b s h x wrote))

/-- INIT of a blank disc (R435, R102): DISC_ID is drawn, the write entered in the ledger, and the primer write begins. A deck with no
emitter for it leaves the disc blank (R199). DEDUCED, log 42. -/
def primerWrite (c : Clock) (j : DeckJob) (h u : Nat) (b : BindRec) (s : StripeRec) (o : DiscObs) (d : Dev) : Dev :=
  let n := j.deck
  if primerDeck d n = false ∨ bit (d.excluded n) (primerEmitter d n) then (d.dropJob j.stamp).ends j.stamp .deckFault
  else
    let r := d.draw 16
    let i : PrimerInfo := { setLabel := b.label, discId := r.1, layers := o.layers, member := u, setSize := s.members.length,
                            time := d.taiNow c, text := Config.formatText.take 209430 }
    r.2.ledgered c j.who 7 3 (b.nsid * 2 ^ 32 + h) zeros48 (sha r.1) (fun d => (d.dropJob j.stamp).ends j.stamp .internalError)
      (fun d => (primerBegin c n j.stamp i d).addJob j)

/-- A primer write in hand: broken off or not verified, the disc can no longer be made a member; written and verified, it is one (R199,
R435). -/
def primerGoesOn (c : Clock) (j : DeckJob) (h : Nat) (b : BindRec) (s : StripeRec) (q : PrimerNow) (o : DiscObs) (d : Dev) : Dev :=
  let n := j.deck
  let x := discOf 2 q.info b.nsid b { o with units := [], blocks := [] }
  if q.broken || (primerOut q && !o.verified) then
    let d := (primerEnd c n d).onDeck n (fun k => { k with disc := some { x with setLabel := [] } })
    (d.dropJob j.stamp).ends j.stamp .deckFault
  else if primerOut q then mountDone c j.stamp h n b s j.who x true (primerEnd c n d)
  else d

/-- A READY deck's disc is read and made a member (R434, R435). -/
def mountRead (c : Clock) (j : DeckJob) (h u : Nat) (b : BindRec) (s : StripeRec) (o : DiscObs) (d : Dev) : Dev :=
  let n := j.deck
  let ends := fun (st : Sts) (d : Dev) => (d.dropJob j.stamp).ends j.stamp st
  if d.get (Reg.SEQ_STS_GEN n) = 1 then
    let i : PrimerInfo := { setLabel := o.label, discId := [], layers := o.layers, member := o.member,
                            setSize := s.members.length, time := 0, text := [] }
    if o.label ≠ b.label ∨ o.member ≠ u then ends .labelMismatch d
    else mountDone c j.stamp h n b s j.who (discOf 1 i b.nsid b o) false d
  else
    let d := primerMode n 0 (primerMode n 2 d)
    if o.blank then (if j.init then primerWrite c j h u b s o d else ends .blank d)
    else match o.primer.bind primerOf with
      | none => ends .primerUnreadable d
      | some i =>
        if i.setLabel ≠ b.label ∨ i.member ≠ u ∨ i.setSize ≠ s.members.length then ends .labelMismatch d
        else mountDone c j.stamp h n b s j.who (discOf 2 i b.nsid b o) false d

/-- MOUNT (R434): a LOADED deck is loaded; a READY one is read and its disc made a member, once its gleans are over (R175). DEDUCED,
log 88. DEDUCED, log 88. -/
def hostMount (c : Clock) (stamp h : Nat) (init : Bool) (o : DiscObs) (d : Dev) : Dev :=
  d.run stamp .mount (fun x d =>
    match d.bound x.cmd.nsid with
    | none => d.ends stamp .invalidNamespace
    | some (b, s) =>
      match s.members.findIdx? (fun m => m == h), d.deckOf h with
      | none, _ => if isUnit h && (deckOfIdx (hIndex h)).isSome then d.ends stamp .notMember else d.ends stamp .invalidField
      | some _, none => d.onCtx stamp (fun y => { y with phase := .media })
      | some u, some n =>
        let job : DeckJob := { stamp := stamp, cid := x.cid, nsid := b.nsid, deck := n, kind := 0, init := init, who := d.whoOf x.cid rOPERATOR }
        if (d.deck n).mounted.isSome then d.ends stamp .alreadyMounted
        else if d.dstate n = dABSENT then (d.dropJob stamp).ends stamp .noDisc
        else if d.deckDown n then (d.dropJob stamp).ends stamp .deckFault
        else if noGains n d then (d.dropJob stamp).ends stamp .deckFault
        else if d.ledFull then (d.dropJob stamp).ends stamp .internalError
        else match (d.deck n).primer with
          | some q => if q.stamp = stamp then primerGoesOn c job h b s q o d else d.addJob job
          | none =>
            if d.dstate n = dLOADED ∧ (d.deck n).seq.job = 0 then (seqLoad c n 0 true d).addJob job
            else if d.dstate n ≠ dREADY ∨ d.gleaning n then d.addJob job
            else mountRead c job h u b s o d)

/-! ### Unmount (R437, R110) -/

/-- UNMOUNT, in the order of R437: it goes on each time the command is given again, until the deck is parked. A reload that covers the
namespace holds it (R42). -/
def hostUnmount (c : Clock) (stamp h : Nat) (force nopark : Bool) (d : Dev) : Dev :=
  d.run stamp .unmount (fun x d =>
    match d.deckOf h with
    | none => if isUnit h && (deckOfIdx (hIndex h)).isSome && hDev h != d.devNum then d.onCtx stamp (fun y => { y with phase := .media, dw0 := h })
        else d.ends stamp .invalidField
    | some n =>
      let parked := d.dstate n == dLOADED || d.dstate n == dABSENT || d.dstate n == dFAULT
      if d.host.jobs.any (fun j => j.stamp == stamp && j.kind == 3) then
        if parked then (d.dropJob stamp).ends stamp .success else d
      else match (d.deck n).mounted with
        | none => d.ends stamp .notMounted
        | some nsid =>
          let who := d.whoOf x.cid rOPERATOR
          let d := d.addJob { stamp := stamp, cid := x.cid, nsid := nsid, deck := n, kind := 1, force := force, who := who }
          let earlier := d.host.ctxs.any (fun y => decide (y.stamp < stamp) && !Cmd.isAdmin y.cmd.op && y.cmd.nsid == nsid && !y.posted &&
            !(force && Cmd.isWrite y.cmd.op && y.staged))
          if d.reloadHolds nsid then (d.dropJob stamp).onCtx stamp (fun y => { y with phase := .held, why := 3 })
          else if d.ledFull then (d.dropJob stamp).ends stamp .internalError
          else if earlier then d
          else if !force && d.openOn n then
            if bit (d.deck n).gate.hold gLATCHED then d.inhibit n
            else deckWake c n d
          else if (d.deck n).pass.isSome || (d.deck n).unit.isSome then d
          else if d.ledgerDue n && !d.deckDown n && !bit (d.deck n).gate.hold gLATCHED then deckWake c n d
          else
            let d := marginSnap c n d
            let did := match (d.deck n).disc with
              | some y => y.discId
              | none => []
            let d := d.ledAdd c who 7 0 2 (nsid * 2 ^ 32 + h) (sha did) zeros48
            let d := nsLose [nsid] (d.onDeck n (fun k => { k with mounted := none }))
            if nopark || parked then (d.dropJob stamp).ends stamp .success
            else
              let d := seqPark c n d
              { d with host := { d.host with jobs := mapIf (fun j => j.stamp == stamp) (fun j => { j with kind := 3 }) d.host.jobs } })

/-! ### Survey (R438) -/

/-- A histogram of a count over blocks. -/
def histOf (f : SurveyBlk → Option Nat) (l : List SurveyBlk) : FMap Nat :=
  l.foldl (fun m b => match f b with
    | some k => m.ins k (FMap.get (fun _ => 0) m k + 1)
    | none => m) []

/-- The margin counters of a Survey alone. -/
def surveyMargin (l : List SurveyBlk) : Margin :=
  let l := l.filter (fun b => !b.blank)
  { blocks := l.length, darnHist := histOf (fun b => if b.glean = 0 then some b.erasures else none) l,
    gleanHist := histOf (fun b => if 0 < b.glean ∧ b.masked = false then some b.glean else none) l,
    unreadable := (l.filter (fun b => b.masked)).length, miscorr := (l.map (fun b => b.miscorr)).sum,
    overrun := (l.map (fun b => b.overrun)).sum, unchecked := (l.filter (fun b => b.unchecked)).length }

/-- The 16-byte entry of a swath (R438). -/
def surveyEntry (swath : Nat) (l : List SurveyBlk) : List Byte :=
  let r := l.filter (fun b => !b.blank)
  le 2 swath ++ le 2 r.length ++ le 2 (l.length - r.length) ++
    le 1 (((r.filter (fun b => b.glean == 0)).map (fun b => b.erasures)).foldl max 0) ++ le 1 ((r.map (fun b => b.glean)).foldl max 0) ++
    le 2 (r.filter (fun b => b.masked)).length ++ le 2 (r.map (fun b => b.miscorr)).sum ++ le 4 (r.map (fun b => b.slow)).sum

/-- SURVEY: waits while the deck is WRITING; the deck must be READY; a margin snapshot ends it (R176, R438). -/
def hostSurvey (c : Clock) (stamp h layer first last : Nat) (found : List (List SurveyBlk)) (d : Dev) : Dev :=
  d.run stamp .survey (fun _ d =>
    if first < 8 ∨ 2655 < first ∨ last < first ∨ first + 1023 < last ∨ 2655 < last ∨ 31 < layer then d.ends stamp .invalidField
    else match d.deckOf h with
      | none => if isUnit h && (deckOfIdx (hIndex h)).isSome && hDev h != d.devNum then d.onCtx stamp (fun y => { y with phase := .media })
          else d.ends stamp .invalidField
      | some n =>
        if d.dstate n = dABSENT then d.ends stamp .noDisc
        else if d.dstate n = dWRITING then d
        else if d.dstate n ≠ dREADY ∨ d.deckDown n then d.ends stamp .deckFault
        else
          let per := (List.range (last - first + 1)).map (fun i => (first + i, found.getD i []))
          let m := { surveyMargin (per.flatMap (fun p => p.2)) with clrStamp := c.angleStamp n, clrTick := c.tick }
          (marginSnap c n (d.touch n)).complete stamp .success 0 0 (discRecord d n m (c.angleStamp n) c.tick ++ per.flatMap (fun p => surveyEntry p.1 p.2)))

/-- LEDGER_READ (R652). -/
def hostLedgerRead (stamp what start numd : Nat) (d : Dev) : Dev :=
  d.run stamp .ledgerRead (fun _ d =>
    if 2 < what then d.ends stamp .invalidField else d.complete stamp .success 0 0 (ledgerBytes d what start (4 * (numd + 1))))

/-! ### Migrate (R440 to R442) -/

/-- One block of a copy: nothing to copy, a block that could not be read, or its bytes; and the version it comes from. -/
structure MigBlk where
  idx : Nat
  ver : Option Version
  read : Option BlockRead

/-- The blocks of a source range, each from the version a test picks; blocks without one read as zeros or are left out, those of
other devices are as their member sent them (R29). -/
def Dev.migBlocks (d : Dev) (b : BindRec) (pick : Nat → Option Version) (sent : Nat → List Byte) (zero : Bool) (slba nlb : Nat) : List MigBlk :=
  (List.range nlb).map (fun i =>
    match pick (slba + i) with
    | none => ⟨i, none, if zero then some (.data (List.replicate b.lbs 0)) else none⟩
    | some v =>
      if v.away then ⟨i, some v, some (.data (sent i))⟩
      else if v.unread || v.erased b.lbs (slba + i) then ⟨i, some v, some .bad⟩
      else match d.openVersion b.lbs v with
        | .inl o => ⟨i, some v, some (.data (slice o ((slba + i - v.mrec.slba) * b.lbs) b.lbs))⟩
        | .inr e => ⟨i, some v, some (.check v.mrec.pba v.mrec.offset (if e = rCRC then 1 else 2))⟩)

/-- A block that stops a copy or is skipped. -/
def MigBlk.broken (m : MigBlk) : Bool :=
  match m.read with
  | some .bad => true
  | some (.check _ _ _) => true
  | _ => false

/-- Room in the open payload after some pieces. -/
def roomAfter (room : Nat) (l : List Piece) : Nat :=
  l.foldl (fun r p => (if p.fresh then payloadBytes else r) - p.bytes.length) room

/-- Pieces of a copy: streams wholly inside it are kept as they are where `keep` says so, the other blocks are coded again;
`run` holds blocks to code that have been gathered, from index `from'`. -/
def migPieces (g : Coding) (minSave lbs slba tlba room : Nat) (keep : Version → Bool) (from' : Nat) (run : List (List Byte)) : List MigBlk → List Piece
  | [] => packWrite g minSave lbs tlba run.length room from' run
  | m :: t =>
    let flush := packWrite g minSave lbs tlba run.length room from' run
    match m.read with
    | some (.data l) =>
      (match m.ver with
       | some v =>
         if keep v then
           let at' := v.mrec.slba - slba
           if m.idx = at' then
             let r := roomAfter room flush
             let p : Piece := { fresh := decide (r < v.bytes.length), store := v.mrec.store, first := at', blocks := v.mrec.nlb,
                                bytes := v.bytes, asIs := true }
             flush ++ p :: migPieces g minSave lbs slba tlba (roomAfter r [p]) keep 0 [] t
           else migPieces g minSave lbs slba tlba room keep from' run t
         else migPieces g minSave lbs slba tlba room keep (if run = [] then m.idx else from') (run ++ [l]) t
       | none => migPieces g minSave lbs slba tlba room keep (if run = [] then m.idx else from') (run ++ [l]) t)
    | _ => flush ++ migPieces g minSave lbs slba tlba (roomAfter room flush) keep 0 [] t

/-- One write a Migrate issues: source binding and stripe, source range, target block, the version copied with HIST, and how many
blocks the steps before it have. -/
structure MigStep where
  b : BindRec
  s : StripeRec
  slba : Nat
  nlb : Nat
  tlba : Nat
  wid : Option Nat := none
  base : Nat := 0

/-- How far a Migrate has come: writes issued, blocks skipped, why it stopped. -/
structure MigAcc where
  d : Dev
  issued : Nat := 0
  skipped : Nat := 0
  stop : Option Sts := none

/-- The version of a block that a step copies: the newest, or with HIST that of the step's WRITE_ID. -/
def Dev.migPick (d : Dev) (m : MigStep) (lba : Nat) : Option Version :=
  match m.wid with
  | some w => ((d.nsMaps m.s).find? (fun r => r.nsid == m.b.nsid && r.wid == w && decide (r.slba ≤ lba) && decide (lba < r.slba + r.nlb))).map
      (fun r => ((d.localMembers m.s).findSome? (fun e => match (d.deck e.2).disc with
        | some y => if y.maps.contains r then some ((d.deck e.2).version e.2 r) else none
        | none => none)).getD { mrec := r, bytes := [], deck := none, away := true })
  | none => d.versionOf m.s m.b.nsid lba none none

/-- One step: its blocks are read, coded and staged as one atomic write (R441, R442). -/
def migStep (c : Clock) (x : Ctx) (bt : BindRec) (st : StripeRec) (recomp skipBad : Bool) (a : MigAcc) (m : MigStep) : MigAcc :=
  if a.stop.isSome then a
  else if 65536 ≤ a.issued then { a with stop := some .migrateLimit }
  else
    let d := a.d
    let sent := fun (i : Nat) => ((x.parts.find? (fun p => p.1 == m.base + i)).map (fun p => p.2)).getD []
    let blks := d.migBlocks m.b (d.migPick m) sent m.wid.isNone m.slba m.nlb
    let cut := if skipBad then blks else blks.takeWhile (fun e => !e.broken)
    let lost := (cut.filter MigBlk.broken).length
    let zoned := bt.zoned
    let keep := fun (v : Version) => !recomp && !zoned && !v.away && m.b.comp == bt.comp && m.b.enc == bt.enc && (!bt.enc || d.kidOf m.b.nsid == d.kidOf bt.nsid) &&
      decide (m.slba ≤ v.mrec.slba) && decide (v.mrec.slba + v.mrec.nlb ≤ m.slba + cut.length) &&
      (cut.filter (fun e => !e.broken && (e.ver.map (fun w => w.mrec)) == some v.mrec)).length == v.mrec.nlb
    let fill := if zoned then cut.map (fun e => if e.broken then ⟨e.idx, none, some (.data (List.replicate bt.lbs 0))⟩ else e) else cut
    let k := m.tlba / max 1 (zoneSize bt st)
    let zone := if zoned then some k else none
    let room := d.openRoom bt st zone ((d.ns bt.nsid).zone k).wp
    let pieces := migPieces (d.coding bt) (d.get Reg.CMP_CFG_MIN_SAVE) bt.lbs m.slba m.tlba room keep 0 [] fill
    let over' := match blks.find? MigBlk.broken with
      | some e => if skipBad then none else (match e.read with
        | some (.check _ _ _) => some Sts.guardCheck
        | _ => some Sts.sectorUnreadable)
      | none => none
    let d := blks.foldl (fun d e => match e.read with
      | some (.check p o kd) => d.streamCheck c m.b.nsid p o kd
      | _ => d) d
    let j : WriteJob := { b := bt, s := st, slba := m.tlba, nlb := cut.length - lost, wid := x.wid + a.issued, stamp := x.stamp, fua := false,
                          zone := zone, time := m.wid.bind (fun w => commitTime (d.nsCommits m.s) m.b.nsid w), pieces := pieces }
    if pieces = [] then { a with d := d, skipped := a.skipped + lost, stop := over' }
    else match d.stageWrite c j with
      | .inl e => { a with d := d, stop := some e }
      | .inr d =>
        let coded := if (d.coding bt).kind = 0 then 0 else ((pieces.filter (fun p => !p.asIs)).map (fun p => p.blocks * bt.lbs)).sum
        { d := d.engCount x.cid coded, issued := a.issued + 1, skipped := a.skipped + lost, stop := over' }

/-- Ranges cut into writes of at most `most` blocks, their targets one after another (R440, R441). -/
def chunks (most : Nat) : Nat → Nat → Nat → Nat → List (Nat × Nat × Nat)
  | 0, _, _, _ => []
  | f + 1, slba, nlb, t => if nlb = 0 then [] else
    (slba, min nlb most, t) :: chunks most f (slba + most) (nlb - most) (t + most)

/-- The writes of one source range: chunks, or with HIST each committed version in ascending WRITE_ID order (R441). -/
def Dev.migSteps (d : Dev) (hist : Bool) (r : Nat × Nat × Nat) (t : Nat) : List MigStep :=
  match d.bound r.1 with
  | none => []
  | some (b, s) =>
    if hist then
      let maps := d.nsMaps s
      let wids := ((maps.filter (fun m => m.nsid == r.1 && decide (m.slba < r.2.1 + r.2.2) && decide (r.2.1 < m.slba + m.nlb) &&
        committedBy maps (d.nsCommits s) r.1 m.wid)).map (fun m => m.wid)).dedup
      (sortBy (fun (a b : Nat) => decide (a < b)) wids).flatMap (fun w =>
        let mine := maps.filter (fun m => m.nsid == r.1 && m.wid == w)
        let lo := max r.2.1 ((mine.map (fun m => m.slba)).foldl min (2 ^ 64))
        let hi := min (r.2.1 + r.2.2) ((mine.map (fun m => m.slba + m.nlb)).foldl max 0)
        [{ b := b, s := s, slba := lo, nlb := hi - lo, tlba := t + (lo - r.2.1), wid := some w }])
    else (chunks (maxBlocks b) r.2.2 r.2.1 r.2.2 t).map (fun e => { b := b, s := s, slba := e.1, nlb := e.2.1, tlba := e.2.2 })

/-- MIGRATE: checked, then copied write by write; it completes when its writes are committed (R440 to R442). -/
def hostMigrate (c : Clock) (stamp : Nat) (recomp skipBad : Bool) (d : Dev) : Dev :=
  d.run stamp .migrate (fun x d =>
    let srcs := x.cmd.srcs
    let total := (srcs.map (fun r => r.2.2)).sum
    match (if x.cid = seamCid then (if d.nsCg1 x.cmd.nsid then some Sts.writeProtected else none) else d.opStop .migrate x.cmd.nsid),
        d.bound x.cmd.nsid with
    | some st, _ => (d.ends stamp st).settle
    | none, none => (d.ends stamp .invalidNamespace).settle
    | none, some (bt, st) =>
      let hidden := srcs.any (fun r => match d.ctrl x.cid with
        | some k => !d.sees k r.1
        | none => false)
      let zs := zoneSize bt st
      let overlap := srcs.any (fun r => overlaps (false, r.1, r.2.1, r.2.2) (true, x.cmd.nsid, x.cmd.slba, total))
      let lbsBad := srcs.any (fun r => !(d.bound r.1).any (fun p => p.1.lbs64 == bt.lbs64))
      let range := decide (d.nsBlocks bt st < x.cmd.slba + total) || srcs.any (fun r => !(d.bound r.1).any (fun p => decide (r.2.1 + r.2.2 ≤ d.nsBlocks p.1 p.2)))
      let histBad := x.cmd.hist && (bt.zoned || (List.range total).any (fun i => (d.committedOver st bt.nsid (x.cmd.slba + i) none none).isSome))
      let wpBad := bt.zoned && x.cmd.slba != x.cmd.slba / max 1 zs * zs + ((d.ns bt.nsid).zone (x.cmd.slba / max 1 zs)).wp
      if srcs = [] ∨ 256 < srcs.length then (d.ends stamp .invalidField).settle
      else if hidden ∨ srcs.any (fun r => (d.bound r.1).isNone) then (d.ends stamp .invalidNamespace).settle
      else match srcs.findSome? (fun r => d.nsStop r.1) with
        | some e => (d.ends stamp e).settle
        | none =>
          if lbsBad ∨ overlap ∨ histBad ∨ wpBad then (d.ends stamp .invalidField).settle
          else if range then (d.ends stamp .lbaRange).settle
          else
            let starts := srcs.foldl (fun (acc : List Nat × Nat) r => (acc.1 ++ [acc.2], acc.2 + r.2.2)) ([], x.cmd.slba)
            let steps := ((srcs.zip starts.1).flatMap (fun p => d.migSteps x.cmd.hist p.1 p.2)).foldl
              (fun (acc : List MigStep × Nat) m => (acc.1 ++ [{ m with base := acc.2 }], acc.2 + m.nlb)) ([], 0) |>.1
            let decks := (srcs.flatMap (fun r => match d.bound r.1 with
              | some (b, s) => if x.cmd.hist then (d.localMembers s).map (fun m => m.2) else d.readDecks b s none none r.2.1 r.2.2
              | none => [])).dedup
            if decks.any d.deckDown then (d.ends stamp .notReady).settle
            else if steps.any (fun m => (List.range m.nlb).any (fun i => (d.migPick m (m.slba + i)).any (fun v => v.away) &&
                !x.parts.any (fun p => p.1 == m.base + i))) then
              d.onCtx stamp (fun y => { y with phase := .media, why := 7 })
            else
            let d := decks.foldl (fun d n => deckWake c n d) d
            if decks.any (fun n => d.dstate n != dREADY && d.dstate n != dWRITING) then
              d.onCtx stamp (fun y => { y with phase := .held, why := 5 })
            else if steps.any (fun m => (List.range m.nlb).any (fun i => (d.migPick m (m.slba + i)).any (fun v => v.unread))) then
              d.onCtx stamp (fun y => { y with phase := .media, why := 8 })
            else
              let a := steps.foldl (migStep c x bt st recomp skipBad) { d := d }
              let m : Mig := { stamp := stamp, issued := a.issued, skipped := a.skipped, status := a.stop.getD .success }
              let d := a.d.onCtx stamp (fun y => { y with phase := .media, why := 0 })
              ({ d with host := { d.host with migs := d.host.migs ++ [m] } } : Dev).migDone stamp)

/-! ### The other members of a sheaf (R29, R30, R107, R108) -/

/-- SHEAF_FORWARD: the streams of a write that the root has staged for decks of this device are staged here, under its WRITE_ID
(R29, R107); a CG1 disc takes none (R1). DEDUCED, log 57. -/
def forwardStreams (c : Clock) (slba nlb : Nat) (time : Option Nat) (l : List SentStm) (d : Dev) : Dev :=
  let exts := l.map (fun x => (x.deck % 16, x.num, x.fresh, ({ mrec := mapRecOf x.mrec, bytes := x.bytes } : Stm)))
  match d.plait, exts with
  | some _, e :: _ =>
    let nsid := e.2.2.2.mrec.nsid
    if d.nsCg1 nsid then d
    else
      let d := exts.foldl (fun d x => queueStm x.1 x.2.1 none x.2.2.1 x.2.2.2 d) d
      let w : Wr := { wid := e.2.2.2.mrec.wid, nsid := nsid, slba := slba, nlb := nlb, stamp := 2 ^ 64 + d.host.mtag, fua := false,
                      exts := exts.map (fun x => (x.1, x.2.2.2)), time := time, done := true }
      let d := { d with host := { d.host with mtag := d.host.mtag + 1, writes := d.host.writes ++ [w] } }
      (exts.map (fun x => x.1)).dedup.foldl (fun d n => deckWake c n d) d
  | _, _ => d

/-- SHEAF_FORWARD: what the discs of another device say of a namespace (R104, R108). -/
def forwardUnits (dev nsid : Nat) (l : List (List Byte)) (d : Dev) : Dev :=
  let us := l.filterMap unitOf
  let p : PeerRecs := { dev := dev, nsid := nsid, maps := us.flatMap (fun u => u.2.maps), commits := us.flatMap (fun u => u.2.commits) }
  { d with host := { d.host with peers := d.host.peers.filter (fun x => !(x.dev == dev && x.nsid == nsid)) ++ [p] } }

/-- What the root keeps of a member's answer: a Mount there makes its disc a member of the namespace, an Unmount ends that
(R29, R436). -/
def noteAnswer (c : Clock) (stamp : Nat) (st : Sts) (data : List Byte) (d : Dev) : Dev :=
  match d.ctx stamp with
  | none => d
  | some x =>
    let h := leAt data 0 4
    let rest := d.host.away.filter (fun a => a.handle != h)
    if st ≠ .success then d
    else if x.cmd.op = .mount then
      let a : AwayDisc := { handle := h, nsid := x.cmd.nsid, gen := leAt data 4 1, layers := leAt data 5 1, top := leAt data 40 8 }
      nsTry c x.cmd.nsid { d with host := { d.host with away := rest ++ [a] } }
    else if x.cmd.op = .unmount then
      let gone := (d.host.away.filter (fun a => a.handle == x.dw0)).map (fun a => a.nsid)
      nsLose gone { d with host := { d.host with away := d.host.away.filter (fun a => a.handle != x.dw0) } }
    else d

end Sys2Proof.Machine
end

