-- ==== Sys2Proof/Machine/HostAdmin.lean ====
section
/-! DEFINITION. Machine/HostAdmin.lean: admin commands, controllers and their resets, firmware activation, the ports and time
(spec files 12 and 13, R383 to R432). -/

namespace Sys2Proof.Machine

/-! ### Controllers (R394, R396, R426) -/

/-- Whether the boot has ended (R660). -/
def Dev.booted (d : Dev) : Bool := decide (9 ≤ d.get Reg.MGMT_BOOT_STS_STAGE)

/-- Controllers at most (R394), queue pairs beyond the guaranteed one (R396), fabric connections (R390). -/
def maxCtrls : Nat := 2048
def poolPairs : Nat := 14336
def maxAdminConns : Nat := 2048
def maxIoConns : Nat := 16384

/-- Pairs left in the pool. -/
def Dev.pairsLeft (d : Dev) : Nat := poolPairs - (d.ctrls.map (fun k => k.pairs - 1)).sum

/-- Most pairs of a controller (R396). -/
def Ctrl.cap (k : Ctrl) : Nat := if k.kind = 0 then 1024 else if k.kind = 1 then 64 else 128

/-- Whether a part of a write is bound to a swath or on the medium. -/
def Dev.inMedia (d : Dev) (w : Wr) : Bool :=
  w.described ≠ [] || w.exts.any (fun e => decide (16 ≤ e.1) || (d.deck e.1).bound.any (fun b => b.2.streams.any (fun x => x.mrec == e.2.mrec)) ||
    (d.deck e.1).placed.contains e.2.mrec)

/-- What a reset does to one command of its controller (R426). -/
def resetCtx (d : Dev) (x : Ctx) : Dev :=
  let drop := d.jobGone x.stamp |> fun d => { d with
    host := { d.host with ctxs := d.host.ctxs.filter (fun y => y.stamp != x.stamp) } }
  let mute := d.onCtx x.stamp (fun y => { y with mute := true })
  if x.phase = .held ∧ x.why ≠ 5 then drop
  else match x.cmd.op with
    | .write => if x.phase = .staged ∨ x.phase = .media ∨ x.staged then mute else drop
    | .zoneAppend => if x.phase = .staged ∨ x.phase = .media ∨ x.staged then mute else drop
    | .migrate =>
      let gone := d.host.writes.filter (fun w => w.stamp == x.stamp && !d.inMedia w)
      let d := gone.foldl (fun d w => dropWrite w.nsid w.wid d) mute
      d.migDone x.stamp
    | .mount => mute
    | .unmount => mute
    | .fwCommit => mute
    | .plaitLoad => mute
    | _ => drop

/-- A controller reset: its commands end by phase, its queues go, its pairs return to the pool; an outstanding vendor event
stays armed (R396, R426, R675). -/
def ctrlReset (cid : Nat) (d : Dev) : Dev :=
  let d := (d.host.ctxs.filter (fun x => x.cid == cid)).foldl resetCtx d
  let failed := d.mstate == mFAILED
  d.onCtrl cid (fun k => { k with
    enabled := false, ready := false, fatal := k.fatal && failed, sqs := [], cqs := [], pairs := 1, aers := [],
    vendor := if k.vendor = 2 then 1 else k.vendor, events := k.events.map (fun e => (e.1, e.2.1, e.2.2.1, false)),
    feats := [], props := [], ps := 0, lastOp := 0, shadow := none })

/-- A controller's HQ fields return to their reset values; the tenant's share stays with its other controllers (R432, R450).
DEDUCED, log 83. -/
def ctrlFields (cid : Nat) (d : Dev) : Dev :=
  let ten := d.tenant cid
  let other := d.ctrls.find? (fun k => k.id != cid && d.tenant k.id == ten)
  let both := fun (d : Dev) (f : Fld) (v : Nat) => d.setBoth f v
  let share := d.get (Reg.HQ_TEN_SHARE_CMP_SHARE.sel ten)
  let d := both (both d (Reg.HQ_CTL_BUDGET_INFLIGHT.sel cid) 4096) (Reg.HQ_CTL_BUDGET_BW_SHARE.sel cid) 0
  match other with
  | some k => if ten = cid then both (both d (Reg.HQ_TEN_SHARE_CMP_SHARE.sel cid) 0) (Reg.HQ_TEN_SHARE_CMP_SHARE.sel k.id) share else d
  | none => both d (Reg.HQ_TEN_SHARE_CMP_SHARE.sel ten) 0

/-- A controller ceases to exist: its association or function ends. -/
def ctrlGone (cid : Nat) (d : Dev) : Dev :=
  let d := ctrlFields cid (ctrlReset cid d)
  { d with
    ctrls := d.ctrls.filter (fun k => k.id != cid),
    sec := { d.sec with sessions := d.sec.sessions.filter (fun s => !(s.transport == 0 && s.owner == cid)) } }.refreshSessions

/-- A controller's reset, or for a fabric controller the end of its association (R408, R426). -/
def ctrlEnd (cid : Nat) (d : Dev) : Dev :=
  match d.ctrl cid with
  | some k => if k.kind = 2 then ctrlGone cid d else ctrlReset cid d
  | none => d

/-- NVM_SUBSYSTEM_RESET: as a controller reset on every controller; a fabric controller's association ends with it. -/
def subsystemReset (d : Dev) : Dev := (d.ctrls.filter (fun k => k.kind != 3)).foldl (fun d k => ctrlEnd k.id d) d

/-- Keep Alive Timeout of a controller in ticks, in steps of 100 ms (R402); 0 where its timer does not run.
DEDUCED, log 106. -/
def Ctrl.kato (k : Ctrl) : Nat := cdiv (FMap.get Config.featDefault k.feats 0x0F) 100 * 100 * tickMs

/-- KEEP_ALIVE_EXPIRY: the timeout has passed with no command of the controller; the timers pause during an activation (R408, R427). -/
def keepAliveExpiry (c : Clock) (cid : Nat) (d : Dev) : Dev :=
  if d.host.act.isSome ∨ (d.ctrl cid).any (fun k => k.kato == 0 || decide (c.tick < k.kaTick + k.kato)) then d else ctrlEnd cid d

/-- A new controller with the roles of its identity. -/
def Dev.addCtrl (d : Dev) (k : Ctrl) : Dev :=
  let pol := match d.plait with
    | some p => p.policy
    | none => []
  if (d.ctrl k.id).isSome then d else { d with ctrls := d.ctrls ++ [k.withPolicy pol] }

/-- The controller of a PCIe function (R394): id, link, function, reset values. -/
def pcieCtrl (link fn : Nat) : Ctrl :=
  { id := if fn = 0 then 1 + link else 0x100 * (link + 1) + fn, kind := if fn = 0 then 0 else 1, link := link, fn := fn, port := link }

/-- Most virtual functions of a link (R383). -/
def Dev.vfs (d : Dev) (link : Nat) : Nat := if d.host.split then (if link = 0 then 128 else 127) else if link = 0 then 255 else 0

/-- CONTROLLER_ENABLE: CC.EN on a PCIe function; ready once the boot has ended (R394, R660). A virtual function comes to
exist with it; the minimal structure has none (R39). DEDUCED, log 49. -/
def controllerEnable (c : Clock) (link fn : Nat) (d : Dev) : Dev :=
  let k := pcieCtrl link fn
  let exists' := (d.ctrl k.id).isSome
  let may := bit d.host.links link && bit (d.get Reg.PWR_DOM_STS_ON) 4 &&
    (if fn = 0 then link == 0 || d.host.split else d.plait.isSome && decide (fn ≤ d.vfs link) && (exists' || decide (d.ctrls.length < maxCtrls)))
  if !may || d.pwr.mode == .deep then d
  else
    let d := (d.activity.addCtrl k).refreshSessions
    d.onCtrl k.id (fun k => { k with enabled := true, ready := d.booted, kaTick := c.tick })

/-- PCIE_LINK_DOWN: each controller on the link is reset (R408). -/
def pcieLinkDown (link : Nat) (d : Dev) : Dev :=
  let d := (d.ctrls.filter (fun k => decide (k.kind ≤ 1) && k.link == link)).foldl (fun d k => ctrlReset k.id d) d
  { d with host := { d.host with links := clrBit d.host.links link } }

/-- PERST_RELEASE: link training begins when the PCIE domain is up; the links it brings up (R383, R660). -/
def perstRelease (links : Nat) (d : Dev) : Dev :=
  let d := { d with host := { d.host with perst := true } }
  if bit (d.get Reg.PWR_DOM_STS_ON) 4 then
    { d with host := { d.host with links := links % (if d.host.split then 4 else 2) } } else d

/-! ### Fabric associations (R388 to R390, R394, R408) -/

/-- Sub-ports of a port under its MODE (R387). -/
def subPorts (mode : Nat) : Nat := if mode = 0 then 1 else if mode = 1 then 2 else if mode = 2 then 4 else 0

/-- Whether a sub-port exists and has link. -/
def Dev.ethUp (d : Dev) (p s : Nat) : Bool :=
  d.getB (Reg.MGMT_ETH_CFG_EN p) && decide (s < subPorts (d.get (Reg.MGMT_ETH_CFG_MODE p))) && bit (d.get (Reg.MGMT_ETH_CFG_LINK p)) s

/-- Whether the plait requires TLS on a sub-port (R629). -/
def Dev.tlsReq (d : Dev) (p s : Nat) : Bool :=
  match d.plait with
  | some q => q.policy.any (fun e => e.kind == 5 && bit e.tls (4 * p + s))
  | none => false

/-- The lowest free fabric controller id. -/
def Dev.freeCid (d : Dev) : Nat :=
  ((List.range (d.ctrls.length + 1)).map (fun i => 0x1000 + i)).find? (fun i => (d.ctrl i).isNone) |>.getD 0x1000

/-- FABRICS_CONNECT: transport 1 TCP or 2 RDMA on sub-port s of port p; tls 0 none, 1 agreed, else a failed handshake with
an alert; an admin queue makes a controller, an I/O queue joins one (R388, R390, R394, R396, R408, R627). -/
def fabricsConnect (c : Clock) (transport p s : Nat) (nqn : List Byte) (discovery : Bool) (cid qid tls alert : Nat) (authed : Bool)
    (d : Dev) : Dev :=
  if !d.ethUp p s || !d.booted || d.plait.isNone || d.pwr.mode == .deep || !bit (d.get Reg.PWR_DOM_STS_ON) 5 then d
  else
    let d := d.activity.wakeBy Reg.PWR_WAKE_STS_COMMAND
    let refuse := fun (st : Sts) (d : Dev) => { d with host := { d.host with posted := d.host.posted ++ [
      { stamp := 0, cid := 0xFFFF, status := st }] } }
    if tls ≥ 2 ∨ (d.tlsReq p s ∧ tls = 0) ∨ (tls = 1 ∧ d.get Reg.SEC_STS_STATE = 3) then
      d.fault c .device { cls := 8, code := 1, sev := 1, detail := [BitVec.ofNat 8 (2 + 4 * p + s), 0, 0, 0, BitVec.ofNat 8 alert] }
    else if qid = 0 then
      if maxCtrls ≤ (d.ctrls.filter (fun k => k.kind != 3)).length ∨ maxAdminConns ≤ (d.ctrls.filter (fun k => k.kind == 2)).length then
        refuse .controllerBusy d
      else
        let k : Ctrl := { id := d.freeCid, kind := 2, transport := transport, port := 2 + 4 * p + s, discovery := discovery,
                          nqn := slice nqn 0 48, authed := authed || tls == 1, tls := tls == 1, kaTick := c.tick }
        d.addCtrl k
    else match d.ctrl cid with
      | none => refuse .invalidParameter d
      | some k =>
        if k.kind ≠ 2 ∨ !k.ready ∨ k.nqn ≠ slice nqn 0 48 ∨ k.pairs < qid ∨ k.sqs.any (fun q => q.1 == qid) then refuse .invalidParameter d
        else if maxIoConns ≤ (d.ctrls.map (fun k => if k.kind = 2 then k.sqs.length else 0)).sum then refuse .controllerBusy d
        else d.onCtrl cid (fun k => { k with sqs := k.sqs ++ [(qid, qid)], cqs := k.cqs ++ [(qid, 0)] })

/-- FABRIC_CONNECTION_LOSS: the association ends (R408, R426). -/
def fabricLoss (cid : Nat) (d : Dev) : Dev :=
  match d.ctrl cid with
  | some k => if k.kind = 2 then ctrlGone cid d else d
  | none => d

/-- Every connection that runs TLS ends (R641, R643). -/
def tlsGone (d : Dev) : Dev := (d.ctrls.filter (fun k => k.kind == 2 && k.tls)).foldl (fun d k => ctrlGone k.id d) d

/-! ### Queues and properties (R396, R397) -/

/-- An admin command of a controller: its context and controller. -/
def Dev.admin (stamp : Nat) (op : Cmd) (f : Ctx → Ctrl → Dev → Dev) (d : Dev) : Dev :=
  d.run stamp op (fun x d => match d.ctrl x.cid with
    | some k => f x k d
    | none => d)

/-- INVALID_OPCODE (R397). -/
def invalidOpcode (stamp : Nat) (d : Dev) : Dev :=
  (d.run stamp .otherAdmin (fun _ d => d.ends stamp .invalidOpcode)).run stamp .otherIo (fun _ d => d.ends stamp .invalidOpcode)

/-- Most entries of a queue (R396). -/
def maxDepth : Nat := 4096

/-- MSI-X vectors of a controller (R386). -/
def Ctrl.vectors (k : Ctrl) : Nat := if k.kind = 0 then 2048 else 65

/-- CREATE_IO_COMPLETION_QUEUE. -/
def createCq (stamp qid size vec : Nat) (d : Dev) : Dev :=
  d.admin stamp .createCq (fun x k d =>
    if 2 ≤ k.kind then d.ends stamp .invalidOpcode
    else if qid = 0 ∨ k.pairs < qid ∨ k.cqs.any (fun q => q.1 == qid) ∨ size < 2 ∨ maxDepth < size then d.ends stamp .invalidQueue
    else if k.vectors ≤ vec then d.ends stamp .invalidField
    else (d.onCtrl x.cid (fun k => { k with cqs := k.cqs ++ [(qid, vec)] })).ends stamp .success)

/-- CREATE_IO_SUBMISSION_QUEUE. PRESUMED, log 48. -/
def createSq (stamp qid size cq : Nat) (d : Dev) : Dev :=
  d.admin stamp .createSq (fun x k d =>
    if 2 ≤ k.kind then d.ends stamp .invalidOpcode
    else if qid = 0 ∨ k.pairs < qid ∨ k.sqs.any (fun q => q.1 == qid) ∨ size < 2 ∨ maxDepth < size ∨ !k.cqs.any (fun q => q.1 == cq)
      then d.ends stamp .invalidQueue
    else (d.onCtrl x.cid (fun k => { k with sqs := k.sqs ++ [(qid, cq)] })).ends stamp .success)

/-- DELETE_IO_SUBMISSION_QUEUE. -/
def deleteSq (stamp qid : Nat) (d : Dev) : Dev :=
  d.admin stamp .deleteSq (fun x k d =>
    if 2 ≤ k.kind then d.ends stamp .invalidOpcode
    else if !k.sqs.any (fun q => q.1 == qid) then d.ends stamp .invalidQueue
    else (d.onCtrl x.cid (fun k => { k with sqs := k.sqs.filter (fun q => q.1 != qid) })).ends stamp .success)

/-- DELETE_IO_COMPLETION_QUEUE: not while a submission queue uses it. -/
def deleteCq (stamp qid : Nat) (d : Dev) : Dev :=
  d.admin stamp .deleteCq (fun x k d =>
    if 2 ≤ k.kind then d.ends stamp .invalidOpcode
    else if !k.cqs.any (fun q => q.1 == qid) ∨ k.sqs.any (fun q => q.2 == qid) then d.ends stamp .invalidQueue
    else (d.onCtrl x.cid (fun k => { k with cqs := k.cqs.filter (fun q => q.1 != qid) })).ends stamp .success)

/-- DOORBELL_BUFFER_CONFIG: on a virtual function (R397). -/
def doorbellConfig (stamp shadow eventidx : Nat) (d : Dev) : Dev :=
  d.admin stamp .doorbellConfig (fun x k d =>
    if k.kind ≠ 1 then d.ends stamp .invalidOpcode
    else (d.onCtrl x.cid (fun k => { k with shadow := some (shadow, eventidx) })).ends stamp .success)

/-- Controller properties by offset: CAP (TO 30, MQES 4,095), VS, CC, CSTS (R396, R403, R660). -/
def ctrlProp (k : Ctrl) (off : Nat) : Nat :=
  if off = 0 then 4095 + 2 ^ 24 * 30
  else if off = 8 then 0x00020000
  else if off = 0x1C then ofB k.ready + 2 * ofB k.fatal
  else FMap.get (fun _ => 0) k.props off

/-- PROPERTY_GET, on a fabric controller. -/
def propertyGet (stamp off : Nat) (d : Dev) : Dev :=
  d.admin stamp .propertyGet (fun _ k d =>
    if k.kind ≠ 2 then d.ends stamp .invalidOpcode
    else d.complete stamp .success (ctrlProp k off % 2 ^ 32) (ctrlProp k off / 2 ^ 32) [])

/-- PROPERTY_SET: a CC with EN set enables the controller, one with EN clear resets it. -/
def propertySet (c : Clock) (stamp off v : Nat) (d : Dev) : Dev :=
  d.admin stamp .propertySet (fun x k d =>
    if k.kind ≠ 2 then d.ends stamp .invalidOpcode
    else if off = 0x14 ∧ v % 2 = 0 ∧ k.enabled then ctrlReset x.cid (d.ends stamp .success)
    else
      let d := d.onCtrl x.cid (fun k => { k with props := k.props.ins off v })
      let d := if off = 0x14 ∧ v % 2 = 1 then d.onCtrl x.cid (fun k => { k with enabled := true, ready := d.booted, kaTick := c.tick }) else d
      d.ends stamp .success)

/-- AUTHENTICATION_SEND: the DH-HMAC-CHAP exchange goes on, ends well, or fails (R388, R627). -/
def authSend (stamp outcome : Nat) (d : Dev) : Dev :=
  d.admin stamp .authSend (fun x k d =>
    if k.kind ≠ 2 then d.ends stamp .invalidOpcode
    else
      let d := if outcome = 1 then (d.onCtrl x.cid (fun k => { k with authed := true })).refreshRoles
        else if outcome = 2 then (d.onCtrl x.cid (fun k => { k with authed := false })).refreshRoles else d
      d.ends stamp .success)

/-- AUTHENTICATION_RECEIVE: the controller's message of the exchange. -/
def authReceive (stamp : Nat) (d : Dev) : Dev :=
  d.admin stamp .authReceive (fun _ k d =>
    if k.kind ≠ 2 then d.ends stamp .invalidOpcode
    else
      let r := d.draw 48
      r.2.complete stamp .success 0 0 r.1)

/-! ### Log pages (R399 to R401, R514, R672) -/

/-- Bytes of a structure: given parts at their offsets, the rest as a function of the offset says. DESIGN CHOICE, log 47. -/
def patched (n : Nat) (rest : Nat → Byte) (parts : List (Nat × List Byte)) : List Byte :=
  (List.range n).map (fun i => match parts.find? (fun p => decide (p.1 ≤ i) && decide (i < p.1 + p.2.length)) with
    | some p => p.2.getD (i - p.1) 0
    | none => rest i)

/-- The hottest die, in °C. -/
def Dev.hottest (d : Dev) : Int := (((List.range 5).map (fun i => d.getI (Reg.PWR_THERM_TJ i))).foldl max (-128))

/-- SMART / Health: critical warnings (R576, R673), composite temperature in kelvin, Percentage Used 0. PRESUMED, log 46. -/
def smartPage (d : Dev) : List Byte :=
  let rel := d.mstate == mFAILED || bit (d.get Reg.PWR_RET_FAIL_FAIL) 16 || bit (d.get Reg.PWR_RET_FAIL_FAIL) 17
  patched 512 (Config.logByte 2) [(0, le 1 (2 * d.get Reg.PWR_STATE_STS_THROTTLE + 4 * ofB rel)), (1, le 2 (d.hottest + 273).toNat), (5, [0])]

/-- One entry of log page 0xC2 (R401). DEDUCED, log 45. -/
def deckEntry (d : Dev) (n : Nat) : List Byte :=
  let flags := d.get (Reg.SEQ_STS_CHARGE n) + 2 * d.get (Reg.SLD_STS_POS_OK n) + 4 * d.get (Reg.LOOP_ENG_STS_SAFE n) +
    8 * d.get (Reg.WRP_GATE_STS_CLOSED n) + 16 * d.get (Reg.SPN_STS_BRK_SHORT n)
  let owner := match d.plait.bind (fun p => p.ownerOf n) with
    | some r => mkHandle d.devNum r.tiller
    | none => mkHandle d.devNum 0
  let id := match (d.deck n).disc with
    | some x => x.discId
    | none => []
  slice (le 1 (d.dstate n) ++ le 1 (d.get (Reg.SEQ_STS_CAUSE n)) ++ le 1 (d.get (Reg.SEQ_STS_GEN n)) ++
    le 1 (d.get (Reg.SEQ_STS_LAYER n)) ++ le 2 (ux 16 (d.spnRpm n)) ++ le 2 flags ++ slice id 0 16 ++ le 4 owner) 0 32

/-- Firmware Slot Information: the slot in force and the one for the next reset. -/
def fwSlotPage (d : Dev) : List Byte :=
  let next := match selNow d.flash.fwSel with
    | some s => if s.2.1 = d.host.fwSlot then 0 else s.2.1
    | none => 0
  patched 512 (Config.logByte 3) [(0, le 1 (d.host.fwSlot + 16 * next))]

/-- Sanitize Status: progress and state (0 never, 1 done, 2 in progress). -/
def sanitizePage (d : Dev) : List Byte :=
  let st := if d.host.sanitize = 1 then 2 else if d.host.sanitize = 2 then 1 else 0
  patched 512 (Config.logByte 0x81) [(0, le 2 (if st = 2 then 0 else 0xFFFF)), (2, le 2 st)]

/-- Changed Namespace List. DEDUCED, log 49. -/
def changedPage (d : Dev) : List Byte :=
  let l := if 1024 < d.host.changed.length then [0xFFFFFFFF] else d.host.changed
  padTo 4096 (l.flatMap (le 4))

/-- The bytes of a supported log page, or why not (R399). -/
def logPage (d : Dev) (k : Ctrl) (lid lsi : Nat) : List Byte ⊕ Sts :=
  if d.pwr.mode = .recovery ∧ lid ≠ 3 then .inr .invalidLogPage
  else match lid with
    | 0x01 => .inl (patched 16384 (Config.logByte 1) [])
    | 0x02 => .inl (smartPage d)
    | 0x03 => .inl (fwSlotPage d)
    | 0x04 => .inl (changedPage d)
    | 0x05 => .inl (patched 4096 (Config.logByte 5) [])
    | 0x70 => if k.discovery then .inl (patched 1024 (Config.logByte 0x70) []) else .inr .invalidLogPage
    | 0x81 => .inl (sanitizePage d)
    | 0xBF => .inl (List.replicate 4096 0)
    | 0xC0 => if 15 < lsi then .inr .invalidField else .inl (slice (d.deck lsi).snap 0 4352)
    | 0xC1 => .inl d.flt.page
    | 0xC2 => .inl ((List.range 16).flatMap (deckEntry d))
    | 0xC3 => .inl (memLogPage d)
    | _ => .inr .invalidLogPage

/-- GET_LOG_PAGE: identifier, Log Specific Parameter and Identifier, offset and length in bytes, Retain Asynchronous Event
(R399, R400, R670, R672, R673). -/
def getLogPage (c : Clock) (stamp lid lsp lsi ofst len : Nat) (rae : Bool) (d : Dev) : Dev :=
  d.admin stamp .getLogPage (fun x k d =>
    let d := if lid = 0xC0 ∧ lsp % 2 = 1 ∧ lsi ≤ 15 then marginSnap c lsi d else d
    match logPage d k lid lsi with
    | .inr st => d.ends stamp st
    | .inl l =>
      if l.length < ofst then d.ends stamp .invalidField
      else
        let d := if rae then d
          else if lid = 0xC1 then
            ({ d with flt := d.flt.ackSpan ofst len }).onCtrl x.cid (fun k => { k with vendor := 0 })
          else
            let d := if lid = 0x04 then { d with host := { d.host with changed := [] } } else d
            d.onCtrl x.cid (fun k => { k with events := k.events.filter (fun e => e.2.2.1 != lid) })
        d.complete stamp .success 0 0 (slice l ofst len))

/-- ASYNCHRONOUS_EVENT_REQUEST: waits for an event, or takes the first that waits (R673). PRESUMED, log 46. -/
def asyncEvent (stamp : Nat) (d : Dev) : Dev :=
  d.admin stamp .asyncEvent (fun x _ d =>
    ((d.onCtx stamp (fun y => { y with phase := .media })).onCtrl x.cid (fun k => { k with aers := k.aers ++ [stamp] })).deliver)

/-- ABORT: takes effect on a command in HELD only (R425). -/
def hostAbort (stamp target : Nat) (d : Dev) : Dev :=
  d.admin stamp .abort (fun x _ d =>
    match d.ctx target with
    | some y =>
      if y.phase = .held ∧ y.cid = x.cid then (d.ends target .abortRequested).complete stamp .success 0 0 []
      else d.complete stamp .success 1 0 []
    | none => d.complete stamp .success 1 0 [])

/-! ### Identify (R403 to R407) -/

/-- An ASCII text padded with spaces. -/
def ascii (n : Nat) (l : List Nat) : List Byte := (l.map (BitVec.ofNat 8)) ++ List.replicate (n - l.length) 0x20

/-- "ROANASYN JORRUN J9640". -/
def modelText : List Nat := [0x52, 0x4F, 0x41, 0x4E, 0x41, 0x53, 0x59, 0x4E, 0x20, 0x4A, 0x4F, 0x52, 0x52, 0x55, 0x4E, 0x20, 0x4A, 0x39,
  0x36, 0x34, 0x30]

/-- "nqn.2024-03.com.roanasyn:jorrun:j9640:" (R395). -/
def nqnText : List Nat := [0x6E, 0x71, 0x6E, 0x2E, 0x32, 0x30, 0x32, 0x34, 0x2D, 0x30, 0x33, 0x2E, 0x63, 0x6F, 0x6D, 0x2E, 0x72, 0x6F,
  0x61, 0x6E, 0x61, 0x73, 0x79, 0x6E, 0x3A, 0x6A, 0x6F, 0x72, 0x72, 0x75, 0x6E, 0x3A, 0x6A, 0x39, 0x36, 0x34, 0x30, 0x3A]

/-- The serial number: bits 0 to 159 of the factory bank (R609). -/
def serialText : List Byte := (List.range 20).map (fun i => Config.fuseByte i)

/-- A power state descriptor (R407): MP in 0.01 W, NOPS, ENLAT, EXLAT, the four relative numbers. -/
def psDesc (mp nops en ex r : Nat) : List Byte := padTo 32 (le 2 mp ++ [0, BitVec.ofNat 8 (2 * nops)] ++ le 4 en ++ le 4 ex ++ le 1 r ++ le 1 r ++ le 1 r ++ le 1 r)

/-- The power state table (R407). -/
def psTable : List Byte := psDesc 25000 0 0 0 0 ++ psDesc 18000 0 100 100 1 ++ psDesc 12000 0 100 100 2 ++ psDesc 600 1 1000 300 3 ++
  psDesc 80 1 8000000 6540000 4

/-- The word in force of MGMT.PLAIT_STS. -/
def Dev.plaitStsWord (d : Dev) : Nat := d.wordInForce Reg.MGMT_PLAIT_STS_REJ.off

/-- Identify Controller (R395, R396, R403, R407, R427); fields at the offsets NVM Express gives them. PRESUMED, log 46. -/
def identifyCtrl (c : Clock) (d : Dev) (k : Ctrl) : List Byte :=
  let build := match d.plait with
    | some p => p.buildId
    | none => 0
  patched 4096 (fun i => if 3072 ≤ i then 0 else Config.identifyByte 1 i) [
    (0, le 2 0x1F9A), (2, le 2 0x1F9A), (4, serialText), (24, ascii 40 modelText), (77, [10]), (78, le 2 k.id), (80, le 4 0x00020000),
    (256, le 2 0x145), (263, [4]), (270, le 2 5), (320, le 2 1), (328, le 4 1), (514, le 2 4096), (516, le 4 0xFFFFFFFE),
    (520, le 2 0xC1), (525, [1]), (526, le 2 1023), (528, le 2 1023), (536, le 4 2), (768, padTo 256 ((nqnText.map (BitVec.ofNat 8)) ++ serialText)),
    (2048, psTable),
    (3072, le 4 (mkHandle d.devNum 0)), (3076, [0xC2]), (3077, [16]), (3078, le 2 0x9640), (3080, le 8 build), (3088, le 4 d.plaitStsWord),
    (3092, le 4 (c.tick / 2 ^ 32)), (3096, taiBytes false d.host.tai)]

/-- Stored and reserved bytes of a namespace, or blocks written to its zones (R405). -/
def nsUse (d : Dev) (b : BindRec) : Nat :=
  if b.zoned then ((d.ns b.nsid).zones.map (fun e => e.2.wp)).sum else cdiv (d.ns b.nsid).used b.lbs

/-- Identify Namespace (R404, R405). -/
def identifyNs (d : Dev) (b : BindRec) (s : StripeRec) : List Byte :=
  let mounted := (d.localMembers s).filter (fun m => (d.deck m.2).mounted == some b.nsid)
  let size := d.nsBlocks b s
  let aw := if b.lbs64 then 63 else 1023
  patched 4096 (fun i => if 3840 ≤ i then 0 else Config.identifyByte 0 i) [
    (0, le 8 size), (8, le 8 size), (16, le 8 (nsUse d b)), (24, [2]), (26, [BitVec.ofNat 8 (ofB b.lbs64)]), (34, le 2 aw), (36, le 2 aw),
    (99, [BitVec.ofNat 8 (ofB (d.nsCg1 b.nsid))]), (if b.lbs64 then 132 else 128, le 4 ((if b.lbs64 then 16 else 12) * 65536)),
    (3840, le 4 b.unit), (3844, [BitVec.ofNat 8 (ofB b.zoned)]),
    (3845, le 1 (ofB b.lbs64 + 2 * (b.comp % 4) + 8 * ofB b.enc + 16 * ofB b.raster + 32 * ofB (d.nsCg1 b.nsid))),
    (3846, le 2 b.layout), (3848, slice b.label 0 16), (3864, le 1 s.members.length), (3865, le 1 mounted.length),
    (3868, le 4 (d.quota b.nsid)), (3872, le 8 (d.ns b.nsid).used)]

/-- The zoned command set's Identify Namespace: MAR, MOR and the ZSZE of the format in use (R405). PRESUMED, log 46. -/
def identifyZns (b : BindRec) (s : StripeRec) : List Byte :=
  patched 4096 (Config.identifyByte 5) [(4, le 4 (s.members.length - 1)), (8, le 4 (s.members.length - 1)),
    (if b.lbs64 then 2832 else 2816, le 8 (zoneSize b s))]

/-- IDENTIFY: CNS 0 namespace, 1 controller, 2 active namespaces, 5 a zoned namespace's own structure; other structures are
NVM Express's own. -/
def hostIdentify (c : Clock) (stamp cns nsid : Nat) (d : Dev) : Dev :=
  d.admin stamp .identify (fun _ k d =>
    if cns = 0 then
      if !d.sees k nsid then d.ends stamp .invalidNamespace
      else match d.bound nsid with
        | some (b, s) => d.complete stamp .success 0 0 (identifyNs d b s)
        | none => d.ends stamp .invalidNamespace
    else if cns = 1 then d.complete stamp .success 0 0 (identifyCtrl c d k)
    else if cns = 5 ∧ (d.bound nsid).any (fun x => x.1.zoned) then
      if !d.sees k nsid then d.ends stamp .invalidNamespace
      else match d.bound nsid with
        | some (b, s) => d.complete stamp .success 0 0 (identifyZns b s)
        | none => d.ends stamp .invalidNamespace
    else if cns = 2 then
      let all := match d.plait with
        | some p => sortBy (fun (a b : Nat) => decide (a < b)) ((p.bindings.map (fun (b : BindRec) => b.nsid)).filter (fun n => decide (nsid < n) && d.sees k n))
        | none => []
      d.complete stamp .success 0 0 (slice (padTo 4096 (all.flatMap (le 4))) 0 4096)
    else d.complete stamp .success 0 0 (patched 4096 (Config.identifyByte cns) []))

/-! ### Time (R391, R392, R411) -/

/-- TAI_BASE changes: fault record with both values, BASE_CHG, ledger entry (R392, R644). -/
def taiSet (c : Clock) (who : Who) (ns : Nat) (refuse go : Dev → Dev) (d : Dev) : Dev :=
  let old := taiBytes false d.host.tai
  let new := taiBytes false ns
  d.ledgered c who 10 0 0 (sha old) (sha new) refuse (fun d =>
    go ((({ d with host := { d.host with tai := ns } }).fault c .device { cls := 8, code := 2, sev := 1, detail := old ++ new }).set
      Reg.MGMT_PTP_STS_BASE_CHG 1))

/-- REF_SRC and PTP port of the plait in force (R35). -/
def Dev.refSrc (d : Dev) : Nat := match d.plait with
  | some p => p.refSrc
  | none => 0
def Dev.ptpPort (d : Dev) : Nat := match d.plait with
  | some p => p.ptpPort
  | none => 0

/-- Whether the port PTP runs on is enabled and its mode creates the sub-port (R391). -/
def Dev.ptpOn (d : Dev) : Bool :=
  let p := d.ptpPort / 4
  d.plait.isSome && d.getB (Reg.MGMT_ETH_CFG_EN p) && decide (d.ptpPort % 4 < subPorts (d.get (Reg.MGMT_ETH_CFG_MODE p)))

/-- PTP_MESSAGE: the state IEEE 1588 gives next (1 LISTENING, 2 UNCALIBRATED, 3 TIME_RECEIVER), the offset measured in ns,
currentUtcOffset, and TAI as PTP has it. DEDUCED, log 84. -/
def ptpMessage (c : Clock) (st : Nat) (ofs : Int) (utc tai : Nat) (d : Dev) : Dev :=
  if d.ptpOn = false then d.set Reg.MGMT_PTP_STS_STATE 0
  else
    let was := d.get Reg.MGMT_PTP_STS_STATE
    let st := if st = 1 ∨ st = 2 ∨ st = 3 then st else was
    let d := (d.set Reg.MGMT_PTP_STS_UTC_OFS utc).setI Reg.MGMT_PTP_STS_OFFSET (clampI (-2048) 2047 (Config.rnd ofs 10))
    let first := st == 3 && !d.misc.ptpSeen
    let back := st == 3 && was == 4 && decide (1000000 < ofs.natAbs)
    let d := d.set Reg.MGMT_PTP_STS_STATE st
    let d := if st = 3 then { d with misc := { d.misc with ptpSeen := true } } else d
    if d.refSrc = 2 && (first || back) then taiSet c {} (tai - c.tick) (fun d => d) (fun d => d) d else d

/-- PTP_TIMEOUT: HOLDOVER; tick rate and TAI_BASE are kept (R408). -/
def ptpTimeout (d : Dev) : Dev :=
  let st := d.get Reg.MGMT_PTP_STS_STATE
  if st = 3 then d.set Reg.MGMT_PTP_STS_STATE 4 else if st = 2 then d.set Reg.MGMT_PTP_STS_STATE 1 else d

/-- ETH_LINK_CHANGE (R387, R410). -/
def ethLinkChange (p s : Nat) (up : Bool) (d : Dev) : Dev :=
  let l := d.get (Reg.MGMT_ETH_CFG_LINK p)
  if !up then d.set (Reg.MGMT_ETH_CFG_LINK p) (clrBit l s)
  else if d.getB (Reg.MGMT_ETH_CFG_EN p) && decide (s < subPorts (d.get (Reg.MGMT_ETH_CFG_MODE p))) then d.set (Reg.MGMT_ETH_CFG_LINK p) (setBit l s)
  else d

/-! ### Features (R402, R407) -/

/-- Supported feature identifiers. -/
def featKnown (fid : Nat) : Bool := ([0x01, 0x02, 0x04, 0x07, 0x08, 0x09, 0x0B, 0x0C, 0x0E, 0x0F, 0x11] : List Nat).contains fid

/-- The role a Set Features needs (R631). -/
def featRole (fid : Nat) : Option Nat :=
  if fid = 0x02 ∨ fid = 0x0C ∨ fid = 0x11 then some rOPERATOR else if fid = 0x0E then some rCUSTODIAN else none

/-- Highest power state (R35, R407). -/
def Dev.psMax (d : Dev) : Nat := match d.plait with
  | some p => min 4 p.psMax
  | none => 4

/-- Whether the POWER record allows autonomous transitions (R559). -/
def Dev.apst (d : Dev) : Bool := match d.plait with
  | some p => p.apst
  | none => false

/-- SET_FEATURES: identifier and value (CDW11; for Timestamp the milliseconds of its data) (R392, R396, R402, R407, R408). -/
def setFeatures (c : Clock) (stamp fid v : Nat) (d : Dev) : Dev :=
  d.admin stamp .setFeatures (fun x k d =>
    let keep := fun (d : Dev) => (d.onCtrl x.cid (fun k => { k with feats := k.feats.ins fid v })).ends stamp .success
    if !featKnown fid || (fid == 0x0C && !d.apst) then d.ends stamp .invalidField
    else if (featRole fid).any (fun r => !bit k.allRoles r) then d.ends stamp .accessDenied
    else if fid = 0x02 then
      let ps := v % 32
      if d.psMax < ps then d.ends stamp .invalidField
      else (d.onCtrl x.cid (fun k => { k with ps := ps, lastOp := if ps ≤ 2 then ps else k.lastOp })).ends stamp .success
    else if fid = 0x07 then
      if k.sqs ≠ [] ∨ k.cqs ≠ [] then d.ends stamp .sequenceError
      else
        let want := max (v % 65536) (v / 65536 % 65536)
        let d := d.onCtrl x.cid (fun k => { k with pairs := 1 })
        let got := min want (min (k.cap - 1) d.pairsLeft)
        (d.onCtrl x.cid (fun k => { k with pairs := 1 + got })).complete stamp .success (got * 65537) 0 []
    else if fid = 0x0E then
      if d.refSrc = 2 ∧ d.get Reg.MGMT_PTP_STS_STATE = 3 then d.ends stamp .success
      else taiSet c (d.whoOf x.cid rCUSTODIAN) (v * 1000000 + d.get Reg.MGMT_PTP_STS_UTC_OFS * 1000000000 - c.tick)
        (fun d => d.ends stamp .internalError) (fun d => d.ends stamp .success) d
    else keep d)

/-- GET_FEATURES. -/
def getFeatures (c : Clock) (stamp fid : Nat) (d : Dev) : Dev :=
  d.admin stamp .getFeatures (fun _ k d =>
    if !featKnown fid then d.ends stamp .invalidField
    else if fid = 0x0E then
      d.complete stamp .success 0 0 (le 8 ((d.taiNow c - d.get Reg.MGMT_PTP_STS_UTC_OFS * 1000000000) / 1000000))
    else
      let v := if fid = 0x02 then k.ps else if fid = 0x07 then (k.pairs - 1) * 65537 else FMap.get Config.featDefault k.feats fid
      d.complete stamp .success v 0 [])

/-- KEEP_ALIVE. -/
def keepAlive (c : Clock) (stamp : Nat) (d : Dev) : Dev :=
  d.admin stamp .keepAlive (fun x _ d => (d.onCtrl x.cid (fun k => { k with kaTick := c.tick })).ends stamp .success)

/-! ### Firmware (R397, R427, R428, R657) -/

/-- FIRMWARE_IMAGE_DOWNLOAD: a piece at a byte offset. -/
def fwDownload (stamp ofst : Nat) (piece : List Byte) (d : Dev) : Dev :=
  d.admin stamp .fwDownload (fun _ _ d =>
    if d.host.fwPieces.any (fun p => pieceOverlaps p (ofst, piece)) then d.ends stamp .invalidField
    else ({ d with host := { d.host with fwPieces := d.host.fwPieces ++ [(ofst, piece)] } }).ends stamp .success)

/-- The image a slot holds. -/
def Dev.fwImage (d : Dev) (slot : Nat) : List Byte := if slot = 1 then d.flash.fw1 else if slot = 2 then d.flash.fw2 else []

/-- FIRMWARE_COMMIT: slot 2 takes a downloaded image; action 0 stores, 1 stores and selects for the next reset, 2 selects,
3 activates at once (R427, R657). An activation waits for a plait reload: the command is then given again (R428). -/
def fwCommit (c : Clock) (stamp slot action : Nat) (d : Dev) : Dev :=
  d.admin stamp .fwCommit (fun x _ d =>
    let who := d.whoOf x.cid rCUSTODIAN
    let slot := if slot = 0 then 2 else slot
    let image? := if d.host.fwPieces = [] then some (d.fwImage slot) else loadImage d.host.fwPieces
    let stores := action == 0 || action == 1 || (action == 3 && d.host.fwPieces != [])
    if 3 < action then d.ends stamp .invalidField
    else if 2 < slot ∨ (stores ∧ slot = 1) then d.ends stamp .invalidSlot
    else if action = 3 ∧ (d.reload.isSome ∨ d.host.act.isSome) then d
    else match image? with
      | none => d.ends stamp .invalidImage
      | some l =>
        if (verifyImage d true l).isSome then
          (d.ledEvent c who 4 1 action slot (sha (d.fwImage slot)) (sha l)).ends stamp .invalidImage
        else d.ledgered c who 4 action slot (sha (d.fwImage slot)) (sha l) (fun d => d.ends stamp .internalError) (fun d =>
          let d := if stores then { d with flash := { d.flash with fw2 := l }, host := { d.host with fwPieces := [] } } else d
          let d := if action = 0 then d else { d with flash := { d.flash with fwSel := selTo d.flash.fwSel slot } }
          if action ≠ 3 then d.ends stamp .success
          else
            let d := { d with host := { d.host with act := some { stamp := stamp, start := c.tick, step := 1 } } }
            (d.onCtx stamp (fun y => { y with phase := .media, dw0 := slot })).sets [(Reg.HQ_INTAKE_STS_STOPPED, 1), (Reg.HQ_INTAKE_STS_ACT, 1)]))

/-- Whether media work has drained to a swath boundary (R427). -/
def Dev.drained (d : Dev) : Bool :=
  (List.range 16).all (fun n => (d.deck n).pass.isNone && (d.deck n).unit.isNone && !d.gleaning n) &&
    !d.host.ctxs.any (fun x => x.phase == .transfer && !Cmd.isAdmin x.cmd.op)

/-- FW_DRAIN_END: the cores halt (R427). -/
def fwDrainEnd (d : Dev) : Dev :=
  match d.host.act with
  | some a => if a.step = 1 ∧ d.drained then { d with host := { d.host with act := some { a with step := 2 } } } else d
  | none => d

/-- Intake resumes, unless a failed channel or an activation stops it (R427, R515, R562, R564). -/
def Dev.intakeResume (d : Dev) : Dev :=
  d.setB Reg.HQ_INTAKE_STS_STOPPED (d.get Reg.MEM_STS_CH_FAIL != 0 || d.host.act.isSome)

/-- Intake resumes; Keep Alive timers restart; events that waited go out (R427, R675). -/
def actEnd (c : Clock) (d : Dev) : Dev :=
  let d := { d with host := { d.host with act := none }, ctrls := d.ctrls.map (fun (k : Ctrl) => ({ k with kaTick := c.tick } : Ctrl)) }
  ((d.intakeResume.set Reg.HQ_INTAKE_STS_ACT 0).letGo 4).deliver

/-- An activation fails: 1 drain time, 2 image not ready (R428, R668). DEDUCED, log 73. -/
def actFail (c : Clock) (a : ActNow) (code : Nat) (st : Sts) (d : Dev) : Dev :=
  ((actEnd c d).fault c .device { cls := 7, code := 4, sev := 2, detail := [BitVec.ofNat 8 code] }).ends a.stamp st

/-- FW_DRAIN_TIMEOUT: the drain has not ended by 150 ms (R428). -/
def fwDrainTimeout (c : Clock) (d : Dev) : Dev :=
  match d.host.act with
  | some a => if a.step = 1 ∧ a.start + 150 * tickMs ≤ c.tick then actFail c a 1 .activationTime d else d
  | none => d

/-- FW_NEW_READY: the new firmware has taken over. -/
def fwNewReady (c : Clock) (d : Dev) : Dev :=
  match d.host.act with
  | some a =>
    if a.step ≠ 2 then d
    else
      let slot := match d.ctx a.stamp with
        | some x => x.dw0
        | none => d.host.fwSlot
      let d := ({ d with host := { d.host with fwSlot := slot } }).set Reg.MGMT_BOOT_STS_FW_SLOT slot
      (actEnd c d).ends a.stamp .success
  | none => d

/-- FW_READY_TIMEOUT: the new image is not ready by 450 ms; the old one runs on (R428). -/
def fwReadyTimeout (c : Clock) (d : Dev) : Dev :=
  match d.host.act with
  | some a => if a.step = 2 ∧ a.start + 450 * tickMs ≤ c.tick then actFail c a 2 .invalidImage d else d
  | none => d

/-! ### Management over MCTP (R393, R674) -/

/-- Ids under which the two MCTP endpoints send commands: I3C and PCIe. -/
def mctpCid (pcie : Bool) : Nat := if pcie then 65538 else 65537

/-- Whether an endpoint has a session (R627). -/
def Dev.mctpSession (d : Dev) (pcie : Bool) : Bool :=
  d.sec.sessions.any (fun s => s.transport == (if pcie then 3 else 2) && s.owner == mctpCid pcie)

/-- A response of NVMe-MI: bytes given, the rest NVMe-MI's own. DESIGN CHOICE, log 50. -/
def miReply (op arg : Nat) (parts : List (Nat × List Byte)) (sev : Nat) (d : Dev) : Dev :=
  { d with misc := { d.misc with miOut := patched 32 (Config.miByte op arg) parts, miSev := sev } }

/-- An MI command: 0 Read Data Structure, 1 and 2 the health polls, 3 and 4 Configuration Set and Get, 7 Reset. -/
def miAct (op arg v : Nat) (d : Dev) : Dev :=
  match op with
  | 0 => miReply 0 arg [] 0 d
  | 1 => miReply 1 arg [] d.newestUnread d
  | 2 => miReply 2 arg [] d.newestUnread d
  | 3 => miReply 3 arg [] 0 { d with host := { d.host with miCfg := d.host.miCfg.ins arg v } }
  | 4 => miReply 4 arg [(0, le 4 (FMap.get (fun _ => 0) d.host.miCfg arg))] 0 d
  | 7 => miReply 7 arg [] 0 (subsystemReset d)
  | _ => d

/-- An MI command over MCTP: the packet wakes the device; in DEEP it is discarded; without a session only the data
structures and the polls are served (R567, R627). -/
def mctpMi (pcie : Bool) (op arg v : Nat) (d : Dev) : Dev :=
  let d := d.activity.wakeBy Reg.PWR_WAKE_STS_MCTP
  if d.pwr.mode = .deep ∨ !bit (d.get Reg.PWR_DOM_STS_ON) 2 then d
  else if 3 ≤ op ∧ d.mctpSession pcie = false then d
  else miAct op arg v d

/-- NVME_MI_SEND and NVME_MI_RECEIVE: an MI request in band (R393). -/
def miBand (send : Bool) (stamp op arg v : Nat) (d : Dev) : Dev :=
  d.admin stamp (if send then .miSend else .miReceive) (fun _ _ d =>
    if op = 7 then miAct op arg v (d.ends stamp .success)
    else
      let d := miAct op arg v d
      d.complete stamp .success 0 0 (if send then [] else d.misc.miOut))

end Sys2Proof.Machine
end

