-- ==== Sys2Proof/Machine/Security.lean ====
section
/-! DEFINITION. Machine/Security.lean: SPDM sessions, the Custodian store, keys, zeroization and tamper (spec file 19, R626 to
R643). -/

namespace Sys2Proof.Machine

/-! ### The engine's state -/

/-- SEC offers services in READY. -/
def Dev.secReady (d : Dev) : Bool := d.get Reg.SEC_STS_STATE == 2

/-- OWNED, KIDS and SESSIONS brought up to date (R653). -/
def Dev.secShow (d : Dev) : Dev :=
  d.sets [(Reg.SEC_STS_OWNED, ofB (d.sec.custodians.any (fun e => e.isSome))), (Reg.SEC_STS_KIDS, d.sec.keks.length),
    (Reg.SEC_STS_SESSIONS, d.sec.sessions.length)]

/-- Change what the engine holds. -/
def Dev.onSec (d : Dev) (f : Sec → Sec) : Dev := ({ d with sec := f d.sec }).secShow

/-- The namespaces a test picks among those bound. -/
def Dev.nsWhere (d : Dev) (p : BindRec → Bool) : List Nat :=
  match d.plait with
  | some q => (q.bindings.filter p).map (fun b => b.nsid)
  | none => []

/-- Namespaces of a key group. -/
def Dev.nsOfKid (d : Dev) (kid : Nat) : List Nat := d.nsWhere (fun b => b.enc && d.kidOf b.nsid == kid)

/-- Every KEK, data key and session is destroyed, with the connections their keys protect (R642, R643). -/
def secWipe (d : Dev) : Dev :=
  let d := d.onSec (fun s => { s with keks := [], dataKeys := [], sessions := [] })
  nsLose (d.nsWhere (fun b => b.enc)) (tlsGone d.refreshSessions)

/-- SEC enters ERROR (R641). -/
def secError (c : Clock) (index : Nat) (d : Dev) : Dev :=
  let d := d.sets [(Reg.SEC_STS_STATE, 3), (Reg.SEC_STS_KAT_FAIL, 1)]
  let d := (d.fault c .device { cls := 9, code := 2, sev := 3, detail := [BitVec.ofNat 8 index] }).ledEvent c {} 12 2 0 3 zeros48 zeros48
  let d := d.onSec (fun s => { s with sessions := [] })
  nsLose (d.nsWhere (fun b => b.enc)) (tlsGone d.refreshSessions)

/-- ENTROPY_HEALTH_FAIL: counted as CTR_DRBG, the last algorithm of R641's list. DEDUCED, log 78. -/
def entropyFail (c : Clock) (d : Dev) : Dev := secError c 7 { d with misc := { d.misc with entropyFail := true } }

/-! ### SPDM (R634) -/

/-- Sessions at most. -/
def maxSessions : Nat := 8

/-- An answer, or an error. -/
def spdmAnswer (l : List Byte) (d : Dev) : Dev := { d with misc := { d.misc with spdmOut := l, spdmErr := false } }
def spdmRefuse (d : Dev) : Dev := { d with misc := { d.misc with spdmOut := [], spdmErr := true } }

/-- An answer SPDM lays out, made with the DRBG. DESIGN CHOICE, log 50. -/
def spdmPlain (code : Nat) (d : Dev) : Dev := spdmAnswer (Config.spdmReply code d.sec.drawn) { d with sec := { d.sec with drawn := d.sec.drawn + 1 } }

/-- A measurement (R634, R646). -/
def measurement (d : Dev) (i : Nat) : Option (List Byte) :=
  match i with
  | 1 => some Config.romDigest
  | 2 => some (sha (d.fwImage d.host.fwSlot))
  | 3 => some d.plaitDigest
  | 4 => some (sha ((List.range 512).map Config.fuseByte))
  | 5 => some (le 8 d.sec.svnFw ++ le 8 d.sec.svnPlait)
  | 6 => some d.led.head
  | _ => none

/-- Where a session's requests come from, for the ledger (R645). -/
def Dev.sessPort (d : Dev) (s : Session) : Nat :=
  match s.transport with
  | 0 => (match d.ctrl s.owner with
    | some k => k.port
    | none => 21)
  | 1 => s.owner
  | 2 => 18
  | 3 => 19
  | _ => 20

/-- Who a session is. -/
def Dev.sessWho (d : Dev) (s : Session) : Who :=
  { role := if bit s.roles rCUSTODIAN then 1 else 0, port := d.sessPort s, cid := if s.transport = 0 then s.owner else 0, origin := slice s.digest 0 48 }

/-- Roles a chain has: those of its SPDM entry, and Custodian from the store (R627 to R629). -/
def Dev.chainRoles (d : Dev) (digest : List Byte) : Nat :=
  let pol := match d.plait with
    | some p => p.policy
    | none => []
  let mine := match pol.find? (fun e => e.kind == 3 && e.digest == digest) with
    | some e => e.roles
    | none => 0
  if d.sec.custodians.contains (some digest) then setBit mine rCUSTODIAN else mine

/-- A session begins; one that gains Custodian is entered first (R628, R634, R644). DEDUCED, log 77. -/
def sessionOpen (c : Clock) (transport owner : Nat) (digest : List Byte) (d : Dev) : Dev :=
  let id := 1 + (d.sec.sessions.map (fun s => s.id)).foldl max 0
  let s : Session := { id := id, transport := transport, owner := owner, digest := slice digest 0 48, verified := true,
                       roles := d.chainRoles (slice digest 0 48), beat := c.tick }
  let go := fun (d : Dev) => (spdmPlain 0xE4 ({ d with sec := { d.sec with sessions := d.sec.sessions ++ [s] } }).refreshSessions).secShow
  if bit s.roles rCUSTODIAN then d.ledgered c (d.sessWho s) 6 0 id zeros48 s.digest spdmRefuse go else go d

/-- A session ends, with its roles. -/
def sessionEnd (sid : Nat) (d : Dev) : Dev :=
  (({ d with sec := { d.sec with sessions := d.sec.sessions.filter (fun s => s.id != sid) } }).refreshSessions).secShow

/-- A standard request over a transport (0 NVMe, 1 DOE, 2 MCTP over I3C, 3 MCTP over PCIe, 4 seam) from its owner. -/
def spdm (c : Clock) (transport owner : Nat) (r : SpdmReq) (d : Dev) : Dev :=
  if !d.secReady then spdmRefuse d
  else
    let mine := fun (sid : Nat) => d.sec.sessions.any (fun s => s.id == sid && s.transport == transport && s.owner == owner)
    match r with
    | .version => spdmPlain 0x84 d
    | .capabilities => spdmPlain 0xE1 d
    | .algorithms => spdmPlain 0xE3 d
    | .digests => spdmAnswer (sha (Config.certChain 0) ++ sha (Config.certChain 1)) d
    | .certificate slot => if slot ≤ 1 then spdmAnswer (Config.certChain slot) d else spdmRefuse d
    | .challenge slot => if slot ≤ 1 then spdmPlain 0x83 d else spdmRefuse d
    | .measurements i => match measurement d i with
      | some l => spdmAnswer l d
      | none => spdmRefuse d
    | .keyExchange digest verified =>
      if !verified || decide (maxSessions ≤ d.sec.sessions.length) then spdmRefuse d else sessionOpen c transport owner digest d
    | .heartbeat sid =>
      if mine sid then spdmPlain 0xE8 { d with sec := { d.sec with
        sessions := mapIf (fun s => s.id == sid) (fun s => { s with beat := c.tick }) d.sec.sessions } }
      else spdmRefuse d
    | .keyUpdate sid => if mine sid then spdmPlain 0xE9 d else spdmRefuse d
    | .endSession sid => if mine sid then spdmPlain 0xEC (sessionEnd sid d) else spdmRefuse d

/-- SPDM_MESSAGE: outside NVMe; an MCTP packet wakes the device and is discarded in DEEP (R567). -/
def spdmMessage (c : Clock) (transport owner : Nat) (r : SpdmReq) (d : Dev) : Dev :=
  let d := d.activity
  let d := if transport = 2 ∨ transport = 3 then d.wakeBy Reg.PWR_WAKE_STS_MCTP else d
  if d.pwr.mode = .deep ∨ d.pwr.mode = .off then d
  else spdm c transport (if transport = 2 then mctpCid false else if transport = 3 then mctpCid true else owner) r d

/-- SECURITY_SEND: protocol 0xE8 carries SPDM (R634). -/
def securitySend (c : Clock) (stamp proto : Nat) (r : SpdmReq) (d : Dev) : Dev :=
  d.admin stamp .securitySend (fun x _ d => if proto = 0xE8 then (spdm c 0 x.cid r d).ends stamp .success else d.ends stamp .invalidField)

/-- SECURITY_RECEIVE: protocol 0x00 lists the protocols, 0xE8 returns the SPDM answer. -/
def securityReceive (stamp proto len : Nat) (d : Dev) : Dev :=
  d.admin stamp .securityReceive (fun _ _ d =>
    if proto = 0 then d.complete stamp .success 0 0 (slice ([0, 0, 0, 0, 0, 0, 0, 2, 0, 0xE8] : List Byte) 0 len)
    else if proto = 0xE8 then d.complete stamp .success 0 0 (slice d.misc.spdmOut 0 len)
    else d.ends stamp .invalidField)

/-- SPDM_HEARTBEAT_TIMEOUT: a session has had no heartbeat for 60 s (R634). DEDUCED, log 106. -/
def heartbeatTimeout (c : Clock) (sid : Nat) (d : Dev) : Dev :=
  if d.sec.sessions.any (fun s => s.id == sid && decide (c.tick < s.beat + 60 * tickS)) then d else sessionEnd sid d

/-! ### Vendor requests (R635) -/

/-- A vendor request inside a session: refused without one, in ERROR, or where the session may not. -/
def vendorReq (sid : Nat) (may : Session → Bool) (f : Session → Dev → Dev) (d : Dev) : Dev :=
  match d.sec.sessions.find? (fun s => s.id == sid) with
  | some s => if d.secReady && may s then f s d else spdmRefuse d
  | none => spdmRefuse d

/-- Under the Custodian role. -/
def isCustodian (s : Session) : Bool := bit s.roles rCUSTODIAN

/-- A request that is done. -/
def spdmDone (d : Dev) : Dev := (spdmAnswer [] d).secShow

/-- TAKE_OWNERSHIP (R628). -/
def takeOwnership (c : Clock) (sid : Nat) (d : Dev) : Dev :=
  vendorReq sid (fun s => s.verified && (s.transport == 1 || s.transport == 2 || s.transport == 3) && d.sec.custodians.all (fun e => e.isNone))
    (fun s d => d.ledgered c (d.sessWho s) 6 1 0 zeros48 (sha s.digest) spdmRefuse (fun d =>
      let mine := fun (x : Session) => x.id == sid
      spdmDone ({ d with sec := { d.sec with
        custodians := setAt d.sec.custodians 0 (some s.digest),
        sessions := mapIf mine (fun x => { x with roles := setBit x.roles rCUSTODIAN }) d.sec.sessions } }).refreshSessions)) d

/-- CUST_SET: an entry's digest, or none to clear it; the last entry is never cleared. DEDUCED, log 77. -/
def custSet (c : Clock) (sid entry : Nat) (digest : Option (List Byte)) (d : Dev) : Dev :=
  vendorReq sid isCustodian (fun s d =>
    let old := d.sec.custodians.getD entry none
    let next := setAt d.sec.custodians entry (digest.map (fun l => slice l 0 48))
    if 3 < entry ∨ next.all (fun e => e.isNone) then spdmRefuse d
    else d.ledgered c (d.sessWho s) 6 2 entry (sha (old.getD [])) (sha (digest.getD [])) spdmRefuse
      (fun d => spdmDone { d with sec := { d.sec with custodians := next } })) d

/-- KEK_SET: refused for an erased KID and while TAMPER is latched (R635, R639). -/
def kekSet (c : Clock) (sid kid : Nat) (kek : List Byte) (d : Dev) : Dev :=
  vendorReq sid isCustodian (fun s d =>
    let kek := slice kek 0 32
    if d.sec.erased.contains kid ∨ d.getB Reg.SEC_STS_TAMPER then spdmRefuse d
    else d.ledgered c (d.sessWho s) 5 1 kid zeros48 (kcv kek) spdmRefuse (fun d =>
      let d := if d.kek kid = some kek then d
        else
          let d := nsLose (d.nsOfKid kid) d
          { d with sec := { d.sec with
            keks := d.sec.keks.filter (fun e => e.1 != kid) ++ [(kid, kek)], dataKeys := d.sec.dataKeys.filter (fun e => e.1 != kid) } }
      nsTryAll c (spdmDone d))) d

/-- A KID's keys are zeroized and it is marked erased (R640). -/
def kidErase (c : Clock) (who : Who) (kid : Nat) (d : Dev) : Dev :=
  let d := d.onSec (fun s => { s with
    keks := s.keks.filter (fun e => e.1 != kid), dataKeys := s.dataKeys.filter (fun e => e.1 != kid),
    erased := if s.erased.contains kid then s.erased else s.erased ++ [kid] })
  nsLose (d.nsOfKid kid) (d.ledEvent c who 5 0 2 kid zeros48 zeros48)

/-- KEK_DESTROY. DEDUCED, log 77. -/
def kekDestroy (c : Clock) (sid kid : Nat) (d : Dev) : Dev :=
  vendorReq sid isCustodian (fun s d =>
    d.ledgered c (d.sessWho s) 8 0 kid zeros48 zeros48 spdmRefuse (fun d => spdmDone (kidErase c (d.sessWho s) kid d))) d

/-- PSK_SET: the PSK of a host, or none to clear it. -/
def pskSet (c : Clock) (sid : Nat) (nqn ident : List Byte) (psk : Option (List Byte)) (d : Dev) : Dev :=
  vendorReq sid isCustodian (fun s d =>
    let nqn := slice nqn 0 48
    let new := match psk with
      | some k => kcv (slice k 0 48)
      | none => zeros48
    d.ledgered c (d.sessWho s) 5 (if psk.isSome then 4 else 5) (ofLe (nqn.take 8)) zeros48 new spdmRefuse (fun d =>
      let rest := d.sec.psks.filter (fun (e : List Byte × List Byte × List Byte) => e.1 != nqn)
      let put := match psk with
        | some k => [(nqn, slice ident 0 16, slice k 0 48)]
        | none => []
      spdmDone { d with sec := { d.sec with psks := rest ++ put } })) d

/-- SLOT_SET: an owner key slot 2 to 7 of an algorithm (0 ECDSA, 1 ML-DSA) takes a key, or is revoked (R632). -/
def slotSet (c : Clock) (sid alg slot : Nat) (key : Option (List Byte)) (d : Dev) : Dev :=
  vendorReq sid isCustodian (fun s d =>
    if 1 < alg ∨ slot < 2 ∨ 7 < slot then spdmRefuse d
    else
      let mine := fun (e : Nat × Nat × Option (List Byte)) => e.1 == alg && e.2.1 == slot
      let old := match d.sec.slots.find? mine with
        | some e => e.2.2.getD []
        | none => []
      d.ledgered c (d.sessWho s) 6 6 (8 * alg + slot) (sha old) (sha (key.getD [])) spdmRefuse (fun d =>
        spdmDone { d with sec := { d.sec with slots := d.sec.slots.filter (fun e => !mine e) ++ [(alg, slot, key)] } })) d

/-- SVN_RAISE: a rollback minimum, at most the SEC_VERSION of the image in force, at most 64 (R633). -/
def svnRaise (c : Clock) (sid kind v : Nat) (d : Dev) : Dev :=
  vendorReq sid isCustodian (fun s d =>
    let now := if kind = 0 then d.sec.svnFw else d.sec.svnPlait
    let top := if kind = 0 then leAt (d.fwImage d.host.fwSlot) 0x10 4 else match d.plait with
      | some p => p.secVersion
      | none => 0
    if 1 < kind ∨ v ≤ now ∨ 64 < v ∨ top < v then spdmRefuse d
    else d.ledgered c (d.sessWho s) 6 7 kind (sha (le 8 now)) (sha (le 8 v)) spdmRefuse (fun d =>
      spdmDone { d with sec := if kind = 0 then { d.sec with svnFw := v } else { d.sec with svnPlait := v } })) d

/-- Zeroization (R642). -/
def zeroize (c : Clock) (who : Who) (d : Dev) : Dev :=
  let d := secWipe (d.ledEvent c who 12 2 0 2 zeros48 zeros48)
  d.onSec (fun s => { s with psks := [], slots := [], custodians := [none, none, none, none], erased := [] })

/-- ZEROIZE. -/
def zeroizeReq (c : Clock) (sid : Nat) (d : Dev) : Dev := vendorReq sid isCustodian (fun s d => spdmDone (zeroize c (d.sessWho s) d)) d

/-- ZERO.KEY: 0x5A zeroizes, other values do nothing (R656). -/
def zeroKey (c : Clock) (v : Nat) (d : Dev) : Dev := if v % 256 = 0x5A then zeroize c d.who d else d

/-- The known-answer tests: all pass, or the index of one that fails (R641). -/
def katRun (c : Clock) (sid : Nat) (fail : Option Nat) (d : Dev) : Dev :=
  vendorReq sid isCustodian (fun _ d => match fail with
    | some i => secError c i (spdmDone d)
    | none => spdmDone d) d

/-! ### Sanitize (R408, R640) -/

/-- KIDs in use: those of bound namespaces. -/
def Dev.kidsUsed (d : Dev) : List Nat := ((d.nsWhere (fun b => b.enc)).map d.kidOf).dedup

/-- SANITIZE: Crypto Erase (action 4) only; the operation ends at the next epoch boundary. -/
def hostSanitize (c : Clock) (stamp action : Nat) (d : Dev) : Dev :=
  d.admin stamp .sanitize (fun x _ d =>
    let who := d.whoOf x.cid rCUSTODIAN
    if action ≠ 4 ∨ d.nsWhere (fun b => !b.enc) ≠ [] then d.ends stamp .invalidField
    else if d.ledFull ∨ d.led.bad then d.ends stamp .internalError
    else
      let d := d.kidsUsed.foldl (fun d kid => d.ledgered c who 8 0 kid zeros48 zeros48 (fun d => d) (kidErase c who kid)) d
      ({ d with host := { d.host with sanitize := 1 } }).ends stamp .success)

/-- A Sanitize that runs ends. -/
def sanitizeEnd (d : Dev) : Dev := if d.host.sanitize = 1 then { d with host := { d.host with sanitize := 2 } } else d

/-! ### Tamper (R643) -/

/-- Keys and sessions are destroyed and the PSKs erased; latch, fault record, ledger entry. The state is coded as
PWR.STATE_STS.STATE, 7 for OFF (R668). DEDUCED, log 78. -/
def tamperAct (c : Clock) (state : Nat) (d : Dev) : Dev :=
  let d := { d with sec := { d.sec with tamperOpen := true } }
  let d := (secWipe d).onSec (fun s => { s with psks := [] })
  let d := d.set Reg.SEC_STS_TAMPER 1
  (d.fault c .device { cls := 9, code := 1, sev := 3, detail := [BitVec.ofNat 8 state], latched := true }).ledEvent c {} 12 2 0 1 zeros48 zeros48

/-- TAMPER_CLEAR: with the loop closed the latch clears (R643). -/
def tamperClear (c : Clock) (closed : Bool) (d : Dev) : Dev :=
  if !closed || !d.getB Reg.SEC_STS_TAMPER then d
  else
    let d := { d with sec := { d.sec with tamperOpen := false } }
    (d.set Reg.SEC_STS_TAMPER 0).ledEvent c d.who 12 2 0 6 zeros48 zeros48

end Sys2Proof.Machine
end

