-- ==== Sys2Proof/Machine/SelfTest.lean ====
section
/-! DEFINITION. Machine/SelfTest.lean: self-test, calibration and field fuse rows (spec file 18). -/

namespace Sys2Proof.Machine

/-! ### Units -/

/-- Kind of a testable unit by its index (R26, R592): 1 native lane, 2 spare lane, 3 LDPC, 4 darn, 5 DM or PM, 6 loop engine,
7 spare loop engine; 0 not testable. -/
def tstKind (u : Nat) : Nat :=
  if u < 32 then 0
  else if u < 1088 then (if (u - 32) % 66 < 64 then 1 else 2)
  else if u < 1184 then 3
  else if u < 1192 then 4
  else if u < 1228 then 5
  else if u < 1244 then 6
  else if u < 1248 then 7
  else 0

/-- Slices of a pass (R592). -/
def tstSlices (kind : Nat) : Nat :=
  match kind with
  | 1 => 16
  | 2 => 16
  | 3 => 24
  | 4 => 8
  | 5 => 12
  | 6 => 8
  | 7 => 8
  | _ => 0

/-- Deck of a lane or loop engine. -/
def unitDeck (u : Nat) : Nat := if u < 1088 then (u - 32) / 66 else u - 1228

/-- Lane number of a lane unit. -/
def unitLane (u : Nat) : Nat := (u - 32) % 66

/-- Data die of a pool engine. -/
def unitDie (u : Nat) : Nat := if u < 1184 then (u - 1088) / 48 else (u - 1184) / 4

/-- Source of the records about a unit. -/
def unitSrc (u : Nat) : Src :=
  if tstKind u = 1 ∨ tstKind u = 2 ∨ tstKind u = 6 then .deckUnit (unitDeck u) u else .unit u

/-- Self-test data of a unit. -/
def Dev.tunit (d : Dev) (u : Nat) : TUnit := FMap.get (fun _ => {}) d.tst.units u

/-- The tick at which a unit's last complete pass ended, if it has had one: its own, or the initial one of the boot (R594, R659). -/
def Dev.passEnd (d : Dev) (u : Nat) : Option Nat := if (d.tunit u).passed then some (d.tunit u).lastPass else d.tst.initial

/-- Change the self-test data of a unit. -/
def Dev.onUnit (u : Nat) (f : TUnit → TUnit) (d : Dev) : Dev :=
  { d with tst := { d.tst with units := d.tst.units.ins u (f (d.tunit u)) } }

/-- Change the visits. -/
def Dev.onVisits (f : List Visit → List Visit) (d : Dev) : Dev := { d with tst := { d.tst with visits := f d.tst.visits } }

/-- IN_TEST and the row counts are shown (R613). -/
def tstShow (d : Dev) : Dev :=
  d.sets [(Reg.TST_STS_IN_TEST, min 255 (d.tst.units.filter (fun e => e.2.state == 2)).length),
    (Reg.TST_STS_ROWS_USED, d.tst.rows.length), (Reg.TST_STS_FULL, ofB (decide (256 ≤ d.tst.rows.length)))]

/-- The spare that a visit of a unit uses, as a unit: a spare lane of its deck or its group's spare loop engine. -/
def Visit.spareUnit (v : Visit) : Nat :=
  if tstKind v.unit = 6 then 1244 + unitDeck v.unit / 4 else 32 + 66 * unitDeck v.unit + 64 + v.spare

/-! ### Field fuse rows (R607, R608) -/

/-- CRC-8 of R608 over 24 bits. -/
def crc8 (v : Nat) : Nat := (msb 24 v).foldl (crcStep 8 0x07) 0

/-- A RETIRE row. -/
def fuseRow (u reason : Nat) : Nat :=
  let low := reason % 256 * 2 ^ 16 + 2 ^ 14 + u % 2 ^ 14
  crc8 low * 2 ^ 24 + low

/-- TYPE of a row. -/
def rowType (r : Nat) : Nat := bits r 14 2

/-- Whether a row's CRC-8 is good. -/
def rowGood (r : Nat) : Bool := bits r 24 8 == crc8 (r % 2 ^ 24)

/-- Units that RETIRE rows with a good CRC-8 retire (R608). -/
def fuseUnits (d : Dev) : List Nat := (d.tst.rows.filter (fun r => rowType r == 1 && rowGood r)).map (fun r => bits r 0 14)

/-- A row is programmed and read back; a mismatch voids it and the next is tried, three in all. The result is one of
FROW_CTL's. -/
def burnRow : Nat → Nat → Nat → List Nat → List Nat × Nat
  | 0, _, _, rows => (rows, 3)
  | tries + 1, row, voids, rows =>
    if 256 ≤ rows.length then (rows, 2)
    else match voids with
      | 0 => (rows ++ [row], 1)
      | v + 1 => burnRow tries row v (rows ++ [0xFFFFFFFF])

/-- A burn for a unit, in the change ledger (R607): `voids` rows mismatch on their read-back. DEDUCED, log 75. -/
def burn (c : Clock) (who : Who) (u reason voids : Nat) (d : Dev) : Dev :=
  d.ledgered c who 9 reason u zeros48 zeros48 (fun d => d.set Reg.TST_FROW_CTL_RESULT 4) (fun d =>
    let r := burnRow 3 (fuseRow u reason) voids d.tst.rows
    tstShow ({ d with tst := { d.tst with rows := r.1 } }.set Reg.TST_FROW_CTL_RESULT r.2))

/-- BURN: a Custodian writes FROW_CTL.BURN (R621). -/
def burnWrite (c : Clock) (index reason voids : Nat) (d : Dev) : Dev :=
  let d := d.sets [(Reg.TST_FROW_CTL_INDEX, index), (Reg.TST_FROW_CTL_REASON, reason)]
  if tstKind (index % 2 ^ 14) = 0 then d.set Reg.TST_FROW_CTL_RESULT 4
  else burn c d.who (index % 2 ^ 14) (reason % 256) voids d

/-! ### Retirement (R606) -/

/-- Whether a loop engine's group has its spare free: not retired, on no visit, and no deck of the group runs on it. -/
def loopSpareFree (d : Dev) (g : Nat) : Bool :=
  (d.tunit (1244 + g)).state == 0 &&
    (List.range 4).all (fun i => !d.getB (Reg.LOOP_ENG_STS_SPARE_ENG (4 * g + i))) &&
    d.tst.visits.all (fun v => !(tstKind v.unit == 6 && decide (v.spare < 2) && unitDeck v.unit / 4 == g))

/-- What a retirement does to the unit itself. -/
def unitOut (n : Nat) (u : Nat) (d : Dev) : Dev :=
  match tstKind u with
  | 1 => laneRetire n (unitLane u) d
  | 2 => laneRetire n (unitLane u) d
  | 3 => { d with dies := d.dies.ins (unitDie u) { d.die (unitDie u) with ldpcOut := (d.die (unitDie u)).ldpcOut + 1 } }
  | 4 => { d with dies := d.dies.ins (unitDie u) { d.die (unitDie u) with darnOut := (d.die (unitDie u)).darnOut + 1 } }
  | 5 => d.set (Reg.CMP_ENG_STS_STATE (u - 1192)) 3
  | 6 => if d.getB (Reg.LOOP_ENG_STS_SPARE_ENG n) then d
    else if loopSpareFree d (n / 4) then d.set (Reg.LOOP_ENG_STS_SPARE_ENG n) 1
    else (d.linkDown n).deckState n dABSENT
  | _ => d

/-- A block is retired: its status, STS, the record, the ledger entry, and a fuse row with FUSE_AUTO (R593, R606, R607). -/
def retireUnit (c : Clock) (u reason voids : Nat) (d : Dev) : Dev :=
  let d := unitOut (unitDeck u) u (d.onUnit u (fun t => { t with state := 3, slice := 0, again := false }))
  let d := (d.set Reg.TST_STS_RETIRED 1).fault c (unitSrc u) { cls := 10, code := 3, sev := 2, detail := le 1 reason }
  let d := d.ledEvent c {} 9 2 reason u zeros48 zeros48
  tstShow (if d.getB Reg.TST_CFG_FUSE_AUTO then burn c {} u reason voids d else d)

/-- Fuse rows whose CRC-8 fails make a record each at a domain reset (R608). -/
def fuseFaults (c : Clock) (d : Dev) : Dev :=
  (d.tst.rows.zip (List.range d.tst.rows.length)).foldl (fun d (p : Nat × Nat) =>
    if (rowType p.1 == 1 || rowType p.1 == 2) && !rowGood p.1 then
      d.fault c .device { cls := 10, code := 4, sev := 1, detail := le 1 p.2 }
    else d) d

/-- Units of a range that the rows retire show RETIRED (R608). -/
def fuseMark (lo hi : Nat) (d : Dev) : Dev :=
  ((fuseUnits d).filter (fun u => decide (lo ≤ u) && decide (u < hi))).foldl (fun d u =>
    d.onUnit u (fun t => { t with state := 3 })) d

/-- The LANE domain of a die leaves reset: its lanes as the rows say (R136, R608). -/
def fuseLanes (die : Nat) (d : Dev) : Dev :=
  (List.range 8).foldl (fun d i =>
    let n := 8 * die + i
    let ls := ((fuseUnits d).filter (fun u => decide (32 + 66 * n ≤ u) && decide (u < 98 + 66 * n))).map unitLane
    lanesFromFuses n ls (fuseMark (32 + 66 * n) (98 + 66 * n) d)) d

/-- The DEC domain of a die leaves reset: engines the rows retire are out of their pools. -/
def fuseDec (die : Nat) (d : Dev) : Dev :=
  let l := (fuseUnits d).eraseDups
  let d := fuseMark (1088 + 48 * die) (1136 + 48 * die) (fuseMark (1184 + 4 * die) (1188 + 4 * die) d)
  let x := d.die die
  let y := { x with ldpcOut := (l.filter (fun u => tstKind u == 3 && unitDie u == die)).length,
                    darnOut := (l.filter (fun u => tstKind u == 4 && unitDie u == die)).length }
  { d with dies := d.dies.ins die y }

/-- The CMP domain leaves reset. -/
def fuseCmp (d : Dev) : Dev :=
  ((fuseUnits d).filter (fun u => tstKind u == 5)).foldl (fun d u => d.set (Reg.CMP_ENG_STS_STATE (u - 1192)) 3)
    (fuseMark 1192 1228 d)

/-- The DECK domain of a die leaves reset: decks whose loop engine is retired take their group's spare, lowest first; a deck
left without one stays ABSENT (R602). -/
def fuseLoops (die : Nat) (d : Dev) : Dev :=
  let l := fuseUnits d
  let d := fuseMark (1228 + 8 * die) (1236 + 8 * die) (fuseMark (1244 + 2 * die) (1246 + 2 * die) d)
  (List.range 8).foldl (fun d i =>
    let n := 8 * die + i
    if l.contains (1228 + n) && loopSpareFree d (n / 4) then d.set (Reg.LOOP_ENG_STS_SPARE_ENG n) 1 else d) d

/-- A deck without a loop engine (R602). -/
def noLoopEngine (d : Dev) (n : Nat) : Bool := (d.tunit (1228 + n)).state == 3 && !d.getB (Reg.LOOP_ENG_STS_SPARE_ENG n)

/-! ### Starting a visit (R594, R595, R599, R600) -/

/-- Whether every lane of a deck is in standby. -/
def allStandby (d : Dev) (n : Nat) : Bool := (List.range 66).all (fun l => d.getB (Reg.LANE_STATE_STBY n l))

/-- The spare lane a visit takes: the lowest in SPARE with no software command (R595). -/
def tstSpare (d : Dev) (n : Nat) : Option Nat :=
  [0, 1].find? (fun s => d.lstate n (64 + s) == lSPARE && !d.getB (Reg.LANE_SPARE_CTL_BUSY n s) &&
    !d.getB (Reg.LANE_SPARE_CTL_TST_OWN n s))

/-- Whether every slot of a deck is OFF. -/
def slotsOff (d : Dev) (n : Nat) : Bool := (List.range 8).all (fun s => d.get (Reg.LOOP_STS_MODE n s) == 0)

/-- Whether a complete block of a die waits for a darn engine (R592). -/
def blockWaits (d : Dev) (die : Nat) : Bool :=
  (List.range 8).any (fun i => (d.deck (8 * die + i)).blocks.any (fun b => b.complete && !b.inDarn))

/-- Pool engines of a die, and compression engines, in TEST now (R594). -/
def poolTests (d : Dev) (die : Nat) : Nat :=
  (d.tst.units.filter (fun e => (tstKind e.1 == 3 || tstKind e.1 == 4) && unitDie e.1 == die && e.2.state == 2)).length
def cmpTests (d : Dev) : Nat := (d.tst.units.filter (fun e => tstKind e.1 == 5 && e.2.state == 2)).length

/-- A domain is on (R558, R582). -/
def Dev.domOn (d : Dev) (k : Nat) : Bool := bit (d.get Reg.PWR_DOM_STS_ON) k

/-- A pool or compression engine leaves its pool for a slice, if it may (R592, R594): an LDPC engine only while its die has an engine free
and no decode waits for one (R11, R168). -/
def engineOut (u : Nat) (d : Dev) : Option Dev :=
  let i := unitDie u
  match tstKind u with
  | 3 => if d.domOn (13 + 3 * i) && (d.die i).first.isEmpty && (d.die i).turbo.isEmpty && decide ((d.die i).active.length + (d.die i).ldpcOut < 48) && decide (poolTests d i < 4) then
      some { d with dies := d.dies.ins i { d.die i with ldpcOut := (d.die i).ldpcOut + 1 } } else none
  | 4 => if d.domOn (13 + 3 * i) && decide ((d.die i).darn.length + (d.die i).darnOut < 4) && decide (poolTests d i < 4) &&
        !blockWaits d i then
      some { d with dies := d.dies.ins i { d.die i with darnOut := (d.die i).darnOut + 1 } } else none
  | 5 => if d.domOn 9 && d.get (Reg.CMP_ENG_STS_STATE (u - 1192)) == 0 && decide (cmpTests d < 2) then
      some (d.set (Reg.CMP_ENG_STS_STATE (u - 1192)) 2) else none
  | _ => none

/-- An engine goes back to its pool after a slice (R591). -/
def engineBack (u : Nat) (d : Dev) : Dev :=
  let i := unitDie u
  match tstKind u with
  | 3 => { d with dies := d.dies.ins i { d.die i with ldpcOut := (d.die i).ldpcOut - 1 } }
  | 4 => { d with dies := d.dies.ins i { d.die i with darnOut := (d.die i).darnOut - 1 } }
  | 5 => d.set (Reg.CMP_ENG_STS_STATE (u - 1192)) 0
  | _ => d

/-- A unit's state. -/
def Dev.ustate (u st : Nat) (d : Dev) : Dev := d.onUnit u (fun t => { t with state := st })

/-- A queued visit starts, if the conditions of its kind hold (R592 to R595, R599, R600). -/
def visitStart (v : Visit) (d : Dev) : Option Dev :=
  let u := v.unit
  let n := unitDeck u
  let k := unitLane u
  let lanes := d.getB Reg.TST_CFG_LANE_EN && d.domOn (12 + 3 * (n / 8))
  let add := fun (v : Visit) (d : Dev) => d.onVisits (fun l => l ++ [v])
  let reset := fun (d : Dev) => d.onUnit u (fun t => { t with slice := 0, again := false })
  match tstKind u with
  | 1 =>
    let busy := d.tst.visits.any (fun w => tstKind w.unit == 1 && unitDeck w.unit == n)
    if !lanes || !d.getB (Reg.TST_DECK_CFG_EN n) || busy || d.lstate n k != lACTIVE then none
    else if allStandby d n then
      some ((add { v with step := 5 } (laneTo n k lTEST 127 (reset d))).ustate u 2)
    else match tstSpare d n with
      | some s => if d.getB (Reg.LANE_STATE_STBY n k) || d.get (Reg.LANE_STATE_SRC n (otherSpare s)) == k then none
        else some (((add { v with step := 1, spare := s } (laneTo n (64 + s) lSHADOW k (copyLoops n k (64 + s) (reset d)))).ustate
          u 1).set (Reg.LANE_SPARE_CTL_TST_OWN n s) 1)
      | none => none
  | 2 =>
    let s := k - 64
    if !lanes || d.lstate n k != lSPARE || d.getB (Reg.LANE_SPARE_CTL_BUSY n s) || d.getB (Reg.LANE_SPARE_CTL_TST_OWN n s) then
      none
    else some (((add { v with step := 5 } (reset d)).ustate u 2).set (Reg.LANE_SPARE_CTL_TST_OWN n s) 1)
  | 6 =>
    let lower := d.tst.queue.any (fun w => tstKind w.unit == 6 && unitDeck w.unit / 4 == n / 4 && decide (unitDeck w.unit < n))
    if !d.getB Reg.TST_CFG_ENG_EN || !d.domOn (11 + 3 * (n / 8)) || d.getB (Reg.LOOP_ENG_STS_SPARE_ENG n) || lower then none
    else if slotsOff d n then some ((add { v with step := 5 } (reset d)).ustate u 2)
    else if loopSpareFree d (n / 4) then some ((add { v with step := 1, spare := 0 } (reset d)).ustate u 1)
    else none
  | 7 =>
    let g := u - 1244
    if !d.getB Reg.TST_CFG_ENG_EN || !d.domOn (11 + 3 * (g / 2)) || !loopSpareFree d g then none
    else some ((add { v with step := 5 } (reset d)).ustate u 2)
  | 0 => none
  | _ => if !d.getB Reg.TST_CFG_ENG_EN then none
    else match engineOut u (reset d) with
      | some d => some ((add { v with step := 5 } d).ustate u 2)
      | none => none

/-- Queued visits start in order, and engines that wait between two slices go out again; what cannot start waits (R594). -/
def tstPump (d : Dev) : Dev :=
  let d := (d.tst.visits.filter (fun v => v.step == 4)).foldl (fun d v =>
    match engineOut v.unit d with
    | some d => (d.onVisits (mapIf (fun w => w.unit == v.unit) (fun w => { w with step := 5 }))).ustate v.unit 2
    | none => d) d
  let d := d.tst.queue.foldl (fun d v =>
    match visitStart v { d with tst := { d.tst with queue := d.tst.queue.filter (fun w => w.unit != v.unit) } } with
    | some d => d
    | none => d) d
  tstShow d

/-- A visit is queued, unless one of its unit is queued or running or the unit is retired: a visit by command at the head, another in order
of how long it is overdue (R594, R614). -/
def tstQueue (v : Visit) (head : Bool) (d : Dev) : Dev :=
  if (d.tunit v.unit).state = 3 ∨ tstKind v.unit = 0 then d
  else if d.tst.visits.any (fun w => w.unit == v.unit) then
    if head then d.onVisits (mapIf (fun w => w.unit == v.unit) (fun w => { w with cmd := true })) else d
  else
    let rest := d.tst.queue.filter (fun w => w.unit != v.unit)
    if head then tstPump { d with tst := { d.tst with queue := v :: rest } }
    else if rest.length = d.tst.queue.length then
      let before := fun (w : Visit) => w.cmd || decide (w.due ≤ v.due)
      tstPump { d with tst := { d.tst with queue := rest.takeWhile before ++ v :: rest.dropWhile before } }
    else d

/-- The tick at which a unit's next pass, or a lane's next calibration, falls due (R594, R604): at once where there has been none since module
reset, or where Tj has moved by CAL_DT °C since the last calibration. -/
def dueTick (d : Dev) (u : Nat) (cal : Bool) : Nat :=
  let t := d.tunit u
  let n := unitDeck u
  if cal then
    let moved := decide (d.get Reg.TST_CFG_CAL_DT ≤ (d.getI (Reg.PWR_THERM_TJ (n / 8)) - t.calTj).natAbs)
    if moved || !d.getB (Reg.TST_LANE_CAL_VALID n (unitLane u)) then 0 else t.calTick + d.get Reg.TST_CFG_CAL_MIN * tickMin
  else match d.passEnd u with
    | some last => last + (if tstKind u ≤ 2 then d.get Reg.TST_CFG_LANE_MIN else d.get Reg.TST_CFG_ENG_MIN) * tickMin
    | none => 0

/-- TEST_PASS_DUE: a pass, or a calibration, of a unit falls due (R594, R604). -/
def testPassDue (c : Clock) (u : Nat) (cal : Bool) (d : Dev) : Dev :=
  if (cal = true ∧ 2 < tstKind u) ∨ c.tick < dueTick d u cal then d else tstQueue { unit := u, cal := cal, due := dueTick d u cal } false d

/-- TST_TEST and TST_CAL: a write of TST.CMD (R614). DEDUCED, log 75. -/
def tstCmd (u : Nat) (cal : Bool) (d : Dev) : Dev :=
  if d.getB Reg.TST_CMD_BUSY ∨ tstKind u = 0 ∨ (d.tunit u).state = 3 ∨ (cal = true ∧ 2 < tstKind u) then
    d.sets [(Reg.TST_CMD_INDEX, u), (Reg.TST_CMD_RESULT, 4)]
  else tstQueue { unit := u, cal := cal, cmd := true } true
    (d.sets [(Reg.TST_CMD_INDEX, u), (Reg.TST_CMD_BUSY, 1), (Reg.TST_CMD_RESULT, 0)])

/-- A visit ends with a result of TST.CMD; its spare is no longer owned. -/
def visitEnd (v : Visit) (result : Nat) (d : Dev) : Dev :=
  let n := unitDeck v.unit
  let d := d.onVisits (fun l => l.filter (fun w => w.unit != v.unit))
  let d := d.onUnit v.unit (fun t => { t with state := if t.state = 3 then 3 else 0, slice := 0, again := false })
  let d := match tstKind v.unit with
    | 1 => if v.spare < 2 then d.set (Reg.LANE_SPARE_CTL_TST_OWN n v.spare) 0 else d
    | 2 => d.set (Reg.LANE_SPARE_CTL_TST_OWN n (unitLane v.unit - 64)) 0
    | _ => d
  tstPump (if v.cmd then d.sets [(Reg.TST_CMD_BUSY, 0), (Reg.TST_CMD_RESULT, result)] else d)

/-- A visit changes. -/
def visitTo (v : Visit) (d : Dev) : Dev := d.onVisits (mapIf (fun w => w.unit == v.unit) (fun _ => v))

/-- A visit's spare goes back to SPARE. -/
def spareFree (v : Visit) (d : Dev) : Dev :=
  if tstKind v.unit = 1 ∧ v.spare < 2 then
    if d.lstate (unitDeck v.unit) (64 + v.spare) = lRETIRED then d else laneTo (unitDeck v.unit) (64 + v.spare) lSPARE 127 d
  else d

/-! ### Calibration (R603) -/

/-- A correction fits its field. -/
def inByte (i : Int) : Bool := decide (-128 ≤ i) && decide (i ≤ 127)

/-- OFS_COR and GAIN_COR from what was measured (R603): 48 LSB is the ideal difference; both are rounded to the nearest, as the
example under R603 does. DESIGN CHOICE, log 14. -/
def ofsCor (o : CalObs) : Int := nearest (o.sum * 16) 65536
def gainCor (o : CalObs) : Int := if o.diff ≤ 0 then 128 else nearest (1024 * (768 - o.diff)) o.diff.toNat

/-- The corrections of a lane are written; none when one falls outside its field. -/
def calibrate (c : Clock) (u : Nat) (o : CalObs) (d : Dev) : Option Dev :=
  let n := unitDeck u
  let k := unitLane u
  if !(inByte (ofsCor o) && inByte (gainCor o) && inByte o.skew) then none
  else
    let tj := d.getI (Reg.PWR_THERM_TJ (n / 8))
    some ((((((d.setI (Reg.TST_LANE_CAL_OFS_COR n k) (ofsCor o)).setI (Reg.TST_LANE_CAL_GAIN_COR n k) (gainCor o)).setI
      (Reg.TST_LANE_CAL_SKEW_COR n k) o.skew).set (Reg.TST_LANE_CAL_VALID n k) 1)).onUnit u
        (fun t => { t with calTick := c.tick, calTj := tj }))

/-! ### Slices (R591, R593, R597, R598) -/

/-- The native or in-place unit of a visit has been tested (and calibrated): what follows. -/
def afterTest (v : Visit) (d : Dev) : Dev :=
  let n := unitDeck v.unit
  let k := unitLane v.unit
  match tstKind v.unit with
  | 1 => if v.spare < 2 then
      visitTo { v with step := 8 } ((laneTo n k lSHADOW k (copyLoops n (64 + v.spare) k d)).ustate v.unit 1)
    else visitEnd v 1 (laneTo n k lACTIVE k d)
  | 6 => if v.spare < 2 then visitTo { v with step := 8 } (d.ustate v.unit 1) else visitEnd v 1 d
  | _ => visitEnd v 1 d

/-- A unit in a visit is retired: the visit ends, a native's spare stays in service (R598, R601). -/
def visitFail (c : Clock) (v : Visit) (reason voids : Nat) (d : Dev) : Dev :=
  let d := if tstKind v.unit = 3 ∨ tstKind v.unit = 4 then engineBack v.unit d else d
  visitEnd v 2 (retireUnit c v.unit reason voids d)

/-- A calibration of a visit's lane: written, or the lane is retired with reason 4. -/
def visitCal (c : Clock) (v : Visit) (o : CalObs) (voids : Nat) (d : Dev) : Dev :=
  match calibrate c v.unit o d with
  | some d => afterTest v d
  | none => visitFail c v 4 voids d

/-- One signature: the slice goes on, is repeated, ends the pass, or retires the unit. The results are: 0 go on, 1 pass ended,
2 the unit is to be retired. DESIGN CHOICE, log 76. -/
def slice1 (c : Clock) (u sig : Nat) (d : Dev) : Dev × Nat :=
  let t := d.tunit u
  let d := { d with tst := { d.tst with sig := sig } }
  if sig = (Config.expectSig (tstKind u) t.slice).toNat then
    let d := if t.again then
        (d.onUnit u (fun t => { t with fails := satAdd 8 t.fails 1 })).fault c (unitSrc u)
          { cls := 10, code := 1, sev := 1, detail := le 1 t.slice ++ List.replicate 7 0 ++ le 8 t.badSig }
      else d
    if t.slice + 1 < tstSlices (tstKind u) then
      (d.onUnit u (fun t => { t with slice := t.slice + 1, again := false }), 0)
    else (d.onUnit u (fun t => { t with slice := 0, again := false, lastPass := c.tick, passed := true }), 1)
  else
    let d := d.set Reg.TST_STS_SLICE_FAIL 1
    if t.again then (d, 2)
    else (d.onUnit u (fun t => { t with again := true, badSig := sig }), 0)

/-- SLICE_END: a slice of a unit in TEST ends with a signature; the calibration that follows the last slice of a lane, or is
the whole of a calibration visit, is measured as `o` (R591, R593, R597, R598, R603). `voids`: fuse rows that fail their
read-back, should the unit be retired with FUSE_AUTO. -/
def sliceEnd (c : Clock) (u sig : Nat) (o : CalObs) (voids : Nat) (d : Dev) : Dev :=
  match d.tst.visits.find? (fun v => (v.unit == u && v.step == 5) || (v.step == 2 && v.spareUnit == u)) with
  | none => d
  | some v =>
    if v.step = 2 then
      let r := slice1 c u sig d
      match r.2 with
      | 0 => tstShow r.1
      | 1 =>
        let n := unitDeck v.unit
        let d := (r.1.ustate u 0).onUnit v.unit (fun t => { t with cmpFails := satAdd 4 t.cmpFails 1, state := 1 })
        let d := if tstKind v.unit = 1 then
          laneTo n (64 + v.spare) lSHADOW (unitLane v.unit) (copyLoops n (unitLane v.unit) (64 + v.spare) d) else d
        tstShow (visitTo { v with step := 1, force := true } d)
      | _ => visitEnd v 3 (retireUnit c u 1 voids r.1)
    else if v.cal ∨ v.second then visitCal c v o voids d
    else
      let r := slice1 c u sig d
      match r.2 with
      | 0 =>
        let again := (r.1.tunit u).again
        if 3 ≤ tstKind u ∧ tstKind u ≤ 5 ∧ again = false then
          tstPump ((engineBack u (visitTo { v with step := 4 } r.1)).ustate u 0)
        else tstShow r.1
      | 1 => if tstKind u = 1 then visitCal c v o voids r.1
        else afterTest v (engineBack u r.1)
      | _ => visitFail c v 1 voids r.1

/-! ### Compares (R596, R598, R600, R601) -/

/-- What follows a compare of the spare with the native at step 3 that counts as passed: the swap (R597, R600). -/
def compareSwap (v : Visit) (d : Dev) : Dev :=
  let n := unitDeck v.unit
  if tstKind v.unit = 6 then
    tstShow (visitTo { v with step := 5 } ((d.set (Reg.LOOP_ENG_STS_SPARE_ENG n) 1).ustate v.unit 2))
  else visitTo { v with step := 3 } (spareWait n v.spare (d.get (Reg.TST_DECK_CFG_TRIG n)) false d)

/-- The swap back (step 9). -/
def swapHome (v : Visit) (d : Dev) : Dev :=
  let n := unitDeck v.unit
  if tstKind v.unit = 6 then visitEnd v 1 (d.set (Reg.LOOP_ENG_STS_SPARE_ENG n) 0)
  else visitTo { v with step := 9 } (spareWait n v.spare (d.get (Reg.TST_DECK_CFG_TRIG n)) true d)

/-- A compare that failed (R598, R601), with its record. -/
def compareFail (c : Clock) (v : Visit) (dis n voids : Nat) (d : Dev) : Dev :=
  let d := (d.set Reg.TST_STS_CMP_FAIL 1).fault c (unitSrc v.unit)
    { cls := 10, code := 2, sev := 1, detail := le 4 dis ++ le 4 n }
  if v.step = 1 then
    if v.force then compareSwap v d
    else
      let d := (spareFree v d).ustate v.unit 0
      tstShow (visitTo { v with step := 2 } (d.onUnit v.spareUnit (fun t => { t with state := 2, slice := 0, again := false })))
  else if !v.second then
    if tstKind v.unit = 1 then
      tstShow (visitTo { v with step := 5, second := true }
        ((laneTo (unitDeck v.unit) (unitLane v.unit) lTEST 127 d).ustate v.unit 2))
    else visitTo { v with second := true } d
  else if d.getB Reg.TST_CFG_CMP_RET then visitFail c v 2 voids d
  else swapHome v (d.onUnit v.unit (fun t => { t with cmpFails := satAdd 4 t.cmpFails 1 }))

/-- A compare that passed, or was inconclusive. -/
def comparePass (v : Visit) (d : Dev) : Dev := if v.step = 1 then compareSwap v d else swapHome v d

/-- SHADOW_COMPARE_DONE: after `revs` revolutions in LOCKED, `dis` of `n` samples of a native lane's compare disagree (R596). -/
def shadowCompareDone (c : Clock) (u dis n revs voids : Nat) (d : Dev) : Dev :=
  match d.tst.visits.find? (fun v => v.unit == u && (v.step == 1 || v.step == 8)) with
  | none => d
  | some v =>
    let k := unitDeck u
    let least := if v.step = 1 then d.get (Reg.TST_DECK_CFG_SHADOW_REV k) else 1
    if tstKind u ≠ 1 ∨ d.tbState k ≠ tbLOCKED ∨ revs < least ∨ (n < 2 ^ 20 ∧ revs < 16) then d
    else if n < 2 ^ 20 then comparePass v (d.set Reg.TST_STS_INCONCL 1)
    else if dis * 2 ^ 20 ≤ d.get (Reg.TST_DECK_CFG_CMP_LIM k) * n then comparePass v d
    else compareFail c v dis n voids d

/-- LOCKSTEP_DONE: 1,024 samples of a deck's lockstep phase end, of which `bad` did not match (R600, R601).
DEDUCED, log 75. -/
def lockstepDone (c : Clock) (n bad voids : Nat) (d : Dev) : Dev :=
  match d.tst.visits.find? (fun v => v.unit == 1228 + n && (v.step == 1 || v.step == 8)) with
  | none => d
  | some v => if bad = 0 then comparePass v d else compareFail c v bad 1024 voids d

/-- What became of the swaps that visits asked for (R597, R598): made, or ended TIMEOUT;
a visit whose swap timed out is retried after 1 minute. DEDUCED, log 31. -/
def tstSwapped (c : Clock) (d : Dev) : Dev :=
  d.tst.visits.foldl (fun d v =>
    let n := unitDeck v.unit
    let k := unitLane v.unit
    if tstKind v.unit ≠ 1 ∨ ((d.deck n).sparePend v.spare).isSome then d
    else if v.step = 3 then
      if d.lstate n (64 + v.spare) = lACTIVE then
        if d.lstate n k = lRETIRED then visitEnd v 3 d
        else tstShow (visitTo { v with step := 5 } (d.ustate v.unit 2))
      else visitEnd v 3 (spareFree v (d.onUnit v.unit (fun t => { t with retry := some (c.tick + tickMin, v.cal) })))
    else if v.step = 9 ∧ d.lstate n k = lACTIVE then visitEnd v 1 d
    else d) d

/-- A revolution mark of a deck: a SWAP_BACK that timed out is asked for again (R598). -/
def tstRevMark (n : Nat) (d : Dev) : Dev :=
  (d.tst.visits.filter (fun v => tstKind v.unit == 1 && unitDeck v.unit == n && v.step == 9)).foldl (fun d v =>
    if ((d.deck n).sparePend v.spare).isSome ∨ d.lstate n (unitLane v.unit) = lACTIVE then d else swapHome v d) d

/-- Visits that are to be retried are queued again once their minute has passed (R598). -/
def tstRetry (c : Clock) (d : Dev) : Dev :=
  d.tst.units.foldl (fun d e => match e.2.retry with
    | some r => if c.tick < r.1 then d
        else tstQueue { unit := e.1, cal := r.2, due := r.1 } false (d.onUnit e.1 (fun t => { t with retry := none }))
    | none => d) d

/-- Self-test starts what waits (R594, R598): taken at every epoch boundary. -/
def tstPoll (c : Clock) (d : Dev) : Dev := tstPump (tstRetry c (tstSwapped c d))

/-- Servo and shunt amplifier offsets of a deck (R605): sums over 100,000 samples, for eight channels and three legs.
DEDUCED, log 74. -/
def servoOffsets (c : Clock) (n : Nat) (svo shunt : List Int) (d : Dev) : Dev :=
  let one := fun (d : Dev) (i : Nat) (sum : Int) (f : Fld) =>
    let o := Config.rnd sum 100000
    let d := d.setI f o
    if 256 < o.natAbs then
      d.fault c (.deck n) { cls := 10, code := 5, sev := 1, detail := le 1 i ++ [0] ++ le 2 (satPat 16 o) }
    else d
  let d := (svo.zip (List.range 8)).foldl (fun d (p : Int × Nat) => one d p.2 p.1 (Reg.TST_SVO_OFS_OFS n p.2)) d
  (shunt.zip (List.range 3)).foldl (fun d (p : Int × Nat) => one d p.2 p.1 (Reg.TST_SHUNT_OFS_OFS n p.2)) d

/-- Consistency rules of TST (R611). -/
def tstRules (d : Dev) : Option Nat :=
  if d.get Reg.TST_CFG_LANE_MIN = 0 ∨ d.get Reg.TST_CFG_ENG_MIN = 0 ∨ d.get Reg.TST_CFG_CAL_MIN = 0 ∨
      d.get Reg.TST_CFG_CAL_DT = 0 then some 1
  else if (List.range 16).any (fun n => d.getB (Reg.TST_DECK_CFG_EN n) && decide (d.get (Reg.TST_DECK_CFG_TRIG n) < 16)) then some 2
  else if (List.range 16).any (fun n => d.get (Reg.TST_DECK_CFG_SHADOW_REV n) == 0 ||
      decide (8 < d.get (Reg.TST_DECK_CFG_SHADOW_REV n)) || d.get (Reg.TST_DECK_CFG_CMP_LIM n) == 0) then some 3
  else none

end Sys2Proof.Machine
end

