-- ==== Sys2Proof/Machine/Power.lean ====
section
/-! DEFINITION. Machine/Power.lean: power domains, device states, operating points, governor and thermal limits (spec file
17). -/

namespace Sys2Proof.Machine

/-! ### Domains (R558, R569) -/

/-- Domains a deck's data die has: DECK, LANE, DEC. -/
def dDECK (die : Nat) : Nat := 11 + 3 * die
def dLANE (die : Nat) : Nat := 12 + 3 * die
def dDEC (die : Nat) : Nat := 13 + 3 * die

/-- A mask from bit numbers. -/
def maskOf (l : List Nat) : Nat := l.foldl setBit 0

/-- Domains that have power outside low states: those of DOMAIN_EN and those always enabled; under the minimal structure the
always enabled ones, PCIE and SEC (notes/assumptions/30). -/
def Dev.domMask (d : Dev) : Nat :=
  match d.plait with
  | some p => (p.domainEn % 2 ^ 17) ||| maskOf [0, 1, 2, 3, 7]
  | none => maskOf [0, 1, 2, 3, 4, 7, 10]

/-- Domains lose power. DEDUCED, log 94. -/
def domsOff (l : List Nat) (d : Dev) : Dev := d.set Reg.PWR_DOM_STS_ON (l.foldl clrBit (d.get Reg.PWR_DOM_STS_ON))

/-- Whether a deck's domain has power. -/
def Dev.deckOn (d : Dev) (n : Nat) : Bool := d.domOn (dDECK (n / 8))

/-- Domains of a mask gain power; those that were off leave reset, with their fuse rows applied (R136, R608). -/
def domsOn (c : Clock) (mask : Nat) (d : Dev) : Dev :=
  let was := d.get Reg.PWR_DOM_STS_ON
  let new := fun (k : Nat) => bit mask k && !bit was k
  let d := d.set Reg.PWR_DOM_STS_ON (was ||| mask)
  let d := [0, 1].foldl (fun d die =>
    let d := if new (dDECK die) then fuseLoops die d else d
    let d := if new (dLANE die) then fuseLanes die d else d
    if new (dDEC die) then fuseDec die d else d) d
  let d := if new 9 then fuseCmp d else d
  if (List.range 17).any new then fuseFaults c d else d

/-- Units in a visit whose domain goes off: the visit ends, its unit as it was. -/
def tstAbort (d : Dev) : Dev :=
  d.tst.visits.foldl (fun d v =>
    let n := unitDeck v.unit
    match tstKind v.unit with
    | 1 => if d.domOn (dLANE (n / 8)) then d
      else
        let d := if d.lstate n (unitLane v.unit) = lRETIRED then d else laneTo n (unitLane v.unit) lACTIVE (unitLane v.unit) d
        visitEnd v 3 (spareFree v d)
    | 2 => if d.domOn (dLANE (n / 8)) then d else visitEnd v 3 d
    | 6 => if d.domOn (dDECK (n / 8)) then d else visitEnd v 3 (d.set (Reg.LOOP_ENG_STS_SPARE_ENG n) 0)
    | 7 => if d.domOn (dDECK ((v.unit - 1244) / 2)) then d else visitEnd v 3 d
    | 5 => if d.domOn 9 then d else visitEnd v 3 (if v.step = 5 then engineBack v.unit d else d)
    | _ => if d.domOn (dDEC (unitDie v.unit)) then d else visitEnd v 3 (if v.step = 5 then engineBack v.unit d else d)) d

/-! ### Device state (R559, R560) -/

/-- Controllers whose power state counts: the enabled ones. -/
def Dev.psCtrls (d : Dev) : List Ctrl := d.ctrls.filter (fun k => k.kind != 3 && k.enabled)

/-- The lowest power state among them. -/
def Dev.psLow (d : Dev) : Option Nat :=
  (d.psCtrls.map (fun k => k.ps)).foldl (fun m v => match m with
    | some a => some (min a v)
    | none => some v) none

/-- Whether the device goes no lower than SLEEP: a fabric controller exists or a seam port is UP. -/
def Dev.linked (d : Dev) : Bool :=
  d.ctrls.any (fun k => k.kind == 2) || (List.range 6).any (fun k => d.get (Reg.SEAM_PORT_STS_STATE k) == 2)

/-- The device state the controllers ask for, coded as STATE_STS.STATE; none when no controller is enabled. -/
def Dev.psTarget (d : Dev) : Option Nat :=
  d.psLow.map (fun ps => if ps ≤ 2 then 0 else if ps = 3 ∨ d.linked then 2 else 3)

/-- The module takes a mode, shown in STATE_STS. -/
def Dev.toMode (m : PMode) (st : Nat) (d : Dev) : Dev :=
  ({ d with pwr := { d.pwr with mode := m } }).set Reg.PWR_STATE_STS_STATE st

/-- A transition ends with a result. -/
def Dev.entryEnd (result : Nat) (d : Dev) : Dev :=
  ({ d with pwr := { d.pwr with entry := 0, step := 0 } }).sets [(Reg.PWR_STATE_STS_TARGET, 0), (Reg.PWR_STATE_STS_RESULT, result)]

/-- An entry begins: 2 SLEEP, 3 DEEP, 7 OFF. Intake stops (R561, R563). -/
def Dev.entryBegin (e : Nat) (d : Dev) : Dev :=
  ({ d.activity with pwr := { d.activity.pwr with entry := e, step := 1, wake := false } }).sets
    [(Reg.PWR_STATE_STS_TARGET, e), (Reg.HQ_INTAKE_STS_STOPPED, 1)]

/-- Whether a commit is pending in any device-wide block (R20). -/
def Dev.commitWaits (d : Dev) : Bool := d.blkPend.any (fun e => e.2.isSome)

/-- IDLE_ENTRY: nothing has used the device for IDLE_US (R560). -/
def idleEntry (c : Clock) (d : Dev) : Dev :=
  if d.pwr.mode = .run ∧ d.pwr.entry = 0 ∧ d.quiet ∧ d.get Reg.PWR_STATE_CTL_IDLE_US * tickUs ≤ d.devSpan c gIDLE then d.toMode .idle 1 else d

/-- IDLE_EXIT (R560). DESIGN CHOICE, log 107. -/
def idleExit (d : Dev) : Dev := d.activity

/-- APST_TRANSITION: an idle controller moves itself to a lower non-operational power state (R559). -/
def apstTransition (cid ps : Nat) (d : Dev) : Dev :=
  match d.ctrl cid with
  | none => d
  | some k =>
    let on := bit (FMap.get Config.featDefault k.feats 0x0C) 0
    if d.apst && on && k.enabled && decide (3 ≤ ps) && decide (ps ≤ d.psMax) && decide (k.ps < ps) &&
        d.host.ctxs.all (fun x => x.cid != cid || x.cmd.op == .asyncEvent) then
      d.onCtrl cid (fun k => { k with ps := ps, lastOp := if k.ps ≤ 2 then k.ps else k.lastOp })
    else d

/-! ### Wake events (R567, R568, R587) -/

/-- The cause bit of WAKE_STS. -/
def wakeField : WakeCause → Fld
  | .command => Reg.PWR_WAKE_STS_COMMAND
  | .cmb => Reg.PWR_WAKE_STS_CMB
  | .mctp => Reg.PWR_WAKE_STS_MCTP
  | .wakeN => Reg.PWR_WAKE_STS_WAKE_N
  | .clamp => Reg.PWR_WAKE_STS_CLAMP
  | .fault => Reg.PWR_WAKE_STS_FAULT
  | .tamper => Reg.PWR_WAKE_STS_TAMPER

/-- The DRAM leaves self-refresh and every channel is re-centred (R494, R562). -/
def memBack (c : Clock) (l : List CentreObs) (d : Dev) : Dev :=
  if d.mstate = mSELFREF then memRecentre c l (d.set Reg.MEM_STS_STATE mRUN) else d

/-- An entry in progress is abandoned (R568). -/
def entryAbandon (c : Clock) (result : Nat) (l : List CentreObs) (d : Dev) : Dev :=
  ((memBack c l d).entryEnd result).intakeResume

/-! ### SLEEP (R561, R562) -/

/-- What SLEEP entry waits for: commands in TRANSFER or MEDIA, running jobs, write passes, gleans. -/
def Dev.sleepDrained (d : Dev) : Bool :=
  d.host.ctxs.all (fun x => x.cmd.op == .asyncEvent || (x.phase != .transfer && x.phase != .media)) &&
    d.jobs.all (fun j => j.eng.isNone) &&
    (List.range 16).all (fun n => (d.deck n).pass.isNone && (d.deck n).unit.isNone && !d.gleaning n && !(d.deck n).seq.opc)

/-- The floor index of a clocked domain (R573, R576); the management domain runs at OPP3 in SLEEP (R558). -/
def Dev.oppFloor (d : Dev) (j : Nat) : Nat :=
  max d.pwr.floor (if j = 5 then d.pwr.dec0 else if j = 6 then d.pwr.dec1 else if j = 0 ∧ d.pwr.mode = .sleep then 3 else 0)

/-- Targets of a domain: frequency and voltage. -/
def Dev.oppF (d : Dev) (j : Nat) : Nat := max (d.get (Reg.PWR_DVFS_CTL_F_OPP j)) (d.oppFloor j)
def Dev.oppV (d : Dev) (j : Nat) : Nat := max (d.get (Reg.PWR_DVFS_CTL_V_OPP j)) (d.oppFloor j)

/-- BUSY while what is in force differs from its target. -/
def dvfsShow (j : Nat) (d : Dev) : Dev :=
  d.setB (Reg.PWR_DVFS_CTL_BUSY j) (d.get (Reg.PWR_DVFS_CTL_EFF_F j) != d.oppF j || d.get (Reg.PWR_DVFS_CTL_EFF_V j) != d.oppV j)

/-- The management domain takes the operating point of its state at once: OPP3 in SLEEP (R558). DEDUCED, log 70. -/
def sleepOpp (d : Dev) : Dev :=
  dvfsShow 0 (d.sets [(Reg.PWR_DVFS_CTL_EFF_F 0, d.oppF 0), (Reg.PWR_DVFS_CTL_EFF_V 0, d.oppV 0)])

/-- What an entry to a low state waits for: a pending commit (R20), a plait reload (R42), a firmware activation (R568). -/
def Dev.entryHeld (d : Dev) : Bool := d.commitWaits || d.reload.isSome || d.host.act.isSome

/-- SLEEP_ENTRY: asked for by the controllers, it waits for commits, reloads and activation; intake stops, and once media
work has drained the device is in SLEEP. -/
def sleepEntry (d : Dev) : Dev :=
  if ¬(d.pwr.mode = .run ∨ d.pwr.mode = .idle) ∨ d.psTarget ≠ some 2 ∨ d.entryHeld ∨
      (d.pwr.entry ≠ 0 ∧ d.pwr.entry ≠ 2) then d
  else
    let d := d.entryBegin 2
    if d.sleepDrained = false then d
    else
      let d := d.eachDeck (fun n d => d.lanesStandby n)
      let d := tstAbort (domsOff [dLANE 0, dDEC 0, dLANE 1, dDEC 1, 9] d)
      sleepOpp (((selfRefresh d).entryEnd 1).toMode .sleep 2)

/-- The failed bank of a sleep: CMP's fields take reset values (R569). -/
def bankFail (c : Clock) (banks : Nat) (d : Dev) : Dev :=
  if banks = 0 then d
  else (d.sets [(Reg.PWR_RET_FAIL_FAIL, banks), (Reg.PWR_WAKE_STS_BANK, 1)]).fault c .device
    { cls := 5, code := 8, sev := 2, detail := le 4 banks }

/-- CMP after its bank failed: reset values, engine owners as the plait has them. -/
def bank19 (d : Dev) : Dev :=
  let d := d.resetRange 0x400000 0x500000
  let d := match d.plait with
    | some p => engOwners p d
    | none => d
  fuseCmp d

/-- Registers between two offsets of each pair take their reset values (R6). -/
def Dev.resetRanges (l : List (Nat × Nat)) (d : Dev) : Dev := l.foldl (fun d p => d.resetRange p.1 p.2) d

/-- The CMP domain leaves reset: what bank 19 does not list starts anew, STS and the selector (R6, R569). -/
def cmpFresh (d : Dev) : Dev := d.resetRanges [(0x400004, 0x400008), (0x400010, 0x400014)]

/-- Every domain that DEEP switched off leaves reset: the fields that no bank of R569 lists start anew (R6, R564): the selectors of HQ; of
MEM the rinse, the retirement policy and the fill; the maintenance and status words of MC; TST; of SEC the word of ZERO; of FLT its
configuration and selectors. DEDUCED, log 94. -/
def deepFresh (d : Dev) : Dev :=
  tstShow ((cmpFresh d).resetRanges [(0x300100, 0x300104), (0x300200, 0x300204), (0x500014, 0x500024), (0x500030, 0x500040),
    (0x600200, 0x600218), (0x700000, 0x800000), (0x800010, 0x800014), (0xA00004, 0xA00008), (0xA0000C, 0xA00024)])

/-- SLEEP_EXIT: a wake event; bank 19 may fail its check; the channels are re-centred (R562, R567, R568, R569). A lid tamper
and a clamp change do not wake from SLEEP. -/
def sleepExit (c : Clock) (w : WakeCause) (bad : Bool) (l : List CentreObs) (d : Dev) : Dev :=
  if w = .clamp ∨ w = .tamper then d
  else if d.pwr.entry = 2 then entryAbandon c 2 l (d.set (wakeField w) 1)
  else if d.pwr.mode ≠ .sleep then d
  else
    let d := d.sets [(wakeField w, 1), (Reg.PWR_WAKE_STS_FROM, 1)]
    let d := memBack c l (cmpFresh (domsOn c d.domMask d))
    let d := if bad then bank19 (bankFail c (2 ^ 19) d) else d
    let d := d.eachDeck (fun n d => if lanesWanted d n then d.lanesRelease n else d)
    sleepOpp ((d.entryEnd 1).toMode .run 0).intakeResume

/-! ### DEEP and OFF (R563 to R566) -/

/-- A deck is released to software with its spindle not OFF (R566, R568). -/
def Dev.deckBusy (d : Dev) : Bool :=
  (List.range 16).any (fun n => d.getB (Reg.SEQ_CTL_REL_SPN n) && d.get (Reg.SPN_STS_STATE n) != spOFF)

/-- DEEP_ENTRY: asked for by the controllers (R563, step 1). -/
def deepEntry (d : Dev) : Dev :=
  if ¬(d.pwr.mode = .run ∨ d.pwr.mode = .idle) ∨ d.psTarget ≠ some 3 ∨ d.entryHeld ∨ d.pwr.entry ≠ 0 then d
  else d.entryBegin 3

/-- REQ_OFF (R566): the entry begins with step 1 of R563, which a commit, a reload or an activation holds up (R20, R42, R568).
DEDUCED, log 70. -/
def reqOff (d : Dev) : Dev :=
  if d.linked then d.set Reg.PWR_STATE_STS_RESULT 4
  else if d.deckBusy then d.set Reg.PWR_STATE_STS_RESULT 3
  else if ¬(d.pwr.mode = .run ∨ d.pwr.mode = .idle) ∨ d.pwr.entry ≠ 0 then d.set Reg.PWR_STATE_STS_RESULT 4
  else
    let e := d.entryBegin 7
    if d.entryHeld then { e with pwr := { e.pwr with step := 0 } }.set Reg.HQ_INTAKE_STS_STOPPED (d.get Reg.HQ_INTAKE_STS_STOPPED) else e

/-- Every staged write is written and committed (R563, step 2). -/
def Dev.allCommitted (d : Dev) : Bool :=
  d.host.writes.all (fun w => w.isCommitted) && (List.range 16).all (fun n =>
    !d.unitWaits n && (d.deck n).pass.isNone && (d.deck n).unit.isNone && (d.deck n).queue.isEmpty && (d.deck n).bound.isEmpty)

/-- Every deck has parked (R563, step 3). -/
def Dev.allParked (d : Dev) : Bool :=
  (List.range 16).all (fun n => d.dstate n == dLOADED || d.dstate n == dABSENT)

/-- Domains that keep power in DEEP: AON, ACTS, PCIE (R558). -/
def deepDomains : Nat := maskOf [0, 1, 4]

/-- The links that DEEP takes down: Ethernet ports lose link, seam ports go down. -/
def linksDown (d : Dev) : Dev :=
  let d := (List.range 4).foldl (fun d p => d.set (Reg.MGMT_ETH_CFG_LINK p) 0) d
  (List.range 6).foldl (fun d k => portDown k d) d

/-- Domains outside a mask go off: their pads are latched first (R563, R570). -/
def domsDown (keep : Nat) (d : Dev) : Dev :=
  let on' := d.get Reg.PWR_DOM_STS_ON
  let off := (List.range 17).filter (fun k => bit on' k && !bit keep k)
  let d := d.set Reg.PWR_PAD_LATCH_LATCHED (off.foldl setBit (d.get Reg.PWR_PAD_LATCH_LATCHED))
  tstAbort (domsOff off d)

/-- A deck parks for DEEP or OFF, once nothing holds it (R356, R363). -/
def deepPark (c : Clock) (n : Nat) (d : Dev) : Dev :=
  if d.dstate n = dLOADED ∧ (d.deck n).seq.job ≠ 0 then
    ((d.onSeq n (fun s => { s with chargeReq := none })).set (Reg.SEQ_STS_BUDGET_WAIT n) 0).seqEnd n 4
  else if d.dstate n = dABSENT ∨ d.dstate n = dLOADED ∨ d.dstate n = dPARKING then d
  else
    let d := if d.getB (Reg.SEQ_CTL_BUSY n) then d.seqEnd n 4 else d
    if d.dstate n = dWRITING ∨ (d.deck n).seq.opc ∨ (d.dstate n = dREADY ∧ d.gleaning n) then
      d.onSeq n (fun s => { s with pendPark := true })
    else parkGo c n 6 d

/-- DEEP_ENTRY_STEP: the next step of an entry to DEEP or OFF, once the one before has finished (R563, R566). -/
def deepStep (c : Clock) (d : Dev) : Dev :=
  if d.pwr.entry ≠ 3 ∧ d.pwr.entry ≠ 7 then d
  else
    let next := fun (k : Nat) (d : Dev) => { d with pwr := { d.pwr with step := k } }
    match d.pwr.step with
    | 0 => if d.entryHeld then d else (next 1 d).set Reg.HQ_INTAKE_STS_STOPPED 1
    | 1 => if d.allCommitted then next 2 d else d
    | 2 => if d.deckBusy then entryAbandon c 3 [] d
      else next 3 (d.eachDeck (fun n d => deepPark c n d))
    | 3 => if !d.allParked || d.mem.fillTo.isSome || d.mc.op.isSome then d else next 4 (selfRefresh (mcDeep d))
    | 4 => if d.pwr.entry = 7 then
        let d := ledgerFlush c true (linksDown d)
        let d := { d with brk := { d.brk with test := false } }
        ((domsDown 1 d).entryEnd 1).toMode .off 0
      else next 5 d
    | 5 => ((domsDown deepDomains (linksDown d)).entryEnd 1).toMode .deep 3
    | _ => d

/-- A staged write that cannot commit within INH_TMO abandons the entry, with a record of its own (R218, R568).
DESIGN CHOICE, log 71. -/
def deepInhibit (c : Clock) (n : Nat) (d : Dev) : Dev :=
  if (d.pwr.entry = 3 ∨ d.pwr.entry = 7) ∧ d.pwr.step = 1 ∧ (d.deck n).gate.hold ≠ 0 ∧ ((d.dependsOn n).isEmpty = false) then
    let d := entryAbandon c 2 [] d
    let q := Config.abandonRecord
    let d := d.fault c .device { cls := q.1 % 16, code := q.2.1 % 65536, sev := q.2.2 % 4 }
    ({ d with ctrls := mapIf (fun k => k.takesEvents && k.vendor == 0) (fun k => { k with vendor := 1 }) d.ctrls }).deliver
  else d

/-- Records that AON held go to the ring, before any other (R671). -/
def aonFlush (c : Clock) (d : Dev) : Dev :=
  let d := d.flt.aon.foldl (fun d r => { d with flt := d.flt.push { r with seq := d.flt.next } }) d
  let lost := d.flt.aonLost
  let f : Flt := { d.flt with
    aon := [], aonLost := 0, lostNow := d.flt.lostNow + lost, lostAt := if d.flt.lostOpen then d.flt.lostAt else c.tick,
    lostOpen := d.flt.lostOpen || decide (lost ≠ 0), lostTotal := satAdd 32 d.flt.lostTotal lost }
  let d := { d with flt := f }
  if lost = 0 then d else d.set Reg.FLT_STS_LOST 1

/-- The ring as DEEP's exit has it (R569, R670, R671): its bank or an empty ring, then the records AON held, then, where the bank failed, the
RECORDS_LOST record that counts those not yet read. -/
def ringBack (c : Clock) (bad : Bool) (d : Dev) : Dev :=
  if !bad then aonFlush c d
  else
    let gone := d.flt.unread
    let f : Flt := { d.flt with ring := [], lostNow := d.flt.lostNow + gone, lostTotal := satAdd 32 d.flt.lostTotal gone }
    lostRecord c (aonFlush c { d with flt := f })

/-- Deck n's bank failed: reset values, POS_OK clear; the disc in the clamp and its place in the mount table are not in that
bank (R569). DEDUCED, log 94. -/
def bankDeck (n : Nat) (d : Dev) : Dev :=
  let k := d.deck n
  let st := if k.seq.clampLow then dLOADED else dABSENT
  let d := d.resetRange (deckBase + n * deckSpan) (deckBase + (n + 1) * deckSpan)
  let d := d.onDeck n (fun _ => { seq := { clampLow := k.seq.clampLow }, disc := k.disc, mounted := k.mounted })
  let d := d.deckState n st
  let ls := ((fuseUnits d).filter (fun u => decide (32 + 66 * n ≤ u) && decide (u < 98 + 66 * n))).map unitLane
  let soft := (List.range 66).filter (fun l => (d.tunit (32 + 66 * n + l)).state == 3 && !ls.contains l)
  lanesFromFuses n (ls ++ soft) d

/-- Bank 17 failed: full training, the default map, table and marks from flash, a full fill; DRAM content is lost (R569).
DEDUCED, log 70. -/
def bankMem (c : Clock) (o : TrainObs) (d : Dev) : Dev :=
  let d := d.resetRange 0x500000 0x600000
  let d := { d with mem := {}, mc := {} }
  let d := defaultMap (trainDone o (memTrain d))
  let d := memStart c d
  if d.mstate = mRUN then
    let n := d.dramPages - 2 ^ 30 / 4096
    d.onMem (fun m => m.fill 0 n (d.get Reg.MEM_FILL_PAT_PAT))
  else d

/-- Bank 20 failed: the plait is read from flash and verified again, as at boot (R38, R569): it takes effect, or the minimal
structure does, whose ports and namespaces go. TAI_BASE and PTP start anew. DEDUCED, log 70. -/
def bank20 (c : Clock) (d : Dev) : Dev :=
  let d := { d with host := { d.host with tai := 0 } }.sets
    [(Reg.MGMT_PTP_STS_STATE, 0), (Reg.MGMT_PTP_STS_OFFSET, 0), (Reg.MGMT_PTP_STS_UTC_OFS, 0)]
  let d := bootReject c d.dramGib d
  let d := match bootPlait d d.dramGib with
    | some x => (applyPlait x.1 x.2.2 d).set Reg.MGMT_PLAIT_STS_FALLBACK (ofB x.2.1)
    | none =>
      let d := (List.range 6).foldl (fun d k => portDown k d) (nsFollow d.plait {} d)
      ({ d with plait := none }.sets [(Reg.MGMT_PLAIT_STS_SOURCE, 0), (Reg.MGMT_PLAIT_STS_STATE, 4),
        (Reg.MGMT_SELF_HANDLE_DEVICE_NUM, 0x3FFFF), (Reg.MGMT_SELF_HANDLE_INDEX, 0x3FFF)]).refreshRoles.refreshSessions
  domsOn c d.domMask (domsOff ((List.range 17).filter (fun k => !bit d.domMask k)) d)

/-- Management firmware starts cold: every clamped member disc is mounted again as Mount does, by a command of its own
(R569). DEDUCED, log 70. -/
def bankMounts (d : Dev) : Dev :=
  let nss := (d.host.nss.filter (fun e => e.2.ready)).map (fun e => e.1)
  let d := nsLose nss d
  d.eachDeck (fun n d => match (d.deck n).mounted with
    | none => d
    | some nsid =>
      let x : Ctx := { stamp := 2 ^ 64 + d.host.mtag, cid := 0, sq := 0, cmd := { op := .mount, nsid := nsid }, phase := .transfer, mute := true }
      let d := d.onDeck n (fun k => { k with mounted := none })
      { d with host := { d.host with mtag := d.host.mtag + 1, ctxs := d.host.ctxs ++ [x] } })

/-- What the failed banks cost, in bank order; the record ring's is in `ringBack` (R569). -/
def banksLost (c : Clock) (banks : Nat) (o : TrainObs) (d : Dev) : Dev :=
  let lost := fun (k : Nat) => bit banks k
  let d := d.eachDeck (fun n d => if lost n then bankDeck n d else d)
  let d := if lost 16 then
      let d := { d with ctrls := mapIf (fun k => decide (k.kind ≤ 1)) (fun k => { k with fatal := true }) d.ctrls }
      let d := d.resetRange 0x300000 0x400000
      match d.plait with
      | some p => loadQuotas p.bindings d
      | none => d
    else d
  let d := if lost 17 then bankMem c o d else d
  let d := if lost 18 then (secWipe d).ledEvent c {} 12 2 0 7 zeros48 zeros48 else d
  let d := if lost 19 then bank19 d else d
  let d := if lost 20 then bank20 c d else d
  let d := if lost 22 then d.resetRange 0x600000 0x700000 else d
  if lost 23 then bankMounts d else d

/-- Commands that waited for a deck ask for it again (R564). -/
def wakeAgain (d : Dev) : Dev := d.letGo 5

/-- DEEP_EXIT: a wake event abandons an entry before its step 5, is kept by a later one, or brings the device back: domains,
banks, pads, self-refresh, links (R564, R567, R568, R569). -/
def deepExit (c : Clock) (w : WakeCause) (banks : Nat) (l : List CentreObs) (o : TrainObs) (d : Dev) : Dev :=
  let wakes := w != .clamp || d.getB Reg.PWR_STATE_CTL_CLAMP_WAKE
  if d.pwr.entry = 3 ∨ d.pwr.entry = 7 then
    let d := d.set (wakeField w) 1
    if !wakes then d
    else if d.pwr.step < 5 then entryAbandon c 2 l d
    else { d with pwr := { d.pwr with wake := true } }
  else if d.pwr.mode ≠ .deep then d
  else
    let d := d.set (wakeField w) 1
    if !wakes && !d.pwr.wake then d
    else
      let d := (d.set Reg.PWR_WAKE_STS_FROM 2).toMode .run 0
      let banks := banks % 2 ^ 24
      let d := domsOn c d.domMask (ringBack c (bit banks 21) (deepFresh d))
      let d := memBack c l (if bit banks 17 then d.set Reg.MEM_STS_STATE mSTOPPED else d)
      let d := bankFail c banks (banksLost c banks o d)
      let d := d.set Reg.PWR_PAD_LATCH_LATCHED 0
      let d := match d.plait with
        | some p => (List.range 6).foldl (fun d k => if (p.port k).2.2 then portTrain k d else d) d
        | none => d
      wakeAgain (({ d with pwr := { d.pwr with wake := false } }).entryEnd 1).intakeResume

/-! ### Pads and operating points (R570, R572, R573) -/

/-- PAD_REL (R570). -/
def padRel (v : Nat) (d : Dev) : Dev :=
  (List.range 17).foldl (fun d k =>
    if !bit v k then d
    else if d.domOn k then d.set Reg.PWR_PAD_LATCH_LATCHED (clrBit (d.get Reg.PWR_PAD_LATCH_LATCHED) k)
    else d.set Reg.PWR_PAD_LATCH_ERR 1) d

/-- DVFS_WRITE: F_OPP and V_OPP of a domain (R573). -/
def dvfsWrite (j v : Nat) (d : Dev) : Dev :=
  let d := if bit v 30 then d.set (Reg.PWR_DVFS_CTL_ERR j) 0 else d
  let f := bits v 2 2
  let u := bits v 0 2
  let both := f != d.get (Reg.PWR_DVFS_CTL_F_OPP j) && u != d.get (Reg.PWR_DVFS_CTL_V_OPP j)
  if d.getB (Reg.PWR_DVFS_CTL_BUSY j) ∨ both ∨ f < u then d.set (Reg.PWR_DVFS_CTL_ERR j) 1
  else dvfsShow j (d.sets [(Reg.PWR_DVFS_CTL_F_OPP j, f), (Reg.PWR_DVFS_CTL_V_OPP j, u)])

/-- DVFS_CHANGE_DONE: the next change of a domain: frequency first on the way down, voltage first on the way up (R573). -/
def dvfsChangeDone (j : Nat) (d : Dev) : Dev :=
  let f := d.oppF j
  let u := d.oppV j
  if d.get (Reg.PWR_DVFS_CTL_EFF_F j) < f then dvfsShow j (d.set (Reg.PWR_DVFS_CTL_EFF_F j) f)
  else if d.get (Reg.PWR_DVFS_CTL_EFF_V j) ≠ u then dvfsShow j (d.set (Reg.PWR_DVFS_CTL_EFF_V j) u)
  else dvfsShow j (d.set (Reg.PWR_DVFS_CTL_EFF_F j) f)

/-- THERM_CLR (R590). -/
def thermClr (i : Nat) (d : Dev) : Dev := d.set (Reg.PWR_THERM_TJ_MAX i) (d.get (Reg.PWR_THERM_TJ i))

/-! ### Governor and thermal throttle (R574 to R576) -/

/-- A die's temperature is taken. -/
def thermTake (i : Nat) (tj : Int) (d : Dev) : Dev :=
  let d := d.setI (Reg.PWR_THERM_TJ i) tj
  let d := if d.getI (Reg.PWR_THERM_TJ_MAX i) < tj then d.setI (Reg.PWR_THERM_TJ_MAX i) tj else d
  let d := d.setB (Reg.PWR_THERM_THROT i) (decide (105 ≤ tj))
  d.setB Reg.PWR_STATE_STS_THROTTLE ((List.range 5).any (fun k => d.getB (Reg.PWR_THERM_THROT k)))

/-- A die's temperature is taken; reaching 105 °C makes a record and an event, and wakes (R567, R576). -/
def thermSee (c : Clock) (i : Nat) (tj : Int) (d : Dev) : Dev :=
  let was := d.getB (Reg.PWR_THERM_THROT i)
  let d := thermTake i tj d
  if tj < 105 ∨ was then d
  else
    let d := d.fault c .device { cls := 5, code := 4, sev := 1, detail := le 1 i ++ le 1 (satPat 8 tj) }
    (d.raise (fun _ => true) evTemp).wakeBy Reg.PWR_WAKE_STS_FAULT

/-- THERMAL_THROTTLE: a die reads 105 °C or more (R576). -/
def thermalThrottle (c : Clock) (i : Nat) (tj : Int) (d : Dev) : Dev := thermSee c i tj d

/-- The cap of a power state, in 1/500 W (R407). -/
def psCap (ps : Nat) : Nat :=
  match ps with
  | 0 => 125000
  | 1 => 90000
  | 2 => 60000
  | 3 => 3000
  | _ => 400

/-- P_CAP, in 1/500 W: 250 W, the cap of the lowest power state, VIN × VIN_ILIM (R574). -/
def Dev.pCap (d : Dev) : Nat :=
  min (min 125000 (match d.psLow with
    | some ps => psCap ps
    | none => 125000)) (d.get Reg.PWR_VIN_STS_VIN * d.get Reg.PWR_GOV_CFG_VIN_ILIM)

/-- The deck the next hold takes: the highest-numbered that is not WRITING, has lanes out of standby and is not about to be
held, among those allowed (R575). -/
def holdNext (d : Dev) (may : Nat → Bool) : Option Nat :=
  (List.range 16).reverse.find? (fun n => may n && d.dstate n != dWRITING && !bit d.pwr.holdWant n &&
    !bit (d.get Reg.PWR_GOV_STS_HELD) n && (List.range 66).any (fun l => d.lstate n l == 0 && !d.getB (Reg.LANE_STATE_STBY n l)))

/-- Every clocked domain follows the floor. -/
def floorShow (d : Dev) : Dev :=
  let d := d.set Reg.PWR_GOV_STS_OPP_STEP (max d.pwr.floor (max d.pwr.dec0 d.pwr.dec1))
  (List.range 7).foldl (fun d j => dvfsShow j d) d

/-- One step down the ladder (R575). -/
def govDown (d : Dev) : Dev :=
  match holdNext d (fun _ => true) with
  | some n => { d with pwr := { d.pwr with holdWant := setBit d.pwr.holdWant n } }
  | none => if !d.getB Reg.PWR_GOV_STS_PASS_HOLD then d.set Reg.PWR_GOV_STS_PASS_HOLD 1
    else if d.pwr.floor < 3 then floorShow { d with pwr := { d.pwr with floor := d.pwr.floor + 1 } }
    else d

/-- One step down for hot data dies only: their decks, then their DEC domains (R576). -/
def dieDown (hot0 hot1 : Bool) (d : Dev) : Dev :=
  match holdNext d (fun n => if n < 8 then hot0 else hot1) with
  | some n => { d with pwr := { d.pwr with holdWant := setBit d.pwr.holdWant n } }
  | none =>
    let up := fun (hot : Bool) (v : Nat) => if hot then min 3 (v + 1) else v
    floorShow { d with pwr := { d.pwr with dec0 := up hot0 d.pwr.dec0, dec1 := up hot1 d.pwr.dec1 } }

/-- One step back (R575): the floors, the pass hold, then the deck held last. -/
def govUp (d : Dev) : Dev :=
  if 0 < d.pwr.floor then floorShow { d with pwr := { d.pwr with floor := d.pwr.floor - 1 } }
  else if 0 < d.pwr.dec0 ∨ 0 < d.pwr.dec1 then
    floorShow { d with pwr := { d.pwr with dec0 := d.pwr.dec0 - 1, dec1 := d.pwr.dec1 - 1 } }
  else if d.getB Reg.PWR_GOV_STS_PASS_HOLD then d.set Reg.PWR_GOV_STS_PASS_HOLD 0
  else match (List.range 16).find? (fun n => bit d.pwr.holdWant n || bit (d.get Reg.PWR_GOV_STS_HELD) n) with
    | some n =>
      let was := bit (d.get Reg.PWR_GOV_STS_HELD) n
      let d := { d with pwr := { d.pwr with holdWant := clrBit d.pwr.holdWant n } }
      let d := d.set Reg.PWR_GOV_STS_HELD (clrBit (d.get Reg.PWR_GOV_STS_HELD) n)
      if was && lanesWanted d n then d.lanesRelease n else d
    | none => d

/-- A hold takes effect when the deck's revolution in progress and its gleans end (R575): at its revolution mark.
DEDUCED, log 72. -/
def govHold (n : Nat) (d : Dev) : Dev :=
  if bit d.pwr.holdWant n && !d.gleaning n then
    let d := { d with pwr := { d.pwr with holdWant := clrBit d.pwr.holdWant n } }
    if d.dstate n = dWRITING then d
    else (d.lanesStandby n).set Reg.PWR_GOV_STS_HELD (setBit (d.get Reg.PWR_GOV_STS_HELD) n)
  else d

/-- After a step the governor waits until it is in effect; the first full period after that decides again (R574). -/
def govWait (d : Dev) : Dev :=
  { d with pwr := { d.pwr with wait := d.pwr.holdWant != 0 || (List.range 7).any (fun j => d.getB (Reg.PWR_DVFS_CTL_BUSY j)), low := 0 } }

/-- GOVERNOR_PERIOD: 5 ms after the last; mean input power of the period in 0.1 W, VIN in 20 mV, temperatures of the five dies (R574 to R576).
DEDUCED, log 72. -/
def governorPeriod (c : Clock) (pin vin : Nat) (tj : List Int) (d : Dev) : Dev :=
  if d.devSpan c gGOV < 5 * tickMs then d
  else
  let d := d.devSince gGOV
  let d := (tj.zip (List.range 5)).foldl (fun d (p : Int × Nat) => thermSee c p.2 p.1 d) d
  let d := d.sets [(Reg.PWR_GOV_STS_P_IN, pin), (Reg.PWR_VIN_STS_VIN, vin)]
  let cap := d.pCap
  let d := d.set Reg.PWR_STATE_STS_P_CAP (Config.rndN cap 500)
  let p : Int := 50 * d.get Reg.PWR_GOV_STS_P_IN
  let hot := fun (i : Nat) => d.getB (Reg.PWR_THERM_THROT i)
  let cool := (List.range 5).all (fun i => decide (d.getI (Reg.PWR_THERM_TJ i) < 100))
  let below := decide (p < (cap : Int) - 500 * d.get Reg.PWR_GOV_CFG_HYST) && (cool || !d.pwr.heat)
  let d := { d with pwr := { d.pwr with low := if below then d.pwr.low + 1 else 0, heat := d.pwr.heat && !cool } }
  if hot 2 || hot 3 || hot 4 then govDown { d with pwr := { d.pwr with heat := true, low := 0 } }
  else if hot 0 || hot 1 then dieDown (hot 0) (hot 1) { d with pwr := { d.pwr with heat := true, low := 0 } }
  else if d.pwr.wait then govWait d
  else if (cap : Int) - 500 * d.get Reg.PWR_GOV_CFG_MARGIN < p then govWait (govDown d)
  else if 4 ≤ d.pwr.low then govWait (govUp d)
  else d

/-! ### Rules (R372, R578) -/

/-- The first failing rule of PWR. -/
def pwrRules (d : Dev) : Option Nat :=
  let m := d.get Reg.PWR_GOV_CFG_MARGIN
  let h := d.get Reg.PWR_GOV_CFG_HYST
  let budget := d.get Reg.PWR_SPIN_BUDGET_SPINUP_W
  if ¬(100 ≤ d.get Reg.PWR_GOV_CFG_VIN_ILIM ∧ d.get Reg.PWR_GOV_CFG_VIN_ILIM ≤ 140) then some 1
  else if ¬(1 ≤ m ∧ m < h ∧ h ≤ 40) then some 2
  else if ¬10 ≤ d.get Reg.PWR_STATE_CTL_IDLE_US then some 3
  else match vmRules d with
    | some r => some r
    | none => if budget < 40 ∨ (List.range 16).any (fun n => decide (budget < d.get (Reg.SEQ_PWR_CFG_SPIN_W n))) then some 105 else none

end Sys2Proof.Machine
end

