-- ==== Sys2Proof/Machine/BringUp.lean ====
section
/-! DEFINITION. Machine/BringUp.lean: module reset, cold boot, supply and temperature limits, tamper and boundary scan (spec
files 20 and 22, R556, R577, R643). -/

namespace Sys2Proof.Machine

/-! ### Module reset (R52, R66, R415, R556, R566, R577) -/

/-- The ledger after a module reset: what the AON buffer held is lost (R647, R650). DEDUCED, log 70. -/
def ledCut (l : Ledger) : Ledger :=
  match l.entries.find? (fun e => e.seq == l.flushed) with
  | some e => { l with next := l.flushed, head := e.prev, entries := l.entries.filter (fun x => decide (x.seq < l.flushed)), bad := false }
  | none => { l with bad := false }

/-- What a module reset leaves: flash, fuses, the ledger and the store in flash, and the registers R566 and R577 keep. -/
def moduleReset (from' : Nat) (d : Dev) : Dev :=
  let kept := [Reg.PWR_WAKE_STS_COMMAND, Reg.PWR_WAKE_STS_CMB, Reg.PWR_WAKE_STS_MCTP, Reg.PWR_WAKE_STS_WAKE_N, Reg.PWR_WAKE_STS_CLAMP,
    Reg.PWR_WAKE_STS_FAULT, Reg.PWR_WAKE_STS_TAMPER, Reg.PWR_WAKE_STS_BANK, Reg.PWR_WAKE_STS_FROM, Reg.PWR_STATE_STS_THERM_SHUT]
  let dirty := match d.pwr.mode with
    | .reset => d.pwr.dirtyEnd
    | .off => false
    | .deep => false
    | _ => true
  let e : Dev := {
    led := ledCut d.led, flash := d.flash,
    sec := { custodians := d.sec.custodians, psks := d.sec.psks, slots := d.sec.slots, svnFw := d.sec.svnFw, svnPlait := d.sec.svnPlait,
             erased := d.sec.erased, drawn := d.sec.drawn, tamperOpen := d.sec.tamperOpen },
    tst := { rows := d.tst.rows }, misc := { jtag := d.misc.jtag },
    pwr := { dirtyEnd := dirty, shutDie := if from' = 4 then d.pwr.shutDie else none } }
  let e := if from' = 3 ∨ from' = 4 then e.sets (kept.map (fun f => (f, d.get f))) else e
  let e := if from' = 0 then e else e.set Reg.PWR_WAKE_STS_FROM from'
  tstShow e.secShow.ledShow

/-! ### Firmware and plait in flash (R38, R633, R657, R662) -/

/-- Whether the image of a firmware slot verifies. -/
def fwGood (d : Dev) (slot : Nat) : Bool := (verifyImage d true (d.fwImage slot)).isNone

/-- The firmware slot to run and whether it was not the one selected; none: ROM recovery. DEDUCED, log 55. -/
def fwChoose (d : Dev) : Option (Nat × Bool) :=
  let sel := match selNow d.flash.fwSel with
    | some s => s.2.1
    | none => 1
  if fwGood d sel then some (sel, false) else if fwGood d (3 - sel) then some (3 - sel, true) else none

/-! ### The boot sequence (R658 to R662) -/

/-- STAGE and FAIL of BOOT_STS. -/
def stage (k : Nat) (d : Dev) : Dev := d.set Reg.MGMT_BOOT_STS_STAGE k
def bootFail (k : Nat) (d : Dev) : Dev := d.set Reg.MGMT_BOOT_STS_FAIL k

/-- A boot that halts: only the PF, with Controller Fatal Status, and the health polls are offered (R662). -/
def bootHalt (fail : Nat) (d : Dev) : Dev :=
  let d := stage 11 (bootFail fail d)
  let d := { d with pwr := { d.pwr with mode := .halt } }
  let pfs : List Ctrl := (if d.host.split then [pcieCtrl 0 0, pcieCtrl 1 0] else [pcieCtrl 0 0]).map (fun k => { k with fatal := true })
  { d with ctrls := pfs }

/-- The two MCTP endpoints (R393). -/
def endpoints : List Ctrl :=
  [{ id := mctpCid false, kind := 3, transport := 3, port := 18 }, { id := mctpCid true, kind := 3, transport := 4, port := 19 }]

/-- OPP_DEFAULT goes to every DVFS_CTL (R572, R658). -/
def oppDefaults (v : Nat) (d : Dev) : Dev :=
  (List.range 7).foldl (fun d j =>
    let o := bits v (2 * j) 2
    d.sets [(Reg.PWR_DVFS_CTL_F_OPP j, o), (Reg.PWR_DVFS_CTL_V_OPP j, o), (Reg.PWR_DVFS_CTL_EFF_F j, o), (Reg.PWR_DVFS_CTL_EFF_V j, o)]) d

/-- Domains of a plait read at boot, before it takes effect. -/
def plaitMask (p : Option Plait) : Nat :=
  match p with
  | some p => (p.domainEn % 2 ^ 17) ||| maskOf [0, 1, 2, 3, 7]
  | none => maskOf [0, 1, 2, 3, 4, 7, 10]

/-- Steps 5 to 10: firmware runs from a slot. It writes AE_SEV and FOLD_EN and asks for their commit (R680). -/
def bootFirmware (c : Clock) (b : BootObs) (slot : Nat) (fallback : Bool) (d : Dev) : Dev :=
  let d := { d with host := { d.host with fwSlot := slot } }
  let d := stage 4 (d.sets [(Reg.MGMT_BOOT_STS_FW_SLOT, slot), (Reg.MGMT_BOOT_STS_FW_FALLBACK, ofB fallback), (Reg.SEC_STS_STATE, 2)])
  let d := if b.storeOk then d
    else
      let d := d.onSec (fun s => { s with custodians := [none, none, none, none], slots := [], psks := [] })
      (d.set Reg.MGMT_BOOT_STS_STORE_LOST 1).ledEvent c {} 12 2 0 7 zeros48 zeros48
  let d := { d with ctrls := endpoints.map (fun k => k) }
  let found := (bootPlait d (2 ^ 20)).map (fun x => x.2.2)
  let digest := match found with
    | some p => p.digest
    | none => zeros48
  let d := d.ledEvent c {} 11 2 (ofB d.pwr.dirtyEnd) slot (sha (d.fwImage slot)) digest
  let mask := plaitMask found
  let d := stage 5 d
  let d := domsOff ((List.range 17).filter (fun k => !bit mask k)) (domsOn c mask d)
  let d := if bit mask 4 then d else { d with host := { d.host with links := 0 } }
  let d := match found with
    | some p => powerFields p (oppDefaults p.oppDefault d)
    | none => d
  let d := (d.setStg Reg.FLT_CFG_AE_SEV 2).setStg Reg.FLT_CFG_FOLD_EN 1
  let d := (blkRequest c {} 0xA00000 d).set Reg.PWR_PAD_LATCH_LATCHED 0
  let d := d.eachDeck (fun n d => if d.deckOn n then
      let o := b.offsets.getD n ([], [])
      servoOffsets c n o.1 o.2 d
    else d)
  stage 6 (memTrain d)

/-- The cold boot, from reset to DRAM training (R658, steps 1 to 10). -/
def coldBoot (c : Clock) (b : BootObs) (d : Dev) : Dev :=
  let d := { d with host := { d.host with split := b.split }, pwr := { d.pwr with mode := .boot } }
  let d := stage 1 (domsOn c (maskOf [0, 1, 2, 4, 10]) d)
  let d := if b.perst then perstRelease b.links d else d
  let d := if b.tamperOpen then tamperAct c (if b.fromOff then 7 else 0) d else d
  if !b.fuseOk then bootHalt 1 d
  else
    let d := stage 2 (d.set Reg.SEC_STS_STATE 1)
    match b.kat with
    | some i => bootHalt 2 (secError c i d)
    | none =>
      let d := stage 3 d
      match (if b.flashOk then fwChoose d else none) with
      | none =>
        let d := stage 10 (bootFail 3 (d.set Reg.SEC_STS_STATE 2))
        { d with pwr := { d.pwr with mode := .recovery }, ctrls := endpoints }
      | some f => bootFirmware c b f.1 f.2 d

/-- POWER_ON_RESET: VIN rises through 8.6 V with the module in reset (R556, R658). -/
def powerOnReset (b : BootObs) (c : Clock) (d : Dev) : Clock × Dev :=
  if d.pwr.mode = .reset then ({}, coldBoot {} b (moduleReset 0 d)) else (c, d)

/-- The DRAM cannot be used: the boot ends in the minimal structure (R662). -/
def bootNoMem (d : Dev) : Dev := stage 8 (bootFail 4 d)

/-- DRAM_TRAIN_DONE: training ends; in a boot a channel that failed is trained once more, then the default map is written and
MEM started, the retirement table applied and all DRAM but the CMB filled (R491, R492, R508, R658, R662). -/
def dramTrainDone (c : Clock) (o : TrainObs) (d : Dev) : Dev :=
  if d.mstate ≠ mTRAINING then d
  else
    let d := trainDone o d
    if d.pwr.mode ≠ .boot then d
    else
      let d := d.set Reg.MGMT_BOOT_TIME_TRAIN_MS (min 65535 (c.tick / 1000000))
      if o.alike ∧ d.get Reg.MEM_STS_CH_TRAINED ≠ 0xFF ∧ d.mem.tried = 0 then memTrain (d.onMem (fun m => { m with tried := 1 }))
      else
        let d := memStart c (defaultMap d)
        if d.mstate = mRUN then
          stage 7 (fillStart (d.sets [(Reg.MEM_FILL_BASE_PAGE, 0), (Reg.MEM_FILL_LEN_PAGES, d.dramPages - 2 ^ 30 / 4096)]))
        else bootNoMem d

/-- FILL_DONE: in a boot, a fill that did not end DONE leaves MEM stopped (R658, R662). -/
def bootFillDone (d : Dev) : Dev :=
  let was := d.mem.fillTo.isSome
  let d := fillDone d
  if was = false ∨ d.pwr.mode ≠ .boot ∨ d.get Reg.MGMT_BOOT_STS_STAGE ≠ 7 then d
  else if d.get Reg.MEM_FILL_CTL_RESULT = 1 then stage 8 d
  else bootNoMem (d.set Reg.MEM_STS_STATE mSTOPPED)

/-- BOOT_READY: self-test and fill have both ended. Units that failed their initial pass are retired; the plait, or the
minimal structure, takes effect; links start; controllers become ready (R658 to R660, R662). -/
def bootReady (c : Clock) (fails : List (Nat × Nat)) (d : Dev) : Dev :=
  if d.pwr.mode ≠ .boot ∨ d.get Reg.MGMT_BOOT_STS_STAGE ≠ 8 then d
  else
    let d := fails.foldl (fun d (p : Nat × Nat) => if tstKind p.1 = 0 ∨ (d.tunit p.1).state = 3 then d
      else retireUnit c p.1 p.2 0 (d.set Reg.TST_STS_SLICE_FAIL 1)) d
    let d := if d.get Reg.MGMT_BOOT_STS_FAIL = 4 then d.set Reg.MGMT_PLAIT_STS_STATE 4
      else
        let gib := d.dramGib
        let d := bootReject c gib d
        match bootPlait d gib with
        | some x =>
          let d := (applyPlait x.1 x.2.2 d).set Reg.MGMT_PLAIT_STS_FALLBACK (ofB x.2.1)
          if d.domOn 5 then (List.range 4).foldl (fun d p => d.setBoth (Reg.MGMT_ETH_CFG_EN p) 1) d else d
        | none => d.set Reg.MGMT_PLAIT_STS_STATE 4
    let d := d.set Reg.MGMT_BOOT_TIME_READY_MS (min 65535 (c.tick / 1000000))
    let d := { d with ctrls := mapIf (fun k => decide (k.kind ≤ 1) && k.enabled) (fun k => { k with ready := true }) d.ctrls,
                      tst := { d.tst with initial := some c.tick } }
    (stage 9 d).toMode .run 0

/-- A whole plait taken at run time has its DOMAIN_EN and OPP_DEFAULT applied too: domains it does not enable go Off, those it
enables gain power; one taken while the minimal structure ran brings the Ethernet ports up (R36, R42, R558, R658).
DEDUCED, log 103. -/
def reloadDomains (c : Clock) (was d : Dev) : Dev :=
  match was.plait, d.plait with
  | some _, some p =>
    if was.reload.any (fun r => !r.image.subtree) && d.reload.isNone && was.plait != d.plait then
      oppDefaults p.oppDefault (domsDown d.domMask (domsOn c d.domMask d))
    else d
  | none, some p =>
    let d := oppDefaults p.oppDefault (domsOn c d.domMask d)
    let d := domsOff ((List.range 17).filter (fun k => !bit d.domMask k)) d
    if d.domOn 5 then (List.range 4).foldl (fun d p => d.setBoth (Reg.MGMT_ETH_CFG_EN p) 1) d else d
  | _, _ => d

/-! ### Supply and temperature (R556, R566, R577) -/

/-- VIN_BROWNOUT: VIN, in 20 mV, falls through 8.2 V: module reset (R556). -/
def vinBrownout (vin : Nat) (c : Clock) (d : Dev) : Clock × Dev :=
  if vin < 410 then ({}, moduleReset 0 d) else (c, d)

/-- VIN_OVERVOLTAGE: VIN rises through 64.0 V: the converter stops and the module is reset (R556). -/
def vinOvervoltage (vin : Nat) (c : Clock) (d : Dev) : Clock × Dev :=
  if vin < 3200 then (c, d)
  else
    let e := moduleReset 0 d
    ({}, { e with pwr := { e.pwr with mode := .overvolt } })

/-- VIN_OVERVOLTAGE_CLEAR: below 60.5 V the module boots in full (R556). -/
def vinOvervoltageClear (vin : Nat) (b : BootObs) (c : Clock) (d : Dev) : Clock × Dev :=
  if d.pwr.mode = .overvolt ∧ vin < 3025 then ({}, coldBoot {} b (moduleReset 0 d)) else (c, d)

/-- WAKE_N: low for 1 ms; it is latched in SLEEP and DEEP, and boots the module from OFF (R566, R567), with a tamper loop
that opened too latched beside it (R698). -/
def wakeN (b : BootObs) (c : Clock) (d : Dev) : Clock × Dev :=
  if d.pwr.mode = .off then
    let d := if b.tamperOpen then d.set Reg.PWR_WAKE_STS_TAMPER 1 else d
    let e := moduleReset 3 (d.set Reg.PWR_WAKE_STS_WAKE_N 1)
    ({}, coldBoot {} { b with fromOff := true } e)
  else (c, d.wakeBy Reg.PWR_WAKE_STS_WAKE_N)

/-- THERMAL_SHUTDOWN: a die reaches 120 °C (R577, R697). -/
def thermalShutdown (_c : Clock) (i : Nat) (tj : Int) (d : Dev) : Dev :=
  let d := thermTake i tj d
  if tj < 120 ∨ d.pwr.mode = .off ∨ d.pwr.mode = .hot ∨ d.pwr.mode = .reset ∨ d.pwr.mode = .overvolt then d
  else
    let d := latchGates (d.set Reg.PWR_STATE_STS_THERM_SHUT 1)
    let d := d.eachDeck (fun n d =>
      let d := if d.getB (Reg.SPN_CMD_BUSY n) then d.spnEnd n 4 else d
      let d := if d.spnSt n = spFAULT then d else d.spnState n spOFF
      let d := if d.get (Reg.SLD_STS_STATE n) = slDISABLED then d else d.sledOff n
      let d := d.coilsDown n
      (d.kill n).laser n 0)
    let d := domsDown (if i = 3 then 1 else 3) d
    { d with pwr := { d.pwr with mode := .hot, entry := 0, step := 0, shutDie := some (i, tj) } }

/-- THERMAL_RESTART: every die is below 95 °C: a full boot, with the record of the shutdown; gates stay closed until
THERM_SHUT is cleared (R577). -/
def thermalRestart (tj : List Int) (b : BootObs) (c : Clock) (d : Dev) : Clock × Dev :=
  if d.pwr.mode = .hot ∧ tj.all (fun t => decide (t < 95)) then
    let e := moduleReset 4 d
    let shut := e.pwr.shutDie
    let e := coldBoot {} b { e with pwr := { e.pwr with shutDie := none } }
    let e := match shut with
      | some s => e.fault {} .device { cls := 5, code := 5, sev := 3, detail := le 1 s.1 ++ le 1 (satPat 8 s.2), latched := true }
      | none => e
    ({}, latchGates e)
  else (c, d)

/-! ### Tamper (R643) -/

/-- TAMPER: the loop opens. In OFF the module latches it and boots; in DEEP it wakes. -/
def tamper (b : BootObs) (c : Clock) (d : Dev) : Clock × Dev :=
  match d.pwr.mode with
  | .off =>
    let e := moduleReset 3 (d.set Reg.PWR_WAKE_STS_TAMPER 1)
    ({}, coldBoot {} { b with tamperOpen := true, fromOff := true } e)
  | .deep => (c, (tamperAct c 3 d).wakeBy Reg.PWR_WAKE_STS_TAMPER)
  | .sleep => (c, tamperAct c 2 d)
  | .idle => (c, (tamperAct c 1 d).activity)
  | _ => (c, tamperAct c 0 d)

/-! ### Boundary scan (R695, R696) -/

/-- What drives the motor lands (GH, GL, SLA, SLB, VC, BRK): the core, the boundary cells, or neither: their safe states. -/
inductive MotorLands where
  | core | cells | safe
  deriving DecidableEq, Repr

/-- The motor lands under the JTAG instruction in force: EXTEST and its variants, CLAMP and HIGHZ drive them only while VM is
below UV_LIM (R696). -/
def motorLands (d : Dev) : MotorLands :=
  if d.misc.jtag < 3 then .core
  else if d.get Reg.PWR_VM_STS_VM < d.get Reg.PWR_VM_LIM_UV_LIM then .cells
  else .safe

/-- BOUNDARY_SCAN_INSTRUCTION: 0 BYPASS, 1 IDCODE, 2 SAMPLE/PRELOAD, 3 EXTEST, 4 EXTEST_PULSE, 5 EXTEST_TRAIN, 6 CLAMP, 7
HIGHZ (R695). DESIGN CHOICE, log 81. -/
def boundaryScan (i : Nat) (d : Dev) : Dev := { d with misc := { d.misc with jtag := i } }

/-- The device identification IDCODE shifts out (R695); the other instructions select no identification. -/
def scanId (d : Dev) : Option Nat := if d.misc.jtag = 1 then some 0xC9640B4B else none

end Sys2Proof.Machine
end

