-- ==== Sys2Proof/Machine/Jobs.lean ====
section
/-! DEFINITION. Machine/Jobs.lean: compression and decompression jobs (spec file 14, R456 to R459, R472 to R479). -/

namespace Sys2Proof.Machine

/-! ### The descriptor (R473) -/

/-- A buffer reference: ADDR, LEN, RKEY. -/
def bufRef (l : List Byte) (off : Nat) : Nat × Nat × Nat := (ofLe (slice l off 8), ofLe (slice l (off + 8) 4), ofLe (slice l (off + 12) 4))

def jobFlags (d : List Byte) : Nat := ofLe (slice d 0 4)
def jobMethod (d : List Byte) : Nat := jobFlags d % 4
def jobRestore (d : List Byte) : Bool := bit (jobFlags d) 2
def jobSave (d : List Byte) : Bool := bit (jobFlags d) 3
def jobLast (d : List Byte) : Bool := bit (jobFlags d) 4
def jobVerify (d : List Byte) : Bool := bit (jobFlags d) 5
def jobKind (d : List Byte) : Nat := bits (jobFlags d) 6 2
def jobRatio (d : List Byte) : Nat := ofLe (slice d 4 2)
def jobOutLimit (d : List Byte) : Nat := ofLe (slice d 8 8)
def jobIn (d : List Byte) : Nat × Nat × Nat := bufRef d 0x20
def jobOut (d : List Byte) : Nat × Nat × Nat := bufRef d 0x30
def jobChain (d : List Byte) : Nat × Nat × Nat := bufRef d 0x40
def jobState (d : List Byte) : Nat × Nat × Nat := bufRef d 0x50
def jobCompl (d : List Byte) : Nat × Nat × Nat := bufRef d 0x60

/-- The predictive header of a compress job without RESTORE: its streams begin at column 0. -/
def jobPm (d : List Byte) : PmHdr :=
  { b := ofLe (slice d 0x14 1), c := ofLe (slice d 0x15 1), width := ofLe (slice d 0x10 4), rowOfs := 0, npix := ofLe (slice d 0x18 8) }

/-- Bytes of a state record (R479). -/
def stateLen : Nat := 69632

/-- Whether a descriptor is refused: a reserved field, a LEN that is too short, or B, C, WIDTH or NPIX (R473, R478).
DEDUCED, log 62. -/
def jobBadDesc (dec : Bool) (d : List Byte) : Bool :=
  let refs := [jobIn d, jobOut d, jobChain d, jobState d, jobCompl d]
  decide (256 ≤ jobFlags d) || jobKind d == 3 || ofLe (slice d 6 2) != 0 || ofLe (slice d 0x16 2) != 0 || ofLe (slice d 0x70 16) != 0 ||
    (jobKind d != 2 && refs.any (fun r => r.2.2 != 0)) || (jobChain d).2.1 % 16 != 0 || decide (4080 < (jobChain d).2.1) ||
    ((jobRestore d || jobSave d || (jobState d).2.1 != 0) && decide ((jobState d).2.1 < stateLen)) ||
    ((jobCompl d).2.1 != 0 && decide ((jobCompl d).2.1 < 64)) ||
    (!dec && !jobRestore d && (jobMethod d == 0 || jobMethod d == 3 ||
      (jobMethod d == 2 && (pmHdr (jobPm d).bytes).isNone)))

/-! ### The state record (R479) -/

/-- Zero bytes. -/
def zeros (n : Nat) : List Byte := List.replicate n 0

/-- Bytes of the input taken and not yet decoded. Within a block of the dictionary method they begin with word 0 of the
block's header, ORIG_LEN lowered to what the block still has to produce. -/
def CmpState.held (s : CmpState) : List Byte :=
  if s.method = 1 ∧ s.phase = 2 then le 4 (s.orig + if s.coded then 2 ^ 30 else 0) ++ s.parse else s.parse

/-- The state record of a stream. DEDUCED, log 63. -/
def CmpState.bytes (s : CmpState) : List Byte :=
  let ctx := (s.ctx.take 32).flatMap (fun (e : Nat × Nat) => le 4 e.1 ++ le 4 e.2)
  let head := le 4 0x5453434A ++ le 1 1 ++ le 1 s.method ++ le 1 s.dir ++ le 1 (min s.phase 4) ++ le 8 s.inTotal ++ le 8 s.outTotal ++ le 8 s.crc ++
    le 4 s.hist.length ++ le 2 (if s.method = 1 then s.last else 0) ++ le 1 s.held.length ++ le 1 0 ++ slice s.held 0 64 ++
    le 4 s.matchLeft ++ le 4 s.litLeft ++ le 4 s.blockLeft ++ zeros 140 ++
    slice s.pm 0 24 ++ le 8 s.pixel ++ le 1 s.comp ++ le 1 s.bitN ++ zeros 6 ++ le 8 s.bitBuf ++ zeros 208 ++
    ctx ++ zeros (256 - ctx.length) ++ zeros 3320
  let hist := zeros (65536 - s.hist.length) ++ s.hist.reverse
  head ++ le 8 (crc64 (head ++ hist)) ++ hist

/-- A state record read back, when it passes its check and has the job's direction (R478). -/
def stateOf (dir : Nat) (l : List Byte) : Option CmpState :=
  let l := slice l 0 stateLen
  let n := fun (off len : Nat) => ofLe (slice l off len)
  if n 0 4 ≠ 0x5453434A ∨ n 4 1 ≠ 1 ∨ ¬(n 5 1 = 1 ∨ n 5 1 = 2) ∨ n 6 1 ≠ dir ∨ 4 < n 7 1 ∨ 65536 < n 0x20 4 ∨ 64 < n 0x26 1 ∨
      n 0xFF8 8 ≠ crc64 (l.take 0xFF8 ++ l.drop 0x1000) then none
  else
    let held := slice l 0x28 (n 0x26 1)
    let inBlock := decide (n 5 1 = 1 ∧ n 7 1 = 2)
    some {
      method := n 5 1, dir := n 6 1, phase := n 7 1, inTotal := n 8 8, outTotal := n 0x10 8, crc := n 0x18 8,
      hist := (l.drop (stateLen - n 0x20 4)).reverse, last := n 0x24 2, parse := if inBlock then held.drop 4 else held,
      matchLeft := n 0x68 4, litLeft := n 0x6C 4, blockLeft := n 0x70 4,
      orig := if inBlock then ofLe (held.take 4) % 2 ^ 30 else 0, coded := inBlock && bit (ofLe (held.take 4)) 30,
      pm := slice l 0x100 24, pixel := n 0x118 8, comp := n 0x120 1, bitN := n 0x121 1, bitBuf := n 0x128 8,
      ctx := (List.range 32).map (fun i => (n (0x200 + 8 * i) 4, n (0x204 + 8 * i) 4)) }

/-! ### Running a job (R473 to R475, R478) -/

/-- A job's run: its stream's state, input left, input taken, output, result once it has ended. -/
structure EncRun where
  s : CmpState
  input : List Byte
  taken : Nat := 0
  out : List Byte := []
  res : Option Nat := none

/-- A piece of output of a compress job: written whole, or the job ends because the stream is too long for its input (`most`,
R475) or no room is left. The piece covers `used` bytes of input. -/
def encPut (room : Nat) (most : Option Nat) (piece : List Byte) (next : CmpState) (used : Nat) (r : EncRun) : EncRun :=
  if r.res.isSome then r
  else if (match most with
      | some m => decide (m < r.s.outTotal + piece.length)
      | none => false) then { r with res := some rINCOMPRESSIBLE }
  else if room < r.out.length + piece.length then { r with res := some rCHAIN }
  else { r with
    s := { next with outTotal := r.s.outTotal + piece.length, inTotal := r.s.inTotal + used },
    out := r.out ++ piece, input := r.input.drop used, taken := r.taken + used }

/-- Original data enters the history and the CRC. -/
def CmpState.eat (s : CmpState) (l : List Byte) : CmpState :=
  { s with hist := histAfter s.hist l, crc := l.foldl crc64Byte s.crc }

/-- Blocks of the dictionary method: 65,536 bytes each, the last one ending with the input (R462, R475). -/
def dmJobBlocks (room : Nat) (most : Option Nat) : Nat → EncRun → EncRun
  | 0, r => r
  | f + 1, r =>
    if r.res.isSome ∨ r.input = [] then r
    else
      let blk := r.input.take 65536
      let b := dmBlock r.s.hist r.s.last blk
      dmJobBlocks room most f (encPut room most b.1 { r.s.eat blk with last := b.2 } blk.length r)

/-- One row of pixels coded from pixel p: pixels left in it, contexts, bits so far; contexts and bits at its end. -/
def pmRow (h : PmHdr) (smp : Nat → Nat) : Nat → Nat → List (Nat × Nat) × List Bool → List (Nat × Nat) × List Bool
  | 0, _, s => s
  | k + 1, p, s => pmRow h smp k (p + 1) (pmPixel h smp p s)

/-- Rows of the predictive method, whole, while the input holds them (R475). -/
def pmJobRows (h : PmHdr) (room : Nat) (most : Option Nat) : Nat → EncRun → EncRun
  | 0, r => r
  | f + 1, r =>
    let px := h.c * h.b / 8
    let n := min (h.width - (h.rowOfs + r.s.pixel) % h.width) (h.npix - r.s.pixel)
    if r.res.isSome ∨ n = 0 ∨ r.input.length < n * px then r
    else
      let blk := r.input.take (n * px)
      let data := r.s.hist.reverse ++ blk
      let base := r.s.inTotal - r.s.hist.length
      let smp := fun (i : Nat) => ofLe (slice data (i * (h.b / 8) - base) (h.b / 8))
      let t := pmRow h smp n r.s.pixel (r.s.ctx, [])
      pmJobRows h room most f (encPut room most (rowBytes t.2) { r.s.eat blk with ctx := t.1, pixel := r.s.pixel + n } blk.length r)

/-- A run that has not ended ends with a result. -/
def EncRun.ends (r : EncRun) (x : Nat) : EncRun := if r.res.isSome then r else { r with res := some x }

/-- A compress job (R473, R475, R478): header, blocks or rows, and with LAST the trailer. DEDUCED, log 62. -/
def encJob (minSave room : Nat) (last : Bool) (s : CmpState) (input : List Byte) : EncRun :=
  let r : EncRun := { s := s, input := input }
  let most := fun (total : Nat) => if last then some (total * (256 - minSave) / 256) else none
  if s.phase = 4 then r.ends rOK
  else if s.method = 1 then
    let m := most (s.inTotal + input.length)
    let r := if s.phase = 0 then encPut room m dmHeader { s with phase := 1 } 0 r else r
    let r := dmJobBlocks room m input.length r
    let r := if last ∧ r.res.isNone then encPut room m (dmEnd r.s.inTotal (crc64Final r.s.crc)) { r.s with phase := 4 } 0 r else r
    r.ends rOK
  else match pmHdr s.pm with
    | none => r.ends rFORMAT
    | some h =>
      let m := most (min (s.inTotal + input.length) (h.npix * (h.c * h.b / 8)))
      let r := if s.phase = 0 then encPut room m h.bytes { s with phase := 2 } 0 r else r
      let r := pmJobRows h room m (input.length + 1) r
      if last = false ∨ r.res.isSome then r.ends rOK
      else if r.s.pixel ≠ h.npix then r.ends rFORMAT
      else (encPut room m (trailer r.s.inTotal (crc64Final r.s.crc)) { r.s with phase := 4 } 0 r).ends rOK

/-- A decompress job (R474, R478). DEDUCED, log 62. -/
def decJob (ratio outLimit room : Nat) (last : Bool) (s : CmpState) (input : List Byte) : EncRun :=
  let lim := fun (out outTotal inTotal : Nat) =>
    (outLimit != 0 && decide (outLimit < out + 1)) || decide (ratio * inTotal + 65536 < outTotal + 1)
  let most := if outLimit = 0 then ratio * (s.inTotal + input.length) + 65536 else outLimit
  let r := decRun lim room (decFuel input.length (min room most)) { s := s, input := input }
  { s := r.s, input := r.input, taken := r.taken, out := r.out.reverse,
    res := some (match r.res with
      | some x => x
      | none => if last then rFORMAT else rOK) }

/-! ### Results (R476, R477) -/

/-- Results beyond those of the decoder (R477). -/
def rBADDESC : Nat := 6
def rBADSTATE : Nat := 7
def rNOPRIV : Nat := 8
def rBUFFER : Nat := 9

/-- The status of a result (R477). -/
def resultSts (r : Nat) : Sts :=
  match r with
  | 0 => .success
  | 1 => .incompressible
  | 2 => .outputLimit
  | 3 => .chainExhausted
  | 4 => .guardCheck
  | 8 => .accessDenied
  | 9 => .dataTransfer
  | _ => .invalidField

/-- Output laid into buffers, in order (R473): RKEY, ADDR, bytes of each one used. -/
def scatter : List (Nat × Nat × Nat) → List Byte → List (Nat × Nat × List Byte)
  | [], _ => []
  | b :: t, l => if l = [] then [] else (b.2.2, b.1, l.take b.2.1) :: scatter t (l.drop b.2.1)

/-- The completion record (R476). -/
def jobRecord (result used taken out : Nat) (s : CmpState) (saved : Bool) : List Byte :=
  let ended := decide (4 ≤ s.phase)
  le 4 result ++ le 4 used ++ le 8 taken ++ le 8 out ++ le 8 s.inTotal ++ le 8 s.outTotal ++
    le 8 (if ended then crc64Final s.crc else s.crc) ++ le 1 (ofB saved + 2 * ofB ended) ++ zeros 15

/-- What a job writes reaches the CMB, or the host with its completion. -/
def jobOutput (c : Clock) (kind : Nat) (errs : List DramErr) (l : List (Nat × Nat × List Byte)) (d : Dev) : Dev :=
  if kind = 1 then l.foldl (fun d (w : Nat × Nat × List Byte) => (d.dramWrite c 3 errs (w.2.2.length + 1) (d.cmbBase + w.2.1) w.2.2).1) d else d

/-- A job completes: completion record where there is one it can reach, Dword 0 and Dword 1, status; its engine is free again (R459, R472, R476, R477). -/
def jobComplete (c : Clock) (stamp : Nat) (desc : List Byte) (result : Nat) (s : CmpState) (saved : Bool) (taken : Nat)
    (out : List (Nat × Nat × List Byte)) (errs : List DramErr) (d : Dev) : Dev :=
  let n := ((out.map (fun w => w.2.2.length)).sum)
  let used := out.length - ofB ((jobOut desc).2.1 != 0)
  let st := if saved then [((jobState desc).2.2, (jobState desc).1, s.bytes)] else []
  let rc := if (jobCompl desc).2.1 < 64 ∨ (jobKind desc = 1 ∧ 2 ^ 30 < (jobCompl desc).1 + 64) then [] else [((jobCompl desc).2.2, (jobCompl desc).1, jobRecord result used taken n s saved)]
  let all := (if jobVerify desc && s.dir == 1 then [] else out) ++ st ++ rc
  let d := jobOutput c (jobKind desc) errs all (d.jobGone stamp)
  let d := d.complete stamp (resultSts result) (n % 2 ^ 32) result []
  let mark := fun (x : Completion) => ({ x with bufs := if jobKind desc = 1 then [] else all } : Completion)
  tstPump { d with host := { d.host with posted := mapIf (fun x => x.stamp == stamp) mark d.host.posted } }

/-- Bytes of a buffer: from the CMB, or as the host holds them (R473). -/
def Dev.jobBytes (d : Dev) (kind : Nat) (b : Nat × Nat × Nat) (host : List Byte) : List Byte :=
  if kind = 1 then d.mem.bytes (d.cmbBase + b.1) b.2.1 else slice host 0 b.2.1

/-- Whether a job's buffers can be reached: host memory by PCIe functions, remote memory over RoCE, the CMB within its 1 GiB
(R472, R473). -/
def jobReach (k : Ctrl) (desc : List Byte) (chain : List (Nat × Nat × Nat)) (reach : Bool) : Bool :=
  if jobKind desc = 1 then
    ([jobIn desc, jobOut desc, jobChain desc, jobState desc, jobCompl desc] ++ chain).all (fun b => decide (b.1 + b.2.1 ≤ 2 ^ 30))
  else reach && (if jobKind desc = 2 then k.kind == 2 && k.transport == 2 else decide (k.kind ≤ 1))

/-- References of a chain list. -/
def chainRefs (desc l : List Byte) : List (Nat × Nat × Nat) := (List.range ((jobChain desc).2.1 / 16)).map (fun i => bufRef l (16 * i))

/-- COMPRESS_JOB and DECOMPRESS_JOB: the descriptor is checked, and the job waits for an engine (R472, R473, R458, R478). -/
def jobQueue (c : Clock) (dec : Bool) (stamp : Nat) (desc : List Byte) (o : JobObs) (d : Dev) : Dev :=
  d.run stamp (if dec then .decompressJob else .compressJob) (fun x d =>
    match d.ctrl x.cid with
    | none => d
    | some k =>
      let dir := ofB dec
      let fail := fun (r : Nat) => jobComplete c stamp desc r { dir := dir } false 0 [] [] d
      if d.jobs.any (fun j => j.stamp == stamp) then d
      else if ¬(k.kind ≤ 1 ∨ (k.kind = 2 ∧ k.transport = 2)) then d.ends stamp .invalidOpcode
      else if jobBadDesc dec desc then fail rBADDESC
      else
        let kind := jobKind desc
        let chain := chainRefs desc (d.jobBytes kind (jobChain desc) o.chain)
        let input := d.jobBytes kind (jobIn desc) o.input
        let st? := if jobRestore desc then stateOf dir (d.jobBytes kind (jobState desc) o.state)
          else if dec then some { dir := 1, method := if (input.getD 1 0).toNat = 0x50 then 2 else 1 }
          else if jobMethod desc = 1 then some { dir := 0 }
          else some { dir := 0, method := 2, pm := (jobPm desc).bytes, ctx := pmCtx0 (jobPm desc).b }
        if jobReach k desc chain o.reach = false then fail rBUFFER
        else if kind ≠ 2 ∧ chain.any (fun b => b.2.2 != 0) then fail rBADDESC
        else match st? with
          | none => fail rBADSTATE
          | some s =>
            if s.method = 2 && !k.raster then fail rNOPRIV
            else
              let outs := (if (jobOut desc).2.1 = 0 then [] else [jobOut desc]) ++ chain
              { d with jobs := d.jobs ++ [{
                  stamp := stamp, cid := x.cid, nsid := x.cmd.nsid, dec := dec, desc := desc, method := s.method, st := s, outs := outs,
                  input := if kind = 1 then [] else input }] })

/-- Engines a job may run on: of its method, of the pool or of the tiller that holds its namespace, and free (R456, R457). -/
def Dev.jobEngines (d : Dev) (j : Job) : List Nat :=
  let tiller := match d.bound j.nsid with
    | some (b, _) => if hDev b.unit = d.devNum then hIndex b.unit else 0
    | none => 0
  let mine := fun (e : Nat) => decide (e < 32) == decide (j.method = 1) && d.get (Reg.CMP_ENG_STS_STATE e) == 0 &&
    (d.get (Reg.CMP_ENG_STS_OWNER e) == 0 || d.get (Reg.CMP_ENG_STS_OWNER e) == tiller)
  (List.range 36).filter mine

/-- A job waits for an engine while a job of a tenant whose share comes before waits for it too (R429, R431). -/
def Dev.jobYields (d : Dev) (j : Job) (e : Nat) : Bool :=
  d.jobs.any (fun i => i.eng.isNone && d.cmpFirst (d.tenant i.cid) (d.tenant j.cid) && (d.jobEngines i).contains e)

/-- CMP_JOB_START: the job runs on a free engine; jobs of one tenant start in stamp order (R457, R459). DEDUCED, log 63. -/
def jobStart (stamp : Nat) (d : Dev) : Dev :=
  match d.jobs.find? (fun j => j.stamp == stamp) with
  | none => d
  | some j =>
    let earlier := d.jobs.any (fun i => i.eng.isNone && i.method == j.method && decide (i.stamp < j.stamp) && d.tenant i.cid == d.tenant j.cid)
    let halted : Bool := match d.host.act with
      | some a => decide (a.step = 2)
      | none => false
    match d.jobEngines j with
    | [] => d
    | e :: _ =>
      if j.eng.isSome ∨ earlier ∨ d.jobYields j e ∨ halted ∨ d.domOn 9 = false then d
      else
        let d := { d with jobs := mapIf (fun i => i.stamp == stamp) (fun i => { i with eng := some e }) d.jobs }
        d.set (Reg.CMP_ENG_STS_STATE e) 1

/-- CMP_JOB_END: a job's run on its engine ends; `reach` tells whether its buffers could be reached throughout, `errs` the
errors met in DRAM where they lie in the CMB (R474 to R479). -/
def jobEnd (c : Clock) (stamp : Nat) (reach : Bool) (errs : List DramErr) (d : Dev) : Dev :=
  match d.jobs.find? (fun j => j.stamp == stamp) with
  | none => d
  | some j =>
    if j.eng.isNone then d
    else
      let kind := jobKind j.desc
      let ref := jobIn j.desc
      let r0 := if kind = 1 then d.dramRead c 3 errs (wordsOf (d.cmbBase + ref.1) ref.2.1) else (d, true)
      let input := if kind = 1 then d.readBytes errs (d.cmbBase + ref.1) ref.2.1 else d.jobBytes kind ref j.input
      let d := r0.1
      if (r0.2 && reach) = false then jobComplete c stamp j.desc rBUFFER j.st false 0 [] errs d
      else
        let room := (j.outs.map (fun b => b.2.1)).sum
        let ratio := if jobRatio j.desc = 0 then d.get Reg.CMP_CFG_RATIO_DEF else jobRatio j.desc
        let lim := jobOutLimit j.desc
        let run := if j.dec then
            decJob ratio lim (if jobVerify j.desc then ratio * (j.st.inTotal + input.length) + 65536 else room) (jobLast j.desc) j.st input
          else encJob (d.get Reg.CMP_CFG_MIN_SAVE) room (jobLast j.desc) j.st input
        let x := run.res.getD rOK
        let saved := (x == rOK && jobSave j.desc) || (x == rCHAIN && (jobState j.desc).2.1 != 0)
        let d := if x = rCRC then d.set Reg.CMP_STS_CRC 1 else if x = rFORMAT then d.set Reg.CMP_STS_FORMAT 1 else d
        let d := d.engCount j.cid run.taken
        let out := if j.dec && jobVerify j.desc then [(0, 0, run.out)] else scatter j.outs run.out
        jobComplete c stamp j.desc x run.s saved run.taken out errs d

end Sys2Proof.Machine
end

