-- ==== Sys2Proof/Machine/Trigger.lean ====
section
/-! DEFINITION. Machine/Trigger.lean: what a firing of an angle trigger does, in the order of R60 (spec file 03, R57 to
R65), and the commits of a deck (R62 to R65). -/

namespace Sys2Proof.Machine

/-! ### Deck commits (R62 to R65) -/

/-- The consistency rules of ANG (R65). -/
def angRules (d : Dev) (n : Nat) : Option Nat :=
  if !decide (d.get (Reg.ANG_PLL_TOL_LOCK_TOL n) < d.get (Reg.ANG_PLL_TOL_UNLOCK_TOL n)) then some 1
  else if !decide (d.get (Reg.ANG_PLL_TOL_UNLOCK_TOL n) < d.get (Reg.ANG_PLL_TOL_WIN n) * 64) then some 2
  else if !decide (d.get (Reg.ANG_PLL_TOL_WIN n) ≤ 127) then some 3
  else if !decide (d.get (Reg.ANG_PLL_CFG_KP_SHIFT n) ≤ 8 ∧ 10 ≤ d.get (Reg.ANG_PLL_CFG_KI_SHIFT n)) then some 4
  else if !decide (16 ≤ d.get (Reg.ANG_PLL_CFG_HOLD_MAX n)) then some 5
  else none

/-- The rules of the sub-block at an offset, ANG 0 to SEQ 8. -/
def subRules (old d : Dev) (n : Nat) : Nat → Option Nat
  | 0 => angRules d n
  | 1 => laneRules d n
  | 2 => detRules d n
  | 3 => wrpRules d n
  | 4 => loopRules old d n
  | 5 => spnRules d n
  | 6 => sldRules d n
  | 7 => actRules d n
  | 8 => seqRules d n
  | _ => none

/-- The first rule that fails among the sub-blocks a mask names, in ascending order (R62). -/
def firstFail (old d : Dev) (n mask : Nat) : Option (Nat × Nat) :=
  (List.range 9).findSome? (fun i => if bit mask i then (subRules old d n i).map (fun r => (i, r)) else none)

/-- A rule failed: nothing is applied, a record is made (R63, R668). -/
def deckCommitFail (c : Clock) (n sub rule : Nat) (late : Bool) (d : Dev) : Dev :=
  let d := d.deckCommitEnd c n 2 sub rule late
  let word := d.wordInForce (Reg.ANG_COMMIT_STS_RESULT n).off
  d.fault c (.deck n) { cls := 7, code := 1, sev := 1, detail := le 4 (deckBase + n * deckSpan) ++ le 4 word }

/-- A commit that names LOOP suspends supervision of every slot for BLANK samples, and a new window begins (R255, R256). -/
def loopBlank (n mask : Nat) (d : Dev) : Dev :=
  if bit mask 4 then (List.range 8).foldl (fun d s => d.onSlot n s (fun a => { a with
    blank := d.get (Reg.LOOP_SUP_CFG_BLANK n s), oscSamples := 0, oscN := 0 })) d
  else d

/-- The decision of a pending deck commit (R62, R63). -/
def deckCommitDecide (c : Clock) (n : Nat) (p : DeckPend) (late : Bool) (d : Dev) : Dev :=
  if d.reloadsDeck n then d.deckCommitEnd c n 3 0 0 late
  else
    let new := d.applySet (subKeys n p.mask) p.vals
    match firstFail d new n p.mask with
    | some (sub, rule) => deckCommitFail c n sub rule late d
    | none =>
      if d.ledFull then deckCommitFail c n 0 255 late d
      else
        let keys := d.changedKeys (subKeys n p.mask) p.vals
        ((loopBlank n p.mask new).deckCommitShow c n 1 0 0 late).deckCommitEntry c n 0 p.who p.mask
          (sha (wordTriples keys (FMap.get resetOf d.regs))) (sha (wordTriples keys (FMap.get resetOf new.regs)))

/-- A sequencer commit takes effect: its fields, the lane mode, the lanes in use, and with a new P the start of acquisition on
every lane (R64, R122, R128, R131). -/
def seqLand (n : Nat) (p : SeqPend) (d : Dev) : Dev :=
  let was := d.get (Reg.DET_MAP_CFG_P n)
  let d := p.vals.foldl (fun d e => { d with regs := FMap.set resetOf d.regs e.1 e.2 }) d
  let d := match p.lane with
    | some m => laneModeSet n m d
    | none => d
  let d := (d.mapTriggers n).onDeck n (fun k => { k with seq := { k.seq with newZone := none, newMode := none } })
  if d.get (Reg.DET_MAP_CFG_P n) = was then d else (List.range 66).foldl (fun d l => d.laneAcq n l true) d

/-- Sequencer commits of a trigger (R64). -/
def seqCommits (n t : Nat) (d : Dev) : Dev :=
  let due := (d.deck n).seqPend.filter (fun p => p.trig == t)
  let d := due.foldl (fun d p => seqLand n p d) d
  d.onDeck n (fun k => { k with seqPend := k.seqPend.filter (fun p => p.trig != t) })

/-- Step 1 of R60: the sequencer's commit, then the software commit that waits on the trigger. -/
def commitsAtTrig (c : Clock) (n t : Nat) (late : Bool) (d : Dev) : Dev :=
  let d := seqCommits n t d
  match (d.deck n).pend with
  | some p => if p.trig = t ∧ p.req + 2000 ≤ c.tick then deckCommitDecide c n p late d else d
  | none => d

/-! ### The owned triggers (R58, R60) -/

/-- Whether a slot's learning run ends at the coming revolution mark, for slots 0 to 3 (R246). -/
def learning (d : Dev) (n : Nat) : List Bool :=
  (List.range 4).map (fun s => ((d.deck n).slot s).learning && d.get (Reg.LOOP_FF_CTL_REVS n s) == 15)

/-- The revolution mark, trigger 5: learning runs, the end of CALIBRATING, gleans, parks that wait, the disturbance count
(R175, R211, R246, R356, R361). -/
def revMark (c : Clock) (n : Nat) (d : Dev) : Dev :=
  let before := learning d n
  let d := (List.range 8).foldl (fun d s => learnMark n s d) d
  let d := calMark n before d
  let d := gleanMark c n d
  let d := parkPending c n d
  (d.gateClear c n gDISTURB).onDeck n (fun k => { k with gate := { k.gate with disturbed := 0 } })

/-- In READY a swath is read once its map is in force and the measured speed is within ±0.5 % of its speed (R362). -/
def mayRead (d : Dev) (n : Nat) : Bool :=
  d.dstate n != dREADY || ((d.deck n).seq.newZone.isNone && speedNear d n (swathRpm d n (d.deck n).seq.swath))

/-- Trigger 2: where the swath may be read, the sync windows of the slot that comes next are open, and every lane's acquisition span starts; the windows of the slot
before are still read (R122, R163). DEDUCED, log 105. -/
def windowsOpen (c : Clock) (n : Nat) (d : Dev) : Dev :=
  let slot := startSlot (mapZone d n) (c.grain n)
  let d := if mayRead d n then d.onDeck n (fun k => { k with wins := (slot :: k.wins.erase slot).take 2 }) else d
  (List.range 66).foldl (fun d l => d.laneAcq n l false) d

/-- Steps 4 and 5 of R60: window and gate edges, then the loop sample. Trigger 1 is the start of a sector, 2 the opening of its
sync windows, 3 the write gate's edge, 4 the step of the runout tables, 5 the revolution mark (R58). -/
def ownAtTrig (c : Clock) (n t : Nat) (o : Sample) (d : Dev) : Dev :=
  match t with
  | 0 => sledRecentre c n (wedgeSample c n o d)
  | 1 => sectorStart c n d
  | 2 => windowsOpen c n d
  | 3 => gateReopen c n d
  | 4 => wedgeAdvance c n d
  | 5 => revMark c n d
  | _ => d

/-- Effects of the firings of one tick, in the order of R60: commits, bank swaps, lane swaps, window and gate edges (the write gate's
first, so that a sector start finds it as it leaves it), loop sample, events signalled to the deck core. -/
def trigEffects (c : Clock) (n : Nat) (ts : List Nat) (late : Bool) (o : Sample) (d : Dev) : Dev :=
  let d := ts.foldl (fun d t => commitsAtTrig c n t late d) d
  let d := ts.foldl (fun d t => swapsAtTrig n t d) d
  let d := ts.foldl (fun d t => sparesAtTrig n t d) d
  let edges := ts.filter (fun t => t == 3) ++ ts.filter (fun t => t != 0 && t != 3)
  let d := edges.foldl (fun d t => ownAtTrig c n t o d) d
  let d := if ts.contains 0 then ownAtTrig c n 0 o d else d
  d.onDeck n (fun k => { k with signals := ts.filter (fun t => d.getB (Reg.ANG_TRIG_CFG_IRQ_EN n t)) })

/-- Late firings (R59, R63). -/
def lateFire (c : Clock) (n : Nat) (ts : List Nat) (d : Dev) : Dev := trigEffects c n ts true { ch := [] } d

/-- Whether a trigger can fire at its target; no SECTOR trigger fires for a primer (R153). -/
def trigLive (d : Dev) (n t : Nat) : Bool :=
  let m := d.get (Reg.ANG_TRIG_CFG_MODE n t)
  d.getB (Reg.ANG_TRIG_CFG_ARM n t) && m != 0 && d.tbFires n && !(m == 3 && d.get (Reg.DET_MAP_CFG_MODE n) == 2)

/-- Whether a trigger waits for LOCKED (R59). -/
def trigHeld (d : Dev) (n t : Nat) : Bool := d.getB (Reg.ANG_TRIG_CFG_REQ_LOCK n t) && d.tbState n != tbLOCKED

/-- Triggers whose target the counter has reached or passed in the ticks gone by last, if none has acted on them yet (R57). -/
def trigsDue (d : Dev) (c : Clock) (n : Nat) : List Nat :=
  let tb := (d.deck n).tb
  if tb.acted then []
  else (List.range 64).filter (fun t => trigLive d n t && trigPassed d n t tb.prev (c.counter n))

/-- TRIGGER_FIRE: the triggers of a deck act on the ticks gone by: every armed one whose target the counter has reached or passed
fires, or misses where it waits for LOCKED; a ONCE trigger that fired is disarmed (R57 to R60). DEDUCED, log 16. -/
def triggerFire (c : Clock) (n : Nat) (o : Sample) (d : Dev) : Dev :=
  let live := trigsDue d c n
  let hits := live.filter (fun t => !trigHeld d n t)
  let once := hits.filter (fun t => d.get (Reg.ANG_TRIG_CFG_MODE n t) == 1)
  let d := d.onDeck n (fun k => { k with tb := { k.tb with acted := true } })
  let d := (live.filter (trigHeld d n)).foldl (fun d t => d.trigMiss c n t) d
  if hits = [] then d
  else
    let d := once.foldl (fun d t => d.set (Reg.ANG_TRIG_CFG_ARM n t) 0) d
    let d := hits.foldl (fun d t => d.set (Reg.ANG_TRIG_CFG_FIRED n t) 1) d
    once.foldl (fun d t => d.trigDisarmed c n t) (trigEffects c n hits false o d)

end Sys2Proof.Machine
end

