-- ==== Sys2Proof/Machine/Bus.lean ====
section
/-! DEFINITION. Machine/Bus.lean: the register window (spec files 00, 01, 21 and 23): who may reach it, what a write of a
word does field by field and register by register, what a read returns, and the commits of the device-wide blocks (R4 to
R7, R17 to R23, R571, R627, R631, R701, R702). -/

namespace Sys2Proof.Machine

/-! ### Access (R4, R23, R571, R627, R631) -/

/-- The path of an access to the window: BAR2 of a PCIe link, or a vendor MI request through MCTP (R4, R627). -/
inductive Via where
  | bar2 (link : Nat)
  | mctp (pcie : Bool)
  deriving DecidableEq, Repr

/-- The controller through which an access arrives. -/
def Via.cid : Via → Nat
  | .bar2 l => 1 + l
  | .mctp p => mctpCid p

/-- Roles of the policy that open the window on a path; the minimal structure opens it to the Custodian (R35, R39). -/
def Dev.windowRoles (d : Dev) (via : Via) : Nat :=
  match d.plait, via with
  | none, _ => 1
  | some p, .bar2 _ => p.bar2Roles
  | some p, .mctp _ => p.mctpRoles

/-- Roles an access has: those of its controller that open the window. A PCIe link that is down carries none. -/
def Dev.accessRoles (d : Dev) (via : Via) : Nat :=
  let up := match via with
    | .bar2 l => bit d.host.links l && d.domOn 4
    | .mctp _ => d.domOn 2
  match d.ctrl via.cid with
  | some k => if up then k.allRoles &&& d.windowRoles via else 0
  | none => 0

/-- Power domain of an offset's block (R23, R558). -/
def domainOf (off : Nat) : Nat :=
  match off / deckSpan with
  | 0 => 2
  | 1 => 0
  | 2 => 0
  | 3 => 3
  | 4 => 9
  | 5 => 7
  | 6 => 8
  | 7 => 2
  | 8 => 10
  | 9 => 6
  | 10 => 2
  | b => dDECK ((b - 16) / 8)

/-- Why an access has no effect: the window is closed to it, a reason of BAD_ACCESS, a domain that is off. -/
inductive Deny where
  | closed
  | bad (reason : Nat)
  | off (dom : Nat)
  deriving DecidableEq, Repr

/-- What stands against an access, in order: the window, width, alignment, offset, domain, and for a write the role.
DEDUCED, log 24. -/
def Dev.deny (d : Dev) (via : Via) (write : Bool) (off width : Nat) : Option Deny :=
  let roles := d.accessRoles via
  if roles = 0 then some .closed
  else if width ≠ 4 then some (.bad 0)
  else if off % 4 ≠ 0 then some (.bad 1)
  else if selSpan ≤ off ∨ (regAt off).isNone then some (.bad 2)
  else if d.domOn (domainOf off) = false then some (.off (domainOf off))
  else if write ∧ bit roles (if off < deckBase then rCUSTODIAN else rOPERATOR) = false then some (.bad 3)
  else none

/-- The record of an access without effect (R4, R571, R631, R668): none for a closed window; DOMAIN_OFF at most once for
each domain and epoch. -/
def Dev.denied (c : Clock) (off : Nat) (q : Deny) (d : Dev) : Dev :=
  match q with
  | .closed => d
  | .bad r => d.fault c .device { cls := 5, code := 7, sev := 1, detail := le 4 off ++ le 1 r }
  | .off k =>
    if d.pwr.offSeen.contains (k, c.epoch) then d
    else
      let d := { d with pwr := { d.pwr with offSeen := (k, c.epoch) :: d.pwr.offSeen.filter (fun e => e.2 == c.epoch) } }
      d.fault c .device { cls := 5, code := 6, sev := 1, detail := le 1 k ++ le 4 off }

/-- A write reaches its register, or has no effect but its record. -/
def Dev.access (c : Clock) (via : Via) (off width : Nat) (go : Dev → Dev) (d : Dev) : Dev :=
  match d.deny via true off width with
  | some q => d.denied c off q
  | none => go { d with who := d.whoOf via.cid (if off < deckBase then rCUSTODIAN else rOPERATOR) }

/-- A read reaches its register, or returns all ones (R4, R571). -/
def Dev.accessRead (c : Clock) (via : Via) (off width : Nat) (go : Dev → Dev) (d : Dev) : Dev :=
  match d.deny via false off width with
  | some q => { d.denied c off q with rdata := 0xFFFFFFFF }
  | none => go d

/-! ### Writing a word under its access classes (R5, R7) -/

/-- How a word is written: whether its block runs, the low bits of fields that are taken care of elsewhere, the invalid
values, and the flag of an ignored field (kind 1 locked, 2 invalid). -/
structure WordRule where
  run : Bool := false
  skip : List Nat := []
  bad : Nat → Nat → Bool := fun _ _ => false
  flag : Nat → Dev → Dev := fun _ d => d

/-- One field of a written word. -/
def fieldWrite (off v : Nat) (w : WordRule) (d : Dev) (f : FRow) : Dev :=
  let x := bits v f.lo f.w
  let g : Fld := ⟨off, f.lo, f.w⟩
  if w.skip.contains f.lo then d
  else match f.acc with
    | .ro => d
    | .w1c => d.set g (d.get g - (d.get g &&& x))
    | .rwl => if w.bad f.lo x then w.flag 2 d else d.set g x
    | .rws => if w.bad f.lo x then w.flag 2 d else d.setStg g x
    | .rwx => if w.bad f.lo x then w.flag 2 d else if x = d.get g then d else if w.run then w.flag 1 d else d.set g x

/-- Every field of a written word; reserved bits are dropped. DEDUCED, log 17. -/
def classWrite (off v : Nat) (w : WordRule) (d : Dev) : Dev :=
  match regAt off with
  | none => d
  | some (r, _) => r.fields.foldl (fieldWrite off v w) d

/-! ### Deck registers -/

/-- A deck's offset in the window. -/
def deckOff (n o : Nat) : Nat := deckBase + n * deckSpan + o

/-- Words of a deck register without special effects. -/
def deckWord (n o v : Nat) (run : Bool) (skip : List Nat) (bad : Nat → Nat → Bool) (d : Dev) : Dev :=
  classWrite (deckOff n o) v { run := run, skip := skip, bad := bad, flag := fun k d => d.wrErr n (o / 0x10000) o k } d

/-- No value is invalid. -/
def anyValue : Nat → Nat → Bool := fun _ _ => false

/-- Do something when a bit of a written word is 1. -/
def ifBit (v i : Nat) (f : Dev → Dev) (d : Dev) : Dev := if bit v i then f d else d

/-- ANG (R66 to R78). -/
def angWrite (c : Clock) (n o v : Nat) (d : Dev) : Dev :=
  if o = 0 then ifBit v 0 (forceSearch c n) (deckWord n o v false [0] anyValue d)
  else if o = 0xFF00 then deckCommitWord c n v d
  else if 0x100 ≤ o ∧ o < 0x500 then
    let t := (o - 0x100) / 16
    match o % 16 with
    | 0 => trigCfgWrite c n t v (fun ts d => lateFire c n ts d) d
    | 4 => trigPosWrite n t v d
    | _ => trigRevWrite n t v d
  else deckWord n o v false [] anyValue d

/-- LANE (R138 to R150). -/
def laneWrite (n o v : Nat) (d : Dev) : Dev :=
  let r := o % 0x10000
  if 0x1100 ≤ r then
    let s := (r - 0x1100) / 4
    let trig := bits v 16 6
    let tgt := bits v 0 7
    match bits v 8 4 with
    | 1 => spareShadow n s trig tgt d
    | 2 => spareSwap n s trig tgt d
    | 3 => spareSwapBack n s trig tgt d
    | 4 => spareRelease n s trig tgt d
    | 5 => spareNativeShadow n s trig tgt d
    | _ => if d.getB (Reg.LANE_SPARE_CTL_BUSY n s) then d else deckWord n o v false [8] anyValue d
  else
    let l := r / 0x40
    match r % 0x40 with
    | 0 => deckWord n o v (laneRuns d n l) [] (fun lo x => lo == 0 && decide (10 ≤ x)) d
    | 0x1C => ifBit v 5 (clrCnt n l) (ifBit v 4 (reinit n l) (deckWord n o v false [4, 5] anyValue d))
    | _ => deckWord n o v (laneRuns d n l) [] anyValue d

/-- DET (R180 to R194). -/
def detWrite (c : Clock) (n o v : Nat) (d : Dev) : Dev :=
  let r := o % 0x10000
  if r = 0x10 then ifBit v 1 (marginClr c n) (ifBit v 0 (marginSnap c n) d)
  else if r = 0x14 then
    let d := deckWord n o v false [] anyValue d
    if bits v 6 2 = 3 ∨ bits v 0 4 = 15 then d.wrErr n 2 o 2 else d
  else if r = 0x18 then eqDataWrite n (bits v 0 12) (deckWord n o v false [0] anyValue d)
  else if 0x100 ≤ r then ifBit v 3 (eqReinit n ((r - 0x100) / 4)) (deckWord n o v false [3] anyValue d)
  else deckWord n o v false [] anyValue d

/-- "The block runs" for WRP: the deck is WRITING or CALIBRATING. -/
def wrpRuns (d : Dev) (n : Nat) : Bool := d.dstate n == dWRITING || d.dstate n == dCALIBRATING

/-- WRP (R222 to R233). -/
def wrpWrite (n o v : Nat) (d : Dev) : Dev :=
  let r := o % 0x10000
  if r = 0 then forceDown n (bit v 0) (deckWord n o v (wrpRuns d n) [0] anyValue d)
  else if r = 0x30 then ifBit v 0 (vfyClr n) d
  else deckWord n o v (wrpRuns d n) [] anyValue d

/-- "The block runs" for LOOP: a slot is not OFF. -/
def loopRuns (d : Dev) (n : Nat) : Bool := !slotsOff d n

/-- A slot's registers of LOOP (R267 to R282). -/
def slotWrite (c : Clock) (n s q o v : Nat) (d : Dev) : Dev :=
  match q with
  | 0x00 => deckWord n o v (loopRuns d n) [] (fun lo x => (lo == 28 && (x == 6 || x == 7)) || (lo == 24 && decide (9 ≤ x))) d
  | 0x04 => slotModeWrite n s (bits v 0 3) (deckWord n o v false [0] anyValue d)
  | 0x14 =>
    let d := ifBit v 27 (fun d => d.set (Reg.LOOP_BANK_BUSY_REJ n s) 0) d
    if d.getB (Reg.LOOP_BANK_BUSY n s) then
      let d := deckWord n o v false [0, 1, 8] anyValue d
      if bit v 1 then bankSwapCancel n s d else ifBit v 0 (bankSwapReq n s 0 false false) d
    else ifBit v 0 (bankSwapReq n s (bits v 8 6) (bit v 7) (bit v 6)) (deckWord n o v false [0, 1] anyValue d)
  | 0x24 =>
    let d := deckWord n o v false [0] anyValue d
    match bits v 0 4 with
    | 1 => profMove c n s (bit v 8) d
    | 2 => profJump c n s (bits v 11 5) (bit v 8) d
    | 3 => profSeek c n s (bit v 8) d
    | 4 => profStopCmd n s d
    | _ => d
  | 0x28 => ifBit v 1 (learnWrite n s) (ifBit v 2 (ffClear n s) (deckWord n o v (loopRuns d n) [1, 2] anyValue d))
  | 0x34 => ifBit v 3 (slotFaultClear c n s) (deckWord n o v false [3] anyValue d)
  | _ => deckWord n o v (loopRuns d n) [] anyValue d

/-- LOOP (R263 to R282). -/
def loopWrite (c : Clock) (n o v : Nat) (d : Dev) : Dev :=
  let r := o % 0x10000
  if r = 0 then ifBit v 2 (safeRelease c n) (deckWord n o v false [2] anyValue d)
  else if r = 8 then
    let bad := decide (2 ≤ bits v 28 2)
    let d := classWrite (deckOff n o) v { skip := if bad then [28] else [] } d
    if bad then d.set (Reg.LOOP_CF_ADDR_ERR n) 1 else d
  else if r = 0xC then cfDataWrite n v d
  else if 0x100 ≤ r then slotWrite c n ((r - 0x100) / 0x40) ((r - 0x100) % 0x40) o v d
  else deckWord n o v (loopRuns d n) [] anyValue d

/-- SPN (R312 to R324): "the block runs" while the controller is not OFF, in LISTEN or in FAULT. DEDUCED, log 18. -/
def spnWrite (n o v : Nat) (d : Dev) : Dev :=
  let run := !(d.spnSt n == spOFF || d.spnSt n == spLISTEN || d.spnSt n == spFAULT)
  if o % 0x10000 = 0 then
    let rpm := bits v 0 16
    spnSoft n d (fun d =>
      let d := deckWord n o v run [16] anyValue d
      match bits v 16 4 with
      | 1 => spnStart n rpm d
      | 2 => spnStop n (bits v 24 2) d
      | 3 => spnCoast n d
      | 4 => spnSetSpeed n rpm d
      | _ => d)
  else deckWord n o v run [] anyValue d

/-- A sled command with its target from SLD.TARGET (R330, R342, R343). -/
def sldCmd (c : Clock) (n cmd : Nat) (rel : Bool) (d : Dev) : Dev :=
  let tgt := d.getI (Reg.SLD_TARGET_TARGET n)
  sldSoft n d (fun d =>
    let d := d.setB (Reg.SLD_CMD_REL n) rel
    match cmd with
    | 1 => sldMove c n rel tgt d
    | 2 => sldVel c n tgt d
    | 3 => sldStop c n d
    | 4 => sldFollow c n d
    | 5 => sldSetPos n tgt d
    | 6 => sldDisable n d
    | _ => d)

/-- SLD (R342 to R354): "the block runs" while the sled is not DISABLED. -/
def sldWrite (c : Clock) (n o v : Nat) (d : Dev) : Dev :=
  if o % 0x10000 = 0 then sldCmd c n (bits v 0 4) (bit v 8) d
  else deckWord n o v (d.sldSt n != slDISABLED) [] anyValue d

/-- ACT (R283 to R285): "the block runs" while a coil bridge is on. -/
def actWrite (n o v : Nat) (d : Dev) : Dev :=
  let run := (List.range 3).any (fun k => d.getB (Reg.ACT_COIL_CFG_EN n k))
  let d := deckWord n o v run [] anyValue d
  if d.dstate n = dPARKING then d.coilsShow n else d.coilsUp n

/-- SEQ (R356, R367, R373 to R382): release bits act before the command of the same word. DEDUCED, log 21. -/
def seqWrite (c : Clock) (n o v : Nat) (d : Dev) : Dev :=
  if o % 0x10000 = 0 then
    let d := if bit v 24 = d.getB (Reg.SEQ_CTL_REL_SPN n) then d else relSpn n (bit v 24) d
    let d := if bit v 25 = d.getB (Reg.SEQ_CTL_REL_SLD n) then d else relSld n (bit v 25) d
    let d := d.set (Reg.SEQ_CTL_L_TGT n) (bits v 16 5)
    match bits v 0 4 with
    | 1 => seqLoad c n (bits v 16 5) (d.deck n).seq.clampLow d
    | 2 => seqPark c n d
    | 3 => seqRecover c n (bits v 16 5) d
    | _ => d
  else deckWord n o v false [] anyValue d

/-- A word written to a deck register, by sub-block (R23). -/
def deckWrite (c : Clock) (n o v : Nat) (d : Dev) : Dev :=
  match o / 0x10000 with
  | 0 => angWrite c n o v d
  | 1 => laneWrite n o v d
  | 2 => detWrite c n o v d
  | 3 => wrpWrite n o v d
  | 4 => loopWrite c n o v d
  | 5 => spnWrite n o v d
  | 6 => sldWrite c n o v d
  | 7 => actWrite n o v d
  | 8 => seqWrite c n o v d
  | _ => d

/-! ### Commits of the device-wide blocks (R17 to R22) -/

/-- Bases of the ten device-wide blocks, in order (R23). -/
def blkBases : List Nat := [0, 0x100000, 0x300000, 0x400000, 0x500000, 0x600000, 0x700000, 0x800000, 0x900000, 0xA00000]

/-- COMMIT_REQ of a block (R17, R18, R21). -/
def blkCommitReq (c : Clock) (base : Nat) (d : Dev) : Dev := blkRequest c d.who base d

/-- COMMIT_DISCARD (R21): ignored while a commit waits. -/
def blkDiscard (base : Nat) (d : Dev) : Dev := if (d.blk base).isSome then d else d.discardSet (blkKeys base)

/-- The rules of HQ (R443): controllers but the management endpoints; each tenant counts once. -/
def hqRules (d : Dev) : Option Nat :=
  let ks := d.ctrls.filter (fun k => k.kind != 3)
  let bw := fun (k : Ctrl) => d.get (Reg.HQ_CTL_BUDGET_BW_SHARE.sel k.id)
  let fl := fun (k : Ctrl) => d.get (Reg.HQ_CTL_BUDGET_INFLIGHT.sel k.id)
  let tens := (ks.map (fun k => d.tenant k.id)).dedup
  if ks.any (fun k => fl k == 0) then some 1
  else if ks.any (fun k => bw k != 0 && decide (fl k < 16)) then some 2
  else if 1024 < (ks.map bw).sum then some 3
  else if 1024 < (tens.map (fun t => d.get (Reg.HQ_TEN_SHARE_CMP_SHARE.sel t))).sum then some 4
  else if ¬(1 ≤ d.get Reg.HQ_CMT_CFG_COMMIT_MS ∧ d.get Reg.HQ_CMT_CFG_COMMIT_MS ≤ 1000) then some 5
  else none

/-- The rules of CMP (R480). -/
def cmpRules (d : Dev) : Option Nat :=
  let bs := match d.plait with
    | some p => p.bindings
    | none => []
  let ok := fun (b : BindRec) =>
    let w := d.get (Reg.CMP_RAS_GEOM_WIDTH.sel b.nsid)
    let k := d.get (Reg.CMP_RAS_GEOM_C.sel b.nsid)
    w == 0 || (b.raster && (k == 1 || k == 2 || k == 4) && decide (w * k * (1 + d.get (Reg.CMP_RAS_GEOM_B16.sel b.nsid)) ≤ 32768))
  if d.get Reg.CMP_CFG_RATIO_DEF = 0 then some 1
  else if 128 < d.get Reg.CMP_CFG_MIN_SAVE then some 2
  else if bs.any (fun b => !ok b) then some 3
  else none

/-- The first failing rule of a block, by its base. MGMT, SEC, SEAM and FLT have none. -/
def blkRules (base : Nat) (d : Dev) : Option Nat :=
  if base = 0x100000 then pwrRules d
  else if base = 0x300000 then hqRules d
  else if base = 0x400000 then cmpRules d
  else if base = 0x500000 then memRules d
  else if base = 0x600000 then mcRules d
  else if base = 0x700000 then tstRules d
  else if base = 0xA00000 then fltRules d
  else none

/-- A block's commit ends with a result, shown in COMMIT_CTL and COMMIT_STS, with DIRTY as it then is (R21, R22). -/
def blkShow (c : Clock) (base result rule : Nat) (d : Dev) : Dev :=
  ({ d with blkPend := d.blkPend.ins base none }).sets [(Reg.BLK_COMMIT_CTL_REQ base, 0), (Reg.BLK_COMMIT_STS_RESULT base, result),
    (Reg.BLK_COMMIT_STS_RULE base, rule), (Reg.BLK_COMMIT_STS_EPOCH_LSB base, c.epoch % 256),
    (Reg.BLK_COMMIT_STS_DIRTY base, ofB (d.dirty (blkKeys base)))]

/-- The ledger entry of a device-wide commit (R644, class 1). -/
def blkEntry (c : Clock) (base res : Nat) (who : Who) (old new : List Byte) (d : Dev) : Dev :=
  d.ledEvent c who 1 res (d.wordInForce (base + 0xFF04)) base old new

/-- The decision of a block's commit at its boundary (R17, R19, R42): refused while a reload covers the block, refused when
a rule fails or the ledger has no room for the change (RULE 255), else applied whole. DEDUCED, log 26. -/
def blkDecide (c : Clock) (base : Nat) (p : BlkPend) (d : Dev) : Dev :=
  let keys := d.changedKeys (blkKeys base) p.vals
  let old := sha (wordTriples keys (FMap.get resetOf d.regs))
  let fail := fun (rule : Nat) =>
    let e := blkEntry c base 1 p.who old old (blkShow c base 2 rule d)
    e.fault c .device { cls := 7, code := 1, sev := 1, detail := le 4 base ++ le 4 (e.wordInForce (base + 0xFF04)) }
  if d.reloadsBlock base then blkEntry c base 1 p.who old old (blkShow c base 3 0 d)
  else
    let new := d.applySet (blkKeys base) p.vals
    match blkRules base new with
    | some r => fail r
    | none =>
      if d.ledFull then fail 255
      else blkEntry c base 0 p.who old (sha (wordTriples keys (FMap.get resetOf new.regs))) (blkShow c base 1 0 new)

/-- The work of an epoch boundary: commits that are due are decided in block order, shares begin anew, a Sanitize ends,
self-test looks at what waits (R17, R431, R594, R640). DEDUCED, log 25. -/
def epochWork (c : Clock) (d : Dev) : Dev :=
  let d := blkBases.foldl (fun d b => match d.blk b with
    | some p => if p.epoch ≤ c.epoch then blkDecide c b p d else d
    | none => d) d
  tstPoll c (sanitizeEnd { d with host := { d.host with moved := [], engUsed := [] } })

/-- EPOCH_BOUNDARY: the time until the next boundary passes, then its work is done. -/
def epochBoundary (c : Clock) (d : Dev) : Clock × Dev :=
  let r := ticks (epochTicks - c.tick % epochTicks) c d
  (r.1, epochWork r.1 r.2)

/-- Ticks that pass between two commands: one, or in DEEP the 40 of a cycle of the AON oscillator (R565). -/
def idleTicks (d : Dev) : Nat := if d.inDeep then 40 else 1

/-- The tick goes on, with the work of a boundary where it reaches one (R66, R565). DESIGN CHOICE, log 1. -/
def idleTick (c : Clock) (d : Dev) : Clock × Dev :=
  let r := ticks (idleTicks d) c d
  if r.1.epoch = c.epoch then r else (r.1, epochWork r.1 r.2)

/-! ### Registers of the device-wide blocks -/

/-- The offset under which a register chosen through a selector is held; none when the selector chooses nothing (R449 to
R455, R483, R484). DEDUCED, log 22. -/
def Dev.selected (d : Dev) (off : Nat) : Option Nat :=
  let cid := d.get Reg.HQ_CTL_SEL_CNTLID
  let ns := fun (nsid : Nat) => if (d.bound nsid).isSome then some (off + selSpan * (nsid + 1)) else none
  if off = 0x300104 ∨ off = 0x300108 then (if (d.ctrl cid).isSome then some (off + selSpan * (cid + 1)) else none)
  else if off = 0x30010C then (if (d.ctrl cid).isSome then some (off + selSpan * (d.tenant cid + 1)) else none)
  else if off = 0x300204 ∨ off = 0x300208 then ns (d.get Reg.HQ_NS_SEL_NSID)
  else if off = 0x400014 then ns (d.get Reg.CMP_RAS_SEL_NSID)
  else some off

/-- A word of a block without special effects. -/
def plainWrite (off v : Nat) (skip : List Nat) (d : Dev) : Dev :=
  match d.selected off with
  | some o => classWrite o v { skip := skip } d
  | none => d

/-- ETH_CFG (R387, R410): MODE is locked while EN is 1; an ignored MODE sets ERR. A port turned off, or given another mode,
loses its links. DEDUCED, log 85. -/
def ethWrite (p v : Nat) (d : Dev) : Dev :=
  let off := 0x300 + 4 * p
  let was := (d.get (Reg.MGMT_ETH_CFG_EN p), d.get (Reg.MGMT_ETH_CFG_MODE p))
  let d := ifBit v 12 (fun d => d.set (Reg.MGMT_ETH_CFG_ERR p) 0) d
  let d := classWrite off v { run := d.getB (Reg.MGMT_ETH_CFG_EN p), skip := [12], bad := fun lo x => lo == 0 && x == 3,
                              flag := fun _ d => d.set (Reg.MGMT_ETH_CFG_ERR p) 1 } d
  let d := if d.getB (Reg.MGMT_ETH_CFG_EN p) ∧ was = (d.get (Reg.MGMT_ETH_CFG_EN p), d.get (Reg.MGMT_ETH_CFG_MODE p)) then d
    else d.set (Reg.MGMT_ETH_CFG_LINK p) 0
  if d.ptpOn then d else d.set Reg.MGMT_PTP_STS_STATE 0

/-- PWR (R579 to R590, R325). -/
def pwrWrite (c : Clock) (off v : Nat) (d : Dev) : Dev :=
  if off = 0x100000 then ifBit v 31 reqOff (plainWrite off v [31] d)
  else if off = 0x100004 then
    let d := plainWrite off v [] d
    if bit v 17 then unlatchGates c d else d
  else if off = 0x100028 then padRel (bits v 0 17) d
  else if off = 0x10040C then
    ifBit v 2 (vmAbsClear c) (ifBit v 1 brakeFaultClear (plainWrite off v [1, 2] d))
  else if 0x100100 ≤ off ∧ off < 0x10011C then dvfsWrite ((off - 0x100100) / 4) v d
  else if 0x100200 ≤ off ∧ off < 0x100214 then ifBit v 1 (thermClr ((off - 0x100200) / 4)) d
  else plainWrite off v [] d

/-- MEM (R517 to R534): "the block runs" for XMAP and XMAP_HI in RUN and SELF_REFRESH. -/
def memWrite (c : Clock) (off v : Nat) (o : BusObs) (d : Dev) : Dev :=
  if off = 0x500004 then
    ifBit v 2 (memRecentre c o.centres) (ifBit v 1 memTrain (ifBit v 0 (memStart c) d))
  else if off = 0x500020 then (if bits v 30 2 = 1 then retirePage (bits v 0 30) d else plainWrite off v [30] d)
  else if off = 0x50003C then ifBit v 0 fillStart d
  else if 0x500100 ≤ off ∧ off < 0x500150 then
    classWrite off v { run := d.mstate == mRUN || d.mstate == mSELFREF, flag := fun _ d => d.set Reg.MEM_STS_WR_ERR 1 } d
  else if 0x500200 ≤ off ∧ off < 0x500220 then ifBit v 4 (chStsClr ((off - 0x500200) / 4)) d
  else if 0x500240 ≤ off ∧ off < 0x500260 then devMarkWrite c ((off - 0x500240) / 4) v d
  else plainWrite off v [] d

/-- TST (R612 to R621). -/
def tstWrite (c : Clock) (off v : Nat) (o : BusObs) (d : Dev) : Dev :=
  if off = 0x700008 then
    match bits v 24 2 with
    | 1 => tstCmd (bits v 0 14) false (plainWrite off v [24] d)
    | 2 => tstCmd (bits v 0 14) true (plainWrite off v [24] d)
    | _ => (if d.getB Reg.TST_CMD_BUSY then d.set Reg.TST_CMD_RESULT 4 else d) |> plainWrite off v [24]
  else if off = 0x700038 then
    (if bit v 24 then burnWrite c (bits v 0 14) (bits v 16 8) o.voids d else plainWrite off v [24] d)
  else plainWrite off v [] d

/-- COMMIT_CTL of a block as a word: DISCARD, then REQ (R21). DEDUCED, log 21. -/
def blkWord (c : Clock) (base v : Nat) (d : Dev) : Dev := ifBit v 0 (blkCommitReq c base) (ifBit v 1 (blkDiscard base) d)

/-- A word written to a device-wide block. -/
def devWrite (c : Clock) (off v : Nat) (o : BusObs) (d : Dev) : Dev :=
  if off % deckSpan = 0xFF00 then blkWord c (off - 0xFF00) v d
  else match off / deckSpan with
    | 0 => if 0x300 ≤ off ∧ off < 0x310 then ethWrite ((off - 0x300) / 4) v d else plainWrite off v [] d
    | 1 => pwrWrite c off v d
    | 5 => memWrite c off v o d
    | 6 =>
      if off = 0x600208 then
        (if bits v 0 2 = 0 then plainWrite off v [0] d
         else mcMaint (bits v 0 2) (bits v 4 2) (bits v 8 4) d)
      else if off = 0x600210 then ifBit v 3 mcStsClr (plainWrite off v [3] d)
      else plainWrite off v [] d
    | 7 => tstWrite c off v o d
    | 8 =>
      if off = 0x800000 then ifBit v 0 (tamperClear c o.closed) d
      else if off = 0x800010 then zeroKey c v d
      else plainWrite off v [] d
    | 10 => if off = 0xA00004 then ackSeqWrite v d else plainWrite off v [] d
    | _ => plainWrite off v [] d

/-- A word written to the window. -/
def wordWrite (c : Clock) (off v : Nat) (o : BusObs) (d : Dev) : Dev :=
  if off < deckBase then devWrite c off v o d
  else deckWrite c ((off - deckBase) / deckSpan) ((off - deckBase) % deckSpan) v d

/-- REG_WRITE: a write of some width at an offset through BAR2 of a link. -/
def regWrite (c : Clock) (link off width v : Nat) (o : BusObs) (d : Dev) : Dev :=
  d.access c (.bar2 link) off width (wordWrite c off v o)

/-! ### Reads -/

/-- TAI_NS: nanoseconds, with the seconds latched (R412 to R414). -/
def taiNsRead (d : Dev) : Dev :=
  let s := d.host.tai / 1000000000
  let d := d.sets [(Reg.MGMT_TAI_NS_NS, d.host.tai % 1000000000), (Reg.MGMT_TAI_SEC_LO_SEC_LO, s),
    (Reg.MGMT_TAI_SEC_HI_SEC_HI, s / 2 ^ 32)]
  { d with rdata := d.host.tai % 1000000000 }

/-- STAMP_LO: the low word of the next intake stamp, with the high word latched (R444, R445). -/
def stampLoRead (c : Clock) (d : Dev) : Dev :=
  let d := d.sets [(Reg.HQ_STAMP_LO_STAMP_LO, (c.stamp + 1) % 2 ^ 32), (Reg.HQ_STAMP_HI_STAMP_HI, (c.stamp + 1) / 2 ^ 32)]
  { d with rdata := (c.stamp + 1) % 2 ^ 32 }

/-- SIG_LO: the low word of the last slice signature, with the high word latched (R615, R616). -/
def sigLoRead (d : Dev) : Dev :=
  let d := d.sets [(Reg.TST_SIG_LO_SIG_LO, d.tst.sig % 2 ^ 32), (Reg.TST_SIG_HI_SIG_HI, d.tst.sig / 2 ^ 32)]
  { d with rdata := d.tst.sig % 2 ^ 32 }

/-- UNIT_STS of the selected unit (R618), as a word. -/
def unitStsWord (c : Clock) (d : Dev) : Nat :=
  let u := d.get Reg.TST_UNIT_SEL_INDEX
  let t := d.tunit u
  if tstKind u = 0 then 4 * 2 ^ 29
  else t.state * 2 ^ 29 + (if t.state = 2 then t.slice else 0) * 2 ^ 24 + min 255 t.fails * 2 ^ 16 +
    min 255 ((c.tick - (d.passEnd u).getD 0) / 60000000000) * 2 ^ 8 + min 15 t.cmpFails * 2 ^ 4

/-- FUSE_DATA (R609, R619, R620): a word of the factory bank or a field row. DESIGN CHOICE, log 76. -/
def fuseWord (d : Dev) : Nat :=
  let w := d.get Reg.TST_FUSE_ADDR_WORD
  if d.get Reg.TST_FUSE_ADDR_BANK = 1 then d.tst.rows.getD w 0
  else if w < 128 then ofLe ((List.range 4).map (fun i => Config.fuseByte (4 * w + i)))
  else 0

/-- The word read from a register as it is held: staged values of staged fields (R7). -/
def heldWord (d : Dev) (off : Nat) : Nat :=
  match d.selected off with
  | none => 0
  | some o => match regAt off with
    | none => 0
    | some (r, _) => r.fields.foldl (fun a f =>
      let g : Fld := ⟨o, f.lo, f.w⟩
      a + (if f.acc == .rws then d.stg g else d.get g) % 2 ^ f.w * 2 ^ f.lo) 0

/-- A field of a word replaced by a value that follows from other state. -/
def withField (v lo w x : Nat) : Nat := v - bits v lo w * 2 ^ lo + x % 2 ^ w * 2 ^ lo

/-- A register of HQ or CMP with the counts it shows (R446 to R455, R482). DEDUCED, log 23. -/
def hqWord (d : Dev) (off v : Nat) : Nat :=
  let cid := d.get Reg.HQ_CTL_SEL_CNTLID
  let nsid := d.get Reg.HQ_NS_SEL_NSID
  if off = 0x300008 then withField v 0 18 d.host.ctxs.length
  else if off = 0x30000C then
    withField (withField v 0 15 d.locksUsed) 16 15 (min 32767 (d.host.ctxs.filter (fun x => x.phase == .held && x.why == 0)).length)
  else if off = 0x300100 then withField v 31 1 (ofB (d.ctrl cid).isSome)
  else if off = 0x300108 then match d.ctrl cid with
    | some _ => withField (withField v 16 16 (d.inflight cid)) 0 1
        (ofB (decide (d.get (Reg.HQ_CTL_BUDGET_INFLIGHT.sel cid) ≤ d.inflight cid)))
    | none => 0
  else if off = 0x30010C then
    withField v 31 1 (ofB (d.ctrls.any (fun k => k.raster && d.tenant k.id == d.tenant cid)))
  else if off = 0x300208 then (if (d.bound nsid).isSome then cdiv (d.ns nsid).used (2 ^ 30) else 0)
  else if off = 0x400004 then withField v 16 16 (min 65535 (d.jobs.filter (fun j => j.eng.isNone)).length)
  else v

/-- A word of the window as a read shows it. DEDUCED, log 87. -/
def shownWord (c : Clock) (d : Dev) (off : Nat) : Nat :=
  let v := heldWord d off
  if off < deckBase then
    if off % deckSpan = 0xFF04 then withField v 6 1 (ofB (d.dirty (blkKeys (off - 0xFF04))))
    else if off = 0x700024 then unitStsWord c d
    else if off = 0x700034 then fuseWord d
    else if off = 0xA00000 then d.flt.next % 2 ^ 32
    else if off = 0xA00008 then withField v 16 13 d.flt.unread
    else if 0xA00044 ≤ off then ofLe (slice d.flt.latch (off - 0xA00044) 4)
    else hqWord d off v
  else
    let n := (off - deckBase) / deckSpan
    let o := (off - deckBase) % deckSpan
    if o = 0xFF04 then withField v 5 1 (ofB (d.dirty (subKeys n 0x1FF)))
    else if o = 0x20018 then withField v 0 12 (eqDataRead n d)
    else if o = 0x80004 then withField v 4 4 (min 15 (shockDrops c n d))
    else if o = 0x4000C then
      let s := d.get (Reg.LOOP_CF_ADDR_SLOT n)
      let i := d.get (Reg.LOOP_CF_ADDR_INDEX n)
      if d.get (Reg.LOOP_CF_ADDR_SPACE n) = 0 then ((d.deck n).slot s).word (d.get (Reg.LOOP_CF_ADDR_BANK n)) (i % 32)
      else ux 32 (((d.deck n).slot s).entryAt i)
    else v

/-- A word read from the window: the reads that latch, and every other. -/
def wordRead (c : Clock) (off : Nat) (d : Dev) : Dev :=
  if off = 0x200 then tickLoRead c d
  else if off = 0x314 then taiNsRead d
  else if off = 0x300000 then stampLoRead c d
  else if off = 0x70000C then sigLoRead d
  else if off = 0xA00040 then recDataRead d
  else if deckBase ≤ off ∧ (off - deckBase) % deckSpan = 0x10 then snapGrainRead c ((off - deckBase) / deckSpan) d
  else { d with rdata := shownWord c d off }

/-! ### The window through MCTP (R393) -/

/-- A vendor MI request with a session whose roles MCTP_ROLES names; the packet wakes the device, and in DEEP it is discarded (R567, R627). -/
def mctpReg (pcie : Bool) (go : Dev → Dev) (d : Dev) : Dev :=
  let d := d.activity.wakeBy Reg.PWR_WAKE_STS_MCTP
  if d.pwr.mode = .deep ∨ d.domOn 2 = false ∨ d.mctpSession pcie = false then d else go d

/-- REGISTER_READ: a dword offset; beyond the window Invalid Parameter, else the word. -/
def registerRead (c : Clock) (pcie : Bool) (dw : Nat) (d : Dev) : Dev :=
  mctpReg pcie (fun d =>
    if selSpan ≤ 4 * dw then miReply 0xC0 dw [(0, [0x04])] 0 d
    else
      let d := d.accessRead c (.mctp pcie) (4 * dw) 4 (wordRead c (4 * dw))
      miReply 0xC0 dw [(0, [0]), (4, le 4 d.rdata)] 0 d) d

/-- REGISTER_WRITE: a dword offset and a word. -/
def registerWrite (c : Clock) (pcie : Bool) (dw v : Nat) (o : BusObs) (d : Dev) : Dev :=
  mctpReg pcie (fun d =>
    if selSpan ≤ 4 * dw then miReply 0xC1 dw [(0, [0x04])] 0 d
    else miReply 0xC1 dw [(0, [0])] 0 (d.access c (.mctp pcie) (4 * dw) 4 (wordWrite c (4 * dw) v o))) d

end Sys2Proof.Machine
end

