-- ==== Sys2Proof/Machine/Rows.lean ====
section
/-! DEFINITION. Machine/Rows.lean: what commands of one kind share: the register access that carries a row, the power of the
unit a row acts on, DRAM errors met on the way, and the seam's forwarded messages. -/

namespace Sys2Proof.Machine

/-! ### Rows that are register accesses (R4, R5, R23) -/

/-- A row that is a write through BAR2 of a word with its own row. -/
def regRow (c : Clock) (link off : Nat) (go : Dev → Dev) (d : Dev) : Dev := d.access c (.bar2 link) off 4 go

/-- A row that is a read through BAR2 of a word with its own row. -/
def rdRow (c : Clock) (link off : Nat) (go : Dev → Dev) (d : Dev) : Dev := d.accessRead c (.bar2 link) off 4 go

/-- Base of a device-wide block by its number. -/
def blkBase (b : Nat) : Nat := blkBases.getD b 0

/-! ### Rows of a unit that needs power (R556, R558, R571) -/

/-- An event of a deck: nothing while its domain is off. DESIGN CHOICE, log 6. -/
def deckRow (n : Nat) (f : Dev → Dev) (d : Dev) : Dev := if d.deckOn n then f d else d

/-- An event of a deck's lanes. -/
def laneRow (n : Nat) (f : Dev → Dev) (d : Dev) : Dev := if d.deckOn n && d.domOn (dLANE (n / 8)) then f d else d

/-- An event of a die's decoder pool. -/
def decRow (i : Nat) (f : Dev → Dev) (d : Dev) : Dev := if d.domOn (dDEC i) then f d else d

/-- An event of the seam. -/
def seamRow (f : Dev → Dev) (d : Dev) : Dev := if d.domOn 6 then f d else d

/-- An event of a deck's clamp, which wakes a module whose deck is off (R567, R587). -/
def clampRow (n : Nat) (f : Dev → Dev) (d : Dev) : Dev :=
  if d.deckOn n then f d else d.wakeBy Reg.PWR_WAKE_STS_CLAMP

/-! ### Rows that name what they speak of -/

/-- The samples of a row lie in the data gap of the wedge where the counter stands (R119). -/
def Dev.inGap (_ : Dev) (c : Clock) (n wedge : Nat) : Bool := c.grain n / 16384 == wedge

/-- The block in hand of a slot belongs to a swath (R171). -/
def Dev.blockOf (d : Dev) (n swath slot : Nat) : Bool := ((d.deck n).blk slot).any (fun b => b.swath == swath)

/-- The block of a slot of a layer is the one at work in a darn engine, counted among those at work (R171). -/
def Dev.darnAt (d : Dev) (n slot layer eng : Nat) : Bool :=
  d.get (Reg.SEQ_STS_LAYER n) == layer && (d.die (dieOf n)).darn[eng]? == some (n, slot)

/-- The pass in hand is pass p of a swath (R196). -/
def Deck.passOf (k : Deck) (swath pass : Nat) : Bool := k.pass.any (fun p => p.pass == pass) && writeSwath k == swath

/-- A command comes from a controller (R415). -/
def Dev.sentBy (d : Dev) (cid stamp : Nat) : Bool := (d.ctx stamp).any (fun x => x.cid == cid)

/-! ### Triggers, offsets and DRAM errors -/

/-- Once per revolution, after trigger 5: what self-test and the governor wait for (R583, R594). -/
def firedToo (c : Clock) (n : Nat) (d d' : Dev) : Dev :=
  if (trigsDue d c n).contains 5 then govHold n (tstRevMark n d') else d'

/-- On entering LOADED the servo and shunt offsets are measured (R605). -/
def enterLoaded (c : Clock) (n : Nat) (o : OfsObs) (d d' : Dev) : Dev :=
  if d'.dstate n = dLOADED && d.dstate n != dLOADED then servoOffsets c n o.svo o.shunt d' else d'

/-- The shunts' offsets are measured in LISTEN (R605). -/
def listenOffsets (c : Clock) (n : Nat) (o : OfsObs) (d : Dev) : Dev :=
  if d.spnSt n = spLISTEN then servoOffsets c n [] o.shunt d else d

/-- A host command's DRAM reads meet their errors (R503, R515). -/
def readsDram (c : Clock) (stamp : Nat) (op : Cmd) (dram : List DramErr) (lost : List (Nat × Nat)) (d : Dev) : Dev :=
  if (d.running stamp op).isSome then writesLost c lost (d.dramErrors c rqHOST dram) else d

/-- An access to the controller memory buffer, which wakes the device first (R536, R567). DEDUCED, log 67. -/
def cmbAccess (c : Clock) (write : Bool) (off len : Nat) (data : List Byte) (dram : List DramErr) (d : Dev) : Dev :=
  let d := d.activity.wakeBy Reg.PWR_WAKE_STS_CMB
  if d.domOn 4 = false then d
  else if write then cmbWrite c off data dram d
  else cmbRead c off len dram d

/-! ### The seam's messages (R45 to R48) -/

/-- SHEAF_FORWARD: a command comes from another member, or a member answers one. -/
def sheafForward (c : Clock) (m : SheafMsg) (d : Dev) : Dev :=
  match m with
  | .cmd hc wid tai => forwardCmd hc wid tai d
  | .streams slba nlb time l => forwardStreams c slba nlb time l d
  | .units dev nsid l => forwardUnits dev nsid l d
  | .result dev stamp st dw0 dw1 data all =>
    if st == .success && (d.host.writes.any (fun w => w.stamp == stamp && w.places.any (fun p => decide (16 ≤ p)))) then forwardCommitted dev stamp d
    else forwardResult stamp st dw0 dw1 data all (noteAnswer c stamp st data d)
  | .fault r => forwardFault c r d

end Sys2Proof.Machine
end

