-- ==== Sys2Proof/Machine/ExecAdmin.lean ====
section
/-! DEFINITION. Machine/ExecAdmin.lean: the meanings of the commands of admin commands, controllers, links and firmware (spec files 12, 13, 22). -/

namespace Sys2Proof.Machine

/-- INVALID_OPCODE (R397). -/
def execInvalidOpcode (stamp : Nat) (s : State) : Host.Outcome State Fault Refusal :=
  .next (s.onDev fun _ d => invalidOpcode stamp d)

/-- CREATE_IO_SUBMISSION_QUEUE (R397). -/
def execCreateIoSubmissionQueue (stamp : Nat) (qid size cq : Nat) (s : State) : Host.Outcome State Fault
    Refusal :=
  .next (s.onDev fun _ d => createSq stamp qid size cq d)

/-- DELETE_IO_SUBMISSION_QUEUE (R397). -/
def execDeleteIoSubmissionQueue (stamp : Nat) (qid : Nat) (s : State) : Host.Outcome State Fault Refusal :=
  .next (s.onDev fun _ d => deleteSq stamp qid d)

/-- CREATE_IO_COMPLETION_QUEUE (R397). -/
def execCreateIoCompletionQueue (stamp : Nat) (qid size vec : Nat) (s : State) : Host.Outcome State Fault
    Refusal :=
  .next (s.onDev fun _ d => createCq stamp qid size vec d)

/-- DELETE_IO_COMPLETION_QUEUE (R397). -/
def execDeleteIoCompletionQueue (stamp : Nat) (qid : Nat) (s : State) : Host.Outcome State Fault Refusal :=
  .next (s.onDev fun _ d => deleteCq stamp qid d)

/-- GET_LOG_PAGE (R399). -/
def execGetLogPage (stamp : Nat) (lid lsp lsi ofst len : Nat) (rae : Bool) (s : State) : Host.Outcome State
    Fault Refusal :=
  .next (s.onDev fun c d => getLogPage c stamp lid lsp lsi ofst len rae d)

/-- IDENTIFY (R403). -/
def execIdentify (stamp : Nat) (cns nsid : Nat) (s : State) : Host.Outcome State Fault Refusal :=
  .next (s.onDev fun c d => hostIdentify c stamp cns nsid d)

/-- ABORT (R425). -/
def execAbort (stamp : Nat) (target : Nat) (s : State) : Host.Outcome State Fault Refusal :=
  .next (s.onDev fun _ d => hostAbort stamp target d)

/-- SET_FEATURES (R402). -/
def execSetFeatures (stamp : Nat) (fid v : Nat) (s : State) : Host.Outcome State Fault Refusal :=
  .next (s.onDev fun c d => setFeatures c stamp fid v d)

/-- GET_FEATURES (R402). -/
def execGetFeatures (stamp : Nat) (fid : Nat) (s : State) : Host.Outcome State Fault Refusal :=
  .next (s.onDev fun c d => getFeatures c stamp fid d)

/-- ASYNCHRONOUS_EVENT_REQUEST (R673). -/
def execAsynchronousEventRequest (stamp : Nat) (s : State) : Host.Outcome State Fault Refusal :=
  .next (s.onDev fun _ d => asyncEvent stamp d)

/-- FIRMWARE_COMMIT (R427). -/
def execFirmwareCommit (stamp : Nat) (slot action : Nat) (s : State) : Host.Outcome State Fault Refusal :=
  .next (s.onDev fun c d => fwCommit c stamp slot action d)

/-- FIRMWARE_IMAGE_DOWNLOAD (R657). -/
def execFirmwareImageDownload (stamp : Nat) (ofst : Nat) (piece : List Byte) (s : State) : Host.Outcome
    State Fault Refusal :=
  .next (s.onDev fun _ d => fwDownload stamp ofst piece d)

/-- KEEP_ALIVE (R402). -/
def execKeepAlive (stamp : Nat) (s : State) : Host.Outcome State Fault Refusal :=
  .next (s.onDev fun c d => keepAlive c stamp d)

/-- NVME_MI_SEND (R393). -/
def execNvmeMiSend (stamp : Nat) (op arg v : Nat) (s : State) : Host.Outcome State Fault Refusal :=
  .next (s.onDev fun _ d => miBand true stamp op arg v d)

/-- NVME_MI_RECEIVE (R393). -/
def execNvmeMiReceive (stamp : Nat) (op arg : Nat) (s : State) : Host.Outcome State Fault Refusal :=
  .next (s.onDev fun _ d => miBand false stamp op arg 0 d)

/-- DOORBELL_BUFFER_CONFIG (R397). -/
def execDoorbellBufferConfig (stamp : Nat) (shadow eventidx : Nat) (s : State) : Host.Outcome State Fault
    Refusal :=
  .next (s.onDev fun _ d => doorbellConfig stamp shadow eventidx d)

/-- FABRICS_CONNECT (R408). -/
def execFabricsConnect (transport : Fin 3) (p sub : Fin 4) (nqn : List Byte) (discovery : Bool) (cid qid :
    Nat) (tls alert : Nat) (authed : Bool) (s : State) : Host.Outcome State Fault Refusal :=
  .next (s.onDev fun c d => fabricsConnect c transport p sub nqn discovery cid qid tls alert authed d)

/-- PROPERTY_GET (R397). -/
def execPropertyGet (stamp : Nat) (off : Nat) (s : State) : Host.Outcome State Fault Refusal :=
  .next (s.onDev fun _ d => propertyGet stamp off d)

/-- PROPERTY_SET (R397). -/
def execPropertySet (stamp : Nat) (off v : Nat) (s : State) : Host.Outcome State Fault Refusal :=
  .next (s.onDev fun c d => propertySet c stamp off v d)

/-- AUTHENTICATION_SEND (R388). -/
def execAuthenticationSend (stamp : Nat) (outcome : Nat) (s : State) : Host.Outcome State Fault Refusal :=
  .next (s.onDev fun _ d => authSend stamp outcome d)

/-- AUTHENTICATION_RECEIVE (R388). -/
def execAuthenticationReceive (stamp : Nat) (s : State) : Host.Outcome State Fault Refusal :=
  .next (s.onDev fun _ d => authReceive stamp d)

/-- READ_NVME_MI_DATA_STRUCTURE (R393). -/
def execReadNvmeMiDataStructure (pcie : Bool) (arg : Nat) (s : State) : Host.Outcome State Fault Refusal :=
  .next (s.onDev fun _ d => mctpMi pcie 0 arg 0 d)

/-- NVM_SUBSYSTEM_HEALTH_STATUS_POLL (R393). -/
def execNvmSubsystemHealthStatusPoll (pcie : Bool) (s : State) : Host.Outcome State Fault Refusal :=
  .next (s.onDev fun _ d => mctpMi pcie 1 0 0 d)

/-- CONTROLLER_HEALTH_STATUS_POLL (R393). -/
def execControllerHealthStatusPoll (pcie : Bool) (arg : Nat) (s : State) : Host.Outcome State Fault Refusal
    :=
  .next (s.onDev fun _ d => mctpMi pcie 2 arg 0 d)

/-- CONFIGURATION_SET (R393). -/
def execConfigurationSet (pcie : Bool) (arg v : Nat) (s : State) : Host.Outcome State Fault Refusal :=
  .next (s.onDev fun _ d => mctpMi pcie 3 arg v d)

/-- CONFIGURATION_GET (R393). -/
def execConfigurationGet (pcie : Bool) (arg : Nat) (s : State) : Host.Outcome State Fault Refusal :=
  .next (s.onDev fun _ d => mctpMi pcie 4 arg 0 d)

/-- MI_RESET (R393). -/
def execMiReset (pcie : Bool) (s : State) : Host.Outcome State Fault Refusal :=
  .next (s.onDev fun _ d => mctpMi pcie 7 0 0 d)

/-- REGISTER_READ (R393). -/
def execRegisterRead (pcie : Bool) (dw : Word) (s : State) : Host.Outcome State Fault Refusal :=
  .next (s.onDev fun c d => registerRead c pcie dw.toNat d)

/-- REGISTER_WRITE (R393). -/
def execRegisterWrite (pcie : Bool) (dw v : Word) (o : BusObs) (s : State) : Host.Outcome State Fault
    Refusal :=
  .next (s.onDev fun c d => registerWrite c pcie dw.toNat v.toNat o d)

/-- CONTROLLER_RESET (R426). -/
def execControllerReset (cid : Nat) (s : State) : Host.Outcome State Fault Refusal :=
  .next (s.onDev fun _ d => ctrlEnd cid d)

/-- NVM_SUBSYSTEM_RESET (R426). -/
def execNvmSubsystemReset (s : State) : Host.Outcome State Fault Refusal :=
  .next (s.onDev fun _ d => subsystemReset d)

/-- KEEP_ALIVE_EXPIRY (R408). -/
def execKeepAliveExpiry (cid : Nat) (s : State) : Host.Outcome State Fault Refusal :=
  .next (s.onDev fun c d => keepAliveExpiry c cid d)

/-- PCIE_LINK_DOWN (R408). -/
def execPcieLinkDown (link : Fin 2) (s : State) : Host.Outcome State Fault Refusal :=
  .next (s.onDev fun _ d => pcieLinkDown link d)

/-- PERST_RELEASE (R660). -/
def execPerstRelease (links : Fin 4) (s : State) : Host.Outcome State Fault Refusal :=
  .next (s.onDev fun _ d => perstRelease links d)

/-- ETH_LINK_CHANGE (R387). -/
def execEthLinkChange (p sub : Fin 4) (up : Bool) (s : State) : Host.Outcome State Fault Refusal :=
  .next (s.onDev fun _ d => ethLinkChange p sub up d)

/-- PTP_MESSAGE (R391). -/
def execPtpMessage (st : Fin 4) (ofs : Int) (utc tai : Nat) (s : State) : Host.Outcome State Fault Refusal
    :=
  .next (s.onDev fun c d => ptpMessage c st ofs utc tai d)

/-- PTP_TIMEOUT (R408). -/
def execPtpTimeout (s : State) : Host.Outcome State Fault Refusal :=
  .next (s.onDev fun _ d => ptpTimeout d)

/-- FW_DRAIN_END (R427). -/
def execFwDrainEnd (s : State) : Host.Outcome State Fault Refusal :=
  .next (s.onDev fun _ d => fwDrainEnd d)

/-- FW_DRAIN_TIMEOUT (R428). -/
def execFwDrainTimeout (s : State) : Host.Outcome State Fault Refusal :=
  .next (s.onDev fun c d => fwDrainTimeout c d)

/-- FW_NEW_READY (R427). -/
def execFwNewReady (s : State) : Host.Outcome State Fault Refusal :=
  .next (s.onDev fun c d => fwNewReady c d)

/-- FW_READY_TIMEOUT (R428). -/
def execFwReadyTimeout (s : State) : Host.Outcome State Fault Refusal :=
  .next (s.onDev fun c d => fwReadyTimeout c d)

/-- CONTROLLER_ENABLE (R660). -/
def execControllerEnable (link : Fin 2) (fn : Nat) (s : State) : Host.Outcome State Fault Refusal :=
  .next (s.onDev fun c d => controllerEnable c link fn d)

/-- FABRIC_CONNECTION_LOSS (R426). -/
def execFabricConnectionLoss (cid : Nat) (s : State) : Host.Outcome State Fault Refusal :=
  .next (s.onDev fun _ d => fabricLoss cid d)

end Sys2Proof.Machine
end

