-- ==== Sys2Proof/Machine/ExecAngle.lean ====
section
/-! DEFINITION. Machine/ExecAngle.lean: the meanings of the commands of the angular timebase and its triggers (spec file 04). -/

namespace Sys2Proof.Machine

/-- CLOCK_MARK (R53), with what comes about in it: COUNTER_RELOAD (R55); TIMEBASE_LOCK (R53); WEDGE_CORRECTION
(R121). -/
def execClockMark (n : Fin 16) (idx : Option (Fin 1024)) (eps : List (Fin 66 × Int)) (s : State) :
    Host.Outcome State Fault Refusal :=
  .next (s.onBoth fun c d => if d.deckOn n then (fun r => (r.1, eqGap n r.2)) (clockMark c n (idx.map
    Fin.val)
  (eps.map (fun p => (p.1.val, p.2))) (fun c ts d => lateFire c n ts d) d) else (c, d))

/-- MARK_WINDOW_MISS (R53), with what comes about in it: TIMEBASE_HOLDOVER (R53). -/
def execMarkWindowMiss (n : Fin 16) (s : State) : Host.Outcome State Fault Refusal :=
  .next (s.onDev fun c d => deckRow n (fun d => eqGap n (markWindowMiss c n d)) d)

/-- HOLDOVER_TIMEOUT (R53), with what comes about in it: TRIGGER_MISSED (R59); GLEAN_ABANDON (R175). -/
def execHoldoverTimeout (n : Fin 16) (s : State) : Host.Outcome State Fault Refusal :=
  .next (s.onDev fun c d => deckRow n (fun d => holdoverTimeout c n d) d)

/-- FORCE_SEARCH (R67). -/
def execForceSearch (link : Fin 2) (n : Fin 16) (s : State) : Host.Outcome State Fault Refusal :=
  .next (s.onDev fun c d => regRow c link (Reg.ANG_PLL_CFG_FORCE_SEARCH n).off (forceSearch c n) d)

/-- TIMEBASE_ENABLE (R53). -/
def execTimebaseEnable (n : Fin 16) (s : State) : Host.Outcome State Fault Refusal :=
  .next (s.onDev fun c d => deckRow n (fun d => timebaseEnable c n d) d)

/-- TIMEBASE_DISABLE (R53). -/
def execTimebaseDisable (n : Fin 16) (s : State) : Host.Outcome State Fault Refusal :=
  .next (s.onDev fun c d => deckRow n (fun d => timebaseDisable c n d) d)

/-- TRIGGER_FIRE (R57), with what comes about in it: DECK_COMMIT_DECIDE (R62); SEQUENCER_COMMIT (R64);
LOOP_SAMPLE (R242); LOOP_FAULT (R257); SAFE_STATE (R258); SHOCK_DROP (R365); SLED_LIMIT (R328); BANK_SWAP
(R250); LEARN_UPDATE (R246); CALIBRATING_END (R361); GLEAN_END (R175). -/
def execTriggerFire (n : Fin 16) (w : WedgeObs) (o : ServoObs) (s : State) : Host.Outcome State Fault
    Refusal :=
  .next (s.onDev fun c d => deckRow n (fun d => firedToo c n d (triggerFire c n ⟨o, w⟩ d)) d)

/-- TRIG_CFG_WRITE (R59). -/
def execTrigCfgWrite (link : Fin 2) (n : Fin 16) (t : Fin 64) (v : Word) (s : State) : Host.Outcome State
    Fault Refusal :=
  .next (s.onDev fun c d => regRow c link (Reg.ANG_TRIG_CFG_MODE n t).off (trigCfgWrite c n t v.toNat (fun ts
    d
  => lateFire c n ts d)) d)

/-- TRIG_POS_WRITE (R59). -/
def execTrigPosWrite (link : Fin 2) (n : Fin 16) (t : Fin 64) (v : Word) (s : State) : Host.Outcome State
    Fault Refusal :=
  .next (s.onDev fun c d => regRow c link (Reg.ANG_TRIG_POS_POS n t).off (trigPosWrite n t v.toNat) d)

/-- TRIG_REV_WRITE (R59). -/
def execTrigRevWrite (link : Fin 2) (n : Fin 16) (t : Fin 64) (v : Word) (s : State) : Host.Outcome State
    Fault Refusal :=
  .next (s.onDev fun c d => regRow c link (Reg.ANG_TRIG_REV_REV_LO n t).off (trigRevWrite n t v.toNat) d)

/-- DECK_COMMIT_REQ (R62). -/
def execDeckCommitReq (link : Fin 2) (n : Fin 16) (mask : Fin 512) (trig : Fin 64) (s : State) :
    Host.Outcome State Fault Refusal :=
  .next (s.onDev fun c d => regRow c link (Reg.ANG_COMMIT_CTL_REQ n).off (deckCommitReq c n mask trig) d)

/-- DECK_COMMIT_CANCEL (R63). -/
def execDeckCommitCancel (link : Fin 2) (n : Fin 16) (s : State) : Host.Outcome State Fault Refusal :=
  .next (s.onDev fun c d => regRow c link (Reg.ANG_COMMIT_CTL_REQ n).off (deckCommitCancel c n) d)

/-- DECK_COMMIT_DISCARD (R77). -/
def execDeckCommitDiscard (link : Fin 2) (n : Fin 16) (mask : Fin 512) (s : State) : Host.Outcome State
    Fault Refusal :=
  .next (s.onDev fun c d => regRow c link (Reg.ANG_COMMIT_CTL_REQ n).off (deckCommitDiscard n mask) d)

end Sys2Proof.Machine
end

