-- ==== Sys2Proof/Machine/ExecBus.lean ====
section
/-! DEFINITION. Machine/ExecBus.lean: the meanings of the commands of the window and the epoch (spec files 00, 01, 02). -/

namespace Sys2Proof.Machine

/-- REG_WRITE (R7), with what comes about in it: BAD_ACCESS (R4). -/
def execRegWrite (link : Fin 2) (off width : Nat) (v : Word) (o : BusObs) (s : State) : Host.Outcome State
    Fault Refusal :=
  .next (s.onDev fun c d => regWrite c link off width v.toNat o d)

/-- SNAP_GRAIN_READ (R71). -/
def execSnapGrainRead (link : Fin 2) (n : Fin 16) (s : State) : Host.Outcome State Fault Refusal :=
  .next (s.onDev fun c d => rdRow c link (Reg.ANG_SNAP_GRAIN_GRAIN n).off (snapGrainRead c n) d)

/-- TICK_LO_READ (R79). -/
def execTickLoRead (link : Fin 2) (s : State) : Host.Outcome State Fault Refusal :=
  .next (s.onDev fun c d => rdRow c link Reg.MGMT_TICK_LO_TICK_LO.off (tickLoRead c) d)

/-- TAI_NS_READ (R412). -/
def execTaiNsRead (link : Fin 2) (s : State) : Host.Outcome State Fault Refusal :=
  .next (s.onDev fun c d => rdRow c link Reg.MGMT_TAI_NS_NS.off (taiNsRead) d)

/-- STAMP_LO_READ (R444). -/
def execStampLoRead (link : Fin 2) (s : State) : Host.Outcome State Fault Refusal :=
  .next (s.onDev fun c d => rdRow c link Reg.HQ_STAMP_LO_STAMP_LO.off (stampLoRead c) d)

/-- SIG_LO_READ (R615). -/
def execSigLoRead (link : Fin 2) (s : State) : Host.Outcome State Fault Refusal :=
  .next (s.onDev fun c d => rdRow c link Reg.TST_SIG_LO_SIG_LO.off (sigLoRead) d)

/-- REC_DATA_READ (R682). -/
def execRecDataRead (link : Fin 2) (s : State) : Host.Outcome State Fault Refusal :=
  .next (s.onDev fun c d => rdRow c link (Reg.FLT_REC_DATA_DATA 0).off (recDataRead) d)

/-- COMMIT_REQ (R21). -/
def execCommitReq (link : Fin 2) (b : Fin 10) (s : State) : Host.Outcome State Fault Refusal :=
  .next (s.onDev fun c d => regRow c link (Reg.BLK_COMMIT_CTL_REQ (blkBase b)).off (blkCommitReq c (blkBase
    b))
  d)

/-- COMMIT_DISCARD (R21). -/
def execCommitDiscard (link : Fin 2) (b : Fin 10) (s : State) : Host.Outcome State Fault Refusal :=
  .next (s.onDev fun c d => regRow c link (Reg.BLK_COMMIT_CTL_REQ (blkBase b)).off (blkDiscard (blkBase b))
    d)

/-- EPOCH_BOUNDARY (R17), with what comes about in it: COMMIT_DECIDE (R19). -/
def execEpochBoundary (s : State) : Host.Outcome State Fault Refusal :=
  .next (s.onBoth fun c d => epochBoundary c d)

end Sys2Proof.Machine
end

