-- ==== Sys2Proof/Machine/ExecDetect.lean ====
section
/-! DEFINITION. Machine/ExecDetect.lean: the meanings of the commands of detection and decoding (spec file 06). -/

namespace Sys2Proof.Machine

/-- SYNC_WINDOW (R165), with what comes about in it: FLYWHEEL (R165); SECTOR_OVERRUN (R170). -/
def execSyncWindow (n : Fin 16) (beam : Fin 64) (slot swath passes : Nat) (start : Int) (z : List Int)
    (chaff : List Bool) (s : State) : Host.Outcome State Fault Refusal :=
  .next (s.onDev fun c d => laneRow n (fun d => if (d.deck n).seq.swath = swath then syncWindow c n beam
    slot
  passes ⟨start, z, chaff⟩ d else d) d)

/-- RESYNC_WINDOW (R166). -/
def execResyncWindow (n : Fin 16) (p : BeamSlot) (o : Outs) (s : State) : Host.Outcome State Fault Refusal
    :=
  .next (s.onDev fun _ d => laneRow n (fun d => resyncWindow n p.beam p.slot o d) d)

/-- LDPC_DISPATCH (R168). -/
def execLdpcDispatch (die : Fin 2) (s : State) : Host.Outcome State Fault Refusal :=
  .next (s.onDev fun _ d => decRow die (fun d => ldpcDispatch die d) d)

/-- LDPC_FIRST_PASS_DONE (R169). -/
def execLdpcFirstPassDone (n : Fin 16) (slot : Nat) (beam : Fin 64) (o : Outs) (s : State) : Host.Outcome
    State Fault Refusal :=
  .next (s.onDev fun c d => decRow (n / 8) (fun d => ldpcFirstPassDone c n slot beam o d) d)

/-- TURBO_PASS_DONE (R169). -/
def execTurboPassDone (n : Fin 16) (slot : Nat) (beam : Fin 64) (swath : Nat) (s : State) : Host.Outcome
    State Fault Refusal :=
  .next (s.onDev fun c d => decRow (n / 8) (fun d => if d.blockOf n swath slot then turboPassDone c n slot
    beam
  d else d) d)

/-- DARN_DISPATCH (R171). -/
def execDarnDispatch (n : Fin 16) (slot : Nat) (s : State) : Host.Outcome State Fault Refusal :=
  .next (s.onDev fun _ d => decRow (n / 8) (fun d => darnDispatch n slot d) d)

/-- DARN_DONE (R172). -/
def execDarnDone (n : Fin 16) (slot swath layer eng : Nat) (s : State) : Host.Outcome State Fault Refusal
    :=
  .next (s.onDev fun c d => decRow (n / 8) (fun d => if d.blockOf n swath slot ∧ d.darnAt n slot layer eng
    then
  darnDone c n slot d else d) d)

/-- GLEAN_SET_APPLY (R174). -/
def execGleanSetApply (n : Fin 16) (g : Fin 5) (s : State) : Host.Outcome State Fault Refusal :=
  .next (s.onDev fun c d => deckRow n (fun d => gleanSetApply c n g d) d)

/-- MARGIN_SNAP (R176). -/
def execMarginSnap (link : Fin 2) (n : Fin 16) (s : State) : Host.Outcome State Fault Refusal :=
  .next (s.onDev fun c d => regRow c link (Reg.DET_MARGIN_CTL_SNAP n).off (marginSnap c n) d)

/-- MARGIN_CLR (R184). -/
def execMarginClr (link : Fin 2) (n : Fin 16) (s : State) : Host.Outcome State Fault Refusal :=
  .next (s.onDev fun c d => regRow c link (Reg.DET_MARGIN_CTL_SNAP n).off (marginClr c n) d)

/-- EQ_REINIT (R158). -/
def execEqReinit (link : Fin 2) (n : Fin 16) (k : Fin 64) (s : State) : Host.Outcome State Fault Refusal :=
  .next (s.onDev fun c d => regRow c link (Reg.DET_BCFG_EQ_REINIT n k).off (eqReinit n k) d)

/-- EQ_DATA_WRITE (R186). -/
def execEqDataWrite (link : Fin 2) (n : Fin 16) (v : BitVec 12) (s : State) : Host.Outcome State Fault
    Refusal :=
  .next (s.onDev fun c d => regRow c link (Reg.DET_EQ_DATA_COEF n).off (eqDataWrite n v.toNat) d)

end Sys2Proof.Machine
end

