-- ==== Sys2Proof/Machine/ExecHost.lean ====
section
/-! DEFINITION. Machine/ExecHost.lean: the meanings of the commands of host commands on data (spec files 13, 14). -/

namespace Sys2Proof.Machine

/-- COMMAND_FETCH (R416). -/
def execCommandFetch (cid sq : Nat) (hc : HostCmd) (s : State) : Host.Outcome State Fault Refusal :=
  .next (s.onBoth fun c d => commandFetch cid sq hc c d)

/-- COMMAND_UNHELD (R419). -/
def execCommandUnheld (stamp : Nat) (s : State) : Host.Outcome State Fault Refusal :=
  .next (s.onDev fun _ d => commandUnheld stamp d)

/-- WRITE_STAGED (R420). -/
def execWriteStaged (stamp : Nat) (s : State) : Host.Outcome State Fault Refusal :=
  .next (s.onDev fun c d => writeStaged c stamp d)

/-- READ_DATA_OUT (R420). -/
def execReadDataOut (stamp : Nat) (s : State) : Host.Outcome State Fault Refusal :=
  .next (s.onDev fun _ d => readDataOut stamp d)

/-- COMMIT_TIMER (R422). -/
def execCommitTimer (n : Fin 16) (s : State) : Host.Outcome State Fault Refusal :=
  .next (s.onDev fun c d => commitTimer c n d)

/-- INDEX_UNIT_WRITE (R422). -/
def execIndexUnitWrite (n : Fin 16) (swath slot pass : Nat) (s : State) : Host.Outcome State Fault Refusal
    :=
  .next (s.onDev fun c d => deckRow n (fun d => indexUnitWrite c n swath slot pass d) d)

/-- INDEX_UNIT_VERIFIED (R421). -/
def execIndexUnitVerified (n : Fin 16) (seq : Nat) (s : State) : Host.Outcome State Fault Refusal :=
  .next (s.onDev fun c d => deckRow n (fun d => if (d.deck n).unit.any (fun u => u.seq == seq) then
    indexUnitVerified c n d else d) d)

/-- FLUSH (R424). -/
def execFlush (stamp : Nat) (s : State) : Host.Outcome State Fault Refusal :=
  .next (s.onDev fun _ d => hostFlush stamp d)

/-- WRITE (R13). -/
def execWrite (stamp : Nat) (data : List Byte) (s : State) : Host.Outcome State Fault Refusal :=
  .next (s.onDev fun _ d => hostWrite .write stamp data d)

/-- READ (R419), with what comes about in it: DECK_WAKE (R364). -/
def execRead (stamp : Nat) (cid : Nat) (dram : List DramErr) (lost : List (Nat × Nat)) (s : State) :
    Host.Outcome State Fault Refusal :=
  .next (s.onDev fun c d => if d.sentBy cid stamp then hostRead c stamp (readsDram c stamp .read dram lost
    d)
  else d)

/-- COMPARE (R419). -/
def execCompare (stamp : Nat) (cid : Nat) (data : List Byte) (dram : List DramErr) (lost : List (Nat ×
    Nat)) (s : State) : Host.Outcome State Fault Refusal :=
  .next (s.onDev fun c d => if d.sentBy cid stamp then hostCompare c stamp data (readsDram c stamp .compare
    dram lost d) else d)

/-- VERIFY (R419). -/
def execVerify (stamp : Nat) (cid : Nat) (dram : List DramErr) (lost : List (Nat × Nat)) (s : State) :
    Host.Outcome State Fault Refusal :=
  .next (s.onDev fun c d => if d.sentBy cid stamp then hostVerify c stamp (readsDram c stamp .verify dram
    lost
  d) else d)

/-- ZONE_MANAGEMENT_SEND (R405). -/
def execZoneManagementSend (stamp : Nat) (action : Nat) (all : Bool) (s : State) : Host.Outcome State Fault
    Refusal :=
  .next (s.onDev fun _ d => zoneSend stamp action all d)

/-- ZONE_MANAGEMENT_RECEIVE (R405). -/
def execZoneManagementReceive (stamp : Nat) (state count : Nat) (s : State) : Host.Outcome State Fault
    Refusal :=
  .next (s.onDev fun _ d => zoneReceive stamp state count d)

/-- ZONE_APPEND (R418). -/
def execZoneAppend (stamp : Nat) (data : List Byte) (s : State) : Host.Outcome State Fault Refusal :=
  .next (s.onDev fun _ d => hostWrite .zoneAppend stamp data d)

/-- MIGRATE (R441). -/
def execMigrate (stamp : Nat) (cid : Nat) (recomp skipBad : Bool) (dram : List DramErr) (lost : List (Nat ×
    Nat)) (s : State) : Host.Outcome State Fault Refusal :=
  .next (s.onDev fun c d => if d.sentBy cid stamp then hostMigrate c stamp recomp skipBad (readsDram c stamp
     .migrate dram lost d) else d)

/-- READ_AS_OF (R439). -/
def execReadAsOf (stamp : Nat) (cid time : Nat) (dram : List DramErr) (lost : List (Nat × Nat)) (s : State)
    : Host.Outcome State Fault Refusal :=
  .next (s.onDev fun c d => if d.sentBy cid stamp then readAsOf c stamp time (readsDram c stamp .readAsOf
    dram
  lost d) else d)

/-- COMPRESS_JOB (R473). -/
def execCompressJob (stamp : Nat) (desc : List Byte) (o : JobObs) (s : State) : Host.Outcome State Fault
    Refusal :=
  .next (s.onDev fun c d => jobQueue c false stamp desc o d)

/-- DECOMPRESS_JOB (R474). -/
def execDecompressJob (stamp : Nat) (desc : List Byte) (o : JobObs) (s : State) : Host.Outcome State Fault
    Refusal :=
  .next (s.onDev fun c d => jobQueue c true stamp desc o d)

/-- CMP_JOB_START (R459). -/
def execCmpJobStart (stamp : Nat) (s : State) : Host.Outcome State Fault Refusal :=
  .next (s.onDev fun _ d => jobStart stamp d)

/-- SHEAF_FORWARD (R29). -/
def execSheafForward (m : SheafMsg) (s : State) : Host.Outcome State Fault Refusal :=
  .next (s.onDev fun c d => sheafForward c m d)

/-- CMP_JOB_END (R478). -/
def execCmpJobEnd (stamp : Nat) (reach : Bool) (dram : List DramErr) (s : State) : Host.Outcome State Fault
    Refusal :=
  .next (s.onDev fun c d => jobEnd c stamp reach dram d)

end Sys2Proof.Machine
end

