-- ==== Sys2Proof/Machine/ExecHostDeck.lean ====
section
/-! DEFINITION. Machine/ExecHostDeck.lean: the meanings of the commands of commands on discs (spec file 13). -/

namespace Sys2Proof.Machine

/-- MOUNT (R434), with what comes about in it: PRIMER_WRITE (R199). -/
def execMount (stamp : Nat) (h : Word) (init : Bool) (o : DiscObs) (s : State) : Host.Outcome State Fault
    Refusal :=
  .next (s.onDev fun c d => hostMount c stamp h.toNat init o d)

/-- UNMOUNT (R437). -/
def execUnmount (stamp : Nat) (h : Word) (force nopark : Bool) (s : State) : Host.Outcome State Fault
    Refusal :=
  .next (s.onDev fun c d => hostUnmount c stamp h.toNat force nopark d)

/-- SURVEY (R438). -/
def execSurvey (stamp : Nat) (h : Word) (layer first last : Nat) (found : List (List SurveyBlk)) (s :
    State) : Host.Outcome State Fault Refusal :=
  .next (s.onDev fun c d => hostSurvey c stamp h.toNat layer first last found d)

/-- LEDGER_READ (R652). -/
def execLedgerRead (stamp : Nat) (what start numd : Nat) (s : State) : Host.Outcome State Fault Refusal :=
  .next (s.onDev fun _ d => hostLedgerRead stamp what start numd d)

end Sys2Proof.Machine
end

