-- ==== Sys2Proof/Machine/ExecLanes.lean ====
section
/-! DEFINITION. Machine/ExecLanes.lean: the meanings of the commands of lanes, loops and spares (spec file 05). -/

namespace Sys2Proof.Machine

/-- LANE_LOOP_BLOCK (R120). -/
def execLaneLoopBlock (n : Fin 16) (l : Fin 66) (timing : Bool) (wedge pos : Nat) (prev : Int) (ys : List
    Int) (eq : List EqBit) (s : State) : Host.Outcome State Fault Refusal :=
  .next (s.onDev fun c d => laneRow n (fun d => if d.inGap c n wedge then laneLoopBlock n l timing pos prev
    ys
  (if timing then eqAdapt n l pos eq d else d) else d) d)

/-- WINNOW_WINDOW (R124). -/
def execWinnowWindow (n : Fin 16) (l : Fin 66) (wedge pos : Nat) (ys : List Int) (s : State) : Host.Outcome
    State Fault Refusal :=
  .next (s.onDev fun c d => laneRow n (fun d => if d.inGap c n wedge then winnowWindow c n l pos ys d else d)
    d)

/-- WINNOW_LONG_SPAN (R126). -/
def execWinnowLongSpan (n : Fin 16) (l : Fin 66) (s : State) : Host.Outcome State Fault Refusal :=
  .next (s.onDev fun _ d => laneRow n (fun d => winnowLongSpan n l d) d)

/-- REINIT (R145). -/
def execReinit (link : Fin 2) (n : Fin 16) (l : Fin 66) (s : State) : Host.Outcome State Fault Refusal :=
  .next (s.onDev fun c d => regRow c link (Reg.LANE_LOOP_CTL_REINIT n l).off (reinit n l) d)

/-- CLR_CNT (R145). -/
def execClrCnt (link : Fin 2) (n : Fin 16) (l : Fin 66) (s : State) : Host.Outcome State Fault Refusal :=
  .next (s.onDev fun c d => regRow c link (Reg.LANE_LOOP_CTL_REINIT n l).off (clrCnt n l) d)

/-- SHADOW (R132). -/
def execShadow (link : Fin 2) (n : Fin 16) (sp : Fin 2) (trig : Fin 64) (target : Fin 128) (s : State) :
    Host.Outcome State Fault Refusal :=
  .next (s.onDev fun c d => regRow c link (Reg.LANE_SPARE_CTL_TRIG n sp).off (spareShadow n sp trig target)
    d)

/-- SWAP (R132). -/
def execSwap (link : Fin 2) (n : Fin 16) (sp : Fin 2) (trig : Fin 64) (target : Fin 128) (s : State) :
    Host.Outcome State Fault Refusal :=
  .next (s.onDev fun c d => regRow c link (Reg.LANE_SPARE_CTL_TRIG n sp).off (spareSwap n sp trig target) d)

/-- SWAP_BACK (R132). -/
def execSwapBack (link : Fin 2) (n : Fin 16) (sp : Fin 2) (trig : Fin 64) (target : Fin 128) (s : State) :
    Host.Outcome State Fault Refusal :=
  .next (s.onDev fun c d => regRow c link (Reg.LANE_SPARE_CTL_TRIG n sp).off (spareSwapBack n sp trig target)
    d)

/-- RELEASE (R132). -/
def execRelease (link : Fin 2) (n : Fin 16) (sp : Fin 2) (trig : Fin 64) (target : Fin 128) (s : State) :
    Host.Outcome State Fault Refusal :=
  .next (s.onDev fun c d => regRow c link (Reg.LANE_SPARE_CTL_TRIG n sp).off (spareRelease n sp trig target)
    d)

/-- NATIVE_SHADOW (R132). -/
def execNativeShadow (link : Fin 2) (n : Fin 16) (sp : Fin 2) (trig : Fin 64) (target : Fin 128) (s :
    State) : Host.Outcome State Fault Refusal :=
  .next (s.onDev fun c d => regRow c link (Reg.LANE_SPARE_CTL_TRIG n sp).off (spareNativeShadow n sp trig
    target) d)

/-- SPARE_SWAP_AT_GUARD (R133). -/
def execSpareSwapAtGuard (n : Fin 16) (sp : Fin 2) (s : State) : Host.Outcome State Fault Refusal :=
  .next (s.onDev fun c d => laneRow n (fun d => tstSwapped c (spareSwapAtGuard n sp d)) d)

/-- LANE_STANDBY_EXIT (R130). -/
def execLaneStandbyExit (n : Fin 16) (l : Fin 66) (s : State) : Host.Outcome State Fault Refusal :=
  .next (s.onDev fun _ d => laneRow n (fun d => laneStandbyExit n l d) d)

end Sys2Proof.Machine
end

