-- ==== Sys2Proof/Machine/ExecMemory.lean ====
section
/-! DEFINITION. Machine/ExecMemory.lean: the meanings of the commands of DRAM and mapping cache (spec files 15, 16). -/

namespace Sys2Proof.Machine

/-- CMB_ACCESS (R504). -/
def execCmbAccess (wr : Bool) (off len : Nat) (data : List Byte) (dram : List DramErr) (s : State) :
    Host.Outcome State Fault Refusal :=
  if 2 ^ 30 < off + len then .fault .cmbOutside
  else .next (s.onDev fun c d => cmbAccess c wr off len data dram d)

/-- TRAIN (R492). -/
def execTrain (link : Fin 2) (s : State) : Host.Outcome State Fault Refusal :=
  .next (s.onDev fun c d => regRow c link Reg.MEM_CTL_TRAIN.off (memTrain) d)

/-- DRAM_TRAIN_DONE (R492). -/
def execDramTrainDone (o : TrainObs) (s : State) : Host.Outcome State Fault Refusal :=
  .next (s.onDev fun c d => dramTrainDone c o d)

/-- MEM_START (R518). -/
def execMemStart (link : Fin 2) (s : State) : Host.Outcome State Fault Refusal :=
  .next (s.onDev fun c d => regRow c link Reg.MEM_CTL_START.off (memStart c) d)

/-- RECENTER (R518). -/
def execRecenter (link : Fin 2) (centres : List CentreObs) (s : State) : Host.Outcome State Fault Refusal
    :=
  .next (s.onDev fun c d => regRow c link Reg.MEM_CTL_RECENTER.off (memRecentre c centres) d)

/-- RECENTER_TIMER (R493). -/
def execRecenterTimer (ch : Fin 8) (o : CentreObs) (s : State) : Host.Outcome State Fault Refusal :=
  .next (s.onDev fun c d => recentreTimer c ch o d)

/-- REFRESH_DUE (R495). -/
def execRefreshDue (ch : Fin 8) (rank : Fin 4) (prot : Bool) (s : State) : Host.Outcome State Fault Refusal
    :=
  .next (s.onDev fun _ d => refreshDue ch rank prot d)

/-- MAKEUP_REFRESH (R495). -/
def execMakeupRefresh (ch : Fin 8) (s : State) : Host.Outcome State Fault Refusal :=
  .next (s.onDev fun _ d => makeupRefresh ch d)

/-- CA_PARITY_ALERT (R498), with what comes about in it: CHANNEL_FAIL (R515). -/
def execCaParityAlert (ch : Fin 8) (done : Nat) (s : State) : Host.Outcome State Fault Refusal :=
  .next (s.onDev fun c d => caParityAlert c ch done d)

/-- RINSE_STEP (R510), with what comes about in it: DRAM_READ_ERROR (R503); RETIREMENT_POLICY (R512). -/
def execRinseStep (dram : List DramErr) (s : State) : Host.Outcome State Fault Refusal :=
  .next (s.onDev fun c d => rinseStep c dram d)

/-- RETIRE_PAGE (R511). -/
def execRetirePage (link : Fin 2) (page : Nat) (s : State) : Host.Outcome State Fault Refusal :=
  .next (s.onDev fun c d => regRow c link Reg.MEM_RET_CTL_PAGE.off (retirePage page) d)

/-- RETIREMENT_COPY_DONE (R511). -/
def execRetirementCopyDone (dst : Nat) (s : State) : Host.Outcome State Fault Refusal :=
  .next (s.onDev fun c d => retireCopied c dst d)

/-- DEV_MARK_WRITE (R507). -/
def execDevMarkWrite (link : Fin 2) (ch : Fin 8) (v : Word) (s : State) : Host.Outcome State Fault Refusal
    :=
  .next (s.onDev fun c d => regRow c link (0x500240 + 4 * ch.val) (devMarkWrite c ch v.toNat) d)

/-- FILL_START (R509). -/
def execFillStart (link : Fin 2) (s : State) : Host.Outcome State Fault Refusal :=
  .next (s.onDev fun c d => regRow c link Reg.MEM_FILL_CTL_START.off (fillStart) d)

/-- FILL_DONE (R509). -/
def execFillDone (s : State) : Host.Outcome State Fault Refusal :=
  .next (s.onDev fun _ d => bootFillDone d)

/-- CH_STS_CLR (R532). -/
def execChStsClr (link : Fin 2) (ch : Fin 8) (s : State) : Host.Outcome State Fault Refusal :=
  .next (s.onDev fun c d => regRow c link (Reg.MEM_CH_STS_CLR ch).off (chStsClr ch) d)

/-- CLEAN (R543). -/
def execClean (link : Fin 2) (scope : Fin 4) (way : Fin 16) (s : State) : Host.Outcome State Fault Refusal
    :=
  .next (s.onDev fun c d => regRow c link Reg.MC_MAINT_CTL_CMD.off (mcMaint 1 scope way) d)

/-- INVAL (R543). -/
def execInval (link : Fin 2) (scope : Fin 4) (way : Fin 16) (s : State) : Host.Outcome State Fault Refusal
    :=
  .next (s.onDev fun c d => regRow c link Reg.MC_MAINT_CTL_CMD.off (mcMaint 2 scope way) d)

/-- CLEAN_INVAL (R543). -/
def execCleanInval (link : Fin 2) (scope : Fin 4) (way : Fin 16) (s : State) : Host.Outcome State Fault
    Refusal :=
  .next (s.onDev fun c d => regRow c link Reg.MC_MAINT_CTL_CMD.off (mcMaint 3 scope way) d)

/-- MAINT_DONE (R543). -/
def execMaintDone (s : State) : Host.Outcome State Fault Refusal :=
  .next (s.onDev fun _ d => mcMaintDone d)

/-- MC_FILL_DONE (R537). -/
def execMcFillDone (evs : List McEv) (line : Nat) (half : Fin 2) (dram : List DramErr) (s : State) :
    Host.Outcome State Fault Refusal :=
  .next (s.onDev fun c d => mcFillDone c evs line half dram d)

/-- MC_SCRUB_STEP (R546). -/
def execMcScrubStep (errs : List McErr) (s : State) : Host.Outcome State Fault Refusal :=
  .next (s.onDev fun c d => mcScrubStep c errs d)

/-- MC_STS_CLR (R554). -/
def execMcStsClr (link : Fin 2) (s : State) : Host.Outcome State Fault Refusal :=
  .next (s.onDev fun c d => regRow c link Reg.MC_STS_CLR.off (mcStsClr) d)

end Sys2Proof.Machine
end

