-- ==== Sys2Proof/Machine/ExecPlait.lean ====
section
/-! DEFINITION. Machine/ExecPlait.lean: the meanings of the commands of the plait and the seam (spec files 02, 03). -/

namespace Sys2Proof.Machine

/-- PLAIT_LOAD (R40), with what comes about in it: PLAIT_VERIFY (R36). -/
def execPlaitLoad (stamp : Nat) (ofst : Nat) (piece : List Byte) (last : Bool) (dest : Fin 4) (select :
    Bool) (subtree : Word) (quiesce : Nat) (s : State) : Host.Outcome State Fault Refusal :=
  .next (s.onDev fun c d => plaitLoad c stamp ofst piece last dest select subtree.toNat quiesce d)

/-- PLAIT_LOAD_TIMEOUT (R40). -/
def execPlaitLoadTimeout (s : State) : Host.Outcome State Fault Refusal :=
  .next (s.onDev fun c d => plaitLoadTimeout c d)

/-- SUBTREE_RELOAD_APPLY (R42). -/
def execSubtreeReloadApply (s : State) : Host.Outcome State Fault Refusal :=
  .next (s.onDev fun c d => reloadDomains c d (subtreeReloadApply c d))

/-- RELOAD_QUIESCE_TIMEOUT (R42). -/
def execReloadQuiesceTimeout (s : State) : Host.Outcome State Fault Refusal :=
  .next (s.onDev fun c d => reloadQuiesceTimeout c d)

/-- SEAM_PORT_BRINGUP (R44). -/
def execSeamPortBringup (k : Fin 6) (locked : Nat) (peer : Option SeamPeer) (digest : List Byte) (auth :
    Option Bool) (routed : Bool) (reach : List (Nat × Nat × List Byte)) (s : State) : Host.Outcome State Fault
    Refusal :=
  .next (s.onDev fun c d => seamRow (fun d => seamBringup c k locked peer digest auth routed reach d) d)

/-- SEAM_RETRY_TIMER (R44). -/
def execSeamRetryTimer (k : Fin 6) (s : State) : Host.Outcome State Fault Refusal :=
  .next (s.onDev fun _ d => seamRow (fun d => seamRetry k d) d)

/-- SEAM_LANE_FAIL (R45). -/
def execSeamLaneFail (k : Fin 6) (s : State) : Host.Outcome State Fault Refusal :=
  .next (s.onDev fun c d => seamRow (fun d => seamLaneFail c k d) d)

/-- SEAM_MEMBER_UNREACHABLE (R45). -/
def execSeamMemberUnreachable (dev : Nat) (eth : Option (List Byte)) (s : State) : Host.Outcome State Fault
    Refusal :=
  .next (s.onDev fun _ d => seamUnreachable dev eth d)

end Sys2Proof.Machine
end

