-- ==== Sys2Proof/Machine/ExecPower.lean ====
section
/-! DEFINITION. Machine/ExecPower.lean: the meanings of the commands of power and boot (spec files 17, 18, 22). -/

namespace Sys2Proof.Machine

/-- IDLE_ENTRY (R560). -/
def execIdleEntry (s : State) : Host.Outcome State Fault Refusal :=
  .next (s.onDev fun c d => idleEntry c d)

/-- IDLE_EXIT (R560). -/
def execIdleExit (s : State) : Host.Outcome State Fault Refusal :=
  .next (s.onDev fun _ d => idleExit d)

/-- SLEEP_ENTRY (R561). -/
def execSleepEntry (s : State) : Host.Outcome State Fault Refusal :=
  .next (s.onDev fun _ d => sleepEntry d)

/-- SLEEP_EXIT (R562). -/
def execSleepExit (w : WakeCause) (bad : Bool) (l : List CentreObs) (s : State) : Host.Outcome State Fault
    Refusal :=
  .next (s.onDev fun c d => sleepExit c w bad l d)

/-- DEEP_ENTRY (R563). -/
def execDeepEntry (s : State) : Host.Outcome State Fault Refusal :=
  .next (s.onDev fun _ d => deepEntry d)

/-- DEEP_ENTRY_STEP (R563). -/
def execDeepEntryStep (s : State) : Host.Outcome State Fault Refusal :=
  .next (s.onDev fun c d => deepStep c d)

/-- DEEP_EXIT (R564). -/
def execDeepExit (w : WakeCause) (banks : Nat) (l : List CentreObs) (o : TrainObs) (s : State) :
    Host.Outcome State Fault Refusal :=
  .next (s.onDev fun c d => deepExit c w banks l o d)

/-- REQ_OFF (R566). -/
def execReqOff (link : Fin 2) (s : State) : Host.Outcome State Fault Refusal :=
  .next (s.onDev fun c d => regRow c link Reg.PWR_STATE_CTL_REQ_OFF.off (reqOff) d)

/-- WAKE_N (R567). -/
def execWakeN (b : BootObs) (s : State) : Host.Outcome State Fault Refusal :=
  .next (s.onBoth fun c d => wakeN b c d)

/-- DVFS_WRITE (R573). -/
def execDvfsWrite (link : Fin 2) (j : Fin 7) (v : Word) (s : State) : Host.Outcome State Fault Refusal :=
  .next (s.onDev fun c d => regRow c link (Reg.PWR_DVFS_CTL_F_OPP j).off (dvfsWrite j v.toNat) d)

/-- DVFS_CHANGE_DONE (R573). -/
def execDvfsChangeDone (j : Fin 7) (s : State) : Host.Outcome State Fault Refusal :=
  .next (s.onDev fun _ d => dvfsChangeDone j d)

/-- PAD_REL (R570). -/
def execPadRel (link : Fin 2) (v : BitVec 17) (s : State) : Host.Outcome State Fault Refusal :=
  .next (s.onDev fun c d => regRow c link Reg.PWR_PAD_REL_REL.off (padRel v.toNat) d)

/-- THERM_CLR (R590). -/
def execThermClr (link : Fin 2) (i : Fin 5) (s : State) : Host.Outcome State Fault Refusal :=
  .next (s.onDev fun c d => regRow c link (Reg.PWR_THERM_CLR i).off (thermClr i) d)

/-- GOVERNOR_PERIOD (R574). -/
def execGovernorPeriod (pin vin : Nat) (tj : List Int) (s : State) : Host.Outcome State Fault Refusal :=
  .next (s.onDev fun c d => governorPeriod c pin vin tj d)

/-- THERMAL_THROTTLE (R576). -/
def execThermalThrottle (i : Fin 5) (tj : Int) (s : State) : Host.Outcome State Fault Refusal :=
  .next (s.onDev fun c d => thermalThrottle c i tj d)

/-- THERMAL_SHUTDOWN (R577). -/
def execThermalShutdown (i : Fin 5) (tj : Int) (s : State) : Host.Outcome State Fault Refusal :=
  .next (s.onDev fun c d => thermalShutdown c i tj d)

/-- THERMAL_RESTART (R577). -/
def execThermalRestart (tj : List Int) (b : BootObs) (s : State) : Host.Outcome State Fault Refusal :=
  .next (s.onBoth fun c d => thermalRestart tj b c d)

/-- VIN_BROWNOUT (R556). -/
def execVinBrownout (vin : Nat) (s : State) : Host.Outcome State Fault Refusal :=
  .next (s.onBoth fun c d => vinBrownout vin c d)

/-- VIN_OVERVOLTAGE (R556). -/
def execVinOvervoltage (vin : Nat) (s : State) : Host.Outcome State Fault Refusal :=
  .next (s.onBoth fun c d => vinOvervoltage vin c d)

/-- POWER_ON_RESET (R658). -/
def execPowerOnReset (b : BootObs) (s : State) : Host.Outcome State Fault Refusal :=
  .next (s.onBoth fun c d => powerOnReset b c d)

/-- BOOT_READY (R658). -/
def execBootReady (fails : List (Nat × Nat)) (s : State) : Host.Outcome State Fault Refusal :=
  .next (s.onDev fun c d => bootReady c fails d)

/-- APST_TRANSITION (R559). -/
def execApstTransition (cid : Nat) (ps : Fin 5) (s : State) : Host.Outcome State Fault Refusal :=
  .next (s.onDev fun _ d => apstTransition cid ps d)

/-- VIN_OVERVOLTAGE_CLEAR (R556). -/
def execVinOvervoltageClear (vin : Nat) (b : BootObs) (s : State) : Host.Outcome State Fault Refusal :=
  .next (s.onBoth fun c d => vinOvervoltageClear vin b c d)

/-- BOUNDARY_SCAN_INSTRUCTION (R696). -/
def execBoundaryScanInstruction (i : Fin 8) (s : State) : Host.Outcome State Fault Refusal :=
  .next (s.onDev fun _ d => boundaryScan i d)

end Sys2Proof.Machine
end

