-- ==== Sys2Proof/Machine/ExecSecurity.lean ====
section
/-! DEFINITION. Machine/ExecSecurity.lean: the meanings of the commands of security and the ledger (spec files 20, 21). -/

namespace Sys2Proof.Machine

/-- SANITIZE (R640). -/
def execSanitize (stamp : Nat) (action : Fin 8) (s : State) : Host.Outcome State Fault Refusal :=
  .next (s.onDev fun c d => hostSanitize c stamp action d)

/-- SECURITY_SEND (R634). -/
def execSecuritySend (stamp : Nat) (proto : Fin 256) (r : SpdmReq) (s : State) : Host.Outcome State Fault
    Refusal :=
  .next (s.onDev fun c d => securitySend c stamp proto r d)

/-- SECURITY_RECEIVE (R634). -/
def execSecurityReceive (stamp : Nat) (proto : Fin 256) (len : Nat) (s : State) : Host.Outcome State Fault
    Refusal :=
  .next (s.onDev fun _ d => securityReceive stamp proto len d)

/-- SPDM_MESSAGE (R634). -/
def execSpdmMessage (transport : Fin 5) (owner : Nat) (r : SpdmReq) (s : State) : Host.Outcome State Fault
    Refusal :=
  .next (s.onDev fun c d => spdmMessage c transport owner r d)

/-- SPDM_HEARTBEAT_TIMEOUT (R634). -/
def execSpdmHeartbeatTimeout (sid : Nat) (s : State) : Host.Outcome State Fault Refusal :=
  .next (s.onDev fun c d => heartbeatTimeout c sid d)

/-- TAKE_OWNERSHIP (R628). -/
def execTakeOwnership (sid : Nat) (s : State) : Host.Outcome State Fault Refusal :=
  .next (s.onDev fun c d => takeOwnership c sid d)

/-- CUST_SET (R635). -/
def execCustSet (sid : Nat) (entry : Fin 4) (digest : Option (List Byte)) (s : State) : Host.Outcome State
    Fault Refusal :=
  .next (s.onDev fun c d => custSet c sid entry digest d)

/-- KEK_SET (R635). -/
def execKekSet (sid : Nat) (kid : Word) (kek : List Byte) (s : State) : Host.Outcome State Fault Refusal :=
  .next (s.onDev fun c d => kekSet c sid kid.toNat kek d)

/-- KEK_DESTROY (R640). -/
def execKekDestroy (sid : Nat) (kid : Word) (s : State) : Host.Outcome State Fault Refusal :=
  .next (s.onDev fun c d => kekDestroy c sid kid.toNat d)

/-- PSK_SET (R635). -/
def execPskSet (sid : Nat) (nqn ident : List Byte) (psk : Option (List Byte)) (s : State) : Host.Outcome
    State Fault Refusal :=
  .next (s.onDev fun c d => pskSet c sid nqn ident psk d)

/-- SLOT_SET (R632). -/
def execSlotSet (sid : Nat) (alg : Fin 2) (slot : Fin 8) (key : Option (List Byte)) (s : State) :
    Host.Outcome State Fault Refusal :=
  .next (s.onDev fun c d => slotSet c sid alg slot key d)

/-- SVN_RAISE (R633). -/
def execSvnRaise (sid : Nat) (kind : Fin 2) (v : Nat) (s : State) : Host.Outcome State Fault Refusal :=
  .next (s.onDev fun c d => svnRaise c sid kind v d)

/-- ZEROIZE (R642). -/
def execZeroize (sid : Nat) (s : State) : Host.Outcome State Fault Refusal :=
  .next (s.onDev fun c d => zeroizeReq c sid d)

/-- KAT_RUN (R641). -/
def execKatRun (sid : Nat) (fail : Option (Fin 8)) (s : State) : Host.Outcome State Fault Refusal :=
  .next (s.onDev fun c d => katRun c sid (fail.map Fin.val) d)

/-- ZERO_KEY_WRITE (R656). -/
def execZeroKeyWrite (link : Fin 2) (v : Byte) (s : State) : Host.Outcome State Fault Refusal :=
  .next (s.onDev fun c d => regRow c link Reg.SEC_ZERO_KEY.off (zeroKey c v.toNat) d)

/-- TAMPER (R643). -/
def execTamper (b : BootObs) (s : State) : Host.Outcome State Fault Refusal :=
  .next (s.onBoth fun c d => tamper b c d)

/-- TAMPER_CLEAR (R643). -/
def execTamperClear (link : Fin 2) (closed : Bool) (s : State) : Host.Outcome State Fault Refusal :=
  .next (s.onDev fun c d => regRow c link Reg.SEC_STS_TAMPER.off (tamperClear c closed) d)

/-- LEDGER_FLUSH (R647), with what comes about in it: LEDGER_CHECKPOINT (R648). -/
def execLedgerFlush (ok : Bool) (s : State) : Host.Outcome State Fault Refusal :=
  .next (s.onDev fun c d => ledgerFlush c ok d)

/-- ACK_SEQ_WRITE (R678). -/
def execAckSeqWrite (link : Fin 2) (v : Word) (s : State) : Host.Outcome State Fault Refusal :=
  .next (s.onDev fun c d => regRow c link Reg.FLT_ACK_SEQ_ACK_LO.off (ackSeqWrite v.toNat) d)

/-- RECORDS_LOST_INTERVAL (R670). -/
def execRecordsLostInterval (s : State) : Host.Outcome State Fault Refusal :=
  .next (s.onDev fun c d => recordsLost c d)

/-- ENTROPY_HEALTH_FAIL (R641). -/
def execEntropyHealthFail (s : State) : Host.Outcome State Fault Refusal :=
  .next (s.onDev fun c d => entropyFail c d)

end Sys2Proof.Machine
end

