-- ==== Sys2Proof/Machine/ExecSequencer.lean ====
section
/-! DEFINITION. Machine/ExecSequencer.lean: the meanings of the commands of the deck sequencer (spec file 11). -/

namespace Sys2Proof.Machine

/-- LOAD (R357). -/
def execLoad (link : Fin 2) (n : Fin 16) (layer : Fin 32) (low : Bool) (s : State) : Host.Outcome State
    Fault Refusal :=
  .next (s.onDev fun c d => regRow c link (Reg.SEQ_CTL_CMD n).off ((fun d => seqLoad c n layer (low ||
    (d.deck
  n).seq.clampLow) d)) d)

/-- PARK (R363). -/
def execPark (link : Fin 2) (n : Fin 16) (s : State) : Host.Outcome State Fault Refusal :=
  .next (s.onDev fun c d => regRow c link (Reg.SEQ_CTL_CMD n).off (seqPark c n) d)

/-- RECOVER (R366). -/
def execRecover (link : Fin 2) (n : Fin 16) (layer : Fin 32) (s : State) : Host.Outcome State Fault Refusal
    :=
  .next (s.onDev fun c d => regRow c link (Reg.SEQ_CTL_CMD n).off (seqRecover c n layer) d)

/-- REL_SPN (R367). -/
def execRelSpn (link : Fin 2) (n : Fin 16) (v : Bool) (s : State) : Host.Outcome State Fault Refusal :=
  .next (s.onDev fun c d => regRow c link (Reg.SEQ_CTL_CMD n).off (relSpn n v) d)

/-- REL_SLD (R367). -/
def execRelSld (link : Fin 2) (n : Fin 16) (v : Bool) (s : State) : Host.Outcome State Fault Refusal :=
  .next (s.onDev fun c d => regRow c link (Reg.SEQ_CTL_CMD n).off (relSld n v) d)

/-- CLAMP_CLOSE (R355). -/
def execClampClose (n : Fin 16) (s : State) : Host.Outcome State Fault Refusal :=
  .next (s.onDev fun _ d => clampRow n (fun d => if noLoopEngine d n then d else clampClose n d) d)

/-- CLAMP_OPEN (R355). -/
def execClampOpen (n : Fin 16) (s : State) : Host.Outcome State Fault Refusal :=
  .next (s.onDev fun c d => clampRow n (fun d => clampOpen c n d) d)

/-- CLAMP_OPEN_SPINNING (R366). -/
def execClampOpenSpinning (n : Fin 16) (s : State) : Host.Outcome State Fault Refusal :=
  .next (s.onDev fun c d => deckRow n (fun d => clampOpenSpinning c n d) d)

/-- FOCUS_SWEEP_START (R358). -/
def execFocusSweepStart (n : Fin 16) (s : State) : Host.Outcome State Fault Refusal :=
  .next (s.onDev fun c d => deckRow n (fun d => focusSweepStart c n d) d)

/-- FOCUS_SWEEP_END (R358). -/
def execFocusSweepEnd (n : Fin 16) (s : State) : Host.Outcome State Fault Refusal :=
  .next (s.onDev fun c d => deckRow n (fun d => focusSweepEnd c n d) d)

/-- FOCUS_CAPTURE (R358). -/
def execFocusCapture (n : Fin 16) (peaks : List SumPeak) (travel : Int) (s : State) : Host.Outcome State
    Fault Refusal :=
  .next (s.onDev fun c d => deckRow n (fun d => focusCapture c n peaks travel d) d)

/-- LAYER_IDENTIFIED (R359). -/
def execLayerIdentified (n : Fin 16) (fields : List Nat) (s : State) : Host.Outcome State Fault Refusal :=
  .next (s.onDev fun c d => deckRow n (fun d => layerIdentified c n fields d) d)

/-- TRACK_CAPTURE (R360). -/
def execTrackCapture (n : Fin 16) (x : Crossing) (s : State) : Host.Outcome State Fault Refusal :=
  .next (s.onDev fun c d => deckRow n (fun d => trackCapture c n x d) d)

/-- SEQ_TIMEOUT (R355). -/
def execSeqTimeout (n : Fin 16) (s : State) : Host.Outcome State Fault Refusal :=
  .next (s.onDev fun c d => deckRow n (fun d => seqTimeout c n d) d)

/-- IDLE_TIMER (R364). -/
def execIdleTimer (n : Fin 16) (s : State) : Host.Outcome State Fault Refusal :=
  .next (s.onDev fun c d => deckRow n (fun d => idleTimer c n d) d)

/-- SHOCK_WINDOW_END (R365). -/
def execShockWindowEnd (n : Fin 16) (s : State) : Host.Outcome State Fault Refusal :=
  .next (s.onDev fun _ d => deckRow n (fun d => shockWindowEnd n d) d)

/-- ZONE_CHANGE (R362). -/
def execZoneChange (n : Fin 16) (swath : Nat) (s : State) : Host.Outcome State Fault Refusal :=
  .next (s.onDev fun c d => deckRow n (fun d => zoneChange c n swath d) d)

/-- SPIN_CHARGE_GRANT (R369). -/
def execSpinChargeGrant (n : Fin 16) (s : State) : Host.Outcome State Fault Refusal :=
  .next (s.onDev fun _ d => deckRow n (fun d => spinChargeGrant n d) d)

/-- SHOCK_CLEAR (R212). -/
def execShockClear (n : Fin 16) (level : Nat) (s : State) : Host.Outcome State Fault Refusal :=
  .next (s.onDev fun c d => deckRow n (fun d => shockClear c n level d) d)

end Sys2Proof.Machine
end

