-- ==== Sys2Proof/Machine/ExecServo.lean ====
section
/-! DEFINITION. Machine/ExecServo.lean: the meanings of the commands of the servo loops (spec file 08). -/

namespace Sys2Proof.Machine

/-- LOOP_SUBSAMPLE (R236). -/
def execLoopSubsample (n : Fin 16) (m : Nat) (o : ServoObs) (s : State) : Host.Outcome State Fault Refusal
    :=
  .next (s.onDev fun c d => deckRow n (fun d => loopSubsample c n m ⟨o, {}⟩ d) d)

/-- FREE_RUN_SAMPLE (R237). -/
def execFreeRunSample (n : Fin 16) (o : ServoObs) (s : State) : Host.Outcome State Fault Refusal :=
  .next (s.onDev fun c d => deckRow n (fun d => freeRunSample c n ⟨o, {}⟩ d) d)

/-- SLOT_MODE_WRITE (R247). -/
def execSlotModeWrite (link : Fin 2) (n : Fin 16) (k : Fin 8) (mode : Fin 8) (s : State) : Host.Outcome
    State Fault Refusal :=
  .next (s.onDev fun c d => regRow c link (Reg.LOOP_SLOT_CTL_MODE n k).off (slotModeWrite n k mode) d)

/-- CF_DATA_WRITE (R249). -/
def execCfDataWrite (link : Fin 2) (n : Fin 16) (v : Word) (s : State) : Host.Outcome State Fault Refusal
    :=
  .next (s.onDev fun c d => regRow c link (Reg.LOOP_CF_DATA_DATA n).off (cfDataWrite n v.toNat) d)

/-- BANK_SWAP_REQ (R250). -/
def execBankSwapReq (link : Fin 2) (n : Fin 16) (k : Fin 8) (trig : Fin 64) (atTrig clr : Bool) (s : State)
    : Host.Outcome State Fault Refusal :=
  .next (s.onDev fun c d => regRow c link (Reg.LOOP_BANK_REQ n k).off (bankSwapReq n k trig atTrig clr) d)

/-- BANK_SWAP_CANCEL (R251). -/
def execBankSwapCancel (link : Fin 2) (n : Fin 16) (k : Fin 8) (s : State) : Host.Outcome State Fault
    Refusal :=
  .next (s.onDev fun c d => regRow c link (Reg.LOOP_BANK_REQ n k).off (bankSwapCancel n k) d)

/-- PROF_MOVE (R253). -/
def execProfMove (link : Fin 2) (n : Fin 16) (k : Fin 8) (rel : Bool) (s : State) : Host.Outcome State
    Fault Refusal :=
  .next (s.onDev fun c d => regRow c link (Reg.LOOP_PROF_CTL_CMD n k).off (profMove c n k rel) d)

/-- PROF_JUMP (R253). -/
def execProfJump (link : Fin 2) (n : Fin 16) (k : Fin 8) (layer : Fin 32) (rel : Bool) (s : State) :
    Host.Outcome State Fault Refusal :=
  .next (s.onDev fun c d => regRow c link (Reg.LOOP_PROF_CTL_CMD n k).off (profJump c n k layer rel) d)

/-- PROF_SEEK (R253). -/
def execProfSeek (link : Fin 2) (n : Fin 16) (k : Fin 8) (rel : Bool) (s : State) : Host.Outcome State
    Fault Refusal :=
  .next (s.onDev fun c d => regRow c link (Reg.LOOP_PROF_CTL_CMD n k).off (profSeek c n k rel) d)

/-- PROF_STOP (R253). -/
def execProfStop (link : Fin 2) (n : Fin 16) (k : Fin 8) (s : State) : Host.Outcome State Fault Refusal :=
  .next (s.onDev fun c d => regRow c link (Reg.LOOP_PROF_CTL_CMD n k).off (profStopCmd n k) d)

/-- PROFILE_END (R253). -/
def execProfileEnd (n : Fin 16) (k : Fin 8) (restAt : Int) (s : State) : Host.Outcome State Fault Refusal
    :=
  .next (s.onDev fun c d => deckRow n (fun d => profileEnd c n k restAt d) d)

/-- LEARN (R246). -/
def execLearn (link : Fin 2) (n : Fin 16) (k : Fin 8) (s : State) : Host.Outcome State Fault Refusal :=
  .next (s.onDev fun c d => regRow c link (Reg.LOOP_FF_CTL_LEARN n k).off (learnWrite n k) d)

/-- FF_CLEAR (R277). -/
def execFfClear (link : Fin 2) (n : Fin 16) (k : Fin 8) (s : State) : Host.Outcome State Fault Refusal :=
  .next (s.onDev fun c d => regRow c link (Reg.LOOP_FF_CTL_LEARN n k).off (ffClear n k) d)

/-- SAFE_RELEASE (R263). -/
def execSafeRelease (link : Fin 2) (n : Fin 16) (s : State) : Host.Outcome State Fault Refusal :=
  .next (s.onDev fun c d => regRow c link (Reg.LOOP_ENG_STS_SAFE n).off (safeRelease c n) d)

/-- V12_RAIL_CHANGE (R285). -/
def execV12RailChange (n : Fin 16) (tenths : Nat) (s : State) : Host.Outcome State Fault Refusal :=
  .next (s.onDev fun _ d => deckRow n (fun d => v12RailChange n tenths d) d)

end Sys2Proof.Machine
end

