-- ==== Sys2Proof/Machine/ExecSled.lean ====
section
/-! DEFINITION. Machine/ExecSled.lean: the meanings of the commands of the sled (spec file 10). -/

namespace Sys2Proof.Machine

/-- SLD_MOVE (R330). -/
def execSldMove (link : Fin 2) (n : Fin 16) (rel : Bool) (s : State) : Host.Outcome State Fault Refusal :=
  .next (s.onDev fun c d => regRow c link (Reg.SLD_CMD_CMD n).off (sldCmd c n 1 rel) d)

/-- SLD_VEL (R330). -/
def execSldVel (link : Fin 2) (n : Fin 16) (s : State) : Host.Outcome State Fault Refusal :=
  .next (s.onDev fun c d => regRow c link (Reg.SLD_CMD_CMD n).off (sldCmd c n 2 false) d)

/-- SLD_STOP (R330). -/
def execSldStop (link : Fin 2) (n : Fin 16) (s : State) : Host.Outcome State Fault Refusal :=
  .next (s.onDev fun c d => regRow c link (Reg.SLD_CMD_CMD n).off (sldCmd c n 3 false) d)

/-- SLD_FOLLOW (R330). -/
def execSldFollow (link : Fin 2) (n : Fin 16) (s : State) : Host.Outcome State Fault Refusal :=
  .next (s.onDev fun c d => regRow c link (Reg.SLD_CMD_CMD n).off (sldCmd c n 4 false) d)

/-- SLD_SET_POS (R330). -/
def execSldSetPos (link : Fin 2) (n : Fin 16) (s : State) : Host.Outcome State Fault Refusal :=
  .next (s.onDev fun c d => regRow c link (Reg.SLD_CMD_CMD n).off (sldCmd c n 5 false) d)

/-- SLD_DISABLE (R330). -/
def execSldDisable (link : Fin 2) (n : Fin 16) (s : State) : Host.Outcome State Fault Refusal :=
  .next (s.onDev fun c d => regRow c link (Reg.SLD_CMD_CMD n).off (sldCmd c n 6 false) d)

/-- SLED_AT_REST (R335). -/
def execSledAtRest (n : Fin 16) (s : State) : Host.Outcome State Fault Refusal :=
  .next (s.onDev fun c d => deckRow n (fun d => parkSled c n (sledAtRest c n d)) d)

/-- SLED_STANDSTILL (R335). -/
def execSledStandstill (n : Fin 16) (s : State) : Host.Outcome State Fault Refusal :=
  .next (s.onDev fun _ d => deckRow n (fun d => sledStandstill n d) d)

/-- SLED_BEMF_MEASURE (R336), with what comes about in it: SLED_STALL (R338). -/
def execSledBemfMeasure (n : Fin 16) (emf : Int) (s : State) : Host.Outcome State Fault Refusal :=
  .next (s.onDev fun c d => deckRow n (fun d => sledBemfMeasure c n emf d) d)

/-- REHOME_STEP (R340). -/
def execRehomeStep (n : Fin 16) (p track : Option Nat) (s : State) : Host.Outcome State Fault Refusal :=
  .next (s.onDev fun c d => deckRow n (fun d => rehomeStep c n p track d) d)

/-- REHOME_TIMEOUT (R340). -/
def execRehomeTimeout (n : Fin 16) (s : State) : Host.Outcome State Fault Refusal :=
  .next (s.onDev fun c d => deckRow n (fun d => rehomeTimeout c n d) d)

/-- SLED_PROFILE_PERIOD (R329). -/
def execSledProfilePeriod (n : Fin 16) (peak : Option Nat) (s : State) : Host.Outcome State Fault Refusal
    :=
  .next (s.onDev fun c d => deckRow n (fun d => sledProfilePeriod c n peak d) d)

end Sys2Proof.Machine
end

