-- ==== Sys2Proof/Machine/ExecSpindle.lean ====
section
/-! DEFINITION. Machine/ExecSpindle.lean: the meanings of the commands of spindle and motor supply (spec file 09). -/

namespace Sys2Proof.Machine

/-- SPN_START (R302). -/
def execSpnStart (link : Fin 2) (n : Fin 16) (rpm : Fin 65536) (s : State) : Host.Outcome State Fault
    Refusal :=
  .next (s.onDev fun c d => regRow c link (Reg.SPN_CMD_CMD n).off ((fun d => spnSoft n d (spnStart n rpm)))
    d)

/-- SPN_STOP (R302). -/
def execSpnStop (link : Fin 2) (n : Fin 16) (method : Fin 4) (s : State) : Host.Outcome State Fault Refusal
    :=
  .next (s.onDev fun c d => regRow c link (Reg.SPN_CMD_CMD n).off ((fun d => spnSoft n d (spnStop n method)))
    d)

/-- SPN_COAST (R302). -/
def execSpnCoast (link : Fin 2) (n : Fin 16) (s : State) : Host.Outcome State Fault Refusal :=
  .next (s.onDev fun c d => regRow c link (Reg.SPN_CMD_CMD n).off ((fun d => spnSoft n d (spnCoast n))) d)

/-- SPN_SET_SPEED (R302). -/
def execSpnSetSpeed (link : Fin 2) (n : Fin 16) (rpm : Fin 65536) (s : State) : Host.Outcome State Fault
    Refusal :=
  .next (s.onDev fun c d => regRow c link (Reg.SPN_CMD_CMD n).off ((fun d => spnSoft n d (spnSetSpeed n
    rpm)))
  d)

/-- SPINDLE_OC (R288), with what comes about in it: FAULT_RECORD (R667); VENDOR_ASYNC_EVENT (R673). -/
def execSpindleOc (n : Fin 16) (i : List Int) (s : State) : Host.Outcome State Fault Refusal :=
  .next (s.onDev fun c d => deckRow n (fun d => seqPoll c n (spindleOc c n i d)) d)

/-- SPINDLE_LISTEN_END (R297). -/
def execSpindleListenEnd (n : Fin 16) (amp : Nat) (rpm : Int) (angle : Nat) (ofs : OfsObs) (s : State) :
    Host.Outcome State Fault Refusal :=
  .next (s.onDev fun c d => deckRow n (fun d => seqPoll c n (spindleListenEnd n amp rpm angle (listenOffsets
    c
  n ofs d))) d)

/-- SPINDLE_PROBE_DONE (R294). -/
def execSpindleProbeDone (n : Fin 16) (peaks : List Nat) (s : State) : Host.Outcome State Fault Refusal :=
  .next (s.onDev fun c d => deckRow n (fun d => seqPoll c n (spindleProbeDone n peaks d)) d)

/-- SPINDLE_ALIGN_END (R293). -/
def execSpindleAlignEnd (n : Fin 16) (s : State) : Host.Outcome State Fault Refusal :=
  .next (s.onDev fun c d => deckRow n (fun d => seqPoll c n (spindleAlignEnd n d)) d)

/-- SPINDLE_HANDOVER (R296). -/
def execSpindleHandover (n : Fin 16) (s : State) : Host.Outcome State Fault Refusal :=
  .next (s.onDev fun c d => deckRow n (fun d => seqPoll c n (spindleHandover n d)) d)

/-- SPINDLE_STALL (R296). -/
def execSpindleStall (n : Fin 16) (s : State) : Host.Outcome State Fault Refusal :=
  .next (s.onDev fun c d => deckRow n (fun d => seqPoll c n (spindleStall n d)) d)

/-- SPINDLE_SHORT_END (R298). -/
def execSpindleShortEnd (n : Fin 16) (ofs : OfsObs) (s : State) : Host.Outcome State Fault Refusal :=
  .next (s.onDev fun c d => deckRow n (fun d => enterLoaded c n ofs d (seqPoll c n (spindleShortEnd n d))) d)

/-- SPINDLE_REGEN_HANDOFF (R299). -/
def execSpindleRegenHandoff (n : Fin 16) (s : State) : Host.Outcome State Fault Refusal :=
  .next (s.onDev fun c d => deckRow n (fun d => seqPoll c n (spindleRegenHandoff n d)) d)

/-- OBSERVER_LOST (R291). -/
def execObserverLost (n : Fin 16) (s : State) : Host.Outcome State Fault Refusal :=
  .next (s.onDev fun c d => deckRow n (fun d => seqPoll c n (observerLost n d)) d)

/-- SPINDLE_TARGET_REACHED (R302), with what comes about in it: SPIN_CHARGE_RELEASE (R368). -/
def execSpindleTargetReached (n : Fin 16) (s : State) : Host.Outcome State Fault Refusal :=
  .next (s.onDev fun c d => deckRow n (fun d => seqPoll c n (spindleTargetReached n d)) d)

/-- VM_UNDERVOLTAGE (R304). -/
def execVmUndervoltage (vm : Nat) (s : State) : Host.Outcome State Fault Refusal :=
  .next (s.onDev fun c d => (vmUndervoltage c vm d).wakeBy Reg.PWR_WAKE_STS_FAULT)

/-- VM_UV_RECOVER (R304). -/
def execVmUvRecover (vm : Nat) (s : State) : Host.Outcome State Fault Refusal :=
  .next (s.onDev fun _ d => vmUvRecover vm d)

/-- BRK_ON (R304). -/
def execBrkOn (vm : Nat) (s : State) : Host.Outcome State Fault Refusal :=
  .next (s.onDev fun _ d => brkOn vm d)

/-- BRK_OFF (R304). -/
def execBrkOff (vm : Nat) (s : State) : Host.Outcome State Fault Refusal :=
  .next (s.onDev fun _ d => brkOff vm d)

/-- BRAKE_FAULT (R306). -/
def execBrakeFault (vm sense : Nat) (s : State) : Host.Outcome State Fault Refusal :=
  .next (s.onDev fun c d => ((brakeFault c vm sense d).inhibitLatched).wakeBy Reg.PWR_WAKE_STS_FAULT)

/-- VM_ABS (R307). -/
def execVmAbs (vm : Nat) (s : State) : Host.Outcome State Fault Refusal :=
  .next (s.onDev fun c d => ((vmAbs c vm d).inhibitLatched).wakeBy Reg.PWR_WAKE_STS_FAULT)

/-- BRAKE_FAULT_CLEAR (R308). -/
def execBrakeFaultClear (link : Fin 2) (s : State) : Host.Outcome State Fault Refusal :=
  .next (s.onDev fun c d => regRow c link Reg.PWR_VM_STS_BRAKE_FAULT.off (brakeFaultClear) d)

/-- BRAKE_TEST_END (R308). -/
def execBrakeTestEnd (sense : Nat) (s : State) : Host.Outcome State Fault Refusal :=
  .next (s.onDev fun c d => brakeTestEnd c sense d)

/-- VM_ABS_CLEAR (R308). -/
def execVmAbsClear (link : Fin 2) (s : State) : Host.Outcome State Fault Refusal :=
  .next (s.onDev fun c d => regRow c link Reg.PWR_VM_STS_VM_ABS.off (vmAbsClear c) d)

/-- PWM_PERIOD (R300). -/
def execPwmPeriod (n : Fin 16) (vm : Nat) (id iq rpm : Int) (shunt : ShuntObs) (s : State) : Host.Outcome
    State Fault Refusal :=
  .next (s.onDev fun c d => deckRow n (fun d => primerTurn c n (seqPoll c n (pwmPeriod n vm id iq rpm shunt
    d))) d)

/-- VM_WINDOW_CROSSING (R211). -/
def execVmWindowCrossing (n : Fin 16) (vm : Nat) (s : State) : Host.Outcome State Fault Refusal :=
  .next (s.onDev fun c d => deckRow n (fun d => vmWindowCrossing c n vm d) d)

end Sys2Proof.Machine
end

