-- ==== Sys2Proof/Machine/ExecTest.lean ====
section
/-! DEFINITION. Machine/ExecTest.lean: the meanings of the commands of self-test (spec file 19). -/

namespace Sys2Proof.Machine

/-- TEST_PASS_DUE (R594). -/
def execTestPassDue (u : Fin 16384) (cal : Bool) (s : State) : Host.Outcome State Fault Refusal :=
  .next (s.onDev fun c d => testPassDue c u cal d)

/-- SLICE_END (R593), with what comes about in it: LANE_CALIBRATION (R603). -/
def execSliceEnd (u : Fin 16384) (sig : BitVec 64) (o : CalObs) (voids : Nat) (s : State) : Host.Outcome
    State Fault Refusal :=
  .next (s.onDev fun c d => sliceEnd c u sig.toNat o voids d)

/-- SHADOW_COMPARE_DONE (R596). -/
def execShadowCompareDone (u : Fin 16384) (dis cnt revs voids : Nat) (s : State) : Host.Outcome State Fault
    Refusal :=
  .next (s.onDev fun c d => shadowCompareDone c u dis cnt revs voids d)

/-- LOCKSTEP_DONE (R600). -/
def execLockstepDone (n : Fin 16) (bad voids : Nat) (s : State) : Host.Outcome State Fault Refusal :=
  .next (s.onDev fun c d => lockstepDone c n bad voids d)

/-- TST_TEST (R614). -/
def execTstTest (link : Fin 2) (u : Fin 16384) (s : State) : Host.Outcome State Fault Refusal :=
  .next (s.onDev fun c d => regRow c link Reg.TST_CMD_OP.off (tstCmd u false) d)

/-- TST_CAL (R614). -/
def execTstCal (link : Fin 2) (u : Fin 16384) (s : State) : Host.Outcome State Fault Refusal :=
  .next (s.onDev fun c d => regRow c link Reg.TST_CMD_OP.off (tstCmd u true) d)

/-- BURN (R607). -/
def execBurn (link : Fin 2) (index : Fin 16384) (reason : Fin 256) (voids : Nat) (s : State) : Host.Outcome
    State Fault Refusal :=
  .next (s.onDev fun c d => regRow c link Reg.TST_FROW_CTL_BURN.off (burnWrite c index reason voids) d)

end Sys2Proof.Machine
end

