-- ==== Sys2Proof/Machine/ExecWrite.lean ====
section
/-! DEFINITION. Machine/ExecWrite.lean: the meanings of the commands of writing, verification and the laser link (spec file 07). -/

namespace Sys2Proof.Machine

/-- WRITE_PASS_START (R196). -/
def execWritePassStart (n : Fin 16) (layer swath pass : Nat) (dram : List DramErr) (lost : List (Nat ×
    Nat)) (s : State) : Host.Outcome State Fault Refusal :=
  .next (s.onDev fun c d => deckRow n (fun d => if d.get (Reg.SEQ_STS_LAYER n) = layer then passMedia n
    (writePassStart c n swath pass (writesLost c lost (d.dramErrors c rqWRITE dram))) else d) d)

/-- SECTOR_VERIFY_DONE (R213), with what comes about in it: DISTURBED_SECTOR (R217). -/
def execSectorVerifyDone (n : Fin 16) (e : Fin 16) (slot : Nat) (v : VerifyObs) (s : State) : Host.Outcome
    State Fault Refusal :=
  .next (s.onDev fun c d => deckRow n (fun d => (sectorVerifyDone c n e slot v d).inhibitLatched) d)

/-- WRITE_PASS_END (R214), with what comes about in it: WEAK_BLOCK (R216); OPC_RESULT (R220). -/
def execWritePassEnd (n : Fin 16) (swath pass : Nat) (s : State) : Host.Outcome State Fault Refusal :=
  .next (s.onDev fun c d => deckRow n (fun d => if (d.deck n).passOf swath pass then writePassEnd c n d else
    d)
  d)

/-- OPC_RUN (R219). -/
def execOpcRun (n : Fin 16) (found : Nat) (s : State) : Host.Outcome State Fault Refusal :=
  .next (s.onDev fun c d => deckRow n (fun d => opcRun n found c d) d)

/-- LASER_TX_FRAME (R202). -/
def execLaserTxFrame (n : Fin 16) (seq : Nat) (dram : List DramErr) (lost : List (Nat × Nat)) (s : State) :
    Host.Outcome State Fault Refusal :=
  .next (s.onDev fun c d => deckRow n (fun d => if (d.deck n).link.txSeq = seq then laserTxFrame c n
    (writesLost c lost (d.dramErrors c rqWRITE dram)) else d) d)

/-- LASER_RX_FRAME (R203). -/
def execLaserRxFrame (n : Fin 16) (syms : List Nat) (ofs : OfsObs) (s : State) : Host.Outcome State Fault
    Refusal :=
  .next (s.onDev fun c d => deckRow n (fun d => enterLoaded c n ofs d (laserRxFrame c n syms d)) d)

/-- CAP (R207). -/
def execCap (n : Fin 16) (tag : Nat) (p : List Byte) (s : State) : Host.Outcome State Fault Refusal :=
  .next (s.onDev fun _ d => deckRow n (fun d => capMsg n tag p d) d)

/-- TABLE_DATA (R207). -/
def execTableData (n : Fin 16) (tag : Nat) (p : List Byte) (s : State) : Host.Outcome State Fault Refusal
    :=
  .next (s.onDev fun _ d => deckRow n (fun d => tableData n tag p d) d)

/-- ACK (R207). -/
def execAck (n : Fin 16) (tag result : Nat) (ofs : OfsObs) (s : State) : Host.Outcome State Fault Refusal
    :=
  .next (s.onDev fun c d => deckRow n (fun d => enterLoaded c n ofs d (ackMsg c n tag result d)) d)

/-- FAULT (R207). -/
def execFault (n : Fin 16) (mask code : Nat) (s : State) : Host.Outcome State Fault Refusal :=
  .next (s.onDev fun c d => deckRow n (fun d => faultMsg c n mask code d) d)

/-- LINK_MSG_TIMEOUT (R207). -/
def execLinkMsgTimeout (n : Fin 16) (s : State) : Host.Outcome State Fault Refusal :=
  .next (s.onDev fun c d => deckRow n (fun d => linkMsgTimeout c n d) d)

/-- LINK_RX_LOSS (R210). -/
def execLinkRxLoss (n : Fin 16) (s : State) : Host.Outcome State Fault Refusal :=
  .next (s.onDev fun _ d => deckRow n (fun d => linkRxLoss n d) d)

/-- LINK_BRINGUP (R209), with what comes about in it: SERVO_OFFSET_MEASURE (R605). -/
def execLinkBringup (n : Fin 16) (ok : Bool) (ofs : OfsObs) (s : State) : Host.Outcome State Fault Refusal
    :=
  .next (s.onDev fun c d => deckRow n (fun d => if noLoopEngine d n then d else enterLoaded c n ofs d
    (linkBringup c n ok d)) d)

/-- LINK_RETRY_TIMER (R209). -/
def execLinkRetryTimer (n : Fin 16) (s : State) : Host.Outcome State Fault Refusal :=
  .next (s.onDev fun c d => deckRow n (fun d => linkRetryTimer c n d) d)

/-- SHOCK_CROSSING (R211), with what comes about in it: GATE_CLOSE (R211); KILL_SEQUENCE (R206). -/
def execShockCrossing (n : Fin 16) (level : Nat) (s : State) : Host.Outcome State Fault Refusal :=
  .next (s.onDev fun _ d => deckRow n (fun d => shockCrossing n level d) d)

/-- GATE_REOPEN (R212). -/
def execGateReopen (n : Fin 16) (s : State) : Host.Outcome State Fault Refusal :=
  .next (s.onDev fun c d => deckRow n (fun d => gateReopen c n d) d)

/-- WRITE_INHIBIT_TIMEOUT (R218). -/
def execWriteInhibitTimeout (n : Fin 16) (s : State) : Host.Outcome State Fault Refusal :=
  .next (s.onDev fun c d => deepInhibit c n (deckRow n (fun d => writeInhibitTimeout c n d) d))

/-- FORCE_DOWN (R222). -/
def execForceDown (link : Fin 2) (n : Fin 16) (v : Bool) (s : State) : Host.Outcome State Fault Refusal :=
  .next (s.onDev fun c d => regRow c link (Reg.WRP_LINK_CFG_FORCE_DOWN n).off (forceDown n v) d)

/-- VFY_CLR (R233). -/
def execVfyClr (link : Fin 2) (n : Fin 16) (s : State) : Host.Outcome State Fault Refusal :=
  .next (s.onDev fun c d => regRow c link (Reg.WRP_VFY_CLR_CLR n).off (vfyClr n) d)

end Sys2Proof.Machine
end

