-- ==== Sys2Proof/Machine/Dispatch.lean ====
section
/-! DEFINITION. Machine/Dispatch.lean: one arm per command, each a direct call of its meaning. -/

namespace Sys2Proof.Machine

/-- The effect of a command on everything but the queue. -/
def exec (i : Instr) (s : State) : Host.Outcome State Fault Refusal :=
  match i with
  | .regWrite link off width v o => Sys2Proof.Machine.execRegWrite link off width v o s
  | .snapGrainRead link n => Sys2Proof.Machine.execSnapGrainRead link n s
  | .tickLoRead link => Sys2Proof.Machine.execTickLoRead link s
  | .taiNsRead link => Sys2Proof.Machine.execTaiNsRead link s
  | .stampLoRead link => Sys2Proof.Machine.execStampLoRead link s
  | .sigLoRead link => Sys2Proof.Machine.execSigLoRead link s
  | .recDataRead link => Sys2Proof.Machine.execRecDataRead link s
  | .commitReq link b => Sys2Proof.Machine.execCommitReq link b s
  | .commitDiscard link b => Sys2Proof.Machine.execCommitDiscard link b s
  | .epochBoundary => Sys2Proof.Machine.execEpochBoundary s
  | .plaitLoad stamp ofst piece last dest select subtree quiesce => Sys2Proof.Machine.execPlaitLoad stamp ofst piece last dest select subtree quiesce s
  | .plaitLoadTimeout => Sys2Proof.Machine.execPlaitLoadTimeout s
  | .subtreeReloadApply => Sys2Proof.Machine.execSubtreeReloadApply s
  | .reloadQuiesceTimeout => Sys2Proof.Machine.execReloadQuiesceTimeout s
  | .seamPortBringup k locked peer digest auth routed reach => Sys2Proof.Machine.execSeamPortBringup k locked peer digest auth routed reach s
  | .seamRetryTimer k => Sys2Proof.Machine.execSeamRetryTimer k s
  | .seamLaneFail k => Sys2Proof.Machine.execSeamLaneFail k s
  | .seamMemberUnreachable dev eth => Sys2Proof.Machine.execSeamMemberUnreachable dev eth s
  | .clockMark n idx eps => Sys2Proof.Machine.execClockMark n idx eps s
  | .markWindowMiss n => Sys2Proof.Machine.execMarkWindowMiss n s
  | .holdoverTimeout n => Sys2Proof.Machine.execHoldoverTimeout n s
  | .forceSearch link n => Sys2Proof.Machine.execForceSearch link n s
  | .timebaseEnable n => Sys2Proof.Machine.execTimebaseEnable n s
  | .timebaseDisable n => Sys2Proof.Machine.execTimebaseDisable n s
  | .triggerFire n w o => Sys2Proof.Machine.execTriggerFire n w o s
  | .trigCfgWrite link n t v => Sys2Proof.Machine.execTrigCfgWrite link n t v s
  | .trigPosWrite link n t v => Sys2Proof.Machine.execTrigPosWrite link n t v s
  | .trigRevWrite link n t v => Sys2Proof.Machine.execTrigRevWrite link n t v s
  | .deckCommitReq link n mask trig => Sys2Proof.Machine.execDeckCommitReq link n mask trig s
  | .deckCommitCancel link n => Sys2Proof.Machine.execDeckCommitCancel link n s
  | .deckCommitDiscard link n mask => Sys2Proof.Machine.execDeckCommitDiscard link n mask s
  | .laneLoopBlock n l timing wedge pos prev ys eq => Sys2Proof.Machine.execLaneLoopBlock n l timing wedge pos prev ys eq s
  | .winnowWindow n l wedge pos ys => Sys2Proof.Machine.execWinnowWindow n l wedge pos ys s
  | .winnowLongSpan n l => Sys2Proof.Machine.execWinnowLongSpan n l s
  | .reinit link n l => Sys2Proof.Machine.execReinit link n l s
  | .clrCnt link n l => Sys2Proof.Machine.execClrCnt link n l s
  | .shadow link n sp trig target => Sys2Proof.Machine.execShadow link n sp trig target s
  | .swap link n sp trig target => Sys2Proof.Machine.execSwap link n sp trig target s
  | .swapBack link n sp trig target => Sys2Proof.Machine.execSwapBack link n sp trig target s
  | .release link n sp trig target => Sys2Proof.Machine.execRelease link n sp trig target s
  | .nativeShadow link n sp trig target => Sys2Proof.Machine.execNativeShadow link n sp trig target s
  | .spareSwapAtGuard n sp => Sys2Proof.Machine.execSpareSwapAtGuard n sp s
  | .laneStandbyExit n l => Sys2Proof.Machine.execLaneStandbyExit n l s
  | .syncWindow n beam slot swath passes start z chaff => Sys2Proof.Machine.execSyncWindow n beam slot swath passes start z chaff s
  | .resyncWindow n p o => Sys2Proof.Machine.execResyncWindow n p o s
  | .ldpcDispatch die => Sys2Proof.Machine.execLdpcDispatch die s
  | .ldpcFirstPassDone n slot beam o => Sys2Proof.Machine.execLdpcFirstPassDone n slot beam o s
  | .turboPassDone n slot beam swath => Sys2Proof.Machine.execTurboPassDone n slot beam swath s
  | .darnDispatch n slot => Sys2Proof.Machine.execDarnDispatch n slot s
  | .darnDone n slot swath layer eng => Sys2Proof.Machine.execDarnDone n slot swath layer eng s
  | .gleanSetApply n g => Sys2Proof.Machine.execGleanSetApply n g s
  | .marginSnap link n => Sys2Proof.Machine.execMarginSnap link n s
  | .marginClr link n => Sys2Proof.Machine.execMarginClr link n s
  | .eqReinit link n k => Sys2Proof.Machine.execEqReinit link n k s
  | .eqDataWrite link n v => Sys2Proof.Machine.execEqDataWrite link n v s
  | .writePassStart n layer swath pass dram lost => Sys2Proof.Machine.execWritePassStart n layer swath pass dram lost s
  | .sectorVerifyDone n e slot v => Sys2Proof.Machine.execSectorVerifyDone n e slot v s
  | .writePassEnd n swath pass => Sys2Proof.Machine.execWritePassEnd n swath pass s
  | .opcRun n found => Sys2Proof.Machine.execOpcRun n found s
  | .laserTxFrame n seq dram lost => Sys2Proof.Machine.execLaserTxFrame n seq dram lost s
  | .laserRxFrame n syms ofs => Sys2Proof.Machine.execLaserRxFrame n syms ofs s
  | .cap n tag p => Sys2Proof.Machine.execCap n tag p s
  | .tableData n tag p => Sys2Proof.Machine.execTableData n tag p s
  | .ack n tag result ofs => Sys2Proof.Machine.execAck n tag result ofs s
  | .fault n mask code => Sys2Proof.Machine.execFault n mask code s
  | .linkMsgTimeout n => Sys2Proof.Machine.execLinkMsgTimeout n s
  | .linkRxLoss n => Sys2Proof.Machine.execLinkRxLoss n s
  | .linkBringup n ok ofs => Sys2Proof.Machine.execLinkBringup n ok ofs s
  | .linkRetryTimer n => Sys2Proof.Machine.execLinkRetryTimer n s
  | .shockCrossing n level => Sys2Proof.Machine.execShockCrossing n level s
  | .gateReopen n => Sys2Proof.Machine.execGateReopen n s
  | .writeInhibitTimeout n => Sys2Proof.Machine.execWriteInhibitTimeout n s
  | .forceDown link n v => Sys2Proof.Machine.execForceDown link n v s
  | .vfyClr link n => Sys2Proof.Machine.execVfyClr link n s
  | .loopSubsample n m o => Sys2Proof.Machine.execLoopSubsample n m o s
  | .freeRunSample n o => Sys2Proof.Machine.execFreeRunSample n o s
  | .slotModeWrite link n k mode => Sys2Proof.Machine.execSlotModeWrite link n k mode s
  | .cfDataWrite link n v => Sys2Proof.Machine.execCfDataWrite link n v s
  | .bankSwapReq link n k trig atTrig clr => Sys2Proof.Machine.execBankSwapReq link n k trig atTrig clr s
  | .bankSwapCancel link n k => Sys2Proof.Machine.execBankSwapCancel link n k s
  | .profMove link n k rel => Sys2Proof.Machine.execProfMove link n k rel s
  | .profJump link n k layer rel => Sys2Proof.Machine.execProfJump link n k layer rel s
  | .profSeek link n k rel => Sys2Proof.Machine.execProfSeek link n k rel s
  | .profStop link n k => Sys2Proof.Machine.execProfStop link n k s
  | .profileEnd n k restAt => Sys2Proof.Machine.execProfileEnd n k restAt s
  | .learn link n k => Sys2Proof.Machine.execLearn link n k s
  | .ffClear link n k => Sys2Proof.Machine.execFfClear link n k s
  | .safeRelease link n => Sys2Proof.Machine.execSafeRelease link n s
  | .spnStart link n rpm => Sys2Proof.Machine.execSpnStart link n rpm s
  | .spnStop link n method => Sys2Proof.Machine.execSpnStop link n method s
  | .spnCoast link n => Sys2Proof.Machine.execSpnCoast link n s
  | .spnSetSpeed link n rpm => Sys2Proof.Machine.execSpnSetSpeed link n rpm s
  | .spindleOc n u => Sys2Proof.Machine.execSpindleOc n u s
  | .spindleListenEnd n amp rpm angle ofs => Sys2Proof.Machine.execSpindleListenEnd n amp rpm angle ofs s
  | .spindleProbeDone n peaks => Sys2Proof.Machine.execSpindleProbeDone n peaks s
  | .spindleAlignEnd n => Sys2Proof.Machine.execSpindleAlignEnd n s
  | .spindleHandover n => Sys2Proof.Machine.execSpindleHandover n s
  | .spindleStall n => Sys2Proof.Machine.execSpindleStall n s
  | .spindleShortEnd n ofs => Sys2Proof.Machine.execSpindleShortEnd n ofs s
  | .spindleRegenHandoff n => Sys2Proof.Machine.execSpindleRegenHandoff n s
  | .observerLost n => Sys2Proof.Machine.execObserverLost n s
  | .spindleTargetReached n => Sys2Proof.Machine.execSpindleTargetReached n s
  | .vmUndervoltage vm => Sys2Proof.Machine.execVmUndervoltage vm s
  | .vmUvRecover vm => Sys2Proof.Machine.execVmUvRecover vm s
  | .brkOn vm => Sys2Proof.Machine.execBrkOn vm s
  | .brkOff vm => Sys2Proof.Machine.execBrkOff vm s
  | .brakeFault vm sense => Sys2Proof.Machine.execBrakeFault vm sense s
  | .vmAbs vm => Sys2Proof.Machine.execVmAbs vm s
  | .brakeFaultClear link => Sys2Proof.Machine.execBrakeFaultClear link s
  | .brakeTestEnd sense => Sys2Proof.Machine.execBrakeTestEnd sense s
  | .vmAbsClear link => Sys2Proof.Machine.execVmAbsClear link s
  | .sldMove link n rel => Sys2Proof.Machine.execSldMove link n rel s
  | .sldVel link n => Sys2Proof.Machine.execSldVel link n s
  | .sldStop link n => Sys2Proof.Machine.execSldStop link n s
  | .sldFollow link n => Sys2Proof.Machine.execSldFollow link n s
  | .sldSetPos link n => Sys2Proof.Machine.execSldSetPos link n s
  | .sldDisable link n => Sys2Proof.Machine.execSldDisable link n s
  | .sledAtRest n => Sys2Proof.Machine.execSledAtRest n s
  | .sledStandstill n => Sys2Proof.Machine.execSledStandstill n s
  | .sledBemfMeasure n emf => Sys2Proof.Machine.execSledBemfMeasure n emf s
  | .rehomeStep n p track => Sys2Proof.Machine.execRehomeStep n p track s
  | .rehomeTimeout n => Sys2Proof.Machine.execRehomeTimeout n s
  | .load link n layer low => Sys2Proof.Machine.execLoad link n layer low s
  | .park link n => Sys2Proof.Machine.execPark link n s
  | .recover link n layer => Sys2Proof.Machine.execRecover link n layer s
  | .relSpn link n v => Sys2Proof.Machine.execRelSpn link n v s
  | .relSld link n v => Sys2Proof.Machine.execRelSld link n v s
  | .clampClose n => Sys2Proof.Machine.execClampClose n s
  | .clampOpen n => Sys2Proof.Machine.execClampOpen n s
  | .clampOpenSpinning n => Sys2Proof.Machine.execClampOpenSpinning n s
  | .focusSweepStart n => Sys2Proof.Machine.execFocusSweepStart n s
  | .focusSweepEnd n => Sys2Proof.Machine.execFocusSweepEnd n s
  | .focusCapture n peaks travel => Sys2Proof.Machine.execFocusCapture n peaks travel s
  | .layerIdentified n fields => Sys2Proof.Machine.execLayerIdentified n fields s
  | .trackCapture n x => Sys2Proof.Machine.execTrackCapture n x s
  | .seqTimeout n => Sys2Proof.Machine.execSeqTimeout n s
  | .idleTimer n => Sys2Proof.Machine.execIdleTimer n s
  | .shockWindowEnd n => Sys2Proof.Machine.execShockWindowEnd n s
  | .zoneChange n swath => Sys2Proof.Machine.execZoneChange n swath s
  | .spinChargeGrant n => Sys2Proof.Machine.execSpinChargeGrant n s
  | .commandFetch cid sq hc => Sys2Proof.Machine.execCommandFetch cid sq hc s
  | .commandUnheld stamp => Sys2Proof.Machine.execCommandUnheld stamp s
  | .writeStaged stamp => Sys2Proof.Machine.execWriteStaged stamp s
  | .readDataOut stamp => Sys2Proof.Machine.execReadDataOut stamp s
  | .commitTimer n => Sys2Proof.Machine.execCommitTimer n s
  | .indexUnitWrite n swath slot pass => Sys2Proof.Machine.execIndexUnitWrite n swath slot pass s
  | .indexUnitVerified n seq => Sys2Proof.Machine.execIndexUnitVerified n seq s
  | .invalidOpcode stamp => Sys2Proof.Machine.execInvalidOpcode stamp s
  | .createIoSubmissionQueue stamp qid size cq => Sys2Proof.Machine.execCreateIoSubmissionQueue stamp qid size cq s
  | .deleteIoSubmissionQueue stamp qid => Sys2Proof.Machine.execDeleteIoSubmissionQueue stamp qid s
  | .createIoCompletionQueue stamp qid size vec => Sys2Proof.Machine.execCreateIoCompletionQueue stamp qid size vec s
  | .deleteIoCompletionQueue stamp qid => Sys2Proof.Machine.execDeleteIoCompletionQueue stamp qid s
  | .getLogPage stamp lid lsp lsi ofst len rae => Sys2Proof.Machine.execGetLogPage stamp lid lsp lsi ofst len rae s
  | .identify stamp cns nsid => Sys2Proof.Machine.execIdentify stamp cns nsid s
  | .abort stamp target => Sys2Proof.Machine.execAbort stamp target s
  | .setFeatures stamp fid v => Sys2Proof.Machine.execSetFeatures stamp fid v s
  | .getFeatures stamp fid => Sys2Proof.Machine.execGetFeatures stamp fid s
  | .asynchronousEventRequest stamp => Sys2Proof.Machine.execAsynchronousEventRequest stamp s
  | .firmwareCommit stamp slot action => Sys2Proof.Machine.execFirmwareCommit stamp slot action s
  | .firmwareImageDownload stamp ofst piece => Sys2Proof.Machine.execFirmwareImageDownload stamp ofst piece s
  | .keepAlive stamp => Sys2Proof.Machine.execKeepAlive stamp s
  | .nvmeMiSend stamp op arg v => Sys2Proof.Machine.execNvmeMiSend stamp op arg v s
  | .nvmeMiReceive stamp op arg => Sys2Proof.Machine.execNvmeMiReceive stamp op arg s
  | .sanitize stamp action => Sys2Proof.Machine.execSanitize stamp action s
  | .securitySend stamp proto r => Sys2Proof.Machine.execSecuritySend stamp proto r s
  | .securityReceive stamp proto len => Sys2Proof.Machine.execSecurityReceive stamp proto len s
  | .doorbellBufferConfig stamp shadow eventidx => Sys2Proof.Machine.execDoorbellBufferConfig stamp shadow eventidx s
  | .fabricsConnect transport p sub nqn discovery cid qid tls alert authed => Sys2Proof.Machine.execFabricsConnect transport p sub nqn discovery cid qid tls alert authed s
  | .propertyGet stamp off => Sys2Proof.Machine.execPropertyGet stamp off s
  | .propertySet stamp off v => Sys2Proof.Machine.execPropertySet stamp off v s
  | .authenticationSend stamp outcome => Sys2Proof.Machine.execAuthenticationSend stamp outcome s
  | .authenticationReceive stamp => Sys2Proof.Machine.execAuthenticationReceive stamp s
  | .flush stamp => Sys2Proof.Machine.execFlush stamp s
  | .write stamp data => Sys2Proof.Machine.execWrite stamp data s
  | .read stamp cid dram lost => Sys2Proof.Machine.execRead stamp cid dram lost s
  | .compare stamp cid data dram lost => Sys2Proof.Machine.execCompare stamp cid data dram lost s
  | .verify stamp cid dram lost => Sys2Proof.Machine.execVerify stamp cid dram lost s
  | .zoneManagementSend stamp action all => Sys2Proof.Machine.execZoneManagementSend stamp action all s
  | .zoneManagementReceive stamp state count => Sys2Proof.Machine.execZoneManagementReceive stamp state count s
  | .zoneAppend stamp data => Sys2Proof.Machine.execZoneAppend stamp data s
  | .mount stamp h init o => Sys2Proof.Machine.execMount stamp h init o s
  | .unmount stamp h force nopark => Sys2Proof.Machine.execUnmount stamp h force nopark s
  | .survey stamp h layer first last found => Sys2Proof.Machine.execSurvey stamp h layer first last found s
  | .ledgerRead stamp what start numd => Sys2Proof.Machine.execLedgerRead stamp what start numd s
  | .migrate stamp cid recomp skipBad dram lost => Sys2Proof.Machine.execMigrate stamp cid recomp skipBad dram lost s
  | .readAsOf stamp cid time dram lost => Sys2Proof.Machine.execReadAsOf stamp cid time dram lost s
  | .compressJob stamp desc o => Sys2Proof.Machine.execCompressJob stamp desc o s
  | .decompressJob stamp desc o => Sys2Proof.Machine.execDecompressJob stamp desc o s
  | .cmpJobStart stamp => Sys2Proof.Machine.execCmpJobStart stamp s
  | .readNvmeMiDataStructure pcie arg => Sys2Proof.Machine.execReadNvmeMiDataStructure pcie arg s
  | .nvmSubsystemHealthStatusPoll pcie => Sys2Proof.Machine.execNvmSubsystemHealthStatusPoll pcie s
  | .controllerHealthStatusPoll pcie arg => Sys2Proof.Machine.execControllerHealthStatusPoll pcie arg s
  | .configurationSet pcie arg v => Sys2Proof.Machine.execConfigurationSet pcie arg v s
  | .configurationGet pcie arg => Sys2Proof.Machine.execConfigurationGet pcie arg s
  | .miReset pcie => Sys2Proof.Machine.execMiReset pcie s
  | .registerRead pcie dw => Sys2Proof.Machine.execRegisterRead pcie dw s
  | .registerWrite pcie dw v o => Sys2Proof.Machine.execRegisterWrite pcie dw v o s
  | .spdmMessage transport owner r => Sys2Proof.Machine.execSpdmMessage transport owner r s
  | .spdmHeartbeatTimeout sid => Sys2Proof.Machine.execSpdmHeartbeatTimeout sid s
  | .takeOwnership sid => Sys2Proof.Machine.execTakeOwnership sid s
  | .custSet sid entry digest => Sys2Proof.Machine.execCustSet sid entry digest s
  | .kekSet sid kid kek => Sys2Proof.Machine.execKekSet sid kid kek s
  | .kekDestroy sid kid => Sys2Proof.Machine.execKekDestroy sid kid s
  | .pskSet sid nqn ident psk => Sys2Proof.Machine.execPskSet sid nqn ident psk s
  | .slotSet sid alg slot key => Sys2Proof.Machine.execSlotSet sid alg slot key s
  | .svnRaise sid kind v => Sys2Proof.Machine.execSvnRaise sid kind v s
  | .zeroize sid => Sys2Proof.Machine.execZeroize sid s
  | .katRun sid fail => Sys2Proof.Machine.execKatRun sid fail s
  | .zeroKeyWrite link v => Sys2Proof.Machine.execZeroKeyWrite link v s
  | .tamper b => Sys2Proof.Machine.execTamper b s
  | .tamperClear link closed => Sys2Proof.Machine.execTamperClear link closed s
  | .ledgerFlush ok => Sys2Proof.Machine.execLedgerFlush ok s
  | .controllerReset cid => Sys2Proof.Machine.execControllerReset cid s
  | .nvmSubsystemReset => Sys2Proof.Machine.execNvmSubsystemReset s
  | .keepAliveExpiry cid => Sys2Proof.Machine.execKeepAliveExpiry cid s
  | .pcieLinkDown link => Sys2Proof.Machine.execPcieLinkDown link s
  | .perstRelease links => Sys2Proof.Machine.execPerstRelease links s
  | .ethLinkChange p sub up => Sys2Proof.Machine.execEthLinkChange p sub up s
  | .ptpMessage st ofs utc tai => Sys2Proof.Machine.execPtpMessage st ofs utc tai s
  | .ptpTimeout => Sys2Proof.Machine.execPtpTimeout s
  | .cmbAccess wr off len data dram => Sys2Proof.Machine.execCmbAccess wr off len data dram s
  | .fwDrainEnd => Sys2Proof.Machine.execFwDrainEnd s
  | .fwDrainTimeout => Sys2Proof.Machine.execFwDrainTimeout s
  | .fwNewReady => Sys2Proof.Machine.execFwNewReady s
  | .fwReadyTimeout => Sys2Proof.Machine.execFwReadyTimeout s
  | .train link => Sys2Proof.Machine.execTrain link s
  | .dramTrainDone o => Sys2Proof.Machine.execDramTrainDone o s
  | .memStart link => Sys2Proof.Machine.execMemStart link s
  | .recenter link centres => Sys2Proof.Machine.execRecenter link centres s
  | .recenterTimer ch o => Sys2Proof.Machine.execRecenterTimer ch o s
  | .refreshDue ch rank prot => Sys2Proof.Machine.execRefreshDue ch rank prot s
  | .makeupRefresh ch => Sys2Proof.Machine.execMakeupRefresh ch s
  | .caParityAlert ch done => Sys2Proof.Machine.execCaParityAlert ch done s
  | .rinseStep dram => Sys2Proof.Machine.execRinseStep dram s
  | .retirePage link page => Sys2Proof.Machine.execRetirePage link page s
  | .retirementCopyDone dst => Sys2Proof.Machine.execRetirementCopyDone dst s
  | .devMarkWrite link ch v => Sys2Proof.Machine.execDevMarkWrite link ch v s
  | .fillStart link => Sys2Proof.Machine.execFillStart link s
  | .fillDone => Sys2Proof.Machine.execFillDone s
  | .chStsClr link ch => Sys2Proof.Machine.execChStsClr link ch s
  | .clean link scope way => Sys2Proof.Machine.execClean link scope way s
  | .inval link scope way => Sys2Proof.Machine.execInval link scope way s
  | .cleanInval link scope way => Sys2Proof.Machine.execCleanInval link scope way s
  | .maintDone => Sys2Proof.Machine.execMaintDone s
  | .mcFillDone evs line half dram => Sys2Proof.Machine.execMcFillDone evs line half dram s
  | .mcScrubStep errs => Sys2Proof.Machine.execMcScrubStep errs s
  | .mcStsClr link => Sys2Proof.Machine.execMcStsClr link s
  | .idleEntry => Sys2Proof.Machine.execIdleEntry s
  | .idleExit => Sys2Proof.Machine.execIdleExit s
  | .sleepEntry => Sys2Proof.Machine.execSleepEntry s
  | .sleepExit w bad l => Sys2Proof.Machine.execSleepExit w bad l s
  | .deepEntry => Sys2Proof.Machine.execDeepEntry s
  | .deepEntryStep => Sys2Proof.Machine.execDeepEntryStep s
  | .deepExit w banks l o => Sys2Proof.Machine.execDeepExit w banks l o s
  | .reqOff link => Sys2Proof.Machine.execReqOff link s
  | .wakeN b => Sys2Proof.Machine.execWakeN b s
  | .dvfsWrite link j v => Sys2Proof.Machine.execDvfsWrite link j v s
  | .dvfsChangeDone j => Sys2Proof.Machine.execDvfsChangeDone j s
  | .padRel link v => Sys2Proof.Machine.execPadRel link v s
  | .thermClr link u => Sys2Proof.Machine.execThermClr link u s
  | .governorPeriod pin vin tj => Sys2Proof.Machine.execGovernorPeriod pin vin tj s
  | .thermalThrottle u tj => Sys2Proof.Machine.execThermalThrottle u tj s
  | .thermalShutdown u tj => Sys2Proof.Machine.execThermalShutdown u tj s
  | .thermalRestart tj b => Sys2Proof.Machine.execThermalRestart tj b s
  | .vinBrownout vin => Sys2Proof.Machine.execVinBrownout vin s
  | .vinOvervoltage vin => Sys2Proof.Machine.execVinOvervoltage vin s
  | .powerOnReset b => Sys2Proof.Machine.execPowerOnReset b s
  | .bootReady fails => Sys2Proof.Machine.execBootReady fails s
  | .testPassDue u cal => Sys2Proof.Machine.execTestPassDue u cal s
  | .sliceEnd u sig o voids => Sys2Proof.Machine.execSliceEnd u sig o voids s
  | .shadowCompareDone u dis cnt revs voids => Sys2Proof.Machine.execShadowCompareDone u dis cnt revs voids s
  | .lockstepDone n bad voids => Sys2Proof.Machine.execLockstepDone n bad voids s
  | .tstTest link u => Sys2Proof.Machine.execTstTest link u s
  | .tstCal link u => Sys2Proof.Machine.execTstCal link u s
  | .burn link index reason voids => Sys2Proof.Machine.execBurn link index reason voids s
  | .ackSeqWrite link v => Sys2Proof.Machine.execAckSeqWrite link v s
  | .recordsLostInterval => Sys2Proof.Machine.execRecordsLostInterval s
  | .sledProfilePeriod n peak => Sys2Proof.Machine.execSledProfilePeriod n peak s
  | .pwmPeriod n vm id iq rpm shunt => Sys2Proof.Machine.execPwmPeriod n vm id iq rpm shunt s
  | .apstTransition cid ps => Sys2Proof.Machine.execApstTransition cid ps s
  | .entropyHealthFail => Sys2Proof.Machine.execEntropyHealthFail s
  | .vmWindowCrossing n vm => Sys2Proof.Machine.execVmWindowCrossing n vm s
  | .shockClear n level => Sys2Proof.Machine.execShockClear n level s
  | .vinOvervoltageClear vin b => Sys2Proof.Machine.execVinOvervoltageClear vin b s
  | .controllerEnable link fn => Sys2Proof.Machine.execControllerEnable link fn s
  | .fabricConnectionLoss cid => Sys2Proof.Machine.execFabricConnectionLoss cid s
  | .sheafForward m => Sys2Proof.Machine.execSheafForward m s
  | .cmpJobEnd stamp reach dram => Sys2Proof.Machine.execCmpJobEnd stamp reach dram s
  | .v12RailChange n tenths => Sys2Proof.Machine.execV12RailChange n tenths s
  | .boundaryScanInstruction u => Sys2Proof.Machine.execBoundaryScanInstruction u s

end Sys2Proof.Machine
end

