-- ==== Sys2Proof/Machine/Step.lean ====
section
/-! DEFINITION. Machine/Step.lean: one step takes the command at the front of the queue; on an empty queue one reference tick
passes. -/

namespace Sys2Proof.Machine

/-- A step. With no command waiting, a tick of the reference clock passes (DESIGN CHOICE, assumption 1). -/
def step (s : State) : Host.Outcome State Fault Refusal :=
  match s.pending with
  | [] => .next (s.onBoth idleTick)
  | i :: rest => exec i { s with pending := rest }

/-- A word of the opcode table put at the front of the queue; no row of the table gives bits, so no word spells a command. -/
def State.withFetchWord (s : State) (nbits w : Nat) : State :=
  match decodeTableWord nbits w with
  | some i => { s with pending := i :: s.pending }
  | none => s

end Sys2Proof.Machine
end

