-- ==== Sys2Proof/Safety.lean ====
section
/-! DEFINITION. Safety.lean: what a sound state of the machine is, in the terms the statements use. -/

namespace Sys2Proof.Machine

/-- The clocks are sound: 64-bit tick and every deck's counter is held only while it is not zero, in deck order (R49, R66). -/
def Clock.sound (c : Clock) : Bool := decide (c.tick < 2 ^ 64) && FMap.canon (fun _ => 0) c.ang

end Sys2Proof.Machine
end

