-- ==== Sys2Proof/Certificates/Slice0/Obligations.lean ====
section
/-! DEFINITION. Certificates/Slice0/Obligations.lean: the statements for the provers. In the per-command statements a clause
says when the command has its own effect, that exec then answers a next state with the queue kept, what that state holds, and
(by an equation of records and RegsOnly) that nothing else changes. -/

open Sys2Proof Sys2Proof.Machine

-- DEFS
namespace Sys2Proof.Machine

/-- Every register field but the listed ones has the value in force it had. -/
def RegsOnly (l : List Fld) (d e : Dev) : Prop :=
  ∀ k, k ∉ l.map Fld.key → FMap.get resetOf e.regs k = FMap.get resetOf d.regs k

/-- Every staged field but the listed ones has the staged value it had. -/
def StagedOnly (l : List Fld) (d e : Dev) : Prop :=
  ∀ k, k ∉ l.map Fld.key → FMap.get resetOf e.staged k = FMap.get resetOf d.staged k

/-- What a field holds after its word was written, by its access class (R7), in a block that does not run. -/
def ByClass (g : Fld) (a : Acc) (x : Nat) (d e : Dev) : Prop :=
  match a with
  | .ro => e.get g = d.get g ∧ e.stg g = d.stg g
  | .w1c => e.get g = (d.get g - (d.get g &&& x)) % 2 ^ g.w ∧ e.stg g = d.stg g
  | .rwl => e.get g = x ∧ e.stg g = d.stg g
  | .rwx => e.get g = x ∧ e.stg g = d.stg g
  | .rws => e.get g = d.get g ∧ e.stg g = x

/-- Every deck but one holds what it held. -/
def DeckOnly (n : Nat) (d e : Dev) : Prop := ∀ m, m ≠ n → e.deck m = d.deck m

/-- Every deck holds what it held. -/
def DecksKept (d e : Dev) : Prop := ∀ m, e.deck m = d.deck m

/-- The fields of a range of keys hold in force what a table holds; every other staged-class field has the value it had. -/
def Applied (p : Nat → Bool) (vals : FMap Nat) (d e : Dev) : Prop :=
  ∀ k, accOf k = .rws → FMap.get resetOf e.regs k = if p k then FMap.get resetOf vals k else FMap.get resetOf d.regs k

/-- No staged-class field has another value in force. -/
def RwsKept (d e : Dev) : Prop := ∀ k, accOf k = .rws → FMap.get resetOf e.regs k = FMap.get resetOf d.regs k

/-- The staged fields of a range hold their values in force; every other staged value is kept. -/
def Reloaded (p : Nat → Bool) (d e : Dev) : Prop :=
  ∀ k, FMap.get resetOf e.staged k =
    if p k then (if accOf k = .rws then FMap.get resetOf d.regs k else resetOf k) else FMap.get resetOf d.staged k

/-- A host command ends: its context is freed and its completion is the only one posted (R417). -/
def Completed (stamp : Nat) (x : Ctx) (st : Sts) (dw0 dw1 : Nat) (data : List Byte) (d e : Dev) : Prop :=
  e.host.ctxs = d.host.ctxs.filter (fun y => y.stamp != stamp) ∧
  e.host.posted = d.host.posted ++
    [{ stamp := stamp, cid := x.cid, status := st, dnr := dnrOf st, dw0 := dw0, dw1 := dw1, data := data }]

/-- A host command has ended: it has no context and its completion is among those posted. -/
def Answered (stamp : Nat) (x : Ctx) (st : Sts) (dw0 dw1 : Nat) (data : List Byte) (e : Dev) : Prop :=
  e.ctx stamp = none ∧
  { stamp := stamp, cid := x.cid, status := st, dnr := dnrOf st, dw0 := dw0, dw1 := dw1, data := data } ∈ e.host.posted

/-- The ledger holds an entry of now that says a thing was applied (0), refused (1) or happened (2). -/
def Entered (c : Clock) (who : Who) (cls result detail object : Nat) (old new : List Byte) (d e : Dev) : Prop :=
  { seq := d.led.next, dev := d.devNum, time := d.taiNow c, result := result, who := who, cls := cls, detail := detail, object := object,
    old := slice old 0 48, new := slice new 0 48, prev := d.led.head } ∈ e.led.entries

/-- The fault ring holds a record of a class and code. -/
def Reported (cls code : Nat) (e : Dev) : Prop := ∃ r ∈ e.flt.ring, r.cls = cls ∧ r.code = code

/-- Commands that reset the module, or keep it in reset. -/
def resetsModule : Instr → Bool
  | .powerOnReset _ => true
  | .wakeN _ => true
  | .thermalRestart _ _ => true
  | .vinBrownout _ => true
  | .vinOvervoltage _ => true
  | .vinOvervoltageClear _ _ => true
  | .tamper _ => true
  | _ => false

/-- Commands that may change a clock: time passes, a counter is reloaded, a stamp is taken, the module is reset. -/
def movesClock (i : Instr) : Bool :=
  resetsModule i || (match i with
    | .epochBoundary => true
    | .clockMark _ _ _ => true
    | .commandFetch _ _ _ => true
    | _ => false)

end Sys2Proof.Machine
-- DEFS

/-- A step runs the command at the front of the queue. The queue and its order are the model's own (log entry 1): the command
at the front is executed on the state with the rest of the queue; with no command waiting one tick of the reference clock
passes, or in DEEP the 40 of a cycle of the AON oscillator (R565). (00_scope.md, 01_architecture.md,
95_what_each_step_holds.md) -/
def Obligations.StepRunsFront : Prop :=
  (∀ (i : Instr) (c : Clock) (d : Dev) (q : List Instr), step ⟨c, d, i :: q⟩ = exec i ⟨c, d, q⟩) ∧
  (∀ (c : Clock) (d : Dev), ∃ c' e, step ⟨c, d, []⟩ = .next ⟨c', e, []⟩ ∧ c'.tick = (c.tick + if d.inDeep then 40 else 1) %
      2 ^ 64 ∧ c'.stamp = c.stamp ∧
  ∀ n : Fin 16, c'.counter n = d.counterTick c n (if d.inDeep then 40 else 1))

/-- What power-on reset leaves. The reset words are those of the register tables; the queue is the model's own. (R6, R49, R66,
R67, R180, R314, R375, R409, R415, R520, R581, R612) -/
def Obligations.ResetState : Prop :=
  State.reset.pending = [] ∧ State.reset.clk.sound = true ∧ State.reset.clk.tick = 0 ∧ State.reset.clk.stamp + 1 = 1 ∧
  (∀ f : Fld, State.reset.dev.get f = resetOf f.key ∧ State.reset.dev.stg f = resetOf f.key) ∧
  State.reset.dev.mem.wf = true ∧ State.reset.dev.plait = none ∧ State.reset.dev.flt.ring = [] ∧ State.reset.dev.host.ctxs
      = [] ∧
  (∀ n : Fin 16, State.reset.dev.dstate n = dABSENT ∧ State.reset.dev.tbState n = tbOFF ∧ State.reset.clk.counter n = 0) ∧
  State.reset.dev.wordInForce 0 = 0x964000C2 ∧ State.reset.dev.wordInForce 0x00100010 = 0x000C028C ∧
  State.reset.dev.wordInForce 0x00500010 = 0x850003E8 ∧ State.reset.dev.wordInForce 0x00700000 = 0x0F3C3C57 ∧
  (∀ n : Fin 16, State.reset.dev.wordInForce (deckBase + n * deckSpan) = 0x29600000 ∧
  State.reset.dev.wordInForce (deckBase + n * deckSpan + 0x20000) = 0x00761248 ∧
  State.reset.dev.wordInForce (deckBase + n * deckSpan + 0x30010) = 0x14282460 ∧
  State.reset.dev.wordInForce (deckBase + n * deckSpan + 0x40004) = 0x400603D1 ∧
  State.reset.dev.wordInForce (deckBase + n * deckSpan + 0x50008) = 0x40C801F4 ∧
  State.reset.dev.wordInForce (deckBase + n * deckSpan + 0x60010) = 0x0FA000C8 ∧
  State.reset.dev.wordInForce (deckBase + n * deckSpan + 0x80008) = 0x2904321E)

/-- Every step takes the front command off the queue and adds none; only an access past the controller memory buffer stops.
The queue is the model's own (log entry 1). Commands that neither let time pass, nor take a stamp, nor reset the module leave
the clocks alone. (R385, R8, 12_host_attachment.md, 03_angle_timebase.md) -/
def Obligations.CommandsLeaveInOrder : Prop :=
  (∀ s t : State, step s = .next t → t.pending = s.pending.tail) ∧
  (∀ (i : Instr) (s : State), (∃ t, exec i s = .next t ∧ t.pending = s.pending ∧ (movesClock i = false → t.clk = s.clk)) ∨
  ((∃ wr off len data dram, i = .cmbAccess wr off len data dram) ∧ exec i s = .fault .cmbOutside))

/-- The reference tick stays within 64 bits and the table of deck counters in its canonical form. An invariant that every step
keeps, whatever the command; State.reset has it (ResetState). (R49, R51, R55, R66, 03_angle_timebase.md) -/
def Obligations.ClockStaysSound : Prop :=
  ∀ s t : State, s.clk.sound = true → step s = .next t → t.clk.sound = true

/-- No deck counter moves backward, stamps rise, and a step lets at most one epoch pass. For every step but the resets of the
module. The tick is counted modulo 2^64; counters are compared in grains, revolutions included. (R51, R55, R66, R415,
03_angle_timebase.md, 13_command_execution.md) -/
def Obligations.TimeNeverRunsBack : Prop :=
  ∀ s t : State, s.clk.tick < 2 ^ 64 → (∀ i ∈ s.pending.head?, resetsModule i = false) → step s = .next t →
  (∃ k, k ≤ epochTicks ∧ t.clk.tick = (s.clk.tick + k) % 2 ^ 64) ∧
  (t.clk.stamp = s.clk.stamp ∨ t.clk.stamp = s.clk.stamp + 1) ∧
  (∀ n : Nat, s.clk.grains n ≤ t.clk.grains n)

/-- When a new fault record folds into the newest one. For a record made while the ring is within reach (not in DEEP, R671);
REPEAT saturates at 255 by its own definition in R667. (R669) -/
def Obligations.RecordsFold : Prop :=
  ∀ (c : Clock) (d : Dev) (r o : FaultRec) (l : List FaultRec), d.inDeep = false → d.flt.ring = l ++ [o] →
  (o.handle = r.handle ∧ o.cls = r.cls ∧ o.code = r.code ∧ o.tick / epochTicks = r.tick / epochTicks ∧
  (d.get Reg.FLT_CFG_FOLD_EN = 1 ∨ (r.cls = 5 ∧ (r.code = 6 ∨ r.code = 7))) →
  (d.record c r).flt.ring = l ++ [{ o with rep := min (o.rep + 1) 255 }] ∧ (d.record c r).flt.next = d.flt.next) ∧
  (¬ (o.handle = r.handle ∧ o.cls = r.cls ∧ o.code = r.code ∧ o.tick / epochTicks = r.tick / epochTicks ∧
  (d.get Reg.FLT_CFG_FOLD_EN = 1 ∨ (r.cls = 5 ∧ (r.code = 6 ∨ r.code = 7)))) →
  (d.record c r).flt.next = d.flt.next + 1 ∧
  ((d.record c r).flt.ring.getLast?.map fun x => (x.seq, x.handle, x.cls, x.code, x.rep)) = some (d.flt.next, r.handle,
      r.cls, r.code, r.rep))

/-- The ring of fault records, its losses, and the records AON holds in DEEP. For a record that does not fold. Each clause is
about what a record does, whichever command makes it. (R667, R670, R671, 21_faults_and_events.md) -/
def Obligations.RecordRing : Prop :=
  (∀ (c : Clock) (d : Dev) (r : FaultRec), d.inDeep = false → d.flt.ring = [] →
  (d.record c r).flt.ring = [{ r with seq := d.flt.next }] ∧ (d.record c r).flt.next = d.flt.next + 1) ∧
  (∀ (f : Flt) (r : FaultRec), f.ring.length < 4096 → f.push r = { f with ring := f.ring ++ [r], next := f.next + 1 }) ∧
  (∀ (f : Flt) (r o : FaultRec) (l : List FaultRec), f.ring = o :: l → 4096 ≤ f.ring.length →
  (f.push r).ring = l ++ [{ r with lost := !o.read }] ∧ (f.push r).next = f.next + 1 ∧
  (f.push r).lostNow = (if o.read then f.lostNow else f.lostNow + 1) ∧ (f.push r).lostOpen = (f.lostOpen || !o.read)) ∧
  (∀ (c : Clock) (d : Dev) (r : FaultRec), d.inDeep = true →
  d.record c r = { d with flt := if d.flt.aon.length < 16 then { d.flt with aon := d.flt.aon ++ [r] } else
                            { d.flt with aonLost := d.flt.aonLost + 1 } })

/-- The epoch boundary that decides a device-wide commit. B is the first epoch boundary after the request, in ticks; a
boundary decides what waits for it and leaves what waits for a later one. (R17) -/
def Obligations.EpochOfACommit : Prop :=
  (∀ (c : Clock) (d : Dev) (q : List Instr) (link : Fin 2) (b : Fin 10) (B : Nat),
  d.deny (.bar2 link) true (Reg.BLK_COMMIT_CTL_REQ (blkBase b)).off 4 = none → d.blk (blkBase b) = none →
  B % epochTicks = 0 → B ≤ c.tick + epochTicks → c.tick < B →
  ∃ e p, exec (.commitReq link b) ⟨c, d, q⟩ = .next ⟨c, e, q⟩ ∧ e.blk (blkBase b) = some p ∧
  p.epoch * epochTicks = if c.tick + 2000 ≤ B then B else B + epochTicks) ∧
  (∀ (c : Clock) (d : Dev) (q : List Instr) (b : Fin 10) (p : BlkPend), d.blk (blkBase b) = some p →
  ∃ c' e, exec .epochBoundary ⟨c, d, q⟩ = .next ⟨c', e, q⟩ ∧ c'.tick = (c.tick + (epochTicks - c.tick % epochTicks)) % 2 ^
      64 ∧
  e.blk (blkBase b) = if p.epoch * epochTicks ≤ c'.tick then none else some p)

/-- POSTPONE_MAX of 0. Issued when due: no refresh becomes owed, on a protected stream or off one. (R497) -/
def Obligations.RefreshNotPostponed : Prop :=
  -- REFRESH_DUE with POSTPONE_MAX 0
  (∀ (c : Clock) (d : Dev) (q : List Instr) (ch : Fin 8) (rank : Fin 4) (prot : Bool),
    d.get Reg.MEM_REF_CFG_POSTPONE_MAX = 0 →
    ∃ e, exec (.refreshDue ch rank prot) ⟨c, d, q⟩ = .next ⟨c, e, q⟩ ∧
      e.mem.owed = d.mem.owed ∧
      e = d)

/-- What stands against an access to the register window, and what it then does. An access has no effect without a role that
opens the window, with another width or alignment, at an offset of no register, to a domain that is off, or as a write without
the role its offset asks for. (R4, R23, R571, R627, R631, R668, 00_scope.md, 01_architecture.md) -/
def Obligations.AccessRule : Prop :=
  (∀ (d : Dev) (via : Via) (wr : Bool) (off width : Nat), d.deny via wr off width = none ↔
  d.accessRoles via ≠ 0 ∧ width = 4 ∧ off % 4 = 0 ∧ off < selSpan ∧ (regAt off).isSome = true ∧ d.domOn (domainOf off) =
      true ∧
  (wr = true → bit (d.accessRoles via) (if off < deckBase then rCUSTODIAN else rOPERATOR) = true)) ∧
  -- REG_WRITE without a role that opens the window
  (∀ (c : Clock) (d : Dev) (q : List Instr) (link : Fin 2) (off width : Nat) (v : Word) (o : BusObs),
    d.accessRoles (.bar2 link) = 0 →
    ∃ e, exec (.regWrite link off width v o) ⟨c, d, q⟩ = .next ⟨c, e, q⟩ ∧
      e = d) ∧
  -- REG_WRITE of another width, misaligned, at no register, or without the role of its offset
  (∀ (c : Clock) (d : Dev) (q : List Instr) (link : Fin 2) (off width r : Nat) (v : Word) (o : BusObs),
    (d.deny (.bar2 link) true off width = some (.bad r) ∧ d.inDeep = false) →
    ∃ e, exec (.regWrite link off width v o) ⟨c, d, q⟩ = .next ⟨c, e, q⟩ ∧
      Reported 5 7 e ∧
      e = { d with flt := e.flt, ctrls := e.ctrls, host := e.host, regs := e.regs } ∧
      RegsOnly [Reg.FLT_STS_LOST] d e) ∧
  -- REG_WRITE to a domain that is off
  (∀ (c : Clock) (d : Dev) (q : List Instr) (link : Fin 2) (off k : Nat) (v : Word) (o : BusObs),
    (d.deny (.bar2 link) true off 4 = some (.off k) ∧ d.inDeep = false ∧ d.pwr.offSeen = []) →
    ∃ e, exec (.regWrite link off 4 v o) ⟨c, d, q⟩ = .next ⟨c, e, q⟩ ∧
      Reported 5 6 e ∧
      e.pwr = { d.pwr with offSeen := [(k, c.epoch)] } ∧
      e = { d with flt := e.flt, ctrls := e.ctrls, host := e.host, pwr := e.pwr, regs := e.regs } ∧
      RegsOnly [Reg.FLT_STS_LOST] d e) ∧
  -- REG_WRITE to a domain whose record of the epoch is made
  (∀ (c : Clock) (d : Dev) (q : List Instr) (link : Fin 2) (off k : Nat) (v : Word) (o : BusObs),
    (d.deny (.bar2 link) true off 4 = some (.off k) ∧ (k, c.epoch) ∈ d.pwr.offSeen) →
    ∃ e, exec (.regWrite link off 4 v o) ⟨c, d, q⟩ = .next ⟨c, e, q⟩ ∧
      e = d) ∧
  -- SIG_LO_READ that something stands against
  (∀ (c : Clock) (d : Dev) (q : List Instr) (link : Fin 2) (z : Deny),
    d.deny (.bar2 link) false Reg.TST_SIG_LO_SIG_LO.off 4 = some z →
    ∃ e, exec (.sigLoRead link) ⟨c, d, q⟩ = .next ⟨c, e, q⟩ ∧
      e.rdata = 0xFFFFFFFF ∧
      e = { d with rdata := e.rdata, flt := e.flt, ctrls := e.ctrls, host := e.host, pwr := e.pwr, regs := e.regs } ∧
      RegsOnly [Reg.FLT_STS_LOST] d e)

/-- Reads that latch return their word and latch the rest. Each holds when nothing stands against a 4-byte read at the
register's offset (Dev.deny, stated by AccessRule); nothing but the named fields and the data of the read changes. (R4, R71,
R79, R412, R444, R615, R682) -/
def Obligations.WindowReadsLatch : Prop :=
  -- SNAP_GRAIN_READ
  (∀ (c : Clock) (d : Dev) (q : List Instr) (link : Fin 2) (n : Fin 16),
    d.deny (.bar2 link) false ((Reg.ANG_SNAP_GRAIN_GRAIN n).off) 4 = none →
    ∃ e, exec (.snapGrainRead link n) ⟨c, d, q⟩ = .next ⟨c, e, q⟩ ∧
      e.get (Reg.ANG_SNAP_GRAIN_GRAIN n) = c.grain n ∧
      e.get (Reg.ANG_SNAP_GRAIN_REV_HI n) = c.rev n / 2 ^ 32 ∧
      e.get (Reg.ANG_SNAP_REV_REV_LO n) = c.rev n % 2 ^ 32 ∧
      e.rdata = c.rev n / 2 ^ 32 * 2 ^ 24 + c.grain n ∧
      e = { d with regs := e.regs, rdata := e.rdata } ∧
      RegsOnly [Reg.ANG_SNAP_GRAIN_GRAIN n, Reg.ANG_SNAP_GRAIN_REV_HI n, Reg.ANG_SNAP_REV_REV_LO n] d e) ∧
  -- TICK_LO_READ
  (∀ (c : Clock) (d : Dev) (q : List Instr) (link : Fin 2),
    d.deny (.bar2 link) false Reg.MGMT_TICK_LO_TICK_LO.off 4 = none →
    ∃ e, exec (.tickLoRead link) ⟨c, d, q⟩ = .next ⟨c, e, q⟩ ∧
      e.rdata = c.tick % 2 ^ 32 ∧
      e.get Reg.MGMT_TICK_LO_TICK_LO = c.tick % 2 ^ 32 ∧
      e.get Reg.MGMT_TICK_HI_TICK_HI = c.tick / 2 ^ 32 % 2 ^ 32 ∧
      e = { d with regs := e.regs, rdata := e.rdata } ∧
      RegsOnly [Reg.MGMT_TICK_LO_TICK_LO, Reg.MGMT_TICK_HI_TICK_HI] d e) ∧
  -- TAI_NS_READ
  (∀ (c : Clock) (d : Dev) (q : List Instr) (link : Fin 2),
    d.deny (.bar2 link) false Reg.MGMT_TAI_NS_NS.off 4 = none →
    ∃ e, exec (.taiNsRead link) ⟨c, d, q⟩ = .next ⟨c, e, q⟩ ∧
      e.rdata = d.host.tai % 1000000000 ∧
      e.get Reg.MGMT_TAI_NS_NS = d.host.tai % 1000000000 ∧
      e.get Reg.MGMT_TAI_SEC_LO_SEC_LO = d.host.tai / 1000000000 % 2 ^ 32 ∧
      e.get Reg.MGMT_TAI_SEC_HI_SEC_HI = d.host.tai / 1000000000 / 2 ^ 32 % 2 ^ 16 ∧
      e = { d with regs := e.regs, rdata := e.rdata } ∧
      RegsOnly [Reg.MGMT_TAI_NS_NS, Reg.MGMT_TAI_SEC_LO_SEC_LO, Reg.MGMT_TAI_SEC_HI_SEC_HI] d e) ∧
  -- STAMP_LO_READ
  (∀ (c : Clock) (d : Dev) (q : List Instr) (link : Fin 2),
    d.deny (.bar2 link) false Reg.HQ_STAMP_LO_STAMP_LO.off 4 = none →
    ∃ e, exec (.stampLoRead link) ⟨c, d, q⟩ = .next ⟨c, e, q⟩ ∧
      e.rdata = (c.stamp + 1) % 2 ^ 32 ∧
      e.get Reg.HQ_STAMP_LO_STAMP_LO = (c.stamp + 1) % 2 ^ 32 ∧
      e.get Reg.HQ_STAMP_HI_STAMP_HI = (c.stamp + 1) / 2 ^ 32 % 2 ^ 32 ∧
      e = { d with regs := e.regs, rdata := e.rdata } ∧
      RegsOnly [Reg.HQ_STAMP_LO_STAMP_LO, Reg.HQ_STAMP_HI_STAMP_HI] d e) ∧
  -- SIG_LO_READ
  (∀ (c : Clock) (d : Dev) (q : List Instr) (link : Fin 2),
    d.deny (.bar2 link) false Reg.TST_SIG_LO_SIG_LO.off 4 = none →
    ∃ e, exec (.sigLoRead link) ⟨c, d, q⟩ = .next ⟨c, e, q⟩ ∧
      e.rdata = d.tst.sig % 2 ^ 32 ∧
      e.get Reg.TST_SIG_LO_SIG_LO = d.tst.sig % 2 ^ 32 ∧
      e.get Reg.TST_SIG_HI_SIG_HI = d.tst.sig / 2 ^ 32 % 2 ^ 32 ∧
      e = { d with regs := e.regs, rdata := e.rdata } ∧
      RegsOnly [Reg.TST_SIG_LO_SIG_LO, Reg.TST_SIG_HI_SIG_HI] d e) ∧
  -- REC_DATA_READ
  (∀ (c : Clock) (d : Dev) (q : List Instr) (link : Fin 2),
    d.deny (.bar2 link) false ((Reg.FLT_REC_DATA_DATA 0).off) 4 = none →
    ∃ e, exec (.recDataRead link) ⟨c, d, q⟩ = .next ⟨c, e, q⟩ ∧
      e.rdata = ofLe (slice d.recShown 0 4) ∧
      e.flt.latch = d.recShown.drop 4 ∧
      e = { d with rdata := e.rdata, flt := { d.flt with latch := e.flt.latch } })

/-- COMMIT_REQ captures a block's pending set and COMMIT_DISCARD reloads it. Both writes need an access that nothing stands
against. The base of block b is blkBase b. (R17, R18, R20, R21, 01_architecture.md) -/
def Obligations.BlockCommitRequests : Prop :=
  -- COMMIT_REQ
  (∀ (c : Clock) (d : Dev) (q : List Instr) (link : Fin 2) (b : Fin 10),
    d.deny (.bar2 link) true ((Reg.BLK_COMMIT_CTL_REQ (blkBase b)).off) 4 = none →
    d.blk (blkBase b) = none →
    ∃ e, exec (.commitReq link b) ⟨c, d, q⟩ = .next ⟨c, e, q⟩ ∧
      e.get (Reg.BLK_COMMIT_CTL_REQ (blkBase b)) = 1 ∧
      e.blk (blkBase b) = some
        { epoch := cdiv (c.tick + 2000) epochTicks, vals := d.capture (blkKeys (blkBase b)), who := e.who } ∧
      e.blkPend = d.blkPend.ins (blkBase b) (e.blk (blkBase b)) ∧
      e = { d with regs := e.regs, who := e.who, blkPend := e.blkPend } ∧
      RegsOnly [Reg.BLK_COMMIT_CTL_REQ (blkBase b)] d e) ∧
  -- COMMIT_REQ while one is pending
  (∀ (c : Clock) (d : Dev) (q : List Instr) (link : Fin 2) (b : Fin 10),
    d.deny (.bar2 link) true ((Reg.BLK_COMMIT_CTL_REQ (blkBase b)).off) 4 = none →
    (d.blk (blkBase b)).isSome = true →
    ∃ e, exec (.commitReq link b) ⟨c, d, q⟩ = .next ⟨c, e, q⟩ ∧
      e.get (Reg.BLK_COMMIT_STS_BUSY_REJ (blkBase b)) = 1 ∧
      e = { d with regs := e.regs, who := e.who } ∧
      RegsOnly [Reg.BLK_COMMIT_STS_BUSY_REJ (blkBase b)] d e) ∧
  -- COMMIT_DISCARD
  (∀ (c : Clock) (d : Dev) (q : List Instr) (link : Fin 2) (b : Fin 10),
    d.deny (.bar2 link) true ((Reg.BLK_COMMIT_CTL_REQ (blkBase b)).off) 4 = none →
    d.blk (blkBase b) = none →
    d.regs.Pairwise (fun x y => x.1 < y.1) →
    ∃ e, exec (.commitDiscard link b) ⟨c, d, q⟩ = .next ⟨c, e, q⟩ ∧
      Reloaded (blkKeys (blkBase b)) d e ∧
      e = { d with who := e.who, staged := e.staged })

/-- At its epoch boundary a pending block commit is applied whole, or refused with nothing applied. For a module with one
commit pending and due, no self-test visit waiting, and register tables in rising key order. (R8, R17, R19, R20, R22, R644) -/
def Obligations.EpochBoundaryDecides : Prop :=
  -- EPOCH_BOUNDARY
  (∀ (c : Clock) (d : Dev) (q : List Instr),
    d.blkPend = [] →
    d.tst.visits = [] →
    d.tst.queue = [] →
    (∀ u ∈ d.tst.units, u.2.retry = none) →
    ∃ c' e, exec (.epochBoundary) ⟨c, d, q⟩ = .next ⟨c', e, q⟩ ∧
      c'.tick = (c.tick + (epochTicks - c.tick % epochTicks)) % 2 ^ 64 ∧
      c'.stamp = c.stamp ∧
      c'.ang = (ticks (epochTicks - c.tick % epochTicks) c d).1.ang ∧
      e.host = { d.host with moved := [], engUsed := [], sanitize := e.host.sanitize } ∧
      e = { d with regs := e.regs, host := e.host, decks := e.decks, ages := e.ages } ∧
      RegsOnly [Reg.TST_STS_IN_TEST, Reg.TST_STS_ROWS_USED, Reg.TST_STS_FULL] d e) ∧
  -- EPOCH_BOUNDARY, a commit whose rules hold
  (∀ (c : Clock) (d : Dev) (q : List Instr) (base : Nat) (p : BlkPend),
    d.blkPend = [(base, some p)] →
    base ∈ blkBases →
    p.epoch * epochTicks ≤ c.tick + (epochTicks - c.tick % epochTicks) →
    c.tick + epochTicks < 2 ^ 64 →
    d.reload = none →
    d.ledFull = false →
    d.tst.visits = [] →
    d.tst.queue = [] →
    d.regs.Pairwise (fun x y => x.1 < y.1) →
    p.vals.Pairwise (fun x y => x.1 < y.1) →
    (∀ x ∈ p.vals, blkKeys base x.1 = true ∧ accOf x.1 = .rws) →
    blkRules base (d.applySet (blkKeys base) p.vals) = none →
    ∃ c' e, exec (.epochBoundary) ⟨c, d, q⟩ = .next ⟨c', e, q⟩ ∧
      Applied (blkKeys base) p.vals d e ∧
      e.blk base = none ∧
      e.get (Reg.BLK_COMMIT_CTL_REQ base) = 0 ∧
      e.get (Reg.BLK_COMMIT_STS_RESULT base) = 1 ∧
      e.led.next = d.led.next + 1) ∧
  -- EPOCH_BOUNDARY, a commit that fails a rule
  (∀ (c : Clock) (d : Dev) (q : List Instr) (base : Nat) (p : BlkPend) (r : Nat),
    d.blkPend = [(base, some p)] →
    base ∈ blkBases →
    p.epoch * epochTicks ≤ c.tick + (epochTicks - c.tick % epochTicks) →
    c.tick + epochTicks < 2 ^ 64 →
    d.reload = none →
    d.tst.visits = [] →
    d.tst.queue = [] →
    blkRules base (d.applySet (blkKeys base) p.vals) = some r →
    ∃ c' e, exec (.epochBoundary) ⟨c, d, q⟩ = .next ⟨c', e, q⟩ ∧
      RwsKept d e ∧
      e.blk base = none ∧
      e.get (Reg.BLK_COMMIT_STS_RESULT base) = 2 ∧
      e.get (Reg.BLK_COMMIT_STS_RULE base) = r % 2 ^ (Reg.BLK_COMMIT_STS_RULE base).w ∧
      e.staged = d.staged) ∧
  -- EPOCH_BOUNDARY, a commit under a reload
  (∀ (c : Clock) (d : Dev) (q : List Instr) (base : Nat) (p : BlkPend),
    d.blkPend = [(base, some p)] →
    base ∈ blkBases →
    p.epoch * epochTicks ≤ c.tick + (epochTicks - c.tick % epochTicks) →
    c.tick + epochTicks < 2 ^ 64 →
    d.reloadsBlock base = true →
    d.tst.visits = [] →
    d.tst.queue = [] →
    ∃ c' e, exec (.epochBoundary) ⟨c, d, q⟩ = .next ⟨c', e, q⟩ ∧
      RwsKept d e ∧
      e.blk base = none ∧
      e.get (Reg.BLK_COMMIT_STS_RESULT base) = 3)

/-- A word write treats every field by its access class, through BAR2 and through MCTP. For the words without special effects
of MGMT (but ETH_CFG), HQ, CMP and SEAM: RO keeps its value, W1C clears the bits written 1, RWL and RWX take the written
value, RWS takes it as its staged value only; fields of other words keep theirs. (R4, R5, R7, R393, 01_architecture.md,
12_host_attachment.md) -/
def Obligations.RegisterWordWrites : Prop :=
  -- REG_WRITE
  (∀ (c : Clock) (d : Dev) (q : List Instr) (link : Fin 2) (off : Nat) (v : Word) (o : BusObs),
    d.deny (.bar2 link) true off 4 = none →
    (off / deckSpan = 4 ∨ off / deckSpan = 9 ∨ off / deckSpan = 3 ∨ (off / deckSpan = 0 ∧ (off < 0x300 ∨ 0x310 ≤ off))) →
    off % deckSpan ≠ 0xFF00 →
    d.selected off = some off →
    ∃ e, exec (.regWrite link off 4 v o) ⟨c, d, q⟩ = .next ⟨c, e, q⟩ ∧
      (∀ r i f, regAt off = some (r, i) → f ∈ r.fields → ByClass ⟨off, f.lo, f.w⟩ f.acc (bits v.toNat f.lo f.w) d e) ∧
      (∀ k, k / 32 ≠ off → FMap.get resetOf e.regs k = FMap.get resetOf d.regs k ∧ FMap.get resetOf e.staged k = FMap.get
        resetOf d.staged k) ∧
      e = { d with regs := e.regs, staged := e.staged, who := e.who }) ∧
  -- REG_WRITE of a deck
  (∀ (c : Clock) (d : Dev) (q : List Instr) (link : Fin 2) (n : Fin 16) (t : Nat) (v : Word) (o : BusObs),
    d.deny (.bar2 link) true ((deckBase + n * deckSpan + t)) 4 = none →
    (t = 4 ∨ t = 0x10018 ∨ t = 0x5001C ∨ t = 0x80008 ∨ t = 0x60020) →
    (d.sldSt n = slDISABLED ∧ d.spnSt n = spOFF) →
    ∃ e, exec (.regWrite link (deckBase + n * deckSpan + t) 4 v o) ⟨c, d, q⟩ = .next ⟨c, e, q⟩ ∧
      (∀ r i f, regAt (deckBase + n * deckSpan + t) = some (r, i) → f ∈ r.fields → ByClass ⟨deckBase + n * deckSpan + t,
        f.lo, f.w⟩ f.acc (bits v.toNat f.lo f.w) d e) ∧
      (∀ k, k / 32 ≠ deckBase + n * deckSpan + t → FMap.get resetOf e.regs k = FMap.get resetOf d.regs k ∧ FMap.get resetOf
        e.staged k = FMap.get resetOf d.staged k) ∧
      e = { d with regs := e.regs, staged := e.staged, who := e.who }) ∧
  -- REGISTER_WRITE
  (∀ (c : Clock) (d : Dev) (q : List Instr) (pcie : Bool) (dw v : Word) (o : BusObs),
    d.deny (.mctp pcie) true (4 * dw.toNat) 4 = none →
    d.mctpSession pcie = true →
    (d.pwr.mode = .run ∧ d.pwr.entry = 0) →
    (4 * dw.toNat / deckSpan = 4 ∨ 4 * dw.toNat / deckSpan = 9 ∨ 4 * dw.toNat / deckSpan = 3) →
    4 * dw.toNat % deckSpan ≠ 0xFF00 →
    d.selected (4 * dw.toNat) = some (4 * dw.toNat) →
    ∃ e, exec (.registerWrite pcie dw v o) ⟨c, d, q⟩ = .next ⟨c, e, q⟩ ∧
      (∀ r i f, regAt (4 * dw.toNat) = some (r, i) → f ∈ r.fields → ByClass ⟨4 * dw.toNat, f.lo, f.w⟩ f.acc (bits v.toNat
        f.lo f.w) d e) ∧
      (∀ k, k / 32 ≠ 4 * dw.toNat → FMap.get resetOf e.regs k = FMap.get resetOf d.regs k ∧ FMap.get resetOf e.staged k =
        FMap.get resetOf d.staged k) ∧
      e = { d with regs := e.regs, staged := e.staged, who := e.who, misc := e.misc }) ∧
  -- REGISTER_READ
  (∀ (c : Clock) (d : Dev) (q : List Instr) (pcie : Bool) (dw : Word),
    d.deny (.mctp pcie) false (4 * dw.toNat) 4 = none →
    d.mctpSession pcie = true →
    (d.pwr.mode = .run ∧ d.pwr.entry = 0) →
    (4 * dw.toNat / deckSpan = 4 ∨ 4 * dw.toNat / deckSpan = 9) →
    ∃ e, exec (.registerRead pcie dw) ⟨c, d, q⟩ = .next ⟨c, e, q⟩ ∧
      e.rdata = shownWord c d (4 * dw.toNat) ∧
      (e.misc.miOut.drop 4).take 4 = le 4 (shownWord c d (4 * dw.toNat)) ∧
      e = { d with rdata := e.rdata, misc := { d.misc with miOut := e.misc.miOut, miSev := 0 } })

/-- What Plait Load, its timeout, and the end of a pending reload do. A completion is stated for a command whose context is to
have one. (R36, R38, R40, R41, R42, R46, 02_structure_image_and_sheaves.md) -/
def Obligations.PlaitLoadAndReload : Prop :=
  -- PLAIT_LOAD of a first piece
  (∀ (c : Clock) (d : Dev) (q : List Instr) (stamp ofst : Nat) (piece : List Byte) (dest : Fin 4) (select : Bool) (subtree
        : Word) (quiesce : Nat) (x : Ctx),
    d.running stamp .plaitLoad = some x →
    (x.mute = false ∧ x.posted = false) →
    d.load = none →
    dest ≠ 3 →
    ∃ e, exec (.plaitLoad stamp ofst piece false dest select subtree quiesce) ⟨c, d, q⟩ = .next ⟨c, e, q⟩ ∧
      e.load = some { cid := x.cid, pieces := [(4 * ofst, piece)], last := c.tick } ∧
      Completed stamp x .success 0 0 [] d e ∧
      (d.plait.isNone = true → e.get Reg.MGMT_PLAIT_STS_STATE = 1) ∧
      (d.plait.isNone = false → e.regs = d.regs) ∧
      e = { d with regs := e.regs, load := e.load, host := { d.host with ctxs := e.host.ctxs, posted := e.host.posted } } ∧
      RegsOnly [Reg.MGMT_PLAIT_STS_STATE] d e) ∧
  -- PLAIT_LOAD of a further piece
  (∀ (c : Clock) (d : Dev) (q : List Instr) (stamp ofst : Nat) (piece : List Byte) (dest : Fin 4) (select : Bool) (subtree
        : Word) (quiesce : Nat) (x : Ctx) (l : LoadNow),
    d.running stamp .plaitLoad = some x →
    (x.mute = false ∧ x.posted = false) →
    d.load = some l →
    l.cid = x.cid →
    l.pieces.any (pieceOverlaps (4 * ofst, piece)) = false →
    dest ≠ 3 →
    ∃ e, exec (.plaitLoad stamp ofst piece false dest select subtree quiesce) ⟨c, d, q⟩ = .next ⟨c, e, q⟩ ∧
      e.load = some { cid := x.cid, pieces := l.pieces ++ [(4 * ofst, piece)], last := c.tick } ∧
      Completed stamp x .success 0 0 [] d e) ∧
  -- PLAIT_LOAD with LAST of an image that does not verify
  (∀ (c : Clock) (d : Dev) (q : List Instr) (stamp ofst : Nat) (piece : List Byte) (dest : Fin 4) (select : Bool) (subtree
        : Word) (quiesce : Nat) (x : Ctx) (r : Nat),
    d.running stamp .plaitLoad = some x →
    (x.mute = false ∧ x.posted = false) →
    (∀ k ∈ d.ctrls, stamp ∉ k.aers) →
    d.load = none →
    dest ≠ 3 →
    (piece.length < 64 ∨ leAt piece 0x1C 4 = subtree.toNat) →
    ofst = 0 →
    d.get Reg.MEM_STS_STATE = 2 →
    verifyPlait d d.dramGib piece = .inl r →
    ∃ e, exec (.plaitLoad stamp ofst piece true dest select subtree quiesce) ⟨c, d, q⟩ = .next ⟨c, e, q⟩ ∧
      e.get Reg.MGMT_PLAIT_STS_REASON = r % 2 ^ Reg.MGMT_PLAIT_STS_REASON.w ∧
      e.get Reg.MGMT_PLAIT_STS_REJ = 1 ∧
      (e.get Reg.MGMT_PLAIT_STS_STATE = if d.plait.isSome then 2 else 4) ∧
      e.plait = d.plait ∧ e.load = none ∧ e.flash = d.flash ∧ e.reload = d.reload ∧
      Answered stamp x .plaitRejected r 0 [] e) ∧
  -- PLAIT_LOAD_TIMEOUT
  (∀ (c : Clock) (d : Dev) (q : List Instr) (l : LoadNow),
    (d.load = some l ∧ l.last + 10 * tickS ≤ c.tick) →
    ∃ e, exec (.plaitLoadTimeout) ⟨c, d, q⟩ = .next ⟨c, e, q⟩ ∧
      e.load = none ∧
      (e.get Reg.MGMT_PLAIT_STS_STATE = if d.get Reg.MGMT_PLAIT_STS_STATE = 1 then (if d.plait.isSome then 2 else 4) else
        d.get Reg.MGMT_PLAIT_STS_STATE) ∧
      e = { d with regs := e.regs, load := e.load } ∧
      RegsOnly [Reg.MGMT_PLAIT_STS_STATE] d e) ∧
  -- SUBTREE_RELOAD_APPLY
  (∀ (c : Clock) (d : Dev) (q : List Instr) (r : ReloadNow) (q' : Plait) (x : Ctx),
    d.reload = some r →
    d.plait = some q' →
    d.reloadIdle r.image = true →
    (d.ledFull = false ∧ d.led.bad = false) →
    (d.ctx r.stamp = some x ∧ x.mute = false ∧ x.posted = false) →
    (∀ k ∈ d.ctrls, r.stamp ∉ k.aers) →
    r.dest ≠ 1 →
    ∃ e, exec (.subtreeReloadApply) ⟨c, d, q⟩ = .next ⟨c, e, q⟩ ∧
      e.reload = none ∧
      e.plait = some (if r.image.subtree then mergeSubtree q' r.image else r.image) ∧
      e.get Reg.MGMT_PLAIT_STS_STATE = 2 ∧
      e.get Reg.MGMT_PLAIT_STS_SOURCE = 3 ∧
      e.flash = d.flash ∧ e.mem = d.mem ∧
      Answered r.stamp x .success 0 0 [] e) ∧
  -- RELOAD_QUIESCE_TIMEOUT
  (∀ (c : Clock) (d : Dev) (q : List Instr) (r : ReloadNow) (x : Ctx),
    d.reload = some r →
    (d.reloadIdle r.image = false ∧ r.until' ≤ c.tick) →
    (d.ctx r.stamp = some x ∧ x.mute = false ∧ x.posted = false) →
    (∀ k ∈ d.ctrls, r.stamp ∉ k.aers) →
    ∃ e, exec (.reloadQuiesceTimeout) ⟨c, d, q⟩ = .next ⟨c, e, q⟩ ∧
      e.reload = none ∧ e.plait = d.plait ∧ e.flash = d.flash ∧
      e.get Reg.MGMT_PLAIT_STS_REASON = 0x10 ∧
      e.get Reg.MGMT_PLAIT_STS_REJ = 1 ∧
      Answered r.stamp x .plaitRejected 0x10 0 [] e)

/-- Seam ports come up, fail, fall back and lose members; a forwarded command runs here. The seam's rows act only while the
SEAM domain (6) is on. (R29, R30, R43, R44, R45, R46, 02_structure_image_and_sheaves.md) -/
def Obligations.SeamLinks : Prop :=
  -- SEAM_PORT_BRINGUP
  (∀ (c : Clock) (d : Dev) (q : List Instr) (k : Fin 6) (locked peerDev peerPort sheaf : Nat) (digest : List Byte) (reach :
        List (Nat × Nat × List Byte)) (p : Plait),
    d.domOn 6 = true →
    d.plait = some p →
    (p.port k) = (peerDev, peerPort, true) →
    d.get (Reg.SEAM_PORT_STS_STATE k) = 1 →
    (locked % 16 ≠ 0 ∧ lanesOf locked ≠ 0) →
    peerDev ≠ p.deviceNum →
    digest = p.sheafDigest →
    (d.misc.routes = [] ∧ reach.length ≤ 6) →
    ∃ e, exec (.seamPortBringup k locked (some ⟨peerDev, peerPort, sheaf⟩) digest (some true) true reach) ⟨c, d, q⟩ = .next
        ⟨c, e, q⟩ ∧
      e.get (Reg.SEAM_PORT_STS_STATE k) = 2 ∧
      e.get (Reg.SEAM_PORT_STS_STEP k) = 6 ∧
      e.get (Reg.SEAM_PORT_STS_LANES k) = lanesOf locked ∧
      e.get (Reg.SEAM_PORT_STS_PEER_DEV k) = peerDev % 2 ^ 18 ∧
      (peerDev, k.val, 0) ∈ e.misc.routes ∧
      peerDev ∉ e.misc.unreachable ∧
      e = { d with regs := e.regs, misc := e.misc, ctrls := e.ctrls, host := e.host } ∧
      RegsOnly [Reg.SEAM_PORT_STS_STATE k, Reg.SEAM_PORT_STS_STEP k, Reg.SEAM_PORT_STS_LANES k, Reg.SEAM_PORT_STS_PEER_DEV
        k, Reg.SEAM_PORT_STS_PEER_PORT k] d e) ∧
  -- SEAM_PORT_BRINGUP with no lane locked
  (∀ (c : Clock) (d : Dev) (q : List Instr) (k : Fin 6) (peer : Option SeamPeer) (digest : List Byte) (auth : Option Bool)
        (routed : Bool) (reach : List (Nat × Nat × List Byte)) (p : Plait),
    d.domOn 6 = true →
    d.plait = some p →
    (p.port k).2.2 = true →
    d.get (Reg.SEAM_PORT_STS_STATE k) = 1 →
    ∃ e, exec (.seamPortBringup k 0 peer digest auth routed reach) ⟨c, d, q⟩ = .next ⟨c, e, q⟩ ∧
      e.get (Reg.SEAM_PORT_STS_STATE k) = 0 ∧
      e.get (Reg.SEAM_PORT_STS_STEP k) = 1 ∧
      k.val ∈ e.misc.seamFail) ∧
  -- SEAM_RETRY_TIMER
  (∀ (c : Clock) (d : Dev) (q : List Instr) (k : Fin 6),
    d.domOn 6 = true →
    (k.val ∈ d.misc.seamFail ∧ 100 * tickMs ≤ d.devAge (gSEAM k)) →
    ∃ e, exec (.seamRetryTimer k) ⟨c, d, q⟩ = .next ⟨c, e, q⟩ ∧
      e.get (Reg.SEAM_PORT_STS_STATE k) = 1 ∧
      e.get (Reg.SEAM_PORT_STS_STEP k) = 0 ∧
      k.val ∉ e.misc.seamFail ∧
      e = { d with regs := e.regs, misc := { d.misc with seamFail := e.misc.seamFail, routes := e.misc.routes } } ∧
      RegsOnly [Reg.SEAM_PORT_STS_STATE k, Reg.SEAM_PORT_STS_STEP k, Reg.SEAM_PORT_STS_LANES k] d e) ∧
  -- SEAM_LANE_FAIL
  (∀ (c : Clock) (d : Dev) (q : List Instr) (k : Fin 6),
    d.domOn 6 = true →
    d.get (Reg.SEAM_PORT_STS_STATE k) = 2 →
    d.get (Reg.SEAM_PORT_STS_LANES k) = 4 →
    ∃ e, exec (.seamLaneFail k) ⟨c, d, q⟩ = .next ⟨c, e, q⟩ ∧
      e.get (Reg.SEAM_PORT_STS_LANES k) = 2 ∧
      e = { d with regs := e.regs } ∧
      RegsOnly [Reg.SEAM_PORT_STS_LANES k] d e) ∧
  -- SEAM_MEMBER_UNREACHABLE
  (∀ (c : Clock) (d : Dev) (q : List Instr) (dev : Nat) (eth : Option (List Byte)) (p : Plait),
    d.plait = some p →
    p.sheafDevs.contains dev = true →
    (eth = none ∨ p.peers.any (fun r => r.dev == dev) = false) →
    ∃ e, exec (.seamMemberUnreachable dev eth) ⟨c, d, q⟩ = .next ⟨c, e, q⟩ ∧
      dev ∈ e.misc.unreachable ∧
      (∀ r ∈ e.misc.routes, r.1 ≠ dev) ∧
      (∀ n ∈ d.nsOver dev, n ∈ e.host.changed) ∧
      e = { d with misc := e.misc, ctrls := e.ctrls, host := e.host }) ∧
  -- SHEAF_FORWARD of a command
  (∀ (c : Clock) (d : Dev) (q : List Instr) (hc : HostCmd) (wid tai : Nat),
    d.plait.isSome = true →
    (hc.op ≠ .write ∧ hc.op ≠ .zoneAppend) →
    ∃ e, exec (.sheafForward (.cmd hc wid tai)) ⟨c, d, q⟩ = .next ⟨c, e, q⟩ ∧
      e.host.ctxs = d.host.ctxs ++ [{ stamp := 2 ^ 64 + d.host.mtag, cid := seamCid, sq := 0, cmd := hc, phase :=
                                        .transfer, wid := wid, tai := tai }] ∧
      e = { d with host := { d.host with mtag := d.host.mtag + 1, ctxs := e.host.ctxs } }) ∧
  -- SHEAF_FORWARD of a failed result
  (∀ (c : Clock) (d : Dev) (q : List Instr) (dev stamp dw0 dw1 : Nat) (st : Sts) (data : List Byte) (all : Bool) (x : Ctx),
    (d.ctx stamp = some x ∧ x.mute = false ∧ x.posted = false) →
    (x.phase ≠ .held ∧ x.phase ≠ .done) →
    st ≠ .success →
    ∃ e, exec (.sheafForward (.result dev stamp st dw0 dw1 data all)) ⟨c, d, q⟩ = .next ⟨c, e, q⟩ ∧
      Completed stamp x st dw0 dw1 [] d e ∧
      e = { d with host := { d.host with ctxs := e.host.ctxs, posted := e.host.posted } })

/-- What the timebase of a deck does at marks, at lost marks and on its commands. A deck's rows act while its DECK domain is
on. (R51, R53, R54, R59, R67, 03_angle_timebase.md) -/
def Obligations.TimebaseRows : Prop :=
  -- CLOCK_MARK in SEARCH
  (∀ (c : Clock) (d : Dev) (q : List Instr) (n : Fin 16) (w : Fin 1024) (eps : List (Fin 66 × Int)),
    d.deckOn n = true →
    d.tbState n = tbSEARCH →
    (d.deck n).tb.last = none →
    (d.deck n).reinit = [] →
    ∃ c' e, exec (.clockMark n (some w) eps) ⟨c, d, q⟩ = .next ⟨c', e, q⟩ ∧
      c' = c ∧
      e.deck n = { d.deck n with tb := { (d.deck n).tb with last := some (w.val, c.tick) } } ∧
      DeckOnly n d e ∧
      e = { d with decks := e.decks }) ∧
  -- CLOCK_MARK, the second in SEARCH
  (∀ (c : Clock) (d : Dev) (q : List Instr) (n : Fin 16) (w : Fin 1024) (eps : List (Fin 66 × Int)) (i0 t0 : Nat),
    d.deckOn n = true →
    d.tbState n = tbSEARCH →
    (d.deck n).tb.last = some (i0, t0) →
    acquires (d.get (Reg.ANG_INC_INC n)) (c.tick - t0) i0 w = true →
    ∃ c' e, exec (.clockMark n (some w) eps) ⟨c, d, q⟩ = .next ⟨c', e, q⟩ ∧
      c' = c.setCounter n (reloadTo (c.grains n) w * 2 ^ 24) ∧
      e.tbState n = tbACQUIRE ∧
      e.get (Reg.ANG_STS_JUMP n) = 1) ∧
  -- CLOCK_MARK while LOCKED
  (∀ (c : Clock) (d : Dev) (q : List Instr) (n : Fin 16) (idx : Option (Fin 1024)),
    d.deckOn n = true →
    d.tbState n = tbLOCKED →
    (markError (c.grain n)).natAbs ≤ d.get (Reg.ANG_PLL_TOL_WIN n) * 64 →
    ((d.deck n).tb.badPh < 3 ∧ (d.deck n).tb.badIx < 2) →
    d.getB (Reg.ANG_PLL_CFG_FF_EN n) = false →
    (d.deck n).reinit = [] →
    ∃ c' e, exec (.clockMark n idx []) ⟨c, d, q⟩ = .next ⟨c', e, q⟩ ∧
      c' = c ∧
      e.tbState n = tbLOCKED ∧
      e.get (Reg.ANG_STS_PHASE_ERR n) = ux 16 (markError (c.grain n)) ∧
      e.get (Reg.ANG_INC_INC n) = (clampI 0 (2 ^ 32 - 1) ((d.get (Reg.ANG_INC_INC n) : Int) + Config.rnd (markError
        (c.grain n) * 2 ^ 24) (2 ^ d.get (Reg.ANG_PLL_CFG_KI_SHIFT n)))).toNat ∧
      (e.deck n).tb.corr = Config.rnd (markError (c.grain n) * 2 ^ 24) (2 ^ d.get (Reg.ANG_PLL_CFG_KP_SHIFT n)) ∧
      (e.deck n).tb.miss = 0 ∧
      ((e.deck n).tb.badIx = if idx.map Fin.val = some (markWedge (c.grain n)) then 0 else (d.deck n).tb.badIx + 1) ∧
      e.deck n = { d.deck n with tb := (e.deck n).tb, gate := (e.deck n).gate, link := (e.deck n).link, pass := (e.deck
                                   n).pass, ages := (e.deck n).ages, primer := (e.deck n).primer } ∧
      DeckOnly n d e ∧
      e = { d with regs := e.regs, decks := e.decks } ∧
      RegsOnly [Reg.ANG_STS_PHASE_ERR n, Reg.ANG_INC_INC n, gateFlag n gSPEED, Reg.WRP_GATE_STS_EMIT_OPEN n,
        Reg.WRP_GATE_STS_CLOSED n, Reg.WRP_LINK_STS_KILL_SENT n] d e) ∧
  -- CLOCK_MARK that locks
  (∀ (c : Clock) (d : Dev) (q : List Instr) (n : Fin 16) (w : Fin 1024),
    d.deckOn n = true →
    d.tbState n = tbACQUIRE →
    (d.deck n).tb.good = 63 →
    (markError (c.grain n)).natAbs ≤ d.get (Reg.ANG_PLL_TOL_LOCK_TOL n) →
    d.get (Reg.ANG_PLL_TOL_LOCK_TOL n) ≤ d.get (Reg.ANG_PLL_TOL_WIN n) * 64 →
    w.val = markWedge (c.grain n) →
    ∃ c' e, exec (.clockMark n (some w) []) ⟨c, d, q⟩ = .next ⟨c', e, q⟩ ∧
      c' = c ∧
      e.tbState n = tbLOCKED ∧
      bit (e.deck n).gate.hold gLOCK = false ∧
      (e.deck n).tb.good = 0) ∧
  -- MARK_WINDOW_MISS
  (∀ (c : Clock) (d : Dev) (q : List Instr) (n : Fin 16),
    d.deckOn n = true →
    (d.tbState n = tbLOCKED ∨ d.tbState n = tbACQUIRE) →
    (d.deck n).tb.miss < 7 →
    (d.deck n).reinit = [] →
    ∃ e, exec (.markWindowMiss n) ⟨c, d, q⟩ = .next ⟨c, e, q⟩ ∧
      e.deck n = { d.deck n with tb :=
                                   { (d.deck n).tb with good := 0, miss := (d.deck n).tb.miss + 1, badPh := 0, badIx := 0 }
                                   } ∧
      DeckOnly n d e ∧
      e = { d with decks := e.decks }) ∧
  -- MARK_WINDOW_MISS, the eighth while LOCKED
  (∀ (c : Clock) (d : Dev) (q : List Instr) (n : Fin 16),
    d.deckOn n = true →
    d.tbState n = tbLOCKED →
    7 ≤ (d.deck n).tb.miss →
    ∃ e, exec (.markWindowMiss n) ⟨c, d, q⟩ = .next ⟨c, e, q⟩ ∧
      e.tbState n = tbHOLDOVER ∧
      e.get (Reg.ANG_STS_UNLOCK n) = 1 ∧
      e.get (Reg.ANG_STS_CAUSE n) = 1 ∧
      bit (e.deck n).gate.hold gLOCK = true ∧
      e.get (Reg.ANG_INC_INC n) = d.get (Reg.ANG_INC_INC n)) ∧
  -- HOLDOVER_TIMEOUT
  (∀ (c : Clock) (d : Dev) (q : List Instr) (n : Fin 16),
    d.deckOn n = true →
    d.tbState n = tbHOLDOVER →
    d.get (Reg.ANG_PLL_CFG_HOLD_MAX n) ≤ (d.deck n).tb.hold →
    ∃ e, exec (.holdoverTimeout n) ⟨c, d, q⟩ = .next ⟨c, e, q⟩ ∧
      e.tbState n = tbSEARCH ∧
      e.get (Reg.ANG_INC_INC n) = incOfRpm (d.getI (Reg.SPN_STS_SPEED n)).natAbs % 2 ^ 32 ∧
      e.get (Reg.LOOP_ENG_STS_FREE n) = 1 ∧
      (e.deck n).tb = {} ∧ (e.deck n).seqPend = [] ∧ (e.deck n).pend = none ∧
      DeckOnly n d e) ∧
  -- FORCE_SEARCH
  (∀ (c : Clock) (d : Dev) (q : List Instr) (link : Fin 2) (n : Fin 16),
    d.deny (.bar2 link) true ((Reg.ANG_PLL_CFG_FORCE_SEARCH n).off) 4 = none →
    d.tbState n ≠ tbOFF →
    ∃ e, exec (.forceSearch link n) ⟨c, d, q⟩ = .next ⟨c, e, q⟩ ∧
      e.tbState n = tbSEARCH ∧
      (d.tbState n = tbLOCKED → e.get (Reg.ANG_STS_UNLOCK n) = 1 ∧ e.get (Reg.ANG_STS_CAUSE n) = 5) ∧
      (e.deck n).tb = {} ∧
      DeckOnly n d e) ∧
  -- TIMEBASE_ENABLE
  (∀ (c : Clock) (d : Dev) (q : List Instr) (n : Fin 16),
    d.deckOn n = true →
    d.dstate n = dFOCUSED →
    d.tbState n = tbOFF →
    ∃ e, exec (.timebaseEnable n) ⟨c, d, q⟩ = .next ⟨c, e, q⟩ ∧
      e.tbState n = tbSEARCH ∧
      e.get (Reg.ANG_TRIG_CFG_MODE n 5) = 4 ∧ e.get (Reg.ANG_TRIG_CFG_ARM n 5) = 1 ∧
      e.get (Reg.ANG_TRIG_CFG_MODE n 0) = 2 ∧ e.get (Reg.ANG_TRIG_CFG_ARM n 0) = 1 ∧
      e.get (Reg.ANG_TRIG_CFG_REQ_LOCK n 3) = 1 ∧
      DeckOnly n d e) ∧
  -- TIMEBASE_DISABLE
  (∀ (c : Clock) (d : Dev) (q : List Instr) (n : Fin 16),
    d.deckOn n = true →
    d.tbState n ≠ tbOFF →
    ∃ e, exec (.timebaseDisable n) ⟨c, d, q⟩ = .next ⟨c, e, q⟩ ∧
      e.tbState n = tbOFF ∧
      e.get (Reg.ANG_INC_INC n) = 0 ∧
      e.get (Reg.LOOP_ENG_STS_FREE n) = 1 ∧
      DeckOnly n d e)

/-- Writes of the angle trigger registers, and a firing. Writes are accesses that nothing stands against. Triggers 0 to 15
belong to the sequencer. (R57, R58, R59, R74, R75, R76, 03_angle_timebase.md) -/
def Obligations.TriggerRegisters : Prop :=
  -- TRIG_CFG_WRITE of a disarmed trigger
  (∀ (c : Clock) (d : Dev) (q : List Instr) (link : Fin 2) (n : Fin 16) (t : Fin 64) (v : Word),
    d.deny (.bar2 link) true ((Reg.ANG_TRIG_CFG_MODE n t).off) 4 = none →
    16 ≤ t.val →
    d.getB (Reg.ANG_TRIG_CFG_ARM n t) = false →
    trigValid (bits v.toNat 0 3) (d.get (Reg.ANG_TRIG_POS_POS n t)) = true →
    (bits v.toNat 0 3 ≠ 1 ∨ bit v.toNat 31 = false) →
    ∃ e, exec (.trigCfgWrite link n t v) ⟨c, d, q⟩ = .next ⟨c, e, q⟩ ∧
      e.get (Reg.ANG_TRIG_CFG_MODE n t) = bits v.toNat 0 3 ∧
      e.get (Reg.ANG_TRIG_CFG_REQ_LOCK n t) = bits v.toNat 13 1 ∧
      e.get (Reg.ANG_TRIG_CFG_LATE_FIRE n t) = bits v.toNat 14 1 ∧
      e.get (Reg.ANG_TRIG_CFG_IRQ_EN n t) = bits v.toNat 15 1 ∧
      e.get (Reg.ANG_TRIG_CFG_ARM n t) = bits v.toNat 31 1 ∧
      (bit v.toNat (Reg.ANG_TRIG_CFG_FIRED n t).lo = true → e.get (Reg.ANG_TRIG_CFG_FIRED n t) = 0) ∧
      (bit v.toNat (Reg.ANG_TRIG_CFG_FIRED n t).lo = false → e.get (Reg.ANG_TRIG_CFG_FIRED n t) = d.get
        (Reg.ANG_TRIG_CFG_FIRED n t)) ∧
      e = { d with regs := e.regs, who := e.who } ∧
      RegsOnly [Reg.ANG_TRIG_CFG_MODE n t, Reg.ANG_TRIG_CFG_REQ_LOCK n t, Reg.ANG_TRIG_CFG_LATE_FIRE n t,
        Reg.ANG_TRIG_CFG_IRQ_EN n t, Reg.ANG_TRIG_CFG_ARM n t, Reg.ANG_TRIG_CFG_FIRED n t, Reg.ANG_TRIG_CFG_LATE n t,
        Reg.ANG_TRIG_CFG_MISSED n t, Reg.ANG_TRIG_CFG_ERR n t] d e) ∧
  -- TRIG_CFG_WRITE of an armed trigger
  (∀ (c : Clock) (d : Dev) (q : List Instr) (link : Fin 2) (n : Fin 16) (t : Fin 64) (v : Word),
    d.deny (.bar2 link) true ((Reg.ANG_TRIG_CFG_MODE n t).off) 4 = none →
    16 ≤ t.val →
    (d.getB (Reg.ANG_TRIG_CFG_ARM n t) = true ∧ bit v.toNat 31 = true) →
    bits v.toNat 0 3 ≠ d.get (Reg.ANG_TRIG_CFG_MODE n t) →
    ∃ e, exec (.trigCfgWrite link n t v) ⟨c, d, q⟩ = .next ⟨c, e, q⟩ ∧
      e.get (Reg.ANG_TRIG_CFG_ERR n t) = 1 ∧
      e = { d with regs := e.regs, who := e.who } ∧
      RegsOnly [Reg.ANG_TRIG_CFG_ERR n t] d e) ∧
  -- TRIG_CFG_WRITE of an owned trigger
  (∀ (c : Clock) (d : Dev) (q : List Instr) (link : Fin 2) (n : Fin 16) (t : Fin 64) (v : Word),
    d.deny (.bar2 link) true ((Reg.ANG_TRIG_CFG_MODE n t).off) 4 = none →
    t.val < 16 →
    ∃ e, exec (.trigCfgWrite link n t v) ⟨c, d, q⟩ = .next ⟨c, e, q⟩ ∧
      e.get (Reg.ANG_TRIG_CFG_ARM n t) = d.get (Reg.ANG_TRIG_CFG_ARM n t) ∧
      e = { d with regs := e.regs, who := e.who } ∧
      RegsOnly [Reg.ANG_TRIG_CFG_FIRED n t, Reg.ANG_TRIG_CFG_LATE n t, Reg.ANG_TRIG_CFG_MISSED n t, Reg.ANG_TRIG_CFG_ERR n
        t] d e) ∧
  -- TRIG_POS_WRITE
  (∀ (c : Clock) (d : Dev) (q : List Instr) (link : Fin 2) (n : Fin 16) (t : Fin 64) (v : Word),
    d.deny (.bar2 link) true ((Reg.ANG_TRIG_POS_POS n t).off) 4 = none →
    16 ≤ t.val →
    d.getB (Reg.ANG_TRIG_CFG_ARM n t) = false →
    trigValid (d.get (Reg.ANG_TRIG_CFG_MODE n t)) (bits v.toNat 0 24) = true →
    ∃ e, exec (.trigPosWrite link n t v) ⟨c, d, q⟩ = .next ⟨c, e, q⟩ ∧
      e.get (Reg.ANG_TRIG_POS_POS n t) = bits v.toNat 0 24 ∧
      e.get (Reg.ANG_TRIG_POS_REV_HI n t) = bits v.toNat 24 8 ∧
      e = { d with regs := e.regs, who := e.who } ∧
      RegsOnly [Reg.ANG_TRIG_POS_POS n t, Reg.ANG_TRIG_POS_REV_HI n t] d e) ∧
  -- TRIG_POS_WRITE of an armed trigger
  (∀ (c : Clock) (d : Dev) (q : List Instr) (link : Fin 2) (n : Fin 16) (t : Fin 64) (v : Word),
    d.deny (.bar2 link) true ((Reg.ANG_TRIG_POS_POS n t).off) 4 = none →
    16 ≤ t.val →
    d.getB (Reg.ANG_TRIG_CFG_ARM n t) = true →
    ∃ e, exec (.trigPosWrite link n t v) ⟨c, d, q⟩ = .next ⟨c, e, q⟩ ∧
      e.get (Reg.ANG_TRIG_CFG_ERR n t) = 1 ∧
      e = { d with regs := e.regs, who := e.who } ∧
      RegsOnly [Reg.ANG_TRIG_CFG_ERR n t] d e) ∧
  -- TRIG_REV_WRITE
  (∀ (c : Clock) (d : Dev) (q : List Instr) (link : Fin 2) (n : Fin 16) (t : Fin 64) (v : Word),
    d.deny (.bar2 link) true ((Reg.ANG_TRIG_REV_REV_LO n t).off) 4 = none →
    16 ≤ t.val →
    d.getB (Reg.ANG_TRIG_CFG_ARM n t) = false →
    ∃ e, exec (.trigRevWrite link n t v) ⟨c, d, q⟩ = .next ⟨c, e, q⟩ ∧
      e.get (Reg.ANG_TRIG_REV_REV_LO n t) = v.toNat ∧
      e = { d with regs := e.regs, who := e.who } ∧
      RegsOnly [Reg.ANG_TRIG_REV_REV_LO n t] d e) ∧
  -- TRIGGER_FIRE
  (∀ (c : Clock) (d : Dev) (q : List Instr) (n : Fin 16) (t : Fin 64) (w : WedgeObs) (o : ServoObs),
    d.deckOn n = true →
    16 ≤ t.val →
    (trigsDue d c n = [t.val] ∧ trigHeld d n t = false) →
    ((d.deck n).pend = none ∧ (d.deck n).seqPend = []) →
    ((d.deck n).sparePend 0 = none ∧ (d.deck n).sparePend 1 = none) →
    (∀ s : Fin 8, ((d.deck n).slot s).swap = none) →
    ∃ e, exec (.triggerFire n w o) ⟨c, d, q⟩ = .next ⟨c, e, q⟩ ∧
      e.get (Reg.ANG_TRIG_CFG_FIRED n t) = 1 ∧
      e.getB (Reg.ANG_TRIG_CFG_ARM n t) = decide (d.get (Reg.ANG_TRIG_CFG_MODE n t) ≠ 1) ∧
      e.deck n = { d.deck n with tb := { (d.deck n).tb with acted := true }, signals := if d.getB (Reg.ANG_TRIG_CFG_IRQ_EN
                                   n t) then [t.val] else [] } ∧
      DeckOnly n d e ∧
      e = { d with regs := e.regs, decks := e.decks } ∧
      RegsOnly [Reg.ANG_TRIG_CFG_FIRED n t, Reg.ANG_TRIG_CFG_ARM n t] d e) ∧
  -- TRIGGER_FIRE of a trigger that waits for LOCKED
  (∀ (c : Clock) (d : Dev) (q : List Instr) (n : Fin 16) (t : Fin 64) (w : WedgeObs) (o : ServoObs),
    d.deckOn n = true →
    t.val ≠ 5 →
    (trigsDue d c n = [t.val] ∧ trigHeld d n t = true) →
    (d.deck n).pend = none →
    (∀ s : Fin 8, ((d.deck n).slot s).swap = none) →
    ∃ e, exec (.triggerFire n w o) ⟨c, d, q⟩ = .next ⟨c, e, q⟩ ∧
      e.get (Reg.ANG_TRIG_CFG_MISSED n t) = 1 ∧
      e.deck n = { d.deck n with tb := { (d.deck n).tb with acted := true } } ∧
      DeckOnly n d e ∧
      e = { d with regs := e.regs, decks := e.decks } ∧
      RegsOnly [Reg.ANG_TRIG_CFG_MISSED n t] d e)

/-- A deck's software commit: requested, cancelled, discarded, and decided at its trigger all or nothing. Writes are accesses
that nothing stands against. (R18, R62, R63, R65, R77, R78, 03_angle_timebase.md) -/
def Obligations.DeckCommits : Prop :=
  -- DECK_COMMIT_REQ
  (∀ (c : Clock) (d : Dev) (q : List Instr) (link : Fin 2) (n : Fin 16) (mask : Fin 512) (trig : Fin 64),
    d.deny (.bar2 link) true ((Reg.ANG_COMMIT_CTL_REQ n).off) 4 = none →
    (d.deck n).pend = none →
    (d.getB (Reg.ANG_TRIG_CFG_ARM n trig) = true ∧ d.get (Reg.ANG_TRIG_CFG_MODE n trig) ≠ 0) →
    d.tbFires n = true →
    ∃ e, exec (.deckCommitReq link n mask trig) ⟨c, d, q⟩ = .next ⟨c, e, q⟩ ∧
      e.get (Reg.ANG_COMMIT_CTL_REQ n) = 1 ∧
      e.get (Reg.ANG_COMMIT_CTL_SUB_MASK n) = mask.val ∧ e.get (Reg.ANG_COMMIT_CTL_TRIG n) = trig.val ∧
      e.deck n = { d.deck n with pend := some
                                   { mask := mask, trig := trig, req := c.tick, vals := d.capture (subKeys n mask), who :=
                                       e.who } } ∧
      DeckOnly n d e ∧
      e = { d with regs := e.regs, decks := e.decks, who := e.who } ∧
      RegsOnly [Reg.ANG_COMMIT_CTL_REQ n, Reg.ANG_COMMIT_CTL_SUB_MASK n, Reg.ANG_COMMIT_CTL_TRIG n] d e) ∧
  -- DECK_COMMIT_REQ while one waits
  (∀ (c : Clock) (d : Dev) (q : List Instr) (link : Fin 2) (n : Fin 16) (mask : Fin 512) (trig : Fin 64),
    d.deny (.bar2 link) true ((Reg.ANG_COMMIT_CTL_REQ n).off) 4 = none →
    (d.deck n).pend.isSome = true →
    ∃ e, exec (.deckCommitReq link n mask trig) ⟨c, d, q⟩ = .next ⟨c, e, q⟩ ∧
      e.get (Reg.ANG_COMMIT_STS_BUSY_REJ n) = 1 ∧
      e = { d with regs := e.regs, who := e.who } ∧
      RegsOnly [Reg.ANG_COMMIT_STS_BUSY_REJ n] d e) ∧
  -- DECK_COMMIT_REQ on a disarmed trigger
  (∀ (c : Clock) (d : Dev) (q : List Instr) (link : Fin 2) (n : Fin 16) (mask : Fin 512) (trig : Fin 64),
    d.deny (.bar2 link) true ((Reg.ANG_COMMIT_CTL_REQ n).off) 4 = none →
    (d.deck n).pend = none →
    d.getB (Reg.ANG_TRIG_CFG_ARM n trig) = false →
    ∃ e, exec (.deckCommitReq link n mask trig) ⟨c, d, q⟩ = .next ⟨c, e, q⟩ ∧
      e.get (Reg.ANG_COMMIT_STS_RESULT n) = 4 ∧
      e.get (Reg.ANG_COMMIT_CTL_REQ n) = 0 ∧
      (e.deck n).pend = none ∧
      RwsKept d e ∧
      e.staged = d.staged) ∧
  -- DECK_COMMIT_CANCEL
  (∀ (c : Clock) (d : Dev) (q : List Instr) (link : Fin 2) (n : Fin 16),
    d.deny (.bar2 link) true ((Reg.ANG_COMMIT_CTL_REQ n).off) 4 = none →
    (d.deck n).pend.isSome = true →
    ∃ e, exec (.deckCommitCancel link n) ⟨c, d, q⟩ = .next ⟨c, e, q⟩ ∧
      e.get (Reg.ANG_COMMIT_STS_RESULT n) = 6 ∧
      e.get (Reg.ANG_COMMIT_CTL_REQ n) = 0 ∧
      e.deck n = { d.deck n with pend := none } ∧
      RwsKept d e ∧
      e = { d with regs := e.regs, decks := e.decks, led := e.led, who := e.who } ∧
      DeckOnly n d e) ∧
  -- DECK_COMMIT_DISCARD
  (∀ (c : Clock) (d : Dev) (q : List Instr) (link : Fin 2) (n : Fin 16) (mask : Fin 512),
    d.deny (.bar2 link) true ((Reg.ANG_COMMIT_CTL_REQ n).off) 4 = none →
    (d.deck n).pend = none →
    d.regs.Pairwise (fun x y => x.1 < y.1) →
    ∃ e, exec (.deckCommitDiscard link n mask) ⟨c, d, q⟩ = .next ⟨c, e, q⟩ ∧
      Reloaded (subKeys n mask) d e ∧
      e.get (Reg.ANG_COMMIT_CTL_SUB_MASK n) = mask.val ∧
      e = { d with regs := e.regs, staged := e.staged, who := e.who } ∧
      RegsOnly [Reg.ANG_COMMIT_CTL_SUB_MASK n] d e) ∧
  -- TRIGGER_FIRE with a commit of ANG waiting
  (∀ (c : Clock) (d : Dev) (q : List Instr) (n : Fin 16) (t : Fin 64) (w : WedgeObs) (o : ServoObs) (p : DeckPend),
    d.deckOn n = true →
    16 ≤ t.val →
    (trigsDue d c n = [t.val] ∧ trigHeld d n t = false) →
    ((d.deck n).pend = some p ∧ p.trig = t.val ∧ p.mask = 1) →
    p.req + 2000 ≤ c.tick →
    (d.deck n).seqPend = [] →
    ((d.deck n).sparePend 0 = none ∧ (d.deck n).sparePend 1 = none) →
    (∀ s : Fin 8, ((d.deck n).slot s).swap = none) →
    (d.reload = none ∧ d.ledFull = false) →
    d.regs.Pairwise (fun x y => x.1 < y.1) →
    p.vals.Pairwise (fun x y => x.1 < y.1) →
    (∀ x ∈ p.vals, subKeys n 1 x.1 = true ∧ accOf x.1 = .rws) →
    angRules (d.applySet (subKeys n 1) p.vals) n = none →
    ∃ e, exec (.triggerFire n w o) ⟨c, d, q⟩ = .next ⟨c, e, q⟩ ∧
      Applied (subKeys n 1) p.vals d e ∧
      e.get (Reg.ANG_COMMIT_STS_RESULT n) = 1 ∧
      e.get (Reg.ANG_COMMIT_STS_REV_LSB n) = c.rev n % 2 ^ (Reg.ANG_COMMIT_STS_REV_LSB n).w ∧
      (e.deck n).pend = none ∧
      e.led.next = d.led.next + 1) ∧
  -- TRIGGER_FIRE with a commit of ANG that fails a rule
  (∀ (c : Clock) (d : Dev) (q : List Instr) (n : Fin 16) (t : Fin 64) (w : WedgeObs) (o : ServoObs) (p : DeckPend) (r :
        Nat),
    d.deckOn n = true →
    16 ≤ t.val →
    (trigsDue d c n = [t.val] ∧ trigHeld d n t = false) →
    ((d.deck n).pend = some p ∧ p.trig = t.val ∧ p.mask = 1) →
    p.req + 2000 ≤ c.tick →
    (d.deck n).seqPend = [] →
    ((d.deck n).sparePend 0 = none ∧ (d.deck n).sparePend 1 = none) →
    (∀ s : Fin 8, ((d.deck n).slot s).swap = none) →
    d.reload = none →
    angRules (d.applySet (subKeys n 1) p.vals) n = some r →
    ∃ e, exec (.triggerFire n w o) ⟨c, d, q⟩ = .next ⟨c, e, q⟩ ∧
      RwsKept d e ∧
      e.staged = d.staged ∧
      e.get (Reg.ANG_COMMIT_STS_RESULT n) = 2 ∧
      e.get (Reg.ANG_COMMIT_STS_RULE n) = r % 2 ^ (Reg.ANG_COMMIT_STS_RULE n).w ∧
      (e.deck n).pend = none)

/-- What blocks, windows and loop controls do to a lane. A lane's rows act while the DECK and LANE domains of its die are on.
(R119, R120, R122, R123, R124, R126, R128, R130, R145, 05_read_front_end.md) -/
def Obligations.LaneLoopsAndWinnow : Prop :=
  -- LANE_LOOP_BLOCK of 256 samples with only the gain loop free
  (∀ (c : Clock) (d : Dev) (q : List Instr) (n : Fin 16) (l : Fin 66) (wedge pos : Nat) (prev : Int) (ys : List Int),
    wedge = c.grain n / 16384 →
    (d.deckOn n = true ∧ d.domOn (dLANE (n / 8)) = true) →
    (laneRuns d n l = true ∧ 2 ≤ d.tbState n) →
    d.getB (Reg.LANE_LOOP_CTL_HOLD_G n l) = false →
    (d.getB (Reg.LANE_LOOP_CTL_HOLD_O n l) = true ∧ d.getB (Reg.LANE_LOOP_CTL_HOLD_A n l) = true) →
    (((d.deck n).lane l).reinit = false ∧ ((d.deck n).lane l).acq = 0) →
    (pos % 256 = 0 ∧ pos + 256 ≤ gapLen d n ∧ chaffIn d n l pos (pos + 256) = false) →
    ∃ e, exec (.laneLoopBlock n l false wedge pos prev ys []) ⟨c, d, q⟩ = .next ⟨c, e, q⟩ ∧
      e.get (Reg.LANE_LOOP_VAL_GAIN n l) = (clampI 0 (1023 * 256) ((d.get (Reg.LANE_LOOP_VAL_GAIN n l) : Int) * 256 +
        ((d.deck n).lane l).gainFr + Config.rnd ((d.get (Reg.LANE_GAIN_CFG_AMP_TGT n l) : Int) * 256 - (ys.map (fun y =>
        ((laneCode d n l y).natAbs : Int))).sum) (2 ^ d.get (Reg.LANE_GAIN_CFG_G_SHIFT n l)))).toNat / 256 ∧
      e.getI (Reg.LANE_LOOP_VAL_OFS n l) = d.getI (Reg.LANE_LOOP_VAL_OFS n l) ∧ e.getI (Reg.LANE_LOOP_VAL_ASYM n l) =
        d.getI (Reg.LANE_LOOP_VAL_ASYM n l) ∧
      DeckOnly n d e ∧
      e = { d with regs := e.regs, decks := e.decks } ∧
      RegsOnly [Reg.LANE_LOOP_VAL_GAIN n l, Reg.LANE_TR_STS_LIM_G n l] d e) ∧
  -- LANE_LOOP_BLOCK in chaff
  (∀ (c : Clock) (d : Dev) (q : List Instr) (n : Fin 16) (l : Fin 66) (wedge pos : Nat) (prev : Int) (ys : List Int),
    wedge = c.grain n / 16384 →
    (d.deckOn n = true ∧ d.domOn (dLANE (n / 8)) = true) →
    ((d.deck n).lane l).reinit = false →
    chaffIn d n l pos (pos + 256) = true →
    ∃ e, exec (.laneLoopBlock n l false wedge pos prev ys []) ⟨c, d, q⟩ = .next ⟨c, e, q⟩ ∧
      e = d) ∧
  -- WINNOW_WINDOW that raises the flag
  (∀ (c : Clock) (d : Dev) (q : List Instr) (n : Fin 16) (l : Fin 66) (wedge pos : Nat) (ys : List Int),
    wedge = c.grain n / 16384 →
    0 < pos →
    (d.deckOn n = true ∧ d.domOn (dLANE (n / 8)) = true) →
    (laneRuns d n l = true ∧ 2 ≤ d.tbState n) →
    d.getB (Reg.LANE_WIN_STS_FLAG n l) = false →
    (0 < d.get (Reg.LANE_WIN_CFG_SAT_ON n l) ∧ d.get (Reg.LANE_WIN_CFG_SAT_ON n l) ≤ winClip ys) →
    d.get (Reg.LANE_WIN_CFG_ON_CNT n l) ≤ ((d.deck n).lane l).onCnt + 1 →
    ∃ e, exec (.winnowWindow n l wedge pos ys) ⟨c, d, q⟩ = .next ⟨c, e, q⟩ ∧
      e.get (Reg.LANE_WIN_STS_FLAG n l) = 1 ∧
      ((e.deck n).lane l).spanAt = pos + 32 - 32 * d.get (Reg.LANE_WIN_CFG_ON_CNT n l) ∧ ((e.deck n).lane l).upLen = 0 ∧
      ((e.deck n).lane l).long = false ∧
      DeckOnly n d e ∧
      e = { d with regs := e.regs, decks := e.decks } ∧
      RegsOnly [Reg.LANE_WIN_STS_FLAG n l] d e) ∧
  -- WINNOW_LONG_SPAN
  (∀ (c : Clock) (d : Dev) (q : List Instr) (n : Fin 16) (l : Fin 66),
    (d.deckOn n = true ∧ d.domOn (dLANE (n / 8)) = true) →
    d.getB (Reg.LANE_WIN_STS_FLAG n l) = true →
    d.get (Reg.LANE_WIN_SPAN_MAX_SPAN n l) < ((d.deck n).lane l).upLen + 32 →
    ∃ e, exec (.winnowLongSpan n l) ⟨c, d, q⟩ = .next ⟨c, e, q⟩ ∧
      e.get (Reg.LANE_WIN_STS_LONG n l) = 1 ∧
      (e.deck n).lane l = { (d.deck n).lane l with long := true } ∧ l.val ∈ (e.deck n).longs ∧
      DeckOnly n d e ∧
      e = { d with regs := e.regs, decks := e.decks } ∧
      RegsOnly [Reg.LANE_WIN_STS_LONG n l] d e) ∧
  -- REINIT
  (∀ (c : Clock) (d : Dev) (q : List Instr) (link : Fin 2) (n : Fin 16) (l : Fin 66),
    d.deny (.bar2 link) true ((Reg.LANE_LOOP_CTL_REINIT n l).off) 4 = none →
    ∃ e, exec (.reinit link n l) ⟨c, d, q⟩ = .next ⟨c, e, q⟩ ∧
      (e.deck n).lane l = { (d.deck n).lane l with reinit := true } ∧
      DeckOnly n d e ∧
      e = { d with decks := e.decks, who := e.who }) ∧
  -- CLR_CNT
  (∀ (c : Clock) (d : Dev) (q : List Instr) (link : Fin 2) (n : Fin 16) (l : Fin 66),
    d.deny (.bar2 link) true ((Reg.LANE_LOOP_CTL_REINIT n l).off) 4 = none →
    ∃ e, exec (.clrCnt link n l) ⟨c, d, q⟩ = .next ⟨c, e, q⟩ ∧
      e.get (Reg.LANE_TR_STS_SLIPS n l) = 0 ∧ e.get (Reg.LANE_WIN_STS_SPANS n l) = 0 ∧
      e = { d with regs := e.regs, who := e.who } ∧
      RegsOnly [Reg.LANE_TR_STS_SLIPS n l, Reg.LANE_WIN_STS_SPANS n l] d e) ∧
  -- LANE_STANDBY_EXIT
  (∀ (c : Clock) (d : Dev) (q : List Instr) (n : Fin 16) (l : Fin 66),
    (d.deckOn n = true ∧ d.domOn (dLANE (n / 8)) = true) →
    (((d.deck n).lane l).waking = true ∧ 20 * tickUs ≤ d.age n (aWAKE l)) →
    ∃ e, exec (.laneStandbyExit n l) ⟨c, d, q⟩ = .next ⟨c, e, q⟩ ∧
      e.get (Reg.LANE_STATE_STBY n l) = 0 ∧
      (e.deck n).lane l = { (d.deck n).lane l with waking := false } ∧
      DeckOnly n d e ∧
      e = { d with regs := e.regs, decks := e.decks } ∧
      RegsOnly [Reg.LANE_STATE_STBY n l] d e)

/-- Spare lanes: shadow, swap, swap back, release, native shadow, and the swap at its guard. Commands are writes of SPARE_CTL
that nothing stands against, to a spare that no command or visit holds. (R116, R129, R132, R133, R134, R148, R150,
05_read_front_end.md) -/
def Obligations.SpareLanes : Prop :=
  -- SHADOW
  (∀ (c : Clock) (d : Dev) (q : List Instr) (link : Fin 2) (n : Fin 16) (sp : Fin 2) (trig : Fin 64) (target : Fin 128),
    d.deny (.bar2 link) true ((Reg.LANE_SPARE_CTL_TRIG n sp).off) 4 = none →
    (d.getB (Reg.LANE_SPARE_CTL_BUSY n sp) = false ∧ d.getB (Reg.LANE_SPARE_CTL_TST_OWN n sp) = false) →
    target.val ≤ 63 →
    d.lstate n (64 + sp) = lSPARE →
    (d.lstate n target = lACTIVE ∧ d.get (Reg.LANE_STATE_SRC n target) = target) →
    d.get (Reg.LANE_STATE_SRC n (otherSpare sp)) ≠ target →
    ∃ e, exec (.shadow link n sp trig target) ⟨c, d, q⟩ = .next ⟨c, e, q⟩ ∧
      e.lstate n (64 + sp) = lSHADOW ∧ e.get (Reg.LANE_STATE_SRC n (64 + sp)) = target ∧
      e.get (Reg.LANE_SPARE_CTL_RESULT n sp) = 1 ∧
      e.get (Reg.LANE_LOOP_VAL_GAIN n (64 + sp)) = d.get (Reg.LANE_LOOP_VAL_GAIN n target) % 2 ^ (Reg.LANE_LOOP_VAL_GAIN n
        target).w ∧
      e.lstate n target = lACTIVE ∧
      DeckOnly n d e ∧
      e = { d with regs := e.regs, decks := e.decks, who := e.who } ∧
      RegsOnly [Reg.LANE_SPARE_CTL_TRIG n sp, Reg.LANE_SPARE_CTL_TARGET n sp, Reg.LANE_SPARE_CTL_RESULT n sp,
        Reg.LANE_STATE_LSTATE n (64 + sp), Reg.LANE_STATE_SRC n (64 + sp), Reg.LANE_LOOP_VAL_GAIN n (64 + sp),
        Reg.LANE_LOOP_VAL_OFS n (64 + sp), Reg.LANE_LOOP_VAL_ASYM n (64 + sp), Reg.LANE_TR_STS_FREQ n (64 + sp),
        Reg.LANE_STATE_STBY n (64 + sp)] d e) ∧
  -- SHADOW of no beam position
  (∀ (c : Clock) (d : Dev) (q : List Instr) (link : Fin 2) (n : Fin 16) (sp : Fin 2) (trig : Fin 64) (target : Fin 128),
    d.deny (.bar2 link) true ((Reg.LANE_SPARE_CTL_TRIG n sp).off) 4 = none →
    d.getB (Reg.LANE_SPARE_CTL_BUSY n sp) = false →
    63 < target.val →
    ∃ e, exec (.shadow link n sp trig target) ⟨c, d, q⟩ = .next ⟨c, e, q⟩ ∧
      e.get (Reg.LANE_SPARE_CTL_RESULT n sp) = 2 ∧
      e.lstate n (64 + sp) = d.lstate n (64 + sp) ∧
      e = { d with regs := e.regs, who := e.who } ∧
      RegsOnly [Reg.LANE_SPARE_CTL_TRIG n sp, Reg.LANE_SPARE_CTL_TARGET n sp, Reg.LANE_SPARE_CTL_RESULT n sp] d e) ∧
  -- SWAP
  (∀ (c : Clock) (d : Dev) (q : List Instr) (link : Fin 2) (n : Fin 16) (sp : Fin 2) (trig : Fin 64) (target : Fin 128),
    d.deny (.bar2 link) true ((Reg.LANE_SPARE_CTL_TRIG n sp).off) 4 = none →
    (d.getB (Reg.LANE_SPARE_CTL_BUSY n sp) = false ∧ d.getB (Reg.LANE_SPARE_CTL_TST_OWN n sp) = false) →
    target.val ≤ 63 →
    (d.lstate n (64 + sp) = lSHADOW ∧ d.get (Reg.LANE_STATE_SRC n (64 + sp)) = target) →
    (16 ≤ trig.val ∧ d.getB (Reg.ANG_TRIG_CFG_ARM n trig) = true ∧ d.get (Reg.ANG_TRIG_CFG_MODE n trig) ≠ 0 ∧ 2 ≤ d.tbState
        n) →
    ∃ e, exec (.swap link n sp trig target) ⟨c, d, q⟩ = .next ⟨c, e, q⟩ ∧
      e.get (Reg.LANE_SPARE_CTL_BUSY n sp) = 1 ∧
      (e.deck n).sparePend sp = some { back := false, trig := trig } ∧
      DeckOnly n d e ∧
      e = { d with regs := e.regs, decks := e.decks, who := e.who } ∧
      RegsOnly [Reg.LANE_SPARE_CTL_TRIG n sp, Reg.LANE_SPARE_CTL_TARGET n sp, Reg.LANE_SPARE_CTL_BUSY n sp] d e) ∧
  -- SWAP_BACK
  (∀ (c : Clock) (d : Dev) (q : List Instr) (link : Fin 2) (n : Fin 16) (sp : Fin 2) (trig : Fin 64) (target : Fin 128),
    d.deny (.bar2 link) true ((Reg.LANE_SPARE_CTL_TRIG n sp).off) 4 = none →
    (d.getB (Reg.LANE_SPARE_CTL_BUSY n sp) = false ∧ d.getB (Reg.LANE_SPARE_CTL_TST_OWN n sp) = false) →
    target.val ≤ 63 →
    (d.lstate n (64 + sp) = lACTIVE ∧ d.get (Reg.LANE_STATE_SRC n (64 + sp)) = target ∧ d.lstate n target = lSHADOW) →
    (16 ≤ trig.val ∧ d.getB (Reg.ANG_TRIG_CFG_ARM n trig) = true ∧ d.get (Reg.ANG_TRIG_CFG_MODE n trig) ≠ 0 ∧ 2 ≤ d.tbState
        n) →
    ∃ e, exec (.swapBack link n sp trig target) ⟨c, d, q⟩ = .next ⟨c, e, q⟩ ∧
      e.get (Reg.LANE_SPARE_CTL_BUSY n sp) = 1 ∧
      (e.deck n).sparePend sp = some { back := true, trig := trig } ∧
      DeckOnly n d e ∧
      e = { d with regs := e.regs, decks := e.decks, who := e.who } ∧
      RegsOnly [Reg.LANE_SPARE_CTL_TRIG n sp, Reg.LANE_SPARE_CTL_TARGET n sp, Reg.LANE_SPARE_CTL_BUSY n sp] d e) ∧
  -- RELEASE
  (∀ (c : Clock) (d : Dev) (q : List Instr) (link : Fin 2) (n : Fin 16) (sp : Fin 2) (trig : Fin 64) (target : Fin 128),
    d.deny (.bar2 link) true ((Reg.LANE_SPARE_CTL_TRIG n sp).off) 4 = none →
    (d.getB (Reg.LANE_SPARE_CTL_BUSY n sp) = false ∧ d.getB (Reg.LANE_SPARE_CTL_TST_OWN n sp) = false) →
    target.val ≤ 63 →
    d.lstate n (64 + sp) = lSHADOW →
    ∃ e, exec (.release link n sp trig target) ⟨c, d, q⟩ = .next ⟨c, e, q⟩ ∧
      e.lstate n (64 + sp) = lSPARE ∧ e.get (Reg.LANE_STATE_SRC n (64 + sp)) = 127 ∧
      e.get (Reg.LANE_SPARE_CTL_RESULT n sp) = 1 ∧
      e.deck n = { d.deck n with lanes := (e.deck n).lanes } ∧ DeckOnly n d e ∧
      e = { d with regs := e.regs, decks := e.decks, who := e.who } ∧
      RegsOnly [Reg.LANE_SPARE_CTL_TRIG n sp, Reg.LANE_SPARE_CTL_TARGET n sp, Reg.LANE_SPARE_CTL_RESULT n sp,
        Reg.LANE_STATE_LSTATE n (64 + sp), Reg.LANE_STATE_SRC n (64 + sp), Reg.LANE_STATE_STBY n (64 + sp)] d e) ∧
  -- NATIVE_SHADOW
  (∀ (c : Clock) (d : Dev) (q : List Instr) (link : Fin 2) (n : Fin 16) (sp : Fin 2) (trig : Fin 64) (target : Fin 128),
    d.deny (.bar2 link) true ((Reg.LANE_SPARE_CTL_TRIG n sp).off) 4 = none →
    (d.getB (Reg.LANE_SPARE_CTL_BUSY n sp) = false ∧ d.getB (Reg.LANE_SPARE_CTL_TST_OWN n sp) = false) →
    target.val ≤ 63 →
    (d.lstate n (64 + sp) = lACTIVE ∧ d.get (Reg.LANE_STATE_SRC n (64 + sp)) = target ∧ d.lstate n target = lTEST) →
    ∃ e, exec (.nativeShadow link n sp trig target) ⟨c, d, q⟩ = .next ⟨c, e, q⟩ ∧
      e.lstate n target = lSHADOW ∧ e.get (Reg.LANE_STATE_SRC n target) = target ∧
      e.get (Reg.LANE_SPARE_CTL_RESULT n sp) = 1 ∧
      e.lstate n (64 + sp) = lACTIVE ∧
      DeckOnly n d e ∧
      e = { d with regs := e.regs, decks := e.decks, who := e.who } ∧
      RegsOnly [Reg.LANE_SPARE_CTL_TRIG n sp, Reg.LANE_SPARE_CTL_TARGET n sp, Reg.LANE_SPARE_CTL_RESULT n sp,
        Reg.LANE_STATE_LSTATE n target, Reg.LANE_STATE_SRC n target, Reg.LANE_LOOP_VAL_GAIN n target, Reg.LANE_LOOP_VAL_OFS
        n target, Reg.LANE_LOOP_VAL_ASYM n target, Reg.LANE_TR_STS_FREQ n target, Reg.LANE_STATE_STBY n target] d e) ∧
  -- SPARE_SWAP_AT_GUARD
  (∀ (c : Clock) (d : Dev) (q : List Instr) (n : Fin 16) (sp : Fin 2) (p : SparePend) (t : Fin 64),
    (d.deckOn n = true ∧ d.domOn (dLANE (n / 8)) = true) →
    ((d.deck n).sparePend sp = some p ∧ p.fired = true ∧ p.back = false) →
    d.get (Reg.LANE_STATE_SRC n (64 + sp)) = t.val →
    d.lstate n t = lACTIVE →
    (d.getB (Reg.LANE_WIN_STS_FLAG n (64 + sp)) = false ∧ d.getB (Reg.LANE_WIN_STS_FLAG n t) = false) →
    d.tbState n = tbLOCKED →
    d.tst.visits = [] →
    ∃ e, exec (.spareSwapAtGuard n sp) ⟨c, d, q⟩ = .next ⟨c, e, q⟩ ∧
      e.lstate n (64 + sp) = lACTIVE ∧ e.get (Reg.LANE_STATE_SRC n (64 + sp)) = t ∧
      e.lstate n t = lTEST ∧
      e.get (Reg.LANE_STATE_ERASED n t) = 0 ∧
      e.get (Reg.LANE_SPARE_CTL_BUSY n sp) = 0 ∧ e.get (Reg.LANE_SPARE_CTL_RESULT n sp) = 1 ∧
      (e.deck n).sparePend sp = none ∧
      DeckOnly n d e)

/-- Sync and resync windows, and the LDPC pool's dispatch and decisions. Sync rows act while the DECK and LANE domains of the
die are on, pool rows while its DEC domain is. (R163, R164, R165, R166, R167, R168, R169, R170, 06_detection_and_decoding.md)
-/
def Obligations.SyncAndFirstDecode : Prop :=
  -- SYNC_WINDOW of a window that was opened
  (∀ (c : Clock) (d : Dev) (q : List Instr) (n : Fin 16) (beam : Fin 64) (slot swath passes : Nat) (o : Outs) (b : Blk),
    (d.deck n).seq.swath = swath →
    (d.deckOn n = true ∧ d.domOn (dLANE (n / 8)) = true) →
    ((d.deck n).blocks = [b] ∧ b.slot = slot ∧ b.pending = false ∧ b.mode ≠ 1) →
    b.dec.getD beam .notRead = .waiting →
    d.getB (Reg.LANE_STATE_ERASED n beam) = false →
    (2 ≤ d.tbState n ∧ (d.deck n).wins.contains slot = true) →
    ((d.die (dieOf n)).outstanding < 4096 ∧ (d.die (dieOf n)).held.any (fun h => h.id == ⟨n, slot, beam⟩) = false) →
    ∃ e, exec (.syncWindow n beam slot swath passes o.start o.z o.chaff) ⟨c, d, q⟩ = .next ⟨c, e, q⟩ ∧
      (∀ delta rej, syncVerdict d n beam b o = .ok delta rej → e.get (Reg.DET_SYNC_OK_SYNC_OK n) = satAdd
        (Reg.DET_SYNC_OK_SYNC_OK n).w (d.get (Reg.DET_SYNC_OK_SYNC_OK n)) 1 ∧ e.get (Reg.DET_SYNC_REJ_FALSE_REJ n) = satAdd
        (Reg.DET_SYNC_REJ_FALSE_REJ n).w (d.get (Reg.DET_SYNC_REJ_FALSE_REJ n)) rej ∧ FMap.get (fun _ => 0) (e.deck
        n).align beam = delta ∧ FMap.get (fun _ => none) (e.deck n).accepted beam = some (slot, delta)) ∧
      (∀ delta, syncVerdict d n beam b o = .fly delta → FMap.get (fun _ => 0) (e.deck n).align beam = delta ∧ FMap.get (fun
        _ => none) (e.deck n).accepted beam = none) ∧
      (syncVerdict d n beam b o = .blind → FMap.get (fun _ => 0) (e.deck n).align beam = 0 ∧ (e.deck n).blocks.map (fun x
        => bit x.blind beam) = [true]) ∧
      ((∀ rej, syncVerdict d n beam b o ≠ .lost rej) → (e.die (dieOf n)).first = (d.die (dieOf n)).first ++ [{ deck := n,
                                                                                                                 slot := slot, beam := beam }]) ∧
      (∀ rej, syncVerdict d n beam b o = .lost rej → (e.deck n).blocks.map (fun x => x.dec) = [setAt b.dec beam .erased] ∧
        (e.die (dieOf n)).first = (d.die (dieOf n)).first) ∧
      DeckOnly n d e ∧
      e = { d with regs := e.regs, decks := e.decks, dies := e.dies }) ∧
  -- SYNC_WINDOW of an erased beam position
  (∀ (c : Clock) (d : Dev) (q : List Instr) (n : Fin 16) (beam : Fin 64) (slot swath passes : Nat) (o : Outs) (b : Blk),
    (d.deck n).seq.swath = swath →
    (d.deckOn n = true ∧ d.domOn (dLANE (n / 8)) = true) →
    ((d.deck n).blocks = [b] ∧ b.slot = slot ∧ b.pending = false ∧ b.mode ≠ 1) →
    b.dec.getD beam .notRead = .waiting →
    (d.die (dieOf n)).held.any (fun h => h.id == ⟨n, slot, beam⟩) = false →
    d.getB (Reg.LANE_STATE_ERASED n beam) = true →
    ∃ e, exec (.syncWindow n beam slot swath passes o.start o.z o.chaff) ⟨c, d, q⟩ = .next ⟨c, e, q⟩ ∧
      (e.deck n).blocks = [{ b with dec := setAt b.dec beam .erased }] ∧
      DeckOnly n d e ∧
      e = { d with decks := e.decks }) ∧
  -- RESYNC_WINDOW
  (∀ (c : Clock) (d : Dev) (q : List Instr) (n : Fin 16) (beam : Fin 64) (slot : Nat) (o : Outs) (b : Blk) (pred : Int),
    (d.deckOn n = true ∧ d.domOn (dLANE (n / 8)) = true) →
    ((d.deck n).blocks = [b] ∧ b.slot = slot) →
    (FMap.get (fun _ => []) b.offs beam).getLast? = some pred →
    (FMap.get (fun _ => []) b.offs beam).length ≤ resyncCount (b.p - 240) (slotBits * slot) →
    ∃ e, exec (.resyncWindow n ⟨beam, slot⟩ o) ⟨c, d, q⟩ = .next ⟨c, e, q⟩ ∧
      (∀ r, resyncFind d n (softOf d n beam 0 (fun _ => 0) o) pred = some r → FMap.get (fun _ => 0) (e.deck n).frag beam =
        r ∧ e.get (Reg.DET_SYNC_MISC_RS_MISS n) = d.get (Reg.DET_SYNC_MISC_RS_MISS n)) ∧
      (resyncFind d n (softOf d n beam 0 (fun _ => 0) o) pred = none → FMap.get (fun _ => 0) (e.deck n).frag beam = pred ∧
        e.get (Reg.DET_SYNC_MISC_RS_MISS n) = satAdd (Reg.DET_SYNC_MISC_RS_MISS n).w (d.get (Reg.DET_SYNC_MISC_RS_MISS n))
        1) ∧
      FMap.get (fun _ => 0) (e.deck n).align beam = FMap.get (fun _ => 0) (d.deck n).align beam ∧
      DeckOnly n d e ∧
      e = { d with regs := e.regs, decks := e.decks } ∧
      RegsOnly [Reg.DET_SYNC_MISC_RS_MISS n] d e) ∧
  -- LDPC_DISPATCH
  (∀ (c : Clock) (d : Dev) (q : List Instr) (die : Fin 2) (s : SectorId) (t : List SectorId),
    d.domOn (dDEC die) = true →
    (d.die die).active.length + (d.die die).ldpcOut < 48 →
    (d.die die).first = s :: t →
    ∃ e, exec (.ldpcDispatch die) ⟨c, d, q⟩ = .next ⟨c, e, q⟩ ∧
      (e.die die).first = t ∧ (e.die die).active = (d.die die).active ++ [s] ∧ (e.die die).turbo = (d.die die).turbo ∧
      e.get (Reg.DET_STS_QUEUE (8 * die)) = t.length % 2 ^ (Reg.DET_STS_QUEUE 0).w ∧
      e = { d with regs := e.regs, dies := e.dies }) ∧
  -- LDPC_FIRST_PASS_DONE
  (∀ (c : Clock) (d : Dev) (q : List Instr) (n : Fin 16) (slot : Nat) (beam : Fin 64) (o : Outs) (b : Blk),
    d.domOn (dDEC (n / 8)) = true →
    ((d.deck n).blocks = [b] ∧ b.slot = slot ∧ b.mode ≠ 1 ∧ bit b.blind beam = false) →
    (d.die (dieOf n)).active.contains { deck := n, slot := slot, beam := beam } = true →
    ∃ e, exec (.ldpcFirstPassDone n slot beam o) ⟨c, d, q⟩ = .next ⟨c, e, q⟩ ∧
      (∀ k, (firstPass d n beam b o).1 = some k → (e.deck n).blocks = [{ b with dec := setAt b.dec beam .conv, pay :=
                                                                                  b.pay.ins beam (sectorPayload (expectedA
                                                                                  d n b beam) (firstPass d n beam b o).2)
                                                                                  }]) ∧
      ((firstPass d n beam b o).1 = none → (e.deck n).blocks = [{ b with dec := setAt b.dec beam (if d.getB
                                                                           (Reg.DET_DEC_CFG_TURBO_EN n) && !(d.die (dieOf
                                                                           n)).shed then .turbo else .erased) }]) ∧
      ((firstPass d n beam b o).1 = none → d.getB (Reg.DET_DEC_CFG_TURBO_EN n) = true → (d.die (dieOf n)).shed = false →
        (e.die (dieOf n)).turbo = (d.die (dieOf n)).turbo ++ [{ deck := n, slot := slot, beam := beam }]) ∧
      (e.die (dieOf n)).active.length < (d.die (dieOf n)).active.length ∧
      DeckOnly n d e ∧
      e = { d with regs := e.regs, decks := e.decks, dies := e.dies }) ∧
  -- TURBO_PASS_DONE
  (∀ (c : Clock) (d : Dev) (q : List Instr) (n : Fin 16) (slot : Nat) (beam : Fin 64) (b : Blk) (h : Held),
    d.domOn (dDEC (n / 8)) = true →
    ((d.deck n).blocks = [b] ∧ b.slot = slot ∧ b.mode ≠ 1 ∧ b.dec.getD beam .notRead = .turbo) →
    (d.die (dieOf n)).active.contains { deck := n, slot := slot, beam := beam } = true →
    ((d.die (dieOf n)).held = [h] ∧ h.id = { deck := n, slot := slot, beam := beam }) →
    ∃ e, exec (.turboPassDone n slot beam b.swath) ⟨c, d, q⟩ = .next ⟨c, e, q⟩ ∧
      (∀ k, (turboPass d n beam b h).1 = some k → (e.deck n).blocks = [{ b with dec := setAt b.dec beam .conv, pay :=
                                                                                  b.pay.ins beam (sectorPayload (expectedA
                                                                                  d n b beam) (turboPass d n beam b h).2)
                                                                                  }]) ∧
      ((turboPass d n beam b h).1 = none → (e.deck n).blocks = [{ b with dec := setAt b.dec beam .erased }]) ∧
      (e.die (dieOf n)).active.length < (d.die (dieOf n)).active.length ∧ (e.die (dieOf n)).held = [] ∧
      DeckOnly n d e ∧
      e = { d with regs := e.regs, decks := e.decks, dies := e.dies })

/-- Darn takes a complete block, delivers it or schedules a glean; a glean set takes effect. Rows of the pool act while the
DEC domain of the die is on, the glean row while the DECK domain is. (R16, R171, R172, R173, R174,
06_detection_and_decoding.md) -/
def Obligations.DarnAndGleans : Prop :=
  -- DARN_DISPATCH
  (∀ (c : Clock) (d : Dev) (q : List Instr) (n : Fin 16) (slot : Nat) (b : Blk),
    d.domOn (dDEC (n / 8)) = true →
    ((d.deck n).blocks = [b] ∧ b.slot = slot) →
    (b.complete = true ∧ b.inDarn = false ∧ b.pending = false ∧ b.mode ≠ 1) →
    (d.die (dieOf n)).darn.length + (d.die (dieOf n)).darnOut < 4 →
    ∃ e, exec (.darnDispatch n slot) ⟨c, d, q⟩ = .next ⟨c, e, q⟩ ∧
      (e.deck n).blocks = [{ b with inDarn := true }] ∧
      (e.die (dieOf n)).darn = (d.die (dieOf n)).darn ++ [(n.val, slot)] ∧
      DeckOnly n d e ∧
      e = { d with regs := e.regs, decks := e.decks, dies := e.dies }) ∧
  -- DARN_DONE without erasures
  (∀ (c : Clock) (d : Dev) (q : List Instr) (n : Fin 16) (slot eng t a : Nat) (b : Blk),
    (d.die (dieOf n)).darn[eng]? = some (n.val, slot) →
    d.domOn (dDEC (n / 8)) = true →
    ((d.deck n).blocks = [b] ∧ b.slot = slot ∧ b.inDarn = true ∧ b.ended = some (t, a)) →
    (b.passes % 16 = 15 ∧ b.erasures = 0) →
    d.getB (Reg.DET_DEC_CFG_DARN_CHK n) = false →
    ∃ e, exec (.darnDone n slot b.swath (d.get (Reg.SEQ_STS_LAYER n)) eng) ⟨c, d, q⟩ = .next ⟨c, e, q⟩ ∧
      (e.deck n).delivered = (d.deck n).delivered ++ [⟨slot, b.swath, 0, true, t, a, b.data, d.get (Reg.SEQ_STS_LAYER n)⟩] ∧
      (e.deck n).blocks = [] ∧
      (e.die (dieOf n)).darn = (d.die (dieOf n)).darn.filter (fun x => x != (n.val, slot)) ∧
      DeckOnly n d e ∧
      e = { d with regs := e.regs, decks := e.decks, dies := e.dies }) ∧
  -- DARN_DONE with up to eight erasures
  (∀ (c : Clock) (d : Dev) (q : List Instr) (n : Fin 16) (slot eng t a : Nat) (b : Blk),
    (d.die (dieOf n)).darn[eng]? = some (n.val, slot) →
    d.domOn (dDEC (n / 8)) = true →
    ((d.deck n).blocks = [b] ∧ b.slot = slot ∧ b.inDarn = true ∧ b.ended = some (t, a)) →
    (b.passes % 16 = 15 ∧ 0 < b.erasures ∧ b.erasures ≤ 8) →
    ∃ e, exec (.darnDone n slot b.swath (d.get (Reg.SEQ_STS_LAYER n)) eng) ⟨c, d, q⟩ = .next ⟨c, e, q⟩ ∧
      (∀ data errs, darnDecode b.pays b.erased = some (data, errs) → (e.deck n).delivered = (d.deck n).delivered ++ [⟨slot,
        b.swath, 0, true, t, a, data.flatten, d.get (Reg.SEQ_STS_LAYER n)⟩]) ∧
      (∀ data errs, darnDecode b.pays b.erased = some (data, errs) → errs ≠ [] → (e.deck n).margin.miscorr = satAdd 32
        (d.deck n).margin.miscorr errs.length ∧ e.get (Reg.DET_STS_MISCORR n) = 1) ∧
      (darnDecode b.pays b.erased = none → b.glean < min (d.get (Reg.DET_DEC_CFG_MAX_GLEAN n)) 4 → 2 ≤ d.tbState n →
        (e.deck n).blocks = [{ b with inDarn := false, pending := true, glean := b.glean + 1 }])) ∧
  -- DARN_DONE with more erasures than darn takes
  (∀ (c : Clock) (d : Dev) (q : List Instr) (n : Fin 16) (slot eng : Nat) (b : Blk),
    (d.die (dieOf n)).darn[eng]? = some (n.val, slot) →
    d.domOn (dDEC (n / 8)) = true →
    ((d.deck n).blocks = [b] ∧ b.slot = slot ∧ b.inDarn = true) →
    (b.passes % 16 = 15 ∧ 8 < b.erasures ∧ 0 < b.dataErasures) →
    (b.glean < min (d.get (Reg.DET_DEC_CFG_MAX_GLEAN n)) 4 ∧ 2 ≤ d.tbState n) →
    ∃ e, exec (.darnDone n slot b.swath (d.get (Reg.SEQ_STS_LAYER n)) eng) ⟨c, d, q⟩ = .next ⟨c, e, q⟩ ∧
      (e.deck n).blocks = [{ b with inDarn := false, pending := true, glean := b.glean + 1 }] ∧
      e.get (Reg.DET_STS_GLEANING n) = 1 ∧
      DeckOnly n d e ∧
      e = { d with regs := e.regs, decks := e.decks, dies := e.dies }) ∧
  -- GLEAN_SET_APPLY
  (∀ (c : Clock) (d : Dev) (q : List Instr) (n : Fin 16) (g : Fin 5) (b : Blk),
    d.deckOn n = true →
    ((d.deck n).blocks = [b] ∧ b.pending = true ∧ b.glean = g.val) →
    2 ≤ d.tbState n →
    passes (gleanPoint d n [b.slot] * 2 ^ 24) (2 ^ 48) (d.deck n).tb.prev (c.counter n) = true →
    d.get (Reg.DET_GLEAN_SET_EQ_MODE n g) = 0 →
    d.getI (Reg.DET_GLEAN_SET_FOCUS_OFS n g) = (d.deck n).gleanOfs →
    ∃ e, exec (.gleanSetApply n g) ⟨c, d, q⟩ = .next ⟨c, e, q⟩ ∧
      (e.deck n).glean = g.val ∧ (e.deck n).gleanOn = true ∧
      (e.deck n).blocks = [{ b with pending := false, ended := none, dec := b.dec.map (fun v => if v = .erased then
                                      .waiting else v) }] ∧
      DeckOnly n d e ∧
      e = { d with decks := e.decks })

/-- Margin records are frozen and cleared; equaliser sets are reloaded and written. Each is a register write that nothing
stands against. (R158, R176, R177, R178, R184, R185, R186, 06_detection_and_decoding.md) -/
def Obligations.MarginsAndEqualiserSets : Prop :=
  -- MARGIN_SNAP
  (∀ (c : Clock) (d : Dev) (q : List Instr) (link : Fin 2) (n : Fin 16),
    d.deny (.bar2 link) true ((Reg.DET_MARGIN_CTL_SNAP n).off) 4 = none →
    ∃ e, exec (.marginSnap link n) ⟨c, d, q⟩ = .next ⟨c, e, q⟩ ∧
      (e.deck n).snap.length = 128 + 66 * 64 ∧
      (e.deck n).snap = discRecord d n (d.deck n).margin (c.angleStamp n) c.tick ++ (List.range 66).flatMap (laneRecord d
        n) ∧
      (e.deck n).margin = (d.deck n).margin ∧
      DeckOnly n d e ∧
      e = { d with decks := e.decks, who := e.who }) ∧
  -- MARGIN_CLR
  (∀ (c : Clock) (d : Dev) (q : List Instr) (link : Fin 2) (n : Fin 16),
    d.deny (.bar2 link) true ((Reg.DET_MARGIN_CTL_SNAP n).off) 4 = none →
    ∃ e, exec (.marginClr link n) ⟨c, d, q⟩ = .next ⟨c, e, q⟩ ∧
      (e.deck n).margin = { clrStamp := c.angleStamp n, clrTick := c.tick } ∧
      (e.deck n).snap = (d.deck n).snap ∧
      e.get (Reg.DET_SYNC_OK_SYNC_OK n) = 0 ∧ e.get (Reg.DET_SYNC_REJ_FALSE_REJ n) = 0 ∧ e.get (Reg.DET_SYNC_MISC_RS_MISS
        n) = 0 ∧ e.get (Reg.DET_SYNC_MISC_NOHDR n) = 0 ∧
      DeckOnly n d e ∧
      e = { d with regs := e.regs, decks := e.decks, who := e.who } ∧
      RegsOnly [Reg.DET_SYNC_OK_SYNC_OK n, Reg.DET_SYNC_REJ_FALSE_REJ n, Reg.DET_SYNC_MISC_RS_MISS n,
        Reg.DET_SYNC_MISC_NOHDR n] d e) ∧
  -- EQ_REINIT
  (∀ (c : Clock) (d : Dev) (q : List Instr) (link : Fin 2) (n : Fin 16) (k : Fin 64),
    d.deny (.bar2 link) true ((Reg.DET_BCFG_EQ_REINIT n k).off) 4 = none →
    ∃ e, exec (.eqReinit link n k) ⟨c, d, q⟩ = .next ⟨c, e, q⟩ ∧
      k.val ∈ (e.deck n).reinit ∧
      e.deck n = { d.deck n with reinit := (e.deck n).reinit } ∧
      DeckOnly n d e ∧
      e = { d with decks := e.decks, who := e.who }) ∧
  -- EQ_DATA_WRITE
  (∀ (c : Clock) (d : Dev) (q : List Instr) (link : Fin 2) (n : Fin 16) (v : BitVec 12),
    d.deny (.bar2 link) true ((Reg.DET_EQ_DATA_COEF n).off) 4 = none →
    d.get (Reg.DET_EQ_ADDR_SET n) ≠ 0 →
    (d.get (Reg.DET_EQ_ADDR_SIDE n) ≠ 3 ∧ d.get (Reg.DET_EQ_ADDR_TAP n) ≠ 15) →
    ∃ e, exec (.eqDataWrite link n v) ⟨c, d, q⟩ = .next ⟨c, e, q⟩ ∧
      (e.deck n).initTap (tapKey (d.get (Reg.DET_EQ_ADDR_BEAM n)) (d.get (Reg.DET_EQ_ADDR_SIDE n)) (d.get
        (Reg.DET_EQ_ADDR_TAP n))) = sx 12 v.toNat ∧
      (e.deck n).taps = (d.deck n).taps ∧
      DeckOnly n d e ∧
      e = { d with decks := e.decks, who := e.who }) ∧
  -- EQ_DATA_WRITE to the set in force
  (∀ (c : Clock) (d : Dev) (q : List Instr) (link : Fin 2) (n : Fin 16) (v : BitVec 12),
    d.deny (.bar2 link) true ((Reg.DET_EQ_DATA_COEF n).off) 4 = none →
    d.get (Reg.DET_EQ_ADDR_SET n) = 0 →
    ∃ e, exec (.eqDataWrite link n v) ⟨c, d, q⟩ = .next ⟨c, e, q⟩ ∧
      e.get (Reg.DET_EQ_DATA_ERR n) = 1 ∧
      e = { d with regs := e.regs, who := e.who } ∧
      RegsOnly [Reg.DET_EQ_DATA_ERR n] d e)

/-- A pass starts, its sectors get outcomes, it ends, and a calibration run that is due starts. Rows of a deck act while its
DECK domain is on. (R198, R213, R214, R215, R216, R217, R219, 07_write_path.md) -/
def Obligations.WritePasses : Prop :=
  -- WRITE_PASS_START, pass p of a swath being written
  (∀ (c : Clock) (d : Dev) (q : List Instr) (n : Fin 16) (swath pass : Nat) (z : Zone),
    (d.deckOn n = true ∧ (d.deck n).disc.isSome) →
    zoneOf swath = some z →
    (mayWrite d n = true ∧ opcDue d n = false) →
    bandOf (d.get (Reg.SEQ_STS_LAYER n)) swath = .data →
    (0 < pass ∧ (d.deck n).nextPass = pass ∧ (d.deck n).wrSwath = swath) →
    inPlace d n swath pass z = true →
    d.openMask n ≠ 0 →
    ∃ e, exec (.writePassStart n (d.get (Reg.SEQ_STS_LAYER n)) swath pass [] []) ⟨c, d, q⟩ = .next ⟨c, e, q⟩ ∧
      e.dstate n = dWRITING ∧
      (e.deck n).pass = some { pass := pass, startSlot := startSlot z (c.grain n) } ∧
      (e.deck n).link.laserMode = 2 ∧ (e.deck n).seq.writing = true ∧
      (e.deck n).bound = (d.deck n).bound ∧ (e.deck n).queue = (d.deck n).queue ∧
      DeckOnly n d e ∧
      e = { d with regs := e.regs, decks := e.decks } ∧
      RegsOnly [Reg.SEQ_STS_STATE n] d e) ∧
  -- WRITE_PASS_START, pass 0 of a swath not written before
  (∀ (c : Clock) (d : Dev) (q : List Instr) (n : Fin 16) (swath : Nat) (z : Zone) (x : Disc) (b : StageBlk) (t : List
        StageBlk),
    (d.deckOn n = true ∧ (d.deck n).disc = some x) →
    zoneOf swath = some z →
    (mayWrite d n = true ∧ opcDue d n = false) →
    bandOf (d.get (Reg.SEQ_STS_LAYER n)) swath = .data →
    ((d.deck n).nextPass = 0 ∧ x.written.contains (d.get (Reg.SEQ_STS_LAYER n), swath) = false) →
    ((d.deck n).waiting = b :: t ∧ b.zone = none) →
    inPlace d n swath 0 z = true →
    d.openMask n ≠ 0 →
    ∃ e, exec (.writePassStart n (d.get (Reg.SEQ_STS_LAYER n)) swath 0 [] []) ⟨c, d, q⟩ = .next ⟨c, e, q⟩ ∧
      (e.deck n).bound = (slotOrder z.s (startSlot z (c.grain n))).zip (((b :: t).takeWhile (fun q => q.zone == none)).take
        z.s) ∧
      (e.deck n).wrSwath = swath ∧ (e.deck n).failed = [] ∧
      (e.deck n).disc.map (fun y => y.written) = some ((d.get (Reg.SEQ_STS_LAYER n), swath) :: x.written) ∧
      (e.deck n).disc.map (fun y => y.blocksLeft) = some (x.blocksLeft - z.s) ∧
      e.dstate n = dWRITING ∧
      DeckOnly n d e ∧
      e = { d with regs := e.regs, decks := e.decks } ∧
      RegsOnly [Reg.SEQ_STS_STATE n] d e) ∧
  -- SECTOR_VERIFY_DONE
  (∀ (c : Clock) (d : Dev) (q : List Instr) (n em : Fin 16) (slot : Nat) (o : TrackOuts) (p : Pass),
    d.deckOn n = true →
    ((d.deck n).pass = some p ∧ p.run = none ∧ (d.deck n).unit = none) →
    p.outs.any (fun r => r.emitter == em.val && r.slot == slot) = false →
    gateOutcome em slot p = none →
    bit (d.deck n).gate.hold gLATCHED = false →
    ∃ e, exec (.sectorVerifyDone n em slot ⟨o, []⟩) ⟨c, d, q⟩ = .next ⟨c, e, q⟩ ∧
      (e.deck n).pass = some
        { p with outs := p.outs ++ [⟨em, slot, outcome d n em slot p (verifyRead d n em slot o), c.tick, c.angleStamp n⟩] }
        ∧
      (outcome d n em slot p (verifyRead d n em slot o) = .vfyFail → e.get (Reg.WRP_VFY_STS_VFY_FAIL n) = satAdd
        (Reg.WRP_VFY_STS_VFY_FAIL n).w (d.get (Reg.WRP_VFY_STS_VFY_FAIL n)) 1) ∧
      (outcome d n em slot p (verifyRead d n em slot o) = .verified → e.get (Reg.WRP_VFY_STS_VFY_FAIL n) = d.get
        (Reg.WRP_VFY_STS_VFY_FAIL n)) ∧
      (∀ v, verifyRead d n em slot o = some v → outcome d n em slot p (verifyRead d n em slot o) = (if verifies d n v then
        .verified else .vfyFail)) ∧
      DeckOnly n d e) ∧
  -- SECTOR_VERIFY_DONE of an emitter whose gate was closed
  (∀ (c : Clock) (d : Dev) (q : List Instr) (n em : Fin 16) (slot : Nat) (o : TrackOuts) (p : Pass) (r : SlotResult),
    d.deckOn n = true →
    ((d.deck n).pass = some p ∧ p.run = none ∧ (d.deck n).unit = none) →
    p.outs.any (fun r => r.emitter == em.val && r.slot == slot) = false →
    gateOutcome em slot p = some r →
    bit (d.deck n).gate.hold gLATCHED = false →
    ∃ e, exec (.sectorVerifyDone n em slot ⟨o, []⟩) ⟨c, d, q⟩ = .next ⟨c, e, q⟩ ∧
      (e.deck n).pass = some { p with outs := p.outs ++ [⟨em, slot, r, c.tick, c.angleStamp n⟩] } ∧
      (r = .notWritten ∨ r = .incomplete) ∧
      e.get (Reg.WRP_VFY_STS_INCOMPLETE n) = satAdd (Reg.WRP_VFY_STS_INCOMPLETE n).w (d.get (Reg.WRP_VFY_STS_INCOMPLETE n))
        1 ∧
      DeckOnly n d e) ∧
  -- WRITE_PASS_END of passes 0 to 2
  (∀ (c : Clock) (d : Dev) (q : List Instr) (n : Fin 16) (p : Pass) (z : Zone),
    d.deckOn n = true →
    ((d.deck n).pass = some p ∧ p.run = none ∧ p.pass < 3) →
    ((d.deck n).unit = none ∧ zoneOf (d.deck n).wrSwath = some z) →
    (List.range 16).all (fun em => (List.range z.s).all (fun k => p.outs.any (fun o => o.emitter == em && o.slot == k))) =
        true →
    ((d.deck n).seq.pendPark = false ∧ d.dstate n = dWRITING) →
    ∃ e, exec (.writePassEnd n (writeSwath (d.deck n)) p.pass) ⟨c, d, q⟩ = .next ⟨c, e, q⟩ ∧
      (e.deck n).pass = none ∧ (e.deck n).report = p.outs ∧ (e.deck n).nextPass = p.pass + 1 ∧
      (e.deck n).failed = (d.deck n).failed ++ (p.outs.filter (fun o => o.out != .verified)).map (fun o => (o.slot, 16 *
        p.pass + o.emitter)) ∧
      e.deck n = { d.deck n with pass := none, report := (e.deck n).report, failed := (e.deck n).failed, nextPass :=
                                   (e.deck n).nextPass } ∧
      DeckOnly n d e ∧
      e = { d with decks := e.decks }) ∧
  -- OPC_RUN
  (∀ (c : Clock) (d : Dev) (q : List Instr) (n : Fin 16) (found : Nat) (x : Disc) (z : Zone),
    d.deckOn n = true →
    (mayWrite d n = true ∧ opcDue d n = true) →
    ((d.deck n).disc = some x ∧ (d.deck n).opcFresh = [] ∧ found < 144 ∧ x.calUsed = []) →
    (zoneOf (2654 + found / 18 / 4) = some z ∧ inPlace d n (2654 + found / 18 / 4) (found / 18 % 4) z = true) →
    d.openMask n ≠ 0 →
    ∃ e, exec (.opcRun n found) ⟨c, d, q⟩ = .next ⟨c, e, q⟩ ∧
      e.dstate n = dCALIBRATING ∧
      (e.deck n).pass = some { pass := found / 18 % 4, startSlot := 16 * (found % 18), run := some found } ∧
      (e.deck n).seq.opc = true ∧ (e.deck n).link.laserMode = 2 ∧
      (e.deck n).disc = some { x with calUsed := x.calUsed.ins (d.get (Reg.SEQ_STS_LAYER n)) (found + 1), dirty := true } ∧
      DeckOnly n d e ∧
      e = { d with regs := e.regs, decks := e.decks } ∧
      RegsOnly [Reg.SEQ_STS_STATE n] d e) ∧
  -- OPC_RUN with the area used up
  (∀ (c : Clock) (d : Dev) (q : List Instr) (n : Fin 16) (found : Nat) (x : Disc),
    d.deckOn n = true →
    (mayWrite d n = true ∧ opcDue d n = true ∧ (d.deck n).seq.opc = false) →
    ((d.deck n).disc = some x ∧ (d.deck n).opcFresh = [] ∧ 144 ≤ found) →
    ∃ e, exec (.opcRun n found) ⟨c, d, q⟩ = .next ⟨c, e, q⟩ ∧
      e.get (Reg.WRP_OPC_STS_EXHAUSTED n) = 1 ∧ e.get (Reg.WRP_OPC_STS_RUNS_LEFT n) = 0 ∧
      (e.deck n).pass = none ∧ e.dstate n = d.dstate n ∧
      DeckOnly n d e) ∧
  -- VFY_CLR
  (∀ (c : Clock) (d : Dev) (q : List Instr) (link : Fin 2) (n : Fin 16),
    d.deny (.bar2 link) true ((Reg.WRP_VFY_CLR_CLR n).off) 4 = none →
    ∃ e, exec (.vfyClr link n) ⟨c, d, q⟩ = .next ⟨c, e, q⟩ ∧
      e.get (Reg.WRP_VFY_STS_DISTURBED n) = 0 ∧ e.get (Reg.WRP_VFY_STS_WEAK n) = 0 ∧
      e.get (Reg.WRP_VFY_STS_INCOMPLETE n) = 0 ∧ e.get (Reg.WRP_VFY_STS_VFY_FAIL n) = 0 ∧
      e = { d with regs := e.regs, who := e.who } ∧
      RegsOnly [Reg.WRP_VFY_STS_DISTURBED n, Reg.WRP_VFY_STS_WEAK n, Reg.WRP_VFY_STS_INCOMPLETE n, Reg.WRP_VFY_STS_VFY_FAIL
        n] d e)

/-- Frames, messages, bring-up and losses of a deck's laser link. Rows of a deck act while its DECK domain is on. (R202, R203,
R207, R209, R210, R222, 07_write_path.md) -/
def Obligations.LaserLink : Prop :=
  -- LASER_TX_FRAME
  (∀ (c : Clock) (d : Dev) (q : List Instr) (n : Fin 16),
    d.deckOn n = true →
    (d.deck n).primer = none →
    ∃ e, exec (.laserTxFrame n (d.deck n).link.txSeq [] []) ⟨c, d, q⟩ = .next ⟨c, e, q⟩ ∧
      (e.deck n).link.txSeq = ((d.deck n).link.txSeq + 1) % 256 ∧ (e.deck n).link.killOut = false ∧
      (e.deck n).link.tx = some
        { seq := (d.deck n).link.txSeq, ack := (d.deck n).link.rxAck, mode := (d.deck n).link.laserMode, gate := if (d.deck
            n).link.laserMode = 2 then (frameBits c d n).2.1 else 0, valid := (frameBits c d n).1.valid, phase :=
            (frameBits c d n).1.phase, period := (frameBits c d n).1.period, slots := (frameBits c d n).2.2, msg := msgArea
            (d.deck n).link.req } ∧
      ((d.deck n).pass = none → (frameBits c d n).2 = (0, List.replicate 16 0)) ∧
      (∀ z, zoneOf (writeSwath (d.deck n)) = some z → (frameBits c d n).1 = frameSpan c d n z ∧ ((d.deck n).pass.isSome →
        (frameBits c d n).2 = (d.openMask n, (List.range 16).map (fun em => slotWord (frameSpan c d n z).valid (fun i =>
        trackBit d n em ((frameSpan c d n z).first + i) z))))) ∧
      (e.deck n).link.req = (d.deck n).link.req.map (fun r => if r.queued then
        { r with queued := false, sends := r.sends + 1 } else r) ∧
      DeckOnly n d e ∧
      e = { d with decks := e.decks }) ∧
  -- LASER_RX_FRAME that fails, the second in a row while UP
  (∀ (c : Clock) (d : Dev) (q : List Instr) (n : Fin 16) (syms : List Nat),
    d.deckOn n = true →
    (rxDecode syms = none ∧ (d.deck n).link.badFrames = 1) →
    (d.linkSt n = lkUP ∧ d.dstate n = dLOADED) →
    ∃ e, exec (.laserRxFrame n syms {}) ⟨c, d, q⟩ = .next ⟨c, e, q⟩ ∧
      e.get (Reg.WRP_LINK_STS_FAIL_CNT n) = satAdd (Reg.WRP_LINK_STS_FAIL_CNT n).w (d.get (Reg.WRP_LINK_STS_FAIL_CNT n)) 1 ∧
      e.linkSt n = lkTRAINING ∧
      e.get (Reg.WRP_LINK_STS_STEP n) = 0 ∧
      bit (e.deck n).gate.hold gLINK = true ∧ (e.deck n).link.killSent = true ∧
      DeckOnly n d e ∧
      e = { d with regs := e.regs, decks := e.decks }) ∧
  -- LASER_RX_FRAME while UP
  (∀ (c : Clock) (d : Dev) (q : List Instr) (n : Fin 16) (syms : List Nat),
    d.deckOn n = true →
    (linkHolds (d.deck n).link = false ∧ bit (d.deck n).gate.hold gLINK = false) →
    d.linkSt n = lkUP →
    ∃ e, exec (.laserRxFrame n syms {}) ⟨c, d, q⟩ = .next ⟨c, e, q⟩ ∧
      (∀ f, rxDecode syms = some f → f.status = 0 → f.fault = (d.deck n).gate.emFault → f.corr < d.get
        (Reg.WRP_LINK_CFG_RS_ALARM n) → (e.deck n).link =
        { (d.deck n).link with badFrames := 0, rxAck := f.seq, txAcked := f.ack, killed := false, killSent := false,
                                 killHold := false, overtemp := false, supplyLow := false, bank := false, tableValid :=
                                 false, txFail := false, readOn := false, writeOn := false, temp := f.temp, mon := f.mon }
        ∧ e.deck n = { d.deck n with link := (e.deck n).link } ∧ e = { d with decks := e.decks }) ∧
      (∀ f, rxDecode syms = some f → e.get (Reg.WRP_LINK_STS_FAIL_CNT n) = d.get (Reg.WRP_LINK_STS_FAIL_CNT n)) ∧
      (rxDecode syms = none → e.get (Reg.WRP_LINK_STS_FAIL_CNT n) = satAdd (Reg.WRP_LINK_STS_FAIL_CNT n).w (d.get
        (Reg.WRP_LINK_STS_FAIL_CNT n)) 1)) ∧
  -- CAP
  (∀ (c : Clock) (d : Dev) (q : List Instr) (n : Fin 16) (tag : Nat) (p : List Byte),
    d.deckOn n = true →
    answers d n 0x01 tag = true →
    ofLe (slice p 0 2) ≠ 1 →
    ∃ e, exec (.cap n tag p) ⟨c, d, q⟩ = .next ⟨c, e, q⟩ ∧
      (e.deck n).link.retry = true ∧ (e.deck n).link.tries = (d.deck n).link.tries + 1 ∧
      (e.deck n).link.req = none ∧ (e.deck n).link.toSend = [] ∧
      DeckOnly n d e ∧
      e = { d with decks := e.decks }) ∧
  -- CAP of a driver that fits
  (∀ (c : Clock) (d : Dev) (q : List Instr) (n : Fin 16) (tag : Nat) (p : List Byte),
    d.deckOn n = true →
    answers d n 0x01 tag = true →
    (ofLe (slice p 0 2) = 1 ∧ ofLe (slice p 2 1) = 16 ∧ ofLe (slice p 3 1) ≤ 48) →
    ∃ e, exec (.cap n tag p) ⟨c, d, q⟩ = .next ⟨c, e, q⟩ ∧
      e.get (Reg.WRP_LINK_STS_STEP n) = 4 ∧
      e.get (Reg.WRP_CAP_PROTO n) = 1 ∧ e.get (Reg.WRP_CAP_EMITTERS n) = 16 ∧
      e.get (Reg.WRP_CAP_EMIT_BASE n) = ofLe (slice p 3 1) % 2 ^ (Reg.WRP_CAP_EMIT_BASE n).w ∧
      (e.deck n).link.model = slice p 11 16 ∧
      (e.deck n).link.latSym = ofLe (slice p 5 2) ∧ (e.deck n).link.pwMax = ofLe (slice p 7 2) ∧ (e.deck n).link.prMax =
        ofLe (slice p 9 2) ∧
      (e.deck n).link.req.map (fun r => r.type) = some 0x02 ∧
      DeckOnly n d e) ∧
  -- TABLE_DATA
  (∀ (c : Clock) (d : Dev) (q : List Instr) (n : Fin 16) (tag : Nat) (p : List Byte),
    d.deckOn n = true →
    (answers d n 0x04 tag = true ∧ (d.deck n).link.toSend = []) →
    ∃ e, exec (.tableData n tag p) ⟨c, d, q⟩ = .next ⟨c, e, q⟩ ∧
      (e.deck n).link = { (d.deck n).link with readBack := p, req := none } ∧
      e.deck n = { d.deck n with link := (e.deck n).link } ∧
      DeckOnly n d e ∧
      e = { d with decks := e.decks }) ∧
  -- ACK OK while UP
  (∀ (c : Clock) (d : Dev) (q : List Instr) (n : Fin 16) (tag : Nat) (r : LinkReq),
    d.deckOn n = true →
    ((d.deck n).link.req = some r ∧ r.tag = tag ∧ r.type = 0x05) →
    (d.linkSt n = lkUP ∧ (d.deck n).link.toSend = []) →
    ∃ e, exec (.ack n tag 0 {}) ⟨c, d, q⟩ = .next ⟨c, e, q⟩ ∧
      (e.deck n).link = { (d.deck n).link with req := none } ∧
      e.deck n = { d.deck n with link := (e.deck n).link } ∧
      DeckOnly n d e ∧
      e = { d with decks := e.decks }) ∧
  -- ACK BUSY while UP
  (∀ (c : Clock) (d : Dev) (q : List Instr) (n : Fin 16) (tag : Nat) (r : LinkReq),
    d.deckOn n = true →
    ((d.deck n).link.req = some r ∧ r.tag = tag ∧ r.type = 0x02) →
    d.linkSt n = lkUP →
    ∃ e, exec (.ack n tag 4 {}) ⟨c, d, q⟩ = .next ⟨c, e, q⟩ ∧
      (e.deck n).link.req = some { type := 0x02, tag := (d.deck n).link.lastTag % 255 + 1, payload := r.payload } ∧
      DeckOnly n d e ∧
      e = { d with decks := e.decks }) ∧
  -- FAULT
  (∀ (c : Clock) (d : Dev) (q : List Instr) (n : Fin 16) (mask code : Nat),
    d.deckOn n = true →
    ∃ e, exec (.fault n mask code) ⟨c, d, q⟩ = .next ⟨c, e, q⟩ ∧
      (e.deck n).gate.emFault = (d.deck n).gate.emFault ||| mask ∧
      (e.deck n).gate.shut = (d.deck n).gate.shut ||| ((d.deck n).gate.emFault ||| mask) ∧
      e.get (Reg.WRP_GATE_STS_LINK n) = 1 ∧
      DeckOnly n d e) ∧
  -- LINK_MSG_TIMEOUT with sends left
  (∀ (c : Clock) (d : Dev) (q : List Instr) (n : Fin 16) (r : LinkReq),
    d.deckOn n = true →
    ((d.deck n).link.req = some r ∧ r.queued = false) →
    1024 * d.get (Reg.WRP_LINK_CFG_MSG_TMO n) ≤ 10 * d.age n aMSG →
    r.sends < d.get (Reg.WRP_LINK_CFG_MSG_TRY n) →
    ∃ e, exec (.linkMsgTimeout n) ⟨c, d, q⟩ = .next ⟨c, e, q⟩ ∧
      (e.deck n).link = { (d.deck n).link with req := some { r with queued := true } } ∧
      e.deck n = { d.deck n with link := (e.deck n).link } ∧
      DeckOnly n d e ∧
      e = { d with decks := e.decks }) ∧
  -- LINK_RX_LOSS while UP
  (∀ (c : Clock) (d : Dev) (q : List Instr) (n : Fin 16),
    d.deckOn n = true →
    d.linkSt n = lkUP →
    ∃ e, exec (.linkRxLoss n) ⟨c, d, q⟩ = .next ⟨c, e, q⟩ ∧
      e.linkSt n = lkTRAINING ∧ e.get (Reg.WRP_LINK_STS_STEP n) = 0 ∧
      e.get (Reg.WRP_LINK_STS_KILL_SENT n) = 1 ∧
      bit (e.deck n).gate.hold gLINK = true ∧ (e.deck n).gate.shut = 0xFFFF ∧
      (e.deck n).link.tries = 0 ∧ (e.deck n).link.laserMode = min 1 (d.deck n).link.laserMode ∧
      DeckOnly n d e ∧
      e = { d with regs := e.regs, decks := e.decks } ∧
      RegsOnly [Reg.WRP_LINK_STS_STATE n, Reg.WRP_LINK_STS_STEP n, Reg.WRP_LINK_STS_KILL_SENT n, Reg.WRP_GATE_STS_LINK n,
        Reg.WRP_GATE_STS_EMIT_OPEN n, Reg.WRP_GATE_STS_CLOSED n] d e) ∧
  -- LINK_BRINGUP, steps 1 and 2
  (∀ (c : Clock) (d : Dev) (q : List Instr) (n : Fin 16) (ofs : OfsObs),
    (d.deckOn n = true ∧ noLoopEngine d n = false) →
    (d.linkSt n = lkTRAINING ∧ (d.deck n).link.retry = false ∧ d.get (Reg.WRP_LINK_STS_STEP n) < 2) →
    d.dstate n = dABSENT →
    ∃ e, exec (.linkBringup n true ofs) ⟨c, d, q⟩ = .next ⟨c, e, q⟩ ∧
      e.get (Reg.WRP_LINK_STS_STEP n) = d.get (Reg.WRP_LINK_STS_STEP n) + 1 ∧
      e = { d with regs := e.regs } ∧
      RegsOnly [Reg.WRP_LINK_STS_STEP n] d e) ∧
  -- LINK_BRINGUP, a step fails
  (∀ (c : Clock) (d : Dev) (q : List Instr) (n : Fin 16) (ofs : OfsObs),
    (d.deckOn n = true ∧ noLoopEngine d n = false) →
    (d.linkSt n = lkTRAINING ∧ (d.deck n).link.retry = false) →
    d.dstate n = dABSENT →
    ∃ e, exec (.linkBringup n false ofs) ⟨c, d, q⟩ = .next ⟨c, e, q⟩ ∧
      (e.deck n).link.retry = true ∧ (e.deck n).link.tries = (d.deck n).link.tries + 1 ∧
      DeckOnly n d e ∧
      e = { d with decks := e.decks }) ∧
  -- LINK_RETRY_TIMER
  (∀ (c : Clock) (d : Dev) (q : List Instr) (n : Fin 16),
    d.deckOn n = true →
    (d.linkSt n = lkTRAINING ∧ (d.deck n).link.retry = true ∧ 10 * tickMs ≤ d.age n aLINK) →
    ∃ e, exec (.linkRetryTimer n) ⟨c, d, q⟩ = .next ⟨c, e, q⟩ ∧
      ((d.deck n).link.tries < 3 → e.linkSt n = lkTRAINING ∧ e.get (Reg.WRP_LINK_STS_STEP n) = 0) ∧
      (3 ≤ (d.deck n).link.tries → e.linkSt n = lkFAULT ∧ e.dstate n = dFAULT ∧ e.get (Reg.SEQ_STS_CAUSE n) = 1) ∧
      (e.deck n).link.retry = false ∧
      DeckOnly n d e) ∧
  -- FORCE_DOWN
  (∀ (c : Clock) (d : Dev) (q : List Instr) (link : Fin 2) (n : Fin 16),
    d.deny (.bar2 link) true ((Reg.WRP_LINK_CFG_FORCE_DOWN n).off) 4 = none →
    ∃ e, exec (.forceDown link n true) ⟨c, d, q⟩ = .next ⟨c, e, q⟩ ∧
      e.get (Reg.WRP_LINK_CFG_FORCE_DOWN n) = 1 ∧
      e.linkSt n = lkDOWN ∧ (e.deck n).link.laserMode = 0 ∧
      e.get (Reg.WRP_LINK_STS_KILL_SENT n) = 1 ∧
      DeckOnly n d e)

/-- What closes a deck's write gate, and when it reopens. Rows of a deck act while its DECK domain is on. (R211, R212, R218,
R365, 07_write_path.md, 11_deck_sequences.md) -/
def Obligations.WriteGate : Prop :=
  -- SHOCK_CROSSING beyond the limit
  (∀ (c : Clock) (d : Dev) (q : List Instr) (n : Fin 16) (level : Nat),
    d.deckOn n = true →
    d.get (Reg.WRP_GATE_CFG_SHK_LIM n) < level →
    ∃ e, exec (.shockCrossing n level) ⟨c, d, q⟩ = .next ⟨c, e, q⟩ ∧
      (e.deck n).gate = { (d.deck n).gate with hold := setBit (d.deck n).gate.hold gSHOCK, shut := 0xFFFF } ∧
      e.get (Reg.WRP_GATE_STS_SHOCK n) = 1 ∧ e.get (Reg.WRP_GATE_STS_CLOSED n) = 1 ∧ e.get (Reg.WRP_GATE_STS_EMIT_OPEN n) =
        0 ∧
      (d.openMask n ≠ 0 → (e.deck n).link.killSent = true ∧ e.get (Reg.WRP_LINK_STS_KILL_SENT n) = 1) ∧
      (e.deck n).seq.shockOpen = true ∧
      DeckOnly n d e ∧
      e = { d with regs := e.regs, decks := e.decks } ∧
      RegsOnly [Reg.WRP_GATE_STS_SHOCK n, Reg.WRP_GATE_STS_CLOSED n, Reg.WRP_GATE_STS_EMIT_OPEN n,
        Reg.WRP_LINK_STS_KILL_SENT n] d e) ∧
  -- SHOCK_CROSSING within the limit
  (∀ (c : Clock) (d : Dev) (q : List Instr) (n : Fin 16) (level : Nat),
    d.deckOn n = true →
    level ≤ d.get (Reg.WRP_GATE_CFG_SHK_LIM n) →
    ∃ e, exec (.shockCrossing n level) ⟨c, d, q⟩ = .next ⟨c, e, q⟩ ∧
      e = d) ∧
  -- SHOCK_CLEAR
  (∀ (c : Clock) (d : Dev) (q : List Instr) (n : Fin 16) (level : Nat),
    d.deckOn n = true →
    level ≤ d.get (Reg.WRP_GATE_CFG_SHK_LIM n) →
    bit (d.deck n).gate.hold gSHOCK = true →
    ∃ e, exec (.shockClear n level) ⟨c, d, q⟩ = .next ⟨c, e, q⟩ ∧
      (e.deck n).gate = { (d.deck n).gate with hold := clrBit (d.deck n).gate.hold gSHOCK, clearedAt := c.grains n } ∧
      e.deck n = { d.deck n with gate := (e.deck n).gate, ages := (e.deck n).ages } ∧
      (∀ k : Nat, k ≠ aINH → d.age n k = e.age n k) ∧
      DeckOnly n d e ∧
      e = { d with regs := e.regs, decks := e.decks } ∧
      RegsOnly [Reg.WRP_GATE_STS_CLOSED n, Reg.WRP_GATE_STS_EMIT_OPEN n] d e) ∧
  -- VM_WINDOW_CROSSING out of the window
  (∀ (c : Clock) (d : Dev) (q : List Instr) (n : Fin 16) (vm : Nat),
    d.deckOn n = true →
    (vm < d.get (Reg.WRP_GATE_VM_VM_LO n) ∨ d.get (Reg.WRP_GATE_VM_VM_HI n) < vm) →
    ∃ e, exec (.vmWindowCrossing n vm) ⟨c, d, q⟩ = .next ⟨c, e, q⟩ ∧
      (e.deck n).gate.hold = setBit (d.deck n).gate.hold gVM ∧ (e.deck n).gate.shut = 0xFFFF ∧
      e.get (Reg.WRP_GATE_STS_VM n) = 1 ∧
      e.get (Reg.WRP_GATE_STS_CLOSED n) = 1 ∧
      DeckOnly n d e ∧
      e = { d with regs := e.regs, decks := e.decks } ∧
      RegsOnly [Reg.WRP_GATE_STS_VM n, Reg.WRP_GATE_STS_CLOSED n, Reg.WRP_GATE_STS_EMIT_OPEN n, Reg.WRP_LINK_STS_KILL_SENT
        n] d e) ∧
  -- VM_WINDOW_CROSSING into the window
  (∀ (c : Clock) (d : Dev) (q : List Instr) (n : Fin 16) (vm : Nat),
    d.deckOn n = true →
    (d.get (Reg.WRP_GATE_VM_VM_LO n) ≤ vm ∧ vm ≤ d.get (Reg.WRP_GATE_VM_VM_HI n)) →
    bit (d.deck n).gate.hold gVM = true →
    ∃ e, exec (.vmWindowCrossing n vm) ⟨c, d, q⟩ = .next ⟨c, e, q⟩ ∧
      (e.deck n).gate = { (d.deck n).gate with hold := clrBit (d.deck n).gate.hold gVM, clearedAt := c.grains n } ∧
      DeckOnly n d e ∧
      e = { d with regs := e.regs, decks := e.decks } ∧
      RegsOnly [Reg.WRP_GATE_STS_CLOSED n, Reg.WRP_GATE_STS_EMIT_OPEN n] d e) ∧
  -- GATE_REOPEN
  (∀ (c : Clock) (d : Dev) (q : List Instr) (n : Fin 16),
    d.deckOn n = true →
    ((d.deck n).gate.hold = 0 ∧ (d.deck n).primer = none ∧ d.linkSt n = lkUP ∧ d.tbState n = tbLOCKED) →
    (d.deck n).gate.clearedAt + d.get (Reg.WRP_GATE_CFG_SETTLE n) * 16384 ≤ c.grains n →
    ((d.deck n).gate.emFault = 0 ∧ (d.deck n).gate.emAt = []) →
    d.get (Reg.WRP_GATE_CFG_SETTLE n) * 16384 ≤ c.grains n →
    ∃ e, exec (.gateReopen n) ⟨c, d, q⟩ = .next ⟨c, e, q⟩ ∧
      (e.deck n).gate = { (d.deck n).gate with shut := 0 } ∧
      e.get (Reg.WRP_GATE_STS_EMIT_OPEN n) = 0xFFFF - d.excluded n ∧
      DeckOnly n d e ∧
      e = { d with regs := e.regs, decks := e.decks } ∧
      RegsOnly [Reg.WRP_GATE_STS_CLOSED n, Reg.WRP_GATE_STS_EMIT_OPEN n] d e) ∧
  -- GATE_REOPEN while a condition holds
  (∀ (c : Clock) (d : Dev) (q : List Instr) (n : Fin 16),
    d.deckOn n = true →
    (d.deck n).gate.hold ≠ 0 →
    ∃ e, exec (.gateReopen n) ⟨c, d, q⟩ = .next ⟨c, e, q⟩ ∧
      e = d) ∧
  -- WRITE_INHIBIT_TIMEOUT
  (∀ (c : Clock) (d : Dev) (q : List Instr) (n : Fin 16) (x : Ctx) (w : Wr),
    (d.deckOn n = true ∧ d.openMask n = 0 ∧ d.get (Reg.WRP_GATE_VM_INH_TMO n) * 100 * tickMs ≤ d.span c n aINH) →
    d.pwr.entry = 0 →
    (d.host.ctxs = [x] ∧ x.mute = false ∧ x.posted = false) →
    (d.host.writes = [w] ∧ w.stamp = x.stamp ∧ w.fua = true ∧ w.places.contains n = true ∧ w.committedOn = []) →
    (d.host.jobs = [] ∧ x.cmd.op = .write) →
    ∃ e, exec (.writeInhibitTimeout n) ⟨c, d, q⟩ = .next ⟨c, e, q⟩ ∧
      Answered x.stamp x .writeInhibited 0 0 [] e ∧
      e.host.writes = [{ w with fua := false }])

/-- Modes, coefficients, bank swaps, learning and the safe-state latch as software writes them. Each is a register write that
nothing stands against; a write acts on the slot it names and no other. (R247, R248, R249, R250, R251, R258, R263, R268, R277,
08_servo_loops.md) -/
def Obligations.SlotModesAndBanks : Prop :=
  -- SLOT_MODE_WRITE
  (∀ (c : Clock) (d : Dev) (q : List Instr) (link : Fin 2) (n : Fin 16) (k mode : Fin 8),
    d.deny (.bar2 link) true ((Reg.LOOP_SLOT_CTL_MODE n k).off) 4 = none →
    d.getB (Reg.LOOP_ENG_STS_SAFE n) = false →
    mode.val < 3 →
    ∃ e, exec (.slotModeWrite link n k mode) ⟨c, d, q⟩ = .next ⟨c, e, q⟩ ∧
      e.get (Reg.LOOP_SLOT_CTL_MODE n k) = mode ∧
      e.get (Reg.LOOP_STS_MODE n k) = d.get (Reg.LOOP_STS_MODE n k) ∧
      (e.deck n).slot k = { (d.deck n).slot k with pendMode := some mode } ∧
      e.deck n = { d.deck n with slots := (e.deck n).slots } ∧
      DeckOnly n d e ∧
      e = { d with regs := e.regs, decks := e.decks, who := e.who } ∧
      RegsOnly [Reg.LOOP_SLOT_CTL_MODE n k] d e) ∧
  -- SLOT_MODE_WRITE while SAFE is latched
  (∀ (c : Clock) (d : Dev) (q : List Instr) (link : Fin 2) (n : Fin 16) (k mode : Fin 8),
    d.deny (.bar2 link) true ((Reg.LOOP_SLOT_CTL_MODE n k).off) 4 = none →
    (d.getB (Reg.LOOP_ENG_STS_SAFE n) = true ∧ k.val ≠ 4) →
    ∃ e, exec (.slotModeWrite link n k mode) ⟨c, d, q⟩ = .next ⟨c, e, q⟩ ∧
      e.get (Reg.ANG_WR_ERR_SUB n) = setBit (d.get (Reg.ANG_WR_ERR_SUB n)) 4 % 2 ^ (Reg.ANG_WR_ERR_SUB n).w ∧
      e.get (Reg.ANG_WR_ERR_KIND n) = 2 ∧
      e = { d with regs := e.regs, who := e.who } ∧
      RegsOnly [Reg.ANG_WR_ERR_SUB n, Reg.ANG_WR_ERR_OFFSET n, Reg.ANG_WR_ERR_KIND n] d e) ∧
  -- CF_DATA_WRITE of a coefficient
  (∀ (c : Clock) (d : Dev) (q : List Instr) (link : Fin 2) (n : Fin 16) (v : Word) (i b : Nat) (k : Fin 8),
    d.deny (.bar2 link) true ((Reg.LOOP_CF_DATA_DATA n).off) 4 = none →
    (d.get (Reg.LOOP_CF_ADDR_SLOT n) = k ∧ d.get (Reg.LOOP_CF_ADDR_SPACE n) = 0) →
    (d.get (Reg.LOOP_CF_ADDR_INDEX n) = i ∧ i < 32 ∧ i ≠ 7 ∧ d.get (Reg.LOOP_CF_ADDR_BANK n) = b) →
    (b < 2 ∧ d.get (Reg.LOOP_BANK_ACTIVE n k) < 2 ∧ b ≠ d.get (Reg.LOOP_BANK_ACTIVE n k) ∧ d.getB (Reg.LOOP_BANK_BUSY n k)
        = false) →
    ∃ e, exec (.cfDataWrite link n v) ⟨c, d, q⟩ = .next ⟨c, e, q⟩ ∧
      ((e.deck n).slot k).word b i = v.toNat ∧
      (∀ j, j ≠ i → ((e.deck n).slot k).word b j = ((d.deck n).slot k).word b j) ∧
      ((e.deck n).slot k).word (d.get (Reg.LOOP_BANK_ACTIVE n k)) i = ((d.deck n).slot k).word (d.get (Reg.LOOP_BANK_ACTIVE
        n k)) i ∧
      DeckOnly n d e ∧
      e = { d with decks := e.decks, who := e.who }) ∧
  -- CF_DATA_WRITE to the bank in force
  (∀ (c : Clock) (d : Dev) (q : List Instr) (link : Fin 2) (n : Fin 16) (v : Word),
    d.deny (.bar2 link) true ((Reg.LOOP_CF_DATA_DATA n).off) 4 = none →
    d.get (Reg.LOOP_CF_ADDR_SPACE n) = 0 →
    d.get (Reg.LOOP_CF_ADDR_BANK n) = d.get (Reg.LOOP_BANK_ACTIVE n (d.get (Reg.LOOP_CF_ADDR_SLOT n))) →
    ∃ e, exec (.cfDataWrite link n v) ⟨c, d, q⟩ = .next ⟨c, e, q⟩ ∧
      e.get (Reg.LOOP_CF_ADDR_ERR n) = 1 ∧
      e = { d with regs := e.regs, who := e.who } ∧
      RegsOnly [Reg.LOOP_CF_ADDR_ERR n] d e) ∧
  -- BANK_SWAP_REQ
  (∀ (c : Clock) (d : Dev) (q : List Instr) (link : Fin 2) (n : Fin 16) (k : Fin 8) (trig : Fin 64) (atTrig clr : Bool),
    d.deny (.bar2 link) true ((Reg.LOOP_BANK_REQ n k).off) 4 = none →
    d.getB (Reg.LOOP_BANK_BUSY n k) = false →
    (atTrig = true → d.getB (Reg.ANG_TRIG_CFG_ARM n trig) = true ∧ d.get (Reg.ANG_TRIG_CFG_MODE n trig) ≠ 0) →
    ∃ e, exec (.bankSwapReq link n k trig atTrig clr) ⟨c, d, q⟩ = .next ⟨c, e, q⟩ ∧
      e.get (Reg.LOOP_BANK_BUSY n k) = 1 ∧ e.get (Reg.LOOP_BANK_REQ n k) = 1 ∧
      e.get (Reg.LOOP_BANK_ACTIVE n k) = d.get (Reg.LOOP_BANK_ACTIVE n k) ∧
      (e.deck n).slot k = { (d.deck n).slot k with swap := some { atTrig := atTrig, trig := trig, clr := clr } } ∧
      DeckOnly n d e ∧
      e = { d with regs := e.regs, decks := e.decks, who := e.who } ∧
      RegsOnly [Reg.LOOP_BANK_BUSY n k, Reg.LOOP_BANK_REQ n k, Reg.LOOP_BANK_TRIG n k, Reg.LOOP_BANK_AT_TRIG n k,
        Reg.LOOP_BANK_CLR_STATE n k] d e) ∧
  -- BANK_SWAP_REQ on a trigger that is not armed
  (∀ (c : Clock) (d : Dev) (q : List Instr) (link : Fin 2) (n : Fin 16) (k : Fin 8) (trig : Fin 64) (clr : Bool),
    d.deny (.bar2 link) true ((Reg.LOOP_BANK_REQ n k).off) 4 = none →
    d.getB (Reg.LOOP_BANK_BUSY n k) = false →
    d.getB (Reg.ANG_TRIG_CFG_ARM n trig) = false →
    ∃ e, exec (.bankSwapReq link n k trig true clr) ⟨c, d, q⟩ = .next ⟨c, e, q⟩ ∧
      e.get (Reg.LOOP_BANK_RESULT n k) = 3 ∧
      e.get (Reg.LOOP_BANK_BUSY n k) = 0) ∧
  -- BANK_SWAP_CANCEL
  (∀ (c : Clock) (d : Dev) (q : List Instr) (link : Fin 2) (n : Fin 16) (k : Fin 8),
    d.deny (.bar2 link) true ((Reg.LOOP_BANK_REQ n k).off) 4 = none →
    d.getB (Reg.LOOP_BANK_BUSY n k) = true →
    ∃ e, exec (.bankSwapCancel link n k) ⟨c, d, q⟩ = .next ⟨c, e, q⟩ ∧
      e.get (Reg.LOOP_BANK_BUSY n k) = 0 ∧ e.get (Reg.LOOP_BANK_REQ n k) = 0 ∧ e.get (Reg.LOOP_BANK_RESULT n k) = 4 ∧
      (e.deck n).slot k = { (d.deck n).slot k with swap := none } ∧
      DeckOnly n d e ∧
      e = { d with regs := e.regs, decks := e.decks, who := e.who } ∧
      RegsOnly [Reg.LOOP_BANK_BUSY n k, Reg.LOOP_BANK_REQ n k, Reg.LOOP_BANK_RESULT n k] d e) ∧
  -- LEARN
  (∀ (c : Clock) (d : Dev) (q : List Instr) (link : Fin 2) (n : Fin 16) (k : Fin 8),
    d.deny (.bar2 link) true ((Reg.LOOP_FF_CTL_LEARN n k).off) 4 = none →
    ((d.deck n).slot k).learn = none →
    ∃ e, exec (.learn link n k) ⟨c, d, q⟩ = .next ⟨c, e, q⟩ ∧
      (e.deck n).slot k = { (d.deck n).slot k with learn := some {} } ∧
      e.get (Reg.LOOP_FF_CTL_LEARN n k) = 1 ∧ e.get (Reg.LOOP_FF_CTL_REVS n k) = 0 ∧
      DeckOnly n d e ∧
      e = { d with regs := e.regs, decks := e.decks, who := e.who } ∧
      RegsOnly [Reg.LOOP_FF_CTL_LEARN n k, Reg.LOOP_FF_CTL_REVS n k] d e) ∧
  -- FF_CLEAR
  (∀ (c : Clock) (d : Dev) (q : List Instr) (link : Fin 2) (n : Fin 16) (k : Fin 8),
    d.deny (.bar2 link) true ((Reg.LOOP_FF_CTL_LEARN n k).off) 4 = none →
    ((d.deck n).slot k).learning = false →
    ∃ e, exec (.ffClear link n k) ⟨c, d, q⟩ = .next ⟨c, e, q⟩ ∧
      (e.deck n).slot k = { (d.deck n).slot k with table := [] } ∧
      DeckOnly n d e ∧
      e = { d with decks := e.decks, who := e.who }) ∧
  -- FF_CLEAR while learning
  (∀ (c : Clock) (d : Dev) (q : List Instr) (link : Fin 2) (n : Fin 16) (k : Fin 8),
    d.deny (.bar2 link) true ((Reg.LOOP_FF_CTL_LEARN n k).off) 4 = none →
    ((d.deck n).slot k).learning = true →
    ∃ e, exec (.ffClear link n k) ⟨c, d, q⟩ = .next ⟨c, e, q⟩ ∧
      e = { d with who := e.who }) ∧
  -- SAFE_RELEASE
  (∀ (c : Clock) (d : Dev) (q : List Instr) (link : Fin 2) (n : Fin 16),
    d.deny (.bar2 link) true ((Reg.LOOP_ENG_STS_SAFE n).off) 4 = none →
    d.getB (Reg.LOOP_ENG_STS_SAFE n) = true →
    (∀ k : Fin 8, ((d.deck n).slot k).inhibit = false) →
    bit (d.deck n).gate.hold gLOOP = true →
    ∃ e, exec (.safeRelease link n) ⟨c, d, q⟩ = .next ⟨c, e, q⟩ ∧
      e.get (Reg.LOOP_ENG_STS_SAFE n) = 0 ∧
      (e.deck n).gate = { (d.deck n).gate with hold := clrBit (d.deck n).gate.hold gLOOP, clearedAt := c.grains n } ∧
      DeckOnly n d e ∧
      e = { d with regs := e.regs, decks := e.decks, who := e.who } ∧
      RegsOnly [Reg.LOOP_ENG_STS_SAFE n, Reg.WRP_GATE_STS_EMIT_OPEN n, Reg.WRP_GATE_STS_CLOSED n] d e)

/-- Profile commands, the end of a profile, samples outside trigger 0, and the 12 V rail. Command writes are accesses that
nothing stands against; other rows act while the DECK domain is on. (R236, R237, R242, R253, R254, R275, R285,
08_servo_loops.md) -/
def Obligations.ProfilesAndSamples : Prop :=
  -- PROF_MOVE
  (∀ (c : Clock) (d : Dev) (q : List Instr) (link : Fin 2) (n : Fin 16) (k : Fin 8),
    d.deny (.bar2 link) true ((Reg.LOOP_PROF_CTL_CMD n k).off) 4 = none →
    d.getB (Reg.LOOP_PROF_CTL_BUSY n k) = false →
    d.get (Reg.LOOP_STS_MODE n k) = 2 →
    ∃ e, exec (.profMove link n k false) ⟨c, d, q⟩ = .next ⟨c, e, q⟩ ∧
      e.get (Reg.LOOP_PROF_CTL_BUSY n k) = 1 ∧ e.get (Reg.LOOP_PROF_CTL_REL n k) = 0 ∧
      ((e.deck n).slot k).prof = some
        { kind := 1, start := ((d.deck n).slot k).profPos, target := d.getI (Reg.LOOP_PROF_TGT_TARGET n k), t0 := c.tick,
            vLim := d.get (Reg.LOOP_PROF_LIM_V_LIM n k), aLim := d.get (Reg.LOOP_PROF_LIM_A_LIM n k), jLim := d.get
            (Reg.LOOP_PROF_J_J_LIM n k), seek := (d.getI (Reg.LOOP_PROF_TGT_TARGET n k)).natAbs } ∧
      (e.deck n).slot k = { (d.deck n).slot k with prof := ((e.deck n).slot k).prof } ∧
      DeckOnly n d e ∧
      e = { d with regs := e.regs, decks := e.decks, who := e.who } ∧
      RegsOnly [Reg.LOOP_PROF_CTL_BUSY n k, Reg.LOOP_PROF_CTL_REL n k] d e) ∧
  -- PROF_MOVE while a move runs
  (∀ (c : Clock) (d : Dev) (q : List Instr) (link : Fin 2) (n : Fin 16) (k : Fin 8) (rel : Bool),
    d.deny (.bar2 link) true ((Reg.LOOP_PROF_CTL_CMD n k).off) 4 = none →
    d.getB (Reg.LOOP_PROF_CTL_BUSY n k) = true →
    ∃ e, exec (.profMove link n k rel) ⟨c, d, q⟩ = .next ⟨c, e, q⟩ ∧
      e.get (Reg.LOOP_PROF_CTL_RESULT n k) = 2 ∧
      e = { d with regs := e.regs, who := e.who } ∧
      RegsOnly [Reg.LOOP_PROF_CTL_RESULT n k, Reg.LOOP_PROF_CTL_REL n k] d e) ∧
  -- PROF_JUMP
  (∀ (c : Clock) (d : Dev) (q : List Instr) (link : Fin 2) (n : Fin 16) (k : Fin 8) (layer : Fin 32),
    d.deny (.bar2 link) true ((Reg.LOOP_PROF_CTL_CMD n k).off) 4 = none →
    d.getB (Reg.LOOP_PROF_CTL_BUSY n k) = false →
    d.get (Reg.LOOP_STS_MODE n k) = 2 →
    ∃ e, exec (.profJump link n k layer false) ⟨c, d, q⟩ = .next ⟨c, e, q⟩ ∧
      e.get (Reg.LOOP_STS_MODE n k) = 3 ∧
      e.get (Reg.LOOP_PROF_CTL_BUSY n k) = 1 ∧ e.get (Reg.LOOP_PROF_CTL_LAYER n k) = layer ∧
      ((e.deck n).slot k).prof.map (fun p => (p.kind, p.target)) = some (2, d.getI (Reg.LOOP_PROF_TGT_TARGET n k)) ∧
      ((e.deck n).slot k).entry = ((d.deck n).slot k).uPrev ∧
      DeckOnly n d e) ∧
  -- PROF_SEEK
  (∀ (c : Clock) (d : Dev) (q : List Instr) (link : Fin 2) (n : Fin 16),
    d.deny (.bar2 link) true ((Reg.LOOP_PROF_CTL_CMD n 1).off) 4 = none →
    d.getB (Reg.LOOP_PROF_CTL_BUSY n 1) = false →
    d.get (Reg.LOOP_STS_MODE n 1) = 2 →
    (d.getI (Reg.LOOP_PROF_TGT_TARGET n 1)).natAbs ≤ 64000 →
    ∃ e, exec (.profSeek link n 1 false) ⟨c, d, q⟩ = .next ⟨c, e, q⟩ ∧
      e.get (Reg.LOOP_STS_MODE n 1) = 3 ∧
      e.get (Reg.LOOP_PROF_CTL_CROSS n 1) = 0 ∧
      ((e.deck n).slot 1).prof.map (fun p => (p.kind, p.seek)) = some (3, (d.getI (Reg.LOOP_PROF_TGT_TARGET n 1)).natAbs) ∧
      DeckOnly n d e) ∧
  -- PROF_STOP
  (∀ (c : Clock) (d : Dev) (q : List Instr) (link : Fin 2) (n : Fin 16) (k : Fin 8) (p : Prof),
    d.deny (.bar2 link) true ((Reg.LOOP_PROF_CTL_CMD n k).off) 4 = none →
    (((d.deck n).slot k).prof = some p ∧ p.bySeq = false) →
    ∃ e, exec (.profStop link n k) ⟨c, d, q⟩ = .next ⟨c, e, q⟩ ∧
      (e.deck n).slot k = { (d.deck n).slot k with prof := some { p with stopping := true } } ∧
      DeckOnly n d e ∧
      e = { d with decks := e.decks, who := e.who }) ∧
  -- PROFILE_END of a MOVE
  (∀ (c : Clock) (d : Dev) (q : List Instr) (n : Fin 16) (k : Fin 8) (restAt : Int) (p : Prof),
    d.deckOn n = true →
    (((d.deck n).slot k).prof = some p ∧ p.kind = 1 ∧ p.runs c.tick = false) →
    ∃ e, exec (.profileEnd n k restAt) ⟨c, d, q⟩ = .next ⟨c, e, q⟩ ∧
      e.get (Reg.LOOP_PROF_CTL_BUSY n k) = 0 ∧
      (e.get (Reg.LOOP_PROF_CTL_RESULT n k) = if p.stopping then 3 else 1) ∧
      (e.deck n).slot k = { (d.deck n).slot k with prof := none, profPos := if p.stopping then restAt else p.target } ∧
      DeckOnly n d e ∧
      e = { d with regs := e.regs, decks := e.decks } ∧
      RegsOnly [Reg.LOOP_PROF_CTL_BUSY n k, Reg.LOOP_PROF_CTL_RESULT n k] d e) ∧
  -- PROFILE_END of a jump
  (∀ (c : Clock) (d : Dev) (q : List Instr) (n : Fin 16) (k : Fin 8) (restAt : Int) (p : Prof),
    d.deckOn n = true →
    (((d.deck n).slot k).prof = some p ∧ p.kind = 2 ∧ p.stopping = false ∧ p.ended = false ∧ p.runs c.tick = false) →
    ∃ e, exec (.profileEnd n k restAt) ⟨c, d, q⟩ = .next ⟨c, e, q⟩ ∧
      e.get (Reg.LOOP_STS_MODE n k) = 2 ∧
      ((e.deck n).slot k).prof = some { p with ended := true } ∧ ((e.deck n).slot k).profPos = p.target ∧
      (e.deck n).eng.layerSeen = [] ∧ (e.deck n).eng.layerWait = 0 ∧
      DeckOnly n d e) ∧
  -- LOOP_SUBSAMPLE
  (∀ (c : Clock) (d : Dev) (q : List Instr) (n : Fin 16) (m : Nat) (o : ServoObs),
    d.deckOn n = true →
    (2 ≤ d.tbState n ∧ d.getB (Reg.LOOP_ENG_STS_FREE n) = false) →
    (o.coils = [] ∧ (d.deck n).eng.sumRun = 0) →
    (∀ k : Fin 8, d.getB (Reg.LOOP_SLOT_CFG_SUB n k) = false) →
    ((d.deck n).slot 1).prof = none →
    ∃ e, exec (.loopSubsample n m o) ⟨c, d, q⟩ = .next ⟨c, e, q⟩ ∧
      e.get (Reg.LOOP_ENG_STS_SAMPLES n) = (d.get (Reg.LOOP_ENG_STS_SAMPLES n) + 1) % 2 ^ (Reg.LOOP_ENG_STS_SAMPLES n).w ∧
      (e.deck n).slots = (d.deck n).slots ∧
      (e.deck n).eng.coilN = (d.deck n).eng.coilN + 1 ∧
      DeckOnly n d e) ∧
  -- FREE_RUN_SAMPLE
  (∀ (c : Clock) (d : Dev) (q : List Instr) (n : Fin 16) (o : ServoObs),
    d.deckOn n = true →
    (d.tbState n < 2 ∧ sampleHere c n d = false) →
    (∀ t, (d.deck n).eng.sampledAt = some t → t + d.get (Reg.LOOP_SAMPLE_CFG_FREE_TICKS n) ≤ c.tick) →
    (o.coils = [] ∧ (d.deck n).eng.sumRun = 0) →
    (∀ k : Fin 8, d.get (Reg.LOOP_STS_MODE n k) = 0 ∧ ((d.deck n).slot k).pendMode = none ∧ ((d.deck n).slot k).swap = none
        ∧ ((d.deck n).slot k).prof = none) →
    ∃ e, exec (.freeRunSample n o) ⟨c, d, q⟩ = .next ⟨c, e, q⟩ ∧
      e.get (Reg.LOOP_ENG_STS_FREE n) = 1 ∧
      e.get (Reg.LOOP_ENG_STS_SAMPLES n) = (d.get (Reg.LOOP_ENG_STS_SAMPLES n) + 1) % 2 ^ (Reg.LOOP_ENG_STS_SAMPLES n).w ∧
      (e.deck n).eng.freeN = (d.deck n).eng.freeN + 1 ∧
      ((d.deck n).eng.freeN % 5 = 0 → ∀ k : Fin 8, e.get (Reg.LOOP_VAL_OUT n k) = 0) ∧
      DeckOnly n d e) ∧
  -- V12_RAIL_CHANGE
  (∀ (c : Clock) (d : Dev) (q : List Instr) (n : Fin 16) (tenths : Nat),
    (d.deckOn n = true ∧ d.getB Reg.PWR_VM_STS_VM_ABS = false ∧ (d.deck n).seq.coilsOff = false ∧ d.dstate n ≠ dABSENT) →
    ∃ e, exec (.v12RailChange n tenths) ⟨c, d, q⟩ = .next ⟨c, e, q⟩ ∧
      e.get (Reg.ACT_SAFE_CFG_V12 n) = tenths % 2 ^ (Reg.ACT_SAFE_CFG_V12 n).w ∧
      e.get (Reg.ACT_SAFE_CFG_V12_OK n) = ofB (decide (110 ≤ tenths ∧ tenths ≤ 130)) ∧
      (∀ k : Fin 3, e.get (Reg.ACT_COIL_STS_ON n k) = ofB (decide (110 ≤ tenths ∧ tenths ≤ 130) && d.getB
        (Reg.ACT_COIL_CFG_EN n k))) ∧
      e = { d with regs := e.regs } ∧
      RegsOnly [Reg.ACT_SAFE_CFG_V12 n, Reg.ACT_SAFE_CFG_V12_OK n, Reg.ACT_COIL_STS_ON n 0, Reg.ACT_COIL_STS_ON n 1,
        Reg.ACT_COIL_STS_ON n 2] d e)

/-- The spindle commands that software writes while the spindle is released to it. Each is a write of SPN.CMD that nothing
stands against. Unless the spindle is released (REL_SPN) the write is ignored with result 2. (R298, R299, R302, R303, R304,
R307, R367, 09_spindle_drive.md) -/
def Obligations.SpindleCommands : Prop :=
  -- SPN_START of a spindle that does not run
  (∀ (c : Clock) (d : Dev) (q : List Instr) (link : Fin 2) (n : Fin 16) (rpm : Fin 65536),
    d.deny (.bar2 link) true ((Reg.SPN_CMD_CMD n).off) 4 = none →
    d.getB (Reg.SEQ_CTL_REL_SPN n) = true →
    (600 ≤ rpm.val ∧ rpm.val ≤ 15000) →
    (d.getB Reg.PWR_VM_STS_VM_ABS = false ∧ d.spnSt n ≠ spRUN) →
    ∃ e, exec (.spnStart link n rpm) ⟨c, d, q⟩ = .next ⟨c, e, q⟩ ∧
      (d.getB (Reg.SPN_CMD_BUSY n) = false → e.get (Reg.SPN_CMD_RESULT n) = d.get (Reg.SPN_CMD_RESULT n)) ∧
      (d.getB (Reg.SPN_CMD_BUSY n) = true → e.get (Reg.SPN_CMD_RESULT n) = 4) ∧
      e.spnSt n = spLISTEN ∧ e.get (Reg.SPN_CMD_BUSY n) = 1 ∧ e.get (Reg.SPN_STS_TRIES n) = 1 ∧
      e.get (Reg.SPN_CMD_TARGET_RPM n) = rpm ∧ e.get (Reg.SPN_STS_BRK_SHORT n) = 0 ∧
      (e.deck n).spn = { (d.deck n).spn with cmd := 1, target := rpm, probes := 0, alignDouble := false, shortWhy := 0 } ∧
      e.deck n = { d.deck n with spn := (e.deck n).spn, ages := ((d.deck n).ages.ins aSPN 0).ins aSLOW 0 } ∧
      DeckOnly n d e ∧
      e = { d with regs := e.regs, decks := e.decks, who := e.who } ∧
      RegsOnly [Reg.SPN_CMD_RESULT n, Reg.SPN_CMD_BUSY n, Reg.SPN_CMD_TARGET_RPM n, Reg.SPN_STS_STATE n, Reg.SPN_STS_TRIES
        n, Reg.SPN_STS_BRK_SHORT n] d e) ∧
  -- SPN_START out of range
  (∀ (c : Clock) (d : Dev) (q : List Instr) (link : Fin 2) (n : Fin 16) (rpm : Fin 65536),
    d.deny (.bar2 link) true ((Reg.SPN_CMD_CMD n).off) 4 = none →
    d.getB (Reg.SEQ_CTL_REL_SPN n) = true →
    (rpm.val < 600 ∨ 15000 < rpm.val) →
    ∃ e, exec (.spnStart link n rpm) ⟨c, d, q⟩ = .next ⟨c, e, q⟩ ∧
      e.get (Reg.SPN_CMD_RESULT n) = 2 ∧
      e = { d with regs := e.regs, who := e.who } ∧
      RegsOnly [Reg.SPN_CMD_RESULT n] d e) ∧
  -- SPN_SET_SPEED
  (∀ (c : Clock) (d : Dev) (q : List Instr) (link : Fin 2) (n : Fin 16) (rpm : Fin 65536),
    d.deny (.bar2 link) true ((Reg.SPN_CMD_CMD n).off) 4 = none →
    d.getB (Reg.SEQ_CTL_REL_SPN n) = true →
    (600 ≤ rpm.val ∧ rpm.val ≤ 15000) →
    (d.spnSt n = spRUN ∧ d.getB (Reg.SPN_CMD_BUSY n) = false) →
    ∃ e, exec (.spnSetSpeed link n rpm) ⟨c, d, q⟩ = .next ⟨c, e, q⟩ ∧
      e.spnSt n = spRUN ∧ e.get (Reg.SPN_CMD_BUSY n) = 1 ∧ e.get (Reg.SPN_CMD_TARGET_RPM n) = rpm ∧
      (e.deck n).spn = { (d.deck n).spn with cmd := 4, target := rpm } ∧
      e.deck n = { d.deck n with spn := (e.deck n).spn } ∧
      DeckOnly n d e ∧
      e = { d with regs := e.regs, decks := e.decks, who := e.who } ∧
      RegsOnly [Reg.SPN_CMD_BUSY n, Reg.SPN_CMD_TARGET_RPM n] d e) ∧
  -- SPN_SET_SPEED while the sequencer owns the spindle
  (∀ (c : Clock) (d : Dev) (q : List Instr) (link : Fin 2) (n : Fin 16) (rpm : Fin 65536),
    d.deny (.bar2 link) true ((Reg.SPN_CMD_CMD n).off) 4 = none →
    d.getB (Reg.SEQ_CTL_REL_SPN n) = false →
    ∃ e, exec (.spnSetSpeed link n rpm) ⟨c, d, q⟩ = .next ⟨c, e, q⟩ ∧
      e.get (Reg.SPN_CMD_RESULT n) = 2 ∧
      e = { d with regs := e.regs, who := e.who } ∧
      RegsOnly [Reg.SPN_CMD_RESULT n] d e) ∧
  -- SPN_STOP by winding short
  (∀ (c : Clock) (d : Dev) (q : List Instr) (link : Fin 2) (n : Fin 16),
    d.deny (.bar2 link) true ((Reg.SPN_CMD_CMD n).off) 4 = none →
    d.getB (Reg.SEQ_CTL_REL_SPN n) = true →
    (d.spnSt n = spRUN ∧ d.getB Reg.PWR_VM_STS_UV = false) →
    ∃ e, exec (.spnStop link n 0) ⟨c, d, q⟩ = .next ⟨c, e, q⟩ ∧
      e.spnSt n = spSHORT ∧
      e.get (Reg.SPN_CMD_BUSY n) = 1 ∧
      (e.deck n).spn = { (d.deck n).spn with cmd := 2, method := 0, target := 0, shortWhy := 0 } ∧
      e.getB (Reg.SEQ_STS_CHARGE n) = false ∧
      DeckOnly n d e ∧
      e = { d with regs := e.regs, decks := e.decks, who := e.who } ∧
      RegsOnly [Reg.SPN_CMD_METHOD n, Reg.SPN_CMD_RESULT n, Reg.SPN_CMD_BUSY n, Reg.SPN_STS_STATE n, Reg.SEQ_STS_CHARGE n,
        Reg.PWR_SPIN_BUDGET_IN_USE] d e) ∧
  -- SPN_STOP by regeneration
  (∀ (c : Clock) (d : Dev) (q : List Instr) (link : Fin 2) (n : Fin 16),
    d.deny (.bar2 link) true ((Reg.SPN_CMD_CMD n).off) 4 = none →
    d.getB (Reg.SEQ_CTL_REL_SPN n) = true →
    (d.spnSt n = spRUN ∧ d.getB Reg.PWR_VM_STS_UV = false ∧ d.getB Reg.PWR_VM_STS_BRAKE_FAULT = false) →
    ∃ e, exec (.spnStop link n 1) ⟨c, d, q⟩ = .next ⟨c, e, q⟩ ∧
      e.spnSt n = spREGEN ∧
      e.get (Reg.SPN_CMD_BUSY n) = 1 ∧ (e.deck n).spn.target = 0 ∧
      DeckOnly n d e) ∧
  -- SPN_COAST
  (∀ (c : Clock) (d : Dev) (q : List Instr) (link : Fin 2) (n : Fin 16),
    d.deny (.bar2 link) true ((Reg.SPN_CMD_CMD n).off) 4 = none →
    d.getB (Reg.SEQ_CTL_REL_SPN n) = true →
    ∃ e, exec (.spnCoast link n) ⟨c, d, q⟩ = .next ⟨c, e, q⟩ ∧
      e.spnSt n = spOFF ∧
      e.get (Reg.SPN_CMD_BUSY n) = 0 ∧ e.get (Reg.SPN_CMD_RESULT n) = 1 ∧
      (e.deck n).spn = { (d.deck n).spn with cmd := 0 } ∧
      DeckOnly n d e ∧
      e = { d with regs := e.regs, decks := e.decks, who := e.who } ∧
      RegsOnly [Reg.SPN_CMD_BUSY n, Reg.SPN_CMD_RESULT n, Reg.SPN_STS_STATE n, Reg.SEQ_STS_CHARGE n,
        Reg.PWR_SPIN_BUDGET_IN_USE] d e)

/-- How a spindle is caught, probed, aligned, handed over, braked and stopped. A deck's rows act while its DECK domain is on;
shown for a deck in LOADED (the sequencer only looks on). (R288, R291, R293, R294, R295, R296, R297, R298, R299, R303, R355,
09_spindle_drive.md) -/
def Obligations.SpindleStates : Prop :=
  -- SPINDLE_LISTEN_END of a standing motor
  (∀ (c : Clock) (d : Dev) (q : List Instr) (n : Fin 16) (amp : Nat) (rpm : Int) (angle : Nat),
    d.deckOn n = true →
    (d.dstate n = dLOADED ∧ d.spnSt n = spLISTEN ∧ 20 * tickMs ≤ d.age n aSPN ∧ d.getB Reg.PWR_VM_STS_UV = false) →
    amp < d.get (Reg.SPN_KE_EMF_MIN n) →
    ((d.deck n).spn.cmd = 1 ∧ d.tbState n = tbOFF) →
    ∃ e, exec (.spindleListenEnd n amp rpm angle {}) ⟨c, d, q⟩ = .next ⟨c, e, q⟩ ∧
      e.spnSt n = spPROBE ∧
      e.get (Reg.SPN_STS_SPEED n) = 0 ∧
      (e.deck n).spn = { (d.deck n).spn with angle := angle, probes := 0, alignDouble := false } ∧
      DeckOnly n d e) ∧
  -- SPINDLE_LISTEN_END of a motor at 600 rpm or more
  (∀ (c : Clock) (d : Dev) (q : List Instr) (n : Fin 16) (amp : Nat) (rpm : Int) (angle : Nat),
    d.deckOn n = true →
    (d.dstate n = dLOADED ∧ d.spnSt n = spLISTEN ∧ 20 * tickMs ≤ d.age n aSPN ∧ d.getB Reg.PWR_VM_STS_UV = false) →
    (d.get (Reg.SPN_KE_EMF_MIN n) ≤ amp ∧ 600 ≤ rpm) →
    ((d.deck n).spn.cmd = 1 ∧ d.tbState n = tbOFF) →
    ∃ e, exec (.spindleListenEnd n amp rpm angle {}) ⟨c, d, q⟩ = .next ⟨c, e, q⟩ ∧
      e.spnSt n = spRUN ∧
      e.get (Reg.SPN_STS_SPEED n) = ux 16 rpm ∧
      (e.deck n).spn = { (d.deck n).spn with angle := angle, cmdSpeed := rpm * 1000 } ∧
      DeckOnly n d e) ∧
  -- SPINDLE_PROBE_DONE
  (∀ (c : Clock) (d : Dev) (q : List Instr) (n : Fin 16) (x : Nat),
    d.deckOn n = true →
    (d.dstate n = dLOADED ∧ d.spnSt n = spPROBE ∧ 6 * tickMs ≤ d.age n aSPN) →
    x ≤ 1000 →
    ∃ e, exec (.spindleProbeDone n [200 + x, 100 + x, 100 + x, 100 + x, 150 + x, 100 + x, 200 + x, 100 + x, 100 + x, 100 +
        x, 150 + x, 100 + x]) ⟨c, d, q⟩ = .next ⟨c, e, q⟩ ∧
      e.spnSt n = spALIGN ∧
      (e.deck n).spn = { (d.deck n).spn with angle := 345 } ∧
      DeckOnly n d e ∧
      e = { d with regs := e.regs, decks := e.decks } ∧
      RegsOnly [Reg.SPN_STS_STATE n, Reg.SEQ_STS_CHARGE n, Reg.PWR_SPIN_BUDGET_IN_USE] d e) ∧
  -- SPINDLE_PROBE_DONE, ambiguous twice
  (∀ (c : Clock) (d : Dev) (q : List Instr) (n : Fin 16) (peaks : List Nat),
    d.deckOn n = true →
    (d.dstate n = dLOADED ∧ d.spnSt n = spPROBE ∧ 6 * tickMs ≤ d.age n aSPN) →
    (d.deck n).spn.probes = 1 →
    peaks = List.replicate 12 100 →
    ∃ e, exec (.spindleProbeDone n peaks) ⟨c, d, q⟩ = .next ⟨c, e, q⟩ ∧
      e.spnSt n = spALIGN ∧
      e.get (Reg.SPN_STS_PROBE_AMB n) = 1 ∧
      (e.deck n).spn = { (d.deck n).spn with angle := 0, alignDouble := true } ∧
      DeckOnly n d e) ∧
  -- SPINDLE_ALIGN_END
  (∀ (c : Clock) (d : Dev) (q : List Instr) (n : Fin 16),
    d.deckOn n = true →
    (d.dstate n = dLOADED ∧ d.spnSt n = spALIGN ∧ alignTicks d n ≤ d.age n aSPN ∧ d.getB Reg.PWR_VM_STS_UV = false) →
    ∃ e, exec (.spindleAlignEnd n) ⟨c, d, q⟩ = .next ⟨c, e, q⟩ ∧
      e.spnSt n = spRAMP ∧
      (e.deck n).spn = { (d.deck n).spn with cmdSpeed := 0 } ∧
      DeckOnly n d e ∧
      e = { d with regs := e.regs, decks := e.decks } ∧
      RegsOnly [Reg.SPN_STS_STATE n] d e) ∧
  -- SPINDLE_HANDOVER
  (∀ (c : Clock) (d : Dev) (q : List Instr) (n : Fin 16),
    d.deckOn n = true →
    (d.dstate n = dLOADED ∧ d.spnSt n = spRAMP ∧ ramped d n 0 = true) →
    ∃ e, exec (.spindleHandover n) ⟨c, d, q⟩ = .next ⟨c, e, q⟩ ∧
      e.spnSt n = spRUN ∧
      (e.deck n).spn = { (d.deck n).spn with cmdSpeed := 600000 } ∧
      (∃ u, (e.deck n).slot 4 = { (d.deck n).slot 4 with integ := u } ∧ 0 ≤ u ∧ u < 2 ^ 31) ∧
      DeckOnly n d e ∧
      e = { d with regs := e.regs, decks := e.decks } ∧
      RegsOnly [Reg.SPN_STS_STATE n] d e) ∧
  -- SPINDLE_STALL
  (∀ (c : Clock) (d : Dev) (q : List Instr) (n : Fin 16),
    d.deckOn n = true →
    (d.dstate n = dLOADED ∧ d.spnSt n = spRAMP ∧ ramped d n (500 * tickMs) = true) →
    ∃ e, exec (.spindleStall n) ⟨c, d, q⟩ = .next ⟨c, e, q⟩ ∧
      e.spnSt n = spSHORT ∧
      e.get (Reg.SPN_STS_STALL n) = 1 ∧ (e.deck n).spn.shortWhy = 1 ∧
      DeckOnly n d e ∧
      e = { d with regs := e.regs, decks := e.decks } ∧
      RegsOnly [Reg.SPN_STS_STATE n, Reg.SPN_STS_STALL n] d e) ∧
  -- SPINDLE_SHORT_END after a stop
  (∀ (c : Clock) (d : Dev) (q : List Instr) (n : Fin 16),
    d.deckOn n = true →
    (d.dstate n = dLOADED ∧ d.spnSt n = spSHORT ∧ (d.deck n).spn.shortWhy = 0 ∧ 500 * tickMs ≤ d.age n aSLOW) →
    d.tbState n = tbOFF →
    ∃ e, exec (.spindleShortEnd n {}) ⟨c, d, q⟩ = .next ⟨c, e, q⟩ ∧
      e.spnSt n = spOFF ∧
      e.get (Reg.SPN_CMD_BUSY n) = 0 ∧ e.get (Reg.SPN_CMD_RESULT n) = 1 ∧
      e.get (Reg.SPN_STS_SPEED n) = 0 ∧
      DeckOnly n d e) ∧
  -- SPINDLE_SHORT_END after the last stalled attempt
  (∀ (c : Clock) (d : Dev) (q : List Instr) (n : Fin 16),
    d.deckOn n = true →
    (d.dstate n = dLOADED ∧ d.spnSt n = spSHORT ∧ (d.deck n).spn.shortWhy = 1 ∧ 200 * tickMs ≤ d.age n aSPN) →
    d.startTry n ≤ d.get (Reg.SPN_STS_TRIES n) →
    ∃ e, exec (.spindleShortEnd n {}) ⟨c, d, q⟩ = .next ⟨c, e, q⟩ ∧
      e.spnSt n = spFAULT ∧
      e.get (Reg.SPN_CMD_RESULT n) = 3 ∧
      e.dstate n = dFAULT ∧ e.get (Reg.SEQ_STS_CAUSE n) = 12 ∧
      DeckOnly n d e) ∧
  -- SPINDLE_REGEN_HANDOFF
  (∀ (c : Clock) (d : Dev) (q : List Instr) (n : Fin 16),
    d.deckOn n = true →
    (d.dstate n = dLOADED ∧ d.spnSt n = spREGEN ∧ d.spnRpm n ≤ 600) →
    ∃ e, exec (.spindleRegenHandoff n) ⟨c, d, q⟩ = .next ⟨c, e, q⟩ ∧
      e.spnSt n = spSHORT ∧
      (e.deck n).spn = { (d.deck n).spn with shortWhy := 0 } ∧
      DeckOnly n d e ∧
      e = { d with regs := e.regs, decks := e.decks } ∧
      RegsOnly [Reg.SPN_STS_STATE n, Reg.SEQ_STS_CHARGE n, Reg.PWR_SPIN_BUDGET_IN_USE] d e) ∧
  -- OBSERVER_LOST with attempts left
  (∀ (c : Clock) (d : Dev) (q : List Instr) (n : Fin 16),
    d.deckOn n = true →
    (d.dstate n = dLOADED ∧ d.spnSt n = spRUN ∧ obsLost d n = true) →
    d.get (Reg.SPN_STS_TRIES n) < d.startTry n →
    ∃ e, exec (.observerLost n) ⟨c, d, q⟩ = .next ⟨c, e, q⟩ ∧
      e.spnSt n = spLISTEN ∧
      e.get (Reg.SPN_STS_OBS_LOST n) = 1 ∧
      e.get (Reg.SPN_STS_TRIES n) = satAdd (Reg.SPN_STS_TRIES n).w (d.get (Reg.SPN_STS_TRIES n)) 1 ∧
      e.get (Reg.SPN_CMD_BUSY n) = 1 ∧
      DeckOnly n d e) ∧
  -- SPINDLE_TARGET_REACHED
  (∀ (c : Clock) (d : Dev) (q : List Instr) (n : Fin 16),
    d.deckOn n = true →
    (d.dstate n = dLOADED ∧ d.spnSt n = spRUN ∧ (d.deck n).spn.cmdSpeed = ((d.deck n).spn.target : Int) * 1000) →
    ((d.deck n).spn.cmd = 1 ∨ (d.deck n).spn.cmd = 4) →
    ∃ e, exec (.spindleTargetReached n) ⟨c, d, q⟩ = .next ⟨c, e, q⟩ ∧
      e.get (Reg.SPN_CMD_BUSY n) = 0 ∧ e.get (Reg.SPN_CMD_RESULT n) = 1 ∧
      e.getB (Reg.SEQ_STS_CHARGE n) = false ∧
      (e.deck n).spn = { (d.deck n).spn with cmd := 0 } ∧
      DeckOnly n d e ∧
      e = { d with regs := e.regs, decks := e.decks } ∧
      RegsOnly [Reg.SPN_CMD_BUSY n, Reg.SPN_CMD_RESULT n, Reg.SEQ_STS_CHARGE n, Reg.PWR_SPIN_BUDGET_IN_USE] d e) ∧
  -- SPINDLE_OC
  (∀ (c : Clock) (d : Dev) (q : List Instr) (n : Fin 16) (i : List Int),
    d.deckOn n = true →
    (d.dstate n = dLOADED ∧ d.spnSt n = spRUN) →
    i.any (fun x => decide (d.get (Reg.SPN_SENSE_CFG_OC_LIM n) < x.natAbs)) = true →
    ∃ e, exec (.spindleOc n i) ⟨c, d, q⟩ = .next ⟨c, e, q⟩ ∧
      e.spnSt n = spFAULT ∧
      e.get (Reg.SPN_STS_OC n) = 1 ∧ e.get (Reg.SPN_CMD_RESULT n) = 3 ∧
      e.dstate n = dFAULT ∧ e.get (Reg.SEQ_STS_CAUSE n) = 12 ∧
      DeckOnly n d e) ∧
  -- PWM_PERIOD of a motor that does not run
  (∀ (c : Clock) (d : Dev) (q : List Instr) (n : Fin 16) (vm : Nat) (id iq rpm : Int) (o : ShuntObs),
    d.deckOn n = true →
    (d.dstate n = dLOADED ∧ d.spnSt n = spSHORT ∧ d.tbState n = tbOFF ∧ (d.deck n).primer = none) →
    ∃ e, exec (.pwmPeriod n vm id iq rpm o) ⟨c, d, q⟩ = .next ⟨c, e, q⟩ ∧
      e.get Reg.PWR_VM_STS_VM = vm % 2 ^ Reg.PWR_VM_STS_VM.w ∧
      e.get (Reg.SPN_MEAS_ID n) = ux 16 id ∧ e.get (Reg.SPN_MEAS_IQ n) = ux 16 iq ∧ e.get (Reg.SPN_STS_SPEED n) = ux 16 rpm
        ∧
      (e.deck n).spn = { (d.deck n).spn with shortOff := decide (d.get (Reg.SPN_BRAKE_CFG_SHORT_ILIM n) < o.peak), obsRun
                                               := 0 } ∧
      e.get (Reg.SPN_STS_REGEN_LIM n) = 0 ∧
      DeckOnly n d e ∧
      e = { d with regs := e.regs, decks := e.decks } ∧
      RegsOnly [Reg.PWR_VM_STS_VM, Reg.PWR_VM_STS_K, Reg.SPN_MEAS_ID n, Reg.SPN_MEAS_IQ n, Reg.SPN_STS_SPEED n,
        Reg.SPN_STS_REGEN_LIM n] d e)

/-- What VM does to every deck: undervoltage, the brake chopper, and VM_ABS. (R304, R305, R306, R307, R308, R369, R370,
09_spindle_drive.md) -/
def Obligations.MotorSupply : Prop :=
  -- VM_UNDERVOLTAGE
  (∀ (c : Clock) (d : Dev) (q : List Instr) (vm : Nat),
    vm < d.get Reg.PWR_VM_LIM_UV_LIM →
    d.getB Reg.PWR_VM_STS_UV = false →
    ∃ e, exec (.vmUndervoltage vm) ⟨c, d, q⟩ = .next ⟨c, e, q⟩ ∧
      e.get Reg.PWR_VM_STS_UV = 1 ∧
      (∀ n : Fin 16, d.spnSt n = spRUN → e.spnSt n = spLISTEN ∧ e.get (Reg.SPN_STS_UV n) = 1 ∧ e.get (Reg.SPN_CMD_BUSY n) =
        1) ∧
      (∀ n : Fin 16, d.sldSt n ≠ slDISABLED → e.sldSt n = slDISABLED ∧ e.get (Reg.SLD_STS_UV n) = 1 ∧ e.get
        (Reg.SLD_STS_POS_OK n) = 0)) ∧
  -- VM_UV_RECOVER
  (∀ (c : Clock) (d : Dev) (q : List Instr) (vm : Nat),
    d.get Reg.PWR_VM_LIM_UV_LIM + 25 ≤ vm →
    d.getB Reg.PWR_VM_STS_UV = true →
    ∃ e, exec (.vmUvRecover vm) ⟨c, d, q⟩ = .next ⟨c, e, q⟩ ∧
      e.get Reg.PWR_VM_STS_UV = 0 ∧
      (∀ n : Fin 16, d.spnSt n = spLISTEN ∧ (d.deck n).spn.cmd ≠ 2 → e.getB (Reg.SEQ_STS_CHARGE n) = true) ∧
      e = { d with regs := e.regs, decks := e.decks }) ∧
  -- BRK_ON
  (∀ (c : Clock) (d : Dev) (q : List Instr) (vm : Nat),
    d.get Reg.PWR_VM_BRK_BRK_ON ≤ vm →
    d.getB Reg.PWR_VM_STS_BRK_ACTIVE = false →
    ∃ e, exec (.brkOn vm) ⟨c, d, q⟩ = .next ⟨c, e, q⟩ ∧
      e.get Reg.PWR_VM_STS_BRK_ACTIVE = 1 ∧
      e.brk = { d.brk with onVm := vm } ∧
      e.ages = d.ages.ins gBRK 0 ∧
      e = { d with regs := e.regs, brk := e.brk, ages := e.ages } ∧
      RegsOnly [Reg.PWR_VM_STS_BRK_ACTIVE, Reg.PWR_VM_STS_VM, Reg.PWR_VM_STS_K] d e) ∧
  -- BRK_OFF
  (∀ (c : Clock) (d : Dev) (q : List Instr) (vm : Nat),
    vm ≤ d.get Reg.PWR_VM_BRK_BRK_OFF →
    ∃ e, exec (.brkOff vm) ⟨c, d, q⟩ = .next ⟨c, e, q⟩ ∧
      e.get Reg.PWR_VM_STS_BRK_ACTIVE = 0 ∧
      e = { d with regs := e.regs } ∧
      RegsOnly [Reg.PWR_VM_STS_BRK_ACTIVE, Reg.PWR_VM_STS_VM, Reg.PWR_VM_STS_K] d e) ∧
  -- BRAKE_FAULT
  (∀ (c : Clock) (d : Dev) (q : List Instr) (vm sense : Nat),
    (d.getB Reg.PWR_VM_STS_BRK_ACTIVE = true ∧ d.getB Reg.PWR_VM_STS_BRAKE_FAULT = false ∧ 50 * tickUs ≤ d.devAge gBRK) →
    sense < d.get Reg.PWR_BRK_CFG_BRK_IMIN →
    ∃ e, exec (.brakeFault vm sense) ⟨c, d, q⟩ = .next ⟨c, e, q⟩ ∧
      e.get Reg.PWR_VM_STS_BRAKE_FAULT = 1 ∧
      (∀ n : Fin 16, d.spnSt n = spREGEN → e.spnSt n = spSHORT ∧ e.get (Reg.SPN_STS_BRK_SHORT n) = 1) ∧
      (∀ n : Fin 16, bit (e.deck n).gate.hold gLATCHED = true)) ∧
  -- VM_ABS
  (∀ (c : Clock) (d : Dev) (q : List Instr) (vm : Nat),
    3150 ≤ vm →
    d.getB Reg.PWR_VM_STS_VM_ABS = false →
    ∃ e, exec (.vmAbs vm) ⟨c, d, q⟩ = .next ⟨c, e, q⟩ ∧
      e.get Reg.PWR_VM_STS_VM_ABS = 1 ∧
      (∀ n : Fin 16, e.dstate n = dFAULT ∧ e.get (Reg.SEQ_STS_CAUSE n) = 10) ∧
      (∀ n : Fin 16, e.sldSt n = slDISABLED ∧ (e.spnSt n = spOFF ∨ e.spnSt n = spFAULT) ∧ (e.deck n).link.laserMode = 0) ∧
      (∀ n : Fin 16, bit (e.deck n).gate.hold gLATCHED = true)) ∧
  -- BRAKE_FAULT_CLEAR
  (∀ (c : Clock) (d : Dev) (q : List Instr) (link : Fin 2),
    d.deny (.bar2 link) true Reg.PWR_VM_STS_BRAKE_FAULT.off 4 = none →
    (d.getB Reg.PWR_VM_STS_BRAKE_FAULT = true ∧ d.brk.test = false) →
    ∃ e, exec (.brakeFaultClear link) ⟨c, d, q⟩ = .next ⟨c, e, q⟩ ∧
      e.brk.test = true ∧ e.get Reg.PWR_VM_STS_BRK_ACTIVE = 1 ∧ e.get Reg.PWR_VM_STS_BRAKE_FAULT = 1 ∧
      e.ages = d.ages.ins gBRK 0 ∧
      e = { d with regs := e.regs, brk := e.brk, ages := e.ages, who := e.who } ∧
      RegsOnly [Reg.PWR_VM_STS_BRK_ACTIVE] d e) ∧
  -- BRAKE_TEST_END, passed
  (∀ (c : Clock) (d : Dev) (q : List Instr) (sense : Nat),
    (d.brk.test = true ∧ 20 * tickUs ≤ d.devAge gBRK) →
    d.get Reg.PWR_BRK_CFG_BRK_IMIN ≤ sense →
    ∃ e, exec (.brakeTestEnd sense) ⟨c, d, q⟩ = .next ⟨c, e, q⟩ ∧
      e.get Reg.PWR_VM_STS_BRAKE_FAULT = 0 ∧
      e.brk.test = false ∧
      (d.getB Reg.PWR_VM_STS_VM_ABS = false ∧ d.getB Reg.PWR_STATE_STS_THERM_SHUT = false → ∀ n : Fin 16, bit (d.deck
        n).gate.hold gLATCHED = true → (e.deck n).gate.hold = clrBit (d.deck n).gate.hold gLATCHED)) ∧
  -- BRAKE_TEST_END, failed
  (∀ (c : Clock) (d : Dev) (q : List Instr) (sense : Nat),
    (d.brk.test = true ∧ 20 * tickUs ≤ d.devAge gBRK) →
    sense < d.get Reg.PWR_BRK_CFG_BRK_IMIN →
    ∃ e, exec (.brakeTestEnd sense) ⟨c, d, q⟩ = .next ⟨c, e, q⟩ ∧
      e.get Reg.PWR_VM_STS_TEST_FAIL = 1 ∧
      e.get Reg.PWR_VM_STS_BRAKE_FAULT = d.get Reg.PWR_VM_STS_BRAKE_FAULT ∧
      e = { d with regs := e.regs, brk := e.brk } ∧
      RegsOnly [Reg.PWR_VM_STS_BRK_ACTIVE, Reg.PWR_VM_STS_TEST_FAIL, Reg.PWR_BRK_CFG_BRK_I] d e) ∧
  -- VM_ABS_CLEAR
  (∀ (c : Clock) (d : Dev) (q : List Instr) (link : Fin 2),
    d.deny (.bar2 link) true Reg.PWR_VM_STS_VM_ABS.off 4 = none →
    d.get Reg.PWR_VM_STS_VM < d.get Reg.PWR_VM_BRK_BRK_OFF →
    (d.getB Reg.PWR_VM_STS_BRAKE_FAULT = false ∧ d.getB Reg.PWR_STATE_STS_THERM_SHUT = false) →
    ∃ e, exec (.vmAbsClear link) ⟨c, d, q⟩ = .next ⟨c, e, q⟩ ∧
      e.get Reg.PWR_VM_STS_VM_ABS = 0 ∧
      (∀ n : Fin 16, bit (d.deck n).gate.hold gLATCHED = true → (e.deck n).gate.hold = clrBit (d.deck n).gate.hold
        gLATCHED)) ∧
  -- VM_ABS_CLEAR at BRK_OFF or above
  (∀ (c : Clock) (d : Dev) (q : List Instr) (link : Fin 2),
    d.deny (.bar2 link) true Reg.PWR_VM_STS_VM_ABS.off 4 = none →
    d.get Reg.PWR_VM_BRK_BRK_OFF ≤ d.get Reg.PWR_VM_STS_VM →
    ∃ e, exec (.vmAbsClear link) ⟨c, d, q⟩ = .next ⟨c, e, q⟩ ∧
      e = { d with who := e.who })

/-- The sled commands that software writes while the sled is released to it. Each is a write of SLD.CMD that nothing stands
against. Unless the sled is released (REL_SLD) the write is ignored with result 2. (R326, R329, R330, R331, R338, R339, R367,
10_sled_motion.md) -/
def Obligations.SledCommands : Prop :=
  -- SLD_MOVE
  (∀ (c : Clock) (d : Dev) (q : List Instr) (link : Fin 2) (n : Fin 16),
    d.deny (.bar2 link) true ((Reg.SLD_CMD_CMD n).off) 4 = none →
    (d.getB (Reg.SEQ_CTL_REL_SLD n) = true ∧ d.sldSt n = slHOLD ∧ (d.deck n).sled.hold = false) →
    d.getB (Reg.SLD_STS_POS_OK n) = true →
    (d.getI (Reg.SLD_MIN_POS_MIN_POS n) ≤ d.getI (Reg.SLD_TARGET_TARGET n) ∧ d.getI (Reg.SLD_TARGET_TARGET n) ≤ d.getI
        (Reg.SLD_MAX_POS_MAX_POS n)) →
    ∃ e, exec (.sldMove link n false) ⟨c, d, q⟩ = .next ⟨c, e, q⟩ ∧
      e.sldSt n = slMOVING ∧ e.get (Reg.SLD_CMD_BUSY n) = 1 ∧
      (e.deck n).sled = { (d.deck n).sled with cmd := 1, start := d.sldPos n, target := d.getI (Reg.SLD_TARGET_TARGET n),
                                                 t0 := c.tick, hold := false, limited := false, overRun := 0, lims :=
                                                 d.sldLims n, vel := 0, acc := 0, sub := 0 } ∧
      e.deck n = { d.deck n with sled := (e.deck n).sled } ∧
      DeckOnly n d e ∧
      e.get (Reg.SLD_CMD_REL n) = 0 ∧
      e = { d with regs := e.regs, decks := e.decks, who := e.who } ∧
      RegsOnly [Reg.SLD_STS_STATE n, Reg.SLD_CMD_BUSY n, Reg.SLD_CMD_REL n] d e) ∧
  -- SLD_MOVE with no known position
  (∀ (c : Clock) (d : Dev) (q : List Instr) (link : Fin 2) (n : Fin 16),
    d.deny (.bar2 link) true ((Reg.SLD_CMD_CMD n).off) 4 = none →
    d.getB (Reg.SEQ_CTL_REL_SLD n) = true →
    d.getB (Reg.SLD_STS_POS_OK n) = false →
    ∃ e, exec (.sldMove link n false) ⟨c, d, q⟩ = .next ⟨c, e, q⟩ ∧
      e.get (Reg.SLD_CMD_RESULT n) = 2 ∧
      e = { d with regs := e.regs, who := e.who } ∧
      RegsOnly [Reg.SLD_CMD_RESULT n, Reg.SLD_CMD_REL n] d e) ∧
  -- SLD_MOVE while the sequencer owns the sled
  (∀ (c : Clock) (d : Dev) (q : List Instr) (link : Fin 2) (n : Fin 16) (rel : Bool),
    d.deny (.bar2 link) true ((Reg.SLD_CMD_CMD n).off) 4 = none →
    d.getB (Reg.SEQ_CTL_REL_SLD n) = false →
    ∃ e, exec (.sldMove link n rel) ⟨c, d, q⟩ = .next ⟨c, e, q⟩ ∧
      e.get (Reg.SLD_CMD_RESULT n) = 2 ∧
      e = { d with regs := e.regs, who := e.who } ∧
      RegsOnly [Reg.SLD_CMD_RESULT n] d e) ∧
  -- SLD_VEL
  (∀ (c : Clock) (d : Dev) (q : List Instr) (link : Fin 2) (n : Fin 16),
    d.deny (.bar2 link) true ((Reg.SLD_CMD_CMD n).off) 4 = none →
    (d.getB (Reg.SEQ_CTL_REL_SLD n) = true ∧ d.sldSt n = slHOLD ∧ (d.deck n).sled.hold = false) →
    (d.getI (Reg.SLD_TARGET_TARGET n)).natAbs ≤ d.get (Reg.SLD_PROF_V_V_MAX n) →
    ∃ e, exec (.sldVel link n) ⟨c, d, q⟩ = .next ⟨c, e, q⟩ ∧
      e.sldSt n = slMOVING ∧ e.get (Reg.SLD_CMD_BUSY n) = 1 ∧
      (e.deck n).sled.cmd = 2 ∧ (e.deck n).sled.velTgt = d.getI (Reg.SLD_TARGET_TARGET n) ∧
      DeckOnly n d e ∧
      e = { d with regs := e.regs, decks := e.decks, who := e.who } ∧
      RegsOnly [Reg.SLD_STS_STATE n, Reg.SLD_CMD_BUSY n, Reg.SLD_CMD_REL n] d e) ∧
  -- SLD_STOP
  (∀ (c : Clock) (d : Dev) (q : List Instr) (link : Fin 2) (n : Fin 16),
    d.deny (.bar2 link) true ((Reg.SLD_CMD_CMD n).off) 4 = none →
    (d.getB (Reg.SEQ_CTL_REL_SLD n) = true ∧ d.sldSt n = slMOVING) →
    ∃ e, exec (.sldStop link n) ⟨c, d, q⟩ = .next ⟨c, e, q⟩ ∧
      e.sldSt n = slSTOPPING ∧ e.get (Reg.SLD_CMD_BUSY n) = 1 ∧
      (e.deck n).sled.cmd = 3 ∧ (e.deck n).sled.velTgt = 0 ∧
      DeckOnly n d e ∧
      e = { d with regs := e.regs, decks := e.decks, who := e.who } ∧
      RegsOnly [Reg.SLD_STS_STATE n, Reg.SLD_CMD_BUSY n, Reg.SLD_CMD_REL n] d e) ∧
  -- SLD_FOLLOW
  (∀ (c : Clock) (d : Dev) (q : List Instr) (link : Fin 2) (n : Fin 16),
    d.deny (.bar2 link) true ((Reg.SLD_CMD_CMD n).off) 4 = none →
    (d.getB (Reg.SEQ_CTL_REL_SLD n) = true ∧ d.sldSt n = slHOLD) →
    d.getB (Reg.SLD_STS_POS_OK n) = true →
    ∃ e, exec (.sldFollow link n) ⟨c, d, q⟩ = .next ⟨c, e, q⟩ ∧
      e.sldSt n = slFOLLOW ∧ e.get (Reg.SLD_CMD_BUSY n) = 1 ∧
      (e.deck n).sled.cmd = 4 ∧
      DeckOnly n d e ∧
      e = { d with regs := e.regs, decks := e.decks, who := e.who } ∧
      RegsOnly [Reg.SLD_STS_STATE n, Reg.SLD_CMD_BUSY n, Reg.SLD_CMD_REL n] d e) ∧
  -- SLD_SET_POS
  (∀ (c : Clock) (d : Dev) (q : List Instr) (link : Fin 2) (n : Fin 16),
    d.deny (.bar2 link) true ((Reg.SLD_CMD_CMD n).off) 4 = none →
    (d.getB (Reg.SEQ_CTL_REL_SLD n) = true ∧ d.sldSt n = slHOLD) →
    ∃ e, exec (.sldSetPos link n) ⟨c, d, q⟩ = .next ⟨c, e, q⟩ ∧
      e.sldPos n = d.getI (Reg.SLD_TARGET_TARGET n) ∧
      e.get (Reg.SLD_STS_POS_OK n) = 1 ∧ e.get (Reg.SLD_STS_HOME_REQ n) = 0 ∧
      e.get (Reg.SLD_CMD_RESULT n) = 1 ∧ e.get (Reg.SLD_CMD_BUSY n) = 0 ∧
      DeckOnly n d e ∧
      e = { d with regs := e.regs, decks := e.decks, who := e.who } ∧
      RegsOnly [Reg.SLD_POS_POS n, Reg.SLD_STS_POS_OK n, Reg.SLD_STS_HOME_REQ n, Reg.SLD_CMD_RESULT n, Reg.SLD_CMD_BUSY n,
        Reg.SLD_CMD_REL n] d e) ∧
  -- SLD_DISABLE
  (∀ (c : Clock) (d : Dev) (q : List Instr) (link : Fin 2) (n : Fin 16),
    d.deny (.bar2 link) true ((Reg.SLD_CMD_CMD n).off) 4 = none →
    d.getB (Reg.SEQ_CTL_REL_SLD n) = true →
    ∃ e, exec (.sldDisable link n) ⟨c, d, q⟩ = .next ⟨c, e, q⟩ ∧
      e.sldSt n = slDISABLED ∧
      e.get (Reg.SLD_STS_POS_OK n) = 0 ∧ e.get (Reg.SLD_STS_VEL n) = 0 ∧
      (e.get (Reg.SLD_CMD_RESULT n) = if d.getB (Reg.SLD_CMD_BUSY n) then 3 else 1) ∧
      (e.deck n).sled.vel = 0 ∧ (e.deck n).sled.acc = 0 ∧
      DeckOnly n d e ∧
      e = { d with regs := e.regs, decks := e.decks, who := e.who } ∧
      RegsOnly [Reg.SLD_STS_STATE n, Reg.SLD_STS_POS_OK n, Reg.SLD_STS_VEL n, Reg.SLD_STS_LOAD n, Reg.SLD_STS_CHOP n,
        Reg.SLD_CMD_RESULT n, Reg.SLD_CMD_BUSY n, Reg.SLD_CMD_REL n] d e)

/-- A sled's periods, its coming to rest, its stalls, and the re-home. Rows of a deck act while its DECK domain is on. (R327,
R328, R335, R336, R337, R338, R340, 10_sled_motion.md) -/
def Obligations.SledMotion : Prop :=
  -- SLED_PROFILE_PERIOD of a disabled sled
  (∀ (c : Clock) (d : Dev) (q : List Instr) (n : Fin 16) (peak : Option Nat),
    d.deckOn n = true →
    d.sldSt n = slDISABLED →
    ∃ e, exec (.sledProfilePeriod n peak) ⟨c, d, q⟩ = .next ⟨c, e, q⟩ ∧
      e = d) ∧
  -- SLED_PROFILE_PERIOD at rest
  (∀ (c : Clock) (d : Dev) (q : List Instr) (n : Fin 16),
    d.deckOn n = true →
    (d.sldSt n = slHOLD ∧ (d.deck n).sled.vel = 0) →
    ∃ e, exec (.sledProfilePeriod n none) ⟨c, d, q⟩ = .next ⟨c, e, q⟩ ∧
      e.sldPos n = d.sldPos n ∧
      (e.deck n).sled.phase = phaseCurrents d n (d.sldPos n) ∧
      e.get (Reg.SLD_STS_VEL n) = 0 ∧
      DeckOnly n d e ∧
      e = { d with regs := e.regs, decks := e.decks } ∧
      RegsOnly [Reg.SLD_STS_VEL n, Reg.SLD_STS_CHOP n, Reg.SLD_STS_LOAD n] d e) ∧
  -- SLED_AT_REST
  (∀ (c : Clock) (d : Dev) (q : List Instr) (n : Fin 16),
    d.deckOn n = true →
    (d.sldSt n = slSTOPPING ∧ sldAtEnd c d n = true ∧ (d.deck n).sled.cmd = 3) →
    d.dstate n = dLOADED →
    ∃ e, exec (.sledAtRest n) ⟨c, d, q⟩ = .next ⟨c, e, q⟩ ∧
      e.sldSt n = slHOLD ∧
      e.get (Reg.SLD_CMD_BUSY n) = 0 ∧ e.get (Reg.SLD_CMD_RESULT n) = 1 ∧
      (e.deck n).sled = { (d.deck n).sled with vel := 0, acc := 0, velTgt := 0, sub := 0, limited := false, cmd := 0 } ∧
      DeckOnly n d e ∧
      e = { d with regs := e.regs, decks := e.decks } ∧
      RegsOnly [Reg.SLD_STS_STATE n, Reg.SLD_STS_VEL n, Reg.SLD_CMD_BUSY n, Reg.SLD_CMD_RESULT n] d e) ∧
  -- SLED_STANDSTILL
  (∀ (c : Clock) (d : Dev) (q : List Instr) (n : Fin 16),
    d.deckOn n = true →
    (d.sldSt n = slHOLD ∧ d.get (Reg.SLD_CUR_CFG_HOLD_DELAY n) * tickMs ≤ d.age n aSLD) →
    ∃ e, exec (.sledStandstill n) ⟨c, d, q⟩ = .next ⟨c, e, q⟩ ∧
      e.sldSt n = slSTANDSTILL ∧
      (e.deck n).sled = { (d.deck n).sled with hold := true } ∧
      e.deck n = { d.deck n with sled := (e.deck n).sled, ages := (d.deck n).ages.ins aSLD 0 } ∧
      DeckOnly n d e ∧
      e = { d with regs := e.regs, decks := e.decks } ∧
      RegsOnly [Reg.SLD_STS_STATE n] d e) ∧
  -- SLED_BEMF_MEASURE of a negative back-EMF
  (∀ (c : Clock) (d : Dev) (q : List Instr) (n : Fin 16) (emf : Int),
    d.deckOn n = true →
    (d.getB (Reg.SLD_STS_CHOP n) = true ∧ d.sldSt n = slMOVING ∧ (d.deck n).sled.vel ≠ 0) →
    emf < 0 →
    ∃ e, exec (.sledBemfMeasure n emf) ⟨c, d, q⟩ = .next ⟨c, e, q⟩ ∧
      e.sldSt n = slHOLD ∧
      e.get (Reg.SLD_STS_STALL n) = 1 ∧ e.get (Reg.SLD_STS_HOME_REQ n) = 1 ∧ e.get (Reg.SLD_STS_POS_OK n) = 0 ∧
      e.get (Reg.SLD_CMD_RESULT n) = 4 ∧ e.sldPos n = d.sldPos n ∧
      (e.deck n).sled.vel = 0 ∧
      DeckOnly n d e) ∧
  -- SLED_BEMF_MEASURE of a free sled
  (∀ (c : Clock) (d : Dev) (q : List Instr) (n : Fin 16) (emf : Int),
    d.deckOn n = true →
    (d.getB (Reg.SLD_STS_CHOP n) = true ∧ d.sldSt n = slMOVING ∧ (d.deck n).sled.vel ≠ 0) →
    d.get (Reg.SLD_STALL_CFG_KE_SLD n) * (d.deck n).sled.vel.natAbs / 65536 ≤ emf →
    ((d.deck n).sled.loads = [0, 0, 0, 0] ∧ 0 < d.get (Reg.SLD_STALL_CFG_STALL_ANG n)) →
    ∃ e, exec (.sledBemfMeasure n emf) ⟨c, d, q⟩ = .next ⟨c, e, q⟩ ∧
      (e.deck n).sled = { (d.deck n).sled with loads := [0, 0, 0, 0], overRun := 0 } ∧
      DeckOnly n d e ∧
      e = { d with regs := e.regs, decks := e.decks } ∧
      RegsOnly [Reg.SLD_STS_LOAD n] d e) ∧
  -- REHOME_STEP that decodes a header
  (∀ (c : Clock) (d : Dev) (q : List Instr) (n : Fin 16) (p : Option Nat) (track : Nat),
    d.deckOn n = true →
    (d.dstate n = dTRACKING ∧ (d.deck n).seq.rehome = 2 ∧ (d.deck n).seq.newZone = none) →
    (d.sldSt n = slHOLD ∧ d.spnSt n ≠ spRUN ∧ (d.deck n).seq.job = 1) →
    ∃ e, exec (.rehomeStep n p (some track)) ⟨c, d, q⟩ = .next ⟨c, e, q⟩ ∧
      (e.deck n).seq.rehome = 0 ∧ (e.deck n).seq.swath = track / 64 ∧
      e.get (Reg.SLD_POS_POS n) = ux 32 (posOfTrack d n track) ∧
      e.get (Reg.SLD_STS_POS_OK n) = 1 ∧ e.get (Reg.SLD_STS_HOME_REQ n) = 0 ∧
      e.sldSt n = slFOLLOW ∧
      DeckOnly n d e) ∧
  -- REHOME_TIMEOUT
  (∀ (c : Clock) (d : Dev) (q : List Instr) (n : Fin 16),
    d.deckOn n = true →
    (d.dstate n = dTRACKING ∧ (d.deck n).seq.rehome ≠ 0 ∧ d.get (Reg.SLD_MECH_HOME_TMO n) * turnOne ≤ d.turned n tHOME) →
    ∃ e, exec (.rehomeTimeout n) ⟨c, d, q⟩ = .next ⟨c, e, q⟩ ∧
      e.dstate n = dFAULT ∧ e.get (Reg.SEQ_STS_CAUSE n) = 6 ∧
      DeckOnly n d e)

/-- Commands of the deck sequencer, the clamp and the spin-up budget. Command writes are accesses that nothing stands against;
other rows act while the DECK domain is on. (R303, R355, R356, R357, R363, R364, R366, R367, R368, R369, R664,
11_deck_sequences.md) -/
def Obligations.SequencerCommands : Prop :=
  -- LOAD of an empty deck
  (∀ (c : Clock) (d : Dev) (q : List Instr) (link : Fin 2) (n : Fin 16) (layer : Fin 32),
    d.deny (.bar2 link) true ((Reg.SEQ_CTL_CMD n).off) 4 = none →
    (d.getB (Reg.SEQ_CTL_REL_SPN n) = false ∧ d.getB (Reg.SEQ_CTL_REL_SLD n) = false ∧ noGains n d = false) →
    d.dstate n = dABSENT →
    ∃ e, exec (.load link n layer true) ⟨c, d, q⟩ = .next ⟨c, e, q⟩ ∧
      e.get (Reg.SEQ_CTL_L_TGT n) = layer ∧ e.get (Reg.SEQ_CTL_BUSY n) = 1 ∧
      e.dstate n = dABSENT ∧
      (e.deck n).seq = { (d.deck n).seq with job := 1, layerTgt := layer } ∧
      e.deck n = { d.deck n with seq := (e.deck n).seq } ∧
      DeckOnly n d e ∧
      e = { d with regs := e.regs, decks := e.decks, who := e.who } ∧
      RegsOnly [Reg.SEQ_CTL_L_TGT n, Reg.SEQ_CTL_BUSY n] d e) ∧
  -- LOAD without gains
  (∀ (c : Clock) (d : Dev) (q : List Instr) (link : Fin 2) (n : Fin 16) (layer : Fin 32) (low : Bool),
    d.deny (.bar2 link) true ((Reg.SEQ_CTL_CMD n).off) 4 = none →
    noGains n d = true →
    ∃ e, exec (.load link n layer low) ⟨c, d, q⟩ = .next ⟨c, e, q⟩ ∧
      e.get (Reg.SEQ_CTL_RESULT n) = 2 ∧
      e = { d with regs := e.regs, who := e.who } ∧
      RegsOnly [Reg.SEQ_CTL_RESULT n] d e) ∧
  -- PARK of a parked deck
  (∀ (c : Clock) (d : Dev) (q : List Instr) (link : Fin 2) (n : Fin 16),
    d.deny (.bar2 link) true ((Reg.SEQ_CTL_CMD n).off) 4 = none →
    (d.getB (Reg.SEQ_CTL_REL_SPN n) = false ∧ d.getB (Reg.SEQ_CTL_REL_SLD n) = false) →
    (d.dstate n = dABSENT ∨ (d.dstate n = dLOADED ∧ (d.deck n).seq.job = 0)) →
    ∃ e, exec (.park link n) ⟨c, d, q⟩ = .next ⟨c, e, q⟩ ∧
      e.get (Reg.SEQ_CTL_RESULT n) = 1 ∧
      e = { d with regs := e.regs, who := e.who } ∧
      RegsOnly [Reg.SEQ_CTL_RESULT n] d e) ∧
  -- PARK of a deck that reads
  (∀ (c : Clock) (d : Dev) (q : List Instr) (link : Fin 2) (n : Fin 16),
    d.deny (.bar2 link) true ((Reg.SEQ_CTL_CMD n).off) 4 = none →
    (d.getB (Reg.SEQ_CTL_REL_SPN n) = false ∧ d.getB (Reg.SEQ_CTL_REL_SLD n) = false) →
    (d.dstate n = dREADY ∧ d.gleaning n = false ∧ (d.deck n).seq.opc = false) →
    (d.spnSt n = spRUN ∧ d.getB Reg.PWR_VM_STS_UV = false) →
    ∃ e, exec (.park link n) ⟨c, d, q⟩ = .next ⟨c, e, q⟩ ∧
      e.dstate n = dPARKING ∧ e.get (Reg.SEQ_CTL_BUSY n) = 1 ∧
      e.spnSt n = spSHORT ∧
      e.tbState n = tbOFF ∧ (e.deck n).link.laserMode = 0 ∧
      (e.deck n).gate.shut = 0xFFFF ∧ e.getB (Reg.SEQ_STS_CHARGE n) = false ∧
      (e.deck n).seq.job = 2 ∧
      DeckOnly n d e) ∧
  -- PARK of a deck that writes
  (∀ (c : Clock) (d : Dev) (q : List Instr) (link : Fin 2) (n : Fin 16),
    d.deny (.bar2 link) true ((Reg.SEQ_CTL_CMD n).off) 4 = none →
    (d.getB (Reg.SEQ_CTL_REL_SPN n) = false ∧ d.getB (Reg.SEQ_CTL_REL_SLD n) = false) →
    (d.dstate n = dWRITING ∧ d.getB (Reg.SEQ_CTL_BUSY n) = false) →
    ∃ e, exec (.park link n) ⟨c, d, q⟩ = .next ⟨c, e, q⟩ ∧
      e.get (Reg.SEQ_CTL_BUSY n) = 1 ∧ e.dstate n = dWRITING ∧
      (e.deck n).seq = { (d.deck n).seq with pendPark := true } ∧
      e.deck n = { d.deck n with seq := (e.deck n).seq } ∧
      DeckOnly n d e ∧
      e = { d with regs := e.regs, decks := e.decks, who := e.who } ∧
      RegsOnly [Reg.SEQ_CTL_BUSY n] d e) ∧
  -- RECOVER with the budget free
  (∀ (c : Clock) (d : Dev) (q : List Instr) (link : Fin 2) (n : Fin 16) (layer : Fin 32),
    d.deny (.bar2 link) true ((Reg.SEQ_CTL_CMD n).off) 4 = none →
    (d.getB (Reg.SEQ_CTL_REL_SPN n) = false ∧ d.getB (Reg.SEQ_CTL_REL_SLD n) = false) →
    (d.dstate n = dFAULT ∧ d.spnSt n = spFAULT) →
    (d.getB (Reg.SEQ_STS_CHARGE n) = false ∧ d.getB (Reg.PWR_THERM_THROT 3) = false) →
    (∀ m : Fin 16, (d.deck m).seq.chargeReq = none) →
    d.get Reg.PWR_SPIN_BUDGET_IN_USE + d.get (Reg.SEQ_PWR_CFG_SPIN_W n) ≤ d.get Reg.PWR_SPIN_BUDGET_SPINUP_W →
    (600 ≤ d.get (Reg.SEQ_LOAD_CFG_LOAD_RPM n) ∧ d.get (Reg.SEQ_LOAD_CFG_LOAD_RPM n) ≤ 15000 ∧ d.getB Reg.PWR_VM_STS_VM_ABS
        = false) →
    ∃ e, exec (.recover link n layer) ⟨c, d, q⟩ = .next ⟨c, e, q⟩ ∧
      e.dstate n = dSPINNING ∧ e.get (Reg.SEQ_CTL_BUSY n) = 1 ∧ e.get (Reg.SEQ_STS_STEP n) = 4 ∧
      e.get (Reg.LOOP_ENG_STS_SAFE n) = 0 ∧
      e.spnSt n = spLISTEN ∧ e.get (Reg.SPN_CMD_TARGET_RPM n) = d.get (Reg.SEQ_LOAD_CFG_LOAD_RPM n) % 2 ^
        (Reg.SPN_CMD_TARGET_RPM n).w ∧
      e.get (Reg.SEQ_STS_CHARGE n) = 1 ∧
      (e.deck n).seq.job = 3 ∧ (e.deck n).seq.layerTgt = layer ∧
      DeckOnly n d e) ∧
  -- RECOVER of a deck not at FAULT
  (∀ (c : Clock) (d : Dev) (q : List Instr) (link : Fin 2) (n : Fin 16) (layer : Fin 32),
    d.deny (.bar2 link) true ((Reg.SEQ_CTL_CMD n).off) 4 = none →
    d.dstate n ≠ dFAULT →
    ∃ e, exec (.recover link n layer) ⟨c, d, q⟩ = .next ⟨c, e, q⟩ ∧
      e.get (Reg.SEQ_CTL_RESULT n) = 2 ∧
      e = { d with regs := e.regs, who := e.who } ∧
      RegsOnly [Reg.SEQ_CTL_RESULT n] d e) ∧
  -- REL_SPN
  (∀ (c : Clock) (d : Dev) (q : List Instr) (link : Fin 2) (n : Fin 16),
    d.deny (.bar2 link) true ((Reg.SEQ_CTL_CMD n).off) 4 = none →
    ∃ e, exec (.relSpn link n true) ⟨c, d, q⟩ = .next ⟨c, e, q⟩ ∧
      (e.get (Reg.SEQ_CTL_REL_SPN n) = if d.dstate n = dLOADED ∨ d.dstate n = dFAULT then 1 else d.get (Reg.SEQ_CTL_REL_SPN
        n)) ∧
      (e.get (Reg.SEQ_CTL_RESULT n) = if d.dstate n = dLOADED ∨ d.dstate n = dFAULT then d.get (Reg.SEQ_CTL_RESULT n) else
        2) ∧
      e = { d with regs := e.regs, who := e.who } ∧
      RegsOnly [Reg.SEQ_CTL_REL_SPN n, Reg.SEQ_CTL_RESULT n] d e) ∧
  -- REL_SLD
  (∀ (c : Clock) (d : Dev) (q : List Instr) (link : Fin 2) (n : Fin 16),
    d.deny (.bar2 link) true ((Reg.SEQ_CTL_CMD n).off) 4 = none →
    ∃ e, exec (.relSld link n true) ⟨c, d, q⟩ = .next ⟨c, e, q⟩ ∧
      (e.get (Reg.SEQ_CTL_REL_SLD n) = if d.dstate n = dLOADED ∨ d.dstate n = dFAULT then 1 else d.get (Reg.SEQ_CTL_REL_SLD
        n)) ∧
      (e.get (Reg.SEQ_CTL_RESULT n) = if d.dstate n = dLOADED ∨ d.dstate n = dFAULT then d.get (Reg.SEQ_CTL_RESULT n) else
        2) ∧
      e = { d with regs := e.regs, who := e.who } ∧
      RegsOnly [Reg.SEQ_CTL_REL_SLD n, Reg.SEQ_CTL_RESULT n] d e) ∧
  -- CLAMP_CLOSE
  (∀ (c : Clock) (d : Dev) (q : List Instr) (n : Fin 16),
    (d.deckOn n = true ∧ noLoopEngine d n = false) →
    (d.dstate n = dABSENT ∧ d.getB (Reg.WRP_LINK_CFG_FORCE_DOWN n) = false) →
    ∃ e, exec (.clampClose n) ⟨c, d, q⟩ = .next ⟨c, e, q⟩ ∧
      e.get (Reg.SLD_STS_POS_OK n) = 0 ∧
      e.linkSt n = lkTRAINING ∧
      (e.deck n).seq = { (d.deck n).seq with clampLow := true } ∧
      DeckOnly n d e ∧
      e = { d with regs := e.regs, decks := e.decks } ∧
      RegsOnly [Reg.SLD_STS_POS_OK n, Reg.WRP_LINK_STS_STATE n, Reg.WRP_LINK_STS_STEP n, Reg.WRP_GATE_STS_EMIT_OPEN n,
        Reg.WRP_GATE_STS_CLOSED n] d e) ∧
  -- CLAMP_OPEN
  (∀ (c : Clock) (d : Dev) (q : List Instr) (n : Fin 16),
    d.deckOn n = true →
    d.spnSt n = spOFF →
    d.tst.visits = [] →
    ∃ e, exec (.clampOpen n) ⟨c, d, q⟩ = .next ⟨c, e, q⟩ ∧
      e.dstate n = dABSENT ∧
      e.linkSt n = lkDOWN ∧ e.sldSt n = slDISABLED ∧ e.tbState n = tbOFF ∧
      (e.deck n).disc = none ∧ (e.deck n).mounted = none ∧ (e.deck n).seq.clampLow = false ∧
      e.getB (Reg.SEQ_CTL_BUSY n) = false ∧
      DeckOnly n d e) ∧
  -- CLAMP_OPEN_SPINNING
  (∀ (c : Clock) (d : Dev) (q : List Instr) (n : Fin 16),
    d.deckOn n = true →
    (d.spnSt n = spRUN ∧ d.dstate n = dREADY ∧ d.getB Reg.PWR_VM_STS_UV = false) →
    ∃ e, exec (.clampOpenSpinning n) ⟨c, d, q⟩ = .next ⟨c, e, q⟩ ∧
      e.dstate n = dFAULT ∧ e.get (Reg.SEQ_STS_CAUSE n) = 9 ∧
      (e.deck n).link.laserMode = 0 ∧ e.get (Reg.WRP_LINK_STS_KILL_SENT n) = 1 ∧
      e.spnSt n = spSHORT ∧ e.tbState n = tbOFF ∧
      (e.deck n).seq.clampLow = false ∧
      DeckOnly n d e) ∧
  -- SPIN_CHARGE_GRANT
  (∀ (c : Clock) (d : Dev) (q : List Instr) (n : Fin 16) (t : Nat),
    d.deckOn n = true →
    ((d.deck n).seq.chargeReq = some t ∧ (d.deck n).seq.chargeCmd = 4) →
    (d.getB (Reg.SEQ_CTL_REL_SPN n) = false ∧ d.getB (Reg.PWR_THERM_THROT 3) = false ∧ d.getB (Reg.SEQ_STS_CHARGE n) =
        false) →
    (∀ m : Fin 16, waitsBefore d m n = false) →
    d.get Reg.PWR_SPIN_BUDGET_IN_USE + d.get (Reg.SEQ_PWR_CFG_SPIN_W n) ≤ d.get Reg.PWR_SPIN_BUDGET_SPINUP_W →
    ∃ e, exec (.spinChargeGrant n) ⟨c, d, q⟩ = .next ⟨c, e, q⟩ ∧
      e.get (Reg.SEQ_STS_CHARGE n) = 1 ∧
      e.get Reg.PWR_SPIN_BUDGET_IN_USE = (d.get Reg.PWR_SPIN_BUDGET_IN_USE + d.get (Reg.SEQ_PWR_CFG_SPIN_W n)) % 2 ^
        Reg.PWR_SPIN_BUDGET_IN_USE.w ∧
      (e.deck n).seq.chargeReq = none ∧ e.get (Reg.SEQ_STS_BUDGET_WAIT n) = 0 ∧
      DeckOnly n d e) ∧
  -- SPIN_CHARGE_GRANT beyond the budget
  (∀ (c : Clock) (d : Dev) (q : List Instr) (n : Fin 16),
    d.deckOn n = true →
    d.get Reg.PWR_SPIN_BUDGET_SPINUP_W < d.get Reg.PWR_SPIN_BUDGET_IN_USE + d.get (Reg.SEQ_PWR_CFG_SPIN_W n) →
    ∃ e, exec (.spinChargeGrant n) ⟨c, d, q⟩ = .next ⟨c, e, q⟩ ∧
      e = d)

/-- The steps by which a deck goes from SPINNING to TRACKING, and what ends or changes them. Rows of a deck act while its DECK
domain is on. (R53, R355, R358, R359, R360, R361, R362, R364, R365, 11_deck_sequences.md) -/
def Obligations.LoadingSteps : Prop :=
  -- FOCUS_SWEEP_START
  (∀ (c : Clock) (d : Dev) (q : List Instr) (n : Fin 16),
    d.deckOn n = true →
    (d.dstate n = dSPINNING ∧ d.spnSt n = spRUN ∧ 100 * (d.get (Reg.SEQ_LOAD_CFG_FS_RPM n) : Int) ≤ d.spnRpm n) →
    ((d.deck n).seq.job = 1 ∧ ((d.deck n).slot 0).prof = none ∧ (d.deck n).link.laserMode = 1) →
    (d.get (Reg.LOOP_PROF_CTL_BUSY n 0) = 0 ∧ ((d.deck n).slot 0).learning = false) →
    ∃ e, exec (.focusSweepStart n) ⟨c, d, q⟩ = .next ⟨c, e, q⟩ ∧
      e.get (Reg.LOOP_STS_MODE n 0) = 1 ∧
      ((e.deck n).slot 0).prof = some
        { kind := 1, start := 0, target := 2 * ((d.getI (Reg.ACT_SAFE_CFG_DEFOCUS n)).natAbs : Int) * 32, t0 := c.tick,
            bySeq := true, sweep := true } ∧
      e.get (Reg.LOOP_PROF_CTL_BUSY n 0) = 1 ∧ e.get (Reg.SEQ_STS_STEP n) = 6 ∧
      DeckOnly n d e) ∧
  -- FOCUS_SWEEP_END, the last sweep allowed
  (∀ (c : Clock) (d : Dev) (q : List Instr) (n : Fin 16) (p : Prof),
    d.deckOn n = true →
    (d.dstate n = dSPINNING ∧ ((d.deck n).slot 0).prof = some p) →
    p.t0 + d.get (Reg.SEQ_FOCUS_CFG_FS_MS n) * tickMs ≤ c.tick →
    d.get (Reg.SEQ_FOCUS_CFG_FS_TRY n) ≤ (d.deck n).seq.sweeps + 1 →
    ∃ e, exec (.focusSweepEnd n) ⟨c, d, q⟩ = .next ⟨c, e, q⟩ ∧
      e.dstate n = dFAULT ∧ e.get (Reg.SEQ_STS_CAUSE n) = 3 ∧
      DeckOnly n d e) ∧
  -- FOCUS_CAPTURE
  (∀ (c : Clock) (d : Dev) (q : List Instr) (n : Fin 16) (peaks : List SumPeak) (lens : Int),
    d.deckOn n = true →
    (d.dstate n = dSPINNING ∧ ((d.deck n).slot 0).prof.isSome ∧ d.tbState n = tbOFF) →
    2 ≤ (sCurves d n peaks).length →
    ∃ e, exec (.focusCapture n peaks lens) ⟨c, d, q⟩ = .next ⟨c, e, q⟩ ∧
      e.dstate n = dFOCUSED ∧ e.get (Reg.SEQ_STS_STEP n) = 7 ∧
      e.get (Reg.LOOP_STS_MODE n 0) = 2 ∧
      e.tbState n = tbSEARCH ∧
      (e.deck n).seq.travel = Config.rnd (lens * 12) 100 ∧
      DeckOnly n d e) ∧
  -- LAYER_IDENTIFIED on the layer asked for
  (∀ (c : Clock) (d : Dev) (q : List Instr) (n : Fin 16) (f l : Nat),
    d.deckOn n = true →
    (d.dstate n = dFOCUSED ∧ d.tbState n = tbLOCKED ∧ d.get (Reg.SEQ_STS_STEP n) = 7) →
    (layerOf f = some (2, l) ∧ l = (d.deck n).seq.layerTgt) →
    ∃ e, exec (.layerIdentified n (List.replicate 8 f)) ⟨c, d, q⟩ = .next ⟨c, e, q⟩ ∧
      e.get (Reg.SEQ_STS_LAYER n) = l % 2 ^ (Reg.SEQ_STS_LAYER n).w ∧ e.get (Reg.SEQ_STS_GEN n) = 2 ∧
      (e.deck n).seq.newMode = some 0 ∧ (e.deck n).seq.laneMode = (d.deck n).seq.laneMode ∧
      e.get (Reg.LOOP_STS_MODE n 2) = 2 ∧ e.get (Reg.SEQ_STS_STEP n) = 8 ∧
      e.dstate n = dFOCUSED ∧
      DeckOnly n d e) ∧
  -- TRACK_CAPTURE with no known sled position
  (∀ (c : Clock) (d : Dev) (q : List Instr) (n : Fin 16) (x : Crossing),
    d.deckOn n = true →
    (d.dstate n = dFOCUSED ∧ d.get (Reg.SEQ_STS_STEP n) = 8 ∧ d.tbState n = tbLOCKED ∧ (d.deck n).seq.newMode = none) →
    slowCrossing d n x = true →
    d.getB (Reg.SLD_STS_POS_OK n) = false →
    ∃ e, exec (.trackCapture n x) ⟨c, d, q⟩ = .next ⟨c, e, q⟩ ∧
      e.dstate n = dTRACKING ∧ e.get (Reg.SEQ_STS_STEP n) = 9 ∧
      e.get (Reg.LOOP_STS_MODE n 1) = 2 ∧ e.get (Reg.LOOP_STS_MODE n 3) = 2 ∧
      (e.deck n).seq.rehome = 1 ∧
      DeckOnly n d e) ∧
  -- SEQ_TIMEOUT
  (∀ (c : Clock) (d : Dev) (q : List Instr) (n : Fin 16),
    d.deckOn n = true →
    (d.dstate n = dSPINNING ∨ d.dstate n = dCALIBRATING ∨ d.dstate n = dPARKING) →
    seqLate d n = true →
    ∃ e, exec (.seqTimeout n) ⟨c, d, q⟩ = .next ⟨c, e, q⟩ ∧
      e.dstate n = dFAULT ∧
      (e.get (Reg.SEQ_STS_CAUSE n) = if d.dstate n = dSPINNING then 2 else if d.dstate n = dCALIBRATING then 7 else 11) ∧
      DeckOnly n d e) ∧
  -- IDLE_TIMER
  (∀ (c : Clock) (d : Dev) (q : List Instr) (n : Fin 16),
    d.deckOn n = true →
    (d.dstate n = dREADY ∧ d.get (Reg.SEQ_PWR_CFG_IDLE_S n) ≠ 0 ∧ d.gleaning n = false) →
    d.get (Reg.SEQ_PWR_CFG_IDLE_S n) * 1000 * tickMs ≤ d.age n aIDLE →
    (d.spnSt n = spRUN ∧ d.getB Reg.PWR_VM_STS_UV = false) →
    ∃ e, exec (.idleTimer n) ⟨c, d, q⟩ = .next ⟨c, e, q⟩ ∧
      e.dstate n = dPARKING ∧ e.spnSt n = spSHORT ∧
      (e.deck n).seq.job = 6 ∧
      (e.deck n).mounted = (d.deck n).mounted ∧
      DeckOnly n d e) ∧
  -- SHOCK_WINDOW_END
  (∀ (c : Clock) (d : Dev) (q : List Instr) (n : Fin 16),
    (d.deckOn n = true ∧ d.get (Reg.SEQ_RECOV_CFG_SHOCK_WIN n) * tickMs ≤ d.age n aSHOCK) →
    ∃ e, exec (.shockWindowEnd n) ⟨c, d, q⟩ = .next ⟨c, e, q⟩ ∧
      e.deck n = { d.deck n with seq := { (d.deck n).seq with shockOpen := false } } ∧
      DeckOnly n d e ∧
      e = { d with decks := e.decks }) ∧
  -- ZONE_CHANGE within a zone
  (∀ (c : Clock) (d : Dev) (q : List Instr) (n : Fin 16) (swath : Nat) (z : Zone),
    d.deckOn n = true →
    (d.gleaning n = false ∧ (d.deck n).seen = [] ∧ d.get (Reg.SEQ_STS_GEN n) ≠ 1) →
    (d.deck n).spn.target = swathRpm d n swath →
    (zoneOf swath = some z ∧ zoneOf (d.deck n).seq.swath = some z) →
    ∃ e, exec (.zoneChange n swath) ⟨c, d, q⟩ = .next ⟨c, e, q⟩ ∧
      e.deck n = { d.deck n with seq := { (d.deck n).seq with swath := swath, track := (64 * swath + 32 : Nat) } } ∧
      DeckOnly n d e ∧
      e = { d with decks := e.decks }) ∧
  -- ZONE_CHANGE to another zone
  (∀ (c : Clock) (d : Dev) (q : List Instr) (n : Fin 16) (swath : Nat) (y z : Zone),
    d.deckOn n = true →
    (d.gleaning n = false ∧ (d.deck n).seen = [] ∧ d.get (Reg.SEQ_STS_GEN n) ≠ 1) →
    (zoneOf swath = some z ∧ zoneOf (d.deck n).seq.swath = some y ∧ y.num ≠ z.num) →
    (d.dstate n = dREADY ∧ (d.deck n).seq.writing = false ∧ d.spnSt n = spRUN ∧ z.readRpm < (d.deck n).spn.target) →
    d.getB (Reg.SEQ_RECOV_CFG_ZSWAP n) = false →
    ∃ e, exec (.zoneChange n swath) ⟨c, d, q⟩ = .next ⟨c, e, q⟩ ∧
      e.get (Reg.SPN_CMD_TARGET_RPM n) = z.readRpm % 2 ^ (Reg.SPN_CMD_TARGET_RPM n).w ∧ e.get (Reg.SPN_CMD_BUSY n) = 1 ∧
      (e.deck n).spn.target = z.readRpm ∧
      (e.deck n).seqPend.any (fun p => p.trig == 5) = true ∧
      (e.deck n).seq.swath = swath ∧ (e.deck n).seq.newZone = some swath ∧
      DeckOnly n d e)

/-- A host command is taken in, turned away for want of its role, or goes on after a wait. Contexts and completions are those
of host; every other part of the device is kept. (R415, R416, R417, R418, R419, R420, R631, 13_command_execution.md) -/
def Obligations.HostIntake : Prop :=
  -- COMMAND_FETCH of an admin command
  (∀ (c : Clock) (d : Dev) (q : List Instr) (cid : Nat) (hc : HostCmd) (k : Ctrl),
    (d.ctrl cid = some k ∧ k.ready = true ∧ k.kind ≠ 3 ∧ k.ps < 3) →
    (d.mayFetch k = true ∧ d.pwr.mode = .run ∧ d.pwr.entry = 0) →
    Cmd.isAdmin hc.op = true →
    d.intakeStop k hc = none →
    ∃ c' e, exec (.commandFetch cid 0 hc) ⟨c, d, q⟩ = .next ⟨c', e, q⟩ ∧
      c' = { c with stamp := c.stamp + 1 } ∧
      e.host.ctxs = d.host.ctxs ++ [{ stamp := c.stamp + 1, cid := cid, sq := 0, cmd := hc, phase := .transfer, wid :=
                                        (d.ns hc.nsid).wseq * 65536, tai := d.taiNow c }] ∧
      e.host = { d.host with ctxs := e.host.ctxs } ∧
      e.ctrls = mapIf (fun y => y.id == cid) (fun y =>
        { y with ps := if 3 ≤ y.ps then y.lastOp else y.ps, kaTick := c.tick }) d.ctrls ∧
      e.ages = d.ages.ins gIDLE 0 ∧
      e = { d with host := e.host, ctrls := e.ctrls, ages := e.ages }) ∧
  -- COMMAND_FETCH without the role
  (∀ (c : Clock) (d : Dev) (q : List Instr) (cid : Nat) (hc : HostCmd) (k : Ctrl) (r : Nat),
    (d.ctrl cid = some k ∧ k.ready = true ∧ k.kind ≠ 3 ∧ k.ps < 3) →
    (d.mayFetch k = true ∧ d.pwr.mode = .run ∧ d.pwr.entry = 0) →
    (Cmd.isAdmin hc.op = true ∧ Cmd.role hc.op = some r ∧ bit k.allRoles r = false ∧ d.plait.isSome) →
    (∀ y ∈ d.host.ctxs, y.stamp ≤ c.stamp) →
    ∃ c' e, exec (.commandFetch cid 0 hc) ⟨c, d, q⟩ = .next ⟨c', e, q⟩ ∧
      c' = { c with stamp := c.stamp + 1 } ∧
      e.host.ctxs = d.host.ctxs ∧
      e.host.posted = d.host.posted ++ [{ stamp := c.stamp + 1, cid := cid, status := .accessDenied }] ∧
      e = { d with host := e.host, ctrls := e.ctrls, ages := e.ages }) ∧
  -- COMMAND_FETCH while intake is stopped
  (∀ (c : Clock) (d : Dev) (q : List Instr) (cid sq : Nat) (hc : HostCmd) (k : Ctrl),
    (d.ctrl cid = some k ∧ k.ps < 3) →
    (d.pwr.mode = .run ∧ d.pwr.entry = 0) →
    d.getB Reg.HQ_INTAKE_STS_STOPPED = true →
    ∃ c' e, exec (.commandFetch cid sq hc) ⟨c, d, q⟩ = .next ⟨c', e, q⟩ ∧
      c' = c ∧
      e = { d with ctrls := e.ctrls }) ∧
  -- COMMAND_UNHELD
  (∀ (c : Clock) (d : Dev) (q : List Instr) (stamp : Nat) (x : Ctx),
    (d.ctx stamp = some x ∧ x.phase = .held ∧ x.why = 0) →
    (d.holdWhy x = none ∧ d.host.act = none ∧ d.pwr.entry = 0 ∧ d.pwr.mode = .run) →
    (Cmd.isAdmin x.cmd.op = false ∧ x.cmd.op ≠ .flush ∧ d.opStop x.cmd.op x.cmd.nsid = none) →
    ∃ e, exec (.commandUnheld stamp) ⟨c, d, q⟩ = .next ⟨c, e, q⟩ ∧
      e.host = { d.host with ctxs := mapIf (fun y => y.stamp == stamp) (fun y => { y with phase := .transfer, why := 0 })
                               d.host.ctxs } ∧
      e = { d with host := e.host }) ∧
  -- COMMAND_UNHELD of a command that must wait
  (∀ (c : Clock) (d : Dev) (q : List Instr) (stamp : Nat) (x : Ctx),
    (d.ctx stamp = some x ∧ (d.holdWhy x).isSome) →
    ∃ e, exec (.commandUnheld stamp) ⟨c, d, q⟩ = .next ⟨c, e, q⟩ ∧
      e = d)

/-- Writes: their transfer, their staging, the units that describe and commit them, and Flush. A clause about a command says
what it does while it is in progress. (R13, R105, R405, R417, R420, R421, R422, R423, R424, R430, 13_command_execution.md) -/
def Obligations.HostWrites : Prop :=
  -- WRITE
  (∀ (c : Clock) (d : Dev) (q : List Instr) (stamp : Nat) (data : List Byte) (x : Ctx) (b : BindRec) (s : StripeRec),
    d.running stamp .write = some x →
    (x.mute = false ∧ x.posted = false) →
    (d.opStop .write x.cmd.nsid = none ∧ d.bound x.cmd.nsid = some (b, s) ∧ b.zoned = false) →
    (x.cmd.nlb ≠ 0 ∧ x.cmd.nlb ≤ maxBlocks b ∧ x.cmd.slba + x.cmd.nlb ≤ d.nsBlocks b s) →
    data.length = x.cmd.nlb * b.lbs →
    ∃ e, exec (.write stamp data) ⟨c, d, q⟩ = .next ⟨c, e, q⟩ ∧
      e.host = { d.host with ctxs := mapIf (fun y => y.stamp == stamp) (fun y => { y with data := data }) d.host.ctxs,
                               moved := d.host.moved.ins x.cid (FMap.get (fun _ => 0) d.host.moved x.cid + data.length) } ∧
      e = { d with host := e.host }) ∧
  -- WRITE out of range
  (∀ (c : Clock) (d : Dev) (q : List Instr) (stamp : Nat) (data : List Byte) (x : Ctx) (b : BindRec) (s : StripeRec),
    d.running stamp .write = some x →
    (x.mute = false ∧ x.posted = false) →
    (d.opStop .write x.cmd.nsid = none ∧ d.bound x.cmd.nsid = some (b, s)) →
    (x.cmd.nlb ≠ 0 ∧ x.cmd.nlb ≤ maxBlocks b ∧ d.nsBlocks b s < x.cmd.slba + x.cmd.nlb) →
    ∃ e, exec (.write stamp data) ⟨c, d, q⟩ = .next ⟨c, e, q⟩ ∧
      Answered stamp x .lbaRange 0 0 [] e ∧
      e = { d with host := e.host }) ∧
  -- ZONE_APPEND
  (∀ (c : Clock) (d : Dev) (q : List Instr) (stamp : Nat) (data : List Byte) (x : Ctx) (b : BindRec) (s : StripeRec) (z :
        Nat × Nat),
    d.running stamp .zoneAppend = some x →
    (x.mute = false ∧ x.posted = false) →
    (d.opStop .zoneAppend x.cmd.nsid = none ∧ d.bound x.cmd.nsid = some (b, s) ∧ b.zoned = true) →
    (x.cmd.nlb ≠ 0 ∧ x.cmd.nlb ≤ maxBlocks b ∧ x.cmd.slba + x.cmd.nlb ≤ d.nsBlocks b s) →
    (data.length = x.cmd.nlb * b.lbs ∧ d.zoneCheck b s true x.cmd.slba x.cmd.nlb = .inr z) →
    ∃ e, exec (.zoneAppend stamp data) ⟨c, d, q⟩ = .next ⟨c, e, q⟩ ∧
      e.host.ctxs = mapIf (fun y => y.stamp == stamp) (fun y => { y with data := data }) d.host.ctxs ∧
      e = { d with host := e.host }) ∧
  -- WRITE_STAGED of an unzoned write without Force Unit Access
  (∀ (c : Clock) (d : Dev) (q : List Instr) (stamp : Nat) (x : Ctx) (b : BindRec) (s : StripeRec) (f : Dev),
    (d.ctx stamp = some x ∧ x.cmd.op = .write ∧ x.phase = .transfer ∧ x.data ≠ [] ∧ x.mute = false ∧ x.cmd.fua = false) →
    (d.opStop x.cmd.op x.cmd.nsid = none ∧ d.bound x.cmd.nsid = some (b, s) ∧ b.zoned = false) →
    d.stageWrite c { b := b, s := s, slba := x.cmd.slba, nlb := x.cmd.nlb, wid := x.wid, stamp := stamp, fua := false, zone
                       := none, pieces := packWrite (d.coding b) (d.get Reg.CMP_CFG_MIN_SAVE) b.lbs x.cmd.slba (blocksOf
                       b.lbs x.cmd.nlb x.data).length (d.openRoom b s none ((d.ns b.nsid).zone 0).wp) 0 (blocksOf b.lbs
                       x.cmd.nlb x.data) } = .inr f →
    ∃ e, exec (.writeStaged stamp) ⟨c, d, q⟩ = .next ⟨c, e, q⟩ ∧
      e.host.posted = d.host.posted ++ [{ stamp := stamp, cid := x.cid, status := .success }] ∧
      e.ctx stamp = some { x with phase := .staged, staged := true, data := [], posted := true, dw0 := 0, dw1 := 0 } ∧
      e = { f with host := e.host } ∧ e.host.writes = f.host.writes ∧ e.host.nss = f.host.nss ∧
      e.host.writes.map (fun w => w.stamp) = d.host.writes.map (fun w => w.stamp) ++ [stamp]) ∧
  -- COMMIT_TIMER
  (∀ (c : Clock) (d : Dev) (q : List Instr) (n : Fin 16),
    (d.pwr.mode ≠ .sleep ∧ d.unitWaits n = true) →
    (∃ t, (d.deck n).placedAt = some t ∧ t + d.get Reg.HQ_CMT_CFG_COMMIT_MS * tickMs ≤ c.tick) →
    ∃ e, exec (.commitTimer n) ⟨c, d, q⟩ = .next ⟨c, e, q⟩ ∧
      e.deck n = { d.deck n with unitDue := true } ∧
      DeckOnly n d e ∧
      e = { d with decks := e.decks }) ∧
  -- INDEX_UNIT_WRITE
  (∀ (c : Clock) (d : Dev) (q : List Instr) (n : Fin 16) (swath slot pass : Nat) (x : Disc) (z : Zone),
    (d.deckOn n = true ∧ (d.deck n).disc = some x ∧ zoneOf swath = some z) →
    (mayWrite d n = true ∧ opcDue d n = false ∧ d.unitNeeded n = true ∧ x.freeUnits ≠ 0) →
    (bandOf (d.get (Reg.SEQ_STS_LAYER n)) swath = .index ∧ slot < z.s ∧ pass ≤ 3) →
    x.units.contains (d.get (Reg.SEQ_STS_LAYER n), swath, pass, slot) = false →
    (inPlace d n swath pass z = true ∧ d.openMask n ≠ 0) →
    ∃ e, exec (.indexUnitWrite n swath slot pass) ⟨c, d, q⟩ = .next ⟨c, e, q⟩ ∧
      e.dstate n = dWRITING ∧
      (e.deck n).unit = some (d.indexUnit c n x ⟨swath, slot, pass⟩) ∧
      (e.deck n).unit.map (fun u => (u.magic, u.swath, u.slot, u.pass, u.seq)) = some (magicIndex, swath, slot, pass,
        x.unitSeq + 1) ∧
      (e.deck n).pass = some { pass := pass, startSlot := slot } ∧
      (e.deck n).unitDue = false ∧ (e.deck n).link.laserMode = 2 ∧
      (e.deck n).disc = some
        { x with units := (d.get (Reg.SEQ_STS_LAYER n), swath, pass, slot) :: x.units, freeUnits := x.freeUnits - 1, dirty
                   := true } ∧ (e.deck n).placed = (d.deck n).placed ∧
      DeckOnly n d e ∧
      e = { d with regs := e.regs, decks := e.decks, host := e.host } ∧
      RegsOnly [Reg.SEQ_STS_STATE n] d e) ∧
  -- INDEX_UNIT_VERIFIED that fails
  (∀ (c : Clock) (d : Dev) (q : List Instr) (n : Fin 16) (u : UnitNow) (p : Pass),
    (d.deckOn n = true ∧ (d.deck n).unit = some u ∧ (d.deck n).pass = some p) →
    (u.magic = magicIndex ∧ unitHolds d n u.slot p = false) →
    ((d.deck n).nextPass = 2 ∧ (d.deck n).seq.pendPark = false) →
    ∃ e, exec (.indexUnitVerified n u.seq) ⟨c, d, q⟩ = .next ⟨c, e, q⟩ ∧
      e.deck n = { d.deck n with unit := none, pass := none, report := (e.deck n).report, unitDue := true } ∧
      (∀ o ∈ p.outs, o ∈ (e.deck n).report) ∧
      DeckOnly n d e ∧
      e = { d with regs := e.regs, decks := e.decks } ∧
      RegsOnly [Reg.WRP_VFY_STS_INCOMPLETE n] d e) ∧
  -- INDEX_UNIT_VERIFIED
  (∀ (c : Clock) (d : Dev) (q : List Instr) (n : Fin 16) (u : UnitNow) (p : Pass) (x : Disc),
    (d.deckOn n = true ∧ (d.deck n).unit = some u ∧ (d.deck n).pass = some p ∧ (d.deck n).disc = some x) →
    (u.magic = magicIndex ∧ unitHolds d n u.slot p = true) →
    (d.host.writes = [] ∧ d.host.ctxs = []) →
    ((d.deck n).nextPass = 2 ∧ (d.deck n).seq.pendPark = false) →
    ∃ e, exec (.indexUnitVerified n u.seq) ⟨c, d, q⟩ = .next ⟨c, e, q⟩ ∧
      (e.deck n).disc = some
        { x with maps := x.maps ++ u.maps, commits := x.commits ++ u.commits, keys := x.keys ++ u.keys, unitSeq := u.seq } ∧
      (e.deck n).unit = none ∧ (e.deck n).pass = none ∧ (e.deck n).placed = (d.deck n).placed.filter (fun m =>
        !u.maps.contains m) ∧
      DeckOnly n d e ∧
      e = { d with regs := e.regs, decks := e.decks, host := e.host } ∧
      RegsOnly [Reg.WRP_VFY_STS_INCOMPLETE n] d e) ∧
  -- FLUSH with nothing to wait for
  (∀ (c : Clock) (d : Dev) (q : List Instr) (stamp : Nat) (x : Ctx),
    d.running stamp .flush = some x →
    (x.mute = false ∧ x.posted = false) →
    (d.host.writes = [] ∧ d.host.ctxs = [x] ∧ d.host.jobs = []) →
    ∃ e, exec (.flush stamp) ⟨c, d, q⟩ = .next ⟨c, e, q⟩ ∧
      Completed stamp x .success 0 0 [] d e ∧
      e = { d with host := e.host }) ∧
  -- FLUSH with a write to wait for
  (∀ (c : Clock) (d : Dev) (q : List Instr) (stamp : Nat) (x : Ctx) (w : Wr),
    d.running stamp .flush = some x →
    (x.mute = false ∧ x.posted = false) →
    (d.host.writes = [w] ∧ w.stamp < stamp ∧ d.flushCovers x w.nsid = true ∧ d.host.ctxs = [x]) →
    (∀ m : Fin 16, bit (d.deck m).gate.hold gLATCHED = false) →
    ∃ e, exec (.flush stamp) ⟨c, d, q⟩ = .next ⟨c, e, q⟩ ∧
      e.host = { d.host with ctxs := [{ x with phase := .media }] } ∧
      e = { d with host := e.host })

/-- Reads, Compare, Verify, Read As-Of, Migrate and zone management on a mounted namespace. A clause about a command says what
it does while it is in progress, no DRAM error being met. (R108, R364, R405, R406, R419, R420, R439, R441, R442, R471,
13_command_execution.md) -/
def Obligations.HostReads : Prop :=
  -- READ
  (∀ (c : Clock) (d : Dev) (q : List Instr) (stamp : Nat) (x : Ctx) (b : BindRec) (s : StripeRec) (l : List Byte),
    d.running stamp .read = some x →
    (x.mute = false ∧ x.posted = false) →
    (d.nsStop x.cmd.nsid = none ∧ d.bound x.cmd.nsid = some (b, s)) →
    (d.blocksAway s b.nsid none none x.parts x.cmd.slba x.cmd.nlb = false ∧ d.blocksUnread s b.nsid none none x.cmd.slba
        x.cmd.nlb = false) →
    (x.cmd.nlb ≠ 0 ∧ x.cmd.nlb ≤ maxBlocks b ∧ x.cmd.slba + x.cmd.nlb ≤ d.nsBlocks b s) →
    (∀ n ∈ d.readDecks b s none none x.cmd.slba x.cmd.nlb, d.deckDown n = false ∧ (d.dstate n = dREADY ∨ d.dstate n =
        dWRITING) ∧ bit (d.get Reg.PWR_GOV_STS_HELD) n = false) →
    readUntil (fun i => d.readBlock b s none none ((x.parts.find? (fun p => p.1 == i)).map (fun p => p.2)) (x.cmd.slba +
        i)) 0 (List.range x.cmd.nlb) = (l, none) →
    ∃ e, exec (.read stamp x.cid [] []) ⟨c, d, q⟩ = .next ⟨c, e, q⟩ ∧
      e.host = { d.host with ctxs := mapIf (fun y => y.stamp == stamp) (fun y =>
                               { y with phase := .media, data := l, dw0 := 1, why := 0 }) d.host.ctxs } ∧
      e = { d with host := e.host }) ∧
  -- READ of a block in an erased sector
  (∀ (c : Clock) (d : Dev) (q : List Instr) (stamp i : Nat) (x : Ctx) (b : BindRec) (s : StripeRec) (l : List Byte),
    d.running stamp .read = some x →
    (x.mute = false ∧ x.posted = false) →
    (d.nsStop x.cmd.nsid = none ∧ d.bound x.cmd.nsid = some (b, s)) →
    (d.blocksAway s b.nsid none none x.parts x.cmd.slba x.cmd.nlb = false ∧ d.blocksUnread s b.nsid none none x.cmd.slba
        x.cmd.nlb = false) →
    (x.cmd.nlb ≠ 0 ∧ x.cmd.nlb ≤ maxBlocks b ∧ x.cmd.slba + x.cmd.nlb ≤ d.nsBlocks b s) →
    (∀ n ∈ d.readDecks b s none none x.cmd.slba x.cmd.nlb, d.deckDown n = false ∧ (d.dstate n = dREADY ∨ d.dstate n =
        dWRITING) ∧ bit (d.get Reg.PWR_GOV_STS_HELD) n = false) →
    readUntil (fun i => d.readBlock b s none none ((x.parts.find? (fun p => p.1 == i)).map (fun p => p.2)) (x.cmd.slba +
        i)) 0 (List.range x.cmd.nlb) = (l, some (i, .bad)) →
    ∃ e, exec (.read stamp x.cid [] []) ⟨c, d, q⟩ = .next ⟨c, e, q⟩ ∧
      Completed stamp x .sectorUnreadable i 0 [] d e ∧
      e = { d with host := e.host, decks := e.decks }) ∧
  -- READ on a namespace whose disc is not mounted
  (∀ (c : Clock) (d : Dev) (q : List Instr) (stamp : Nat) (x : Ctx) (st : Sts),
    d.running stamp .read = some x →
    (x.mute = false ∧ x.posted = false) →
    (x.cid ≠ seamCid ∧ d.nsStop x.cmd.nsid = some st) →
    ∃ e, exec (.read stamp x.cid [] []) ⟨c, d, q⟩ = .next ⟨c, e, q⟩ ∧
      Completed stamp x st 0 0 [] d e ∧
      e = { d with host := e.host }) ∧
  -- READ_DATA_OUT
  (∀ (c : Clock) (d : Dev) (q : List Instr) (stamp : Nat) (x : Ctx),
    (d.ctx stamp = some x ∧ x.cmd.op = .read ∧ x.phase = .media ∧ x.dw0 = 1 ∧ x.mute = false ∧ d.outWaits x = false ∧
        x.posted = false) →
    ∃ e, exec (.readDataOut stamp) ⟨c, d, q⟩ = .next ⟨c, e, q⟩ ∧
      Completed stamp x .success 0 0 x.data d e ∧
      e.host.moved = d.host.moved.ins x.cid (FMap.get (fun _ => 0) d.host.moved x.cid + x.data.length) ∧
      e = { d with host := e.host }) ∧
  -- COMPARE
  (∀ (c : Clock) (d : Dev) (q : List Instr) (stamp : Nat) (data : List Byte) (x : Ctx) (b : BindRec) (s : StripeRec) (l :
        List Byte),
    d.running stamp .compare = some x →
    (x.mute = false ∧ x.posted = false) →
    (d.nsStop x.cmd.nsid = none ∧ d.bound x.cmd.nsid = some (b, s)) →
    (d.blocksAway s b.nsid none none x.parts x.cmd.slba x.cmd.nlb = false ∧ d.blocksUnread s b.nsid none none x.cmd.slba
        x.cmd.nlb = false) →
    (x.cmd.nlb ≠ 0 ∧ x.cmd.nlb ≤ maxBlocks b ∧ x.cmd.slba + x.cmd.nlb ≤ d.nsBlocks b s) →
    (∀ n ∈ d.readDecks b s none none x.cmd.slba x.cmd.nlb, d.deckDown n = false ∧ (d.dstate n = dREADY ∨ d.dstate n =
        dWRITING) ∧ bit (d.get Reg.PWR_GOV_STS_HELD) n = false) →
    readUntil (fun i => d.readBlock b s none none ((x.parts.find? (fun p => p.1 == i)).map (fun p => p.2)) (x.cmd.slba +
        i)) 0 (List.range x.cmd.nlb) = (l, none) →
    data.length = x.cmd.nlb * b.lbs →
    ∃ e, exec (.compare stamp x.cid data [] []) ⟨c, d, q⟩ = .next ⟨c, e, q⟩ ∧
      Answered stamp x (if l = data then .success else .compareFailure) 0 0 [] e ∧
      e = { d with host := e.host }) ∧
  -- VERIFY
  (∀ (c : Clock) (d : Dev) (q : List Instr) (stamp : Nat) (x : Ctx) (b : BindRec) (s : StripeRec) (l : List Byte),
    d.running stamp .verify = some x →
    (x.mute = false ∧ x.posted = false) →
    (d.nsStop x.cmd.nsid = none ∧ d.bound x.cmd.nsid = some (b, s)) →
    (d.blocksAway s b.nsid none none x.parts x.cmd.slba x.cmd.nlb = false ∧ d.blocksUnread s b.nsid none none x.cmd.slba
        x.cmd.nlb = false) →
    (x.cmd.nlb ≠ 0 ∧ x.cmd.nlb ≤ maxBlocks b ∧ x.cmd.slba + x.cmd.nlb ≤ d.nsBlocks b s) →
    (∀ n ∈ d.readDecks b s none none x.cmd.slba x.cmd.nlb, d.deckDown n = false ∧ (d.dstate n = dREADY ∨ d.dstate n =
        dWRITING) ∧ bit (d.get Reg.PWR_GOV_STS_HELD) n = false) →
    readUntil (fun i => d.readBlock b s none none ((x.parts.find? (fun p => p.1 == i)).map (fun p => p.2)) (x.cmd.slba +
        i)) 0 (List.range x.cmd.nlb) = (l, none) →
    ∃ e, exec (.verify stamp x.cid [] []) ⟨c, d, q⟩ = .next ⟨c, e, q⟩ ∧
      Answered stamp x .success 0 0 [] e ∧
      e = { d with host := e.host }) ∧
  -- READ_AS_OF
  (∀ (c : Clock) (d : Dev) (q : List Instr) (stamp t : Nat) (x : Ctx) (b : BindRec) (s : StripeRec) (l : List Byte),
    d.running stamp .readAsOf = some x →
    (x.mute = false ∧ x.posted = false) →
    (d.nsStop x.cmd.nsid = none ∧ d.bound x.cmd.nsid = some (b, s) ∧ b.zoned = false) →
    (x.cmd.nlb = 1 ∧ x.cmd.nlb ≤ maxBlocks b ∧ x.cmd.slba + x.cmd.nlb ≤ d.nsBlocks b s) →
    (d.versionOf s b.nsid x.cmd.slba (some (min t x.tai)) (some x.wid) = none ∧ l = List.replicate b.lbs 0) →
    ∃ e, exec (.readAsOf stamp x.cid t [] []) ⟨c, d, q⟩ = .next ⟨c, e, q⟩ ∧
      Answered stamp x .success 0 0 l e ∧
      e = { d with host := e.host }) ∧
  -- MIGRATE of one range
  (∀ (c : Clock) (d : Dev) (q : List Instr) (stamp : Nat) (recomp skipBad : Bool) (x : Ctx) (b bt : BindRec) (s st :
        StripeRec) (r : Nat × Nat × Nat) (m : MigStep) (k : Ctrl),
    d.running stamp .migrate = some x →
    (x.mute = false ∧ x.posted = false) →
    (d.opStop .migrate x.cmd.nsid = none ∧ d.bound x.cmd.nsid = some (bt, st) ∧ bt.zoned = false ∧ x.cmd.hist = false) →
    (x.cmd.srcs = [r] ∧ d.ctrl x.cid = some k ∧ d.sees k r.1 = true ∧ d.nsStop r.1 = none ∧ d.bound r.1 = some (b, s) ∧
        b.lbs64 = bt.lbs64) →
    (x.cmd.slba + r.2.2 ≤ d.nsBlocks bt st ∧ r.2.1 + r.2.2 ≤ d.nsBlocks b s) →
    overlaps (false, r.1, r.2.1, r.2.2) (true, x.cmd.nsid, x.cmd.slba, r.2.2) = false →
    ((List.range m.nlb).any (fun i => (d.migPick m (m.slba + i)).any (fun v => v.unread || v.away)) = false ∧ m.base = 0) →
    (∀ n ∈ d.readDecks b s none none r.2.1 r.2.2, d.deckDown n = false ∧ (d.dstate n = dREADY ∨ d.dstate n = dWRITING)) →
    d.migSteps false r x.cmd.slba = [m] →
    ((migStep c x bt st recomp skipBad { d := d } m).stop = none ∧ (migStep c x bt st recomp skipBad { d := d } m).issued =
        1) →
    ∃ e, exec (.migrate stamp x.cid recomp skipBad [] []) ⟨c, d, q⟩ = .next ⟨c, e, q⟩ ∧
      e.host.migs = d.host.migs ++ [{ stamp := stamp, issued := 1, skipped := (migStep c x bt st recomp skipBad { d := d }
                                        m).skipped }] ∧
      (e.ctx stamp).map (fun y => y.phase) = some .media ∧
      e.host.writes.map (fun w => w.stamp) = d.host.writes.map (fun w => w.stamp) ++ [stamp]) ∧
  -- ZONE_MANAGEMENT_SEND, finish
  (∀ (c : Clock) (d : Dev) (q : List Instr) (stamp : Nat) (x : Ctx) (b : BindRec) (s : StripeRec),
    d.running stamp .zoneSend = some x →
    (x.mute = false ∧ x.posted = false) →
    (d.bound x.cmd.nsid = some (b, s) ∧ b.zoned = true ∧ zoneSize b s ≠ 0) →
    (x.cmd.slba % zoneSize b s = 0 ∧ x.cmd.slba < d.nsBlocks b s) →
    ∃ e, exec (.zoneManagementSend stamp 2 false) ⟨c, d, q⟩ = .next ⟨c, e, q⟩ ∧
      (e.ns x.cmd.nsid).zone (x.cmd.slba / zoneSize b s) =
        { (d.ns x.cmd.nsid).zone (x.cmd.slba / zoneSize b s) with state := 14 } ∧
      Completed stamp x .success 0 0 [] d e ∧
      e = { d with host := e.host }) ∧
  -- ZONE_MANAGEMENT_SEND, reset
  (∀ (c : Clock) (d : Dev) (q : List Instr) (stamp : Nat) (x : Ctx) (b : BindRec) (s : StripeRec),
    d.running stamp .zoneSend = some x →
    (x.mute = false ∧ x.posted = false) →
    (d.bound x.cmd.nsid = some (b, s) ∧ b.zoned = true ∧ zoneSize b s ≠ 0) →
    (x.cmd.slba % zoneSize b s = 0 ∧ x.cmd.slba < d.nsBlocks b s) →
    ∃ e, exec (.zoneManagementSend stamp 4 false) ⟨c, d, q⟩ = .next ⟨c, e, q⟩ ∧
      Completed stamp x .zoneWriteOnce 0 0 [] d e ∧
      e = { d with host := e.host }) ∧
  -- ZONE_MANAGEMENT_RECEIVE of one zone
  (∀ (c : Clock) (d : Dev) (q : List Instr) (stamp : Nat) (x : Ctx) (b : BindRec) (s : StripeRec),
    d.running stamp .zoneReceive = some x →
    (x.mute = false ∧ x.posted = false) →
    (d.bound x.cmd.nsid = some (b, s) ∧ b.zoned = true ∧ zoneSize b s ≠ 0) →
    x.cmd.slba < d.nsBlocks b s →
    ∃ e, exec (.zoneManagementReceive stamp 0 1) ⟨c, d, q⟩ = .next ⟨c, e, q⟩ ∧
      Completed stamp x .success 0 0 (le 8 1 ++ List.replicate 56 0 ++ zoneDesc b s (d.ns x.cmd.nsid) (x.cmd.slba /
        zoneSize b s)) d e ∧
      e = { d with host := e.host })

/-- Mount, Unmount, Survey and Ledger Read. A clause about a command says what it does while it is in progress. (R100, R101,
R110, R433, R434, R436, R437, R438, R644, R652, 04_disc_format.md, 13_command_execution.md) -/
def Obligations.DiscCommands : Prop :=
  -- MOUNT of the disc of a READY deck
  (∀ (c : Clock) (d : Dev) (q : List Instr) (stamp : Nat) (h : Word) (init : Bool) (o : DiscObs) (x : Ctx) (b : BindRec) (s
        : StripeRec) (u n : Nat) (i : PrimerInfo),
    d.running stamp .mount = some x →
    (x.mute = false ∧ x.posted = false) →
    (∀ k ∈ d.ctrls, stamp ∉ k.aers) →
    (d.bound x.cmd.nsid = some (b, s) ∧ s.members.findIdx? (fun m => m == h.toNat) = some u ∧ d.deckOf h.toNat = some n) →
    ((d.deck n).mounted = none ∧ (d.deck n).primer = none ∧ d.gleaning n = false ∧ d.deckDown n = false ∧ noGains n d =
        false ∧ d.ledFull = false) →
    (d.dstate n = dREADY ∧ d.get (Reg.SEQ_STS_GEN n) ≠ 1 ∧ o.blank = false) →
    (o.primer.bind primerOf = some i ∧ i.setLabel = b.label ∧ i.member = u ∧ i.setSize = s.members.length) →
    ∃ e, exec (.mount stamp h init o) ⟨c, d, q⟩ = .next ⟨c, e, q⟩ ∧
      (e.deck n).mounted = some b.nsid ∧ (e.deck n).opcFresh = [] ∧
      (e.deck n).disc = some (discOf 2 i b.nsid b o) ∧
      Entered c (d.whoOf x.cid rOPERATOR) 7 0 1 (b.nsid * 2 ^ 32 + h.toNat) zeros48 (sha i.discId) d e ∧
      Answered stamp x .success 0 0 (mountResult e b s h.toNat (discOf 2 i b.nsid b o) false) e ∧
      (∀ m, m ≠ n → e.deck m = { d.deck m with keysDue := (e.deck m).keysDue }) ∧
      e.get (Reg.DET_MAP_CFG_MODE n) = 0 ∧ (e.deck n).seq.laneMode = 0 ∧
      RegsOnly ([Reg.SEC_LEDGER_STS_BUFFERED, Reg.SEC_LEDGER_STS_FULL, Reg.SEC_LEDGER_STS_FIRST_CP,
        Reg.SEC_LEDGER_SEQ_SEQ_LO, Reg.WRP_GATE_STS_EMIT_OPEN n, Reg.WRP_GATE_STS_CLOSED n, Reg.DET_MAP_CFG_MODE n] ++
        (List.range 66).flatMap (fun l => [Reg.LANE_STATE_LSTATE n l, Reg.LANE_STATE_SRC n l, Reg.LANE_STATE_STBY n l])) d
        e ∧
      e = { d with regs := e.regs, decks := e.decks, host := e.host, led := e.led, ctrls := e.ctrls, sec := e.sec }) ∧
  -- MOUNT on a deck with a mounted disc
  (∀ (c : Clock) (d : Dev) (q : List Instr) (stamp : Nat) (h : Word) (init : Bool) (o : DiscObs) (x : Ctx) (b : BindRec) (s
        : StripeRec) (u n : Nat),
    d.running stamp .mount = some x →
    (x.mute = false ∧ x.posted = false) →
    (d.bound x.cmd.nsid = some (b, s) ∧ s.members.findIdx? (fun m => m == h.toNat) = some u ∧ d.deckOf h.toNat = some n) →
    (d.deck n).mounted.isSome = true →
    ∃ e, exec (.mount stamp h init o) ⟨c, d, q⟩ = .next ⟨c, e, q⟩ ∧
      Completed stamp x .alreadyMounted 0 0 [] d e ∧
      e = { d with host := e.host }) ∧
  -- MOUNT of another unit
  (∀ (c : Clock) (d : Dev) (q : List Instr) (stamp : Nat) (h : Word) (init : Bool) (o : DiscObs) (x : Ctx) (b : BindRec) (s
        : StripeRec),
    d.running stamp .mount = some x →
    (x.mute = false ∧ x.posted = false) →
    (d.bound x.cmd.nsid = some (b, s) ∧ h.toNat ∉ s.members ∧ isUnit h.toNat = true ∧ (deckOfIdx (hIndex h.toNat)).isSome =
        true) →
    ∃ e, exec (.mount stamp h init o) ⟨c, d, q⟩ = .next ⟨c, e, q⟩ ∧
      Completed stamp x .notMember 0 0 [] d e ∧
      e = { d with host := e.host }) ∧
  -- UNMOUNT that need not wait
  (∀ (c : Clock) (d : Dev) (q : List Instr) (stamp : Nat) (h : Word) (force : Bool) (x : Ctx) (n nsid : Nat),
    d.running stamp .unmount = some x →
    (x.mute = false ∧ x.posted = false) →
    (∀ k ∈ d.ctrls, stamp ∉ k.aers) →
    (d.deckOf h.toNat = some n ∧ (d.deck n).mounted = some nsid ∧ d.ledFull = false ∧ d.reloadHolds nsid = false) →
    (d.host.jobs = [] ∧ (d.host.ctxs.any fun y => decide (y.stamp < stamp)) = false) →
    (d.dependsOn n = [] ∧ d.unitWaits n = false ∧ (d.deck n).unit = none ∧ (d.deck n).pass = none) →
    ∃ e, exec (.unmount stamp h force true) ⟨c, d, q⟩ = .next ⟨c, e, q⟩ ∧
      (e.deck n).mounted = none ∧ (e.ns nsid).ready = false ∧
      (e.deck n).snap ≠ [] ∧
      Entered c (d.whoOf x.cid rOPERATOR) 7 0 2 (nsid * 2 ^ 32 + h.toNat) (sha ((d.deck n).disc.elim [] (fun y =>
        y.discId))) zeros48 d e ∧
      Answered stamp x .success 0 0 [] e ∧
      DeckOnly n d e ∧ e.dstate n = d.dstate n) ∧
  -- UNMOUNT of a deck without a mounted disc
  (∀ (c : Clock) (d : Dev) (q : List Instr) (stamp : Nat) (h : Word) (force nopark : Bool) (x : Ctx) (n : Nat),
    d.running stamp .unmount = some x →
    (x.mute = false ∧ x.posted = false) →
    (d.deckOf h.toNat = some n ∧ (d.deck n).mounted = none) →
    (d.host.jobs.any fun j => j.stamp == stamp && j.kind == 3) = false →
    ∃ e, exec (.unmount stamp h force nopark) ⟨c, d, q⟩ = .next ⟨c, e, q⟩ ∧
      Completed stamp x .notMounted 0 0 [] d e ∧
      e = { d with host := e.host }) ∧
  -- SURVEY
  (∀ (c : Clock) (d : Dev) (q : List Instr) (stamp : Nat) (h : Word) (layer first last : Nat) (found : List (List
        SurveyBlk)) (x : Ctx) (n : Nat),
    d.running stamp .survey = some x →
    (x.mute = false ∧ x.posted = false) →
    (8 ≤ first ∧ first ≤ last ∧ last ≤ 2655 ∧ last ≤ first + 1023 ∧ layer ≤ 31) →
    (d.deckOf h.toNat = some n ∧ d.dstate n = dREADY ∧ d.deckDown n = false) →
    ∃ e, exec (.survey stamp h layer first last found) ⟨c, d, q⟩ = .next ⟨c, e, q⟩ ∧
      Completed stamp x .success 0 0 (discRecord d n
        { surveyMargin ((List.range (last - first + 1)).flatMap (fun i => found.getD i [])) with clrStamp := c.angleStamp
                                                                                                   n, clrTick := c.tick }
        (c.angleStamp n) c.tick ++ (List.range (last - first + 1)).flatMap (fun i => surveyEntry (first + i) (found.getD i
        []))) d e ∧
      (e.deck n).snap = discRecord d n (d.deck n).margin (c.angleStamp n) c.tick ++ (List.range 66).flatMap (laneRecord d
        n) ∧
      (e.deck n).margin = (d.deck n).margin ∧
      DeckOnly n d e ∧
      e = { d with host := e.host, decks := e.decks }) ∧
  -- SURVEY of a bad range
  (∀ (c : Clock) (d : Dev) (q : List Instr) (stamp : Nat) (h : Word) (layer first last : Nat) (found : List (List
        SurveyBlk)) (x : Ctx),
    d.running stamp .survey = some x →
    (x.mute = false ∧ x.posted = false) →
    (first < 8 ∨ 2655 < last ∨ last < first ∨ first + 1023 < last) →
    ∃ e, exec (.survey stamp h layer first last found) ⟨c, d, q⟩ = .next ⟨c, e, q⟩ ∧
      Completed stamp x .invalidField 0 0 [] d e ∧
      e = { d with host := e.host }) ∧
  -- LEDGER_READ
  (∀ (c : Clock) (d : Dev) (q : List Instr) (stamp what start numd : Nat) (x : Ctx),
    d.running stamp .ledgerRead = some x →
    (x.mute = false ∧ x.posted = false) →
    what ≤ 2 →
    ∃ e, exec (.ledgerRead stamp what start numd) ⟨c, d, q⟩ = .next ⟨c, e, q⟩ ∧
      Completed stamp x .success 0 0 (ledgerBytes d what start (4 * (numd + 1))) d e ∧
      e = { d with host := e.host })

/-- Compression jobs: queued, started on an engine, ended. (R456, R458, R459, R472, R473, R475, R477, R478, 14_compression.md)
-/
def Obligations.CompressionJobs : Prop :=
  -- COMPRESS_JOB from host memory
  (∀ (c : Clock) (d : Dev) (q : List Instr) (stamp : Nat) (desc : List Byte) (o : JobObs) (x : Ctx) (k : Ctrl),
    d.running stamp .compressJob = some x →
    (x.mute = false ∧ x.posted = false) →
    (d.ctrl x.cid = some k ∧ k.kind ≤ 1 ∧ (d.jobs.any fun j => j.stamp == stamp) = false) →
    (jobBadDesc false desc = false ∧ jobKind desc = 0 ∧ jobRestore desc = false ∧ jobMethod desc = 1 ∧ o.reach = true) →
    ((jobOut desc).2.1 ≠ 0 ∧ (jobChain desc).2.1 = 0) →
    ∃ e, exec (.compressJob stamp desc o) ⟨c, d, q⟩ = .next ⟨c, e, q⟩ ∧
      e.jobs = d.jobs ++ [{ stamp := stamp, cid := x.cid, nsid := x.cmd.nsid, dec := false, desc := desc, method := 1, st
                              := { dir := 0 }, outs := [jobOut desc], input := slice o.input 0 (jobIn desc).2.1 }] ∧
      e = { d with jobs := e.jobs }) ∧
  -- COMPRESS_JOB with an unsound descriptor
  (∀ (c : Clock) (d : Dev) (q : List Instr) (stamp : Nat) (desc : List Byte) (o : JobObs) (x : Ctx) (k : Ctrl),
    d.running stamp .compressJob = some x →
    (x.mute = false ∧ x.posted = false) →
    (d.ctrl x.cid = some k ∧ k.kind ≤ 1 ∧ (d.jobs.any fun j => j.stamp == stamp) = false) →
    jobBadDesc false desc = true →
    ∃ e, exec (.compressJob stamp desc o) ⟨c, d, q⟩ = .next ⟨c, e, q⟩ ∧
      e.ctx stamp = none ∧ e.jobs = d.jobs ∧
      (e.host.posted.any fun y => y.stamp == stamp && y.status == .invalidField && y.dw1 == 6) = true) ∧
  -- DECOMPRESS_JOB from host memory
  (∀ (c : Clock) (d : Dev) (q : List Instr) (stamp : Nat) (desc : List Byte) (o : JobObs) (x : Ctx) (k : Ctrl),
    d.running stamp .decompressJob = some x →
    (x.mute = false ∧ x.posted = false) →
    (d.ctrl x.cid = some k ∧ k.kind ≤ 1 ∧ (d.jobs.any fun j => j.stamp == stamp) = false) →
    (jobBadDesc true desc = false ∧ jobKind desc = 0 ∧ jobRestore desc = false ∧ o.reach = true) →
    ((jobOut desc).2.1 ≠ 0 ∧ (jobChain desc).2.1 = 0 ∧ ((slice o.input 0 (jobIn desc).2.1).getD 1 0).toNat ≠ 0x50) →
    ∃ e, exec (.decompressJob stamp desc o) ⟨c, d, q⟩ = .next ⟨c, e, q⟩ ∧
      e.jobs = d.jobs ++ [{ stamp := stamp, cid := x.cid, nsid := x.cmd.nsid, dec := true, desc := desc, method := 1, st :=
                              { dir := 1 }, outs := [jobOut desc], input := slice o.input 0 (jobIn desc).2.1 }] ∧
      e = { d with jobs := e.jobs }) ∧
  -- CMP_JOB_START
  (∀ (c : Clock) (d : Dev) (q : List Instr) (stamp : Nat) (j : Job) (en : Nat) (l : List Nat),
    (d.jobs.find? (fun i => i.stamp == stamp) = some j ∧ j.eng = none) →
    (d.jobs.any fun i => i.eng.isNone && i.method == j.method && decide (i.stamp < j.stamp) && d.tenant i.cid == d.tenant
        j.cid) = false →
    (d.jobYields j en = false ∧ d.jobEngines j = en :: l ∧ d.host.act = none ∧ d.domOn 9 = true) →
    ∃ e, exec (.cmpJobStart stamp) ⟨c, d, q⟩ = .next ⟨c, e, q⟩ ∧
      e.jobs = mapIf (fun i => i.stamp == stamp) (fun i => { i with eng := some en }) d.jobs ∧
      e.get (Reg.CMP_ENG_STS_STATE en) = 1 ∧
      e = { d with jobs := e.jobs, regs := e.regs } ∧
      RegsOnly [Reg.CMP_ENG_STS_STATE en] d e) ∧
  -- CMP_JOB_END of a compress job
  (∀ (c : Clock) (d : Dev) (q : List Instr) (stamp en : Nat) (j : Job) (x : Ctx),
    (d.jobs.find? (fun i => i.stamp == stamp) = some j ∧ j.eng = some en ∧ d.get (Reg.CMP_ENG_STS_STATE en) = 1) →
    (d.ctx stamp = some x ∧ x.mute = false ∧ x.posted = false) →
    (jobKind j.desc = 0 ∧ j.dec = false ∧ jobSave j.desc = false ∧ (jobCompl j.desc).2.1 = 0 ∧ (jobState j.desc).2.1 = 0) →
    (encJob (d.get Reg.CMP_CFG_MIN_SAVE) ((j.outs.map (fun b => b.2.1)).sum) (jobLast j.desc) j.st (slice j.input 0 (jobIn
        j.desc).2.1)).res = some 0 →
    ∃ e, exec (.cmpJobEnd stamp true []) ⟨c, d, q⟩ = .next ⟨c, e, q⟩ ∧
      e.jobs = d.jobs.filter (fun i => i.stamp != stamp) ∧ e.ctx stamp = none ∧
      { stamp := stamp, cid := x.cid, status := .success, dnr := dnrOf .success, dw0 := (((scatter j.outs (encJob (d.get
          Reg.CMP_CFG_MIN_SAVE) ((j.outs.map (fun b => b.2.1)).sum) (jobLast j.desc) j.st (slice j.input 0 (jobIn
          j.desc).2.1)).out).map (fun w => w.2.2.length)).sum) % 2 ^ 32, bufs := scatter j.outs (encJob (d.get
          Reg.CMP_CFG_MIN_SAVE) ((j.outs.map (fun b => b.2.1)).sum) (jobLast j.desc) j.st (slice j.input 0 (jobIn
          j.desc).2.1)).out } ∈ e.host.posted)

/-- Queue commands, Abort, Asynchronous Event Request, Keep Alive and unknown opcodes. A clause about a command says what it
does while it is in progress. (R386, R396, R397, R402, R408, R425, R426, R673, 12_host_attachment.md, 13_command_execution.md)
-/
def Obligations.QueuesAndEvents : Prop :=
  -- INVALID_OPCODE
  (∀ (c : Clock) (d : Dev) (q : List Instr) (stamp : Nat) (x : Ctx),
    (d.running stamp .otherAdmin = some x ∨ d.running stamp .otherIo = some x) →
    (x.mute = false ∧ x.posted = false) →
    ∃ e, exec (.invalidOpcode stamp) ⟨c, d, q⟩ = .next ⟨c, e, q⟩ ∧
      Completed stamp x .invalidOpcode 0 0 [] d e ∧
      e.host = { d.host with ctxs := e.host.ctxs, posted := e.host.posted } ∧
      e = { d with host := e.host }) ∧
  -- CREATE_IO_COMPLETION_QUEUE
  (∀ (c : Clock) (d : Dev) (q : List Instr) (stamp qid size vec : Nat) (x : Ctx) (k : Ctrl),
    d.running stamp .createCq = some x →
    (x.mute = false ∧ x.posted = false) →
    d.ctrl x.cid = some k →
    (k.kind ≤ 1 ∧ qid ≠ 0 ∧ qid ≤ k.pairs ∧ (k.cqs.any fun y => y.1 == qid) = false ∧ 2 ≤ size ∧ size ≤ 4096 ∧ vec <
        k.vectors) →
    ∃ e, exec (.createIoCompletionQueue stamp qid size vec) ⟨c, d, q⟩ = .next ⟨c, e, q⟩ ∧
      e.ctrls = mapIf (fun y => y.id == x.cid) (fun y => { y with cqs := y.cqs ++ [(qid, vec)] }) d.ctrls ∧
      Completed stamp x .success 0 0 [] d e ∧
      e.host = { d.host with ctxs := e.host.ctxs, posted := e.host.posted } ∧
      e = { d with host := e.host, ctrls := e.ctrls }) ∧
  -- CREATE_IO_SUBMISSION_QUEUE
  (∀ (c : Clock) (d : Dev) (q : List Instr) (stamp qid size cq : Nat) (x : Ctx) (k : Ctrl),
    d.running stamp .createSq = some x →
    (x.mute = false ∧ x.posted = false) →
    d.ctrl x.cid = some k →
    (k.kind ≤ 1 ∧ qid ≠ 0 ∧ qid ≤ k.pairs ∧ (k.sqs.any fun y => y.1 == qid) = false ∧ 2 ≤ size ∧ size ≤ 4096 ∧ (k.cqs.any
        fun y => y.1 == cq) = true) →
    ∃ e, exec (.createIoSubmissionQueue stamp qid size cq) ⟨c, d, q⟩ = .next ⟨c, e, q⟩ ∧
      e.ctrls = mapIf (fun y => y.id == x.cid) (fun y => { y with sqs := y.sqs ++ [(qid, cq)] }) d.ctrls ∧
      Completed stamp x .success 0 0 [] d e ∧
      e.host = { d.host with ctxs := e.host.ctxs, posted := e.host.posted } ∧
      e = { d with host := e.host, ctrls := e.ctrls }) ∧
  -- DELETE_IO_SUBMISSION_QUEUE
  (∀ (c : Clock) (d : Dev) (q : List Instr) (stamp qid : Nat) (x : Ctx) (k : Ctrl),
    d.running stamp .deleteSq = some x →
    (x.mute = false ∧ x.posted = false) →
    d.ctrl x.cid = some k →
    k.kind ≤ 1 →
    (k.sqs.any fun y => y.1 == qid) = true →
    ∃ e, exec (.deleteIoSubmissionQueue stamp qid) ⟨c, d, q⟩ = .next ⟨c, e, q⟩ ∧
      e.ctrls = mapIf (fun y => y.id == x.cid) (fun y => { y with sqs := y.sqs.filter (fun r => r.1 != qid) }) d.ctrls ∧
      Completed stamp x .success 0 0 [] d e ∧
      e.host = { d.host with ctxs := e.host.ctxs, posted := e.host.posted } ∧
      e = { d with host := e.host, ctrls := e.ctrls }) ∧
  -- DELETE_IO_COMPLETION_QUEUE
  (∀ (c : Clock) (d : Dev) (q : List Instr) (stamp qid : Nat) (x : Ctx) (k : Ctrl),
    d.running stamp .deleteCq = some x →
    (x.mute = false ∧ x.posted = false) →
    d.ctrl x.cid = some k →
    k.kind ≤ 1 →
    ((k.cqs.any fun y => y.1 == qid) = true ∧ (k.sqs.any fun y => y.2 == qid) = false) →
    ∃ e, exec (.deleteIoCompletionQueue stamp qid) ⟨c, d, q⟩ = .next ⟨c, e, q⟩ ∧
      e.ctrls = mapIf (fun y => y.id == x.cid) (fun y => { y with cqs := y.cqs.filter (fun r => r.1 != qid) }) d.ctrls ∧
      Completed stamp x .success 0 0 [] d e ∧
      e.host = { d.host with ctxs := e.host.ctxs, posted := e.host.posted } ∧
      e = { d with host := e.host, ctrls := e.ctrls }) ∧
  -- DOORBELL_BUFFER_CONFIG
  (∀ (c : Clock) (d : Dev) (q : List Instr) (stamp shadow eventidx : Nat) (x : Ctx) (k : Ctrl),
    d.running stamp .doorbellConfig = some x →
    (x.mute = false ∧ x.posted = false) →
    d.ctrl x.cid = some k →
    ∃ e, exec (.doorbellBufferConfig stamp shadow eventidx) ⟨c, d, q⟩ = .next ⟨c, e, q⟩ ∧
      (e.ctrls = if k.kind = 1 then mapIf (fun y => y.id == x.cid) (fun y => { y with shadow := some (shadow, eventidx) })
        d.ctrls else d.ctrls) ∧
      Completed stamp x (if k.kind = 1 then .success else .invalidOpcode) 0 0 [] d e ∧
      e.host = { d.host with ctxs := e.host.ctxs, posted := e.host.posted } ∧
      e = { d with host := e.host, ctrls := e.ctrls }) ∧
  -- ABORT of a held command of the same controller
  (∀ (c : Clock) (d : Dev) (q : List Instr) (stamp target : Nat) (x y : Ctx) (k : Ctrl),
    d.running stamp .abort = some x →
    (x.mute = false ∧ x.posted = false) →
    d.ctrl x.cid = some k →
    (d.ctx target = some y ∧ y.phase = .held ∧ y.cid = x.cid ∧ y.mute = false ∧ y.posted = false ∧ target ≠ stamp) →
    ∃ e, exec (.abort stamp target) ⟨c, d, q⟩ = .next ⟨c, e, q⟩ ∧
      e.host.ctxs = (d.host.ctxs.filter (fun z => z.stamp != target)).filter (fun z => z.stamp != stamp) ∧
      e.host.posted = d.host.posted ++ [{ stamp := target, cid := y.cid, status := .abortRequested, dnr := dnrOf
                                            .abortRequested }, { stamp := stamp, cid := x.cid, status := .success }] ∧
      e.host = { d.host with ctxs := e.host.ctxs, posted := e.host.posted } ∧
      e = { d with host := e.host }) ∧
  -- ABORT of any other command
  (∀ (c : Clock) (d : Dev) (q : List Instr) (stamp target : Nat) (x : Ctx) (k : Ctrl),
    d.running stamp .abort = some x →
    (x.mute = false ∧ x.posted = false) →
    d.ctrl x.cid = some k →
    (∀ y ∈ d.host.ctxs, y.stamp = target → y.phase ≠ .held ∨ y.cid ≠ x.cid) →
    ∃ e, exec (.abort stamp target) ⟨c, d, q⟩ = .next ⟨c, e, q⟩ ∧
      Completed stamp x .success 1 0 [] d e ∧
      e.host = { d.host with ctxs := e.host.ctxs, posted := e.host.posted } ∧
      e = { d with host := e.host }) ∧
  -- ASYNCHRONOUS_EVENT_REQUEST with no event to tell
  (∀ (c : Clock) (d : Dev) (q : List Instr) (stamp : Nat) (x : Ctx) (k : Ctrl),
    d.running stamp .asyncEvent = some x →
    (x.mute = false ∧ x.posted = false) →
    d.ctrl x.cid = some k →
    (d.host.act = none ∧ (∀ y ∈ d.ctrls, (y.vendor ≠ 1 ∧ (∀ r ∈ y.events, r.2.2.2 = true)) ∨ (y.aers = [] ∧ y.id ≠ x.cid)))
        →
    ∃ e, exec (.asynchronousEventRequest stamp) ⟨c, d, q⟩ = .next ⟨c, e, q⟩ ∧
      e.ctrls = mapIf (fun y => y.id == x.cid) (fun y => { y with aers := y.aers ++ [stamp] }) d.ctrls ∧
      e.host = { d.host with ctxs := mapIf (fun y => y.stamp == stamp) (fun y => { y with phase := .media }) d.host.ctxs } ∧
      e = { d with host := e.host, ctrls := e.ctrls }) ∧
  -- KEEP_ALIVE
  (∀ (c : Clock) (d : Dev) (q : List Instr) (stamp : Nat) (x : Ctx) (k : Ctrl),
    d.running stamp .keepAlive = some x →
    (x.mute = false ∧ x.posted = false) →
    d.ctrl x.cid = some k →
    ∃ e, exec (.keepAlive stamp) ⟨c, d, q⟩ = .next ⟨c, e, q⟩ ∧
      e.ctrls = mapIf (fun y => y.id == x.cid) (fun y => { y with kaTick := c.tick }) d.ctrls ∧
      Completed stamp x .success 0 0 [] d e ∧
      e.host = { d.host with ctxs := e.host.ctxs, posted := e.host.posted } ∧
      e = { d with host := e.host, ctrls := e.ctrls })

/-- Set Features, Get Features, Get Log Page and Identify. A clause about a command says what it does while it is in progress.
(R392, R394, R396, R399, R400, R402, R403, R405, R407, R631, R670, R673) -/
def Obligations.FeaturesLogsIdentify : Prop :=
  -- SET_FEATURES, power state
  (∀ (c : Clock) (d : Dev) (q : List Instr) (stamp v : Nat) (x : Ctx) (k : Ctrl),
    d.running stamp .setFeatures = some x →
    (x.mute = false ∧ x.posted = false) →
    d.ctrl x.cid = some k →
    (bit k.allRoles rOPERATOR = true ∧ v % 32 ≤ d.psMax) →
    ∃ e, exec (.setFeatures stamp 2 v) ⟨c, d, q⟩ = .next ⟨c, e, q⟩ ∧
      e.ctrls = mapIf (fun y => y.id == x.cid) (fun y =>
        { y with ps := v % 32, lastOp := if v % 32 ≤ 2 then v % 32 else y.lastOp }) d.ctrls ∧
      Completed stamp x .success 0 0 [] d e ∧
      e.host = { d.host with ctxs := e.host.ctxs, posted := e.host.posted } ∧
      e = { d with host := e.host, ctrls := e.ctrls }) ∧
  -- SET_FEATURES, number of queues
  (∀ (c : Clock) (d : Dev) (q : List Instr) (stamp v : Nat) (x : Ctx) (k : Ctrl),
    d.running stamp .setFeatures = some x →
    (x.mute = false ∧ x.posted = false) →
    d.ctrl x.cid = some k →
    (k.sqs = [] ∧ k.cqs = [] ∧ k.pairs = 1) →
    ∃ e, exec (.setFeatures stamp 7 v) ⟨c, d, q⟩ = .next ⟨c, e, q⟩ ∧
      Completed stamp x .success (min (max (v % 65536) (v / 65536 % 65536)) (min (k.cap - 1) d.pairsLeft) * 65537) 0 [] d e
        ∧
      (e.ctrl x.cid).map (fun y => y.pairs) = some (1 + min (max (v % 65536) (v / 65536 % 65536)) (min (k.cap - 1)
        d.pairsLeft)) ∧
      e.host = { d.host with ctxs := e.host.ctxs, posted := e.host.posted } ∧
      e = { d with host := e.host, ctrls := e.ctrls }) ∧
  -- SET_FEATURES, timestamp
  (∀ (c : Clock) (d : Dev) (q : List Instr) (stamp v : Nat) (x : Ctx) (k : Ctrl),
    d.running stamp .setFeatures = some x →
    (x.mute = false ∧ x.posted = false) →
    d.ctrl x.cid = some k →
    (bit k.allRoles rCUSTODIAN = true ∧ d.ledFull = false) →
    (d.refSrc ≠ 2 ∨ d.get Reg.MGMT_PTP_STS_STATE ≠ 3) →
    ∃ e, exec (.setFeatures stamp 14 v) ⟨c, d, q⟩ = .next ⟨c, e, q⟩ ∧
      e.host.tai = v * 1000000 + d.get Reg.MGMT_PTP_STS_UTC_OFS * 1000000000 - c.tick ∧
      e.get Reg.MGMT_PTP_STS_BASE_CHG = 1 ∧
      Entered c (d.whoOf x.cid rCUSTODIAN) 10 0 0 0 (sha (taiBytes false d.host.tai)) (sha (taiBytes false e.host.tai)) d e
        ∧
      (e.host.posted.any fun y => y.stamp == stamp && y.status == .success) = true ∧
      e.ctx stamp = none) ∧
  -- SET_FEATURES without the role
  (∀ (c : Clock) (d : Dev) (q : List Instr) (stamp fid v : Nat) (x : Ctx) (k : Ctrl) (r : Nat),
    d.running stamp .setFeatures = some x →
    (x.mute = false ∧ x.posted = false) →
    d.ctrl x.cid = some k →
    (fid = 2 ∨ fid = 14 ∨ fid = 17) →
    (featRole fid = some r ∧ bit k.allRoles r = false) →
    ∃ e, exec (.setFeatures stamp fid v) ⟨c, d, q⟩ = .next ⟨c, e, q⟩ ∧
      Completed stamp x .accessDenied 0 0 [] d e ∧
      e.host = { d.host with ctxs := e.host.ctxs, posted := e.host.posted } ∧
      e = { d with host := e.host }) ∧
  -- GET_FEATURES, power state
  (∀ (c : Clock) (d : Dev) (q : List Instr) (stamp : Nat) (x : Ctx) (k : Ctrl),
    d.running stamp .getFeatures = some x →
    (x.mute = false ∧ x.posted = false) →
    d.ctrl x.cid = some k →
    ∃ e, exec (.getFeatures stamp 2) ⟨c, d, q⟩ = .next ⟨c, e, q⟩ ∧
      Completed stamp x .success k.ps 0 [] d e ∧
      e.host = { d.host with ctxs := e.host.ctxs, posted := e.host.posted } ∧
      e = { d with host := e.host }) ∧
  -- GET_FEATURES of an unknown feature
  (∀ (c : Clock) (d : Dev) (q : List Instr) (stamp fid : Nat) (x : Ctx) (k : Ctrl),
    d.running stamp .getFeatures = some x →
    (x.mute = false ∧ x.posted = false) →
    d.ctrl x.cid = some k →
    featKnown fid = false →
    ∃ e, exec (.getFeatures stamp fid) ⟨c, d, q⟩ = .next ⟨c, e, q⟩ ∧
      Completed stamp x .invalidField 0 0 [] d e ∧
      e.host = { d.host with ctxs := e.host.ctxs, posted := e.host.posted } ∧
      e = { d with host := e.host }) ∧
  -- GET_LOG_PAGE of the fault records, with RAE 0
  (∀ (c : Clock) (d : Dev) (q : List Instr) (stamp lsp lsi ofst len : Nat) (x : Ctx) (k : Ctrl),
    d.running stamp .getLogPage = some x →
    (x.mute = false ∧ x.posted = false) →
    d.ctrl x.cid = some k →
    (d.pwr.mode ≠ .recovery ∧ ofst ≤ d.flt.page.length) →
    ∃ e, exec (.getLogPage stamp 0xC1 lsp lsi ofst len false) ⟨c, d, q⟩ = .next ⟨c, e, q⟩ ∧
      e.flt = d.flt.ackSpan ofst len ∧
      e.ctrls = mapIf (fun y => y.id == x.cid) (fun y => { y with vendor := 0 }) d.ctrls ∧
      Completed stamp x .success 0 0 (slice d.flt.page ofst len) d e ∧
      e.host = { d.host with ctxs := e.host.ctxs, posted := e.host.posted } ∧
      e = { d with host := e.host, ctrls := e.ctrls, flt := e.flt }) ∧
  -- GET_LOG_PAGE of the decks, with RAE 1
  (∀ (c : Clock) (d : Dev) (q : List Instr) (stamp lsp lsi ofst len : Nat) (x : Ctx) (k : Ctrl),
    d.running stamp .getLogPage = some x →
    (x.mute = false ∧ x.posted = false) →
    d.ctrl x.cid = some k →
    (d.pwr.mode ≠ .recovery ∧ ofst ≤ 512) →
    ∃ e, exec (.getLogPage stamp 0xC2 lsp lsi ofst len true) ⟨c, d, q⟩ = .next ⟨c, e, q⟩ ∧
      Completed stamp x .success 0 0 (slice ((List.range 16).flatMap (deckEntry d)) ofst len) d e ∧
      e.host = { d.host with ctxs := e.host.ctxs, posted := e.host.posted } ∧
      e = { d with host := e.host }) ∧
  -- GET_LOG_PAGE of a page that is not supported
  (∀ (c : Clock) (d : Dev) (q : List Instr) (stamp lid lsp lsi ofst len : Nat) (rae : Bool) (x : Ctx) (k : Ctrl),
    d.running stamp .getLogPage = some x →
    (x.mute = false ∧ x.posted = false) →
    d.ctrl x.cid = some k →
    lid ∉ [1, 2, 3, 4, 5, 0x70, 0x81, 0xBF, 0xC0, 0xC1, 0xC2, 0xC3] →
    ∃ e, exec (.getLogPage stamp lid lsp lsi ofst len rae) ⟨c, d, q⟩ = .next ⟨c, e, q⟩ ∧
      Completed stamp x .invalidLogPage 0 0 [] d e ∧
      e.host = { d.host with ctxs := e.host.ctxs, posted := e.host.posted } ∧
      e = { d with host := e.host }) ∧
  -- IDENTIFY, controller
  (∀ (c : Clock) (d : Dev) (q : List Instr) (stamp nsid : Nat) (x : Ctx) (k : Ctrl),
    d.running stamp .identify = some x →
    (x.mute = false ∧ x.posted = false) →
    d.ctrl x.cid = some k →
    ∃ e, exec (.identify stamp 1 nsid) ⟨c, d, q⟩ = .next ⟨c, e, q⟩ ∧
      Completed stamp x .success 0 0 (identifyCtrl c d k) d e ∧
      e.host = { d.host with ctxs := e.host.ctxs, posted := e.host.posted } ∧
      e = { d with host := e.host }) ∧
  -- IDENTIFY, namespace
  (∀ (c : Clock) (d : Dev) (q : List Instr) (stamp nsid : Nat) (x : Ctx) (k : Ctrl) (b : BindRec) (s : StripeRec),
    d.running stamp .identify = some x →
    (x.mute = false ∧ x.posted = false) →
    d.ctrl x.cid = some k →
    (d.sees k nsid = true ∧ d.bound nsid = some (b, s)) →
    ∃ e, exec (.identify stamp 0 nsid) ⟨c, d, q⟩ = .next ⟨c, e, q⟩ ∧
      Completed stamp x .success 0 0 (identifyNs d b s) d e ∧
      e.host = { d.host with ctxs := e.host.ctxs, posted := e.host.posted } ∧
      e = { d with host := e.host }) ∧
  -- IDENTIFY, a zoned namespace's own structure
  (∀ (c : Clock) (d : Dev) (q : List Instr) (stamp nsid : Nat) (x : Ctx) (k : Ctrl) (b : BindRec) (s : StripeRec),
    d.running stamp .identify = some x →
    (x.mute = false ∧ x.posted = false) →
    d.ctrl x.cid = some k →
    (d.sees k nsid = true ∧ d.bound nsid = some (b, s) ∧ b.zoned = true) →
    ∃ e, exec (.identify stamp 5 nsid) ⟨c, d, q⟩ = .next ⟨c, e, q⟩ ∧
      Completed stamp x .success 0 0 (identifyZns b s) d e ∧
      e.host = { d.host with ctxs := e.host.ctxs, posted := e.host.posted } ∧
      e = { d with host := e.host }) ∧
  -- IDENTIFY, namespace not visible
  (∀ (c : Clock) (d : Dev) (q : List Instr) (stamp nsid : Nat) (x : Ctx) (k : Ctrl),
    d.running stamp .identify = some x →
    (x.mute = false ∧ x.posted = false) →
    d.ctrl x.cid = some k →
    d.sees k nsid = false →
    ∃ e, exec (.identify stamp 0 nsid) ⟨c, d, q⟩ = .next ⟨c, e, q⟩ ∧
      Completed stamp x .invalidNamespace 0 0 [] d e ∧
      e.host = { d.host with ctxs := e.host.ctxs, posted := e.host.posted } ∧
      e = { d with host := e.host })

/-- Firmware images: download, commit and activation. A clause about a command says what it does while it is in progress.
(R397, R427, R428, R643, R644, R657, R668, 13_command_execution.md) -/
def Obligations.FirmwareActivation : Prop :=
  -- FIRMWARE_IMAGE_DOWNLOAD
  (∀ (c : Clock) (d : Dev) (q : List Instr) (stamp ofst : Nat) (piece : List Byte) (x : Ctx) (k : Ctrl),
    d.running stamp .fwDownload = some x →
    (x.mute = false ∧ x.posted = false) →
    d.ctrl x.cid = some k →
    (d.host.fwPieces.any fun p => pieceOverlaps p (ofst, piece)) = false →
    ∃ e, exec (.firmwareImageDownload stamp ofst piece) ⟨c, d, q⟩ = .next ⟨c, e, q⟩ ∧
      e.host.fwPieces = d.host.fwPieces ++ [(ofst, piece)] ∧
      Completed stamp x .success 0 0 [] d e ∧
      e.host = { d.host with ctxs := e.host.ctxs, posted := e.host.posted, fwPieces := e.host.fwPieces } ∧
      e = { d with host := e.host }) ∧
  -- FIRMWARE_COMMIT of a stored image, for the next reset
  (∀ (c : Clock) (d : Dev) (q : List Instr) (stamp slot : Nat) (x : Ctx) (k : Ctrl),
    d.running stamp .fwCommit = some x →
    (x.mute = false ∧ x.posted = false) →
    d.ctrl x.cid = some k →
    (slot = 1 ∨ slot = 2) →
    (d.host.fwPieces = [] ∧ d.ledFull = false ∧ d.led.bad = false) →
    ∃ e, exec (.firmwareCommit stamp slot 2) ⟨c, d, q⟩ = .next ⟨c, e, q⟩ ∧
      ((verifyImage d true (d.fwImage slot)).isSome = false → e.flash = { d.flash with fwSel := selTo d.flash.fwSel slot })
        ∧
      ((verifyImage d true (d.fwImage slot)).isSome = false → Entered c (d.whoOf x.cid rCUSTODIAN) 4 0 2 slot (sha
        (d.fwImage slot)) (sha (d.fwImage slot)) d e) ∧
      ((verifyImage d true (d.fwImage slot)).isSome = true → Entered c (d.whoOf x.cid rCUSTODIAN) 4 1 2 slot (sha
        (d.fwImage slot)) (sha (d.fwImage slot)) d e) ∧
      ((verifyImage d true (d.fwImage slot)).isSome = true → e.flash = d.flash) ∧
      Completed stamp x (if (verifyImage d true (d.fwImage slot)).isSome then .invalidImage else .success) 0 0 [] d e ∧
      e.host = { d.host with ctxs := e.host.ctxs, posted := e.host.posted } ∧
      e = { d with host := e.host, led := e.led, flash := e.flash, regs := e.regs } ∧
      RegsOnly [Reg.SEC_LEDGER_STS_BUFFERED, Reg.SEC_LEDGER_STS_FULL, Reg.SEC_LEDGER_STS_FIRST_CP,
        Reg.SEC_LEDGER_SEQ_SEQ_LO] d e) ∧
  -- FIRMWARE_COMMIT that activates
  (∀ (c : Clock) (d : Dev) (q : List Instr) (stamp : Nat) (x : Ctx) (k : Ctrl),
    d.running stamp .fwCommit = some x →
    (x.mute = false ∧ x.posted = false) →
    d.ctrl x.cid = some k →
    (d.host.fwPieces = [] ∧ d.ledFull = false ∧ d.led.bad = false ∧ d.reload = none ∧ d.host.act = none) →
    ∃ e, exec (.firmwareCommit stamp 2 3) ⟨c, d, q⟩ = .next ⟨c, e, q⟩ ∧
      ((verifyImage d true d.flash.fw2).isSome = false → e.host.act = some { stamp := stamp, start := c.tick, step := 1 }) ∧
      ((verifyImage d true d.flash.fw2).isSome = false → e.get Reg.HQ_INTAKE_STS_STOPPED = 1 ∧ e.get Reg.HQ_INTAKE_STS_ACT
        = 1) ∧
      ((verifyImage d true d.flash.fw2).isSome = true → e.host.act = none)) ∧
  -- FIRMWARE_COMMIT into slot 1
  (∀ (c : Clock) (d : Dev) (q : List Instr) (stamp : Nat) (x : Ctx) (k : Ctrl),
    d.running stamp .fwCommit = some x →
    (x.mute = false ∧ x.posted = false) →
    d.ctrl x.cid = some k →
    ∃ e, exec (.firmwareCommit stamp 1 0) ⟨c, d, q⟩ = .next ⟨c, e, q⟩ ∧
      Completed stamp x .invalidSlot 0 0 [] d e ∧
      e.host = { d.host with ctxs := e.host.ctxs, posted := e.host.posted } ∧
      e = { d with host := e.host }) ∧
  -- FW_DRAIN_END
  (∀ (c : Clock) (d : Dev) (q : List Instr) (a : ActNow),
    (d.host.act = some a ∧ a.step = 1 ∧ d.drained = true) →
    ∃ e, exec (.fwDrainEnd) ⟨c, d, q⟩ = .next ⟨c, e, q⟩ ∧
      e.host = { d.host with act := some { a with step := 2 } } ∧
      e = { d with host := e.host }) ∧
  -- FW_DRAIN_TIMEOUT
  (∀ (c : Clock) (d : Dev) (q : List Instr) (a : ActNow) (x : Ctx),
    (d.host.act = some a ∧ a.step = 1 ∧ a.start + 150 * tickMs ≤ c.tick ∧ d.ctx a.stamp = some x ∧ x.mute = false ∧
        x.posted = false) →
    (∀ y ∈ d.ctrls, y.aers = []) →
    ∃ e, exec (.fwDrainTimeout) ⟨c, d, q⟩ = .next ⟨c, e, q⟩ ∧
      e.host.act = none ∧ e.get Reg.HQ_INTAKE_STS_STOPPED = ofB (d.get Reg.MEM_STS_CH_FAIL != 0) ∧ e.get
        Reg.HQ_INTAKE_STS_ACT = 0 ∧
      e.host.fwSlot = d.host.fwSlot ∧
      Answered a.stamp x .activationTime 0 0 [] e) ∧
  -- FW_NEW_READY
  (∀ (c : Clock) (d : Dev) (q : List Instr) (a : ActNow) (x : Ctx),
    (d.host.act = some a ∧ a.step = 2 ∧ d.ctx a.stamp = some x ∧ x.mute = false ∧ x.posted = false) →
    (∀ y ∈ d.ctrls, y.aers = []) →
    ∃ e, exec (.fwNewReady) ⟨c, d, q⟩ = .next ⟨c, e, q⟩ ∧
      e.host.act = none ∧ e.get Reg.HQ_INTAKE_STS_STOPPED = ofB (d.get Reg.MEM_STS_CH_FAIL != 0) ∧ e.get
        Reg.HQ_INTAKE_STS_ACT = 0 ∧
      e.host.fwSlot = x.dw0 ∧
      Answered a.stamp x .success 0 0 [] e ∧
      (∀ y ∈ e.ctrls, y.kaTick = c.tick)) ∧
  -- FW_READY_TIMEOUT
  (∀ (c : Clock) (d : Dev) (q : List Instr) (a : ActNow) (x : Ctx),
    (d.host.act = some a ∧ a.step = 2 ∧ a.start + 450 * tickMs ≤ c.tick ∧ d.ctx a.stamp = some x ∧ x.mute = false ∧
        x.posted = false) →
    (∀ y ∈ d.ctrls, y.aers = []) →
    ∃ e, exec (.fwReadyTimeout) ⟨c, d, q⟩ = .next ⟨c, e, q⟩ ∧
      e.host.act = none ∧ e.get Reg.HQ_INTAKE_STS_STOPPED = ofB (d.get Reg.MEM_STS_CH_FAIL != 0) ∧ e.get
        Reg.HQ_INTAKE_STS_ACT = 0 ∧
      e.host.fwSlot = d.host.fwSlot ∧
      Answered a.stamp x .invalidImage 0 0 [] e)

/-- Fabric associations, their properties, authentication and loss. A clause about a command says what it does while it is in
progress. (R388, R390, R394, R396, R397, R403, R408, R426, R627, R629, R641, 12_host_attachment.md) -/
def Obligations.FabricControllers : Prop :=
  -- FABRICS_CONNECT of an admin queue
  (∀ (c : Clock) (d : Dev) (q : List Instr) (transport : Fin 3) (p sub : Fin 4) (nqn : List Byte) (discovery authed : Bool)
        (cid tls alert : Nat),
    (d.ethUp p sub = true ∧ d.booted = true ∧ d.plait.isSome = true ∧ d.domOn 5 = true) →
    (d.pwr.mode = .run ∧ d.pwr.entry = 0) →
    (tls ≤ 1 ∧ (d.tlsReq p sub = false ∨ tls = 1) ∧ (tls = 0 ∨ d.get Reg.SEC_STS_STATE ≠ 3)) →
    (d.ctrls.length < 2048 ∧ d.ctrl d.freeCid = none) →
    ∃ e, exec (.fabricsConnect transport p sub nqn discovery cid 0 tls alert authed) ⟨c, d, q⟩ = .next ⟨c, e, q⟩ ∧
      e.ctrls = d.ctrls ++ [Ctrl.withPolicy (match d.plait with | some z => z.policy | none => [])
        { id := d.freeCid, kind := 2, transport := transport, port := 2 + 4 * p.val + sub.val, discovery := discovery, nqn
            := slice nqn 0 48, authed := authed || tls == 1, tls := tls == 1, kaTick := c.tick }] ∧
      e = { d with ctrls := e.ctrls }) ∧
  -- FABRICS_CONNECT of an I/O queue
  (∀ (c : Clock) (d : Dev) (q : List Instr) (transport : Fin 3) (p sub : Fin 4) (nqn : List Byte) (discovery authed : Bool)
        (cid qid tls alert : Nat) (k : Ctrl),
    (d.ethUp p sub = true ∧ d.booted = true ∧ d.plait.isSome = true ∧ d.domOn 5 = true) →
    (d.pwr.mode = .run ∧ d.pwr.entry = 0) →
    (tls ≤ 1 ∧ (d.tlsReq p sub = false ∨ tls = 1) ∧ (tls = 0 ∨ d.get Reg.SEC_STS_STATE ≠ 3)) →
    (qid ≠ 0 ∧ d.ctrl cid = some k ∧ k.kind = 2 ∧ k.ready = true ∧ k.nqn = slice nqn 0 48 ∧ qid ≤ k.pairs ∧ (k.sqs.any fun
        y => y.1 == qid) = false) →
    ((d.ctrls.map (fun y => if y.kind = 2 then y.sqs.length else 0)).sum) < 16384 →
    ∃ e, exec (.fabricsConnect transport p sub nqn discovery cid qid tls alert authed) ⟨c, d, q⟩ = .next ⟨c, e, q⟩ ∧
      e.ctrls = mapIf (fun y => y.id == cid) (fun y => { y with sqs := y.sqs ++ [(qid, qid)], cqs := y.cqs ++ [(qid, 0)] })
        d.ctrls ∧
      e = { d with ctrls := e.ctrls }) ∧
  -- PROPERTY_GET
  (∀ (c : Clock) (d : Dev) (q : List Instr) (stamp off : Nat) (x : Ctx) (k : Ctrl),
    d.running stamp .propertyGet = some x →
    (x.mute = false ∧ x.posted = false) →
    d.ctrl x.cid = some k →
    k.kind = 2 →
    ∃ e, exec (.propertyGet stamp off) ⟨c, d, q⟩ = .next ⟨c, e, q⟩ ∧
      Completed stamp x .success (ctrlProp k off % 2 ^ 32) (ctrlProp k off / 2 ^ 32) [] d e ∧
      e.host = { d.host with ctxs := e.host.ctxs, posted := e.host.posted } ∧
      e = { d with host := e.host }) ∧
  -- PROPERTY_SET that enables
  (∀ (c : Clock) (d : Dev) (q : List Instr) (stamp v : Nat) (x : Ctx) (k : Ctrl),
    d.running stamp .propertySet = some x →
    (x.mute = false ∧ x.posted = false) →
    d.ctrl x.cid = some k →
    (k.kind = 2 ∧ v % 2 = 1) →
    ∃ e, exec (.propertySet stamp 0x14 v) ⟨c, d, q⟩ = .next ⟨c, e, q⟩ ∧
      e.ctrls = mapIf (fun y => y.id == x.cid) (fun y =>
        { y with props := y.props.ins 0x14 v, enabled := true, ready := d.booted, kaTick := c.tick }) d.ctrls ∧
      Completed stamp x .success 0 0 [] d e ∧
      e.host = { d.host with ctxs := e.host.ctxs, posted := e.host.posted } ∧
      e = { d with host := e.host, ctrls := e.ctrls }) ∧
  -- AUTHENTICATION_SEND that ends well
  (∀ (c : Clock) (d : Dev) (q : List Instr) (stamp : Nat) (x : Ctx) (k : Ctrl),
    d.running stamp .authSend = some x →
    (x.mute = false ∧ x.posted = false) →
    d.ctrl x.cid = some k →
    k.kind = 2 →
    ∃ e, exec (.authenticationSend stamp 1) ⟨c, d, q⟩ = .next ⟨c, e, q⟩ ∧
      e.ctrls = (mapIf (fun y => y.id == x.cid) (fun y => { y with authed := true }) d.ctrls).map (fun y => if y.kind = 3
        then y else Ctrl.withPolicy (match d.plait with | some z => z.policy | none => []) y) ∧
      Completed stamp x .success 0 0 [] d e ∧
      e.host = { d.host with ctxs := e.host.ctxs, posted := e.host.posted } ∧
      e = { d with host := e.host, ctrls := e.ctrls }) ∧
  -- AUTHENTICATION_RECEIVE
  (∀ (c : Clock) (d : Dev) (q : List Instr) (stamp : Nat) (x : Ctx) (k : Ctrl),
    d.running stamp .authReceive = some x →
    (x.mute = false ∧ x.posted = false) →
    d.ctrl x.cid = some k →
    k.kind = 2 →
    ∃ e, exec (.authenticationReceive stamp) ⟨c, d, q⟩ = .next ⟨c, e, q⟩ ∧
      e.sec = { d.sec with drawn := d.sec.drawn + 1 } ∧
      Completed stamp x .success 0 0 (d.draw 48).1 d e ∧
      e.host = { d.host with ctxs := e.host.ctxs, posted := e.host.posted } ∧
      e = { d with host := e.host, sec := e.sec }) ∧
  -- FABRIC_CONNECTION_LOSS
  (∀ (c : Clock) (d : Dev) (q : List Instr) (cid : Nat) (k : Ctrl),
    (d.ctrl cid = some k ∧ k.kind = 2) →
    (∀ y ∈ d.ctrls, y.id = cid → y = k) →
    ∃ e, exec (.fabricConnectionLoss cid) ⟨c, d, q⟩ = .next ⟨c, e, q⟩ ∧
      ((e.ctrls.map fun y => y.id) = (d.ctrls.filter (fun y => y.id != cid)).map fun y => y.id) ∧
      (∀ y ∈ e.host.ctxs, y.cid = cid → y.mute = true) ∧
      (∀ y ∈ e.sec.sessions, y.transport = 0 → y.owner ≠ cid) ∧
      e.get (Reg.HQ_CTL_BUDGET_INFLIGHT.sel cid) = 4096 ∧ e.get (Reg.HQ_CTL_BUDGET_BW_SHARE.sel cid) = 0)

/-- Controllers enabled and reset, PCIe and Ethernet links, PTP. Commands of a controller that is reset end by their phase.
(R383, R387, R391, R392, R394, R396, R408, R426, R432, R660, R675, 12_host_attachment.md) -/
def Obligations.ControllersAndLinks : Prop :=
  -- CONTROLLER_ENABLE of a physical function
  (∀ (c : Clock) (d : Dev) (q : List Instr) (link : Fin 2) (k : Ctrl),
    (bit d.host.links link.val = true ∧ d.domOn 4 = true ∧ (link = 0 ∨ d.host.split = true)) →
    d.pwr.mode = .run →
    (d.ctrl (1 + link.val) = some k ∧ (d.sec.sessions = []) ∧ (∀ y ∈ d.ctrls, y.sessRoles = 0)) →
    ∃ e, exec (.controllerEnable link 0) ⟨c, d, q⟩ = .next ⟨c, e, q⟩ ∧
      e.ctrls = mapIf (fun y => y.id == 1 + link.val) (fun y =>
        { y with enabled := true, ready := d.booted, kaTick := c.tick }) d.ctrls ∧
      e = { d with ctrls := e.ctrls, regs := e.regs } ∧
      RegsOnly [Reg.SEC_STS_SESSIONS] d e) ∧
  -- CONTROLLER_RESET of a PCIe controller without commands
  (∀ (c : Clock) (d : Dev) (q : List Instr) (cid : Nat) (k : Ctrl),
    (d.ctrl cid = some k ∧ k.kind ≤ 1) →
    (∀ y ∈ d.host.ctxs, y.cid ≠ cid) →
    ∃ e, exec (.controllerReset cid) ⟨c, d, q⟩ = .next ⟨c, e, q⟩ ∧
      e.ctrls = mapIf (fun y => y.id == cid) (fun y =>
        { y with enabled := false, ready := false, fatal := y.fatal && d.mstate == mFAILED, sqs := [], cqs := [], pairs :=
                   1, aers := [], vendor := if y.vendor = 2 then 1 else y.vendor, events := y.events.map (fun r => (r.1,
                   r.2.1, r.2.2.1, false)), feats := [], props := [], ps := 0, lastOp := 0, shadow := none }) d.ctrls ∧
      e = { d with ctrls := e.ctrls }) ∧
  -- CONTROLLER_RESET with a command held and another staged
  (∀ (c : Clock) (d : Dev) (q : List Instr) (cid : Nat) (k : Ctrl) (x y : Ctx),
    (d.ctrl cid = some k ∧ k.kind ≤ 1) →
    (d.host.ctxs = [x, y] ∧ x.cid = cid ∧ y.cid = cid ∧ x.stamp ≠ y.stamp) →
    (x.phase = .held ∧ x.why = 0 ∧ y.cmd.op = .write ∧ y.phase = .staged) →
    d.jobs = [] →
    ∃ e, exec (.controllerReset cid) ⟨c, d, q⟩ = .next ⟨c, e, q⟩ ∧
      e.host.ctxs = [{ y with mute := true }] ∧
      e.host.posted = d.host.posted ∧
      e = { d with ctrls := e.ctrls, host := e.host }) ∧
  -- NVM_SUBSYSTEM_RESET
  (∀ (c : Clock) (d : Dev) (q : List Instr),
    (d.host.ctxs = [] ∧ (d.ctrls.map fun y => y.id).Nodup) →
    ∃ e, exec (.nvmSubsystemReset) ⟨c, d, q⟩ = .next ⟨c, e, q⟩ ∧
      ((e.ctrls.map fun y => y.id) = (d.ctrls.filter (fun y => y.kind != 2)).map fun y => y.id) ∧
      (∀ y ∈ e.ctrls, y.kind ≤ 1 → y.enabled = false ∧ y.ready = false ∧ y.sqs = [] ∧ y.cqs = [] ∧ y.pairs = 1) ∧
      e.decks = d.decks ∧ e.plait = d.plait ∧ e.led = d.led ∧ e.flt = d.flt ∧ e.mem = d.mem) ∧
  -- KEEP_ALIVE_EXPIRY
  (∀ (c : Clock) (d : Dev) (q : List Instr) (cid : Nat) (k : Ctrl),
    (d.ctrl cid = some k ∧ k.kind ≤ 1 ∧ k.kato ≠ 0 ∧ k.kaTick + k.kato ≤ c.tick ∧ d.host.act = none) →
    (∀ y ∈ d.host.ctxs, y.cid ≠ cid) →
    ∃ e, exec (.keepAliveExpiry cid) ⟨c, d, q⟩ = .next ⟨c, e, q⟩ ∧
      (e.ctrl cid).map (fun y => (y.enabled, y.ready, y.pairs)) = some (false, false, 1) ∧
      (∀ y, y ≠ cid → e.ctrl y = d.ctrl y) ∧
      e = { d with ctrls := e.ctrls }) ∧
  -- PCIE_LINK_DOWN
  (∀ (c : Clock) (d : Dev) (q : List Instr) (link : Fin 2),
    d.host.ctxs = [] →
    ∃ e, exec (.pcieLinkDown link) ⟨c, d, q⟩ = .next ⟨c, e, q⟩ ∧
      e.host = { d.host with links := clrBit d.host.links link.val } ∧
      (∀ y ∈ e.ctrls, y.kind ≤ 1 → y.link = link.val → y.enabled = false ∧ y.ready = false) ∧
      ((e.ctrls.map fun y => y.id) = d.ctrls.map fun y => y.id) ∧
      e = { d with host := e.host, ctrls := e.ctrls }) ∧
  -- PERST_RELEASE
  (∀ (c : Clock) (d : Dev) (q : List Instr) (links : Fin 4),
    d.domOn 4 = true →
    ∃ e, exec (.perstRelease links) ⟨c, d, q⟩ = .next ⟨c, e, q⟩ ∧
      e.host = { d.host with perst := true, links := links % (if d.host.split then 4 else 2) } ∧
      e = { d with host := e.host }) ∧
  -- ETH_LINK_CHANGE
  (∀ (c : Clock) (d : Dev) (q : List Instr) (p sub : Fin 4) (up : Bool),
    (up = false ∨ (d.getB (Reg.MGMT_ETH_CFG_EN p) = true ∧ sub.val < subPorts (d.get (Reg.MGMT_ETH_CFG_MODE p)))) →
    d.get (Reg.MGMT_ETH_CFG_LINK p) < 16 →
    ∃ e, exec (.ethLinkChange p sub up) ⟨c, d, q⟩ = .next ⟨c, e, q⟩ ∧
      bit (e.get (Reg.MGMT_ETH_CFG_LINK p)) sub.val = up ∧
      (∀ k : Fin 4, k ≠ sub → bit (e.get (Reg.MGMT_ETH_CFG_LINK p)) k.val = bit (d.get (Reg.MGMT_ETH_CFG_LINK p)) k.val) ∧
      e = { d with regs := e.regs } ∧
      RegsOnly [Reg.MGMT_ETH_CFG_LINK p] d e) ∧
  -- PTP_MESSAGE while PTP is not the reference
  (∀ (c : Clock) (d : Dev) (q : List Instr) (st : Fin 4) (ofs : Int) (utc tai : Nat),
    (d.ptpOn = true ∧ d.refSrc ≠ 2 ∧ st ≠ 0) →
    ∃ e, exec (.ptpMessage st ofs utc tai) ⟨c, d, q⟩ = .next ⟨c, e, q⟩ ∧
      e.get Reg.MGMT_PTP_STS_STATE = st.val ∧ e.get Reg.MGMT_PTP_STS_UTC_OFS = utc % 2 ^ Reg.MGMT_PTP_STS_UTC_OFS.w ∧
      e.getI Reg.MGMT_PTP_STS_OFFSET = clampI (-2048) 2047 (Config.rnd ofs 10) ∧
      e.misc = { d.misc with ptpSeen := d.misc.ptpSeen || st == 3 } ∧
      e = { d with regs := e.regs, misc := e.misc } ∧
      RegsOnly [Reg.MGMT_PTP_STS_STATE, Reg.MGMT_PTP_STS_UTC_OFS, Reg.MGMT_PTP_STS_OFFSET] d e) ∧
  -- PTP_MESSAGE, first time as time receiver
  (∀ (c : Clock) (d : Dev) (q : List Instr) (ofs : Int) (utc tai : Nat),
    (d.ptpOn = true ∧ d.refSrc = 2 ∧ d.misc.ptpSeen = false ∧ d.ledFull = false) →
    ∃ e, exec (.ptpMessage 3 ofs utc tai) ⟨c, d, q⟩ = .next ⟨c, e, q⟩ ∧
      e.host.tai = tai - c.tick ∧
      e.get Reg.MGMT_PTP_STS_BASE_CHG = 1 ∧ e.get Reg.MGMT_PTP_STS_STATE = 3) ∧
  -- PTP_TIMEOUT
  (∀ (c : Clock) (d : Dev) (q : List Instr),
    ∃ e, exec (.ptpTimeout) ⟨c, d, q⟩ = .next ⟨c, e, q⟩ ∧
      e.get Reg.MGMT_PTP_STS_STATE = (if d.get Reg.MGMT_PTP_STS_STATE = 3 then 4 else if d.get Reg.MGMT_PTP_STS_STATE = 2
        then 1 else d.get Reg.MGMT_PTP_STS_STATE) ∧
      e = { d with regs := e.regs } ∧
      RegsOnly [Reg.MGMT_PTP_STS_STATE] d e)

/-- SPDM requests and sessions, taking ownership and Custodian entries. A clause about a command says what it does while it is
in progress. The engine offers services in READY. (R626, R627, R628, R630, R634, R635, R636, R644, R653,
19_security_and_ledger.md) -/
def Obligations.SessionsAndOwnership : Prop :=
  -- SECURITY_SEND of an SPDM request
  (∀ (c : Clock) (d : Dev) (q : List Instr) (stamp : Nat) (r : SpdmReq) (x : Ctx) (k : Ctrl),
    d.running stamp .securitySend = some x →
    (x.mute = false ∧ x.posted = false) →
    d.ctrl x.cid = some k →
    (d.secReady = true ∧ (r = .digests ∨ r = .certificate 0 ∨ r = .certificate 1)) →
    ∃ e, exec (.securitySend stamp 0xE8 r) ⟨c, d, q⟩ = .next ⟨c, e, q⟩ ∧
      e.misc = { d.misc with spdmOut := (if r = .digests then sha (Config.certChain 0) ++ sha (Config.certChain 1) else if
                               r = .certificate 0 then Config.certChain 0 else Config.certChain 1), spdmErr := false } ∧
      Completed stamp x .success 0 0 [] d e ∧
      e.host = { d.host with ctxs := e.host.ctxs, posted := e.host.posted } ∧
      e = { d with host := e.host, misc := e.misc }) ∧
  -- SECURITY_SEND of another protocol
  (∀ (c : Clock) (d : Dev) (q : List Instr) (stamp : Nat) (proto : Fin 256) (r : SpdmReq) (x : Ctx) (k : Ctrl),
    d.running stamp .securitySend = some x →
    (x.mute = false ∧ x.posted = false) →
    d.ctrl x.cid = some k →
    proto ≠ 0xE8 →
    ∃ e, exec (.securitySend stamp proto r) ⟨c, d, q⟩ = .next ⟨c, e, q⟩ ∧
      Completed stamp x .invalidField 0 0 [] d e ∧
      e.host = { d.host with ctxs := e.host.ctxs, posted := e.host.posted } ∧
      e = { d with host := e.host }) ∧
  -- SECURITY_RECEIVE
  (∀ (c : Clock) (d : Dev) (q : List Instr) (stamp len : Nat) (x : Ctx) (k : Ctrl),
    d.running stamp .securityReceive = some x →
    (x.mute = false ∧ x.posted = false) →
    d.ctrl x.cid = some k →
    ∃ e, exec (.securityReceive stamp 0xE8 len) ⟨c, d, q⟩ = .next ⟨c, e, q⟩ ∧
      Completed stamp x .success 0 0 (slice d.misc.spdmOut 0 len) d e ∧
      e.host = { d.host with ctxs := e.host.ctxs, posted := e.host.posted } ∧
      e = { d with host := e.host }) ∧
  -- SPDM_MESSAGE that exchanges keys
  (∀ (c : Clock) (d : Dev) (q : List Instr) (owner : Nat) (digest : List Byte),
    (d.secReady = true ∧ d.pwr.mode = .run ∧ d.sec.sessions.length < 8) →
    (d.ledFull = false ∧ d.led.bad = false) →
    ∃ e, exec (.spdmMessage 1 owner (.keyExchange digest true)) ⟨c, d, q⟩ = .next ⟨c, e, q⟩ ∧
      e.sec.sessions = d.sec.sessions ++ [{ id := 1 + (d.sec.sessions.map (fun s => s.id)).foldl max 0, transport := 1,
                                              owner := owner, digest := slice digest 0 48, verified := true, roles :=
                                              d.chainRoles (slice digest 0 48), beat := c.tick }] ∧
      e.get Reg.SEC_STS_SESSIONS = (d.sec.sessions.length + 1) % 2 ^ Reg.SEC_STS_SESSIONS.w ∧
      e.misc.spdmErr = false ∧
      e.plait = d.plait ∧ e.decks = d.decks ∧ e.host = d.host) ∧
  -- SPDM_MESSAGE while the engine is not READY
  (∀ (c : Clock) (d : Dev) (q : List Instr) (transport : Fin 5) (owner : Nat) (r : SpdmReq),
    (d.secReady = false ∧ d.pwr.mode = .run ∧ d.pwr.entry = 0) →
    ∃ e, exec (.spdmMessage transport owner r) ⟨c, d, q⟩ = .next ⟨c, e, q⟩ ∧
      e.misc = { d.misc with spdmOut := [], spdmErr := true } ∧
      e = { d with misc := e.misc }) ∧
  -- SPDM_HEARTBEAT_TIMEOUT
  (∀ (c : Clock) (d : Dev) (q : List Instr) (sid : Nat),
    (∀ s ∈ d.sec.sessions, s.id = sid → s.beat + 60 * tickS ≤ c.tick) →
    ∃ e, exec (.spdmHeartbeatTimeout sid) ⟨c, d, q⟩ = .next ⟨c, e, q⟩ ∧
      e.sec.sessions = d.sec.sessions.filter (fun s => s.id != sid) ∧
      (∀ k ∈ e.ctrls, k.kind ≤ 2 → k.sessRoles = e.sessionRoles 0 k.id ||| (if k.kind = 0 then e.sessionRoles 1 k.link else
        0)) ∧
      e.host = d.host ∧ e.decks = d.decks ∧ e.led = d.led) ∧
  -- TAKE_OWNERSHIP
  (∀ (c : Clock) (d : Dev) (q : List Instr) (sid : Nat) (s : Session),
    (d.sec.sessions.find? (fun s => s.id == sid) = some s ∧ d.secReady = true ∧ s.verified = true) →
    (s.transport = 1 ∨ s.transport = 2 ∨ s.transport = 3) →
    ((d.sec.custodians.all fun a => a.isNone) = true ∧ d.sec.custodians.length = 4 ∧ d.ledFull = false ∧ d.led.bad = false)
        →
    ∃ e, exec (.takeOwnership sid) ⟨c, d, q⟩ = .next ⟨c, e, q⟩ ∧
      e.sec.custodians = [some s.digest, none, none, none] ∧
      e.sec.sessions = mapIf (fun y => y.id == sid) (fun y => { y with roles := setBit y.roles rCUSTODIAN }) d.sec.sessions
        ∧
      e.get Reg.SEC_STS_OWNED = 1 ∧ e.misc.spdmErr = false ∧
      Entered c (d.sessWho s) 6 0 1 0 zeros48 (sha s.digest) d e) ∧
  -- TAKE_OWNERSHIP of an owned module
  (∀ (c : Clock) (d : Dev) (q : List Instr) (sid : Nat),
    (d.sec.custodians.all fun a => a.isNone) = false →
    ∃ e, exec (.takeOwnership sid) ⟨c, d, q⟩ = .next ⟨c, e, q⟩ ∧
      e.misc = { d.misc with spdmOut := [], spdmErr := true } ∧
      e = { d with misc := e.misc }) ∧
  -- CUST_SET
  (∀ (c : Clock) (d : Dev) (q : List Instr) (sid : Nat) (entry : Fin 4) (digest : List Byte) (s : Session),
    (d.sec.sessions.find? (fun s => s.id == sid) = some s ∧ d.secReady = true ∧ bit s.roles rCUSTODIAN = true) →
    (d.sec.custodians.length = 4 ∧ d.ledFull = false ∧ d.led.bad = false) →
    ∃ e, exec (.custSet sid entry (some digest)) ⟨c, d, q⟩ = .next ⟨c, e, q⟩ ∧
      e.sec.custodians = setAt d.sec.custodians entry (some (slice digest 0 48)) ∧
      e.sec = { d.sec with custodians := e.sec.custodians } ∧
      Entered c (d.sessWho s) 6 0 2 entry (sha ((d.sec.custodians.getD entry none).getD [])) (sha digest) d e ∧
      e.misc.spdmErr = false) ∧
  -- CUST_SET that would clear the last entry
  (∀ (c : Clock) (d : Dev) (q : List Instr) (sid : Nat) (entry : Fin 4),
    (d.sec.custodians.length = 4 ∧ ((setAt d.sec.custodians entry none).all fun a => a.isNone) = true) →
    ∃ e, exec (.custSet sid entry none) ⟨c, d, q⟩ = .next ⟨c, e, q⟩ ∧
      e.misc = { d.misc with spdmOut := [], spdmErr := true } ∧
      e = { d with misc := e.misc })

/-- KEKs, PSKs, key slots, minima, self-tests, Sanitize and zeroization. Requests of a session under the Custodian role while
the engine is READY and the ledger has room. (R408, R632, R633, R635, R637, R639, R640, R641, R642, R644, R656,
19_security_and_ledger.md) -/
def Obligations.KeysAndSlots : Prop :=
  -- KEK_SET of a new key
  (∀ (c : Clock) (d : Dev) (q : List Instr) (sid : Nat) (kid : Word) (kek : List Byte) (s : Session),
    (d.sec.sessions.find? (fun s => s.id == sid) = some s ∧ d.secReady = true ∧ bit s.roles rCUSTODIAN = true) →
    (d.ledFull = false ∧ d.led.bad = false ∧ kid.toNat ∉ d.sec.erased ∧ d.getB Reg.SEC_STS_TAMPER = false) →
    d.kek kid.toNat ≠ some (slice kek 0 32) →
    ∃ e, exec (.kekSet sid kid kek) ⟨c, d, q⟩ = .next ⟨c, e, q⟩ ∧
      e.sec.keks = d.sec.keks.filter (fun a => a.1 != kid.toNat) ++ [(kid.toNat, slice kek 0 32)] ∧
      Entered c (d.sessWho s) 5 0 1 kid.toNat zeros48 (kcv (slice kek 0 32)) d e ∧
      e.misc.spdmErr = false ∧
      e.sec.sessions = d.sec.sessions ∧ e.sec.custodians = d.sec.custodians ∧ e.sec.psks = d.sec.psks ∧ e.sec.slots =
        d.sec.slots) ∧
  -- KEK_SET of an erased group or with TAMPER latched
  (∀ (c : Clock) (d : Dev) (q : List Instr) (sid : Nat) (kid : Word) (kek : List Byte),
    (kid.toNat ∈ d.sec.erased ∨ d.getB Reg.SEC_STS_TAMPER = true) →
    ∃ e, exec (.kekSet sid kid kek) ⟨c, d, q⟩ = .next ⟨c, e, q⟩ ∧
      e.misc = { d.misc with spdmOut := [], spdmErr := true } ∧
      e = { d with misc := e.misc }) ∧
  -- KEK_DESTROY
  (∀ (c : Clock) (d : Dev) (q : List Instr) (sid : Nat) (kid : Word) (s : Session),
    (d.sec.sessions.find? (fun s => s.id == sid) = some s ∧ d.secReady = true ∧ bit s.roles rCUSTODIAN = true) →
    (d.ledFull = false ∧ d.led.bad = false) →
    ∃ e, exec (.kekDestroy sid kid) ⟨c, d, q⟩ = .next ⟨c, e, q⟩ ∧
      e.sec.keks = d.sec.keks.filter (fun a => a.1 != kid.toNat) ∧ e.sec.dataKeys = d.sec.dataKeys.filter (fun a => a.1 !=
        kid.toNat) ∧
      kid.toNat ∈ e.sec.erased ∧
      Entered c (d.sessWho s) 8 0 0 kid.toNat zeros48 zeros48 d e ∧
      (∀ m ∈ d.nsOfKid kid.toNat, (e.ns m).ready = false)) ∧
  -- PSK_SET
  (∀ (c : Clock) (d : Dev) (q : List Instr) (sid : Nat) (nqn ident psk : List Byte) (s : Session),
    (d.sec.sessions.find? (fun s => s.id == sid) = some s ∧ d.secReady = true ∧ bit s.roles rCUSTODIAN = true) →
    (d.ledFull = false ∧ d.led.bad = false) →
    ∃ e, exec (.pskSet sid nqn ident (some psk)) ⟨c, d, q⟩ = .next ⟨c, e, q⟩ ∧
      e.sec.psks = d.sec.psks.filter (fun a => a.1 != slice nqn 0 48) ++ [(slice nqn 0 48, slice ident 0 16, slice psk 0
        48)] ∧
      e.sec = { d.sec with psks := e.sec.psks } ∧
      Entered c (d.sessWho s) 5 0 4 (ofLe ((slice nqn 0 48).take 8)) zeros48 (kcv (slice psk 0 48)) d e) ∧
  -- SLOT_SET
  (∀ (c : Clock) (d : Dev) (q : List Instr) (sid : Nat) (alg : Fin 2) (slot : Fin 8) (key : Option (List Byte)) (s :
        Session),
    (d.sec.sessions.find? (fun s => s.id == sid) = some s ∧ d.secReady = true ∧ bit s.roles rCUSTODIAN = true) →
    (d.ledFull = false ∧ d.led.bad = false ∧ 2 ≤ slot.val) →
    ∃ e, exec (.slotSet sid alg slot key) ⟨c, d, q⟩ = .next ⟨c, e, q⟩ ∧
      e.sec.slots = d.sec.slots.filter (fun a => !(a.1 == alg.val && a.2.1 == slot.val)) ++ [(alg.val, slot.val, key)] ∧
      e.sec = { d.sec with slots := e.sec.slots } ∧ e.misc.spdmErr = false) ∧
  -- SLOT_SET of a ROM slot
  (∀ (c : Clock) (d : Dev) (q : List Instr) (sid : Nat) (alg : Fin 2) (slot : Fin 8) (key : Option (List Byte)),
    slot.val < 2 →
    ∃ e, exec (.slotSet sid alg slot key) ⟨c, d, q⟩ = .next ⟨c, e, q⟩ ∧
      e.misc = { d.misc with spdmOut := [], spdmErr := true } ∧
      e = { d with misc := e.misc }) ∧
  -- SVN_RAISE of the plait's minimum
  (∀ (c : Clock) (d : Dev) (q : List Instr) (sid v : Nat) (s : Session) (p : Plait),
    (d.sec.sessions.find? (fun s => s.id == sid) = some s ∧ d.secReady = true ∧ bit s.roles rCUSTODIAN = true) →
    (d.ledFull = false ∧ d.led.bad = false ∧ d.plait = some p ∧ d.sec.svnPlait < v ∧ v ≤ 64 ∧ v ≤ p.secVersion) →
    ∃ e, exec (.svnRaise sid 1 v) ⟨c, d, q⟩ = .next ⟨c, e, q⟩ ∧
      e.sec = { d.sec with svnPlait := v } ∧ e.misc.spdmErr = false ∧
      Entered c (d.sessWho s) 6 0 7 1 (sha (le 8 d.sec.svnPlait)) (sha (le 8 v)) d e) ∧
  -- ZEROIZE
  (∀ (c : Clock) (d : Dev) (q : List Instr) (sid : Nat) (s : Session),
    (d.sec.sessions.find? (fun s => s.id == sid) = some s ∧ d.secReady = true ∧ bit s.roles rCUSTODIAN = true) →
    ∃ e, exec (.zeroize sid) ⟨c, d, q⟩ = .next ⟨c, e, q⟩ ∧
      e.sec = { d.sec with keks := [], dataKeys := [], sessions := [], psks := [], slots := [], custodians := [none, none,
                             none, none], erased := [] } ∧
      (∀ m ∈ d.nsWhere (fun b => b.enc), (e.ns m).ready = false) ∧
      (∀ k ∈ e.ctrls, k.kind = 2 → k.tls = false) ∧
      e.get Reg.SEC_STS_OWNED = 0 ∧ e.get Reg.SEC_STS_KIDS = 0 ∧ e.get Reg.SEC_STS_SESSIONS = 0) ∧
  -- ZERO_KEY_WRITE
  (∀ (c : Clock) (d : Dev) (q : List Instr) (link : Fin 2) (v : Byte),
    d.deny (.bar2 link) true Reg.SEC_ZERO_KEY.off 4 = none →
    ∃ e, exec (.zeroKeyWrite link v) ⟨c, d, q⟩ = .next ⟨c, e, q⟩ ∧
      (v = 0x5A → e.sec =
        { d.sec with keks := [], dataKeys := [], sessions := [], psks := [], slots := [], custodians := [none, none, none,
                       none], erased := [] }) ∧
      (v ≠ 0x5A → e = { d with who := e.who })) ∧
  -- KAT_RUN
  (∀ (c : Clock) (d : Dev) (q : List Instr) (sid : Nat) (fail : Option (Fin 8)) (s : Session),
    (d.sec.sessions.find? (fun s => s.id == sid) = some s ∧ d.secReady = true ∧ bit s.roles rCUSTODIAN = true) →
    d.inDeep = false →
    ∃ e, exec (.katRun sid fail) ⟨c, d, q⟩ = .next ⟨c, e, q⟩ ∧
      (fail = none → e.misc.spdmErr = false ∧ e.get Reg.SEC_STS_STATE = d.get Reg.SEC_STS_STATE ∧ e.sec = d.sec) ∧
      (fail ≠ none → e.get Reg.SEC_STS_STATE = 3 ∧ e.get Reg.SEC_STS_KAT_FAIL = 1 ∧ e.sec.sessions = [] ∧ Reported 9 2 e)) ∧
  -- ENTROPY_HEALTH_FAIL
  (∀ (c : Clock) (d : Dev) (q : List Instr),
    d.inDeep = false →
    ∃ e, exec (.entropyHealthFail) ⟨c, d, q⟩ = .next ⟨c, e, q⟩ ∧
      e.get Reg.SEC_STS_STATE = 3 ∧ e.get Reg.SEC_STS_KAT_FAIL = 1 ∧ e.sec.sessions = [] ∧ e.misc.entropyFail = true ∧
      Reported 9 2 e ∧
      e.sec.keks = d.sec.keks ∧ e.sec.custodians = d.sec.custodians) ∧
  -- SANITIZE, Crypto Erase
  (∀ (c : Clock) (d : Dev) (q : List Instr) (stamp : Nat) (x : Ctx) (k : Ctrl),
    d.running stamp .sanitize = some x →
    (x.mute = false ∧ x.posted = false) →
    d.ctrl x.cid = some k →
    (d.nsWhere (fun b => !b.enc) = [] ∧ d.ledFull = false ∧ d.led.bad = false ∧ d.kidsUsed = []) →
    ∃ e, exec (.sanitize stamp 4) ⟨c, d, q⟩ = .next ⟨c, e, q⟩ ∧
      e.host.sanitize = 1 ∧
      Completed stamp x .success 0 0 [] d e ∧
      e = { d with host := e.host }) ∧
  -- SANITIZE, any other action
  (∀ (c : Clock) (d : Dev) (q : List Instr) (stamp : Nat) (action : Fin 8) (x : Ctx) (k : Ctrl),
    d.running stamp .sanitize = some x →
    (x.mute = false ∧ x.posted = false) →
    d.ctrl x.cid = some k →
    action ≠ 4 →
    ∃ e, exec (.sanitize stamp action) ⟨c, d, q⟩ = .next ⟨c, e, q⟩ ∧
      Completed stamp x .invalidField 0 0 [] d e ∧
      e.host = { d.host with ctxs := e.host.ctxs, posted := e.host.posted } ∧
      e = { d with host := e.host })

/-- Tamper, writing the ledger to flash, acknowledging fault records and counting lost ones. Each clause says that the row
completes, under conditions on the state alone. (R643, R646, R647, R648, R654, R655, R668, R670, R675, R678,
19_security_and_ledger.md, 21_faults_and_events.md) -/
def Obligations.TamperLedgerRecords : Prop :=
  -- TAMPER while the module runs
  (∀ (c : Clock) (d : Dev) (q : List Instr) (o : BootObs),
    (d.pwr.mode = .run ∧ d.inDeep = false) →
    ∃ c' e, exec (.tamper o) ⟨c, d, q⟩ = .next ⟨c', e, q⟩ ∧
      c' = c ∧
      e.sec = { d.sec with keks := [], dataKeys := [], sessions := [], psks := [], tamperOpen := true } ∧
      e.get Reg.SEC_STS_TAMPER = 1 ∧
      Reported 9 1 e ∧
      (∀ m ∈ d.nsWhere (fun b => b.enc), (e.ns m).ready = false)) ∧
  -- TAMPER_CLEAR
  (∀ (c : Clock) (d : Dev) (q : List Instr) (link : Fin 2) (closed : Bool),
    d.deny (.bar2 link) true Reg.SEC_STS_TAMPER.off 4 = none →
    d.getB Reg.SEC_STS_TAMPER = true →
    ∃ e, exec (.tamperClear link closed) ⟨c, d, q⟩ = .next ⟨c, e, q⟩ ∧
      (e.get Reg.SEC_STS_TAMPER = if closed then 0 else d.get Reg.SEC_STS_TAMPER) ∧
      e.sec = { d.sec with tamperOpen := if closed then false else d.sec.tamperOpen } ∧
      e = { d with regs := e.regs, led := e.led, sec := e.sec, who := e.who } ∧
      RegsOnly [Reg.SEC_STS_TAMPER, Reg.SEC_LEDGER_STS_BUFFERED, Reg.SEC_LEDGER_STS_FULL, Reg.SEC_LEDGER_STS_FIRST_CP,
        Reg.SEC_LEDGER_SEQ_SEQ_LO] d e) ∧
  -- LEDGER_FLUSH
  (∀ (c : Clock) (d : Dev) (q : List Instr),
    (d.led.flushed < d.led.next ∧ d.led.next / 1024 = d.led.flushed / 1024 ∧ d.led.next < 131072) →
    ∃ e, exec (.ledgerFlush true) ⟨c, d, q⟩ = .next ⟨c, e, q⟩ ∧
      e.led = { d.led with flushed := d.led.next, bad := false, firstCp := 0, entries := d.led.entries, cps := d.led.cps } ∧
      e.get Reg.SEC_LEDGER_STS_BUFFERED = 0 ∧ e.get Reg.SEC_LEDGER_STS_FULL = 0 ∧
      e = { d with regs := e.regs, led := e.led } ∧
      RegsOnly [Reg.SEC_LEDGER_STS_BUFFERED, Reg.SEC_LEDGER_STS_FULL, Reg.SEC_LEDGER_STS_FIRST_CP,
        Reg.SEC_LEDGER_SEQ_SEQ_LO] d e) ∧
  -- LEDGER_FLUSH across a segment's end
  (∀ (c : Clock) (d : Dev) (q : List Instr),
    (d.led.flushed < d.led.next ∧ d.led.next / 1024 = d.led.flushed / 1024 + 1 ∧ d.led.next < 131072 ∧ d.led.leaf < 1000) →
    ∃ e, exec (.ledgerFlush true) ⟨c, d, q⟩ = .next ⟨c, e, q⟩ ∧
      e.led.flushed = d.led.next ∧ e.led.leaf = d.led.leaf + 1 ∧ e.led.key = d.led.key ∧
      (e.led.cps.map fun a => a.1) = (d.led.cps.map fun a => a.1) ++ [d.led.flushed / 1024] ∧
      e.led.entries = d.led.entries ∧
      e = { d with regs := e.regs, led := e.led } ∧
      RegsOnly [Reg.SEC_LEDGER_STS_BUFFERED, Reg.SEC_LEDGER_STS_FULL, Reg.SEC_LEDGER_STS_FIRST_CP,
        Reg.SEC_LEDGER_SEQ_SEQ_LO] d e) ∧
  -- LEDGER_FLUSH that fails
  (∀ (c : Clock) (d : Dev) (q : List Instr),
    d.led.flushed ≠ d.led.next →
    ∃ e, exec (.ledgerFlush false) ⟨c, d, q⟩ = .next ⟨c, e, q⟩ ∧
      e.led = { d.led with bad := true } ∧ e.get Reg.SEC_LEDGER_STS_FLASH_ERR = 1 ∧
      e = { d with regs := e.regs, led := e.led } ∧
      RegsOnly [Reg.SEC_LEDGER_STS_FLASH_ERR] d e) ∧
  -- ACK_SEQ_WRITE
  (∀ (c : Clock) (d : Dev) (q : List Instr) (link : Fin 2) (v : Word),
    d.deny (.bar2 link) true Reg.FLT_ACK_SEQ_ACK_LO.off 4 = none →
    ∃ e, exec (.ackSeqWrite link v) ⟨c, d, q⟩ = .next ⟨c, e, q⟩ ∧
      e.get Reg.FLT_ACK_SEQ_ACK_LO = v.toNat ∧
      e.flt = { d.flt with ring := mapIf (fun r => decide ((r.seq : Int) ≤ ackSeqOf d.flt.next v.toNat)) (fun r =>
                             { r with read := true }) d.flt.ring } ∧
      e = { d with regs := e.regs, flt := e.flt, who := e.who } ∧
      RegsOnly [Reg.FLT_ACK_SEQ_ACK_LO] d e) ∧
  -- RECORDS_LOST_INTERVAL
  (∀ (c : Clock) (d : Dev) (q : List Instr),
    (d.flt.lostOpen = true ∧ d.inDeep = false ∧ d.flt.lostAt + 100 * tickMs ≤ c.tick) →
    ∃ e, exec (.recordsLostInterval) ⟨c, d, q⟩ = .next ⟨c, e, q⟩ ∧
      Reported 11 1 e)

/-- Tamper, its clearing, ledger flushes, acknowledgements and the count of lost records complete in every state. These five
rows answer a next state whatever the state holds; the clauses have conditions only where the effect differs. (R643, R647,
R654, R670, R678, 19_security_and_ledger.md, 21_faults_and_events.md) -/
def Obligations.TamperAndRecordsInEveryState : Prop :=
  -- TAMPER while the module has power and MGMT runs
  (∀ (c : Clock) (d : Dev) (q : List Instr) (o : BootObs),
    (d.pwr.mode ≠ .off ∧ d.pwr.mode ≠ .deep) →
    ∃ c' e, exec (.tamper o) ⟨c, d, q⟩ = .next ⟨c', e, q⟩ ∧
      c' = c ∧
      e.sec.keks = [] ∧ e.sec.dataKeys = [] ∧ e.sec.sessions = [] ∧ e.sec.psks = [] ∧
      e.get Reg.SEC_STS_TAMPER = 1) ∧
  -- TAMPER in OFF or DEEP
  (∀ (c : Clock) (d : Dev) (q : List Instr) (o : BootObs),
    (d.pwr.mode = .off ∨ d.pwr.mode = .deep) →
    ∃ c' e, exec (.tamper o) ⟨c, d, q⟩ = .next ⟨c', e, q⟩ ∧
      e.sec.keks = [] ∧ e.sec.dataKeys = [] ∧ e.sec.sessions = []) ∧
  -- TAMPER_CLEAR while the loop is open
  (∀ (c : Clock) (d : Dev) (q : List Instr) (link : Fin 2),
    ∃ e, exec (.tamperClear link false) ⟨c, d, q⟩ = .next ⟨c, e, q⟩ ∧
      e.get Reg.SEC_STS_TAMPER = d.get Reg.SEC_STS_TAMPER ∧ e.sec.tamperOpen = d.sec.tamperOpen) ∧
  -- TAMPER_CLEAR while the loop is closed
  (∀ (c : Clock) (d : Dev) (q : List Instr) (link : Fin 2),
    d.deny (.bar2 link) true Reg.SEC_STS_TAMPER.off 4 = none →
    ∃ e, exec (.tamperClear link true) ⟨c, d, q⟩ = .next ⟨c, e, q⟩ ∧
      e.get Reg.SEC_STS_TAMPER = 0) ∧
  -- LEDGER_FLUSH
  (∀ (c : Clock) (d : Dev) (q : List Instr) (ok : Bool),
    ∃ e, exec (.ledgerFlush ok) ⟨c, d, q⟩ = .next ⟨c, e, q⟩ ∧
      (ok = true → e.led.flushed = d.led.next) ∧
      (ok = false → e.led.flushed = d.led.flushed ∧ e.led.entries = d.led.entries) ∧
      e = { d with regs := e.regs, led := e.led }) ∧
  -- ACK_SEQ_WRITE
  (∀ (c : Clock) (d : Dev) (q : List Instr) (link : Fin 2) (v : Word),
    ∃ e, exec (.ackSeqWrite link v) ⟨c, d, q⟩ = .next ⟨c, e, q⟩ ∧
      (d.deny (.bar2 link) true Reg.FLT_ACK_SEQ_ACK_LO.off 4 = none → (∀ r ∈ e.flt.ring, (r.seq : Int) ≤ ackSeqOf
        d.flt.next v.toNat → r.read = true) ∧ e.get Reg.FLT_ACK_SEQ_ACK_LO = v.toNat) ∧
      (∀ r ∈ d.flt.ring, r.read = true → ∃ y ∈ e.flt.ring, y.seq = r.seq ∧ y.read = true)) ∧
  -- RECORDS_LOST_INTERVAL without losses
  (∀ (c : Clock) (d : Dev) (q : List Instr),
    d.flt.lostOpen = false →
    ∃ e, exec (.recordsLostInterval) ⟨c, d, q⟩ = .next ⟨c, e, q⟩ ∧
      e = d) ∧
  -- RECORDS_LOST_INTERVAL with losses
  (∀ (c : Clock) (d : Dev) (q : List Instr),
    (d.flt.lostOpen = true ∧ d.inDeep = false ∧ d.flt.lostAt + 100 * tickMs ≤ c.tick ∧ d.getB Reg.FLT_CFG_FOLD_EN = false) →
    ∃ e, exec (.recordsLostInterval) ⟨c, d, q⟩ = .next ⟨c, e, q⟩ ∧
      (∃ r ∈ e.flt.ring, r.cls = 11 ∧ r.code = 1 ∧ r.sev = 2 ∧ r.tick = c.tick ∧ r.detail = slice (le 4 d.flt.lostNow) 0
        28))

/-- Bytes of DRAM: the controller memory buffer, fills and retirement copies. The read of one byte of DRAM is Mem.read. (R385,
R486, R503, R504, R505, R508, R509, R511, R513, R525, R536, 15_buffer_memory.md) -/
def Obligations.BufferMemoryBytes : Prop :=
  -- CMB_ACCESS, a write
  (∀ (c : Clock) (d : Dev) (q : List Instr) (off len : Nat) (data : List Byte),
    (off + len ≤ 2 ^ 30 ∧ off + data.length ≤ 2 ^ 30) →
    (d.memRuns = true ∧ d.domOn 4 = true ∧ d.pwr.mode = .run ∧ d.pwr.entry = 0) →
    (d.get Reg.MEM_STS_CH_FAIL = 0 ∧ d.mem.poison = []) →
    ∃ e, exec (.cmbAccess true off len data []) ⟨c, d, q⟩ = .next ⟨c, e, q⟩ ∧
      (∀ a, e.mem.read a = if d.cmbBase + off ≤ a ∧ a < d.cmbBase + off + data.length then data[a - (d.cmbBase + off)]?
        else d.mem.read a) ∧
      e.mem = { d.mem with cells := e.mem.cells, cmbOn := true } ∧
      e = { d with mem := e.mem }) ∧
  -- CMB_ACCESS, a read
  (∀ (c : Clock) (d : Dev) (q : List Instr) (off len : Nat) (data : List Byte),
    off + len ≤ 2 ^ 30 →
    (d.memRuns = true ∧ d.domOn 4 = true ∧ d.pwr.mode = .run ∧ d.pwr.entry = 0) →
    (d.get Reg.MEM_STS_CH_FAIL = 0 ∧ d.mem.poison = []) →
    ∃ e, exec (.cmbAccess false off len data []) ⟨c, d, q⟩ = .next ⟨c, e, q⟩ ∧
      e.mem = { d.mem with cmbOn := true, cmbEp := false, cmbData := d.mem.bytes (d.cmbBase + off) len } ∧
      e = { d with mem := e.mem }) ∧
  -- CMB_ACCESS, a read of a poisoned word
  (∀ (c : Clock) (d : Dev) (q : List Instr) (off len w : Nat) (data : List Byte),
    off + len ≤ 2 ^ 30 →
    (d.memRuns = true ∧ d.domOn 4 = true ∧ d.pwr.mode = .run ∧ d.pwr.entry = 0) →
    (d.get Reg.MEM_STS_CH_FAIL = 0 ∧ d.mem.poison = [w] ∧ w ∈ wordsOf (d.cmbBase + off) len) →
    ∃ e, exec (.cmbAccess false off len data []) ⟨c, d, q⟩ = .next ⟨c, e, q⟩ ∧
      e.mem.cmbEp = true ∧ e.mem.cmbData = List.replicate len 0xFF ∧
      e.mem.events = satAdd 32 d.mem.events 1 ∧ e.mem.poison = d.mem.poison ∧ e.mem.cells = d.mem.cells ∧ e.mem.fills =
        d.mem.fills) ∧
  -- FILL_START
  (∀ (c : Clock) (d : Dev) (q : List Instr) (link : Fin 2),
    d.deny (.bar2 link) true Reg.MEM_FILL_CTL_START.off 4 = none →
    (d.mstate = mRUN ∧ d.getB Reg.MEM_FILL_CTL_BUSY = false) →
    ∃ e, exec (.fillStart link) ⟨c, d, q⟩ = .next ⟨c, e, q⟩ ∧
      e.mem = { d.mem with fillTo := some (d.get Reg.MEM_FILL_BASE_PAGE, d.get Reg.MEM_FILL_LEN_PAGES, d.get
                             Reg.MEM_FILL_PAT_PAT) } ∧
      e.get Reg.MEM_FILL_CTL_BUSY = 1 ∧ e.get Reg.MEM_FILL_CTL_RESULT = 0 ∧
      e = { d with regs := e.regs, mem := e.mem, who := e.who } ∧
      RegsOnly [Reg.MEM_FILL_CTL_BUSY, Reg.MEM_FILL_CTL_RESULT] d e) ∧
  -- FILL_DONE
  (∀ (c : Clock) (d : Dev) (q : List Instr) (f : Nat × Nat × Nat),
    (d.mem.fillTo = some f ∧ d.pwr.mode = .run ∧ f.1 + f.2.1 ≤ d.dramPages) →
    ∃ e, exec (.fillDone) ⟨c, d, q⟩ = .next ⟨c, e, q⟩ ∧
      (∀ a, e.mem.read a = if f.1 ≤ a / 4096 ∧ a / 4096 < f.1 + f.2.1 then some (BitVec.ofNat 8 (bits f.2.2 (8 * (a % 4))
        8)) else d.mem.read a) ∧
      (∀ w ∈ e.mem.poison, w ∈ d.mem.poison ∧ ¬(f.1 ≤ w / 256 ∧ w / 256 < f.1 + f.2.1)) ∧
      e.mem.fillTo = none ∧ e.get Reg.MEM_FILL_CTL_BUSY = 0 ∧ e.get Reg.MEM_FILL_CTL_RESULT = 1 ∧
      e = { d with regs := e.regs, mem := e.mem } ∧
      RegsOnly [Reg.MEM_FILL_CTL_BUSY, Reg.MEM_FILL_CTL_RESULT] d e) ∧
  -- FILL_DONE out of range
  (∀ (c : Clock) (d : Dev) (q : List Instr) (f : Nat × Nat × Nat),
    (d.mem.fillTo = some f ∧ d.pwr.mode = .run ∧ d.dramPages < f.1 + f.2.1) →
    ∃ e, exec (.fillDone) ⟨c, d, q⟩ = .next ⟨c, e, q⟩ ∧
      e.mem = { d.mem with fillTo := none } ∧ e.get Reg.MEM_FILL_CTL_BUSY = 0 ∧ e.get Reg.MEM_FILL_CTL_RESULT = 2 ∧
      e = { d with regs := e.regs, mem := e.mem } ∧
      RegsOnly [Reg.MEM_FILL_CTL_BUSY, Reg.MEM_FILL_CTL_RESULT] d e) ∧
  -- RETIRE_PAGE
  (∀ (c : Clock) (d : Dev) (q : List Instr) (link : Fin 2) (page : Nat),
    d.deny (.bar2 link) true Reg.MEM_RET_CTL_PAGE.off 4 = none →
    (d.getB Reg.MEM_RET_STS_BUSY = false ∧ d.retErr page = none ∧ d.ledFull = false ∧ d.mem.retiring = none ∧ d.mem.retWait
        = []) →
    page < 2 ^ Reg.MEM_RET_CTL_PAGE.w →
    ∃ e, exec (.retirePage link page) ⟨c, d, q⟩ = .next ⟨c, e, q⟩ ∧
      e.get Reg.MEM_RET_CTL_PAGE = page ∧ e.get Reg.MEM_RET_STS_BUSY = 1 ∧ e.get Reg.MEM_RET_STS_RESULT = 0 ∧
      e.mem = { d.mem with retiring := some (page, 1) } ∧
      e = { d with regs := e.regs, mem := e.mem, who := e.who } ∧
      RegsOnly [Reg.MEM_RET_CTL_PAGE, Reg.MEM_RET_STS_BUSY, Reg.MEM_RET_STS_RESULT] d e) ∧
  -- RETIRE_PAGE of a page that cannot be retired
  (∀ (c : Clock) (d : Dev) (q : List Instr) (link : Fin 2) (page r : Nat),
    d.deny (.bar2 link) true Reg.MEM_RET_CTL_PAGE.off 4 = none →
    (d.getB Reg.MEM_RET_STS_BUSY = false ∧ d.retErr page = some r) →
    ∃ e, exec (.retirePage link page) ⟨c, d, q⟩ = .next ⟨c, e, q⟩ ∧
      e.get Reg.MEM_RET_STS_RESULT = r ∧
      e = { d with regs := e.regs, who := e.who } ∧
      RegsOnly [Reg.MEM_RET_CTL_PAGE, Reg.MEM_RET_STS_RESULT] d e) ∧
  -- RETIREMENT_COPY_DONE
  (∀ (c : Clock) (d : Dev) (q : List Instr) (dst page : Nat),
    (d.mem.retiring = some (page, 2) ∧ d.pageFree dst = true ∧ d.ledFull = false ∧ d.mc.ways = [] ∧ d.mc.victims = [] ∧
        page ≠ dst) →
    (d.mem.wf = true ∧ (d.mem.fills.any fun f => fillHas f page) = true) →
    ∃ e, exec (.retirementCopyDone dst) ⟨c, d, q⟩ = .next ⟨c, e, q⟩ ∧
      (∀ a, e.mem.read a = if a / 4096 = dst then d.mem.read (4096 * page + a % 4096) else d.mem.read a) ∧
      e.mem.retired = d.mem.retired ++ [(page, 2)] ∧
      Entered c {} 9 0 2 page zeros48 zeros48 d e ∧
      e.flash.retPages = e.mem.retired) ∧
  -- DEV_MARK_WRITE that marks rank 0
  (∀ (c : Clock) (d : Dev) (q : List Instr) (link : Fin 2) (ch : Fin 8) (dv : Fin 32),
    d.deny (.bar2 link) true ((0x500240 + 4 * ch.val)) 4 = none →
    (∀ r : Fin 4, d.getB (Reg.MEM_DEV_MARK_VALID ch r) = false) →
    d.ledFull = false →
    ∃ e, exec (.devMarkWrite link ch (BitVec.ofNat 32 (128 + dv.val))) ⟨c, d, q⟩ = .next ⟨c, e, q⟩ ∧
      e.get (Reg.MEM_DEV_MARK_VALID ch 0) = 1 ∧ e.get (Reg.MEM_DEV_MARK_DEVICE ch 0) = dv.val ∧
      (∀ r : Fin 4, r ≠ 0 → e.get (Reg.MEM_DEV_MARK_VALID ch r) = 0) ∧
      e.led.next = d.led.next + 1 ∧ (e.led.entries.any fun y => y.cls == 9 && y.detail == 1 && y.object == 4 * ch.val) =
        true ∧
      e.mem = d.mem)

/-- Training, starting, re-centring, refresh, parity alerts and rinse of the DRAM channels.  (R487, R490, R492, R493, R495,
R498, R499, R510, R514, R515, R518, 15_buffer_memory.md) -/
def Obligations.MemoryChannels : Prop :=
  -- TRAIN
  (∀ (c : Clock) (d : Dev) (q : List Instr) (link : Fin 2),
    d.deny (.bar2 link) true Reg.MEM_CTL_TRAIN.off 4 = none →
    ∃ e, exec (.train link) ⟨c, d, q⟩ = .next ⟨c, e, q⟩ ∧
      e.get Reg.MEM_STS_STATE = (if d.mstate = mSTOPPED then mTRAINING else d.mstate) ∧
      e.get Reg.MEM_CTL_TRAIN = (if d.mstate = mSTOPPED then 1 else d.get Reg.MEM_CTL_TRAIN) ∧
      e = { d with regs := e.regs, who := e.who } ∧
      RegsOnly [Reg.MEM_STS_STATE, Reg.MEM_CTL_TRAIN] d e) ∧
  -- DRAM_TRAIN_DONE after boot, with unequal DIMMs
  (∀ (c : Clock) (d : Dev) (q : List Instr) (o : TrainObs),
    (d.mstate = mTRAINING ∧ d.pwr.mode ≠ .boot ∧ o.alike = false) →
    ∃ e, exec (.dramTrainDone o) ⟨c, d, q⟩ = .next ⟨c, e, q⟩ ∧
      e.get Reg.MEM_STS_STATE = mSTOPPED ∧ e.get Reg.MEM_STS_CH_TRAINED = 0 ∧ e.get Reg.MEM_CTL_TRAIN = 0 ∧
      e.get Reg.MEM_CFG_DPC = o.dpc % 2 ^ Reg.MEM_CFG_DPC.w ∧ e.get Reg.MEM_CFG_ROW_BITS = o.rowBits % 2 ^
        Reg.MEM_CFG_ROW_BITS.w ∧
      e.mem = { d.mem with serials := o.serials, unequal := true } ∧
      e = { d with regs := e.regs, mem := e.mem } ∧
      RegsOnly [Reg.MEM_CFG_DIMM_LOG2, Reg.MEM_CFG_DPC, Reg.MEM_CFG_RANKS, Reg.MEM_CFG_WIDTH, Reg.MEM_CFG_ROW_BITS,
        Reg.MEM_CFG_COL_BITS, Reg.MEM_CFG_MTS, Reg.MEM_STS_CH_TRAINED, Reg.MEM_CTL_TRAIN, Reg.MEM_STS_STATE] d e) ∧
  -- DRAM_TRAIN_DONE after boot
  (∀ (c : Clock) (d : Dev) (q : List Instr) (o : TrainObs),
    (d.mstate = mTRAINING ∧ d.pwr.mode ≠ .boot ∧ o.alike = true ∧ o.width ≤ 1) →
    ∃ e, exec (.dramTrainDone o) ⟨c, d, q⟩ = .next ⟨c, e, q⟩ ∧
      e.get Reg.MEM_STS_STATE = mSTOPPED ∧
      (∀ ch : Fin 8, bit (e.get Reg.MEM_STS_CH_TRAINED) ch = ((o.chans.getD ch (false, [])).1 && (List.range (if o.width =
        1 then 10 else 20)).all (fun g => decide (16 ≤ ((o.chans.getD ch (false, [])).2.getD g (0, 0, 0, 0)).2.1) && decide
        (16 ≤ ((o.chans.getD ch (false, [])).2.getD g (0, 0, 0, 0)).2.2.2))))) ∧
  -- MEM_START
  (∀ (c : Clock) (d : Dev) (q : List Instr) (link : Fin 2),
    d.deny (.bar2 link) true Reg.MEM_CTL_START.off 4 = none →
    (d.mstate = mSTOPPED ∧ d.mem.unequal = false ∧ d.mapErr = none ∧ d.get Reg.MEM_STS_CH_TRAINED = 0xFF) →
    (d.flash.retPages = [] ∧ d.flash.retMarks = []) →
    ∃ e, exec (.memStart link) ⟨c, d, q⟩ = .next ⟨c, e, q⟩ ∧
      e.get Reg.MEM_STS_STATE = mRUN ∧
      e.mem = d.mem) ∧
  -- MEM_START that is refused
  (∀ (c : Clock) (d : Dev) (q : List Instr) (link : Fin 2),
    d.deny (.bar2 link) true Reg.MEM_CTL_START.off 4 = none →
    (d.mstate = mSTOPPED ∧ d.mem.unequal = true) →
    ∃ e, exec (.memStart link) ⟨c, d, q⟩ = .next ⟨c, e, q⟩ ∧
      e.get Reg.MEM_STS_START_ERR = 4 ∧ e.get Reg.MEM_STS_STATE = mSTOPPED ∧
      e = { d with regs := e.regs, who := e.who } ∧
      RegsOnly [Reg.MEM_STS_START_ERR] d e) ∧
  -- RECENTER
  (∀ (c : Clock) (d : Dev) (q : List Instr) (link : Fin 2) (centres : List CentreObs),
    d.deny (.bar2 link) true Reg.MEM_CTL_RECENTER.off 4 = none →
    d.mstate ≠ mRUN →
    ∃ e, exec (.recenter link centres) ⟨c, d, q⟩ = .next ⟨c, e, q⟩ ∧
      e = { d with who := e.who }) ∧
  -- RECENTER in RUN
  (∀ (c : Clock) (d : Dev) (q : List Instr) (link : Fin 2) (o : CentreObs),
    d.deny (.bar2 link) true Reg.MEM_CTL_RECENTER.off 4 = none →
    (d.mstate = mRUN ∧ o.noEye = false ∧ d.get Reg.MEM_CFG_WIDTH = 1) →
    (∀ g : Fin 10, d.get (Reg.MEM_TRN_RES_RD_CTR 0 g) ≤ 61) →
    ∃ e, exec (.recenter link [o]) ⟨c, d, q⟩ = .next ⟨c, e, q⟩ ∧
      (∀ g : Fin 10, e.get (Reg.MEM_TRN_RES_RD_CTR 0 g) = ((d.get (Reg.MEM_TRN_RES_RD_CTR 0 g) : Int) + clampI (-2) 2
        (o.moves.getD g (0, 0)).1).toNat) ∧
      e.decks = d.decks ∧ e.host = d.host ∧ e.mem.cells = d.mem.cells) ∧
  -- RECENTER_TIMER
  (∀ (c : Clock) (d : Dev) (q : List Instr) (ch : Fin 8) (o : CentreObs),
    recentreDue c ch o.temp d = true →
    (d.mstate = mRUN ∧ o.noEye = false ∧ d.get Reg.MEM_CFG_WIDTH = 1) →
    (∀ g : Fin 10, d.get (Reg.MEM_TRN_RES_RD_CTR ch g) ≤ 61) →
    ∃ e, exec (.recenterTimer ch o) ⟨c, d, q⟩ = .next ⟨c, e, q⟩ ∧
      (∀ g : Fin 10, e.get (Reg.MEM_TRN_RES_RD_CTR ch g) = ((d.get (Reg.MEM_TRN_RES_RD_CTR ch g) : Int) + clampI (-2) 2
        (o.moves.getD g (0, 0)).1).toNat) ∧
      (∀ k : Fin 8, k ≠ ch → ∀ g : Fin 10, e.get (Reg.MEM_TRN_RES_RD_CTR k g) = d.get (Reg.MEM_TRN_RES_RD_CTR k g)) ∧
      e.decks = d.decks ∧ e.host = d.host ∧ e.mem.cells = d.mem.cells) ∧
  -- REFRESH_DUE
  (∀ (c : Clock) (d : Dev) (q : List Instr) (ch : Fin 8) (rank : Fin 4) (prot : Bool),
    ∃ e, exec (.refreshDue ch rank prot) ⟨c, d, q⟩ = .next ⟨c, e, q⟩ ∧
      e.mem = { d.mem with owed := if d.mstate = mRUN ∧ prot = true ∧ FMap.get (fun _ => 0) d.mem.owed (4 * ch + rank) <
                             d.get Reg.MEM_REF_CFG_POSTPONE_MAX then d.mem.owed.ins (4 * ch + rank) (FMap.get (fun _ => 0)
                             d.mem.owed (4 * ch + rank) + 1) else d.mem.owed } ∧
      e = { d with mem := e.mem }) ∧
  -- MAKEUP_REFRESH
  (∀ (c : Clock) (d : Dev) (q : List Instr) (ch : Fin 8),
    ∃ e, exec (.makeupRefresh ch) ⟨c, d, q⟩ = .next ⟨c, e, q⟩ ∧
      e.mem = { d.mem with owed := d.mem.owed.filter (fun y => y.1 / 4 != ch.val) } ∧
      e = { d with mem := e.mem }) ∧
  -- CA_PARITY_ALERT, replayed
  (∀ (c : Clock) (d : Dev) (q : List Instr) (ch : Fin 8) (done : Nat),
    d.mstate = mRUN →
    (1024 ≤ done ∨ d.get (Reg.MEM_CH_STS_ALERTS ch) ≤ 1) →
    ∃ e, exec (.caParityAlert ch done) ⟨c, d, q⟩ = .next ⟨c, e, q⟩ ∧
      (e.get (Reg.MEM_CH_STS_ALERTS ch) = if done < 1024 ∧ d.get (Reg.MEM_CH_STS_ALERTS ch) ≠ 0 then d.get
        (Reg.MEM_CH_STS_ALERTS ch) + 1 else 1) ∧
      e.mem.replays = satAdd 32 d.mem.replays 1 ∧ e.mem.events = satAdd 32 d.mem.events 1 ∧
      e.mem = { d.mem with replays := e.mem.replays, events := e.mem.events, errs := e.mem.errs, errNo := e.mem.errNo } ∧
      e = { d with regs := e.regs, mem := e.mem } ∧
      RegsOnly [Reg.MEM_CH_STS_ALERTS ch] d e) ∧
  -- CA_PARITY_ALERT, the third
  (∀ (c : Clock) (d : Dev) (q : List Instr) (ch : Fin 8) (done : Nat),
    (d.mstate = mRUN ∧ done < 1024 ∧ d.get (Reg.MEM_CH_STS_ALERTS ch) = 2 ∧ bit (d.get Reg.MEM_STS_CH_FAIL) ch = false ∧
        d.inDeep = false) →
    ∃ e, exec (.caParityAlert ch done) ⟨c, d, q⟩ = .next ⟨c, e, q⟩ ∧
      e.get Reg.MEM_STS_STATE = mFAILED ∧ bit (e.get Reg.MEM_STS_CH_FAIL) ch = true ∧ e.get Reg.HQ_INTAKE_STS_STOPPED = 1 ∧
      (∀ y ∈ e.ctrls, y.fatal = true) ∧
      e.host.writes = [] ∧ (∀ n : Fin 16, (e.deck n).queue = []) ∧
      Reported 6 1 e) ∧
  -- RINSE_STEP of a page without errors
  (∀ (c : Clock) (d : Dev) (q : List Instr),
    d.get Reg.MEM_RINSE_CFG_RINSE_H * 60 * tickMin ≤ d.devSpan c gRINSE * d.dramPages →
    (d.mstate = mRUN ∧ d.getB Reg.MEM_RINSE_CFG_EN = true ∧ d.mem.poison = []) →
    ∃ e, exec (.rinseStep []) ⟨c, d, q⟩ = .next ⟨c, e, q⟩ ∧
      e.ages = d.ages.ins gRINSE 0 ∧
      (e.get Reg.MEM_RINSE_STS_PAGE = if d.get Reg.MEM_RINSE_STS_PAGE + 1 < d.dramPages then d.get Reg.MEM_RINSE_STS_PAGE +
        1 else 0) ∧
      (e.mem.rinsePasses = if d.get Reg.MEM_RINSE_STS_PAGE + 1 < d.dramPages then d.mem.rinsePasses else satAdd 32
        d.mem.rinsePasses 1) ∧
      e.mem = { d.mem with rinsePasses := e.mem.rinsePasses, rinseTick := e.mem.rinseTick, ceWords := e.mem.ceWords,
                             devPages := e.mem.devPages } ∧
      e = { d with regs := e.regs, mem := e.mem, ages := e.ages } ∧
      RegsOnly [Reg.MEM_RINSE_STS_PAGE] d e) ∧
  -- RINSE_STEP that meets a correctable error
  (∀ (c : Clock) (d : Dev) (q : List Instr) (w : Nat) (bad : List (Nat × Nat)),
    ((eccRead (d.erased (d.placeOfWord w).ch (d.placeOfWord w).rk) (eccXor bad [])).kind = 1 ∧ (eccRead (d.erased
        (d.placeOfWord w).ch (d.placeOfWord w).rk) (eccXor bad [])).wrong = []) →
    d.get Reg.MEM_RINSE_CFG_RINSE_H * 60 * tickMin ≤ d.devSpan c gRINSE * d.dramPages →
    (d.mstate = mRUN ∧ d.getB Reg.MEM_RINSE_CFG_EN = true ∧ d.mem.poison = [] ∧ d.mem.retired = [] ∧ d.get
        Reg.MEM_STS_CH_FAIL = 0) →
    (w / 256 = d.get Reg.MEM_RINSE_STS_PAGE ∧ d.get Reg.MEM_RINSE_STS_PAGE < pageOf d.cmbBase ∧ d.get
        Reg.MEM_RINSE_STS_PAGE + 1 < d.dramPages) →
    d.getB Reg.MEM_RET_POL_POL_EN = false →
    ∃ e, exec (.rinseStep [{ word := w, bad := bad }]) ⟨c, d, q⟩ = .next ⟨c, e, q⟩ ∧
      e.mem.ceTotal = satAdd 32 d.mem.ceTotal 1 ∧ e.mem.events = satAdd 32 d.mem.events 1 ∧
      e.get (Reg.MEM_CH_STS_CE (d.placeOfWord w).ch) = satAdd (Reg.MEM_CH_STS_CE (d.placeOfWord w).ch).w (d.get
        (Reg.MEM_CH_STS_CE (d.placeOfWord w).ch)) 1 ∧
      e.mem.cells = d.mem.cells ∧ e.mem.fills = d.mem.fills ∧ e.mem.poison = [] ∧
      e = { d with regs := e.regs, mem := e.mem, ages := e.ages } ∧
      RegsOnly [Reg.MEM_RINSE_STS_PAGE, Reg.MEM_CH_STS_CE (d.placeOfWord w).ch] d e) ∧
  -- CH_STS_CLR
  (∀ (c : Clock) (d : Dev) (q : List Instr) (link : Fin 2) (ch : Fin 8),
    d.deny (.bar2 link) true ((Reg.MEM_CH_STS_CLR ch).off) 4 = none →
    ∃ e, exec (.chStsClr link ch) ⟨c, d, q⟩ = .next ⟨c, e, q⟩ ∧
      e.get (Reg.MEM_CH_STS_CE ch) = 0 ∧ e.get (Reg.MEM_CH_STS_UE ch) = 0 ∧
      e = { d with regs := e.regs, who := e.who } ∧
      RegsOnly [Reg.MEM_CH_STS_CE ch, Reg.MEM_CH_STS_UE ch] d e)

/-- Maintenance, fills and scrub of the mapping cache.  (R535, R536, R537, R539, R541, R542, R543, R545, R546, R553, R554,
16_mapping_cache.md) -/
def Obligations.MappingCache : Prop :=
  -- CLEAN of one way
  (∀ (c : Clock) (d : Dev) (q : List Instr) (link : Fin 2) (way : Fin 16) (x : Way),
    d.deny (.bar2 link) true Reg.MC_MAINT_CTL_CMD.off 4 = none →
    (d.getB Reg.MC_MAINT_CTL_BUSY = false ∧ d.mc.at (d.get Reg.MC_MAINT_ARG_SET) way = some x) →
    ∃ e, exec (.clean link 1 way) ⟨c, d, q⟩ = .next ⟨c, e, q⟩ ∧
      e.mc.at (d.get Reg.MC_MAINT_ARG_SET) way = some { x with dirty := 0 } ∧
      e.mc = { d.mc with ways := e.mc.ways, op := some (1, []) } ∧
      (∀ w, w ≠ 16 * d.get Reg.MC_MAINT_ARG_SET + way → (e.mc.ways.find? fun y => y.1 == w) = (d.mc.ways.find? fun y => y.1
        == w)) ∧
      e.get Reg.MC_MAINT_CTL_BUSY = 1 ∧ e.get Reg.MC_MAINT_CTL_RESULT = 0 ∧
      e.mem = { d.mem with poison := e.mem.poison }) ∧
  -- INVAL of one way
  (∀ (c : Clock) (d : Dev) (q : List Instr) (link : Fin 2) (way : Fin 16),
    d.deny (.bar2 link) true Reg.MC_MAINT_CTL_CMD.off 4 = none →
    d.getB Reg.MC_MAINT_CTL_BUSY = false →
    ∃ e, exec (.inval link 1 way) ⟨c, d, q⟩ = .next ⟨c, e, q⟩ ∧
      e.mc.at (d.get Reg.MC_MAINT_ARG_SET) way = none ∧
      e.mc = { d.mc with ways := e.mc.ways, op := some (2, []) } ∧
      (∀ w, w ≠ 16 * d.get Reg.MC_MAINT_ARG_SET + way → (e.mc.ways.find? fun y => y.1 == w) = (d.mc.ways.find? fun y => y.1
        == w)) ∧
      e.get Reg.MC_MAINT_CTL_BUSY = 1 ∧ e.mem = d.mem) ∧
  -- CLEAN_INVAL of everything
  (∀ (c : Clock) (d : Dev) (q : List Instr) (link : Fin 2) (way : Fin 16),
    d.deny (.bar2 link) true Reg.MC_MAINT_CTL_CMD.off 4 = none →
    (d.getB Reg.MC_MAINT_CTL_BUSY = false ∧ FMap.canon (fun _ => none) (d.mc.ways.map fun y => (y.1, some y.2)) = true) →
    ∃ e, exec (.cleanInval link 3 way) ⟨c, d, q⟩ = .next ⟨c, e, q⟩ ∧
      e.mc = { d.mc with ways := [], op := some (3, []) } ∧
      e.get Reg.MC_MAINT_CTL_BUSY = 1 ∧ e.get (Reg.MC_OCC_LINES 0) = 0 ∧
      e.mem = { d.mem with poison := e.mem.poison }) ∧
  -- CLEAN of a range of lines that is empty or too long
  (∀ (c : Clock) (d : Dev) (q : List Instr) (link : Fin 2) (way : Fin 16),
    d.deny (.bar2 link) true Reg.MC_MAINT_CTL_CMD.off 4 = none →
    d.getB Reg.MC_MAINT_CTL_BUSY = false →
    d.get Reg.MC_MAINT_ARG_COUNT = 0 →
    ∃ e, exec (.clean link 0 way) ⟨c, d, q⟩ = .next ⟨c, e, q⟩ ∧
      e.get Reg.MC_MAINT_CTL_RESULT = 2 ∧ e.get Reg.MC_MAINT_CTL_SCOPE = 0 ∧ e.get Reg.MC_MAINT_CTL_WAY = way ∧
      e = { d with regs := e.regs, who := e.who } ∧
      RegsOnly [Reg.MC_MAINT_CTL_RESULT, Reg.MC_MAINT_CTL_SCOPE, Reg.MC_MAINT_CTL_WAY] d e) ∧
  -- CLEAN while an operation runs
  (∀ (c : Clock) (d : Dev) (q : List Instr) (link : Fin 2) (scope : Fin 4) (way : Fin 16),
    d.deny (.bar2 link) true Reg.MC_MAINT_CTL_CMD.off 4 = none →
    d.getB Reg.MC_MAINT_CTL_BUSY = true →
    ∃ e, exec (.clean link scope way) ⟨c, d, q⟩ = .next ⟨c, e, q⟩ ∧
      e = { d with who := e.who }) ∧
  -- MAINT_DONE
  (∀ (c : Clock) (d : Dev) (q : List Instr) (k : Nat),
    d.mc.op = some (k, []) →
    ∃ e, exec (.maintDone) ⟨c, d, q⟩ = .next ⟨c, e, q⟩ ∧
      e.mc = { d.mc with op := none } ∧ e.get Reg.MC_MAINT_CTL_BUSY = 0 ∧ e.get Reg.MC_MAINT_CTL_RESULT = 1 ∧
      e = { d with regs := e.regs, mc := e.mc } ∧
      RegsOnly [Reg.MC_MAINT_CTL_BUSY, Reg.MC_MAINT_CTL_RESULT] d e) ∧
  -- MC_FILL_DONE of a half line
  (∀ (c : Clock) (d : Dev) (q : List Instr) (line : Nat) (half : Fin 2) (f : McFill),
    (d.mc.fills = [f] ∧ f.line = line ∧ f.half = half.val ∧ d.mc.at (mcSet line) f.way = none) →
    (d.mem.poison = [] ∧ d.get Reg.MEM_STS_CH_FAIL = 0 ∧ d.mc.op = none) →
    ∃ e, exec (.mcFillDone [] line half []) ⟨c, d, q⟩ = .next ⟨c, e, q⟩ ∧
      e.mc.at (mcSet line) f.way = some
        { tag := mcTag line, valid := halfMask half, dirty := f.dirty, age := mcFillAge d f.cls f.stream, cls := f.cls } ∧
      e.mc = { d.mc with ways := e.mc.ways, fills := [] } ∧
      e = { d with regs := e.regs, mc := e.mc } ∧
      RegsOnly [Reg.MC_OCC_LINES 0, Reg.MC_OCC_LINES 1, Reg.MC_OCC_LINES 2, Reg.MC_OCC_LINES 3, Reg.MC_OCC_LINES 4,
        Reg.MC_OCC_LINES 5, Reg.MC_OCC_LINES 6, Reg.MC_OCC_LINES 7] d e) ∧
  -- MC_FILL_DONE after a request that hits
  (∀ (c : Clock) (d : Dev) (q : List Instr) (addr cls line : Nat) (half : Fin 2) (write whole stream : Bool) (w : Nat) (x :
        Way),
    (d.mc.hit (addr / 256) = some (w, x) ∧ bit x.valid (addr / 64 % 4) = true) →
    d.mc.fills = [] →
    ∃ e, exec (.mcFillDone [.req addr cls write whole stream] line half []) ⟨c, d, q⟩ = .next ⟨c, e, q⟩ ∧
      e.mc.at (mcSet (addr / 256)) w = some
        { x with age := 0, dirty := if write then setBit x.dirty (addr / 64 % 4) else x.dirty, bad := if write && whole
                   then clrBit x.bad (addr / 64 % 4) else x.bad } ∧
      e.mc = { d.mc with ways := e.mc.ways }) ∧
  -- MC_FILL_DONE after a request that misses
  (∀ (c : Clock) (d : Dev) (q : List Instr) (addr cls line : Nat) (half : Fin 2) (stream : Bool) (w : Nat),
    (d.mc.hit (addr / 256) = none ∧ d.mc.fills = [] ∧ d.mc.victims = [] ∧ line ≠ addr / 256) →
    mcVictim (mcSet (addr / 256)) cls d = some (w, d) →
    d.mc.at (mcSet (addr / 256)) w = none →
    ∃ e, exec (.mcFillDone [.req addr cls false false stream] line half []) ⟨c, d, q⟩ = .next ⟨c, e, q⟩ ∧
      e.mc.fills = [{ line := addr / 256, half := addr / 64 % 4 / 2, cls := cls, way := w, stream := stream, dirty := 0 }] ∧
      e.mc = { d.mc with fills := e.mc.fills }) ∧
  -- MC_SCRUB_STEP
  (∀ (c : Clock) (d : Dev) (q : List Instr),
    d.get Reg.MC_CFG_SCRUB_MIN * tickMin ≤ d.devSpan c gSCRUB * 12288 →
    ∃ e, exec (.mcScrubStep []) ⟨c, d, q⟩ = .next ⟨c, e, q⟩ ∧
      e.ages = d.ages.ins gSCRUB 0 ∧
      e.mc = { d.mc with scrub := (d.mc.scrub + 1) % 12288 } ∧
      e = { d with regs := e.regs, mc := e.mc, ages := e.ages } ∧
      RegsOnly [Reg.MC_OCC_LINES 0, Reg.MC_OCC_LINES 1, Reg.MC_OCC_LINES 2, Reg.MC_OCC_LINES 3, Reg.MC_OCC_LINES 4,
        Reg.MC_OCC_LINES 5, Reg.MC_OCC_LINES 6, Reg.MC_OCC_LINES 7] d e) ∧
  -- MC_SCRUB_STEP that finds a correctable error
  (∀ (c : Clock) (d : Dev) (q : List Instr) (r : McErr),
    d.get Reg.MC_CFG_SCRUB_MIN * tickMin ≤ d.devSpan c gSCRUB * 12288 →
    (r.set = d.mc.scrub ∧ r.uncorr = false) →
    ∃ e, exec (.mcScrubStep [r]) ⟨c, d, q⟩ = .next ⟨c, e, q⟩ ∧
      e.get Reg.MC_STS_CE = satAdd Reg.MC_STS_CE.w (d.get Reg.MC_STS_CE) 1 ∧
      e.get Reg.MC_ERR_LOC_SET = r.set % 2 ^ Reg.MC_ERR_LOC_SET.w ∧ e.get Reg.MC_ERR_LOC_UNCORR = 0 ∧
      e.mc = { d.mc with scrub := (d.mc.scrub + 1) % 12288 } ∧ e.mem = d.mem) ∧
  -- MC_STS_CLR
  (∀ (c : Clock) (d : Dev) (q : List Instr) (link : Fin 2),
    d.deny (.bar2 link) true Reg.MC_STS_CLR.off 4 = none →
    ∃ e, exec (.mcStsClr link) ⟨c, d, q⟩ = .next ⟨c, e, q⟩ ∧
      e.get Reg.MC_STS_CE = 0 ∧ e.get Reg.MC_STS_UE = 0 ∧
      e = { d with regs := e.regs, who := e.who } ∧
      RegsOnly [Reg.MC_STS_CE, Reg.MC_STS_UE] d e)

/-- IDLE, SLEEP, DEEP and OFF: entered, left and asked for. A controller counts while it is enabled. A transition's progress
is pwr.entry and pwr.step. (R558, R559, R560, R561, R562, R563, R564, R566, R567, R568, R569, 17_power_and_states.md) -/
def Obligations.PowerStates : Prop :=
  -- IDLE_ENTRY
  (∀ (c : Clock) (d : Dev) (q : List Instr),
    (d.pwr.mode = .run ∧ d.pwr.entry = 0 ∧ d.quiet = true ∧ d.get Reg.PWR_STATE_CTL_IDLE_US * tickUs ≤ d.devSpan c gIDLE) →
    ∃ e, exec (.idleEntry) ⟨c, d, q⟩ = .next ⟨c, e, q⟩ ∧
      e.pwr = { d.pwr with mode := .idle } ∧ e.get Reg.PWR_STATE_STS_STATE = 1 ∧
      e = { d with regs := e.regs, pwr := e.pwr } ∧
      RegsOnly [Reg.PWR_STATE_STS_STATE] d e) ∧
  -- IDLE_EXIT
  (∀ (c : Clock) (d : Dev) (q : List Instr),
    d.pwr.mode = .idle →
    ∃ e, exec (.idleExit) ⟨c, d, q⟩ = .next ⟨c, e, q⟩ ∧
      e.pwr = { d.pwr with mode := .run } ∧ e.get Reg.PWR_STATE_STS_STATE = 0 ∧
      e = { d with regs := e.regs, pwr := e.pwr } ∧
      RegsOnly [Reg.PWR_STATE_STS_STATE] d e) ∧
  -- APST_TRANSITION
  (∀ (c : Clock) (d : Dev) (q : List Instr) (cid : Nat) (ps : Fin 5) (k : Ctrl),
    (d.ctrl cid = some k ∧ d.apst = true ∧ k.enabled = true ∧ bit (FMap.get Config.featDefault k.feats 0x0C) 0 = true) →
    (3 ≤ ps.val ∧ ps.val ≤ d.psMax ∧ k.ps < ps.val) →
    (d.host.ctxs.all fun x => x.cid != cid || x.cmd.op == .asyncEvent) = true →
    ∃ e, exec (.apstTransition cid ps) ⟨c, d, q⟩ = .next ⟨c, e, q⟩ ∧
      e.ctrls = mapIf (fun y => y.id == cid) (fun y => { y with ps := ps, lastOp := if y.ps ≤ 2 then y.ps else y.lastOp })
        d.ctrls ∧
      e = { d with ctrls := e.ctrls }) ∧
  -- SLEEP_ENTRY
  (∀ (c : Clock) (d : Dev) (q : List Instr),
    (d.pwr.mode = .run ∧ d.pwr.entry = 0 ∧ d.psTarget = some 2 ∧ d.entryHeld = false ∧ d.sleepDrained = true) →
    d.tst.visits = [] →
    ∃ e, exec (.sleepEntry) ⟨c, d, q⟩ = .next ⟨c, e, q⟩ ∧
      e.pwr.mode = .sleep ∧ e.pwr.entry = 0 ∧ e.get Reg.PWR_STATE_STS_STATE = 2 ∧ e.get Reg.PWR_STATE_STS_RESULT = 1 ∧
      (∀ k : Fin 17, e.domOn k = (d.domOn k && !(k == 9 || k == 12 || k == 13 || k == 15 || k == 16))) ∧
      e.get Reg.MEM_STS_STATE = (if d.mstate = mRUN then mSELFREF else d.mstate) ∧
      e.get (Reg.PWR_DVFS_CTL_EFF_F 0) = max (d.get (Reg.PWR_DVFS_CTL_F_OPP 0)) (max d.pwr.floor 3) % 2 ^
        (Reg.PWR_DVFS_CTL_EFF_F 0).w ∧
      e.host = d.host ∧ e.plait = d.plait ∧ e.led = d.led ∧
      e.get Reg.HQ_INTAKE_STS_STOPPED = 1) ∧
  -- SLEEP_ENTRY that must drain first
  (∀ (c : Clock) (d : Dev) (q : List Instr),
    (d.pwr.mode = .run ∧ d.pwr.entry = 0 ∧ d.psTarget = some 2 ∧ d.entryHeld = false ∧ d.sleepDrained = false) →
    ∃ e, exec (.sleepEntry) ⟨c, d, q⟩ = .next ⟨c, e, q⟩ ∧
      e.pwr = { d.pwr with entry := 2, step := 1, wake := false } ∧ e.get Reg.PWR_STATE_STS_TARGET = 2 ∧ e.get
        Reg.HQ_INTAKE_STS_STOPPED = 1 ∧
      e = { d with regs := e.regs, pwr := e.pwr } ∧
      RegsOnly [Reg.PWR_STATE_STS_TARGET, Reg.HQ_INTAKE_STS_STOPPED] d e) ∧
  -- SLEEP_ENTRY while a commit, a plait reload or a firmware activation is pending
  (∀ (c : Clock) (d : Dev) (q : List Instr),
    d.entryHeld = true →
    ∃ e, exec (.sleepEntry) ⟨c, d, q⟩ = .next ⟨c, e, q⟩ ∧
      e = d) ∧
  -- SLEEP_EXIT
  (∀ (c : Clock) (d : Dev) (q : List Instr) (w : WakeCause),
    (w ≠ .clamp ∧ w ≠ .tamper) →
    (d.pwr.mode = .sleep ∧ d.pwr.entry = 0 ∧ d.mstate = mSELFREF) →
    ∃ e, exec (.sleepExit w false []) ⟨c, d, q⟩ = .next ⟨c, e, q⟩ ∧
      e.pwr.mode = .run ∧ e.get Reg.PWR_STATE_STS_STATE = 0 ∧ e.get (wakeField w) = 1 ∧ e.get Reg.PWR_WAKE_STS_FROM = 1 ∧
      e.get Reg.MEM_STS_STATE = mRUN ∧
      (∀ k : Fin 17, bit d.domMask k = true → e.domOn k = true) ∧
      e.mem = d.mem ∧ e.host = d.host) ∧
  -- SLEEP_EXIT by a clamp or the lid
  (∀ (c : Clock) (d : Dev) (q : List Instr) (w : WakeCause) (bad : Bool) (l : List CentreObs),
    (w = .clamp ∨ w = .tamper) →
    ∃ e, exec (.sleepExit w bad l) ⟨c, d, q⟩ = .next ⟨c, e, q⟩ ∧
      e = d) ∧
  -- DEEP_ENTRY
  (∀ (c : Clock) (d : Dev) (q : List Instr),
    (d.pwr.mode = .run ∧ d.psTarget = some 3 ∧ d.entryHeld = false ∧ d.pwr.entry = 0) →
    ∃ e, exec (.deepEntry) ⟨c, d, q⟩ = .next ⟨c, e, q⟩ ∧
      e.pwr = { d.pwr with entry := 3, step := 1, wake := false } ∧ e.get Reg.PWR_STATE_STS_TARGET = 3 ∧ e.get
        Reg.HQ_INTAKE_STS_STOPPED = 1 ∧
      e = { d with regs := e.regs, pwr := e.pwr } ∧
      RegsOnly [Reg.PWR_STATE_STS_TARGET, Reg.HQ_INTAKE_STS_STOPPED] d e) ∧
  -- DEEP_ENTRY while a commit, a plait reload or a firmware activation is pending
  (∀ (c : Clock) (d : Dev) (q : List Instr),
    d.entryHeld = true →
    ∃ e, exec (.deepEntry) ⟨c, d, q⟩ = .next ⟨c, e, q⟩ ∧
      e = d) ∧
  -- DEEP_ENTRY_STEP, the last
  (∀ (c : Clock) (d : Dev) (q : List Instr),
    (d.pwr.entry = 3 ∧ d.pwr.step = 5 ∧ d.tst.visits = []) →
    ∃ e, exec (.deepEntryStep) ⟨c, d, q⟩ = .next ⟨c, e, q⟩ ∧
      e.pwr.mode = .deep ∧ e.pwr.entry = 0 ∧ e.get Reg.PWR_STATE_STS_STATE = 3 ∧ e.get Reg.PWR_STATE_STS_RESULT = 1 ∧
      (∀ k : Fin 17, e.domOn k = (d.domOn k && bit deepDomains k)) ∧
      (∀ k : Fin 17, bit (e.get Reg.PWR_PAD_LATCH_LATCHED) k = (bit (d.get Reg.PWR_PAD_LATCH_LATCHED) k || (d.domOn k &&
        !bit deepDomains k))) ∧
      (∀ p : Fin 4, e.get (Reg.MGMT_ETH_CFG_LINK p) = 0) ∧
      e.mem = d.mem ∧ e.decks = d.decks ∧ e.plait = d.plait) ∧
  -- DEEP_ENTRY_STEP, the first
  (∀ (c : Clock) (d : Dev) (q : List Instr),
    ((d.pwr.entry = 3 ∨ d.pwr.entry = 7) ∧ d.pwr.step = 1 ∧ d.allCommitted = true) →
    ∃ e, exec (.deepEntryStep) ⟨c, d, q⟩ = .next ⟨c, e, q⟩ ∧
      e.pwr = { d.pwr with step := 2 } ∧
      e = { d with pwr := e.pwr }) ∧
  -- DEEP_ENTRY_STEP with a released spindle that turns
  (∀ (c : Clock) (d : Dev) (q : List Instr),
    ((d.pwr.entry = 3 ∨ d.pwr.entry = 7) ∧ d.pwr.step = 2 ∧ d.deckBusy = true ∧ d.mstate = mRUN) →
    ∃ e, exec (.deepEntryStep) ⟨c, d, q⟩ = .next ⟨c, e, q⟩ ∧
      e.pwr = { d.pwr with entry := 0, step := 0 } ∧ e.get Reg.PWR_STATE_STS_RESULT = 3 ∧ e.get Reg.PWR_STATE_STS_TARGET =
        0 ∧
      e.get Reg.HQ_INTAKE_STS_STOPPED = ofB (d.get Reg.MEM_STS_CH_FAIL != 0 || d.host.act.isSome) ∧
      e = { d with regs := e.regs, pwr := e.pwr } ∧
      RegsOnly [Reg.PWR_STATE_STS_RESULT, Reg.PWR_STATE_STS_TARGET, Reg.HQ_INTAKE_STS_STOPPED] d e) ∧
  -- DEEP_EXIT with every bank good
  (∀ (c : Clock) (d : Dev) (q : List Instr) (w : WakeCause) (o : TrainObs),
    (d.pwr.mode = .deep ∧ d.pwr.entry = 0 ∧ w ≠ .clamp ∧ d.mstate = mSELFREF) →
    (d.flt.aon = [] ∧ d.flt.aonLost = 0) →
    ∃ e, exec (.deepExit w 0 [] o) ⟨c, d, q⟩ = .next ⟨c, e, q⟩ ∧
      e.pwr.mode = .run ∧ e.get Reg.PWR_STATE_STS_STATE = 0 ∧ e.get (wakeField w) = 1 ∧ e.get Reg.PWR_WAKE_STS_FROM = 2 ∧
      e.get Reg.MEM_STS_STATE = mRUN ∧ e.get Reg.PWR_PAD_LATCH_LATCHED = 0 ∧
      (∀ k : Fin 17, bit d.domMask k = true → e.domOn k = true) ∧
      e.mem = d.mem ∧ e.plait = d.plait ∧ e.sec = d.sec) ∧
  -- DEEP_EXIT during an entry
  (∀ (c : Clock) (d : Dev) (q : List Instr) (w : WakeCause) (banks : Nat) (o : TrainObs),
    (d.pwr.entry = 3 ∧ d.pwr.step < 4 ∧ w ≠ .clamp ∧ d.mstate = mRUN) →
    ∃ e, exec (.deepExit w banks [] o) ⟨c, d, q⟩ = .next ⟨c, e, q⟩ ∧
      e.pwr = { d.pwr with entry := 0, step := 0 } ∧ e.get Reg.PWR_STATE_STS_RESULT = 2 ∧ e.get (wakeField w) = 1 ∧
      e.get Reg.HQ_INTAKE_STS_STOPPED = ofB (d.get Reg.MEM_STS_CH_FAIL != 0 || d.host.act.isSome) ∧
      e = { d with regs := e.regs, pwr := e.pwr } ∧
      RegsOnly [Reg.PWR_STATE_STS_RESULT, Reg.PWR_STATE_STS_TARGET, wakeField w, Reg.HQ_INTAKE_STS_STOPPED] d e) ∧
  -- REQ_OFF
  (∀ (c : Clock) (d : Dev) (q : List Instr) (link : Fin 2),
    d.deny (.bar2 link) true Reg.PWR_STATE_CTL_REQ_OFF.off 4 = none →
    (d.linked = false ∧ d.deckBusy = false ∧ d.pwr.mode = .run ∧ d.pwr.entry = 0 ∧ d.entryHeld = false) →
    ∃ e, exec (.reqOff link) ⟨c, d, q⟩ = .next ⟨c, e, q⟩ ∧
      e.pwr = { d.pwr with entry := 7, step := 1, wake := false } ∧ e.get Reg.PWR_STATE_STS_TARGET = 7 ∧ e.get
        Reg.HQ_INTAKE_STS_STOPPED = 1 ∧
      e = { d with regs := e.regs, pwr := e.pwr, who := e.who } ∧
      RegsOnly [Reg.PWR_STATE_STS_TARGET, Reg.HQ_INTAKE_STS_STOPPED] d e) ∧
  -- REQ_OFF while a commit, a plait reload or a firmware activation is pending
  (∀ (c : Clock) (d : Dev) (q : List Instr) (link : Fin 2),
    d.deny (.bar2 link) true Reg.PWR_STATE_CTL_REQ_OFF.off 4 = none →
    (d.linked = false ∧ d.deckBusy = false ∧ d.pwr.mode = .run ∧ d.pwr.entry = 0 ∧ d.entryHeld = true) →
    ∃ e, exec (.reqOff link) ⟨c, d, q⟩ = .next ⟨c, e, q⟩ ∧
      e.pwr = { d.pwr with entry := 7, step := 0, wake := false } ∧ e.get Reg.PWR_STATE_STS_TARGET = 7 ∧ e.get
        Reg.HQ_INTAKE_STS_STOPPED = d.get Reg.HQ_INTAKE_STS_STOPPED % 2 ∧
      e = { d with regs := e.regs, pwr := e.pwr, who := e.who } ∧
      RegsOnly [Reg.PWR_STATE_STS_TARGET, Reg.HQ_INTAKE_STS_STOPPED] d e) ∧
  -- DEEP_ENTRY_STEP of an entry that waited
  (∀ (c : Clock) (d : Dev) (q : List Instr),
    ((d.pwr.entry = 3 ∨ d.pwr.entry = 7) ∧ d.pwr.step = 0 ∧ d.entryHeld = false) →
    ∃ e, exec (.deepEntryStep) ⟨c, d, q⟩ = .next ⟨c, e, q⟩ ∧
      e.pwr = { d.pwr with step := 1 } ∧ e.get Reg.HQ_INTAKE_STS_STOPPED = 1 ∧
      e = { d with regs := e.regs, pwr := e.pwr } ∧
      RegsOnly [Reg.HQ_INTAKE_STS_STOPPED] d e) ∧
  -- REQ_OFF with a fabric controller or an UP seam port
  (∀ (c : Clock) (d : Dev) (q : List Instr) (link : Fin 2),
    d.deny (.bar2 link) true Reg.PWR_STATE_CTL_REQ_OFF.off 4 = none →
    d.linked = true →
    ∃ e, exec (.reqOff link) ⟨c, d, q⟩ = .next ⟨c, e, q⟩ ∧
      e.get Reg.PWR_STATE_STS_RESULT = 4 ∧
      e = { d with regs := e.regs, who := e.who } ∧
      RegsOnly [Reg.PWR_STATE_STS_RESULT] d e) ∧
  -- WAKE_N in SLEEP or DEEP
  (∀ (c : Clock) (d : Dev) (q : List Instr) (o : BootObs),
    (d.pwr.mode = .sleep ∨ d.pwr.mode = .deep) →
    ∃ c' e, exec (.wakeN o) ⟨c, d, q⟩ = .next ⟨c', e, q⟩ ∧
      c' = c ∧
      e.pwr = { d.pwr with wake := true } ∧ e.get Reg.PWR_WAKE_STS_WAKE_N = 1 ∧
      e = { d with regs := e.regs, pwr := e.pwr } ∧
      RegsOnly [Reg.PWR_WAKE_STS_WAKE_N] d e) ∧
  -- WAKE_N in OFF
  (∀ (c : Clock) (d : Dev) (q : List Instr) (o : BootObs),
    d.pwr.mode = .off →
    ∃ c' e, exec (.wakeN o) ⟨c, d, q⟩ = .next ⟨c', e, q⟩ ∧
      c' = {} ∧
      e.get Reg.PWR_WAKE_STS_WAKE_N = 1 ∧ e.get Reg.PWR_WAKE_STS_FROM = 3 ∧
      (e.pwr.mode = .boot ∨ e.pwr.mode = .halt ∨ e.pwr.mode = .recovery) ∧
      (o.fuseOk = false → e.pwr.mode = .halt ∧ e.get Reg.MGMT_BOOT_STS_FAIL = 1) ∧
      e.flash = d.flash ∧ e.jobs = [] ∧ e.plait = none ∧ (o.tamperOpen = true → e.get Reg.SEC_STS_TAMPER = 1))

/-- Pads, operating points, the governor and thermal limits.  (R407, R570, R572, R573, R574, R575, R576, R577, R590,
17_power_and_states.md) -/
def Obligations.OperatingPointsAndHeat : Prop :=
  -- PAD_REL
  (∀ (c : Clock) (d : Dev) (q : List Instr) (link : Fin 2) (v : BitVec 17),
    d.deny (.bar2 link) true Reg.PWR_PAD_REL_REL.off 4 = none →
    ∃ e, exec (.padRel link v) ⟨c, d, q⟩ = .next ⟨c, e, q⟩ ∧
      (∀ k : Fin 17, bit (e.get Reg.PWR_PAD_LATCH_LATCHED) k = (bit (d.get Reg.PWR_PAD_LATCH_LATCHED) k && !(v.getLsbD k &&
        d.domOn k))) ∧
      e.get Reg.PWR_PAD_LATCH_ERR = (if (List.range 17).any (fun k => v.getLsbD k && !d.domOn k) then 1 else d.get
        Reg.PWR_PAD_LATCH_ERR) ∧
      e = { d with regs := e.regs, who := e.who } ∧
      RegsOnly [Reg.PWR_PAD_LATCH_LATCHED, Reg.PWR_PAD_LATCH_ERR] d e) ∧
  -- DVFS_WRITE that is refused
  (∀ (c : Clock) (d : Dev) (q : List Instr) (link : Fin 2) (j : Fin 7) (v : Word),
    d.deny (.bar2 link) true ((Reg.PWR_DVFS_CTL_F_OPP j).off) 4 = none →
    (bits v.toNat 2 2 < bits v.toNat 0 2 ∨ (bits v.toNat 2 2 ≠ d.get (Reg.PWR_DVFS_CTL_F_OPP j) ∧ bits v.toNat 0 2 ≠ d.get
        (Reg.PWR_DVFS_CTL_V_OPP j))) →
    ∃ e, exec (.dvfsWrite link j v) ⟨c, d, q⟩ = .next ⟨c, e, q⟩ ∧
      e.get (Reg.PWR_DVFS_CTL_ERR j) = 1 ∧
      e = { d with regs := e.regs, who := e.who } ∧
      RegsOnly [Reg.PWR_DVFS_CTL_ERR j] d e) ∧
  -- DVFS_WRITE of the frequency
  (∀ (c : Clock) (d : Dev) (q : List Instr) (link : Fin 2) (j : Fin 7) (v : Word),
    d.deny (.bar2 link) true ((Reg.PWR_DVFS_CTL_F_OPP j).off) 4 = none →
    (d.getB (Reg.PWR_DVFS_CTL_BUSY j) = false ∧ bits v.toNat 0 2 = d.get (Reg.PWR_DVFS_CTL_V_OPP j) ∧ bits v.toNat 0 2 ≤
        bits v.toNat 2 2) →
    v.toNat < 16 →
    ∃ e, exec (.dvfsWrite link j v) ⟨c, d, q⟩ = .next ⟨c, e, q⟩ ∧
      e.get (Reg.PWR_DVFS_CTL_F_OPP j) = bits v.toNat 2 2 ∧ e.get (Reg.PWR_DVFS_CTL_V_OPP j) = bits v.toNat 0 2 ∧
      e.getB (Reg.PWR_DVFS_CTL_BUSY j) = (e.get (Reg.PWR_DVFS_CTL_EFF_F j) != e.oppF j || e.get (Reg.PWR_DVFS_CTL_EFF_V j)
        != e.oppV j) ∧
      e = { d with regs := e.regs, who := e.who } ∧
      RegsOnly [Reg.PWR_DVFS_CTL_F_OPP j, Reg.PWR_DVFS_CTL_V_OPP j, Reg.PWR_DVFS_CTL_BUSY j] d e) ∧
  -- DVFS_CHANGE_DONE
  (∀ (c : Clock) (d : Dev) (q : List Instr) (j : Fin 7),
    (d.oppF j < 4 ∧ d.oppV j < 4) →
    ∃ e, exec (.dvfsChangeDone j) ⟨c, d, q⟩ = .next ⟨c, e, q⟩ ∧
      e.get (Reg.PWR_DVFS_CTL_EFF_F j) = (if d.get (Reg.PWR_DVFS_CTL_EFF_F j) < d.oppF j ∨ d.get (Reg.PWR_DVFS_CTL_EFF_V j)
        = d.oppV j then d.oppF j else d.get (Reg.PWR_DVFS_CTL_EFF_F j)) ∧
      e.get (Reg.PWR_DVFS_CTL_EFF_V j) = (if d.get (Reg.PWR_DVFS_CTL_EFF_F j) < d.oppF j then d.get (Reg.PWR_DVFS_CTL_EFF_V
        j) else d.oppV j) ∧
      e = { d with regs := e.regs } ∧
      RegsOnly [Reg.PWR_DVFS_CTL_EFF_F j, Reg.PWR_DVFS_CTL_EFF_V j, Reg.PWR_DVFS_CTL_BUSY j] d e) ∧
  -- THERM_CLR
  (∀ (c : Clock) (d : Dev) (q : List Instr) (link : Fin 2) (i : Fin 5),
    d.deny (.bar2 link) true ((Reg.PWR_THERM_CLR i).off) 4 = none →
    ∃ e, exec (.thermClr link i) ⟨c, d, q⟩ = .next ⟨c, e, q⟩ ∧
      e.get (Reg.PWR_THERM_TJ_MAX i) = d.get (Reg.PWR_THERM_TJ i) % 2 ^ (Reg.PWR_THERM_TJ_MAX i).w ∧
      e = { d with regs := e.regs, who := e.who } ∧
      RegsOnly [Reg.PWR_THERM_TJ_MAX i] d e) ∧
  -- THERMAL_THROTTLE
  (∀ (c : Clock) (d : Dev) (q : List Instr) (i : Fin 5) (tj : Int),
    (105 ≤ tj ∧ tj < 120 ∧ d.getB (Reg.PWR_THERM_THROT i) = false ∧ d.inDeep = false) →
    ∃ e, exec (.thermalThrottle i tj) ⟨c, d, q⟩ = .next ⟨c, e, q⟩ ∧
      e.getI (Reg.PWR_THERM_TJ i) = tj ∧ e.get (Reg.PWR_THERM_THROT i) = 1 ∧ e.get Reg.PWR_STATE_STS_THROTTLE = 1 ∧
      Reported 5 4 e ∧
      e.decks = d.decks ∧ e.plait = d.plait) ∧
  -- GOVERNOR_PERIOD over the cap, with decks that can be held
  (∀ (c : Clock) (d : Dev) (q : List Instr) (pin vin n : Nat),
    5 * tickMs ≤ d.devSpan c gGOV →
    (pin < 2 ^ Reg.PWR_GOV_STS_P_IN.w ∧ vin < 2 ^ Reg.PWR_VIN_STS_VIN.w ∧ d.pwr.wait = false ∧ d.pwr.heat = false) →
    (∀ i : Fin 5, d.getB (Reg.PWR_THERM_THROT i) = false) →
    ((min (min 125000 (d.psLow.elim 125000 psCap)) (vin * d.get Reg.PWR_GOV_CFG_VIN_ILIM) : Nat) : Int) - 500 * d.get
        Reg.PWR_GOV_CFG_MARGIN < 50 * pin →
    holdNext d (fun _ => true) = some n →
    ∃ e, exec (.governorPeriod pin vin []) ⟨c, d, q⟩ = .next ⟨c, e, q⟩ ∧
      e.pwr.holdWant = setBit d.pwr.holdWant n ∧ e.pwr.wait = true ∧
      e.get Reg.PWR_GOV_STS_P_IN = pin ∧ e.get Reg.PWR_VIN_STS_VIN = vin ∧
      e.ages = d.ages.ins gGOV 0 ∧
      e = { d with regs := e.regs, pwr := e.pwr, ages := e.ages } ∧
      RegsOnly [Reg.PWR_GOV_STS_P_IN, Reg.PWR_VIN_STS_VIN, Reg.PWR_STATE_STS_P_CAP] d e) ∧
  -- GOVERNOR_PERIOD well below the cap
  (∀ (c : Clock) (d : Dev) (q : List Instr) (pin vin : Nat),
    5 * tickMs ≤ d.devSpan c gGOV →
    (pin < 2 ^ Reg.PWR_GOV_STS_P_IN.w ∧ vin < 2 ^ Reg.PWR_VIN_STS_VIN.w ∧ d.pwr.wait = false ∧ d.pwr.heat = false ∧
        d.pwr.low < 3) →
    (∀ i : Fin 5, d.getB (Reg.PWR_THERM_THROT i) = false) →
    50 * (pin : Int) ≤ ((min (min 125000 (d.psLow.elim 125000 psCap)) (vin * d.get Reg.PWR_GOV_CFG_VIN_ILIM) : Nat) : Int)
        - 500 * d.get Reg.PWR_GOV_CFG_MARGIN →
    ∃ e, exec (.governorPeriod pin vin []) ⟨c, d, q⟩ = .next ⟨c, e, q⟩ ∧
      e.get Reg.PWR_GOV_STS_P_IN = pin ∧ e.pwr.floor = d.pwr.floor ∧ e.pwr.holdWant = d.pwr.holdWant ∧
      e.ages = d.ages.ins gGOV 0 ∧
      e = { d with regs := e.regs, pwr := e.pwr, ages := e.ages } ∧
      RegsOnly [Reg.PWR_GOV_STS_P_IN, Reg.PWR_VIN_STS_VIN, Reg.PWR_STATE_STS_P_CAP] d e) ∧
  -- THERMAL_SHUTDOWN
  (∀ (c : Clock) (d : Dev) (q : List Instr) (i : Fin 5) (tj : Int),
    (120 ≤ tj ∧ tj < 128 ∧ d.pwr.mode = .run ∧ d.tst.visits = []) →
    ∃ e, exec (.thermalShutdown i tj) ⟨c, d, q⟩ = .next ⟨c, e, q⟩ ∧
      e.pwr.mode = .hot ∧ e.pwr.shutDie = some (i.val, tj) ∧ e.get Reg.PWR_STATE_STS_THERM_SHUT = 1 ∧
      (∀ n : Fin 16, e.spnSt n = spOFF ∨ e.spnSt n = spFAULT) ∧
      (∀ n : Fin 16, (e.deck n).link.laserMode = 0) ∧
      (∀ k : Fin 17, 2 ≤ k.val → e.domOn k = false)) ∧
  -- THERMAL_RESTART while a die is still hot
  (∀ (c : Clock) (d : Dev) (q : List Instr) (tj : List Int) (o : BootObs),
    (tj.all fun t => decide (t < 95)) = false →
    ∃ c' e, exec (.thermalRestart tj o) ⟨c, d, q⟩ = .next ⟨c', e, q⟩ ∧
      c' = c ∧
      e = d) ∧
  -- THERMAL_RESTART
  (∀ (c : Clock) (d : Dev) (q : List Instr) (tj : List Int) (o : BootObs),
    (d.pwr.mode = .hot ∧ (tj.all fun t => decide (t < 95)) = true ∧ d.pwr.shutDie ≠ none) →
    ∃ c' e, exec (.thermalRestart tj o) ⟨c, d, q⟩ = .next ⟨c', e, q⟩ ∧
      c' = {} ∧
      e.get Reg.PWR_STATE_STS_THERM_SHUT = d.get Reg.PWR_STATE_STS_THERM_SHUT ∧ e.get Reg.PWR_WAKE_STS_FROM = 4 ∧
      (e.pwr.mode = .boot ∨ e.pwr.mode = .halt ∨ e.pwr.mode = .recovery) ∧
      Reported 5 5 e ∧
      e.flash = d.flash ∧ e.jobs = [] ∧ e.plait = none)

/-- Supply limits, power-on reset, the end of a boot and boundary scan. What a module reset keeps is flash, fuses, the ledger
in flash, the Custodian store, retired units and the JTAG instruction. (R52, R66, R415, R556, R658, R659, R660, R662, R692,
R695, R696, 20_bring_up.md) -/
def Obligations.ResetAndBoot : Prop :=
  -- VIN_BROWNOUT
  (∀ (c : Clock) (d : Dev) (q : List Instr) (vin : Nat),
    vin < 410 →
    ∃ c' e, exec (.vinBrownout vin) ⟨c, d, q⟩ = .next ⟨c', e, q⟩ ∧
      c' = {} ∧
      e.pwr.mode = .reset ∧
      e.flash = d.flash ∧ e.sec.custodians = d.sec.custodians ∧ e.sec.svnFw = d.sec.svnFw ∧ e.sec.keks = [] ∧
        e.sec.sessions = [] ∧ e.tst.rows = d.tst.rows ∧
      e.decks = [] ∧ e.ctrls = [] ∧ e.plait = none ∧ e.mem = {} ∧ e.flt = {} ∧ e.host = {} ∧ e.jobs = [] ∧
      (∀ k, k ∉ [Reg.SEC_STS_OWNED, Reg.SEC_STS_KIDS, Reg.SEC_STS_SESSIONS, Reg.SEC_LEDGER_STS_BUFFERED,
        Reg.SEC_LEDGER_STS_FULL, Reg.SEC_LEDGER_STS_FIRST_CP, Reg.SEC_LEDGER_SEQ_SEQ_LO, Reg.TST_STS_IN_TEST,
        Reg.TST_STS_ROWS_USED, Reg.TST_STS_FULL].map Fld.key → FMap.get resetOf e.regs k = resetOf k)) ∧
  -- VIN_BROWNOUT at or above 8.2 V
  (∀ (c : Clock) (d : Dev) (q : List Instr) (vin : Nat),
    410 ≤ vin →
    ∃ c' e, exec (.vinBrownout vin) ⟨c, d, q⟩ = .next ⟨c', e, q⟩ ∧
      c' = c ∧
      e = d) ∧
  -- VIN_OVERVOLTAGE
  (∀ (c : Clock) (d : Dev) (q : List Instr) (vin : Nat),
    3200 ≤ vin →
    ∃ c' e, exec (.vinOvervoltage vin) ⟨c, d, q⟩ = .next ⟨c', e, q⟩ ∧
      c' = {} ∧
      e.pwr.mode = .overvolt ∧ e.flash = d.flash ∧ e.decks = [] ∧ e.plait = none ∧ e.mem = {}) ∧
  -- VIN_OVERVOLTAGE_CLEAR
  (∀ (c : Clock) (d : Dev) (q : List Instr) (vin : Nat) (o : BootObs),
    (d.pwr.mode = .overvolt ∧ vin < 3025) →
    ∃ c' e, exec (.vinOvervoltageClear vin o) ⟨c, d, q⟩ = .next ⟨c', e, q⟩ ∧
      c' = {} ∧
      (e.pwr.mode = .boot ∨ e.pwr.mode = .halt ∨ e.pwr.mode = .recovery) ∧
      e.flash = d.flash ∧ e.jobs = [] ∧ e.plait = none) ∧
  -- POWER_ON_RESET
  (∀ (c : Clock) (d : Dev) (q : List Instr) (o : BootObs),
    d.pwr.mode = .reset →
    ∃ c' e, exec (.powerOnReset o) ⟨c, d, q⟩ = .next ⟨c', e, q⟩ ∧
      c' = {} ∧
      (e.pwr.mode = .boot ∨ e.pwr.mode = .halt ∨ e.pwr.mode = .recovery) ∧
      (o.fuseOk = false → e.pwr.mode = .halt ∧ e.get Reg.MGMT_BOOT_STS_FAIL = 1 ∧ e.get Reg.MGMT_BOOT_STS_STAGE = 11) ∧
      (o.fuseOk = true → o.kat ≠ none → e.pwr.mode = .halt ∧ e.get Reg.MGMT_BOOT_STS_FAIL = 2 ∧ e.get Reg.SEC_STS_STATE =
        3) ∧
      (o.fuseOk = true → o.kat = none → o.flashOk = false → e.pwr.mode = .recovery ∧ e.get Reg.MGMT_BOOT_STS_FAIL = 3 ∧
        e.get Reg.MGMT_BOOT_STS_STAGE = 10) ∧
      e.flash = d.flash ∧ e.host.split = o.split ∧ e.plait = none ∧ (o.tamperOpen = true → e.get Reg.SEC_STS_TAMPER = 1)) ∧
  -- BOOT_READY in the minimal structure
  (∀ (c : Clock) (d : Dev) (q : List Instr),
    (d.pwr.mode = .boot ∧ d.get Reg.MGMT_BOOT_STS_STAGE = 8 ∧ d.get Reg.MGMT_BOOT_STS_FAIL = 4) →
    ∃ e, exec (.bootReady []) ⟨c, d, q⟩ = .next ⟨c, e, q⟩ ∧
      e.pwr = { d.pwr with mode := .run } ∧ e.get Reg.PWR_STATE_STS_STATE = 0 ∧
      e.get Reg.MGMT_BOOT_STS_STAGE = 9 ∧ e.get Reg.MGMT_PLAIT_STS_STATE = 4 ∧
      e.get Reg.MGMT_BOOT_TIME_READY_MS = min 65535 (c.tick / 1000000) ∧
      e.ctrls = mapIf (fun k => decide (k.kind ≤ 1) && k.enabled) (fun k => { k with ready := true }) d.ctrls ∧
      e.tst = { d.tst with initial := some c.tick } ∧
      e = { d with regs := e.regs, pwr := e.pwr, ctrls := e.ctrls, tst := e.tst } ∧
      RegsOnly [Reg.PWR_STATE_STS_STATE, Reg.MGMT_BOOT_STS_STAGE, Reg.MGMT_PLAIT_STS_STATE, Reg.MGMT_BOOT_TIME_READY_MS] d
        e) ∧
  -- BOUNDARY_SCAN_INSTRUCTION
  (∀ (c : Clock) (d : Dev) (q : List Instr) (i : Fin 8),
    ∃ e, exec (.boundaryScanInstruction i) ⟨c, d, q⟩ = .next ⟨c, e, q⟩ ∧
      e.misc = { d.misc with jtag := i } ∧
      motorLands e = (if i.val < 3 then .core else if d.get Reg.PWR_VM_STS_VM < d.get Reg.PWR_VM_LIM_UV_LIM then .cells
        else .safe) ∧
      e = { d with misc := e.misc })

/-- NVMe-MI over MCTP and in band. A message over MCTP is stated while the device is in RUN and the domain of the management
channels is on. The bytes of a response that NVMe-MI lays out, and this document does not, are free (log entry 50). (R391,
R393, R627, R674, 12_host_attachment.md) -/
def Obligations.ManagementInterface : Prop :=
  -- READ_NVME_MI_DATA_STRUCTURE
  (∀ (c : Clock) (d : Dev) (q : List Instr) (pcie : Bool) (arg : Nat),
    (d.pwr.mode = .run ∧ d.pwr.entry = 0 ∧ d.domOn 2 = true) →
    ∃ e, exec (.readNvmeMiDataStructure pcie arg) ⟨c, d, q⟩ = .next ⟨c, e, q⟩ ∧
      e.misc.miOut = (List.range 32).map (Config.miByte 0 arg) ∧ e.misc = { d.misc with miOut := e.misc.miOut, miSev := 0 }
        ∧
      e = { d with misc := e.misc }) ∧
  -- NVM_SUBSYSTEM_HEALTH_STATUS_POLL
  (∀ (c : Clock) (d : Dev) (q : List Instr) (pcie : Bool),
    (d.pwr.mode = .run ∧ d.pwr.entry = 0 ∧ d.domOn 2 = true) →
    ∃ e, exec (.nvmSubsystemHealthStatusPoll pcie) ⟨c, d, q⟩ = .next ⟨c, e, q⟩ ∧
      e.misc.miSev = (match d.flt.ring.reverse.find? (fun r => !r.read) with | some r => r.sev | none => 0) ∧
      e.misc = { d.misc with miOut := e.misc.miOut, miSev := e.misc.miSev } ∧
      e = { d with misc := e.misc }) ∧
  -- CONTROLLER_HEALTH_STATUS_POLL
  (∀ (c : Clock) (d : Dev) (q : List Instr) (pcie : Bool) (arg : Nat),
    (d.pwr.mode = .run ∧ d.pwr.entry = 0 ∧ d.domOn 2 = true) →
    ∃ e, exec (.controllerHealthStatusPoll pcie arg) ⟨c, d, q⟩ = .next ⟨c, e, q⟩ ∧
      e.misc.miSev = d.newestUnread ∧
      e.misc = { d.misc with miOut := e.misc.miOut, miSev := e.misc.miSev } ∧
      e = { d with misc := e.misc }) ∧
  -- CONFIGURATION_SET
  (∀ (c : Clock) (d : Dev) (q : List Instr) (pcie : Bool) (arg v : Nat),
    (d.pwr.mode = .run ∧ d.pwr.entry = 0 ∧ d.domOn 2 = true ∧ d.mctpSession pcie = true) →
    ∃ e, exec (.configurationSet pcie arg v) ⟨c, d, q⟩ = .next ⟨c, e, q⟩ ∧
      FMap.get (fun _ => 0) e.host.miCfg arg = v ∧
      (∀ k, k ≠ arg → FMap.get (fun _ => 0) e.host.miCfg k = FMap.get (fun _ => 0) d.host.miCfg k) ∧
      e.host = { d.host with miCfg := e.host.miCfg } ∧
      e = { d with host := e.host, misc := e.misc }) ∧
  -- CONFIGURATION_GET
  (∀ (c : Clock) (d : Dev) (q : List Instr) (pcie : Bool) (arg : Nat),
    (d.pwr.mode = .run ∧ d.pwr.entry = 0 ∧ d.domOn 2 = true ∧ d.mctpSession pcie = true) →
    ∃ e, exec (.configurationGet pcie arg) ⟨c, d, q⟩ = .next ⟨c, e, q⟩ ∧
      e.misc.miOut.take 4 = le 4 (FMap.get (fun _ => 0) d.host.miCfg arg) ∧ e.misc.miOut.length = 32 ∧
      e.misc = { d.misc with miOut := e.misc.miOut, miSev := 0 } ∧
      e = { d with misc := e.misc }) ∧
  -- MI_RESET
  (∀ (c : Clock) (d : Dev) (q : List Instr) (pcie : Bool),
    (d.pwr.mode = .run ∧ d.pwr.entry = 0 ∧ d.domOn 2 = true ∧ d.mctpSession pcie = true) →
    (d.host.ctxs = [] ∧ (d.ctrls.map fun y => y.id).Nodup) →
    ∃ e, exec (.miReset pcie) ⟨c, d, q⟩ = .next ⟨c, e, q⟩ ∧
      ((e.ctrls.map fun y => y.id) = (d.ctrls.filter (fun y => y.kind != 2)).map fun y => y.id) ∧
      (∀ y ∈ e.ctrls, y.kind ≤ 1 → y.enabled = false ∧ y.ready = false ∧ y.sqs = [] ∧ y.cqs = [] ∧ y.pairs = 1) ∧
      e.decks = d.decks ∧ e.plait = d.plait ∧ e.led = d.led ∧ e.flt = d.flt ∧ e.mem = d.mem) ∧
  -- CONFIGURATION_SET without a session
  (∀ (c : Clock) (d : Dev) (q : List Instr) (pcie : Bool) (arg v : Nat),
    (d.pwr.mode = .run ∧ d.pwr.entry = 0 ∧ d.mctpSession pcie = false) →
    ∃ e, exec (.configurationSet pcie arg v) ⟨c, d, q⟩ = .next ⟨c, e, q⟩ ∧
      e = d) ∧
  -- CONFIGURATION_GET without a session
  (∀ (c : Clock) (d : Dev) (q : List Instr) (pcie : Bool) (arg : Nat),
    (d.pwr.mode = .run ∧ d.pwr.entry = 0 ∧ d.mctpSession pcie = false) →
    ∃ e, exec (.configurationGet pcie arg) ⟨c, d, q⟩ = .next ⟨c, e, q⟩ ∧
      e = d) ∧
  -- MI_RESET without a session
  (∀ (c : Clock) (d : Dev) (q : List Instr) (pcie : Bool),
    (d.pwr.mode = .run ∧ d.pwr.entry = 0 ∧ d.mctpSession pcie = false) →
    ∃ e, exec (.miReset pcie) ⟨c, d, q⟩ = .next ⟨c, e, q⟩ ∧
      e = d) ∧
  -- NVME_MI_SEND
  (∀ (c : Clock) (d : Dev) (q : List Instr) (stamp arg v : Nat) (x : Ctx) (k : Ctrl),
    d.running stamp .miSend = some x →
    (x.mute = false ∧ x.posted = false) →
    d.ctrl x.cid = some k →
    ∃ e, exec (.nvmeMiSend stamp 3 arg v) ⟨c, d, q⟩ = .next ⟨c, e, q⟩ ∧
      FMap.get (fun _ => 0) e.host.miCfg arg = v ∧
      Completed stamp x .success 0 0 [] d e ∧
      e.host = { d.host with ctxs := e.host.ctxs, posted := e.host.posted, miCfg := e.host.miCfg } ∧
      e = { d with host := e.host, misc := e.misc }) ∧
  -- NVME_MI_RECEIVE
  (∀ (c : Clock) (d : Dev) (q : List Instr) (stamp arg : Nat) (x : Ctx) (k : Ctrl),
    d.running stamp .miReceive = some x →
    (x.mute = false ∧ x.posted = false) →
    d.ctrl x.cid = some k →
    ∃ e, exec (.nvmeMiReceive stamp 4 arg) ⟨c, d, q⟩ = .next ⟨c, e, q⟩ ∧
      e.misc.miOut.take 4 = le 4 (FMap.get (fun _ => 0) d.host.miCfg arg) ∧
      Completed stamp x .success 0 0 e.misc.miOut d e ∧
      e.host = { d.host with ctxs := e.host.ctxs, posted := e.host.posted } ∧
      e = { d with host := e.host, misc := e.misc })

/-- Visits of self-test: due, asked for, slices, calibration, retirement. Units are those of the fault units: 32 on lanes,
1,088 on pool engines, 1,192 on compression engines, 1,228 on loop engines. (R591, R592, R593, R594, R595, R597, R599, R600,
R603, R606, R614, 18_self_test_and_calibration.md) -/
def Obligations.SelfTestVisits : Prop :=
  -- TEST_PASS_DUE of a compression engine that is free
  (∀ (c : Clock) (d : Dev) (q : List Instr) (u : Fin 16384),
    dueTick d u.val false ≤ c.tick →
    (tstKind u.val = 5 ∧ (d.tunit u.val).state ≠ 3) →
    (d.tst.queue = [] ∧ (∀ v ∈ d.tst.visits, v.unit ≠ u.val ∧ v.step ≠ 4)) →
    (d.get Reg.TST_CFG_ENG_EN = 1 ∧ d.domOn 9 = true ∧ d.get (Reg.CMP_ENG_STS_STATE (u.val - 1192)) = 0 ∧ cmpTests d < 2) →
    ∃ e, exec (.testPassDue u false) ⟨c, d, q⟩ = .next ⟨c, e, q⟩ ∧
      e.get (Reg.CMP_ENG_STS_STATE (u.val - 1192)) = 2 ∧
      (e.tunit u.val).state = 2 ∧ (e.tunit u.val).slice = 0 ∧
      (∀ w, w ≠ u.val → e.tunit w = d.tunit w) ∧
      e.tst.visits = d.tst.visits ++ [{ unit := u, due := dueTick d u.val false, step := 5 }] ∧ e.tst.queue = [] ∧
        e.tst.rows = d.tst.rows ∧
      e = { d with tst := e.tst, regs := e.regs } ∧
      RegsOnly [Reg.CMP_ENG_STS_STATE (u.val - 1192), Reg.TST_STS_IN_TEST, Reg.TST_STS_ROWS_USED, Reg.TST_STS_FULL] d e) ∧
  -- TEST_PASS_DUE of a native lane with a spare
  (∀ (c : Clock) (d : Dev) (q : List Instr) (u : Fin 16384) (cal : Bool) (n k s : Nat),
    dueTick d u.val cal ≤ c.tick →
    (tstKind u.val = 1 ∧ n = unitDeck u.val ∧ k = unitLane u.val ∧ (d.tunit u.val).state ≠ 3) →
    (d.tst.queue = [] ∧ (∀ v ∈ d.tst.visits, v.unit ≠ u.val ∧ v.step ≠ 4 ∧ ¬ (tstKind v.unit = 1 ∧ unitDeck v.unit = n))) →
    (d.get Reg.TST_CFG_LANE_EN = 1 ∧ d.get (Reg.TST_DECK_CFG_EN n) = 1 ∧ d.domOn (12 + 3 * (n / 8)) = true) →
    (d.lstate n k = lACTIVE ∧ allStandby d n = false ∧ d.get (Reg.LANE_STATE_STBY n k) = 0 ∧ tstSpare d n = some s) →
    ∃ e, exec (.testPassDue u cal) ⟨c, d, q⟩ = .next ⟨c, e, q⟩ ∧
      e.lstate n (64 + s) = lSHADOW ∧ e.get (Reg.LANE_STATE_SRC n (64 + s)) = k ∧ e.get (Reg.LANE_SPARE_CTL_TST_OWN n s) =
        1 ∧
      e.get (Reg.LANE_LOOP_VAL_GAIN n (64 + s)) = d.get (Reg.LANE_LOOP_VAL_GAIN n k) ∧
      e.get (Reg.LANE_LOOP_VAL_OFS n (64 + s)) = d.get (Reg.LANE_LOOP_VAL_OFS n k) ∧
      e.get (Reg.LANE_LOOP_VAL_ASYM n (64 + s)) = d.get (Reg.LANE_LOOP_VAL_ASYM n k) ∧
      e.lstate n k = lACTIVE ∧ (e.tunit u.val).state = 1 ∧
      e.tst.visits = d.tst.visits ++ [{ unit := u, cal := cal, due := dueTick d u.val cal, step := 1, spare := s }] ∧
        e.tst.queue = [] ∧
      DeckOnly n d e ∧
      e = { d with decks := e.decks, tst := e.tst, regs := e.regs } ∧
      RegsOnly [Reg.LANE_STATE_LSTATE n (64 + s), Reg.LANE_STATE_SRC n (64 + s), Reg.LANE_SPARE_CTL_TST_OWN n s,
        Reg.LANE_LOOP_VAL_GAIN n (64 + s), Reg.LANE_LOOP_VAL_OFS n (64 + s), Reg.LANE_LOOP_VAL_ASYM n (64 + s),
        Reg.LANE_TR_STS_FREQ n (64 + s), Reg.TST_STS_IN_TEST, Reg.TST_STS_ROWS_USED, Reg.TST_STS_FULL] d e) ∧
  -- TEST_PASS_DUE of a unit that cannot start
  (∀ (c : Clock) (d : Dev) (q : List Instr) (u : Fin 16384) (cal : Bool),
    (dueTick d u.val cal ≤ c.tick ∧ (∀ w ∈ d.tst.queue, w.cmd = true ∨ w.due ≤ dueTick d u.val cal)) →
    (tstKind u.val ≠ 0 ∧ (cal = true → tstKind u.val ≤ 2) ∧ (d.tunit u.val).state ≠ 3) →
    ((∀ v ∈ d.tst.visits, v.unit ≠ u.val ∧ v.step ≠ 4) ∧ (∀ v ∈ d.tst.queue, v.unit ≠ u.val)) →
    (d.get Reg.TST_CFG_LANE_EN = 0 ∧ d.get Reg.TST_CFG_ENG_EN = 0) →
    ∃ e, exec (.testPassDue u cal) ⟨c, d, q⟩ = .next ⟨c, e, q⟩ ∧
      e.tst = { d.tst with queue := d.tst.queue ++ [{ unit := u, cal := cal, due := dueTick d u.val cal }] } ∧
      e = { d with tst := e.tst, regs := e.regs } ∧
      RegsOnly [Reg.TST_STS_IN_TEST, Reg.TST_STS_ROWS_USED, Reg.TST_STS_FULL] d e) ∧
  -- TST_TEST of a free compression engine
  (∀ (c : Clock) (d : Dev) (q : List Instr) (link : Fin 2) (u : Fin 16384),
    d.deny (.bar2 link.val) true Reg.TST_CMD_OP.off 4 = none →
    (d.get Reg.TST_CMD_BUSY = 0 ∧ tstKind u.val = 5 ∧ (d.tunit u.val).state ≠ 3) →
    (d.tst.queue = [] ∧ (∀ v ∈ d.tst.visits, v.unit ≠ u.val ∧ v.step ≠ 4)) →
    (d.get Reg.TST_CFG_ENG_EN = 1 ∧ d.domOn 9 = true ∧ d.get (Reg.CMP_ENG_STS_STATE (u.val - 1192)) = 0 ∧ cmpTests d < 2) →
    ∃ e, exec (.tstTest link u) ⟨c, d, q⟩ = .next ⟨c, e, q⟩ ∧
      e.get Reg.TST_CMD_INDEX = u.val ∧ e.get Reg.TST_CMD_BUSY = 1 ∧ e.get Reg.TST_CMD_RESULT = 0 ∧
      (e.tunit u.val).state = 2 ∧ e.tst.visits = d.tst.visits ++ [{ unit := u, cmd := true, step := 5 }] ∧
      e = { d with who := e.who, tst := e.tst, regs := e.regs } ∧
      RegsOnly [Reg.TST_CMD_INDEX, Reg.TST_CMD_BUSY, Reg.TST_CMD_RESULT, Reg.CMP_ENG_STS_STATE (u.val - 1192),
        Reg.TST_STS_IN_TEST, Reg.TST_STS_ROWS_USED, Reg.TST_STS_FULL] d e) ∧
  -- TST_TEST while busy, or of no testable unit, or of a retired one
  (∀ (c : Clock) (d : Dev) (q : List Instr) (link : Fin 2) (u : Fin 16384),
    d.deny (.bar2 link.val) true Reg.TST_CMD_OP.off 4 = none →
    (d.get Reg.TST_CMD_BUSY = 1 ∨ tstKind u.val = 0 ∨ (d.tunit u.val).state = 3) →
    ∃ e, exec (.tstTest link u) ⟨c, d, q⟩ = .next ⟨c, e, q⟩ ∧
      e.get Reg.TST_CMD_RESULT = 4 ∧
      e = { d with who := e.who, regs := e.regs } ∧
      RegsOnly [Reg.TST_CMD_RESULT, Reg.TST_CMD_INDEX] d e) ∧
  -- TST_CAL of a spare lane
  (∀ (c : Clock) (d : Dev) (q : List Instr) (link : Fin 2) (u : Fin 16384) (n s : Nat),
    d.deny (.bar2 link.val) true Reg.TST_CMD_OP.off 4 = none →
    (d.get Reg.TST_CMD_BUSY = 0 ∧ tstKind u.val = 2 ∧ (d.tunit u.val).state ≠ 3 ∧ n = unitDeck u.val ∧ s + 64 = unitLane
        u.val) →
    (d.tst.queue = [] ∧ (∀ v ∈ d.tst.visits, v.unit ≠ u.val ∧ v.step ≠ 4)) →
    (d.get Reg.TST_CFG_LANE_EN = 1 ∧ d.domOn (12 + 3 * (n / 8)) = true ∧ d.lstate n (64 + s) = lSPARE) →
    (d.get (Reg.LANE_SPARE_CTL_BUSY n s) = 0 ∧ d.get (Reg.LANE_SPARE_CTL_TST_OWN n s) = 0) →
    ∃ e, exec (.tstCal link u) ⟨c, d, q⟩ = .next ⟨c, e, q⟩ ∧
      e.get Reg.TST_CMD_INDEX = u.val ∧ e.get Reg.TST_CMD_BUSY = 1 ∧ e.get Reg.TST_CMD_RESULT = 0 ∧ e.get
        (Reg.LANE_SPARE_CTL_TST_OWN n s) = 1 ∧
      (e.tunit u.val).state = 2 ∧ e.tst.visits = d.tst.visits ++ [{ unit := u, cal := true, cmd := true, step := 5 }] ∧
      e = { d with who := e.who, tst := e.tst, regs := e.regs } ∧
      RegsOnly [Reg.TST_CMD_INDEX, Reg.TST_CMD_BUSY, Reg.TST_CMD_RESULT, Reg.LANE_SPARE_CTL_TST_OWN n s,
        Reg.TST_STS_IN_TEST, Reg.TST_STS_ROWS_USED, Reg.TST_STS_FULL] d e) ∧
  -- TST_CAL of a unit that is no lane
  (∀ (c : Clock) (d : Dev) (q : List Instr) (link : Fin 2) (u : Fin 16384),
    d.deny (.bar2 link.val) true Reg.TST_CMD_OP.off 4 = none →
    2 < tstKind u.val →
    ∃ e, exec (.tstCal link u) ⟨c, d, q⟩ = .next ⟨c, e, q⟩ ∧
      e.get Reg.TST_CMD_RESULT = 4 ∧
      e = { d with who := e.who, regs := e.regs } ∧
      RegsOnly [Reg.TST_CMD_RESULT, Reg.TST_CMD_INDEX] d e) ∧
  -- SLICE_END with the signature expected, of a lane's slice before its last
  (∀ (c : Clock) (d : Dev) (q : List Instr) (u : Fin 16384) (sig : BitVec 64) (o : CalObs) (voids : Nat) (v : Visit),
    (d.tst.visits = [v] ∧ v.unit = u.val ∧ v.step = 5 ∧ v.cal = false ∧ v.second = false ∧ tstKind u.val = 1) →
    (sig = Config.expectSig 1 (d.tunit u.val).slice ∧ (d.tunit u.val).again = false ∧ (d.tunit u.val).slice < 15) →
    ∃ e, exec (.sliceEnd u sig o voids) ⟨c, d, q⟩ = .next ⟨c, e, q⟩ ∧
      e.tunit u.val = { d.tunit u.val with slice := (d.tunit u.val).slice + 1 } ∧
      e.tst = { d.tst with units := e.tst.units, sig := sig.toNat } ∧
      e = { d with tst := e.tst, regs := e.regs } ∧
      RegsOnly [Reg.TST_STS_IN_TEST, Reg.TST_STS_ROWS_USED, Reg.TST_STS_FULL] d e) ∧
  -- SLICE_END with the signature expected when the slice was repeated
  (∀ (c : Clock) (d : Dev) (q : List Instr) (u : Fin 16384) (sig : BitVec 64) (o : CalObs) (voids : Nat) (v : Visit),
    (d.tst.visits = [v] ∧ v.unit = u.val ∧ v.step = 5 ∧ v.cal = false ∧ v.second = false ∧ tstKind u.val = 1) →
    (sig = Config.expectSig 1 (d.tunit u.val).slice ∧ (d.tunit u.val).again = true ∧ (d.tunit u.val).slice < 15) →
    d.inDeep = false →
    ∃ e, exec (.sliceEnd u sig o voids) ⟨c, d, q⟩ = .next ⟨c, e, q⟩ ∧
      (e.tunit u.val).fails = min ((d.tunit u.val).fails + 1) 255 ∧ (e.tunit u.val).slice = (d.tunit u.val).slice + 1 ∧
        (e.tunit u.val).again = false ∧
      Reported 10 1 e ∧
      e.tst.visits = d.tst.visits ∧ e.tst.rows = d.tst.rows ∧ e.led = d.led) ∧
  -- SLICE_END with another signature, once
  (∀ (c : Clock) (d : Dev) (q : List Instr) (u : Fin 16384) (sig : BitVec 64) (o : CalObs) (voids : Nat) (v : Visit),
    (d.tst.visits = [v] ∧ v.unit = u.val ∧ v.step = 5 ∧ v.cal = false ∧ v.second = false ∧ tstKind u.val ≠ 0) →
    (sig ≠ Config.expectSig (tstKind u.val) (d.tunit u.val).slice ∧ (d.tunit u.val).again = false) →
    ∃ e, exec (.sliceEnd u sig o voids) ⟨c, d, q⟩ = .next ⟨c, e, q⟩ ∧
      e.tunit u.val = { d.tunit u.val with again := true, badSig := sig.toNat } ∧
      e.tst = { d.tst with units := e.tst.units, sig := sig.toNat } ∧ e.get Reg.TST_STS_SLICE_FAIL = 1 ∧
      e = { d with tst := e.tst, regs := e.regs } ∧
      RegsOnly [Reg.TST_STS_SLICE_FAIL, Reg.TST_STS_IN_TEST, Reg.TST_STS_ROWS_USED, Reg.TST_STS_FULL] d e) ∧
  -- SLICE_END with another signature again
  (∀ (c : Clock) (d : Dev) (q : List Instr) (u : Fin 16384) (sig : BitVec 64) (o : CalObs) (voids : Nat) (v : Visit),
    (d.tst.visits = [v] ∧ v.unit = u.val ∧ v.step = 5 ∧ v.cal = false ∧ v.second = false ∧ v.cmd = true ∧ tstKind u.val = 5
        ∧ d.tst.queue = []) →
    (sig ≠ Config.expectSig 5 (d.tunit u.val).slice ∧ (d.tunit u.val).again = true ∧ d.get Reg.TST_CFG_FUSE_AUTO = 0) →
    d.inDeep = false →
    ∃ e, exec (.sliceEnd u sig o voids) ⟨c, d, q⟩ = .next ⟨c, e, q⟩ ∧
      (e.tunit u.val).state = 3 ∧ e.get (Reg.CMP_ENG_STS_STATE (u.val - 1192)) = 3 ∧ e.tst.visits = [] ∧
      e.get Reg.TST_STS_RETIRED = 1 ∧ e.get Reg.TST_STS_SLICE_FAIL = 1 ∧ e.get Reg.TST_CMD_BUSY = 0 ∧ e.get
        Reg.TST_CMD_RESULT = 2 ∧
      Reported 10 3 e ∧
      (d.ledFull = false → ∃ r ∈ e.led.entries, r.cls = 9 ∧ r.result = 2 ∧ r.object = u.val)) ∧
  -- SLICE_END with the signature expected, of an engine's last slice
  (∀ (c : Clock) (d : Dev) (q : List Instr) (u : Fin 16384) (sig : BitVec 64) (o : CalObs) (voids : Nat) (v : Visit),
    (d.tst.visits = [v] ∧ v.unit = u.val ∧ v.step = 5 ∧ v.cal = false ∧ v.second = false ∧ v.cmd = true ∧ tstKind u.val = 5
        ∧ d.tst.queue = []) →
    (sig = Config.expectSig 5 11 ∧ (d.tunit u.val).slice = 11 ∧ (d.tunit u.val).again = false ∧ (d.tunit u.val).state = 2) →
    ∃ e, exec (.sliceEnd u sig o voids) ⟨c, d, q⟩ = .next ⟨c, e, q⟩ ∧
      (e.tunit u.val).state = 0 ∧ (e.tunit u.val).lastPass = c.tick ∧ (e.tunit u.val).passed = true ∧ e.tst.visits = [] ∧
      e.get (Reg.CMP_ENG_STS_STATE (u.val - 1192)) = 0 ∧ e.get Reg.TST_CMD_BUSY = 0 ∧ e.get Reg.TST_CMD_RESULT = 1 ∧
      e = { d with tst := e.tst, regs := e.regs } ∧
      RegsOnly [Reg.CMP_ENG_STS_STATE (u.val - 1192), Reg.TST_CMD_BUSY, Reg.TST_CMD_RESULT, Reg.TST_STS_IN_TEST,
        Reg.TST_STS_ROWS_USED, Reg.TST_STS_FULL] d e) ∧
  -- SLICE_END of a calibration visit whose spare serves the beam
  (∀ (c : Clock) (d : Dev) (q : List Instr) (u : Fin 16384) (sig : BitVec 64) (o : CalObs) (voids : Nat) (v : Visit) (n k :
        Nat),
    (d.tst.visits = [v] ∧ v.unit = u.val ∧ v.step = 5 ∧ v.cal = true ∧ v.spare < 2 ∧ tstKind u.val = 1 ∧ n = unitDeck u.val
        ∧ k = unitLane u.val) →
    (inByte (ofsCor o) = true ∧ inByte (gainCor o) = true ∧ inByte o.skew = true) →
    ∃ e, exec (.sliceEnd u sig o voids) ⟨c, d, q⟩ = .next ⟨c, e, q⟩ ∧
      e.getI (Reg.TST_LANE_CAL_OFS_COR n k) = ofsCor o ∧ e.getI (Reg.TST_LANE_CAL_GAIN_COR n k) = gainCor o ∧ e.getI
        (Reg.TST_LANE_CAL_SKEW_COR n k) = o.skew ∧
      e.get (Reg.TST_LANE_CAL_VALID n k) = 1 ∧ e.lstate n k = lSHADOW ∧ e.get (Reg.LANE_STATE_SRC n k) = k ∧
      e.tunit u.val = { d.tunit u.val with calTick := c.tick, calTj := d.getI (Reg.PWR_THERM_TJ (n / 8)), state := 1 } ∧
      e.tst = { d.tst with units := e.tst.units, visits := [{ v with step := 8 }] } ∧
      e = { d with decks := e.decks, tst := e.tst, regs := e.regs } ∧
      RegsOnly [Reg.TST_LANE_CAL_OFS_COR n k, Reg.TST_LANE_CAL_GAIN_COR n k, Reg.TST_LANE_CAL_SKEW_COR n k,
        Reg.TST_LANE_CAL_VALID n k, Reg.LANE_STATE_LSTATE n k, Reg.LANE_STATE_SRC n k, Reg.LANE_LOOP_VAL_GAIN n k,
        Reg.LANE_LOOP_VAL_OFS n k, Reg.LANE_LOOP_VAL_ASYM n k, Reg.LANE_TR_STS_FREQ n k, Reg.LANE_STATE_STBY n k] d e) ∧
  -- SLICE_END of a calibration that leaves the range of a correction
  (∀ (c : Clock) (d : Dev) (q : List Instr) (u : Fin 16384) (sig : BitVec 64) (o : CalObs) (voids : Nat) (v : Visit) (n k :
        Nat),
    (d.tst.visits = [v] ∧ v.unit = u.val ∧ v.step = 5 ∧ v.cal = true ∧ tstKind u.val = 1 ∧ n = unitDeck u.val ∧ k =
        unitLane u.val ∧ v.spare < 2 ∧ d.tst.queue = []) →
    ((inByte (ofsCor o) && inByte (gainCor o) && inByte o.skew) = false ∧ d.get Reg.TST_CFG_FUSE_AUTO = 0) →
    d.inDeep = false →
    ∃ e, exec (.sliceEnd u sig o voids) ⟨c, d, q⟩ = .next ⟨c, e, q⟩ ∧
      (e.tunit u.val).state = 3 ∧ e.lstate n k = lRETIRED ∧ e.get Reg.TST_STS_RETIRED = 1 ∧ e.tst.visits = [] ∧ e.get
        (Reg.LANE_SPARE_CTL_TST_OWN n v.spare) = 0 ∧
      Reported 10 3 e ∧
      e.get (Reg.TST_LANE_CAL_OFS_COR n k) = d.get (Reg.TST_LANE_CAL_OFS_COR n k))

/-- Shadow compares, lockstep phases and field fuse rows. A compare is stated while the timebase is LOCKED. (R596, R597, R598,
R600, R601, R607, R608, R621, 18_self_test_and_calibration.md) -/
def Obligations.ComparesAndFuses : Prop :=
  -- SHADOW_COMPARE_DONE that passes before the swap
  (∀ (c : Clock) (d : Dev) (q : List Instr) (u : Fin 16384) (dis cnt revs voids : Nat) (v : Visit) (n : Nat),
    (d.tst.visits = [v] ∧ v.unit = u.val ∧ v.step = 1 ∧ tstKind u.val = 1 ∧ n = unitDeck u.val ∧ d.tbState n = tbLOCKED) →
    (d.get (Reg.TST_DECK_CFG_SHADOW_REV n) ≤ revs ∧ 2 ^ 20 ≤ cnt ∧ dis * 2 ^ 20 ≤ d.get (Reg.TST_DECK_CFG_CMP_LIM n) * cnt)
        →
    (16 ≤ d.get (Reg.TST_DECK_CFG_TRIG n) ∧ d.get (Reg.ANG_TRIG_CFG_ARM n (d.get (Reg.TST_DECK_CFG_TRIG n))) = 1 ∧ d.get
        (Reg.ANG_TRIG_CFG_MODE n (d.get (Reg.TST_DECK_CFG_TRIG n))) ≠ 0) →
    ∃ e, exec (.shadowCompareDone u dis cnt revs voids) ⟨c, d, q⟩ = .next ⟨c, e, q⟩ ∧
      (e.deck n).sparePend v.spare = some { back := false, trig := d.get (Reg.TST_DECK_CFG_TRIG n) } ∧ e.get
        (Reg.LANE_SPARE_CTL_BUSY n v.spare) = 1 ∧
      e.tst = { d.tst with visits := [{ v with step := 3 }] } ∧
      DeckOnly n d e ∧
      e = { d with decks := e.decks, tst := e.tst, regs := e.regs } ∧
      RegsOnly [Reg.LANE_SPARE_CTL_BUSY n v.spare] d e) ∧
  -- SHADOW_COMPARE_DONE that fails before the swap
  (∀ (c : Clock) (d : Dev) (q : List Instr) (u : Fin 16384) (dis cnt revs voids : Nat) (v : Visit) (n : Nat),
    (d.tst.visits = [v] ∧ v.unit = u.val ∧ v.step = 1 ∧ v.force = false ∧ v.spare < 2 ∧ tstKind u.val = 1 ∧ n = unitDeck
        u.val ∧ d.tbState n = tbLOCKED) →
    (d.get (Reg.TST_DECK_CFG_SHADOW_REV n) ≤ revs ∧ 2 ^ 20 ≤ cnt ∧ d.get (Reg.TST_DECK_CFG_CMP_LIM n) * cnt < dis * 2 ^ 20)
        →
    d.lstate n (64 + v.spare) ≠ lRETIRED →
    d.inDeep = false →
    ∃ e, exec (.shadowCompareDone u dis cnt revs voids) ⟨c, d, q⟩ = .next ⟨c, e, q⟩ ∧
      e.get Reg.TST_STS_CMP_FAIL = 1 ∧ e.lstate n (64 + v.spare) = lSPARE ∧ (e.tunit u.val).state = 0 ∧ (e.tunit
        v.spareUnit).state = 2 ∧
      e.tst.visits = [{ v with step := 2 }] ∧ Reported 10 2 e) ∧
  -- SHADOW_COMPARE_DONE that is short of samples
  (∀ (c : Clock) (d : Dev) (q : List Instr) (u : Fin 16384) (dis cnt revs voids : Nat),
    (cnt < 2 ^ 20 ∧ revs < 16) →
    ∃ e, exec (.shadowCompareDone u dis cnt revs voids) ⟨c, d, q⟩ = .next ⟨c, e, q⟩ ∧
      e = d) ∧
  -- SHADOW_COMPARE_DONE that stays short of samples
  (∀ (c : Clock) (d : Dev) (q : List Instr) (u : Fin 16384) (dis cnt revs voids : Nat) (v : Visit) (n : Nat),
    (d.tst.visits = [v] ∧ v.unit = u.val ∧ v.step = 8 ∧ tstKind u.val = 1 ∧ n = unitDeck u.val ∧ d.tbState n = tbLOCKED) →
    (16 ≤ revs ∧ cnt < 2 ^ 20) →
    ∃ e, exec (.shadowCompareDone u dis cnt revs voids) ⟨c, d, q⟩ = .next ⟨c, e, q⟩ ∧
      e.get Reg.TST_STS_INCONCL = 1 ∧ e.tst = { d.tst with visits := [{ v with step := 9 }] }) ∧
  -- LOCKSTEP_DONE without a mismatch, before the move
  (∀ (c : Clock) (d : Dev) (q : List Instr) (n : Fin 16) (voids : Nat) (v : Visit),
    (d.tst.visits = [v] ∧ v.unit = 1228 + n.val ∧ v.step = 1) →
    ∃ e, exec (.lockstepDone n 0 voids) ⟨c, d, q⟩ = .next ⟨c, e, q⟩ ∧
      e.get (Reg.LOOP_ENG_STS_SPARE_ENG n) = 1 ∧ (e.tunit (1228 + n.val)).state = 2 ∧
      e.tst = { d.tst with units := e.tst.units, visits := [{ v with step := 5 }] } ∧
      e = { d with tst := e.tst, regs := e.regs } ∧
      RegsOnly [Reg.LOOP_ENG_STS_SPARE_ENG n, Reg.TST_STS_IN_TEST, Reg.TST_STS_ROWS_USED, Reg.TST_STS_FULL] d e) ∧
  -- LOCKSTEP_DONE without a mismatch, after the test
  (∀ (c : Clock) (d : Dev) (q : List Instr) (n : Fin 16) (voids : Nat) (v : Visit),
    (d.tst.visits = [v] ∧ v.unit = 1228 + n.val ∧ v.step = 8 ∧ v.cmd = false ∧ d.tst.queue = [] ∧ (d.tunit (1228 +
        n.val)).state = 1) →
    ∃ e, exec (.lockstepDone n 0 voids) ⟨c, d, q⟩ = .next ⟨c, e, q⟩ ∧
      e.get (Reg.LOOP_ENG_STS_SPARE_ENG n) = 0 ∧ (e.tunit (1228 + n.val)).state = 0 ∧
      e.tst.visits = [] ∧ e.tst.queue = [] ∧ e.tst.rows = d.tst.rows ∧
      e = { d with tst := e.tst, regs := e.regs } ∧
      RegsOnly [Reg.LOOP_ENG_STS_SPARE_ENG n, Reg.TST_STS_IN_TEST, Reg.TST_STS_ROWS_USED, Reg.TST_STS_FULL] d e) ∧
  -- LOCKSTEP_DONE with a mismatch, before the move
  (∀ (c : Clock) (d : Dev) (q : List Instr) (n : Fin 16) (bad voids : Nat) (v : Visit),
    (bad ≠ 0 ∧ d.tst.visits = [v] ∧ v.unit = 1228 + n.val ∧ v.step = 1 ∧ v.force = false) →
    d.inDeep = false →
    ∃ e, exec (.lockstepDone n bad voids) ⟨c, d, q⟩ = .next ⟨c, e, q⟩ ∧
      e.get Reg.TST_STS_CMP_FAIL = 1 ∧ e.get (Reg.LOOP_ENG_STS_SPARE_ENG n) = d.get (Reg.LOOP_ENG_STS_SPARE_ENG n) ∧
      (e.tunit (1244 + n.val / 4)).state = 2 ∧ e.tst.visits = [{ v with step := 2 }] ∧ Reported 10 2 e) ∧
  -- BURN of a testable unit
  (∀ (c : Clock) (d : Dev) (q : List Instr) (link : Fin 2) (index : Fin 16384) (reason : Fin 256) (voids : Nat),
    d.deny (.bar2 link.val) true Reg.TST_FROW_CTL_BURN.off 4 = none →
    (tstKind index.val ≠ 0 ∧ d.ledFull = false ∧ d.led.bad = false) →
    (voids ≤ 2 ∧ d.tst.rows.length + voids < 256) →
    ∃ e, exec (.burn link index reason voids) ⟨c, d, q⟩ = .next ⟨c, e, q⟩ ∧
      e.tst = { d.tst with rows := d.tst.rows ++ List.replicate voids 0xFFFFFFFF ++ [fuseRow index.val reason.val] } ∧
      e.get Reg.TST_FROW_CTL_RESULT = 1 ∧ e.get Reg.TST_FROW_CTL_INDEX = index.val ∧ e.get Reg.TST_FROW_CTL_REASON =
        reason.val ∧
      e.get Reg.TST_STS_ROWS_USED = (d.tst.rows.length + voids + 1) % 2 ^ Reg.TST_STS_ROWS_USED.w) ∧
  -- BURN whose three rows fail their read-back
  (∀ (c : Clock) (d : Dev) (q : List Instr) (link : Fin 2) (index : Fin 16384) (reason : Fin 256) (voids : Nat),
    d.deny (.bar2 link.val) true Reg.TST_FROW_CTL_BURN.off 4 = none →
    (tstKind index.val ≠ 0 ∧ d.ledFull = false ∧ d.led.bad = false) →
    (3 ≤ voids ∧ d.tst.rows.length + 3 ≤ 256) →
    ∃ e, exec (.burn link index reason voids) ⟨c, d, q⟩ = .next ⟨c, e, q⟩ ∧
      e.tst = { d.tst with rows := d.tst.rows ++ List.replicate 3 0xFFFFFFFF } ∧ e.get Reg.TST_FROW_CTL_RESULT = 3) ∧
  -- BURN of no testable unit
  (∀ (c : Clock) (d : Dev) (q : List Instr) (link : Fin 2) (index : Fin 16384) (reason : Fin 256) (voids : Nat),
    d.deny (.bar2 link.val) true Reg.TST_FROW_CTL_BURN.off 4 = none →
    tstKind index.val = 0 →
    ∃ e, exec (.burn link index reason voids) ⟨c, d, q⟩ = .next ⟨c, e, q⟩ ∧
      e.get Reg.TST_FROW_CTL_RESULT = 4 ∧ e.get Reg.TST_FROW_CTL_INDEX = index.val ∧ e.get Reg.TST_FROW_CTL_REASON =
        reason.val ∧
      e = { d with who := e.who, regs := e.regs } ∧
      RegsOnly [Reg.TST_FROW_CTL_RESULT, Reg.TST_FROW_CTL_INDEX, Reg.TST_FROW_CTL_REASON] d e)
end

