-- ==== Sys2Proof/Laws/Map.lean ====
section
/-! SUPPORT. Laws/Map.lean: the laws of sparse tables: what a read gives after each update, and the canonical form. -/

namespace Sys2Proof.Machine

variable {α : Type}

@[simp] theorem FMap.get_ins_self (dflt : Nat → α) (m : FMap α) (k : Nat) (v : α) : FMap.get dflt (FMap.ins m k v) k = v := by
  induction m with
  | nil => simp [FMap.ins, FMap.get]
  | cons e t ih =>
    obtain ⟨k', v'⟩ := e
    simp only [FMap.ins]
    split
    · simp [FMap.get]
    · split
      · simp [FMap.get]
      · rename_i h2
        simp [FMap.get, ih, Ne.symm h2]

theorem FMap.get_ins_ne (dflt : Nat → α) (m : FMap α) {k k' : Nat} (v : α) (h : k' ≠ k) :
    FMap.get dflt (FMap.ins m k v) k' = FMap.get dflt m k' := by
  induction m with
  | nil => simp [FMap.ins, FMap.get, Ne.symm h]
  | cons e t ih =>
    obtain ⟨j, v'⟩ := e
    simp only [FMap.ins]
    split
    · simp [FMap.get, Ne.symm h]
    · split
      · rename_i h2
        subst h2
        simp [FMap.get, Ne.symm h]
      · simp [FMap.get, ih]

@[simp] theorem FMap.get_del_self (dflt : Nat → α) (m : FMap α) (k : Nat) : FMap.get dflt (FMap.del m k) k = dflt k := by
  unfold FMap.del
  induction m with
  | nil => rfl
  | cons e t ih =>
    rw [List.filter_cons]
    split
    · rename_i h
      rw [FMap.get, if_neg (by simpa using h)]
      exact ih
    · exact ih

theorem FMap.get_del_ne (dflt : Nat → α) (m : FMap α) {k k' : Nat} (h : k' ≠ k) :
    FMap.get dflt (FMap.del m k) k' = FMap.get dflt m k' := by
  unfold FMap.del
  induction m with
  | nil => rfl
  | cons e t ih =>
    rw [List.filter_cons]
    split
    · simp only [FMap.get, ih]
    · rename_i h'
      have : e.1 ≠ k' := fun hh => h (hh ▸ (by simpa using h'))
      rw [FMap.get, if_neg this]
      exact ih

@[simp] theorem FMap.get_set_self [DecidableEq α] (dflt : Nat → α) (m : FMap α) (k : Nat) (v : α) :
    FMap.get dflt (FMap.set dflt m k v) k = v := by
  unfold FMap.set
  split
  · rename_i h
    simp [h]
  · simp

theorem FMap.get_set_ne [DecidableEq α] (dflt : Nat → α) (m : FMap α) {k k' : Nat} (v : α) (h : k' ≠ k) :
    FMap.get dflt (FMap.set dflt m k v) k' = FMap.get dflt m k' := by
  unfold FMap.set
  split
  · exact FMap.get_del_ne dflt m h
  · exact FMap.get_ins_ne dflt m v h

/-! ### The canonical form -/

theorem FMap.mem_ins {m : FMap α} {k : Nat} {v : α} {e : Nat × α} (h : e ∈ FMap.ins m k v) : e = (k, v) ∨ e ∈ m := by
  induction m with
  | nil => simpa [FMap.ins] using h
  | cons e' t ih =>
    obtain ⟨k', v'⟩ := e'
    simp only [FMap.ins] at h
    split at h
    · simpa using h
    · split at h
      · simp only [List.mem_cons] at h ⊢
        tauto
      · simp only [List.mem_cons] at h ⊢
        rcases h with h | h
        · tauto
        · have := ih h
          tauto

/-- What the canonical form says: keys rise, and no value is the default. -/
theorem FMap.canon_iff [DecidableEq α] (dflt : Nat → α) (m : FMap α) :
    FMap.canon dflt m = true ↔ m.Pairwise (fun a b => a.1 < b.1) ∧ ∀ e ∈ m, e.2 ≠ dflt e.1 := by
  induction m with
  | nil => simp [FMap.canon]
  | cons e t ih =>
    obtain ⟨k, v⟩ := e
    simp only [FMap.canon, Bool.and_eq_true, decide_eq_true_eq, List.all_eq_true, ih, List.pairwise_cons, List.mem_cons,
      forall_eq_or_imp]
    tauto

theorem FMap.rising_ins {m : FMap α} (h : m.Pairwise (fun a b => a.1 < b.1)) (k : Nat) (v : α) :
    (FMap.ins m k v).Pairwise (fun a b => a.1 < b.1) := by
  induction m with
  | nil => simp [FMap.ins]
  | cons e t ih =>
    obtain ⟨k', v'⟩ := e
    simp only [List.pairwise_cons] at h
    simp only [FMap.ins]
    split
    · rename_i hlt
      simp only [List.pairwise_cons, List.mem_cons, forall_eq_or_imp]
      exact ⟨⟨hlt, fun a ha => lt_trans hlt (h.1 a ha)⟩, h⟩
    · split
      · rename_i _ heq
        subst heq
        exact List.pairwise_cons.2 ⟨h.1, h.2⟩
      · rename_i h1 h2
        refine List.pairwise_cons.2 ⟨fun a ha => ?_, ih h.2⟩
        rcases FMap.mem_ins ha with rfl | ha
        · exact lt_of_le_of_ne (not_lt.1 h1) (Ne.symm h2)
        · exact h.1 a ha

theorem FMap.canon_ins [DecidableEq α] {dflt : Nat → α} {m : FMap α} (h : FMap.canon dflt m = true) {k : Nat} {v : α}
    (hv : v ≠ dflt k) : FMap.canon dflt (FMap.ins m k v) = true := by
  rw [FMap.canon_iff] at h ⊢
  refine ⟨FMap.rising_ins h.1 k v, fun e he => ?_⟩
  rcases FMap.mem_ins he with rfl | he
  · exact hv
  · exact h.2 e he

theorem FMap.canon_filter [DecidableEq α] {dflt : Nat → α} {m : FMap α} (h : FMap.canon dflt m = true) (p : Nat × α → Bool) :
    FMap.canon dflt (m.filter p) = true := by
  rw [FMap.canon_iff] at h ⊢
  exact ⟨h.1.filter p, fun e he => h.2 e (List.mem_filter.1 he).1⟩

theorem FMap.canon_set [DecidableEq α] {dflt : Nat → α} {m : FMap α} (h : FMap.canon dflt m = true) (k : Nat) (v : α) :
    FMap.canon dflt (FMap.set dflt m k v) = true := by
  unfold FMap.set
  split
  · exact FMap.canon_filter h _
  · exact FMap.canon_ins h ‹_›

end Sys2Proof.Machine
end

