-- ==== Sys2Proof/Laws/State.lean ====
section
/-! SUPPORT. Laws/State.lean: one lemma per field per update of the machine's state, and the laws of its registers. Cite them
(simp does) rather than compare projections by rfl: Lean may then set out to evaluate the whole meaning. -/

namespace Sys2Proof.Machine

/-! ### Lifting -/

@[simp] theorem State.onDev_clk (s : State) (f : Clock → Dev → Dev) : (s.onDev f).clk = s.clk := rfl
@[simp] theorem State.onDev_dev (s : State) (f : Clock → Dev → Dev) : (s.onDev f).dev = f s.clk s.dev := rfl
@[simp] theorem State.onDev_pending (s : State) (f : Clock → Dev → Dev) : (s.onDev f).pending = s.pending := rfl
@[simp] theorem State.onBoth_clk (s : State) (f : Clock → Dev → Clock × Dev) : (s.onBoth f).clk = (f s.clk s.dev).1 := rfl
@[simp] theorem State.onBoth_dev (s : State) (f : Clock → Dev → Clock × Dev) : (s.onBoth f).dev = (f s.clk s.dev).2 := rfl
@[simp] theorem State.onBoth_pending (s : State) (f : Clock → Dev → Clock × Dev) : (s.onBoth f).pending = s.pending := rfl

/-- A meaning that changes the module only, on a state written out. -/
theorem State.onDev_mk (c : Clock) (d : Dev) (q : List Instr) (f : Clock → Dev → Dev) : State.onDev ⟨c, d, q⟩ f = ⟨c, f c d, q⟩ := rfl

/-- A meaning that changes clocks and module, on a state written out. -/
theorem State.onBoth_mk (c : Clock) (d : Dev) (q : List Instr) (f : Clock → Dev → Clock × Dev) :
    State.onBoth ⟨c, d, q⟩ f = ⟨(f c d).1, (f c d).2, q⟩ := rfl

/-! ### Registers -/

/-- A field reads what was put into it, within its width. -/
@[simp] theorem Dev.get_set_self (d : Dev) (f : Fld) (v : Nat) : (d.set f v).get f = v % 2 ^ f.w := by simp [Dev.get, Dev.set]

/-- A write of a field leaves every field with another key as it was. -/
theorem Dev.get_set_ne (d : Dev) {f g : Fld} (v : Nat) (h : g.key ≠ f.key) : (d.set f v).get g = d.get g := by
  simp only [Dev.get, Dev.set]
  exact FMap.get_set_ne resetOf d.regs _ h

/-- A staged field reads what was staged, within its width. -/
@[simp] theorem Dev.stg_setStg_self (d : Dev) (f : Fld) (v : Nat) : (d.setStg f v).stg f = v % 2 ^ f.w := by
  simp [Dev.stg, Dev.setStg]

/-- Staging a field leaves every field with another key as it was. -/
theorem Dev.stg_setStg_ne (d : Dev) {f g : Fld} (v : Nat) (h : g.key ≠ f.key) : (d.setStg f v).stg g = d.stg g := by
  simp only [Dev.stg, Dev.setStg]
  exact FMap.get_set_ne resetOf d.staged _ h

@[simp] theorem Dev.sets_nil (d : Dev) : d.sets [] = d := rfl
@[simp] theorem Dev.sets_cons (d : Dev) (p : Fld × Nat) (l : List (Fld × Nat)) : d.sets (p :: l) = (d.set p.1 p.2).sets l := rfl

/-- Setting fields changes the table of fields in force only. -/
theorem Dev.sets_eq (d : Dev) (l : List (Fld × Nat)) : d.sets l = { d with regs := (d.sets l).regs } := by
  induction l generalizing d with
  | nil => rfl
  | cons p l ih => exact ih (d.set p.1 p.2)

/-- Fields with another key keep their values. -/
theorem Dev.get_sets_ne (d : Dev) (l : List (Fld × Nat)) {g : Fld} (h : ∀ p ∈ l, g.key ≠ p.1.key) : (d.sets l).get g = d.get g := by
  induction l generalizing d with
  | nil => rfl
  | cons p l ih =>
    rw [Dev.sets_cons, ih _ (fun q hq => h q (List.mem_cons_of_mem _ hq)), Dev.get_set_ne _ _ (h p (List.mem_cons_self ..))]

/-! ### Decks -/

@[simp] theorem Dev.deck_onDeck_self (d : Dev) (n : Nat) (g : Deck → Deck) : (d.onDeck n g).deck n = g (d.deck n) := by
  simp [Dev.deck, Dev.onDeck]

/-- A change of one deck leaves the others as they were. -/
theorem Dev.deck_onDeck_ne (d : Dev) {n m : Nat} (g : Deck → Deck) (h : m ≠ n) : (d.onDeck n g).deck m = d.deck m := by
  simp only [Dev.deck, Dev.onDeck]
  exact FMap.get_ins_ne _ _ _ h

/-! ### Self-test units -/

@[simp] theorem Dev.tunit_onUnit_self (d : Dev) (u : Nat) (g : TUnit → TUnit) : (d.onUnit u g).tunit u = g (d.tunit u) := by
  simp [Dev.tunit, Dev.onUnit]

/-- A change of one unit leaves the others as they were. -/
theorem Dev.tunit_onUnit_ne (d : Dev) {u w : Nat} (g : TUnit → TUnit) (h : w ≠ u) : (d.onUnit u g).tunit w = d.tunit w := by
  simp only [Dev.tunit, Dev.onUnit]
  exact FMap.get_ins_ne _ _ _ h

/-! ### set -/

@[simp] theorem Dev.set_staged (d : Dev) (f : Fld) (v : Nat) : (d.set f v).staged = d.staged := rfl
@[simp] theorem Dev.set_rdata (d : Dev) (f : Fld) (v : Nat) : (d.set f v).rdata = d.rdata := rfl
@[simp] theorem Dev.set_blkPend (d : Dev) (f : Fld) (v : Nat) : (d.set f v).blkPend = d.blkPend := rfl
@[simp] theorem Dev.set_decks (d : Dev) (f : Fld) (v : Nat) : (d.set f v).decks = d.decks := rfl
@[simp] theorem Dev.set_dies (d : Dev) (f : Fld) (v : Nat) : (d.set f v).dies = d.dies := rfl
@[simp] theorem Dev.set_flt (d : Dev) (f : Fld) (v : Nat) : (d.set f v).flt = d.flt := rfl
@[simp] theorem Dev.set_ctrls (d : Dev) (f : Fld) (v : Nat) : (d.set f v).ctrls = d.ctrls := rfl
@[simp] theorem Dev.set_brk (d : Dev) (f : Fld) (v : Nat) : (d.set f v).brk = d.brk := rfl
@[simp] theorem Dev.set_ages (d : Dev) (f : Fld) (v : Nat) : (d.set f v).ages = d.ages := rfl
@[simp] theorem Dev.set_who (d : Dev) (f : Fld) (v : Nat) : (d.set f v).who = d.who := rfl
@[simp] theorem Dev.set_led (d : Dev) (f : Fld) (v : Nat) : (d.set f v).led = d.led := rfl
@[simp] theorem Dev.set_plait (d : Dev) (f : Fld) (v : Nat) : (d.set f v).plait = d.plait := rfl
@[simp] theorem Dev.set_load (d : Dev) (f : Fld) (v : Nat) : (d.set f v).load = d.load := rfl
@[simp] theorem Dev.set_reload (d : Dev) (f : Fld) (v : Nat) : (d.set f v).reload = d.reload := rfl
@[simp] theorem Dev.set_flash (d : Dev) (f : Fld) (v : Nat) : (d.set f v).flash = d.flash := rfl
@[simp] theorem Dev.set_sec (d : Dev) (f : Fld) (v : Nat) : (d.set f v).sec = d.sec := rfl
@[simp] theorem Dev.set_host (d : Dev) (f : Fld) (v : Nat) : (d.set f v).host = d.host := rfl
@[simp] theorem Dev.set_jobs (d : Dev) (f : Fld) (v : Nat) : (d.set f v).jobs = d.jobs := rfl
@[simp] theorem Dev.set_mem (d : Dev) (f : Fld) (v : Nat) : (d.set f v).mem = d.mem := rfl
@[simp] theorem Dev.set_mc (d : Dev) (f : Fld) (v : Nat) : (d.set f v).mc = d.mc := rfl
@[simp] theorem Dev.set_tst (d : Dev) (f : Fld) (v : Nat) : (d.set f v).tst = d.tst := rfl
@[simp] theorem Dev.set_pwr (d : Dev) (f : Fld) (v : Nat) : (d.set f v).pwr = d.pwr := rfl
@[simp] theorem Dev.set_misc (d : Dev) (f : Fld) (v : Nat) : (d.set f v).misc = d.misc := rfl
@[simp] theorem Dev.stg_set (d : Dev) (f : Fld) (v : Nat) (h : Fld) : (d.set f v).stg h = d.stg h := rfl
@[simp] theorem Dev.deck_set (d : Dev) (f : Fld) (v : Nat) (m : Nat) : (d.set f v).deck m = d.deck m := rfl

/-! ### setStg -/

@[simp] theorem Dev.setStg_regs (d : Dev) (f : Fld) (v : Nat) : (d.setStg f v).regs = d.regs := rfl
@[simp] theorem Dev.setStg_rdata (d : Dev) (f : Fld) (v : Nat) : (d.setStg f v).rdata = d.rdata := rfl
@[simp] theorem Dev.setStg_blkPend (d : Dev) (f : Fld) (v : Nat) : (d.setStg f v).blkPend = d.blkPend := rfl
@[simp] theorem Dev.setStg_decks (d : Dev) (f : Fld) (v : Nat) : (d.setStg f v).decks = d.decks := rfl
@[simp] theorem Dev.setStg_dies (d : Dev) (f : Fld) (v : Nat) : (d.setStg f v).dies = d.dies := rfl
@[simp] theorem Dev.setStg_flt (d : Dev) (f : Fld) (v : Nat) : (d.setStg f v).flt = d.flt := rfl
@[simp] theorem Dev.setStg_ctrls (d : Dev) (f : Fld) (v : Nat) : (d.setStg f v).ctrls = d.ctrls := rfl
@[simp] theorem Dev.setStg_brk (d : Dev) (f : Fld) (v : Nat) : (d.setStg f v).brk = d.brk := rfl
@[simp] theorem Dev.setStg_ages (d : Dev) (f : Fld) (v : Nat) : (d.setStg f v).ages = d.ages := rfl
@[simp] theorem Dev.setStg_who (d : Dev) (f : Fld) (v : Nat) : (d.setStg f v).who = d.who := rfl
@[simp] theorem Dev.setStg_led (d : Dev) (f : Fld) (v : Nat) : (d.setStg f v).led = d.led := rfl
@[simp] theorem Dev.setStg_plait (d : Dev) (f : Fld) (v : Nat) : (d.setStg f v).plait = d.plait := rfl
@[simp] theorem Dev.setStg_load (d : Dev) (f : Fld) (v : Nat) : (d.setStg f v).load = d.load := rfl
@[simp] theorem Dev.setStg_reload (d : Dev) (f : Fld) (v : Nat) : (d.setStg f v).reload = d.reload := rfl
@[simp] theorem Dev.setStg_flash (d : Dev) (f : Fld) (v : Nat) : (d.setStg f v).flash = d.flash := rfl
@[simp] theorem Dev.setStg_sec (d : Dev) (f : Fld) (v : Nat) : (d.setStg f v).sec = d.sec := rfl
@[simp] theorem Dev.setStg_host (d : Dev) (f : Fld) (v : Nat) : (d.setStg f v).host = d.host := rfl
@[simp] theorem Dev.setStg_jobs (d : Dev) (f : Fld) (v : Nat) : (d.setStg f v).jobs = d.jobs := rfl
@[simp] theorem Dev.setStg_mem (d : Dev) (f : Fld) (v : Nat) : (d.setStg f v).mem = d.mem := rfl
@[simp] theorem Dev.setStg_mc (d : Dev) (f : Fld) (v : Nat) : (d.setStg f v).mc = d.mc := rfl
@[simp] theorem Dev.setStg_tst (d : Dev) (f : Fld) (v : Nat) : (d.setStg f v).tst = d.tst := rfl
@[simp] theorem Dev.setStg_pwr (d : Dev) (f : Fld) (v : Nat) : (d.setStg f v).pwr = d.pwr := rfl
@[simp] theorem Dev.setStg_misc (d : Dev) (f : Fld) (v : Nat) : (d.setStg f v).misc = d.misc := rfl
@[simp] theorem Dev.get_setStg (d : Dev) (f : Fld) (v : Nat) (h : Fld) : (d.setStg f v).get h = d.get h := rfl
@[simp] theorem Dev.deck_setStg (d : Dev) (f : Fld) (v : Nat) (m : Nat) : (d.setStg f v).deck m = d.deck m := rfl

/-! ### setB -/

@[simp] theorem Dev.setB_staged (d : Dev) (f : Fld) (b : Bool) : (d.setB f b).staged = d.staged := rfl
@[simp] theorem Dev.setB_rdata (d : Dev) (f : Fld) (b : Bool) : (d.setB f b).rdata = d.rdata := rfl
@[simp] theorem Dev.setB_blkPend (d : Dev) (f : Fld) (b : Bool) : (d.setB f b).blkPend = d.blkPend := rfl
@[simp] theorem Dev.setB_decks (d : Dev) (f : Fld) (b : Bool) : (d.setB f b).decks = d.decks := rfl
@[simp] theorem Dev.setB_dies (d : Dev) (f : Fld) (b : Bool) : (d.setB f b).dies = d.dies := rfl
@[simp] theorem Dev.setB_flt (d : Dev) (f : Fld) (b : Bool) : (d.setB f b).flt = d.flt := rfl
@[simp] theorem Dev.setB_ctrls (d : Dev) (f : Fld) (b : Bool) : (d.setB f b).ctrls = d.ctrls := rfl
@[simp] theorem Dev.setB_brk (d : Dev) (f : Fld) (b : Bool) : (d.setB f b).brk = d.brk := rfl
@[simp] theorem Dev.setB_ages (d : Dev) (f : Fld) (b : Bool) : (d.setB f b).ages = d.ages := rfl
@[simp] theorem Dev.setB_who (d : Dev) (f : Fld) (b : Bool) : (d.setB f b).who = d.who := rfl
@[simp] theorem Dev.setB_led (d : Dev) (f : Fld) (b : Bool) : (d.setB f b).led = d.led := rfl
@[simp] theorem Dev.setB_plait (d : Dev) (f : Fld) (b : Bool) : (d.setB f b).plait = d.plait := rfl
@[simp] theorem Dev.setB_load (d : Dev) (f : Fld) (b : Bool) : (d.setB f b).load = d.load := rfl
@[simp] theorem Dev.setB_reload (d : Dev) (f : Fld) (b : Bool) : (d.setB f b).reload = d.reload := rfl
@[simp] theorem Dev.setB_flash (d : Dev) (f : Fld) (b : Bool) : (d.setB f b).flash = d.flash := rfl
@[simp] theorem Dev.setB_sec (d : Dev) (f : Fld) (b : Bool) : (d.setB f b).sec = d.sec := rfl
@[simp] theorem Dev.setB_host (d : Dev) (f : Fld) (b : Bool) : (d.setB f b).host = d.host := rfl
@[simp] theorem Dev.setB_jobs (d : Dev) (f : Fld) (b : Bool) : (d.setB f b).jobs = d.jobs := rfl
@[simp] theorem Dev.setB_mem (d : Dev) (f : Fld) (b : Bool) : (d.setB f b).mem = d.mem := rfl
@[simp] theorem Dev.setB_mc (d : Dev) (f : Fld) (b : Bool) : (d.setB f b).mc = d.mc := rfl
@[simp] theorem Dev.setB_tst (d : Dev) (f : Fld) (b : Bool) : (d.setB f b).tst = d.tst := rfl
@[simp] theorem Dev.setB_pwr (d : Dev) (f : Fld) (b : Bool) : (d.setB f b).pwr = d.pwr := rfl
@[simp] theorem Dev.setB_misc (d : Dev) (f : Fld) (b : Bool) : (d.setB f b).misc = d.misc := rfl
@[simp] theorem Dev.stg_setB (d : Dev) (f : Fld) (b : Bool) (h : Fld) : (d.setB f b).stg h = d.stg h := rfl
@[simp] theorem Dev.deck_setB (d : Dev) (f : Fld) (b : Bool) (m : Nat) : (d.setB f b).deck m = d.deck m := rfl

/-! ### setI -/

@[simp] theorem Dev.setI_staged (d : Dev) (f : Fld) (i : Int) : (d.setI f i).staged = d.staged := rfl
@[simp] theorem Dev.setI_rdata (d : Dev) (f : Fld) (i : Int) : (d.setI f i).rdata = d.rdata := rfl
@[simp] theorem Dev.setI_blkPend (d : Dev) (f : Fld) (i : Int) : (d.setI f i).blkPend = d.blkPend := rfl
@[simp] theorem Dev.setI_decks (d : Dev) (f : Fld) (i : Int) : (d.setI f i).decks = d.decks := rfl
@[simp] theorem Dev.setI_dies (d : Dev) (f : Fld) (i : Int) : (d.setI f i).dies = d.dies := rfl
@[simp] theorem Dev.setI_flt (d : Dev) (f : Fld) (i : Int) : (d.setI f i).flt = d.flt := rfl
@[simp] theorem Dev.setI_ctrls (d : Dev) (f : Fld) (i : Int) : (d.setI f i).ctrls = d.ctrls := rfl
@[simp] theorem Dev.setI_brk (d : Dev) (f : Fld) (i : Int) : (d.setI f i).brk = d.brk := rfl
@[simp] theorem Dev.setI_ages (d : Dev) (f : Fld) (i : Int) : (d.setI f i).ages = d.ages := rfl
@[simp] theorem Dev.setI_who (d : Dev) (f : Fld) (i : Int) : (d.setI f i).who = d.who := rfl
@[simp] theorem Dev.setI_led (d : Dev) (f : Fld) (i : Int) : (d.setI f i).led = d.led := rfl
@[simp] theorem Dev.setI_plait (d : Dev) (f : Fld) (i : Int) : (d.setI f i).plait = d.plait := rfl
@[simp] theorem Dev.setI_load (d : Dev) (f : Fld) (i : Int) : (d.setI f i).load = d.load := rfl
@[simp] theorem Dev.setI_reload (d : Dev) (f : Fld) (i : Int) : (d.setI f i).reload = d.reload := rfl
@[simp] theorem Dev.setI_flash (d : Dev) (f : Fld) (i : Int) : (d.setI f i).flash = d.flash := rfl
@[simp] theorem Dev.setI_sec (d : Dev) (f : Fld) (i : Int) : (d.setI f i).sec = d.sec := rfl
@[simp] theorem Dev.setI_host (d : Dev) (f : Fld) (i : Int) : (d.setI f i).host = d.host := rfl
@[simp] theorem Dev.setI_jobs (d : Dev) (f : Fld) (i : Int) : (d.setI f i).jobs = d.jobs := rfl
@[simp] theorem Dev.setI_mem (d : Dev) (f : Fld) (i : Int) : (d.setI f i).mem = d.mem := rfl
@[simp] theorem Dev.setI_mc (d : Dev) (f : Fld) (i : Int) : (d.setI f i).mc = d.mc := rfl
@[simp] theorem Dev.setI_tst (d : Dev) (f : Fld) (i : Int) : (d.setI f i).tst = d.tst := rfl
@[simp] theorem Dev.setI_pwr (d : Dev) (f : Fld) (i : Int) : (d.setI f i).pwr = d.pwr := rfl
@[simp] theorem Dev.setI_misc (d : Dev) (f : Fld) (i : Int) : (d.setI f i).misc = d.misc := rfl
@[simp] theorem Dev.stg_setI (d : Dev) (f : Fld) (i : Int) (h : Fld) : (d.setI f i).stg h = d.stg h := rfl
@[simp] theorem Dev.deck_setI (d : Dev) (f : Fld) (i : Int) (m : Nat) : (d.setI f i).deck m = d.deck m := rfl

/-! ### bump -/

@[simp] theorem Dev.bump_staged (d : Dev) (f : Fld) (k : Nat) : (d.bump f k).staged = d.staged := rfl
@[simp] theorem Dev.bump_rdata (d : Dev) (f : Fld) (k : Nat) : (d.bump f k).rdata = d.rdata := rfl
@[simp] theorem Dev.bump_blkPend (d : Dev) (f : Fld) (k : Nat) : (d.bump f k).blkPend = d.blkPend := rfl
@[simp] theorem Dev.bump_decks (d : Dev) (f : Fld) (k : Nat) : (d.bump f k).decks = d.decks := rfl
@[simp] theorem Dev.bump_dies (d : Dev) (f : Fld) (k : Nat) : (d.bump f k).dies = d.dies := rfl
@[simp] theorem Dev.bump_flt (d : Dev) (f : Fld) (k : Nat) : (d.bump f k).flt = d.flt := rfl
@[simp] theorem Dev.bump_ctrls (d : Dev) (f : Fld) (k : Nat) : (d.bump f k).ctrls = d.ctrls := rfl
@[simp] theorem Dev.bump_brk (d : Dev) (f : Fld) (k : Nat) : (d.bump f k).brk = d.brk := rfl
@[simp] theorem Dev.bump_ages (d : Dev) (f : Fld) (k : Nat) : (d.bump f k).ages = d.ages := rfl
@[simp] theorem Dev.bump_who (d : Dev) (f : Fld) (k : Nat) : (d.bump f k).who = d.who := rfl
@[simp] theorem Dev.bump_led (d : Dev) (f : Fld) (k : Nat) : (d.bump f k).led = d.led := rfl
@[simp] theorem Dev.bump_plait (d : Dev) (f : Fld) (k : Nat) : (d.bump f k).plait = d.plait := rfl
@[simp] theorem Dev.bump_load (d : Dev) (f : Fld) (k : Nat) : (d.bump f k).load = d.load := rfl
@[simp] theorem Dev.bump_reload (d : Dev) (f : Fld) (k : Nat) : (d.bump f k).reload = d.reload := rfl
@[simp] theorem Dev.bump_flash (d : Dev) (f : Fld) (k : Nat) : (d.bump f k).flash = d.flash := rfl
@[simp] theorem Dev.bump_sec (d : Dev) (f : Fld) (k : Nat) : (d.bump f k).sec = d.sec := rfl
@[simp] theorem Dev.bump_host (d : Dev) (f : Fld) (k : Nat) : (d.bump f k).host = d.host := rfl
@[simp] theorem Dev.bump_jobs (d : Dev) (f : Fld) (k : Nat) : (d.bump f k).jobs = d.jobs := rfl
@[simp] theorem Dev.bump_mem (d : Dev) (f : Fld) (k : Nat) : (d.bump f k).mem = d.mem := rfl
@[simp] theorem Dev.bump_mc (d : Dev) (f : Fld) (k : Nat) : (d.bump f k).mc = d.mc := rfl
@[simp] theorem Dev.bump_tst (d : Dev) (f : Fld) (k : Nat) : (d.bump f k).tst = d.tst := rfl
@[simp] theorem Dev.bump_pwr (d : Dev) (f : Fld) (k : Nat) : (d.bump f k).pwr = d.pwr := rfl
@[simp] theorem Dev.bump_misc (d : Dev) (f : Fld) (k : Nat) : (d.bump f k).misc = d.misc := rfl
@[simp] theorem Dev.stg_bump (d : Dev) (f : Fld) (k : Nat) (h : Fld) : (d.bump f k).stg h = d.stg h := rfl
@[simp] theorem Dev.deck_bump (d : Dev) (f : Fld) (k : Nat) (m : Nat) : (d.bump f k).deck m = d.deck m := rfl

/-! ### setBoth -/

@[simp] theorem Dev.setBoth_rdata (d : Dev) (f : Fld) (v : Nat) : (d.setBoth f v).rdata = d.rdata := rfl
@[simp] theorem Dev.setBoth_blkPend (d : Dev) (f : Fld) (v : Nat) : (d.setBoth f v).blkPend = d.blkPend := rfl
@[simp] theorem Dev.setBoth_decks (d : Dev) (f : Fld) (v : Nat) : (d.setBoth f v).decks = d.decks := rfl
@[simp] theorem Dev.setBoth_dies (d : Dev) (f : Fld) (v : Nat) : (d.setBoth f v).dies = d.dies := rfl
@[simp] theorem Dev.setBoth_flt (d : Dev) (f : Fld) (v : Nat) : (d.setBoth f v).flt = d.flt := rfl
@[simp] theorem Dev.setBoth_ctrls (d : Dev) (f : Fld) (v : Nat) : (d.setBoth f v).ctrls = d.ctrls := rfl
@[simp] theorem Dev.setBoth_brk (d : Dev) (f : Fld) (v : Nat) : (d.setBoth f v).brk = d.brk := rfl
@[simp] theorem Dev.setBoth_ages (d : Dev) (f : Fld) (v : Nat) : (d.setBoth f v).ages = d.ages := rfl
@[simp] theorem Dev.setBoth_who (d : Dev) (f : Fld) (v : Nat) : (d.setBoth f v).who = d.who := rfl
@[simp] theorem Dev.setBoth_led (d : Dev) (f : Fld) (v : Nat) : (d.setBoth f v).led = d.led := rfl
@[simp] theorem Dev.setBoth_plait (d : Dev) (f : Fld) (v : Nat) : (d.setBoth f v).plait = d.plait := rfl
@[simp] theorem Dev.setBoth_load (d : Dev) (f : Fld) (v : Nat) : (d.setBoth f v).load = d.load := rfl
@[simp] theorem Dev.setBoth_reload (d : Dev) (f : Fld) (v : Nat) : (d.setBoth f v).reload = d.reload := rfl
@[simp] theorem Dev.setBoth_flash (d : Dev) (f : Fld) (v : Nat) : (d.setBoth f v).flash = d.flash := rfl
@[simp] theorem Dev.setBoth_sec (d : Dev) (f : Fld) (v : Nat) : (d.setBoth f v).sec = d.sec := rfl
@[simp] theorem Dev.setBoth_host (d : Dev) (f : Fld) (v : Nat) : (d.setBoth f v).host = d.host := rfl
@[simp] theorem Dev.setBoth_jobs (d : Dev) (f : Fld) (v : Nat) : (d.setBoth f v).jobs = d.jobs := rfl
@[simp] theorem Dev.setBoth_mem (d : Dev) (f : Fld) (v : Nat) : (d.setBoth f v).mem = d.mem := rfl
@[simp] theorem Dev.setBoth_mc (d : Dev) (f : Fld) (v : Nat) : (d.setBoth f v).mc = d.mc := rfl
@[simp] theorem Dev.setBoth_tst (d : Dev) (f : Fld) (v : Nat) : (d.setBoth f v).tst = d.tst := rfl
@[simp] theorem Dev.setBoth_pwr (d : Dev) (f : Fld) (v : Nat) : (d.setBoth f v).pwr = d.pwr := rfl
@[simp] theorem Dev.setBoth_misc (d : Dev) (f : Fld) (v : Nat) : (d.setBoth f v).misc = d.misc := rfl
@[simp] theorem Dev.deck_setBoth (d : Dev) (f : Fld) (v : Nat) (m : Nat) : (d.setBoth f v).deck m = d.deck m := rfl

/-! ### sets -/

@[simp] theorem Dev.sets_staged (d : Dev) (l : List (Fld × Nat)) : (d.sets l).staged = d.staged := by rw [Dev.sets_eq]
@[simp] theorem Dev.sets_rdata (d : Dev) (l : List (Fld × Nat)) : (d.sets l).rdata = d.rdata := by rw [Dev.sets_eq]
@[simp] theorem Dev.sets_blkPend (d : Dev) (l : List (Fld × Nat)) : (d.sets l).blkPend = d.blkPend := by rw [Dev.sets_eq]
@[simp] theorem Dev.sets_decks (d : Dev) (l : List (Fld × Nat)) : (d.sets l).decks = d.decks := by rw [Dev.sets_eq]
@[simp] theorem Dev.sets_dies (d : Dev) (l : List (Fld × Nat)) : (d.sets l).dies = d.dies := by rw [Dev.sets_eq]
@[simp] theorem Dev.sets_flt (d : Dev) (l : List (Fld × Nat)) : (d.sets l).flt = d.flt := by rw [Dev.sets_eq]
@[simp] theorem Dev.sets_ctrls (d : Dev) (l : List (Fld × Nat)) : (d.sets l).ctrls = d.ctrls := by rw [Dev.sets_eq]
@[simp] theorem Dev.sets_brk (d : Dev) (l : List (Fld × Nat)) : (d.sets l).brk = d.brk := by rw [Dev.sets_eq]
@[simp] theorem Dev.sets_ages (d : Dev) (l : List (Fld × Nat)) : (d.sets l).ages = d.ages := by rw [Dev.sets_eq]
@[simp] theorem Dev.sets_who (d : Dev) (l : List (Fld × Nat)) : (d.sets l).who = d.who := by rw [Dev.sets_eq]
@[simp] theorem Dev.sets_led (d : Dev) (l : List (Fld × Nat)) : (d.sets l).led = d.led := by rw [Dev.sets_eq]
@[simp] theorem Dev.sets_plait (d : Dev) (l : List (Fld × Nat)) : (d.sets l).plait = d.plait := by rw [Dev.sets_eq]
@[simp] theorem Dev.sets_load (d : Dev) (l : List (Fld × Nat)) : (d.sets l).load = d.load := by rw [Dev.sets_eq]
@[simp] theorem Dev.sets_reload (d : Dev) (l : List (Fld × Nat)) : (d.sets l).reload = d.reload := by rw [Dev.sets_eq]
@[simp] theorem Dev.sets_flash (d : Dev) (l : List (Fld × Nat)) : (d.sets l).flash = d.flash := by rw [Dev.sets_eq]
@[simp] theorem Dev.sets_sec (d : Dev) (l : List (Fld × Nat)) : (d.sets l).sec = d.sec := by rw [Dev.sets_eq]
@[simp] theorem Dev.sets_host (d : Dev) (l : List (Fld × Nat)) : (d.sets l).host = d.host := by rw [Dev.sets_eq]
@[simp] theorem Dev.sets_jobs (d : Dev) (l : List (Fld × Nat)) : (d.sets l).jobs = d.jobs := by rw [Dev.sets_eq]
@[simp] theorem Dev.sets_mem (d : Dev) (l : List (Fld × Nat)) : (d.sets l).mem = d.mem := by rw [Dev.sets_eq]
@[simp] theorem Dev.sets_mc (d : Dev) (l : List (Fld × Nat)) : (d.sets l).mc = d.mc := by rw [Dev.sets_eq]
@[simp] theorem Dev.sets_tst (d : Dev) (l : List (Fld × Nat)) : (d.sets l).tst = d.tst := by rw [Dev.sets_eq]
@[simp] theorem Dev.sets_pwr (d : Dev) (l : List (Fld × Nat)) : (d.sets l).pwr = d.pwr := by rw [Dev.sets_eq]
@[simp] theorem Dev.sets_misc (d : Dev) (l : List (Fld × Nat)) : (d.sets l).misc = d.misc := by rw [Dev.sets_eq]

/-! ### onDeck -/

@[simp] theorem Dev.onDeck_regs (d : Dev) (n : Nat) (g : Deck → Deck) : (d.onDeck n g).regs = d.regs := rfl
@[simp] theorem Dev.onDeck_staged (d : Dev) (n : Nat) (g : Deck → Deck) : (d.onDeck n g).staged = d.staged := rfl
@[simp] theorem Dev.onDeck_rdata (d : Dev) (n : Nat) (g : Deck → Deck) : (d.onDeck n g).rdata = d.rdata := rfl
@[simp] theorem Dev.onDeck_blkPend (d : Dev) (n : Nat) (g : Deck → Deck) : (d.onDeck n g).blkPend = d.blkPend := rfl
@[simp] theorem Dev.onDeck_dies (d : Dev) (n : Nat) (g : Deck → Deck) : (d.onDeck n g).dies = d.dies := rfl
@[simp] theorem Dev.onDeck_flt (d : Dev) (n : Nat) (g : Deck → Deck) : (d.onDeck n g).flt = d.flt := rfl
@[simp] theorem Dev.onDeck_ctrls (d : Dev) (n : Nat) (g : Deck → Deck) : (d.onDeck n g).ctrls = d.ctrls := rfl
@[simp] theorem Dev.onDeck_brk (d : Dev) (n : Nat) (g : Deck → Deck) : (d.onDeck n g).brk = d.brk := rfl
@[simp] theorem Dev.onDeck_ages (d : Dev) (n : Nat) (g : Deck → Deck) : (d.onDeck n g).ages = d.ages := rfl
@[simp] theorem Dev.onDeck_who (d : Dev) (n : Nat) (g : Deck → Deck) : (d.onDeck n g).who = d.who := rfl
@[simp] theorem Dev.onDeck_led (d : Dev) (n : Nat) (g : Deck → Deck) : (d.onDeck n g).led = d.led := rfl
@[simp] theorem Dev.onDeck_plait (d : Dev) (n : Nat) (g : Deck → Deck) : (d.onDeck n g).plait = d.plait := rfl
@[simp] theorem Dev.onDeck_load (d : Dev) (n : Nat) (g : Deck → Deck) : (d.onDeck n g).load = d.load := rfl
@[simp] theorem Dev.onDeck_reload (d : Dev) (n : Nat) (g : Deck → Deck) : (d.onDeck n g).reload = d.reload := rfl
@[simp] theorem Dev.onDeck_flash (d : Dev) (n : Nat) (g : Deck → Deck) : (d.onDeck n g).flash = d.flash := rfl
@[simp] theorem Dev.onDeck_sec (d : Dev) (n : Nat) (g : Deck → Deck) : (d.onDeck n g).sec = d.sec := rfl
@[simp] theorem Dev.onDeck_host (d : Dev) (n : Nat) (g : Deck → Deck) : (d.onDeck n g).host = d.host := rfl
@[simp] theorem Dev.onDeck_jobs (d : Dev) (n : Nat) (g : Deck → Deck) : (d.onDeck n g).jobs = d.jobs := rfl
@[simp] theorem Dev.onDeck_mem (d : Dev) (n : Nat) (g : Deck → Deck) : (d.onDeck n g).mem = d.mem := rfl
@[simp] theorem Dev.onDeck_mc (d : Dev) (n : Nat) (g : Deck → Deck) : (d.onDeck n g).mc = d.mc := rfl
@[simp] theorem Dev.onDeck_tst (d : Dev) (n : Nat) (g : Deck → Deck) : (d.onDeck n g).tst = d.tst := rfl
@[simp] theorem Dev.onDeck_pwr (d : Dev) (n : Nat) (g : Deck → Deck) : (d.onDeck n g).pwr = d.pwr := rfl
@[simp] theorem Dev.onDeck_misc (d : Dev) (n : Nat) (g : Deck → Deck) : (d.onDeck n g).misc = d.misc := rfl
@[simp] theorem Dev.get_onDeck (d : Dev) (n : Nat) (g : Deck → Deck) (h : Fld) : (d.onDeck n g).get h = d.get h := rfl
@[simp] theorem Dev.stg_onDeck (d : Dev) (n : Nat) (g : Deck → Deck) (h : Fld) : (d.onDeck n g).stg h = d.stg h := rfl

/-! ### onSlot -/

@[simp] theorem Dev.onSlot_regs (d : Dev) (n s : Nat) (g : Slot → Slot) : (d.onSlot n s g).regs = d.regs := rfl
@[simp] theorem Dev.onSlot_staged (d : Dev) (n s : Nat) (g : Slot → Slot) : (d.onSlot n s g).staged = d.staged := rfl
@[simp] theorem Dev.onSlot_rdata (d : Dev) (n s : Nat) (g : Slot → Slot) : (d.onSlot n s g).rdata = d.rdata := rfl
@[simp] theorem Dev.onSlot_blkPend (d : Dev) (n s : Nat) (g : Slot → Slot) : (d.onSlot n s g).blkPend = d.blkPend := rfl
@[simp] theorem Dev.onSlot_dies (d : Dev) (n s : Nat) (g : Slot → Slot) : (d.onSlot n s g).dies = d.dies := rfl
@[simp] theorem Dev.onSlot_flt (d : Dev) (n s : Nat) (g : Slot → Slot) : (d.onSlot n s g).flt = d.flt := rfl
@[simp] theorem Dev.onSlot_ctrls (d : Dev) (n s : Nat) (g : Slot → Slot) : (d.onSlot n s g).ctrls = d.ctrls := rfl
@[simp] theorem Dev.onSlot_brk (d : Dev) (n s : Nat) (g : Slot → Slot) : (d.onSlot n s g).brk = d.brk := rfl
@[simp] theorem Dev.onSlot_ages (d : Dev) (n s : Nat) (g : Slot → Slot) : (d.onSlot n s g).ages = d.ages := rfl
@[simp] theorem Dev.onSlot_who (d : Dev) (n s : Nat) (g : Slot → Slot) : (d.onSlot n s g).who = d.who := rfl
@[simp] theorem Dev.onSlot_led (d : Dev) (n s : Nat) (g : Slot → Slot) : (d.onSlot n s g).led = d.led := rfl
@[simp] theorem Dev.onSlot_plait (d : Dev) (n s : Nat) (g : Slot → Slot) : (d.onSlot n s g).plait = d.plait := rfl
@[simp] theorem Dev.onSlot_load (d : Dev) (n s : Nat) (g : Slot → Slot) : (d.onSlot n s g).load = d.load := rfl
@[simp] theorem Dev.onSlot_reload (d : Dev) (n s : Nat) (g : Slot → Slot) : (d.onSlot n s g).reload = d.reload := rfl
@[simp] theorem Dev.onSlot_flash (d : Dev) (n s : Nat) (g : Slot → Slot) : (d.onSlot n s g).flash = d.flash := rfl
@[simp] theorem Dev.onSlot_sec (d : Dev) (n s : Nat) (g : Slot → Slot) : (d.onSlot n s g).sec = d.sec := rfl
@[simp] theorem Dev.onSlot_host (d : Dev) (n s : Nat) (g : Slot → Slot) : (d.onSlot n s g).host = d.host := rfl
@[simp] theorem Dev.onSlot_jobs (d : Dev) (n s : Nat) (g : Slot → Slot) : (d.onSlot n s g).jobs = d.jobs := rfl
@[simp] theorem Dev.onSlot_mem (d : Dev) (n s : Nat) (g : Slot → Slot) : (d.onSlot n s g).mem = d.mem := rfl
@[simp] theorem Dev.onSlot_mc (d : Dev) (n s : Nat) (g : Slot → Slot) : (d.onSlot n s g).mc = d.mc := rfl
@[simp] theorem Dev.onSlot_tst (d : Dev) (n s : Nat) (g : Slot → Slot) : (d.onSlot n s g).tst = d.tst := rfl
@[simp] theorem Dev.onSlot_pwr (d : Dev) (n s : Nat) (g : Slot → Slot) : (d.onSlot n s g).pwr = d.pwr := rfl
@[simp] theorem Dev.onSlot_misc (d : Dev) (n s : Nat) (g : Slot → Slot) : (d.onSlot n s g).misc = d.misc := rfl
@[simp] theorem Dev.get_onSlot (d : Dev) (n s : Nat) (g : Slot → Slot) (h : Fld) : (d.onSlot n s g).get h = d.get h := rfl
@[simp] theorem Dev.stg_onSlot (d : Dev) (n s : Nat) (g : Slot → Slot) (h : Fld) : (d.onSlot n s g).stg h = d.stg h := rfl

/-! ### onLane -/

@[simp] theorem Dev.onLane_regs (d : Dev) (n l : Nat) (g : LaneSt → LaneSt) : (d.onLane n l g).regs = d.regs := rfl
@[simp] theorem Dev.onLane_staged (d : Dev) (n l : Nat) (g : LaneSt → LaneSt) : (d.onLane n l g).staged = d.staged := rfl
@[simp] theorem Dev.onLane_rdata (d : Dev) (n l : Nat) (g : LaneSt → LaneSt) : (d.onLane n l g).rdata = d.rdata := rfl
@[simp] theorem Dev.onLane_blkPend (d : Dev) (n l : Nat) (g : LaneSt → LaneSt) : (d.onLane n l g).blkPend = d.blkPend := rfl
@[simp] theorem Dev.onLane_dies (d : Dev) (n l : Nat) (g : LaneSt → LaneSt) : (d.onLane n l g).dies = d.dies := rfl
@[simp] theorem Dev.onLane_flt (d : Dev) (n l : Nat) (g : LaneSt → LaneSt) : (d.onLane n l g).flt = d.flt := rfl
@[simp] theorem Dev.onLane_ctrls (d : Dev) (n l : Nat) (g : LaneSt → LaneSt) : (d.onLane n l g).ctrls = d.ctrls := rfl
@[simp] theorem Dev.onLane_brk (d : Dev) (n l : Nat) (g : LaneSt → LaneSt) : (d.onLane n l g).brk = d.brk := rfl
@[simp] theorem Dev.onLane_ages (d : Dev) (n l : Nat) (g : LaneSt → LaneSt) : (d.onLane n l g).ages = d.ages := rfl
@[simp] theorem Dev.onLane_who (d : Dev) (n l : Nat) (g : LaneSt → LaneSt) : (d.onLane n l g).who = d.who := rfl
@[simp] theorem Dev.onLane_led (d : Dev) (n l : Nat) (g : LaneSt → LaneSt) : (d.onLane n l g).led = d.led := rfl
@[simp] theorem Dev.onLane_plait (d : Dev) (n l : Nat) (g : LaneSt → LaneSt) : (d.onLane n l g).plait = d.plait := rfl
@[simp] theorem Dev.onLane_load (d : Dev) (n l : Nat) (g : LaneSt → LaneSt) : (d.onLane n l g).load = d.load := rfl
@[simp] theorem Dev.onLane_reload (d : Dev) (n l : Nat) (g : LaneSt → LaneSt) : (d.onLane n l g).reload = d.reload := rfl
@[simp] theorem Dev.onLane_flash (d : Dev) (n l : Nat) (g : LaneSt → LaneSt) : (d.onLane n l g).flash = d.flash := rfl
@[simp] theorem Dev.onLane_sec (d : Dev) (n l : Nat) (g : LaneSt → LaneSt) : (d.onLane n l g).sec = d.sec := rfl
@[simp] theorem Dev.onLane_host (d : Dev) (n l : Nat) (g : LaneSt → LaneSt) : (d.onLane n l g).host = d.host := rfl
@[simp] theorem Dev.onLane_jobs (d : Dev) (n l : Nat) (g : LaneSt → LaneSt) : (d.onLane n l g).jobs = d.jobs := rfl
@[simp] theorem Dev.onLane_mem (d : Dev) (n l : Nat) (g : LaneSt → LaneSt) : (d.onLane n l g).mem = d.mem := rfl
@[simp] theorem Dev.onLane_mc (d : Dev) (n l : Nat) (g : LaneSt → LaneSt) : (d.onLane n l g).mc = d.mc := rfl
@[simp] theorem Dev.onLane_tst (d : Dev) (n l : Nat) (g : LaneSt → LaneSt) : (d.onLane n l g).tst = d.tst := rfl
@[simp] theorem Dev.onLane_pwr (d : Dev) (n l : Nat) (g : LaneSt → LaneSt) : (d.onLane n l g).pwr = d.pwr := rfl
@[simp] theorem Dev.onLane_misc (d : Dev) (n l : Nat) (g : LaneSt → LaneSt) : (d.onLane n l g).misc = d.misc := rfl
@[simp] theorem Dev.get_onLane (d : Dev) (n l : Nat) (g : LaneSt → LaneSt) (h : Fld) : (d.onLane n l g).get h = d.get h := rfl
@[simp] theorem Dev.stg_onLane (d : Dev) (n l : Nat) (g : LaneSt → LaneSt) (h : Fld) : (d.onLane n l g).stg h = d.stg h := rfl

/-! ### onMem -/

@[simp] theorem Dev.onMem_regs (d : Dev) (g : Mem → Mem) : (d.onMem g).regs = d.regs := rfl
@[simp] theorem Dev.onMem_staged (d : Dev) (g : Mem → Mem) : (d.onMem g).staged = d.staged := rfl
@[simp] theorem Dev.onMem_rdata (d : Dev) (g : Mem → Mem) : (d.onMem g).rdata = d.rdata := rfl
@[simp] theorem Dev.onMem_blkPend (d : Dev) (g : Mem → Mem) : (d.onMem g).blkPend = d.blkPend := rfl
@[simp] theorem Dev.onMem_decks (d : Dev) (g : Mem → Mem) : (d.onMem g).decks = d.decks := rfl
@[simp] theorem Dev.onMem_dies (d : Dev) (g : Mem → Mem) : (d.onMem g).dies = d.dies := rfl
@[simp] theorem Dev.onMem_flt (d : Dev) (g : Mem → Mem) : (d.onMem g).flt = d.flt := rfl
@[simp] theorem Dev.onMem_ctrls (d : Dev) (g : Mem → Mem) : (d.onMem g).ctrls = d.ctrls := rfl
@[simp] theorem Dev.onMem_brk (d : Dev) (g : Mem → Mem) : (d.onMem g).brk = d.brk := rfl
@[simp] theorem Dev.onMem_ages (d : Dev) (g : Mem → Mem) : (d.onMem g).ages = d.ages := rfl
@[simp] theorem Dev.onMem_who (d : Dev) (g : Mem → Mem) : (d.onMem g).who = d.who := rfl
@[simp] theorem Dev.onMem_led (d : Dev) (g : Mem → Mem) : (d.onMem g).led = d.led := rfl
@[simp] theorem Dev.onMem_plait (d : Dev) (g : Mem → Mem) : (d.onMem g).plait = d.plait := rfl
@[simp] theorem Dev.onMem_load (d : Dev) (g : Mem → Mem) : (d.onMem g).load = d.load := rfl
@[simp] theorem Dev.onMem_reload (d : Dev) (g : Mem → Mem) : (d.onMem g).reload = d.reload := rfl
@[simp] theorem Dev.onMem_flash (d : Dev) (g : Mem → Mem) : (d.onMem g).flash = d.flash := rfl
@[simp] theorem Dev.onMem_sec (d : Dev) (g : Mem → Mem) : (d.onMem g).sec = d.sec := rfl
@[simp] theorem Dev.onMem_host (d : Dev) (g : Mem → Mem) : (d.onMem g).host = d.host := rfl
@[simp] theorem Dev.onMem_jobs (d : Dev) (g : Mem → Mem) : (d.onMem g).jobs = d.jobs := rfl
@[simp] theorem Dev.onMem_mc (d : Dev) (g : Mem → Mem) : (d.onMem g).mc = d.mc := rfl
@[simp] theorem Dev.onMem_tst (d : Dev) (g : Mem → Mem) : (d.onMem g).tst = d.tst := rfl
@[simp] theorem Dev.onMem_pwr (d : Dev) (g : Mem → Mem) : (d.onMem g).pwr = d.pwr := rfl
@[simp] theorem Dev.onMem_misc (d : Dev) (g : Mem → Mem) : (d.onMem g).misc = d.misc := rfl
@[simp] theorem Dev.get_onMem (d : Dev) (g : Mem → Mem) (h : Fld) : (d.onMem g).get h = d.get h := rfl
@[simp] theorem Dev.stg_onMem (d : Dev) (g : Mem → Mem) (h : Fld) : (d.onMem g).stg h = d.stg h := rfl
@[simp] theorem Dev.deck_onMem (d : Dev) (g : Mem → Mem) (m : Nat) : (d.onMem g).deck m = d.deck m := rfl

/-! ### onMc -/

@[simp] theorem Dev.onMc_regs (d : Dev) (g : McSt → McSt) : (d.onMc g).regs = d.regs := rfl
@[simp] theorem Dev.onMc_staged (d : Dev) (g : McSt → McSt) : (d.onMc g).staged = d.staged := rfl
@[simp] theorem Dev.onMc_rdata (d : Dev) (g : McSt → McSt) : (d.onMc g).rdata = d.rdata := rfl
@[simp] theorem Dev.onMc_blkPend (d : Dev) (g : McSt → McSt) : (d.onMc g).blkPend = d.blkPend := rfl
@[simp] theorem Dev.onMc_decks (d : Dev) (g : McSt → McSt) : (d.onMc g).decks = d.decks := rfl
@[simp] theorem Dev.onMc_dies (d : Dev) (g : McSt → McSt) : (d.onMc g).dies = d.dies := rfl
@[simp] theorem Dev.onMc_flt (d : Dev) (g : McSt → McSt) : (d.onMc g).flt = d.flt := rfl
@[simp] theorem Dev.onMc_ctrls (d : Dev) (g : McSt → McSt) : (d.onMc g).ctrls = d.ctrls := rfl
@[simp] theorem Dev.onMc_brk (d : Dev) (g : McSt → McSt) : (d.onMc g).brk = d.brk := rfl
@[simp] theorem Dev.onMc_ages (d : Dev) (g : McSt → McSt) : (d.onMc g).ages = d.ages := rfl
@[simp] theorem Dev.onMc_who (d : Dev) (g : McSt → McSt) : (d.onMc g).who = d.who := rfl
@[simp] theorem Dev.onMc_led (d : Dev) (g : McSt → McSt) : (d.onMc g).led = d.led := rfl
@[simp] theorem Dev.onMc_plait (d : Dev) (g : McSt → McSt) : (d.onMc g).plait = d.plait := rfl
@[simp] theorem Dev.onMc_load (d : Dev) (g : McSt → McSt) : (d.onMc g).load = d.load := rfl
@[simp] theorem Dev.onMc_reload (d : Dev) (g : McSt → McSt) : (d.onMc g).reload = d.reload := rfl
@[simp] theorem Dev.onMc_flash (d : Dev) (g : McSt → McSt) : (d.onMc g).flash = d.flash := rfl
@[simp] theorem Dev.onMc_sec (d : Dev) (g : McSt → McSt) : (d.onMc g).sec = d.sec := rfl
@[simp] theorem Dev.onMc_host (d : Dev) (g : McSt → McSt) : (d.onMc g).host = d.host := rfl
@[simp] theorem Dev.onMc_jobs (d : Dev) (g : McSt → McSt) : (d.onMc g).jobs = d.jobs := rfl
@[simp] theorem Dev.onMc_mem (d : Dev) (g : McSt → McSt) : (d.onMc g).mem = d.mem := rfl
@[simp] theorem Dev.onMc_tst (d : Dev) (g : McSt → McSt) : (d.onMc g).tst = d.tst := rfl
@[simp] theorem Dev.onMc_pwr (d : Dev) (g : McSt → McSt) : (d.onMc g).pwr = d.pwr := rfl
@[simp] theorem Dev.onMc_misc (d : Dev) (g : McSt → McSt) : (d.onMc g).misc = d.misc := rfl
@[simp] theorem Dev.get_onMc (d : Dev) (g : McSt → McSt) (h : Fld) : (d.onMc g).get h = d.get h := rfl
@[simp] theorem Dev.stg_onMc (d : Dev) (g : McSt → McSt) (h : Fld) : (d.onMc g).stg h = d.stg h := rfl
@[simp] theorem Dev.deck_onMc (d : Dev) (g : McSt → McSt) (m : Nat) : (d.onMc g).deck m = d.deck m := rfl

/-! ### onCtrl -/

@[simp] theorem Dev.onCtrl_regs (d : Dev) (i : Nat) (g : Ctrl → Ctrl) : (d.onCtrl i g).regs = d.regs := rfl
@[simp] theorem Dev.onCtrl_staged (d : Dev) (i : Nat) (g : Ctrl → Ctrl) : (d.onCtrl i g).staged = d.staged := rfl
@[simp] theorem Dev.onCtrl_rdata (d : Dev) (i : Nat) (g : Ctrl → Ctrl) : (d.onCtrl i g).rdata = d.rdata := rfl
@[simp] theorem Dev.onCtrl_blkPend (d : Dev) (i : Nat) (g : Ctrl → Ctrl) : (d.onCtrl i g).blkPend = d.blkPend := rfl
@[simp] theorem Dev.onCtrl_decks (d : Dev) (i : Nat) (g : Ctrl → Ctrl) : (d.onCtrl i g).decks = d.decks := rfl
@[simp] theorem Dev.onCtrl_dies (d : Dev) (i : Nat) (g : Ctrl → Ctrl) : (d.onCtrl i g).dies = d.dies := rfl
@[simp] theorem Dev.onCtrl_flt (d : Dev) (i : Nat) (g : Ctrl → Ctrl) : (d.onCtrl i g).flt = d.flt := rfl
@[simp] theorem Dev.onCtrl_brk (d : Dev) (i : Nat) (g : Ctrl → Ctrl) : (d.onCtrl i g).brk = d.brk := rfl
@[simp] theorem Dev.onCtrl_ages (d : Dev) (i : Nat) (g : Ctrl → Ctrl) : (d.onCtrl i g).ages = d.ages := rfl
@[simp] theorem Dev.onCtrl_who (d : Dev) (i : Nat) (g : Ctrl → Ctrl) : (d.onCtrl i g).who = d.who := rfl
@[simp] theorem Dev.onCtrl_led (d : Dev) (i : Nat) (g : Ctrl → Ctrl) : (d.onCtrl i g).led = d.led := rfl
@[simp] theorem Dev.onCtrl_plait (d : Dev) (i : Nat) (g : Ctrl → Ctrl) : (d.onCtrl i g).plait = d.plait := rfl
@[simp] theorem Dev.onCtrl_load (d : Dev) (i : Nat) (g : Ctrl → Ctrl) : (d.onCtrl i g).load = d.load := rfl
@[simp] theorem Dev.onCtrl_reload (d : Dev) (i : Nat) (g : Ctrl → Ctrl) : (d.onCtrl i g).reload = d.reload := rfl
@[simp] theorem Dev.onCtrl_flash (d : Dev) (i : Nat) (g : Ctrl → Ctrl) : (d.onCtrl i g).flash = d.flash := rfl
@[simp] theorem Dev.onCtrl_sec (d : Dev) (i : Nat) (g : Ctrl → Ctrl) : (d.onCtrl i g).sec = d.sec := rfl
@[simp] theorem Dev.onCtrl_host (d : Dev) (i : Nat) (g : Ctrl → Ctrl) : (d.onCtrl i g).host = d.host := rfl
@[simp] theorem Dev.onCtrl_jobs (d : Dev) (i : Nat) (g : Ctrl → Ctrl) : (d.onCtrl i g).jobs = d.jobs := rfl
@[simp] theorem Dev.onCtrl_mem (d : Dev) (i : Nat) (g : Ctrl → Ctrl) : (d.onCtrl i g).mem = d.mem := rfl
@[simp] theorem Dev.onCtrl_mc (d : Dev) (i : Nat) (g : Ctrl → Ctrl) : (d.onCtrl i g).mc = d.mc := rfl
@[simp] theorem Dev.onCtrl_tst (d : Dev) (i : Nat) (g : Ctrl → Ctrl) : (d.onCtrl i g).tst = d.tst := rfl
@[simp] theorem Dev.onCtrl_pwr (d : Dev) (i : Nat) (g : Ctrl → Ctrl) : (d.onCtrl i g).pwr = d.pwr := rfl
@[simp] theorem Dev.onCtrl_misc (d : Dev) (i : Nat) (g : Ctrl → Ctrl) : (d.onCtrl i g).misc = d.misc := rfl
@[simp] theorem Dev.get_onCtrl (d : Dev) (i : Nat) (g : Ctrl → Ctrl) (h : Fld) : (d.onCtrl i g).get h = d.get h := rfl
@[simp] theorem Dev.stg_onCtrl (d : Dev) (i : Nat) (g : Ctrl → Ctrl) (h : Fld) : (d.onCtrl i g).stg h = d.stg h := rfl
@[simp] theorem Dev.deck_onCtrl (d : Dev) (i : Nat) (g : Ctrl → Ctrl) (m : Nat) : (d.onCtrl i g).deck m = d.deck m := rfl

/-! ### onCtx -/

@[simp] theorem Dev.onCtx_regs (d : Dev) (i : Nat) (g : Ctx → Ctx) : (d.onCtx i g).regs = d.regs := rfl
@[simp] theorem Dev.onCtx_staged (d : Dev) (i : Nat) (g : Ctx → Ctx) : (d.onCtx i g).staged = d.staged := rfl
@[simp] theorem Dev.onCtx_rdata (d : Dev) (i : Nat) (g : Ctx → Ctx) : (d.onCtx i g).rdata = d.rdata := rfl
@[simp] theorem Dev.onCtx_blkPend (d : Dev) (i : Nat) (g : Ctx → Ctx) : (d.onCtx i g).blkPend = d.blkPend := rfl
@[simp] theorem Dev.onCtx_decks (d : Dev) (i : Nat) (g : Ctx → Ctx) : (d.onCtx i g).decks = d.decks := rfl
@[simp] theorem Dev.onCtx_dies (d : Dev) (i : Nat) (g : Ctx → Ctx) : (d.onCtx i g).dies = d.dies := rfl
@[simp] theorem Dev.onCtx_flt (d : Dev) (i : Nat) (g : Ctx → Ctx) : (d.onCtx i g).flt = d.flt := rfl
@[simp] theorem Dev.onCtx_ctrls (d : Dev) (i : Nat) (g : Ctx → Ctx) : (d.onCtx i g).ctrls = d.ctrls := rfl
@[simp] theorem Dev.onCtx_brk (d : Dev) (i : Nat) (g : Ctx → Ctx) : (d.onCtx i g).brk = d.brk := rfl
@[simp] theorem Dev.onCtx_ages (d : Dev) (i : Nat) (g : Ctx → Ctx) : (d.onCtx i g).ages = d.ages := rfl
@[simp] theorem Dev.onCtx_who (d : Dev) (i : Nat) (g : Ctx → Ctx) : (d.onCtx i g).who = d.who := rfl
@[simp] theorem Dev.onCtx_led (d : Dev) (i : Nat) (g : Ctx → Ctx) : (d.onCtx i g).led = d.led := rfl
@[simp] theorem Dev.onCtx_plait (d : Dev) (i : Nat) (g : Ctx → Ctx) : (d.onCtx i g).plait = d.plait := rfl
@[simp] theorem Dev.onCtx_load (d : Dev) (i : Nat) (g : Ctx → Ctx) : (d.onCtx i g).load = d.load := rfl
@[simp] theorem Dev.onCtx_reload (d : Dev) (i : Nat) (g : Ctx → Ctx) : (d.onCtx i g).reload = d.reload := rfl
@[simp] theorem Dev.onCtx_flash (d : Dev) (i : Nat) (g : Ctx → Ctx) : (d.onCtx i g).flash = d.flash := rfl
@[simp] theorem Dev.onCtx_sec (d : Dev) (i : Nat) (g : Ctx → Ctx) : (d.onCtx i g).sec = d.sec := rfl
@[simp] theorem Dev.onCtx_jobs (d : Dev) (i : Nat) (g : Ctx → Ctx) : (d.onCtx i g).jobs = d.jobs := rfl
@[simp] theorem Dev.onCtx_mem (d : Dev) (i : Nat) (g : Ctx → Ctx) : (d.onCtx i g).mem = d.mem := rfl
@[simp] theorem Dev.onCtx_mc (d : Dev) (i : Nat) (g : Ctx → Ctx) : (d.onCtx i g).mc = d.mc := rfl
@[simp] theorem Dev.onCtx_tst (d : Dev) (i : Nat) (g : Ctx → Ctx) : (d.onCtx i g).tst = d.tst := rfl
@[simp] theorem Dev.onCtx_pwr (d : Dev) (i : Nat) (g : Ctx → Ctx) : (d.onCtx i g).pwr = d.pwr := rfl
@[simp] theorem Dev.onCtx_misc (d : Dev) (i : Nat) (g : Ctx → Ctx) : (d.onCtx i g).misc = d.misc := rfl
@[simp] theorem Dev.get_onCtx (d : Dev) (i : Nat) (g : Ctx → Ctx) (h : Fld) : (d.onCtx i g).get h = d.get h := rfl
@[simp] theorem Dev.stg_onCtx (d : Dev) (i : Nat) (g : Ctx → Ctx) (h : Fld) : (d.onCtx i g).stg h = d.stg h := rfl
@[simp] theorem Dev.deck_onCtx (d : Dev) (i : Nat) (g : Ctx → Ctx) (m : Nat) : (d.onCtx i g).deck m = d.deck m := rfl

/-! ### onNs -/

@[simp] theorem Dev.onNs_regs (d : Dev) (i : Nat) (g : Ns → Ns) : (d.onNs i g).regs = d.regs := rfl
@[simp] theorem Dev.onNs_staged (d : Dev) (i : Nat) (g : Ns → Ns) : (d.onNs i g).staged = d.staged := rfl
@[simp] theorem Dev.onNs_rdata (d : Dev) (i : Nat) (g : Ns → Ns) : (d.onNs i g).rdata = d.rdata := rfl
@[simp] theorem Dev.onNs_blkPend (d : Dev) (i : Nat) (g : Ns → Ns) : (d.onNs i g).blkPend = d.blkPend := rfl
@[simp] theorem Dev.onNs_decks (d : Dev) (i : Nat) (g : Ns → Ns) : (d.onNs i g).decks = d.decks := rfl
@[simp] theorem Dev.onNs_dies (d : Dev) (i : Nat) (g : Ns → Ns) : (d.onNs i g).dies = d.dies := rfl
@[simp] theorem Dev.onNs_flt (d : Dev) (i : Nat) (g : Ns → Ns) : (d.onNs i g).flt = d.flt := rfl
@[simp] theorem Dev.onNs_ctrls (d : Dev) (i : Nat) (g : Ns → Ns) : (d.onNs i g).ctrls = d.ctrls := rfl
@[simp] theorem Dev.onNs_brk (d : Dev) (i : Nat) (g : Ns → Ns) : (d.onNs i g).brk = d.brk := rfl
@[simp] theorem Dev.onNs_ages (d : Dev) (i : Nat) (g : Ns → Ns) : (d.onNs i g).ages = d.ages := rfl
@[simp] theorem Dev.onNs_who (d : Dev) (i : Nat) (g : Ns → Ns) : (d.onNs i g).who = d.who := rfl
@[simp] theorem Dev.onNs_led (d : Dev) (i : Nat) (g : Ns → Ns) : (d.onNs i g).led = d.led := rfl
@[simp] theorem Dev.onNs_plait (d : Dev) (i : Nat) (g : Ns → Ns) : (d.onNs i g).plait = d.plait := rfl
@[simp] theorem Dev.onNs_load (d : Dev) (i : Nat) (g : Ns → Ns) : (d.onNs i g).load = d.load := rfl
@[simp] theorem Dev.onNs_reload (d : Dev) (i : Nat) (g : Ns → Ns) : (d.onNs i g).reload = d.reload := rfl
@[simp] theorem Dev.onNs_flash (d : Dev) (i : Nat) (g : Ns → Ns) : (d.onNs i g).flash = d.flash := rfl
@[simp] theorem Dev.onNs_sec (d : Dev) (i : Nat) (g : Ns → Ns) : (d.onNs i g).sec = d.sec := rfl
@[simp] theorem Dev.onNs_jobs (d : Dev) (i : Nat) (g : Ns → Ns) : (d.onNs i g).jobs = d.jobs := rfl
@[simp] theorem Dev.onNs_mem (d : Dev) (i : Nat) (g : Ns → Ns) : (d.onNs i g).mem = d.mem := rfl
@[simp] theorem Dev.onNs_mc (d : Dev) (i : Nat) (g : Ns → Ns) : (d.onNs i g).mc = d.mc := rfl
@[simp] theorem Dev.onNs_tst (d : Dev) (i : Nat) (g : Ns → Ns) : (d.onNs i g).tst = d.tst := rfl
@[simp] theorem Dev.onNs_pwr (d : Dev) (i : Nat) (g : Ns → Ns) : (d.onNs i g).pwr = d.pwr := rfl
@[simp] theorem Dev.onNs_misc (d : Dev) (i : Nat) (g : Ns → Ns) : (d.onNs i g).misc = d.misc := rfl
@[simp] theorem Dev.get_onNs (d : Dev) (i : Nat) (g : Ns → Ns) (h : Fld) : (d.onNs i g).get h = d.get h := rfl
@[simp] theorem Dev.stg_onNs (d : Dev) (i : Nat) (g : Ns → Ns) (h : Fld) : (d.onNs i g).stg h = d.stg h := rfl
@[simp] theorem Dev.deck_onNs (d : Dev) (i : Nat) (g : Ns → Ns) (m : Nat) : (d.onNs i g).deck m = d.deck m := rfl

/-! ### onUnit -/

@[simp] theorem Dev.onUnit_regs (d : Dev) (u : Nat) (g : TUnit → TUnit) : (d.onUnit u g).regs = d.regs := rfl
@[simp] theorem Dev.onUnit_staged (d : Dev) (u : Nat) (g : TUnit → TUnit) : (d.onUnit u g).staged = d.staged := rfl
@[simp] theorem Dev.onUnit_rdata (d : Dev) (u : Nat) (g : TUnit → TUnit) : (d.onUnit u g).rdata = d.rdata := rfl
@[simp] theorem Dev.onUnit_blkPend (d : Dev) (u : Nat) (g : TUnit → TUnit) : (d.onUnit u g).blkPend = d.blkPend := rfl
@[simp] theorem Dev.onUnit_decks (d : Dev) (u : Nat) (g : TUnit → TUnit) : (d.onUnit u g).decks = d.decks := rfl
@[simp] theorem Dev.onUnit_dies (d : Dev) (u : Nat) (g : TUnit → TUnit) : (d.onUnit u g).dies = d.dies := rfl
@[simp] theorem Dev.onUnit_flt (d : Dev) (u : Nat) (g : TUnit → TUnit) : (d.onUnit u g).flt = d.flt := rfl
@[simp] theorem Dev.onUnit_ctrls (d : Dev) (u : Nat) (g : TUnit → TUnit) : (d.onUnit u g).ctrls = d.ctrls := rfl
@[simp] theorem Dev.onUnit_brk (d : Dev) (u : Nat) (g : TUnit → TUnit) : (d.onUnit u g).brk = d.brk := rfl
@[simp] theorem Dev.onUnit_ages (d : Dev) (u : Nat) (g : TUnit → TUnit) : (d.onUnit u g).ages = d.ages := rfl
@[simp] theorem Dev.onUnit_who (d : Dev) (u : Nat) (g : TUnit → TUnit) : (d.onUnit u g).who = d.who := rfl
@[simp] theorem Dev.onUnit_led (d : Dev) (u : Nat) (g : TUnit → TUnit) : (d.onUnit u g).led = d.led := rfl
@[simp] theorem Dev.onUnit_plait (d : Dev) (u : Nat) (g : TUnit → TUnit) : (d.onUnit u g).plait = d.plait := rfl
@[simp] theorem Dev.onUnit_load (d : Dev) (u : Nat) (g : TUnit → TUnit) : (d.onUnit u g).load = d.load := rfl
@[simp] theorem Dev.onUnit_reload (d : Dev) (u : Nat) (g : TUnit → TUnit) : (d.onUnit u g).reload = d.reload := rfl
@[simp] theorem Dev.onUnit_flash (d : Dev) (u : Nat) (g : TUnit → TUnit) : (d.onUnit u g).flash = d.flash := rfl
@[simp] theorem Dev.onUnit_sec (d : Dev) (u : Nat) (g : TUnit → TUnit) : (d.onUnit u g).sec = d.sec := rfl
@[simp] theorem Dev.onUnit_host (d : Dev) (u : Nat) (g : TUnit → TUnit) : (d.onUnit u g).host = d.host := rfl
@[simp] theorem Dev.onUnit_jobs (d : Dev) (u : Nat) (g : TUnit → TUnit) : (d.onUnit u g).jobs = d.jobs := rfl
@[simp] theorem Dev.onUnit_mem (d : Dev) (u : Nat) (g : TUnit → TUnit) : (d.onUnit u g).mem = d.mem := rfl
@[simp] theorem Dev.onUnit_mc (d : Dev) (u : Nat) (g : TUnit → TUnit) : (d.onUnit u g).mc = d.mc := rfl
@[simp] theorem Dev.onUnit_pwr (d : Dev) (u : Nat) (g : TUnit → TUnit) : (d.onUnit u g).pwr = d.pwr := rfl
@[simp] theorem Dev.onUnit_misc (d : Dev) (u : Nat) (g : TUnit → TUnit) : (d.onUnit u g).misc = d.misc := rfl
@[simp] theorem Dev.get_onUnit (d : Dev) (u : Nat) (g : TUnit → TUnit) (h : Fld) : (d.onUnit u g).get h = d.get h := rfl
@[simp] theorem Dev.stg_onUnit (d : Dev) (u : Nat) (g : TUnit → TUnit) (h : Fld) : (d.onUnit u g).stg h = d.stg h := rfl
@[simp] theorem Dev.deck_onUnit (d : Dev) (u : Nat) (g : TUnit → TUnit) (m : Nat) : (d.onUnit u g).deck m = d.deck m := rfl

/-! ### onVisits -/

@[simp] theorem Dev.onVisits_regs (d : Dev) (g : List Visit → List Visit) : (d.onVisits g).regs = d.regs := rfl
@[simp] theorem Dev.onVisits_staged (d : Dev) (g : List Visit → List Visit) : (d.onVisits g).staged = d.staged := rfl
@[simp] theorem Dev.onVisits_rdata (d : Dev) (g : List Visit → List Visit) : (d.onVisits g).rdata = d.rdata := rfl
@[simp] theorem Dev.onVisits_blkPend (d : Dev) (g : List Visit → List Visit) : (d.onVisits g).blkPend = d.blkPend := rfl
@[simp] theorem Dev.onVisits_decks (d : Dev) (g : List Visit → List Visit) : (d.onVisits g).decks = d.decks := rfl
@[simp] theorem Dev.onVisits_dies (d : Dev) (g : List Visit → List Visit) : (d.onVisits g).dies = d.dies := rfl
@[simp] theorem Dev.onVisits_flt (d : Dev) (g : List Visit → List Visit) : (d.onVisits g).flt = d.flt := rfl
@[simp] theorem Dev.onVisits_ctrls (d : Dev) (g : List Visit → List Visit) : (d.onVisits g).ctrls = d.ctrls := rfl
@[simp] theorem Dev.onVisits_brk (d : Dev) (g : List Visit → List Visit) : (d.onVisits g).brk = d.brk := rfl
@[simp] theorem Dev.onVisits_ages (d : Dev) (g : List Visit → List Visit) : (d.onVisits g).ages = d.ages := rfl
@[simp] theorem Dev.onVisits_who (d : Dev) (g : List Visit → List Visit) : (d.onVisits g).who = d.who := rfl
@[simp] theorem Dev.onVisits_led (d : Dev) (g : List Visit → List Visit) : (d.onVisits g).led = d.led := rfl
@[simp] theorem Dev.onVisits_plait (d : Dev) (g : List Visit → List Visit) : (d.onVisits g).plait = d.plait := rfl
@[simp] theorem Dev.onVisits_load (d : Dev) (g : List Visit → List Visit) : (d.onVisits g).load = d.load := rfl
@[simp] theorem Dev.onVisits_reload (d : Dev) (g : List Visit → List Visit) : (d.onVisits g).reload = d.reload := rfl
@[simp] theorem Dev.onVisits_flash (d : Dev) (g : List Visit → List Visit) : (d.onVisits g).flash = d.flash := rfl
@[simp] theorem Dev.onVisits_sec (d : Dev) (g : List Visit → List Visit) : (d.onVisits g).sec = d.sec := rfl
@[simp] theorem Dev.onVisits_host (d : Dev) (g : List Visit → List Visit) : (d.onVisits g).host = d.host := rfl
@[simp] theorem Dev.onVisits_jobs (d : Dev) (g : List Visit → List Visit) : (d.onVisits g).jobs = d.jobs := rfl
@[simp] theorem Dev.onVisits_mem (d : Dev) (g : List Visit → List Visit) : (d.onVisits g).mem = d.mem := rfl
@[simp] theorem Dev.onVisits_mc (d : Dev) (g : List Visit → List Visit) : (d.onVisits g).mc = d.mc := rfl
@[simp] theorem Dev.onVisits_pwr (d : Dev) (g : List Visit → List Visit) : (d.onVisits g).pwr = d.pwr := rfl
@[simp] theorem Dev.onVisits_misc (d : Dev) (g : List Visit → List Visit) : (d.onVisits g).misc = d.misc := rfl
@[simp] theorem Dev.get_onVisits (d : Dev) (g : List Visit → List Visit) (h : Fld) : (d.onVisits g).get h = d.get h := rfl
@[simp] theorem Dev.stg_onVisits (d : Dev) (g : List Visit → List Visit) (h : Fld) : (d.onVisits g).stg h = d.stg h := rfl
@[simp] theorem Dev.deck_onVisits (d : Dev) (g : List Visit → List Visit) (m : Nat) : (d.onVisits g).deck m = d.deck m := rfl

end Sys2Proof.Machine
end

