-- ==== Sys2Proof/Laws/Clock.lean ====
section
/-! SUPPORT. Laws/Clock.lean: what can happen to the clocks: one lemma per field of a reloaded counter, and what the passing of
ticks, a clock mark and a fetch do to them. Cite these instead of unfolding: a field of a clock compared by rfl may set Lean to
evaluate the counter. -/

namespace Sys2Proof.Machine

/-! ### A counter is set -/

@[simp] theorem Clock.setCounter_tick (c : Clock) (n v : Nat) : (c.setCounter n v).tick = c.tick := by rw [Clock.setCounter]

@[simp] theorem Clock.setCounter_stamp (c : Clock) (n v : Nat) : (c.setCounter n v).stamp = c.stamp := by rw [Clock.setCounter]

@[simp] theorem Clock.setCounter_ang (c : Clock) (n v : Nat) :
    (c.setCounter n v).ang = FMap.set (fun _ => 0) c.ang n v := by rw [Clock.setCounter]

@[simp] theorem Clock.counter_setCounter_self (c : Clock) (n v : Nat) : (c.setCounter n v).counter n = v := by
  simp [Clock.counter]

theorem Clock.counter_setCounter_ne (c : Clock) {n m : Nat} (v : Nat) (h : m ≠ n) :
    (c.setCounter n v).counter m = c.counter m := by
  simp [Clock.counter, FMap.get_set_ne _ _ _ h]

/-! ### Ticks pass (R51, R66) -/

/-- A deck's counter never moves backward (R51). -/
theorem Dev.counter_le_counterTick (d : Dev) (c : Clock) (n k : Nat) : c.counter n ≤ d.counterTick c n k := by
  unfold Dev.counterTick
  split
  · exact le_refl _
  · exact Nat.le_add_right _ _

/-- The counters of a list of decks after k ticks. -/
theorem counters_after (d : Dev) (c : Clock) (k : Nat) (l : List Nat) (c' : Clock) :
    let r := l.foldl (fun c' n => c'.setCounter n (d.counterTick c n k)) c'
    r.tick = c'.tick ∧ r.stamp = c'.stamp ∧ (∀ n, r.counter n = if n ∈ l then d.counterTick c n k else c'.counter n) ∧
      (FMap.canon (fun _ => 0) c'.ang = true → FMap.canon (fun _ => 0) r.ang = true) := by
  induction l generalizing c' with
  | nil => simp
  | cons m t ih =>
    obtain ⟨h1, h2, h3, h4⟩ := ih (c'.setCounter m (d.counterTick c m k))
    refine ⟨by simpa using h1, by simpa using h2, fun n => ?_, fun hc => h4 ?_⟩
    · rw [List.foldl_cons, h3 n]
      by_cases ht : n ∈ t
      · simp [ht]
      · by_cases hm : n = m
        · subst hm
          simp [ht]
        · simp [ht, hm, Clock.counter_setCounter_ne _ _ hm]
    · rw [Clock.setCounter_ang]
      exact FMap.canon_set hc _ _

/-- Everything that k ticks do to the clocks. -/
theorem ticks_clock (k : Nat) (c : Clock) (d : Dev) :
    (ticks k c d).1.tick = (c.tick + k) % 2 ^ 64 ∧ (ticks k c d).1.stamp = c.stamp ∧
      (∀ n, (ticks k c d).1.counter n = if n < 16 then d.counterTick c n k else c.counter n) ∧
      (FMap.canon (fun _ => 0) c.ang = true → FMap.canon (fun _ => 0) (ticks k c d).1.ang = true) := by
  obtain ⟨h1, h2, h3, h4⟩ := counters_after d c k (List.range 16) { c with tick := (c.tick + k) % 2 ^ 64 }
  refine ⟨h1, h2, fun n => ?_, h4⟩
  have h := h3 n
  simp only [List.mem_range] at h
  exact h

/-- An idle tick lets one tick pass, or the 40 of R565 in DEEP. -/
theorem idleTick_clock (c : Clock) (d : Dev) : (idleTick c d).1 = (ticks (idleTicks d) c d).1 := by
  rw [idleTick, apply_ite Prod.fst, ite_self]

/-- An epoch boundary lets the ticks pass that are left of the epoch. -/
theorem epochBoundary_clock (c : Clock) (d : Dev) :
    (epochBoundary c d).1 = (ticks (epochTicks - c.tick % epochTicks) c d).1 := by rw [epochBoundary]

/-! ### Marks and fetches (R55, R415) -/

/-- A reload is to the next place of its wedge, never back (R55). -/
theorem le_reloadTo (g w : Nat) : g ≤ reloadTo g w := by
  unfold reloadTo
  dsimp only
  split <;> omega

/-- A clock mark leaves the clocks alone, or reloads its deck's counter. -/
theorem clockMark_clock (c : Clock) (n : Nat) (idx : Option Nat) (eps : List (Nat × Int)) (fire : Clock → List Nat → Dev → Dev)
    (d : Dev) :
    (clockMark c n idx eps fire d).1 = c ∨
      ∃ w, (clockMark c n idx eps fire d).1 = c.setCounter n (reloadTo (c.grains n) w * 2 ^ 24) := by
  rw [clockMark]
  split
  · exact .inl rfl
  · split
    · rw [markSearch.eq_def]
      cases idx with
      | none => exact .inl rfl
      | some w =>
        dsimp only
        split
        · split
          · exact .inr ⟨w, rfl⟩
          · exact .inl rfl
        · rw [if_neg (by simp)]
          exact .inl rfl
    · split <;> exact .inl rfl

/-- A fetch leaves the clocks alone, or takes the next stamp. -/
theorem commandFetch_clock (cid sq : Nat) (hc : HostCmd) (c : Clock) (d : Dev) :
    (commandFetch cid sq hc c d).1 = c ∨ (commandFetch cid sq hc c d).1 = { c with stamp := c.stamp + 1 } := by
  rw [commandFetch]
  split
  · exact .inl rfl
  · dsimp only
    split
    · exact .inl rfl
    · split
      · split
        · exact .inl rfl
        · exact .inr rfl
      · split
        · split
          · exact .inl rfl
          · exact .inr rfl
        · split
          · exact .inl rfl
          · exact .inr rfl

end Sys2Proof.Machine
end

