-- ==== Sys2Proof/Laws/Memory.lean ====
section
/-! SUPPORT. Laws/Memory.lean: every operation on the DRAM keeps the canonical form, and what a byte reads as after a
write. -/

namespace Sys2Proof.Machine

theorem Mem.wf_iff (m : Mem) :
    m.wf = true ↔ m.cells.Pairwise (fun a b => a.1 < b.1) ∧ ∀ e ∈ m.cells, m.base e.1 ≠ some e.2 := by
  simp only [Mem.wf, FMap.canon_iff, List.pairwise_map, List.forall_mem_map]
  exact and_congr_right fun _ => ⟨fun h e he => (h e he).symm, fun h e he => (h e he).symm⟩

@[simp] theorem Mem.base_cells (m : Mem) (c : FMap Byte) : Mem.base { m with cells := c } = m.base := rfl

@[simp] theorem Mem.base_write (m : Mem) (a : Nat) (v : Byte) : (m.write a v).base = m.base := by
  unfold Mem.write
  split <;> rfl

theorem Mem.wf_write {m : Mem} (h : m.wf = true) (a : Nat) (v : Byte) : (m.write a v).wf = true := by
  rw [Mem.wf_iff] at h ⊢
  rw [Mem.base_write]
  unfold Mem.write
  split
  · exact ⟨h.1.filter _, fun e he => h.2 e (List.mem_filter.1 he).1⟩
  · refine ⟨FMap.rising_ins h.1 a v, fun e he => ?_⟩
    rcases FMap.mem_ins he with rfl | he
    · assumption
    · exact h.2 e he

theorem Mem.wf_writes {m : Mem} (h : m.wf = true) (a : Nat) (l : List Byte) : (m.writes a l).wf = true := by
  induction l generalizing m a with
  | nil => exact h
  | cons v t ih => exact ih (Mem.wf_write h a v) (a + 1)

theorem Mem.wf_fill {m : Mem} (h : m.wf = true) (page n pat : Nat) : (m.fill page n pat).wf = true := by
  rw [Mem.wf_iff] at h ⊢
  refine ⟨h.1.filter _, fun e he => ?_⟩
  obtain ⟨hm, hf⟩ := List.mem_filter.1 he
  have := h.2 e hm
  simp only [Bool.not_eq_true', fillHas] at hf
  simpa [Mem.fill, Mem.base, fillHas, hf] using this

@[simp] theorem Mem.wf_poisonAdd (m : Mem) (w : Nat) : (m.poisonAdd w).wf = m.wf := rfl

@[simp] theorem Mem.wf_poisonDel (m : Mem) (w : Nat) : (m.poisonDel w).wf = m.wf := rfl

theorem Mem.wf_copyPage {m : Mem} (h : m.wf = true) (src dst : Nat) : (m.copyPage src dst).wf = true := by
  have fold : ∀ (l : List (Nat × Byte)) (m : Mem), m.wf = true →
      (l.foldl (fun m e => m.write (e.1 - 4096 * src + 4096 * dst) e.2) m).wf = true := by
    intro l
    induction l with
    | nil => exact fun _ h => h
    | cons e t ih => exact fun m h => ih _ (Mem.wf_write h _ _)
  have mark : ∀ (l : List Nat) (m : Mem), (l.foldl (fun m w => m.poisonAdd (w - 256 * src + 256 * dst)) m).wf = m.wf := by
    intro l
    induction l with
    | nil => exact fun _ => rfl
    | cons w t ih => exact fun m => ih _
  unfold Mem.copyPage
  dsimp only
  rw [mark]
  split
  · exact fold _ _ (Mem.wf_fill h _ _ _)
  · refine fold _ _ ?_
    rw [Mem.wf_iff] at h ⊢
    exact ⟨h.1.filter _, fun e he => h.2 e (List.mem_filter.1 he).1⟩

/-- A byte written reads back. -/
theorem Mem.read_write_self (m : Mem) (a : Nat) (v : Byte) : (m.write a v).read a = some v := by
  have none_del : ∀ (l : FMap Byte), (FMap.del l a).find? (fun e => e.1 == a) = none := by
    intro l
    simp [FMap.del, List.find?_eq_none]
  have some_ins : ∀ (l : FMap Byte), (FMap.ins l a v).find? (fun e => e.1 == a) = some (a, v) := by
    intro l
    induction l with
    | nil => simp [FMap.ins]
    | cons e t ih =>
      obtain ⟨k, w⟩ := e
      simp only [FMap.ins]
      split
      · simp
      · split
        · simp
        · rename_i hne
          simp [Ne.symm hne, ih]
  unfold Mem.write
  split
  · rename_i hb
    simp only [Mem.read, none_del, Mem.base_cells]
    exact hb
  · simp [Mem.read, some_ins]

/-- A write leaves every other byte as it was. -/
theorem Mem.read_write_ne (m : Mem) {a b : Nat} (v : Byte) (h : b ≠ a) : (m.write a v).read b = m.read b := by
  have del : ∀ (l : FMap Byte), (FMap.del l a).find? (fun e => e.1 == b) = l.find? (fun e => e.1 == b) := by
    intro l
    induction l with
    | nil => rfl
    | cons e t ih =>
      by_cases ha : e.1 = a
      · have hb : e.1 ≠ b := fun hh => h (hh ▸ ha)
        simpa [FMap.del, ha, List.find?_cons, hb, Ne.symm h] using ih
      · by_cases hb : e.1 = b
        · have hba : b ≠ a := h
          simp [FMap.del, hb, hba]
        · simpa [FMap.del, ha, hb, List.find?_cons] using ih
  have ins : ∀ (l : FMap Byte), (FMap.ins l a v).find? (fun e => e.1 == b) = l.find? (fun e => e.1 == b) := by
    intro l
    induction l with
    | nil => simp [FMap.ins, Ne.symm h]
    | cons e t ih =>
      obtain ⟨k, w⟩ := e
      simp only [FMap.ins]
      split
      · simp [List.find?_cons, Ne.symm h]
      · split
        · rename_i heq
          subst heq
          simp [Ne.symm h]
        · simp [List.find?_cons, ih]
  unfold Mem.write
  split
  · simp only [Mem.read, del, Mem.base_cells]
  · simp only [Mem.read, ins, Mem.base_cells]

/-- Writing a word back keeps the canonical form. -/
theorem Mem.wf_mend {m : Mem} (h : m.wf = true) (w : Nat) (wrong : List (Nat × Nat)) : (m.mend w wrong).wf = true := by
  unfold Mem.mend
  split
  · exact h
  · exact Mem.wf_writes h _ _

/-- A word of a channel that runs, not poisoned and met by no error, reads without one. -/
theorem Dev.wordState_clean {d : Dev} {errs : List DramErr} {w : Nat}
    (hc : bit (d.get Reg.MEM_STS_CH_FAIL) (d.placeOfWord w).ch = false) (hp : d.mem.poison.contains w = false)
    (he : errs.filter (fun e => e.word == w) = []) : d.wordState errs w = { word := w, kind := 0 } := by
  have h0 : eccXor [] [] = [] := by decide
  simp only [Dev.wordState, hc, hp, he, List.flatMap_nil, h0, Bool.false_eq_true, if_false, if_true]

/-- Words that all read without an error are read as they stand. -/
theorem Dev.dramRead_clean {d : Dev} {errs : List DramErr} (c : Clock) (req : Nat) {l : List Nat}
    (h : ∀ w ∈ l, d.wordState errs w = { word := w, kind := 0 }) : d.dramRead c req errs l = (d, true) := by
  unfold Dev.dramRead
  induction l with
  | nil => rfl
  | cons w t ih => simp [h w (by simp), ih (fun x hx => h x (by simp [hx]))]

/-- Without errors a read returns the bytes that are held. -/
@[simp] theorem Dev.readBytes_nil (d : Dev) (a n : Nat) : d.readBytes [] a n = d.mem.bytes a n := rfl

/-- The DRAM of the module after reset is in canonical form. -/
theorem reset_mem_wf : State.reset.dev.mem.wf = true := rfl

end Sys2Proof.Machine
end

