-- ==== Sys2Proof/Laws/Ops.lean ====
section
/-! SUPPORT. Laws/Ops.lean: for each shared operation one lemma that says everything it can do: completions, events, fault records,
ledger entries, accesses to the register window, commands in progress. -/

namespace Sys2Proof.Machine

/-! ### Completions and events (R417, R673 to R675) -/

/-- A completion changes the host side only. -/
theorem Dev.complete_eq (stamp : Nat) (st : Sts) (dw0 dw1 : Nat) (data : List Byte) (d : Dev) :
    d.complete stamp st dw0 dw1 data = { d with host := (d.complete stamp st dw0 dw1 data).host } := by
  unfold Dev.complete
  split
  · rfl
  · dsimp only
    split <;> rfl

/-- The context of a command that has one and is to have a completion is freed, and its completion posted. -/
theorem Dev.complete_of_ctx {d : Dev} {stamp : Nat} {x : Ctx} (h : d.host.ctxs.find? (fun y => y.stamp == stamp) = some x)
    (hm : x.mute = false) (hp : x.posted = false) (st : Sts) (dw0 dw1 : Nat) (data : List Byte) :
    d.complete stamp st dw0 dw1 data = { d with host := { d.host with
      ctxs := d.host.ctxs.filter (fun y => y.stamp != stamp),
      posted := d.host.posted ++
        [{ stamp := stamp, cid := x.cid, status := st, dnr := dnrOf st, dw0 := dw0, dw1 := dw1, data := data }] } } := by
  rw [Dev.complete, h]
  simp [hm, hp]

/-- Answered event requests change controllers and the host side only. -/
theorem tellCtrl_frame (fuel id : Nat) (d : Dev) : ∃ k h, tellCtrl fuel id d = { d with ctrls := k, host := h } := by
  induction fuel generalizing d with
  | zero => exact ⟨_, _, rfl⟩
  | succ n ih =>
    rw [tellCtrl]
    split
    · exact ⟨_, _, rfl⟩
    · split
      · obtain ⟨k, h, e⟩ := ih (Dev.complete _ .success _ 0 [] _)
        rw [e, Dev.complete_eq]
        exact ⟨_, _, rfl⟩
      · exact ⟨_, _, rfl⟩

/-- Delivering events changes controllers and the host side only. -/
theorem Dev.deliver_frame (d : Dev) : ∃ k h, d.deliver = { d with ctrls := k, host := h } := by
  have key : ∀ (l : List Ctrl) (e : Dev), ∃ k h,
      l.foldl (fun d k => tellCtrl k.aers.length k.id d) e = { e with ctrls := k, host := h } := by
    intro l
    induction l with
    | nil => exact fun e => ⟨_, _, rfl⟩
    | cons x t ih =>
      intro e
      obtain ⟨k, h, e1⟩ := tellCtrl_frame x.aers.length x.id e
      obtain ⟨k', h', e2⟩ := ih (tellCtrl x.aers.length x.id e)
      rw [List.foldl_cons, e2, e1]
      exact ⟨_, _, rfl⟩
  unfold Dev.deliver
  split
  · exact ⟨_, _, rfl⟩
  · exact key d.ctrls d

/-- Arming the vendor event changes controllers, the host side and the count of interrupts only. -/
theorem Dev.armEvents_frame (c : Clock) (sev cls : Nat) (d : Dev) :
    ∃ k h m n, d.armEvents c sev cls = { d with ctrls := k, host := h, flt := { d.flt with msiEpoch := m, msiSent := n } } := by
  unfold Dev.armEvents
  split
  · obtain ⟨k, h, e⟩ := Dev.deliver_frame
      { d with ctrls := mapIf (fun k => k.takesEvents && k.vendor == 0) (fun k => { k with vendor := 1 }) d.ctrls }
    dsimp only
    rw [e]
    split <;> exact ⟨_, _, _, _, rfl⟩
  · exact ⟨_, _, _, _, rfl⟩

/-! ### Fault records (R667 to R671) -/

/-- A record changes the ring, FLT.STS, controllers and the host side only. -/
theorem Dev.record_frame (c : Clock) (r : FaultRec) (d : Dev) :
    ∃ a f k h, d.record c r = { d with regs := a, flt := f, ctrls := k, host := h } := by
  have rest : ∀ e : Dev, (∃ f, e = { d with flt := f }) → ∃ a f k h,
      (let e := if r.sev = 3 then e.set Reg.FLT_STS_FATAL 1 else e
       let e := if d.flt.lostNow < e.flt.lostNow then e.set Reg.FLT_STS_LOST 1 else e
       e.armEvents c r.sev r.cls) = { d with regs := a, flt := f, ctrls := k, host := h } := by
    rintro e ⟨f, rfl⟩
    dsimp only
    obtain ⟨k, h, m, n, ek⟩ := Dev.armEvents_frame c r.sev r.cls
      (if d.flt.lostNow < (if r.sev = 3 then Dev.set { d with flt := f } Reg.FLT_STS_FATAL 1 else { d with flt := f }).flt.lostNow then
        (if r.sev = 3 then Dev.set { d with flt := f } Reg.FLT_STS_FATAL 1 else { d with flt := f }).set Reg.FLT_STS_LOST 1
       else if r.sev = 3 then Dev.set { d with flt := f } Reg.FLT_STS_FATAL 1 else { d with flt := f })
    rw [ek]
    split <;> split <;> exact ⟨_, _, _, _, rfl⟩
  unfold Dev.record
  split
  · split <;> exact ⟨_, _, _, _, rfl⟩
  · refine rest _ ?_
    split <;> split <;> exact ⟨_, rfl⟩

/-- As record. -/
theorem Dev.fault_frame (c : Clock) (src : Src) (q : Cond) (d : Dev) :
    ∃ a f k h, d.fault c src q = { d with regs := a, flt := f, ctrls := k, host := h } := Dev.record_frame ..

/-! ### Ledger entries (R644 to R647) -/

/-- A change that needs a ledger entry is refused, or made with its entry. -/
theorem Dev.ledgered_cases (c : Clock) (who : Who) (cls detail object : Nat) (old new : List Byte) (refuse go : Dev → Dev) (d : Dev) :
    ((d.ledFull || (ledFirst cls && d.led.bad)) = true ∧ d.ledgered c who cls detail object old new refuse go = refuse d) ∨
      ((d.ledFull || (ledFirst cls && d.led.bad)) = false ∧
        d.ledgered c who cls detail object old new refuse go =
          go (if ledFirst cls then ledWrite c (d.ledAdd c who cls 0 detail object old new)
            else d.ledAdd c who cls 0 detail object old new)) := by
  unfold Dev.ledgered
  split
  · exact .inl ⟨‹_›, rfl⟩
  · exact .inr ⟨Bool.eq_false_iff.2 ‹_›, rfl⟩

/-- An entry changes the ledger and its registers only. -/
theorem Dev.ledAdd_eq (c : Clock) (who : Who) (cls result detail object : Nat) (old new : List Byte) (d : Dev) :
    d.ledAdd c who cls result detail object old new =
      { d with regs := (d.ledAdd c who cls result detail object old new).regs,
               led := (d.ledAdd c who cls result detail object old new).led } := by
  rw [Dev.ledAdd, Dev.ledShow, Dev.sets_eq]

/-! ### Accesses to the window (R4, R571, R631) -/

/-- A write that nothing stands against reaches its register. -/
theorem Dev.access_of_none {d : Dev} {via : Via} {off width : Nat} (h : d.deny via true off width = none) (c : Clock) (go : Dev → Dev) :
    d.access c via off width go = go { d with who := d.whoOf via.cid (if off < deckBase then rCUSTODIAN else rOPERATOR) } := by
  rw [Dev.access, h]

/-- Any other write leaves its record and nothing else. -/
theorem Dev.access_of_some {d : Dev} {via : Via} {off width : Nat} {q : Deny} (h : d.deny via true off width = some q) (c : Clock)
    (go : Dev → Dev) : d.access c via off width go = d.denied c off q := by
  rw [Dev.access, h]

/-- A read that nothing stands against reaches its register. -/
theorem Dev.accessRead_of_none {d : Dev} {via : Via} {off width : Nat} (h : d.deny via false off width = none) (c : Clock)
    (go : Dev → Dev) : d.accessRead c via off width go = go d := by
  rw [Dev.accessRead, h]

/-- Any other read returns all ones. -/
theorem Dev.accessRead_of_some {d : Dev} {via : Via} {off width : Nat} {q : Deny} (h : d.deny via false off width = some q) (c : Clock)
    (go : Dev → Dev) : d.accessRead c via off width go = { d.denied c off q with rdata := 0xFFFFFFFF } := by
  rw [Dev.accessRead, h]

/-- A row that writes a register, where nothing stands against it. -/
theorem regRow_of_none {d : Dev} {link off : Nat} (h : d.deny (.bar2 link) true off 4 = none) (c : Clock) (go : Dev → Dev) :
    regRow c link off go d = go { d with who := d.whoOf (Via.bar2 link).cid (if off < deckBase then rCUSTODIAN else rOPERATOR) } :=
  Dev.access_of_none h c go

/-- A row that reads a register, where nothing stands against it. -/
theorem rdRow_of_none {d : Dev} {link off : Nat} (h : d.deny (.bar2 link) false off 4 = none) (c : Clock) (go : Dev → Dev) :
    rdRow c link off go d = go d :=
  Dev.accessRead_of_none h c go

/-! ### Commands in progress -/

/-- A command in progress runs. -/
theorem Dev.run_of_running {d : Dev} {stamp : Nat} {op : Cmd} {x : Ctx} (h : d.running stamp op = some x) (f : Ctx → Dev → Dev) :
    d.run stamp op f = f x d := by
  rw [Dev.run, h]

/-- An admin command in progress runs for its controller. -/
theorem Dev.admin_of_running {d : Dev} {stamp : Nat} {op : Cmd} {x : Ctx} {k : Ctrl} (h : d.running stamp op = some x)
    (hk : d.ctrl x.cid = some k) (f : Ctx → Ctrl → Dev → Dev) : d.admin stamp op f = f x k d := by
  rw [Dev.admin, Dev.run_of_running h, hk]

/-- The context of a command in progress. -/
theorem Dev.ctx_of_running {d : Dev} {stamp : Nat} {op : Cmd} {x : Ctx} (h : d.running stamp op = some x) : d.ctx stamp = some x := by
  unfold Dev.running at h
  split at h
  · rename_i y hy
    split at h
    · rw [hy]
      exact h
    · cases h
  · cases h

end Sys2Proof.Machine
end

