-- ==== Sys2Proof/WellFormed.lean ====
section
/-! DEFINITION. WellFormed.lean: the ranges of a command's operands that their types do not give. -/

namespace Sys2Proof

/-- Operands in the ranges the spec gives them. -/
def Instr.wf : Instr → Bool
  | .regWrite _ _ width _ _ => decide (1 ≤ width)
  | .snapGrainRead _ _ => true
  | .tickLoRead _ => true
  | .taiNsRead _ => true
  | .stampLoRead _ => true
  | .sigLoRead _ => true
  | .recDataRead _ => true
  | .commitReq _ _ => true
  | .commitDiscard _ _ => true
  | .epochBoundary => true
  | .plaitLoad _ _ piece _ _ _ _ _ => decide (piece.length % 4 = 0)
  | .plaitLoadTimeout => true
  | .subtreeReloadApply => true
  | .reloadQuiesceTimeout => true
  | .seamPortBringup _ locked peer _ _ _ _ => decide (locked < 16) && peer.all (fun f => decide (f.dev < 2 ^ 18 ∧ f.port < 6))
  | .seamRetryTimer _ => true
  | .seamLaneFail _ => true
  | .seamMemberUnreachable dev _ => decide (dev < 2 ^ 18)
  | .clockMark _ _ _ => true
  | .markWindowMiss _ => true
  | .holdoverTimeout _ => true
  | .forceSearch _ _ => true
  | .timebaseEnable _ => true
  | .timebaseDisable _ => true
  | .triggerFire _ _ _ => true
  | .trigCfgWrite _ _ _ _ => true
  | .trigPosWrite _ _ _ _ => true
  | .trigRevWrite _ _ _ _ => true
  | .deckCommitReq _ _ _ _ => true
  | .deckCommitCancel _ _ => true
  | .deckCommitDiscard _ _ _ => true
  | .laneLoopBlock _ _ timing _ _ _ ys eq => decide (ys.length = if timing then 32 else 256) && decide (eq.length ≤ 32) && ys.all (fun y => decide (-32 ≤ y ∧ y ≤ 31))
  | .winnowWindow _ _ _ _ ys => decide (ys.length = 32) && ys.all (fun y => decide (-32 ≤ y ∧ y ≤ 31))
  | .winnowLongSpan _ _ => true
  | .reinit _ _ _ => true
  | .clrCnt _ _ _ => true
  | .shadow _ _ _ _ _ => true
  | .swap _ _ _ _ _ => true
  | .swapBack _ _ _ _ _ => true
  | .release _ _ _ _ _ => true
  | .nativeShadow _ _ _ _ _ => true
  | .spareSwapAtGuard _ _ => true
  | .laneStandbyExit _ _ => true
  | .syncWindow _ _ slot _ passes _ _ _ => decide (slot < 512) && decide (passes < 16)
  | .resyncWindow _ p _ => decide (p.slot < 512) && decide (p.beam < 64)
  | .ldpcDispatch _ => true
  | .ldpcFirstPassDone _ slot _ _ => decide (slot < 512)
  | .turboPassDone _ slot _ _ => decide (slot < 512)
  | .darnDispatch _ slot => decide (slot < 512)
  | .darnDone _ slot _ _ eng => decide (slot < 512) && decide (eng < 4)
  | .gleanSetApply _ g => decide (1 ≤ g.val)
  | .marginSnap _ _ => true
  | .marginClr _ _ => true
  | .eqReinit _ _ _ => true
  | .eqDataWrite _ _ _ => true
  | .writePassStart _ layer swath pass _ _ => decide (layer < 32) && decide (swath < 4096) && decide (pass < 4)
  | .sectorVerifyDone _ _ slot v => decide (slot < 512) && v.watched.all (fun w => decide (w.1 < 64))
  | .writePassEnd _ swath pass => decide (swath < 4096) && decide (pass < 4)
  | .opcRun _ found => decide (found ≤ 144)
  | .laserTxFrame _ seq _ _ => decide (seq < 256)
  | .laserRxFrame _ syms _ => syms.all (fun s => decide (s < 1024))
  | .cap _ tag p => decide (tag < 256) && decide (p.length ≤ 104)
  | .tableData _ tag p => decide (tag < 256) && decide (p.length ≤ 104)
  | .ack _ tag result _ => decide (tag < 256) && decide (result < 256)
  | .fault _ mask code => decide (mask < 2 ^ 16) && decide (code < 256)
  | .linkMsgTimeout _ => true
  | .linkRxLoss _ => true
  | .linkBringup _ _ _ => true
  | .linkRetryTimer _ => true
  | .shockCrossing _ _ => true
  | .gateReopen _ => true
  | .writeInhibitTimeout _ => true
  | .forceDown _ _ _ => true
  | .vfyClr _ _ => true
  | .loopSubsample _ m _ => decide (m < 64)
  | .freeRunSample _ _ => true
  | .slotModeWrite _ _ _ _ => true
  | .cfDataWrite _ _ _ => true
  | .bankSwapReq _ _ _ _ _ _ => true
  | .bankSwapCancel _ _ _ => true
  | .profMove _ _ _ _ => true
  | .profJump _ _ _ _ _ => true
  | .profSeek _ _ _ _ => true
  | .profStop _ _ _ => true
  | .profileEnd _ _ _ => true
  | .learn _ _ _ => true
  | .ffClear _ _ _ => true
  | .safeRelease _ _ => true
  | .spnStart _ _ _ => true
  | .spnStop _ _ _ => true
  | .spnCoast _ _ => true
  | .spnSetSpeed _ _ _ => true
  | .spindleOc _ i => decide (i.length = 3)
  | .spindleListenEnd _ _ _ angle _ => decide (angle < 360)
  | .spindleProbeDone _ peaks => decide (peaks.length = 12)
  | .spindleAlignEnd _ => true
  | .spindleHandover _ => true
  | .spindleStall _ => true
  | .spindleShortEnd _ _ => true
  | .spindleRegenHandoff _ => true
  | .observerLost _ => true
  | .spindleTargetReached _ => true
  | .vmUndervoltage vm => decide (vm < 4096)
  | .vmUvRecover vm => decide (vm < 4096)
  | .brkOn vm => decide (vm < 4096)
  | .brkOff vm => decide (vm < 4096)
  | .brakeFault vm _ => decide (vm < 4096)
  | .vmAbs vm => decide (vm < 4096)
  | .brakeFaultClear _ => true
  | .brakeTestEnd _ => true
  | .vmAbsClear _ => true
  | .sldMove _ _ _ => true
  | .sldVel _ _ => true
  | .sldStop _ _ => true
  | .sldFollow _ _ => true
  | .sldSetPos _ _ => true
  | .sldDisable _ _ => true
  | .sledAtRest _ => true
  | .sledStandstill _ => true
  | .sledBemfMeasure _ _ => true
  | .rehomeStep _ _ _ => true
  | .rehomeTimeout _ => true
  | .load _ _ _ _ => true
  | .park _ _ => true
  | .recover _ _ _ => true
  | .relSpn _ _ _ => true
  | .relSld _ _ _ => true
  | .clampClose _ => true
  | .clampOpen _ => true
  | .clampOpenSpinning _ => true
  | .focusSweepStart _ => true
  | .focusSweepEnd _ => true
  | .focusCapture _ _ _ => true
  | .layerIdentified _ fields => decide (fields.length = 8) && fields.all (fun f => decide (f < 4096))
  | .trackCapture _ _ => true
  | .seqTimeout _ => true
  | .idleTimer _ => true
  | .shockWindowEnd _ => true
  | .zoneChange _ swath => decide (swath < 4096)
  | .spinChargeGrant _ => true
  | .commandFetch cid sq _ => decide (cid < 65536 + 3) && decide (sq < 65536)
  | .commandUnheld _ => true
  | .writeStaged _ => true
  | .readDataOut _ => true
  | .commitTimer _ => true
  | .indexUnitWrite _ swath slot pass => decide (swath < 32) && decide (slot < 118) && decide (pass < 4)
  | .indexUnitVerified _ _ => true
  | .invalidOpcode _ => true
  | .createIoSubmissionQueue _ qid size cq => decide (qid < 65536) && decide (size < 65536) && decide (cq < 65536)
  | .deleteIoSubmissionQueue _ qid => decide (qid < 65536)
  | .createIoCompletionQueue _ qid size vec => decide (qid < 65536) && decide (size < 65536) && decide (vec < 65536)
  | .deleteIoCompletionQueue _ qid => decide (qid < 65536)
  | .getLogPage _ lid _ _ _ _ _ => decide (lid < 256)
  | .identify _ cns _ => decide (cns < 256)
  | .abort _ _ => true
  | .setFeatures _ fid _ => decide (fid < 256)
  | .getFeatures _ fid => decide (fid < 256)
  | .asynchronousEventRequest _ => true
  | .firmwareCommit _ slot action => decide (slot < 8) && decide (action < 8)
  | .firmwareImageDownload _ _ _ => true
  | .keepAlive _ => true
  | .nvmeMiSend _ op _ _ => decide (op < 256)
  | .nvmeMiReceive _ op _ => decide (op < 256)
  | .sanitize _ _ => true
  | .securitySend _ _ _ => true
  | .securityReceive _ _ _ => true
  | .doorbellBufferConfig _ _ _ => true
  | .fabricsConnect transport _ _ _ _ cid qid _ _ _ => decide (1 ≤ transport.val) && decide (cid < 65536) && decide (qid < 65536)
  | .propertyGet _ _ => true
  | .propertySet _ _ _ => true
  | .authenticationSend _ outcome => decide (outcome < 3)
  | .authenticationReceive _ => true
  | .flush _ => true
  | .write _ _ => true
  | .read _ _ _ _ => true
  | .compare _ _ _ _ _ => true
  | .verify _ _ _ _ => true
  | .zoneManagementSend _ action _ => decide (action < 256)
  | .zoneManagementReceive _ state _ => decide (state < 256)
  | .zoneAppend _ _ => true
  | .mount _ _ _ _ => true
  | .unmount _ _ _ _ => true
  | .survey _ _ layer first last _ => decide (layer < 32) && decide (first < 4096) && decide (last < 4096)
  | .ledgerRead _ _ _ _ => true
  | .migrate _ _ _ _ _ _ => true
  | .readAsOf _ _ _ _ _ => true
  | .compressJob _ desc _ => decide (desc.length = 128)
  | .decompressJob _ desc _ => decide (desc.length = 128)
  | .cmpJobStart _ => true
  | .readNvmeMiDataStructure _ _ => true
  | .nvmSubsystemHealthStatusPoll _ => true
  | .controllerHealthStatusPoll _ _ => true
  | .configurationSet _ _ _ => true
  | .configurationGet _ _ => true
  | .miReset _ => true
  | .registerRead _ _ => true
  | .registerWrite _ _ _ _ => true
  | .spdmMessage transport _ _ => decide (1 ≤ transport.val)
  | .spdmHeartbeatTimeout _ => true
  | .takeOwnership _ => true
  | .custSet _ _ digest => decide (digest.all (fun x => x.length == 48))
  | .kekSet _ _ kek => decide (kek.length = 32)
  | .kekDestroy _ _ => true
  | .pskSet _ nqn _ _ => decide (nqn.length = 48)
  | .slotSet _ _ _ _ => true
  | .svnRaise _ _ _ => true
  | .zeroize _ => true
  | .katRun _ _ => true
  | .zeroKeyWrite _ _ => true
  | .tamper _ => true
  | .tamperClear _ _ => true
  | .ledgerFlush _ => true
  | .controllerReset _ => true
  | .nvmSubsystemReset => true
  | .keepAliveExpiry _ => true
  | .pcieLinkDown _ => true
  | .perstRelease _ => true
  | .ethLinkChange _ _ _ => true
  | .ptpMessage st _ _ _ => decide (1 ≤ st.val)
  | .ptpTimeout => true
  | .cmbAccess wr _ len data _ => decide (wr = false ∨ data.length = len)
  | .fwDrainEnd => true
  | .fwDrainTimeout => true
  | .fwNewReady => true
  | .fwReadyTimeout => true
  | .train _ => true
  | .dramTrainDone o => decide (o.chans.length = 8) && decide (o.serials.length ≤ 16)
  | .memStart _ => true
  | .recenter _ centres => decide (centres.length = 8)
  | .recenterTimer _ _ => true
  | .refreshDue _ _ _ => true
  | .makeupRefresh _ => true
  | .caParityAlert _ _ => true
  | .rinseStep _ => true
  | .retirePage _ page => decide (page < 2 ^ 30)
  | .retirementCopyDone _ => true
  | .devMarkWrite _ _ _ => true
  | .fillStart _ => true
  | .fillDone => true
  | .chStsClr _ _ => true
  | .clean _ _ _ => true
  | .inval _ _ _ => true
  | .cleanInval _ _ _ => true
  | .maintDone => true
  | .mcFillDone _ line _ _ => decide (line < 2 ^ 34)
  | .mcScrubStep errs => errs.all (fun e => decide (e.way < 16 ∧ e.sector < 4 ∧ e.word < 4))
  | .mcStsClr _ => true
  | .idleEntry => true
  | .idleExit => true
  | .sleepEntry => true
  | .sleepExit _ _ l => decide (l.length = 8)
  | .deepEntry => true
  | .deepEntryStep => true
  | .deepExit _ banks l _ => decide (banks < 2 ^ 24) && decide (l.length = 8)
  | .reqOff _ => true
  | .wakeN _ => true
  | .dvfsWrite _ _ _ => true
  | .dvfsChangeDone _ => true
  | .padRel _ _ => true
  | .thermClr _ _ => true
  | .governorPeriod pin vin tj => decide (pin < 8192) && decide (vin < 4096) && decide (tj.length = 5)
  | .thermalThrottle _ tj => decide (-128 ≤ tj ∧ tj ≤ 127)
  | .thermalShutdown _ tj => decide (-128 ≤ tj ∧ tj ≤ 127)
  | .thermalRestart tj _ => decide (tj.length = 5)
  | .vinBrownout vin => decide (vin < 4096)
  | .vinOvervoltage vin => decide (vin < 4096)
  | .powerOnReset _ => true
  | .bootReady _ => true
  | .testPassDue _ _ => true
  | .sliceEnd _ _ _ _ => true
  | .shadowCompareDone _ dis cnt _ _ => decide (dis ≤ cnt)
  | .lockstepDone _ bad _ => decide (bad ≤ 1024)
  | .tstTest _ _ => true
  | .tstCal _ _ => true
  | .burn _ _ _ _ => true
  | .ackSeqWrite _ _ => true
  | .recordsLostInterval => true
  | .sledProfilePeriod _ _ => true
  | .pwmPeriod _ vm _ _ _ _ => decide (vm < 4096)
  | .apstTransition _ _ => true
  | .entropyHealthFail => true
  | .vmWindowCrossing _ vm => decide (vm < 4096)
  | .shockClear _ _ => true
  | .vinOvervoltageClear vin _ => decide (vin < 4096)
  | .controllerEnable _ fn => decide (fn < 256)
  | .fabricConnectionLoss _ => true
  | .sheafForward _ => true
  | .cmpJobEnd _ _ _ => true
  | .v12RailChange _ tenths => decide (tenths < 256)
  | .boundaryScanInstruction _ => true

end Sys2Proof
end

