-- ==== Sys2Proof/Tests/Slice0.lean ====
section
/-! SUPPORT. Tests/Slice0.lean: for every obligation with hypotheses, states and operands that meet them, and small tests. -/

set_option Elab.async false

open Sys2Proof Sys2Proof.Machine

namespace Sys2Proof.Machine


/-- A controller with every role: the PF of a link. -/
def boss : Ctrl := { id := 1, enabled := true, ready := true, roles := 15 }

/-- A plait that opens the window to every role. -/
def openPlait : Plait := { bar2Roles := 15, mctpRoles := 15, domainEn := 0x1FFFF }

/-- The module running with every domain on and link A up. -/
def runDev : Dev :=
  { regs := FMap.set resetOf [] Reg.PWR_DOM_STS_ON.key 0x1FFFF, ctrls := [boss], plait := some openPlait,
    host := { links := 1, perst := true }, pwr := { mode := .run } }

/-- The same with a session of the MCTP endpoint of PCIe. -/
def mctpDev : Dev :=
  { runDev with
    ctrls := [boss, { id := 65538, kind := 3, transport := 4, port := 19, roles := 15 }],
    sec := { sessions := [{ id := 1, transport := 3, owner := 65538, digest := [], verified := true, roles := 15, beat := 0 }] } }

/-- The context of a host command in progress, stamp 1, from the PF. -/
def busyCtx (hc : HostCmd) : Ctx := { stamp := 1, cid := 1, sq := 1, cmd := hc, phase := .transfer }

/-- The module with that command in progress. -/
def busyDev (hc : HostCmd) : Dev := { runDev with host := { runDev.host with ctxs := [busyCtx hc] } }

end Sys2Proof.Machine

namespace Sys2Proof.Machine

/-- A plait of device 3 in a sheaf with device 7, whose seam port 2 leads to port 1 of device 7. -/
def seamPlait : Plait :=
  { openPlait with deviceNum := 3, place := some { sheaf := 0, digest := [5], ports := [(0, 0, false), (0, 0, false), (7, 1, true)] },
                   sheaves := [{ handle := 12288, members := [7 * 2 ^ 14] }] }

end Sys2Proof.Machine

namespace Sys2Proof.Machine

/-- Deck 1 with its timebase LOCKED and lane 3 out of standby, its offset and asymmetry loops held. -/
def laneDev : Dev :=
  runDev.sets [(Reg.ANG_STS_STATE 1, 3), (Reg.LANE_STATE_STBY 1 3, 0), (Reg.LANE_LOOP_CTL_HOLD_O 1 3, 1), (Reg.LANE_LOOP_CTL_HOLD_A 1 3, 1)]

end Sys2Proof.Machine

namespace Sys2Proof.Machine

/-- A swath block of which every sector converged. -/
def convBlk : Blk := { slot := 9, swath := 40, passes := 15, dec := List.replicate 64 .conv }

/-- A swath block of which every sector waits. -/
def waitBlk : Blk := { slot := 9, swath := 40, passes := 15, dec := List.replicate 64 .waiting }

end Sys2Proof.Machine

namespace Sys2Proof.Machine

/-- Deck 1 READY to write pass p of a swath: timebase LOCKED, sled at a known place, link UP, gate open, calibrated, the pickup settled
where the pass is written, at the zone's write speed and map. -/
def writeAt (swath pass : Nat) : Dev :=
  let z := (zoneOf swath).getD ⟨0, 0, 0, 0, 0, 0, 0⟩
  let d := runDev.sets [(Reg.SEQ_STS_STATE 1, 6), (Reg.ANG_STS_STATE 1, 3), (Reg.SLD_STS_POS_OK 1, 1), (Reg.SEQ_STS_GEN 1, 2),
    (Reg.WRP_LINK_STS_STATE 1, 2), (Reg.SPN_STS_SPEED 1, z.writeRpm), (Reg.ANG_INC_INC 1, z.writeRpm * 2 ^ 48 / 60000000000),
    (Reg.DET_MAP_CFG_P 1, z.p), (Reg.DET_MAP_CFG_S 1, z.s), (Reg.LOOP_STS_MODE 1 1, 2)]
  d.onDeck 1 (fun k => { k with
    disc := some { layers := 8 }, opcFresh := [0], wrSwath := swath, nextPass := pass, gate := { shut := 0 }, link := { laserMode := 1 },
    seq := { k.seq with swath := swath, track := passTrack d 1 swath pass } })

/-- Deck 1 READY to write pass 1 of a swath. -/
def writeDev (swath : Nat) : Dev := writeAt swath 1

/-- Pass 1 of which every slot verified. -/
def fullPass : Pass :=
  { pass := 1, startSlot := 3, outs := (List.range 16).flatMap (fun em => (List.range 150).map (fun k => ⟨em, k, .verified, 0, 0⟩)) }

theorem fullPass_reports (em k : Nat) (he : em < 16) (hk : k < 150) :
    fullPass.outs.any (fun o => o.emitter == em && o.slot == k) = true :=
  List.any_eq_true.2 ⟨⟨em, k, .verified, 0, 0⟩, by simp [fullPass, he, hk], by simp⟩

/-- A write of one stream of a block, for the namespace of the disc. -/
def waitingBlk : StageBlk := { streams := [] }

/-- The zone of swath 40. -/
def zone40 : Zone := (zoneOf 40).getD ⟨0, 0, 0, 0, 0, 0, 0⟩

end Sys2Proof.Machine

namespace Sys2Proof.Machine

/-- A Force Unit Access write of one extent staged for deck 1. -/
def inhWr : Wr :=
  { wid := 65536, nsid := 5, slba := 0, nlb := 1, stamp := 1, fua := true, exts := [(1, { mrec := ⟨1, false, false, false, 5, 0, 1, 0, 0, 0, 1, 65536⟩, bytes := [7#8] })] }

end Sys2Proof.Machine

namespace Sys2Proof.Machine

/-- Deck 1 with gains in slots 0 and 1, and a spin-up budget. -/
def seqDev : Dev :=
  (runDev.setBoth Reg.PWR_SPIN_BUDGET_SPINUP_W 500).onDeck 1 (fun k => { k with slots := [(0, { bankA := [(0, 5)], bankB := [(0, 5)] }), (1, { bankA := [(0, 5)], bankB := [(0, 5)] })] })

/-- A layer field that spells generation 2, layer 3. -/
def layerField2 : Nat := 2172

end Sys2Proof.Machine

namespace Sys2Proof.Machine

/-- The binding of namespace 5 (and, zoned, of namespace 6) to a stripe of one disc. -/
def bind5 : BindRec :=
  { nsid := 5, unit := 0, layout := 4, zoned := false, lbs64 := false, comp := 0, enc := false, raster := false, label := [], quota := 0 }
def bind6 : BindRec := { bind5 with nsid := 6, layout := 6, zoned := true }
def stripe4 : StripeRec := { layout := 4, unitBlocks := 1, members := [2] }
def stripe6 : StripeRec := { layout := 6, unitBlocks := 1, members := [3] }

/-- Namespaces 5 and 6 served from decks 1 and 2, which are READY. -/
def nsDev : Dev :=
  let d := runDev.sets [(Reg.SEQ_STS_STATE 1, 6), (Reg.SEQ_STS_STATE 2, 6), (Reg.SEQ_STS_GEN 1, 2), (Reg.SEQ_STS_GEN 2, 2), (Reg.MGMT_SELF_HANDLE_DEVICE_NUM, 0)]
  { d with
    ctrls := [{ boss with nsGroups := 3 }],
    plait := some { openPlait with bindings := [bind5, bind6], stripes := [stripe4, stripe6] },
    host := { d.host with nss := [(5, { ready := true }), (6, { ready := true })] },
    decks := [(1, { mounted := some 5, disc := some { layers := 8, freeUnits := 10, blocksLeft := 1000 } }),
      (2, { mounted := some 6, disc := some { layers := 8, freeUnits := 10, blocksLeft := 1000 } })] }

/-- The same with a command in progress. -/
def nsBusy (hc : HostCmd) : Dev := { nsDev with host := { nsDev.host with ctxs := [busyCtx hc] } }

/-- A block of 4,096 bytes. -/
def block4k : List Byte := List.replicate 4096 7#8

theorem block4k_length : block4k.length = 4096 := List.length_replicate

end Sys2Proof.Machine

namespace Sys2Proof.Machine

/-- What a read of block 0 of namespace 5 delivers. -/
def readL (hc : HostCmd) : List Byte :=
  (readUntil (fun i => (nsBusy hc).readBlock bind5 stripe4 none none (((busyCtx hc).parts.find? (fun p => p.1 == i)).map (fun p => p.2))
    ((busyCtx hc).cmd.slba + i)) 0 (List.range (busyCtx hc).cmd.nlb)).1

/-- A write of one block whose data waits to be staged, and the device with it staged. -/
def stagedCtx : Ctx := { busyCtx { op := .write, nsid := 5, nlb := 1 } with data := [7#8] }
def stagedFrom (d : Dev) : Dev :=
  match d.stageWrite {} { b := bind5, s := stripe4, slba := 0, nlb := 1, wid := 0, stamp := 1, fua := false, zone := none, pieces := packWrite (d.coding bind5) (d.get Reg.CMP_CFG_MIN_SAVE) bind5.lbs 0 (blocksOf bind5.lbs 1 [7#8]).length (d.openRoom bind5 stripe4 none ((d.ns 5).zone 0).wp) 0 (blocksOf bind5.lbs 1 [7#8]) } with
  | .inr f => f
  | .inl _ => {}
def stagedDev : Dev := stagedFrom { nsDev with host := { nsDev.host with ctxs := [stagedCtx] } }

/-- A read of block 0 of namespace 5 in progress, whose swath block was delivered with track 0 erased. -/
def badDev : Dev :=
  (nsBusy { op := .read, nsid := 5, nlb := 1 }).onDeck 1 (fun k => { k with
    delivered := [⟨9, 40, 1, false, 0, 0, [], 0⟩],
    disc := k.disc.map (fun x => { x with
      maps := [{ nsid := 5, slba := 0, nlb := 1, wid := 1, pba := pbaOf 0 40 9, offset := 0, length := 4096, store := 0, enc := false, lbs64 := false, zoned := false, part := 0 }],
      commits := [{ nsid := 5, time := 0, writes := [(1, 1)] }] }) })

/-- An index unit without records. -/
def unit0 : UnitNow := { magic := magicIndex, swath := 10, slot := 3, pass := 0, seq := 1, maps := [], commits := [], payload := [] }

/-- Its pass, of which every sector verified. -/
def unitPass : Pass := { pass := 0, startSlot := 3, outs := (List.range 16).map (fun em => ⟨em, 3, .verified, 0, 0⟩) }

end Sys2Proof.Machine

namespace Sys2Proof.Machine

/-- Namespace 5 on a disc with a set label, in deck 1, which is READY and not mounted, and a disc that carries the label. -/
def bindL : BindRec := { bind5 with label := List.replicate 16 3#8 }
def primerL : PrimerInfo :=
  { setLabel := List.replicate 16 3#8, discId := List.replicate 16 9#8, layers := 8, member := 0, setSize := 1, time := 0, text := [] }
def mountDev (hc : HostCmd) : Dev :=
  { ((nsBusy hc).setBoth Reg.PWR_SPIN_BUDGET_SPINUP_W 500).onDeck 1 (fun k =>
      { k with mounted := none, slots := [(0, { bankA := [(0, 5)], bankB := [(0, 5)] }), (1, { bankA := [(0, 5)], bankB := [(0, 5)] })] }) with
    plait := some { openPlait with bindings := [bindL], stripes := [stripe4] } }

/-- A compress job of 3 bytes of host memory, and its descriptor. -/
def descJ : List Byte :=
  slice (le 4 0x11 ++ List.replicate 28 0 ++ le 8 0x1000 ++ le 4 3 ++ le 4 0 ++ le 8 0x2000 ++ le 4 4096 ++ le 4 0 ++ List.replicate 48 0) 0 128
def jobJ : Job := { stamp := 1, cid := 1, nsid := 5, dec := false, desc := descJ, outs := [(0x2000, 4096, 0)], input := [1#8, 2#8, 3#8] }

end Sys2Proof.Machine

namespace Sys2Proof.Machine

/-- The security engine READY, with session 1 of a Custodian over MCTP and session 2 of nobody over DOE. -/
def sess1 : Session := { id := 1, transport := 3, owner := 65538, digest := List.replicate 48 1, verified := true, roles := 1, beat := 0 }
def sess2 : Session := { id := 2, transport := 1, owner := 0, digest := List.replicate 48 2, verified := true, roles := 0, beat := 0 }
def secDev : Dev :=
  { runDev.set Reg.SEC_STS_STATE 2 with
    sec := { keks := [(4, [1])], dataKeys := [(4, [2])], psks := [([1], [2], [3])], sessions := [sess1, sess2] } }
def secBusy (hc : HostCmd) : Dev := { secDev with host := { secDev.host with ctxs := [busyCtx hc] } }

end Sys2Proof.Machine

namespace Sys2Proof.Machine

/-- The DRAM in RUN, 128 GiB of it, and the same STOPPED with every channel trained. -/
def memDev : Dev :=
  runDev.sets [(Reg.MEM_STS_STATE, 2), (Reg.MEM_CFG_DPC, 1), (Reg.MEM_CFG_DIMM_LOG2, 4), (Reg.MEM_CFG_RANKS, 1), (Reg.MEM_CFG_ROW_BITS, 16),
    (Reg.MEM_CFG_COL_BITS, 10)]
def trainObs : TrainObs :=
  { dimmLog2 := 4, dpc := 1, ranks := 1, width := 1, rowBits := 16, colBits := 10, mts := 480, alike := true, serials := [],
    chans := List.replicate 8 (true, List.replicate 10 (32, 20, 32, 20)) }

end Sys2Proof.Machine

namespace Sys2Proof.Machine

/-- A fault record of deck 1. -/
def recA : FaultRec := { seq := 1, tick := 5, handle := 2, cls := 1, code := 2, sev := 1 }

end Sys2Proof.Machine

namespace Sys2Proof.Machine

/-- A signature is not its successor. -/
theorem sig_succ_ne (x : BitVec 64) : x + 1 ≠ x := by bv_omega

end Sys2Proof.Machine

namespace Sys2Proof.Machine

/-- A quotient with free rounding is the floor or one more. -/
theorem rndN_bounds (a b : Nat) : a / b ≤ Config.rndN a b ∧ Config.rndN a b ≤ a / b + 1 := by
  have h : ((a : Int) / b) = ((a / b : Nat) : Int) := (Int.natCast_ediv a b).symm
  unfold Config.rndN Config.rnd
  rw [h]
  generalize a / b = q
  split
  · omega
  · split <;> omega

/-- A speed between bounds, whichever way they are rounded. -/
theorem acquires_of (inc dt i0 i1 : Nat) (h : ((i0 + 1) % 1024 == i1 &&
    decide (((dt * inc : Nat) - (16384 * 2 ^ 24 : Nat) : Int).natAbs * 50 ≤ 16384 * 2 ^ 24)) = true)
    (lo : 1500 * 2 ^ 48 / 60000000000 + 1 ≤ inc) (hi : inc ≤ 16000 * 2 ^ 48 / 60000000000) : acquires inc dt i0 i1 = true := by
  unfold acquires
  rw [h]
  exact decide_eq_true ⟨Nat.le_trans (rndN_bounds _ _).2 lo, Nat.le_trans hi (rndN_bounds _ _).1⟩

end Sys2Proof.Machine

/-- States and operands that meet the hypotheses of ClockStaysSound. -/
theorem test_witness_ClockStaysSound :
  (∃ s : State, s.clk.sound = true ∧ ∃ t, step s = .next t) :=
  ⟨State.reset, by decide +kernel, _, rfl⟩

/-- States and operands that meet the hypotheses of TimeNeverRunsBack. -/
theorem test_witness_TimeNeverRunsBack :
  (∃ s t : State, s.clk.tick < 2 ^ 64 ∧ (∀ i ∈ s.pending.head?, resetsModule i = false) ∧ step s = .next t) :=
  ⟨State.reset, _, by decide +kernel, by decide +kernel, rfl⟩

/-- States and operands that meet the hypotheses of RecordsFold. -/
theorem test_witness_RecordsFold :
  (∃ (d : Dev) (r o : FaultRec) (l : List FaultRec), d.inDeep = false ∧ d.flt.ring = l ++ [o] ∧ o.handle = r.handle ∧ o.cls
      = r.cls ∧ o.code = r.code ∧ o.tick / epochTicks = r.tick / epochTicks ∧ (d.get Reg.FLT_CFG_FOLD_EN = 1 ∨ (r.cls = 5 ∧
      (r.code = 6 ∨ r.code = 7)))) ∧
  (∃ (d : Dev) (r o : FaultRec) (l : List FaultRec), d.inDeep = false ∧ d.flt.ring = l ++ [o] ∧ ¬ (o.handle = r.handle)) :=
  ⟨⟨{ runDev.set Reg.FLT_CFG_FOLD_EN 1 with flt := { ring := [recA] } }, recA, recA, [], by decide +kernel⟩,
   ⟨{ runDev with flt := { ring := [recA] } }, { recA with handle := 9 }, recA, [], by decide +kernel⟩⟩

/-- States and operands that meet the hypotheses of RecordRing. -/
theorem test_witness_RecordRing :
  (∃ d : Dev, d.inDeep = false ∧ d.flt.ring = []) ∧
  (∃ (f : Flt), f.ring.length < 4096) ∧
  (∃ (f : Flt) (o : FaultRec) (l : List FaultRec), f.ring = o :: l ∧ 4096 ≤ f.ring.length) ∧
  (∃ d : Dev, d.inDeep = true) :=
  ⟨⟨runDev, by decide +kernel⟩,
   ⟨{}, by decide⟩,
   ⟨{ ring := recA :: List.replicate 4095 recA }, recA, List.replicate 4095 recA, rfl, by rw [List.length_cons,
      List.length_replicate]⟩,
   ⟨runDev.set Reg.PWR_STATE_STS_STATE 3, by decide +kernel⟩⟩

/-- States and operands that meet the hypotheses of EpochOfACommit. -/
theorem test_witness_EpochOfACommit :
  (∃ (c : Clock) (d : Dev) (link : Fin 2) (b : Fin 10) (B : Nat), d.deny (.bar2 link) true (Reg.BLK_COMMIT_CTL_REQ (blkBase
      b)).off 4 = none ∧ d.blk (blkBase b) = none ∧ B % epochTicks = 0 ∧ B ≤ c.tick + epochTicks ∧ c.tick < B ∧ c.tick +
      2000 ≤ B) ∧
  (∃ (c : Clock) (d : Dev) (link : Fin 2) (b : Fin 10) (B : Nat), d.deny (.bar2 link) true (Reg.BLK_COMMIT_CTL_REQ (blkBase
      b)).off 4 = none ∧ d.blk (blkBase b) = none ∧ B % epochTicks = 0 ∧ B ≤ c.tick + epochTicks ∧ c.tick < B ∧ ¬ (c.tick +
      2000 ≤ B)) ∧
  (∃ (d : Dev) (b : Fin 10) (p : BlkPend), d.blk (blkBase b) = some p) :=
  ⟨⟨{ tick := 98000 }, runDev, 0, 3, 100000, by decide +kernel⟩,
   ⟨{ tick := 98001 }, runDev, 0, 3, 100000, by decide +kernel⟩,
   ⟨{ runDev with blkPend := [(0x400000, some { epoch := 1, vals := [] })] }, 3, { epoch := 1, vals := [] },
      by decide +kernel⟩⟩

/-- States and operands that meet the hypotheses of RefreshNotPostponed. -/
theorem test_witness_RefreshNotPostponed :
  (∃ (d : Dev), d.get Reg.MEM_REF_CFG_POSTPONE_MAX = 0) :=
  ⟨memDev.set Reg.MEM_REF_CFG_POSTPONE_MAX 0, by decide +kernel⟩

/-- States and operands that meet the hypotheses of AccessRule. -/
theorem test_witness_AccessRule :
  (∃ (d : Dev) (link : Fin 2), d.accessRoles (.bar2 link) = 0) ∧
  (∃ (d : Dev) (link : Fin 2) (off : Nat) (width : Nat) (r : Nat), (d.deny (.bar2 link) true off width = some (.bad r) ∧
      d.inDeep = false)) ∧
  (∃ (d : Dev) (link : Fin 2) (off : Nat) (k : Nat), (d.deny (.bar2 link) true off 4 = some (.off k) ∧ d.inDeep = false ∧
      d.pwr.offSeen = [])) ∧
  (∃ (c : Clock) (d : Dev) (link : Fin 2) (off : Nat) (k : Nat), (d.deny (.bar2 link) true off 4 = some (.off k) ∧ (k,
      c.epoch) ∈ d.pwr.offSeen)) ∧
  (∃ (d : Dev) (link : Fin 2) (z : Deny), d.deny (.bar2 link) false Reg.TST_SIG_LO_SIG_LO.off 4 = some z) :=
  ⟨⟨{ runDev with host := { runDev.host with links := 0 } }, 0, by decide +kernel⟩,
   ⟨runDev, 0, 0x400002, 4, 1, by decide +kernel⟩,
   ⟨runDev.set Reg.PWR_DOM_STS_ON (0x1FFFF - 512), 0, 0x400000, 9, by decide +kernel⟩,
   ⟨{}, { runDev.set Reg.PWR_DOM_STS_ON (0x1FFFF - 512) with pwr := { runDev.pwr with offSeen := [(9, 0)] } }, 0, 0x400000,
      9, by decide +kernel⟩,
   ⟨runDev.set Reg.PWR_DOM_STS_ON (0x1FFFF - 4), 0, .off 2, by decide +kernel⟩⟩

/-- States and operands that meet the hypotheses of WindowReadsLatch. -/
theorem test_witness_WindowReadsLatch :
  (∃ (d : Dev) (link : Fin 2) (n : Fin 16), d.deny (.bar2 link) false ((Reg.ANG_SNAP_GRAIN_GRAIN n).off) 4 = none) ∧
  (∃ (d : Dev) (link : Fin 2), d.deny (.bar2 link) false Reg.MGMT_TICK_LO_TICK_LO.off 4 = none) ∧
  (∃ (d : Dev) (link : Fin 2), d.deny (.bar2 link) false Reg.MGMT_TAI_NS_NS.off 4 = none) ∧
  (∃ (d : Dev) (link : Fin 2), d.deny (.bar2 link) false Reg.HQ_STAMP_LO_STAMP_LO.off 4 = none) ∧
  (∃ (d : Dev) (link : Fin 2), d.deny (.bar2 link) false Reg.TST_SIG_LO_SIG_LO.off 4 = none) ∧
  (∃ (d : Dev) (link : Fin 2), d.deny (.bar2 link) false ((Reg.FLT_REC_DATA_DATA 0).off) 4 = none) :=
  ⟨⟨runDev, 0, 1, by decide +kernel⟩,
   ⟨runDev, 0, by decide +kernel⟩,
   ⟨{ runDev with host := { runDev.host with tai := 12345678901234567890123 } }, 0, by decide +kernel⟩,
   ⟨runDev, 0, by decide +kernel⟩,
   ⟨{ runDev with tst := { sig := 2 ^ 40 + 3 } }, 0, by decide +kernel⟩,
   ⟨{ runDev with flt := { ring := [{ seq := 4096, tick := 5, handle := 7, cls := 1, code := 2, sev := 3 }] } }, 0,
      by decide +kernel⟩⟩

/-- States and operands that meet the hypotheses of BlockCommitRequests. -/
theorem test_witness_BlockCommitRequests :
  (∃ (d : Dev) (link : Fin 2) (b : Fin 10), d.deny (.bar2 link) true ((Reg.BLK_COMMIT_CTL_REQ (blkBase b)).off) 4 = none ∧
      d.blk (blkBase b) = none) ∧
  (∃ (d : Dev) (link : Fin 2) (b : Fin 10), d.deny (.bar2 link) true ((Reg.BLK_COMMIT_CTL_REQ (blkBase b)).off) 4 = none ∧
      (d.blk (blkBase b)).isSome = true) ∧
  (∃ (d : Dev) (link : Fin 2) (b : Fin 10), d.deny (.bar2 link) true ((Reg.BLK_COMMIT_CTL_REQ (blkBase b)).off) 4 = none ∧
      d.blk (blkBase b) = none ∧ d.regs.Pairwise (fun x y => x.1 < y.1)) :=
  ⟨⟨runDev, 0, 3, by decide +kernel⟩,
   ⟨{ runDev with blkPend := [(0x400000, some { epoch := 1, vals := [] })] }, 0, 3, by decide +kernel⟩,
   ⟨{ runDev with staged := [(0x400000 * 32, 3)] }, 0, 3, by decide +kernel⟩⟩

/-- States and operands that meet the hypotheses of EpochBoundaryDecides. -/
theorem test_witness_EpochBoundaryDecides :
  (∃ (d : Dev), d.blkPend = [] ∧ d.tst.visits = [] ∧ d.tst.queue = [] ∧ (∀ u ∈ d.tst.units, u.2.retry = none)) ∧
  (∃ (c : Clock) (d : Dev) (base : Nat) (p : BlkPend), d.blkPend = [(base, some p)] ∧ base ∈ blkBases ∧ p.epoch *
      epochTicks ≤ c.tick + (epochTicks - c.tick % epochTicks) ∧ c.tick + epochTicks < 2 ^ 64 ∧ d.reload = none ∧ d.ledFull
      = false ∧ d.tst.visits = [] ∧ d.tst.queue = [] ∧ d.regs.Pairwise (fun x y => x.1 < y.1) ∧ p.vals.Pairwise (fun x y =>
      x.1 < y.1) ∧ (∀ x ∈ p.vals, blkKeys base x.1 = true ∧ accOf x.1 = .rws) ∧ blkRules base (d.applySet (blkKeys base)
      p.vals) = none) ∧
  (∃ (c : Clock) (d : Dev) (base : Nat) (p : BlkPend) (r : Nat), d.blkPend = [(base, some p)] ∧ base ∈ blkBases ∧ p.epoch *
      epochTicks ≤ c.tick + (epochTicks - c.tick % epochTicks) ∧ c.tick + epochTicks < 2 ^ 64 ∧ d.reload = none ∧
      d.tst.visits = [] ∧ d.tst.queue = [] ∧ blkRules base (d.applySet (blkKeys base) p.vals) = some r) ∧
  (∃ (c : Clock) (d : Dev) (base : Nat) (p : BlkPend), d.blkPend = [(base, some p)] ∧ base ∈ blkBases ∧ p.epoch *
      epochTicks ≤ c.tick + (epochTicks - c.tick % epochTicks) ∧ c.tick + epochTicks < 2 ^ 64 ∧ d.reloadsBlock base = true
      ∧ d.tst.visits = [] ∧ d.tst.queue = []) :=
  ⟨⟨{ runDev with host := { runDev.host with moved := [(1, 5)] } }, by decide +kernel⟩,
   ⟨{}, { runDev with blkPend := [(0x400000, some { epoch := 1, vals := [(0x400000 * 32 + 16, 5)] })] }, 0x400000,
      { epoch := 1, vals := [(0x400000 * 32 + 16, 5)] }, by decide +kernel⟩,
   ⟨{}, { runDev with blkPend := [(0x400000, some { epoch := 1, vals := [(0x400000 * 32, 200), (0x400000 * 32 + 16, 5)] })]
                        }, 0x400000, { epoch := 1, vals := [(0x400000 * 32, 200), (0x400000 * 32 + 16, 5)] }, 2,
      by decide +kernel⟩,
   ⟨{}, { runDev with blkPend := [(0x400000, some { epoch := 1, vals := [] })], reload := some
                        { stamp := 1, image := {}, raw := [], dest := 0, select := false, until' := 5, who := {} } },
      0x400000, { epoch := 1, vals := [] }, by decide +kernel⟩⟩

/-- States and operands that meet the hypotheses of RegisterWordWrites. -/
theorem test_witness_RegisterWordWrites :
  (∃ (d : Dev) (link : Fin 2) (off : Nat), d.deny (.bar2 link) true off 4 = none ∧ (off / deckSpan = 4 ∨ off / deckSpan = 9
      ∨ off / deckSpan = 3 ∨ (off / deckSpan = 0 ∧ (off < 0x300 ∨ 0x310 ≤ off))) ∧ off % deckSpan ≠ 0xFF00 ∧ d.selected off
      = some off) ∧
  (∃ (d : Dev) (link : Fin 2) (n : Fin 16) (t : Nat), d.deny (.bar2 link) true ((deckBase + n * deckSpan + t)) 4 = none ∧
      (t = 4 ∨ t = 0x10018 ∨ t = 0x5001C ∨ t = 0x80008 ∨ t = 0x60020) ∧ (d.sldSt n = slDISABLED ∧ d.spnSt n = spOFF)) ∧
  (∃ (d : Dev) (pcie : Bool) (dw : Word), d.deny (.mctp pcie) true (4 * dw.toNat) 4 = none ∧ d.mctpSession pcie = true ∧
      (d.pwr.mode = .run ∧ d.pwr.entry = 0) ∧ (4 * dw.toNat / deckSpan = 4 ∨ 4 * dw.toNat / deckSpan = 9 ∨ 4 * dw.toNat /
      deckSpan = 3) ∧ 4 * dw.toNat % deckSpan ≠ 0xFF00 ∧ d.selected (4 * dw.toNat) = some (4 * dw.toNat)) ∧
  (∃ (d : Dev) (pcie : Bool) (dw : Word), d.deny (.mctp pcie) false (4 * dw.toNat) 4 = none ∧ d.mctpSession pcie = true ∧
      (d.pwr.mode = .run ∧ d.pwr.entry = 0) ∧ (4 * dw.toNat / deckSpan = 4 ∨ 4 * dw.toNat / deckSpan = 9)) :=
  ⟨⟨runDev, 0, 0x400000, by decide +kernel⟩,
   ⟨runDev, 0, 1, 4, by decide +kernel⟩,
   ⟨mctpDev, true, 0x100000#32, by decide +kernel⟩,
   ⟨mctpDev, true, 0x100000#32, by decide +kernel⟩⟩

/-- States and operands that meet the hypotheses of PlaitLoadAndReload. -/
theorem test_witness_PlaitLoadAndReload :
  (∃ (d : Dev) (stamp : Nat) (dest : Fin 4) (x : Ctx), d.running stamp .plaitLoad = some x ∧ (x.mute = false ∧ x.posted =
      false) ∧ d.load = none ∧ dest ≠ 3) ∧
  (∃ (d : Dev) (stamp : Nat) (ofst : Nat) (piece : List Byte) (dest : Fin 4) (x : Ctx) (l : LoadNow), d.running stamp
      .plaitLoad = some x ∧ (x.mute = false ∧ x.posted = false) ∧ d.load = some l ∧ l.cid = x.cid ∧ l.pieces.any
      (pieceOverlaps (4 * ofst, piece)) = false ∧ dest ≠ 3) ∧
  (∃ (d : Dev) (stamp : Nat) (ofst : Nat) (piece : List Byte) (dest : Fin 4) (subtree : Word) (x : Ctx) (r : Nat),
      d.running stamp .plaitLoad = some x ∧ (x.mute = false ∧ x.posted = false) ∧ (∀ k ∈ d.ctrls, stamp ∉ k.aers) ∧ d.load
      = none ∧ dest ≠ 3 ∧ (piece.length < 64 ∨ leAt piece 0x1C 4 = subtree.toNat) ∧ ofst = 0 ∧ d.get Reg.MEM_STS_STATE = 2
      ∧ verifyPlait d d.dramGib piece = .inl r) ∧
  (∃ (c : Clock) (d : Dev) (l : LoadNow), (d.load = some l ∧ l.last + 10 * tickS ≤ c.tick)) ∧
  (∃ (d : Dev) (r : ReloadNow) (q' : Plait) (x : Ctx), d.reload = some r ∧ d.plait = some q' ∧ d.reloadIdle r.image = true
      ∧ (d.ledFull = false ∧ d.led.bad = false) ∧ (d.ctx r.stamp = some x ∧ x.mute = false ∧ x.posted = false) ∧ (∀ k ∈
      d.ctrls, r.stamp ∉ k.aers) ∧ r.dest ≠ 1) ∧
  (∃ (c : Clock) (d : Dev) (r : ReloadNow) (x : Ctx), d.reload = some r ∧ (d.reloadIdle r.image = false ∧ r.until' ≤
      c.tick) ∧ (d.ctx r.stamp = some x ∧ x.mute = false ∧ x.posted = false) ∧ (∀ k ∈ d.ctrls, r.stamp ∉ k.aers)) :=
  ⟨⟨busyDev { op := .plaitLoad }, 1, 0, busyCtx { op := .plaitLoad }, by decide +kernel⟩,
   ⟨{ busyDev { op := .plaitLoad } with load := some { cid := 1, pieces := [(0, [1])], last := 0 } }, 1, 4, [1, 2, 3, 4],
      0, busyCtx { op := .plaitLoad }, { cid := 1, pieces := [(0, [1])], last := 0 }, by decide +kernel⟩,
   ⟨(busyDev { op := .plaitLoad }).set Reg.MEM_STS_STATE 2, 1, 0, [1, 2, 3, 4], 0, 0#32, busyCtx { op := .plaitLoad }, 1,
      by decide +kernel⟩,
   ⟨{ tick := 10 ^ 11 }, { runDev with load := some { cid := 1, pieces := [(0, [1])], last := 0 } },
      { cid := 1, pieces := [(0, [1])], last := 0 }, by decide +kernel⟩,
   ⟨{ busyDev { op := .plaitLoad } with reload := some
                                          { stamp := 1, image := openPlait, raw := [], dest := 0, select := false, until'
                                              := 5, who := {} } },
      { stamp := 1, image := openPlait, raw := [], dest := 0, select := false, until' := 5, who := {} }, openPlait, busyCtx
      { op := .plaitLoad }, by decide +kernel⟩,
   ⟨{ tick := 100 }, { (busyDev { op := .plaitLoad }).set (Reg.SEQ_STS_STATE 2) 7 with reload := some
                                                                                         { stamp := 1, image := openPlait,
                                                                                             raw := [], dest := 0, select
                                                                                             := false, until' := 5, who :=
                                                                                             {} } }, { stamp := 1, image :=
                                                                                                         openPlait, raw :=
                                                                                                         [], dest := 0,
                                                                                                         select := false,
                                                                                                         until' := 5, who
                                                                                                         := {} }, busyCtx { op := .plaitLoad }, by decide +kernel⟩⟩

/-- States and operands that meet the hypotheses of SeamLinks. -/
theorem test_witness_SeamLinks :
  (∃ (d : Dev) (k : Fin 6) (locked : Nat) (peerDev : Nat) (peerPort : Nat) (digest : List Byte) (reach : List (Nat × Nat ×
      List Byte)) (p : Plait), d.domOn 6 = true ∧ d.plait = some p ∧ (p.port k) = (peerDev, peerPort, true) ∧ d.get
      (Reg.SEAM_PORT_STS_STATE k) = 1 ∧ (locked % 16 ≠ 0 ∧ lanesOf locked ≠ 0) ∧ peerDev ≠ p.deviceNum ∧ digest =
      p.sheafDigest ∧ (d.misc.routes = [] ∧ reach.length ≤ 6)) ∧
  (∃ (d : Dev) (k : Fin 6) (p : Plait), d.domOn 6 = true ∧ d.plait = some p ∧ (p.port k).2.2 = true ∧ d.get
      (Reg.SEAM_PORT_STS_STATE k) = 1) ∧
  (∃ (d : Dev) (k : Fin 6), d.domOn 6 = true ∧ (k.val ∈ d.misc.seamFail ∧ 100 * tickMs ≤ d.devAge (gSEAM k))) ∧
  (∃ (d : Dev) (k : Fin 6), d.domOn 6 = true ∧ d.get (Reg.SEAM_PORT_STS_STATE k) = 2 ∧ d.get (Reg.SEAM_PORT_STS_LANES k) =
      4) ∧
  (∃ (d : Dev) (dev : Nat) (eth : Option (List Byte)) (p : Plait), d.plait = some p ∧ p.sheafDevs.contains dev = true ∧
      (eth = none ∨ p.peers.any (fun r => r.dev == dev) = false)) ∧
  (∃ (d : Dev) (hc : HostCmd), d.plait.isSome = true ∧ (hc.op ≠ .write ∧ hc.op ≠ .zoneAppend)) ∧
  (∃ (d : Dev) (stamp : Nat) (st : Sts) (x : Ctx), (d.ctx stamp = some x ∧ x.mute = false ∧ x.posted = false) ∧ (x.phase ≠
      .held ∧ x.phase ≠ .done) ∧ st ≠ .success) :=
  ⟨⟨{ runDev.set (Reg.SEAM_PORT_STS_STATE 2) 1 with plait := some seamPlait }, 2, 15, 7, 1, seamPlait.sheafDigest, [(9, 1,
      [5])], seamPlait, ⟨by decide +kernel, by decide +kernel, by decide +kernel, by decide +kernel, by decide +kernel,
      by decide +kernel, rfl, by decide +kernel⟩⟩,
   ⟨{ runDev.set (Reg.SEAM_PORT_STS_STATE 2) 1 with plait := some seamPlait }, 2, seamPlait, by decide +kernel⟩,
   ⟨{ runDev with ages := [(gSEAM 2, 10 ^ 11)], misc := { seamFail := [2] } }, 2, by decide +kernel⟩,
   ⟨(runDev.set (Reg.SEAM_PORT_STS_STATE 2) 2).set (Reg.SEAM_PORT_STS_LANES 2) 4, 2, by decide +kernel⟩,
   ⟨{ runDev with plait := some seamPlait, misc := { routes := [(7, 2, 0)] } }, 7, none, seamPlait, by decide +kernel⟩,
   ⟨runDev, { op := .read, nsid := 1 }, by decide +kernel⟩,
   ⟨busyDev { op := .read }, 1, .notReady, busyCtx { op := .read }, by decide +kernel⟩⟩

/-- States and operands that meet the hypotheses of TimebaseRows. -/
theorem test_witness_TimebaseRows :
  (∃ (d : Dev) (n : Fin 16), d.deckOn n = true ∧ d.tbState n = tbSEARCH ∧ (d.deck n).tb.last = none ∧ (d.deck n).reinit =
      []) ∧
  (∃ (c : Clock) (d : Dev) (n : Fin 16) (w : Fin 1024) (i0 : Nat) (t0 : Nat), d.deckOn n = true ∧ d.tbState n = tbSEARCH ∧
      (d.deck n).tb.last = some (i0, t0) ∧ acquires (d.get (Reg.ANG_INC_INC n)) (c.tick - t0) i0 w = true) ∧
  (∃ (c : Clock) (d : Dev) (n : Fin 16), d.deckOn n = true ∧ d.tbState n = tbLOCKED ∧ (markError (c.grain n)).natAbs ≤
      d.get (Reg.ANG_PLL_TOL_WIN n) * 64 ∧ ((d.deck n).tb.badPh < 3 ∧ (d.deck n).tb.badIx < 2) ∧ d.getB
      (Reg.ANG_PLL_CFG_FF_EN n) = false ∧ (d.deck n).reinit = []) ∧
  (∃ (c : Clock) (d : Dev) (n : Fin 16) (w : Fin 1024), d.deckOn n = true ∧ d.tbState n = tbACQUIRE ∧ (d.deck n).tb.good =
      63 ∧ (markError (c.grain n)).natAbs ≤ d.get (Reg.ANG_PLL_TOL_LOCK_TOL n) ∧ d.get (Reg.ANG_PLL_TOL_LOCK_TOL n) ≤ d.get
      (Reg.ANG_PLL_TOL_WIN n) * 64 ∧ w.val = markWedge (c.grain n)) ∧
  (∃ (d : Dev) (n : Fin 16), d.deckOn n = true ∧ (d.tbState n = tbLOCKED ∨ d.tbState n = tbACQUIRE) ∧ (d.deck n).tb.miss <
      7 ∧ (d.deck n).reinit = []) ∧
  (∃ (d : Dev) (n : Fin 16), d.deckOn n = true ∧ d.tbState n = tbLOCKED ∧ 7 ≤ (d.deck n).tb.miss) ∧
  (∃ (d : Dev) (n : Fin 16), d.deckOn n = true ∧ d.tbState n = tbHOLDOVER ∧ d.get (Reg.ANG_PLL_CFG_HOLD_MAX n) ≤ (d.deck
      n).tb.hold) ∧
  (∃ (d : Dev) (link : Fin 2) (n : Fin 16), d.deny (.bar2 link) true ((Reg.ANG_PLL_CFG_FORCE_SEARCH n).off) 4 = none ∧
      d.tbState n ≠ tbOFF) ∧
  (∃ (d : Dev) (n : Fin 16), d.deckOn n = true ∧ d.dstate n = dFOCUSED ∧ d.tbState n = tbOFF) ∧
  (∃ (d : Dev) (n : Fin 16), d.deckOn n = true ∧ d.tbState n ≠ tbOFF) :=
  ⟨⟨runDev.set (Reg.ANG_STS_STATE 1) 1, 1, by decide +kernel⟩,
   ⟨{ tick := 5959, ang := [(1, 1000 * 2 ^ 24)] }, ((runDev.set (Reg.ANG_STS_STATE 1) 1).set (Reg.ANG_INC_INC 1)
      46912496).onDeck 1 (fun k => { k with tb := { last := some (5, 100) } }), 1, 6, 5, 100, ⟨by decide +kernel,
      by decide +kernel, rfl, acquires_of _ _ _ _ (by decide +kernel) (by decide +kernel) (by decide +kernel)⟩⟩,
   ⟨{ tick := 900, ang := [(1, (3 * 16384 + 20) * 2 ^ 24)] }, (runDev.set (Reg.ANG_STS_STATE 1) 3).setBoth
      (Reg.ANG_PLL_CFG_FF_EN 1) 0, 1, by decide +kernel⟩,
   ⟨{ tick := 900, ang := [(1, (3 * 16384 + 20) * 2 ^ 24)] }, (runDev.set (Reg.ANG_STS_STATE 1) 2).onDeck 1 (fun k =>
      { k with tb := { good := 63 } }), 1, 3, by decide +kernel⟩,
   ⟨runDev.set (Reg.ANG_STS_STATE 1) 3, 1, by decide +kernel⟩,
   ⟨(runDev.set (Reg.ANG_STS_STATE 1) 3).onDeck 1 (fun k => { k with tb := { miss := 7 } }), 1, by decide +kernel⟩,
   ⟨(runDev.set (Reg.ANG_STS_STATE 1) 4).onDeck 1 (fun k => { k with tb := { hold := 1024 } }), 1, by decide +kernel⟩,
   ⟨runDev.set (Reg.ANG_STS_STATE 1) 3, 0, 1, by decide +kernel⟩,
   ⟨runDev.set (Reg.SEQ_STS_STATE 1) 3, 1, by decide +kernel⟩,
   ⟨runDev.set (Reg.ANG_STS_STATE 1) 3, 1, by decide +kernel⟩⟩

/-- States and operands that meet the hypotheses of TriggerRegisters. -/
theorem test_witness_TriggerRegisters :
  (∃ (d : Dev) (link : Fin 2) (n : Fin 16) (t : Fin 64) (v : Word), d.deny (.bar2 link) true ((Reg.ANG_TRIG_CFG_MODE n
      t).off) 4 = none ∧ 16 ≤ t.val ∧ d.getB (Reg.ANG_TRIG_CFG_ARM n t) = false ∧ trigValid (bits v.toNat 0 3) (d.get
      (Reg.ANG_TRIG_POS_POS n t)) = true ∧ (bits v.toNat 0 3 ≠ 1 ∨ bit v.toNat 31 = false)) ∧
  (∃ (d : Dev) (link : Fin 2) (n : Fin 16) (t : Fin 64) (v : Word), d.deny (.bar2 link) true ((Reg.ANG_TRIG_CFG_MODE n
      t).off) 4 = none ∧ 16 ≤ t.val ∧ (d.getB (Reg.ANG_TRIG_CFG_ARM n t) = true ∧ bit v.toNat 31 = true) ∧ bits v.toNat 0 3
      ≠ d.get (Reg.ANG_TRIG_CFG_MODE n t)) ∧
  (∃ (d : Dev) (link : Fin 2) (n : Fin 16) (t : Fin 64), d.deny (.bar2 link) true ((Reg.ANG_TRIG_CFG_MODE n t).off) 4 =
      none ∧ t.val < 16) ∧
  (∃ (d : Dev) (link : Fin 2) (n : Fin 16) (t : Fin 64) (v : Word), d.deny (.bar2 link) true ((Reg.ANG_TRIG_POS_POS n
      t).off) 4 = none ∧ 16 ≤ t.val ∧ d.getB (Reg.ANG_TRIG_CFG_ARM n t) = false ∧ trigValid (d.get (Reg.ANG_TRIG_CFG_MODE n
      t)) (bits v.toNat 0 24) = true) ∧
  (∃ (d : Dev) (link : Fin 2) (n : Fin 16) (t : Fin 64), d.deny (.bar2 link) true ((Reg.ANG_TRIG_POS_POS n t).off) 4 = none
      ∧ 16 ≤ t.val ∧ d.getB (Reg.ANG_TRIG_CFG_ARM n t) = true) ∧
  (∃ (d : Dev) (link : Fin 2) (n : Fin 16) (t : Fin 64), d.deny (.bar2 link) true ((Reg.ANG_TRIG_REV_REV_LO n t).off) 4 =
      none ∧ 16 ≤ t.val ∧ d.getB (Reg.ANG_TRIG_CFG_ARM n t) = false) ∧
  (∃ (c : Clock) (d : Dev) (n : Fin 16) (t : Fin 64), d.deckOn n = true ∧ 16 ≤ t.val ∧ (trigsDue d c n = [t.val] ∧ trigHeld
      d n t = false) ∧ ((d.deck n).pend = none ∧ (d.deck n).seqPend = []) ∧ ((d.deck n).sparePend 0 = none ∧ (d.deck
      n).sparePend 1 = none) ∧ (∀ s : Fin 8, ((d.deck n).slot s).swap = none)) ∧
  (∃ (c : Clock) (d : Dev) (n : Fin 16) (t : Fin 64), d.deckOn n = true ∧ t.val ≠ 5 ∧ (trigsDue d c n = [t.val] ∧ trigHeld
      d n t = true) ∧ (d.deck n).pend = none ∧ (∀ s : Fin 8, ((d.deck n).slot s).swap = none)) :=
  ⟨⟨runDev, 0, 1, 20, 0x80102004#32, by decide +kernel⟩,
   ⟨runDev.set (Reg.ANG_TRIG_CFG_ARM 1 20) 1, 0, 1, 20, 0x80000004#32, by decide +kernel⟩,
   ⟨runDev, 0, 1, 5, by decide +kernel⟩,
   ⟨runDev, 0, 1, 20, 0x12345678#32, by decide +kernel⟩,
   ⟨runDev.set (Reg.ANG_TRIG_CFG_ARM 1 20) 1, 0, 1, 20, by decide +kernel⟩,
   ⟨runDev, 0, 1, 20, by decide +kernel⟩,
   ⟨{ ang := [(1, 20 * 2 ^ 24)] }, ((((runDev.set (Reg.ANG_TRIG_CFG_ARM 1 20) 1).set (Reg.ANG_TRIG_CFG_MODE 1 20) 1).set
      (Reg.ANG_STS_STATE 1) 3).set (Reg.ANG_TRIG_POS_POS 1 20) 16).onDeck 1 (fun k => { k with tb := { acted := false } }),
      1, 20, by decide +kernel⟩,
   ⟨{ ang := [(1, 20 * 2 ^ 24)] }, (((((runDev.set (Reg.ANG_TRIG_CFG_ARM 1 20) 1).set (Reg.ANG_TRIG_CFG_MODE 1 20) 2).set
      (Reg.ANG_STS_STATE 1) 2).set (Reg.ANG_TRIG_POS_POS 1 20) 16).set (Reg.ANG_TRIG_CFG_REQ_LOCK 1 20) 1).onDeck 1 (fun k
      => { k with tb := { acted := false } }), 1, 20, by decide +kernel⟩⟩

/-- States and operands that meet the hypotheses of DeckCommits. -/
theorem test_witness_DeckCommits :
  (∃ (d : Dev) (link : Fin 2) (n : Fin 16) (trig : Fin 64), d.deny (.bar2 link) true ((Reg.ANG_COMMIT_CTL_REQ n).off) 4 =
      none ∧ (d.deck n).pend = none ∧ (d.getB (Reg.ANG_TRIG_CFG_ARM n trig) = true ∧ d.get (Reg.ANG_TRIG_CFG_MODE n trig) ≠
      0) ∧ d.tbFires n = true) ∧
  (∃ (d : Dev) (link : Fin 2) (n : Fin 16), d.deny (.bar2 link) true ((Reg.ANG_COMMIT_CTL_REQ n).off) 4 = none ∧ (d.deck
      n).pend.isSome = true) ∧
  (∃ (d : Dev) (link : Fin 2) (n : Fin 16) (trig : Fin 64), d.deny (.bar2 link) true ((Reg.ANG_COMMIT_CTL_REQ n).off) 4 =
      none ∧ (d.deck n).pend = none ∧ d.getB (Reg.ANG_TRIG_CFG_ARM n trig) = false) ∧
  (∃ (d : Dev) (link : Fin 2) (n : Fin 16), d.deny (.bar2 link) true ((Reg.ANG_COMMIT_CTL_REQ n).off) 4 = none ∧ (d.deck
      n).pend.isSome = true) ∧
  (∃ (d : Dev) (link : Fin 2) (n : Fin 16), d.deny (.bar2 link) true ((Reg.ANG_COMMIT_CTL_REQ n).off) 4 = none ∧ (d.deck
      n).pend = none ∧ d.regs.Pairwise (fun x y => x.1 < y.1)) ∧
  (∃ (c : Clock) (d : Dev) (n : Fin 16) (t : Fin 64) (p : DeckPend), d.deckOn n = true ∧ 16 ≤ t.val ∧ (trigsDue d c n =
      [t.val] ∧ trigHeld d n t = false) ∧ ((d.deck n).pend = some p ∧ p.trig = t.val ∧ p.mask = 1) ∧ p.req + 2000 ≤ c.tick
      ∧ (d.deck n).seqPend = [] ∧ ((d.deck n).sparePend 0 = none ∧ (d.deck n).sparePend 1 = none) ∧ (∀ s : Fin 8, ((d.deck
      n).slot s).swap = none) ∧ (d.reload = none ∧ d.ledFull = false) ∧ d.regs.Pairwise (fun x y => x.1 < y.1) ∧
      p.vals.Pairwise (fun x y => x.1 < y.1) ∧ (∀ x ∈ p.vals, subKeys n 1 x.1 = true ∧ accOf x.1 = .rws) ∧ angRules
      (d.applySet (subKeys n 1) p.vals) n = none) ∧
  (∃ (c : Clock) (d : Dev) (n : Fin 16) (t : Fin 64) (p : DeckPend) (r : Nat), d.deckOn n = true ∧ 16 ≤ t.val ∧ (trigsDue d
      c n = [t.val] ∧ trigHeld d n t = false) ∧ ((d.deck n).pend = some p ∧ p.trig = t.val ∧ p.mask = 1) ∧ p.req + 2000 ≤
      c.tick ∧ (d.deck n).seqPend = [] ∧ ((d.deck n).sparePend 0 = none ∧ (d.deck n).sparePend 1 = none) ∧ (∀ s : Fin 8,
      ((d.deck n).slot s).swap = none) ∧ d.reload = none ∧ angRules (d.applySet (subKeys n 1) p.vals) n = some r) :=
  ⟨⟨((runDev.set (Reg.ANG_TRIG_CFG_ARM 1 20) 1).set (Reg.ANG_TRIG_CFG_MODE 1 20) 1).set (Reg.ANG_STS_STATE 1) 3, 0, 1, 20,
      by decide +kernel⟩,
   ⟨runDev.onDeck 1 (fun k => { k with pend := some { mask := 1, trig := 20, req := 0, vals := [] } }), 0, 1,
      by decide +kernel⟩,
   ⟨runDev, 0, 1, 20, by decide +kernel⟩,
   ⟨runDev.onDeck 1 (fun k => { k with pend := some { mask := 1, trig := 20, req := 0, vals := [] } }), 0, 1,
      by decide +kernel⟩,
   ⟨{ runDev with staged := [((Reg.ANG_PLL_CFG_KP_SHIFT 1).key, 3)] }, 0, 1, by decide +kernel⟩,
   ⟨{ tick := 5000, ang := [(1, 20 * 2 ^ 24)] }, ((((runDev.set (Reg.ANG_TRIG_CFG_ARM 1 20) 1).set (Reg.ANG_TRIG_CFG_MODE 1
      20) 1).set (Reg.ANG_STS_STATE 1) 3).set (Reg.ANG_TRIG_POS_POS 1 20) 16).onDeck 1 (fun k =>
      { k with tb := { acted := false }, pend := some
                 { mask := 1, trig := 20, req := 0, vals := [((Reg.ANG_PLL_CFG_KP_SHIFT 1).key, 3)] } }), 1, 20,
      { mask := 1, trig := 20, req := 0, vals := [((Reg.ANG_PLL_CFG_KP_SHIFT 1).key, 3)] }, by decide +kernel⟩,
   ⟨{ tick := 5000, ang := [(1, 20 * 2 ^ 24)] }, ((((runDev.set (Reg.ANG_TRIG_CFG_ARM 1 20) 1).set (Reg.ANG_TRIG_CFG_MODE 1
      20) 1).set (Reg.ANG_STS_STATE 1) 3).set (Reg.ANG_TRIG_POS_POS 1 20) 16).onDeck 1 (fun k =>
      { k with tb := { acted := false }, pend := some
                 { mask := 1, trig := 20, req := 0, vals := [((Reg.ANG_PLL_CFG_KI_SHIFT 1).key, 3)] } }), 1, 20,
      { mask := 1, trig := 20, req := 0, vals := [((Reg.ANG_PLL_CFG_KI_SHIFT 1).key, 3)] }, 4, by decide +kernel⟩⟩

/-- States and operands that meet the hypotheses of LaneLoopsAndWinnow. -/
theorem test_witness_LaneLoopsAndWinnow :
  (∃ (c : Clock) (d : Dev) (n : Fin 16) (l : Fin 66) (wedge : Nat) (pos : Nat), wedge = c.grain n / 16384 ∧ (d.deckOn n =
      true ∧ d.domOn (dLANE (n / 8)) = true) ∧ (laneRuns d n l = true ∧ 2 ≤ d.tbState n) ∧ d.getB (Reg.LANE_LOOP_CTL_HOLD_G
      n l) = false ∧ (d.getB (Reg.LANE_LOOP_CTL_HOLD_O n l) = true ∧ d.getB (Reg.LANE_LOOP_CTL_HOLD_A n l) = true) ∧
      (((d.deck n).lane l).reinit = false ∧ ((d.deck n).lane l).acq = 0) ∧ (pos % 256 = 0 ∧ pos + 256 ≤ gapLen d n ∧
      chaffIn d n l pos (pos + 256) = false)) ∧
  (∃ (c : Clock) (d : Dev) (n : Fin 16) (l : Fin 66) (wedge : Nat) (pos : Nat), wedge = c.grain n / 16384 ∧ (d.deckOn n =
      true ∧ d.domOn (dLANE (n / 8)) = true) ∧ ((d.deck n).lane l).reinit = false ∧ chaffIn d n l pos (pos + 256) = true) ∧
  (∃ (c : Clock) (d : Dev) (n : Fin 16) (l : Fin 66) (wedge : Nat) (pos : Nat) (ys : List Int), wedge = c.grain n / 16384 ∧
      0 < pos ∧ (d.deckOn n = true ∧ d.domOn (dLANE (n / 8)) = true) ∧ (laneRuns d n l = true ∧ 2 ≤ d.tbState n) ∧ d.getB
      (Reg.LANE_WIN_STS_FLAG n l) = false ∧ (0 < d.get (Reg.LANE_WIN_CFG_SAT_ON n l) ∧ d.get (Reg.LANE_WIN_CFG_SAT_ON n l)
      ≤ winClip ys) ∧ d.get (Reg.LANE_WIN_CFG_ON_CNT n l) ≤ ((d.deck n).lane l).onCnt + 1) ∧
  (∃ (d : Dev) (n : Fin 16) (l : Fin 66), (d.deckOn n = true ∧ d.domOn (dLANE (n / 8)) = true) ∧ d.getB
      (Reg.LANE_WIN_STS_FLAG n l) = true ∧ d.get (Reg.LANE_WIN_SPAN_MAX_SPAN n l) < ((d.deck n).lane l).upLen + 32) ∧
  (∃ (d : Dev) (link : Fin 2) (n : Fin 16) (l : Fin 66), d.deny (.bar2 link) true ((Reg.LANE_LOOP_CTL_REINIT n l).off) 4 =
      none) ∧
  (∃ (d : Dev) (link : Fin 2) (n : Fin 16) (l : Fin 66), d.deny (.bar2 link) true ((Reg.LANE_LOOP_CTL_REINIT n l).off) 4 =
      none) ∧
  (∃ (d : Dev) (n : Fin 16) (l : Fin 66), (d.deckOn n = true ∧ d.domOn (dLANE (n / 8)) = true) ∧ (((d.deck n).lane
      l).waking = true ∧ 20 * tickUs ≤ d.age n (aWAKE l))) :=
  ⟨⟨{}, laneDev, 1, 3, 0, 256, by decide +kernel⟩,
   ⟨{}, laneDev.onLane 1 3 (fun a => { a with chaff := [(300, 400)] }), 1, 3, 0, 256, by decide +kernel⟩,
   ⟨{}, laneDev.setBoth (Reg.LANE_WIN_CFG_ON_CNT 1 3) 1, 1, 3, 0, 64, List.replicate 32 31, by decide +kernel⟩,
   ⟨(laneDev.set (Reg.LANE_WIN_STS_FLAG 1 3) 1).onLane 1 3 (fun a => { a with upLen := 100000 }), 1, 3, by decide +kernel⟩,
   ⟨runDev, 0, 1, 3, by decide +kernel⟩,
   ⟨runDev, 0, 1, 3, by decide +kernel⟩,
   ⟨(laneDev.onLane 1 3 (fun a => { a with waking := true })).onDeck 1 (fun k => { k with ages := [(aWAKE 3, 10 ^ 11)] }),
      1, 3, by decide +kernel⟩⟩

/-- States and operands that meet the hypotheses of SpareLanes. -/
theorem test_witness_SpareLanes :
  (∃ (d : Dev) (link : Fin 2) (n : Fin 16) (sp : Fin 2) (target : Fin 128), d.deny (.bar2 link) true
      ((Reg.LANE_SPARE_CTL_TRIG n sp).off) 4 = none ∧ (d.getB (Reg.LANE_SPARE_CTL_BUSY n sp) = false ∧ d.getB
      (Reg.LANE_SPARE_CTL_TST_OWN n sp) = false) ∧ target.val ≤ 63 ∧ d.lstate n (64 + sp) = lSPARE ∧ (d.lstate n target =
      lACTIVE ∧ d.get (Reg.LANE_STATE_SRC n target) = target) ∧ d.get (Reg.LANE_STATE_SRC n (otherSpare sp)) ≠ target) ∧
  (∃ (d : Dev) (link : Fin 2) (n : Fin 16) (sp : Fin 2) (target : Fin 128), d.deny (.bar2 link) true
      ((Reg.LANE_SPARE_CTL_TRIG n sp).off) 4 = none ∧ d.getB (Reg.LANE_SPARE_CTL_BUSY n sp) = false ∧ 63 < target.val) ∧
  (∃ (d : Dev) (link : Fin 2) (n : Fin 16) (sp : Fin 2) (trig : Fin 64) (target : Fin 128), d.deny (.bar2 link) true
      ((Reg.LANE_SPARE_CTL_TRIG n sp).off) 4 = none ∧ (d.getB (Reg.LANE_SPARE_CTL_BUSY n sp) = false ∧ d.getB
      (Reg.LANE_SPARE_CTL_TST_OWN n sp) = false) ∧ target.val ≤ 63 ∧ (d.lstate n (64 + sp) = lSHADOW ∧ d.get
      (Reg.LANE_STATE_SRC n (64 + sp)) = target) ∧ (16 ≤ trig.val ∧ d.getB (Reg.ANG_TRIG_CFG_ARM n trig) = true ∧ d.get
      (Reg.ANG_TRIG_CFG_MODE n trig) ≠ 0 ∧ 2 ≤ d.tbState n)) ∧
  (∃ (d : Dev) (link : Fin 2) (n : Fin 16) (sp : Fin 2) (trig : Fin 64) (target : Fin 128), d.deny (.bar2 link) true
      ((Reg.LANE_SPARE_CTL_TRIG n sp).off) 4 = none ∧ (d.getB (Reg.LANE_SPARE_CTL_BUSY n sp) = false ∧ d.getB
      (Reg.LANE_SPARE_CTL_TST_OWN n sp) = false) ∧ target.val ≤ 63 ∧ (d.lstate n (64 + sp) = lACTIVE ∧ d.get
      (Reg.LANE_STATE_SRC n (64 + sp)) = target ∧ d.lstate n target = lSHADOW) ∧ (16 ≤ trig.val ∧ d.getB
      (Reg.ANG_TRIG_CFG_ARM n trig) = true ∧ d.get (Reg.ANG_TRIG_CFG_MODE n trig) ≠ 0 ∧ 2 ≤ d.tbState n)) ∧
  (∃ (d : Dev) (link : Fin 2) (n : Fin 16) (sp : Fin 2) (target : Fin 128), d.deny (.bar2 link) true
      ((Reg.LANE_SPARE_CTL_TRIG n sp).off) 4 = none ∧ (d.getB (Reg.LANE_SPARE_CTL_BUSY n sp) = false ∧ d.getB
      (Reg.LANE_SPARE_CTL_TST_OWN n sp) = false) ∧ target.val ≤ 63 ∧ d.lstate n (64 + sp) = lSHADOW) ∧
  (∃ (d : Dev) (link : Fin 2) (n : Fin 16) (sp : Fin 2) (target : Fin 128), d.deny (.bar2 link) true
      ((Reg.LANE_SPARE_CTL_TRIG n sp).off) 4 = none ∧ (d.getB (Reg.LANE_SPARE_CTL_BUSY n sp) = false ∧ d.getB
      (Reg.LANE_SPARE_CTL_TST_OWN n sp) = false) ∧ target.val ≤ 63 ∧ (d.lstate n (64 + sp) = lACTIVE ∧ d.get
      (Reg.LANE_STATE_SRC n (64 + sp)) = target ∧ d.lstate n target = lTEST)) ∧
  (∃ (d : Dev) (n : Fin 16) (sp : Fin 2) (p : SparePend) (t : Fin 64), (d.deckOn n = true ∧ d.domOn (dLANE (n / 8)) = true)
      ∧ ((d.deck n).sparePend sp = some p ∧ p.fired = true ∧ p.back = false) ∧ d.get (Reg.LANE_STATE_SRC n (64 + sp)) =
      t.val ∧ d.lstate n t = lACTIVE ∧ (d.getB (Reg.LANE_WIN_STS_FLAG n (64 + sp)) = false ∧ d.getB (Reg.LANE_WIN_STS_FLAG
      n t) = false) ∧ d.tbState n = tbLOCKED ∧ d.tst.visits = []) :=
  ⟨⟨laneDev, 0, 1, 0, 7, by decide +kernel⟩,
   ⟨laneDev, 0, 1, 0, 100, by decide +kernel⟩,
   ⟨((laneDev.set (Reg.LANE_STATE_LSTATE 1 64) 1).set (Reg.LANE_STATE_SRC 1 64) 7).sets [(Reg.ANG_TRIG_CFG_ARM 1 20, 1),
      (Reg.ANG_TRIG_CFG_MODE 1 20, 4)], 0, 1, 0, 20, 7, by decide +kernel⟩,
   ⟨laneDev.sets [(Reg.ANG_TRIG_CFG_ARM 1 20, 1), (Reg.ANG_TRIG_CFG_MODE 1 20, 4), (Reg.LANE_STATE_LSTATE 1 64, 0),
      (Reg.LANE_STATE_SRC 1 64, 7), (Reg.LANE_STATE_LSTATE 1 7, 1)], 0, 1, 0, 20, 7, by decide +kernel⟩,
   ⟨laneDev.set (Reg.LANE_STATE_LSTATE 1 64) 1, 0, 1, 0, 7, by decide +kernel⟩,
   ⟨laneDev.sets [(Reg.LANE_STATE_LSTATE 1 64, 0), (Reg.LANE_STATE_SRC 1 64, 7), (Reg.LANE_STATE_LSTATE 1 7, 3)], 0, 1, 0,
      7, by decide +kernel⟩,
   ⟨(laneDev.sets [(Reg.LANE_STATE_LSTATE 1 64, 1), (Reg.LANE_STATE_SRC 1 64, 7)]).onDeck 1 (fun k =>
      { k with spare := [(0, some { back := false, trig := 20, fired := true })] }), 1, 0,
      { back := false, trig := 20, fired := true }, 7, by decide +kernel⟩⟩

/-- States and operands that meet the hypotheses of SyncAndFirstDecode. -/
theorem test_witness_SyncAndFirstDecode :
  (∃ (d : Dev) (n : Fin 16) (beam : Fin 64) (slot : Nat) (swath : Nat) (b : Blk), (d.deck n).seq.swath = swath ∧ (d.deckOn
      n = true ∧ d.domOn (dLANE (n / 8)) = true) ∧ ((d.deck n).blocks = [b] ∧ b.slot = slot ∧ b.pending = false ∧ b.mode ≠
      1) ∧ b.dec.getD beam .notRead = .waiting ∧ d.getB (Reg.LANE_STATE_ERASED n beam) = false ∧ (2 ≤ d.tbState n ∧ (d.deck
      n).wins.contains slot = true) ∧ ((d.die (dieOf n)).outstanding < 4096 ∧ (d.die (dieOf n)).held.any (fun h => h.id ==
      ⟨n, slot, beam⟩) = false)) ∧
  (∃ (d : Dev) (n : Fin 16) (beam : Fin 64) (slot : Nat) (swath : Nat) (b : Blk), (d.deck n).seq.swath = swath ∧ (d.deckOn
      n = true ∧ d.domOn (dLANE (n / 8)) = true) ∧ ((d.deck n).blocks = [b] ∧ b.slot = slot ∧ b.pending = false ∧ b.mode ≠
      1) ∧ b.dec.getD beam .notRead = .waiting ∧ (d.die (dieOf n)).held.any (fun h => h.id == ⟨n, slot, beam⟩) = false ∧
      d.getB (Reg.LANE_STATE_ERASED n beam) = true) ∧
  (∃ (d : Dev) (n : Fin 16) (beam : Fin 64) (slot : Nat) (b : Blk) (pred : Int), (d.deckOn n = true ∧ d.domOn (dLANE (n /
      8)) = true) ∧ ((d.deck n).blocks = [b] ∧ b.slot = slot) ∧ (FMap.get (fun _ => []) b.offs beam).getLast? = some pred ∧
      (FMap.get (fun _ => []) b.offs beam).length ≤ resyncCount (b.p - 240) (slotBits * slot)) ∧
  (∃ (d : Dev) (die : Fin 2) (s : SectorId) (t : List SectorId), d.domOn (dDEC die) = true ∧ (d.die die).active.length +
      (d.die die).ldpcOut < 48 ∧ (d.die die).first = s :: t) ∧
  (∃ (d : Dev) (n : Fin 16) (slot : Nat) (beam : Fin 64) (b : Blk), d.domOn (dDEC (n / 8)) = true ∧ ((d.deck n).blocks =
      [b] ∧ b.slot = slot ∧ b.mode ≠ 1 ∧ bit b.blind beam = false) ∧ (d.die (dieOf n)).active.contains
      { deck := n, slot := slot, beam := beam } = true) ∧
  (∃ (d : Dev) (n : Fin 16) (slot : Nat) (beam : Fin 64) (b : Blk) (h : Held), d.domOn (dDEC (n / 8)) = true ∧ ((d.deck
      n).blocks = [b] ∧ b.slot = slot ∧ b.mode ≠ 1 ∧ b.dec.getD beam .notRead = .turbo) ∧ (d.die (dieOf n)).active.contains
      { deck := n, slot := slot, beam := beam } = true ∧ ((d.die (dieOf n)).held = [h] ∧ h.id =
      { deck := n, slot := slot, beam := beam })) :=
  ⟨⟨laneDev.onDeck 1 (fun k => { k with blocks := [waitBlk], wins := [9] }), 1, 5, 9, 32, waitBlk, by decide +kernel⟩,
   ⟨(laneDev.set (Reg.LANE_STATE_ERASED 1 5) 1).onDeck 1 (fun k => { k with blocks := [waitBlk] }), 1, 5, 9, 32, waitBlk,
      by decide +kernel⟩,
   ⟨laneDev.onDeck 1 (fun k => { k with blocks := [{ waitBlk with offs := [(5, [3])] }] }), 1, 5, 9,
      { waitBlk with offs := [(5, [3])] }, 3, by decide +kernel⟩,
   ⟨{ runDev with dies := [(0, { first := [{ deck := 1, slot := 9, beam := 5 }] })] }, 0,
      { deck := 1, slot := 9, beam := 5 }, [], by decide +kernel⟩,
   ⟨{ (laneDev.set (Reg.DET_DEC_CFG_ITER_MAX1 1) 0).onDeck 1 (fun k => { k with blocks := [waitBlk] }) with dies := [(0,
                                                                                                              { active :=
                                                                                                                  [{ deck := 1, slot := 9, beam := 5 }] })] }, 1, 9, 5, waitBlk, by decide +kernel⟩,
   ⟨{ (laneDev.set (Reg.DET_DEC_CFG_ITER_MAX2 1) 0).onDeck 1 (fun k => { k with blocks := [{ waitBlk with dec :=
                                                                                                            List.replicate
                                                                                                            64 .turbo }] }) with dies := [(0, { active := [{ deck := 1, slot := 9, beam := 5 }], held := [{ id := { deck := 1, slot := 9, beam := 5 } }] })] }, 1, 9, 5, { waitBlk with dec := List.replicate 64 .turbo }, { id := { deck := 1, slot := 9, beam := 5 } }, by decide +kernel⟩⟩

/-- States and operands that meet the hypotheses of DarnAndGleans. -/
theorem test_witness_DarnAndGleans :
  (∃ (d : Dev) (n : Fin 16) (slot : Nat) (b : Blk), d.domOn (dDEC (n / 8)) = true ∧ ((d.deck n).blocks = [b] ∧ b.slot =
      slot) ∧ (b.complete = true ∧ b.inDarn = false ∧ b.pending = false ∧ b.mode ≠ 1) ∧ (d.die (dieOf n)).darn.length +
      (d.die (dieOf n)).darnOut < 4) ∧
  (∃ (d : Dev) (n : Fin 16) (slot : Nat) (eng : Nat) (t : Nat) (a : Nat) (b : Blk), (d.die (dieOf n)).darn[eng]? = some
      (n.val, slot) ∧ d.domOn (dDEC (n / 8)) = true ∧ ((d.deck n).blocks = [b] ∧ b.slot = slot ∧ b.inDarn = true ∧ b.ended
      = some (t, a)) ∧ (b.passes % 16 = 15 ∧ b.erasures = 0) ∧ d.getB (Reg.DET_DEC_CFG_DARN_CHK n) = false) ∧
  (∃ (d : Dev) (n : Fin 16) (slot : Nat) (eng : Nat) (t : Nat) (a : Nat) (b : Blk), (d.die (dieOf n)).darn[eng]? = some
      (n.val, slot) ∧ d.domOn (dDEC (n / 8)) = true ∧ ((d.deck n).blocks = [b] ∧ b.slot = slot ∧ b.inDarn = true ∧ b.ended
      = some (t, a)) ∧ (b.passes % 16 = 15 ∧ 0 < b.erasures ∧ b.erasures ≤ 8)) ∧
  (∃ (d : Dev) (n : Fin 16) (slot : Nat) (eng : Nat) (b : Blk), (d.die (dieOf n)).darn[eng]? = some (n.val, slot) ∧ d.domOn
      (dDEC (n / 8)) = true ∧ ((d.deck n).blocks = [b] ∧ b.slot = slot ∧ b.inDarn = true) ∧ (b.passes % 16 = 15 ∧ 8 <
      b.erasures ∧ 0 < b.dataErasures) ∧ (b.glean < min (d.get (Reg.DET_DEC_CFG_MAX_GLEAN n)) 4 ∧ 2 ≤ d.tbState n)) ∧
  (∃ (c : Clock) (d : Dev) (n : Fin 16) (g : Fin 5) (b : Blk), d.deckOn n = true ∧ ((d.deck n).blocks = [b] ∧ b.pending =
      true ∧ b.glean = g.val) ∧ 2 ≤ d.tbState n ∧ passes (gleanPoint d n [b.slot] * 2 ^ 24) (2 ^ 48) (d.deck n).tb.prev
      (c.counter n) = true ∧ d.get (Reg.DET_GLEAN_SET_EQ_MODE n g) = 0 ∧ d.getI (Reg.DET_GLEAN_SET_FOCUS_OFS n g) = (d.deck
      n).gleanOfs) :=
  ⟨⟨laneDev.onDeck 1 (fun k => { k with blocks := [convBlk] }), 1, 9, convBlk, by decide +kernel⟩,
   ⟨{ ((laneDev.set (Reg.DET_DEC_CFG_DARN_CHK 1) 0).onDeck 1 (fun k => { k with blocks := [{ convBlk with inDarn := true,
                                                                                                            ended := some
                                                                                                            (500, 70) }]
                                                                                  })) with dies := [(0,
                                                                                             { darn := [(1, 9)] })] }, 1,
      9, 0, 500, 70, { convBlk with inDarn := true, ended := some (500, 70) }, by decide +kernel⟩,
   ⟨{ (laneDev.onDeck 1 (fun k => { k with blocks := [{ convBlk with inDarn := true, ended := some (500, 70), dec :=
                                                                       .erased :: List.replicate 63 .conv }] })) with dies
                                                                                                                        := [(0, { darn := [(1, 9)] })] }, 1, 9, 0, 500, 70, { convBlk with inDarn := true, ended := some (500, 70), dec := .erased :: List.replicate 63 .conv }, by decide +kernel⟩,
   ⟨{ (laneDev.onDeck 1 (fun k => { k with blocks := [{ convBlk with inDarn := true, dec := List.replicate 9 .erased ++
                                                                       List.replicate 55 .conv }] })) with dies := [(0,
                                                                                                             { darn := [(1,
                                                                                                                 9)] })] },
      1, 9, 0, { convBlk with inDarn := true, dec := List.replicate 9 .erased ++ List.replicate 55 .conv },
      by decide +kernel⟩,
   ⟨{ ang := [(1, 2 ^ 48)] }, (laneDev.set (Reg.DET_GLEAN_SET_EQ_MODE 1 1) 0).onDeck 1 (fun k => { k with blocks := [{ convBlk with pending := true, glean := 1, dec := .erased :: List.replicate 63 .conv }], gleanOfs := (laneDev).getI (Reg.DET_GLEAN_SET_FOCUS_OFS 1 1) }), 1, 1, { convBlk with pending := true, glean := 1, dec := .erased :: List.replicate 63 .conv }, by decide +kernel⟩⟩

/-- States and operands that meet the hypotheses of MarginsAndEqualiserSets. -/
theorem test_witness_MarginsAndEqualiserSets :
  (∃ (d : Dev) (link : Fin 2) (n : Fin 16), d.deny (.bar2 link) true ((Reg.DET_MARGIN_CTL_SNAP n).off) 4 = none) ∧
  (∃ (d : Dev) (link : Fin 2) (n : Fin 16), d.deny (.bar2 link) true ((Reg.DET_MARGIN_CTL_SNAP n).off) 4 = none) ∧
  (∃ (d : Dev) (link : Fin 2) (n : Fin 16) (k : Fin 64), d.deny (.bar2 link) true ((Reg.DET_BCFG_EQ_REINIT n k).off) 4 =
      none) ∧
  (∃ (d : Dev) (link : Fin 2) (n : Fin 16), d.deny (.bar2 link) true ((Reg.DET_EQ_DATA_COEF n).off) 4 = none ∧ d.get
      (Reg.DET_EQ_ADDR_SET n) ≠ 0 ∧ (d.get (Reg.DET_EQ_ADDR_SIDE n) ≠ 3 ∧ d.get (Reg.DET_EQ_ADDR_TAP n) ≠ 15)) ∧
  (∃ (d : Dev) (link : Fin 2) (n : Fin 16), d.deny (.bar2 link) true ((Reg.DET_EQ_DATA_COEF n).off) 4 = none ∧ d.get
      (Reg.DET_EQ_ADDR_SET n) = 0) :=
  ⟨⟨runDev, 0, 1, by decide +kernel⟩,
   ⟨runDev, 0, 1, by decide +kernel⟩,
   ⟨runDev, 0, 1, 9, by decide +kernel⟩,
   ⟨runDev.set (Reg.DET_EQ_ADDR_SET 1) 1, 0, 1, by decide +kernel⟩,
   ⟨runDev, 0, 1, by decide +kernel⟩⟩

/-- States and operands that meet the hypotheses of WritePasses. -/
theorem test_witness_WritePasses :
  (∃ (d : Dev) (n : Fin 16) (swath : Nat) (pass : Nat) (z : Zone), (d.deckOn n = true ∧ (d.deck n).disc.isSome) ∧ zoneOf
      swath = some z ∧ (mayWrite d n = true ∧ opcDue d n = false) ∧ bandOf (d.get (Reg.SEQ_STS_LAYER n)) swath = .data ∧ (0
      < pass ∧ (d.deck n).nextPass = pass ∧ (d.deck n).wrSwath = swath) ∧ inPlace d n swath pass z = true ∧ d.openMask n ≠
      0) ∧
  (∃ (d : Dev) (n : Fin 16) (swath : Nat) (z : Zone) (x : Disc) (b : StageBlk) (t : List StageBlk), (d.deckOn n = true ∧
      (d.deck n).disc = some x) ∧ zoneOf swath = some z ∧ (mayWrite d n = true ∧ opcDue d n = false) ∧ bandOf (d.get
      (Reg.SEQ_STS_LAYER n)) swath = .data ∧ ((d.deck n).nextPass = 0 ∧ x.written.contains (d.get (Reg.SEQ_STS_LAYER n),
      swath) = false) ∧ ((d.deck n).waiting = b :: t ∧ b.zone = none) ∧ inPlace d n swath 0 z = true ∧ d.openMask n ≠ 0) ∧
  (∃ (d : Dev) (n : Fin 16) (em : Fin 16) (slot : Nat) (p : Pass), d.deckOn n = true ∧ ((d.deck n).pass = some p ∧ p.run =
      none ∧ (d.deck n).unit = none) ∧ p.outs.any (fun r => r.emitter == em.val && r.slot == slot) = false ∧ gateOutcome em
      slot p = none ∧ bit (d.deck n).gate.hold gLATCHED = false) ∧
  (∃ (d : Dev) (n : Fin 16) (em : Fin 16) (slot : Nat) (p : Pass) (r : SlotResult), d.deckOn n = true ∧ ((d.deck n).pass =
      some p ∧ p.run = none ∧ (d.deck n).unit = none) ∧ p.outs.any (fun r => r.emitter == em.val && r.slot == slot) = false
      ∧ gateOutcome em slot p = some r ∧ bit (d.deck n).gate.hold gLATCHED = false) ∧
  (∃ (d : Dev) (n : Fin 16) (p : Pass) (z : Zone), d.deckOn n = true ∧ ((d.deck n).pass = some p ∧ p.run = none ∧ p.pass <
      3) ∧ ((d.deck n).unit = none ∧ zoneOf (d.deck n).wrSwath = some z) ∧ (List.range 16).all (fun em => (List.range
      z.s).all (fun k => p.outs.any (fun o => o.emitter == em && o.slot == k))) = true ∧ ((d.deck n).seq.pendPark = false ∧
      d.dstate n = dWRITING)) ∧
  (∃ (d : Dev) (n : Fin 16) (found : Nat) (x : Disc) (z : Zone), d.deckOn n = true ∧ (mayWrite d n = true ∧ opcDue d n =
      true) ∧ ((d.deck n).disc = some x ∧ (d.deck n).opcFresh = [] ∧ found < 144 ∧ x.calUsed = []) ∧ (zoneOf (2654 + found
      / 18 / 4) = some z ∧ inPlace d n (2654 + found / 18 / 4) (found / 18 % 4) z = true) ∧ d.openMask n ≠ 0) ∧
  (∃ (d : Dev) (n : Fin 16) (found : Nat) (x : Disc), d.deckOn n = true ∧ (mayWrite d n = true ∧ opcDue d n = true ∧
      (d.deck n).seq.opc = false) ∧ ((d.deck n).disc = some x ∧ (d.deck n).opcFresh = [] ∧ 144 ≤ found)) ∧
  (∃ (d : Dev) (link : Fin 2) (n : Fin 16), d.deny (.bar2 link) true ((Reg.WRP_VFY_CLR_CLR n).off) 4 = none) :=
  ⟨⟨writeDev 40, 1, 40, 1, zone40, by decide +kernel⟩,
   ⟨(writeAt 40 0).onDeck 1 (fun k => { k with queue := [waitingBlk] }), 1, 40, zone40, { layers := 8 }, waitingBlk, [],
      by decide +kernel⟩,
   ⟨((writeDev 40).setBoth (Reg.WRP_VFY_CFG_VFY_ITER 1) 0).onDeck 1 (fun k =>
      { k with pass := some { pass := 1, startSlot := 3, opened := [(9, 0xFFFF)] } }), 1, 3, 9,
      { pass := 1, startSlot := 3, opened := [(9, 0xFFFF)] }, by decide +kernel⟩,
   ⟨((writeDev 40).setBoth (Reg.WRP_VFY_CFG_VFY_ITER 1) 0).onDeck 1 (fun k =>
      { k with pass := some { pass := 1, startSlot := 3, opened := [(9, 0xFFF7)] } }), 1, 3, 9,
      { pass := 1, startSlot := 3, opened := [(9, 0xFFF7)] }, .notWritten, by decide +kernel⟩,
   ⟨((writeDev 40).set (Reg.SEQ_STS_STATE 1) 7).onDeck 1 (fun k => { k with pass := some fullPass }), 1, fullPass, zone40,
      ⟨by decide +kernel, ⟨rfl, by decide, by decide⟩, by decide +kernel, List.all_eq_true.2 fun em he =>
      List.all_eq_true.2 fun k hk => fullPass_reports em k (List.mem_range.1 he) (Nat.lt_trans (List.mem_range.1 hk)
      (by decide +kernel)), by decide +kernel⟩⟩,
   ⟨(writeAt 2654 0).onDeck 1 (fun k => { k with opcFresh := [], opcTemp := [], disc := some { layers := 8 } }), 1, 7,
      { layers := 8 }, (zoneOf 2654).getD zone40, by decide +kernel⟩,
   ⟨(writeDev 40).onDeck 1 (fun k => { k with opcFresh := [], opcTemp := [], disc := some { layers := 8 } }), 1, 144,
      { layers := 8 }, by decide +kernel⟩,
   ⟨runDev, 0, 2, by decide +kernel⟩⟩

/-- States and operands that meet the hypotheses of LaserLink. -/
theorem test_witness_LaserLink :
  (∃ (d : Dev) (n : Fin 16), d.deckOn n = true ∧ (d.deck n).primer = none) ∧
  (∃ (d : Dev) (n : Fin 16) (syms : List Nat), d.deckOn n = true ∧ (rxDecode syms = none ∧ (d.deck n).link.badFrames = 1) ∧
      (d.linkSt n = lkUP ∧ d.dstate n = dLOADED)) ∧
  (∃ (d : Dev) (n : Fin 16), d.deckOn n = true ∧ (linkHolds (d.deck n).link = false ∧ bit (d.deck n).gate.hold gLINK =
      false) ∧ d.linkSt n = lkUP) ∧
  (∃ (d : Dev) (n : Fin 16) (tag : Nat) (p : List Byte), d.deckOn n = true ∧ answers d n 0x01 tag = true ∧ ofLe (slice p 0
      2) ≠ 1) ∧
  (∃ (d : Dev) (n : Fin 16) (tag : Nat) (p : List Byte), d.deckOn n = true ∧ answers d n 0x01 tag = true ∧ (ofLe (slice p 0
      2) = 1 ∧ ofLe (slice p 2 1) = 16 ∧ ofLe (slice p 3 1) ≤ 48)) ∧
  (∃ (d : Dev) (n : Fin 16) (tag : Nat), d.deckOn n = true ∧ (answers d n 0x04 tag = true ∧ (d.deck n).link.toSend = [])) ∧
  (∃ (d : Dev) (n : Fin 16) (tag : Nat) (r : LinkReq), d.deckOn n = true ∧ ((d.deck n).link.req = some r ∧ r.tag = tag ∧
      r.type = 0x05) ∧ (d.linkSt n = lkUP ∧ (d.deck n).link.toSend = [])) ∧
  (∃ (d : Dev) (n : Fin 16) (tag : Nat) (r : LinkReq), d.deckOn n = true ∧ ((d.deck n).link.req = some r ∧ r.tag = tag ∧
      r.type = 0x02) ∧ d.linkSt n = lkUP) ∧
  (∃ (d : Dev) (n : Fin 16), d.deckOn n = true) ∧
  (∃ (d : Dev) (n : Fin 16) (r : LinkReq), d.deckOn n = true ∧ ((d.deck n).link.req = some r ∧ r.queued = false) ∧ 1024 *
      d.get (Reg.WRP_LINK_CFG_MSG_TMO n) ≤ 10 * d.age n aMSG ∧ r.sends < d.get (Reg.WRP_LINK_CFG_MSG_TRY n)) ∧
  (∃ (d : Dev) (n : Fin 16), d.deckOn n = true ∧ d.linkSt n = lkUP) ∧
  (∃ (d : Dev) (n : Fin 16), (d.deckOn n = true ∧ noLoopEngine d n = false) ∧ (d.linkSt n = lkTRAINING ∧ (d.deck
      n).link.retry = false ∧ d.get (Reg.WRP_LINK_STS_STEP n) < 2) ∧ d.dstate n = dABSENT) ∧
  (∃ (d : Dev) (n : Fin 16), (d.deckOn n = true ∧ noLoopEngine d n = false) ∧ (d.linkSt n = lkTRAINING ∧ (d.deck
      n).link.retry = false) ∧ d.dstate n = dABSENT) ∧
  (∃ (d : Dev) (n : Fin 16), d.deckOn n = true ∧ (d.linkSt n = lkTRAINING ∧ (d.deck n).link.retry = true ∧ 10 * tickMs ≤
      d.age n aLINK)) ∧
  (∃ (d : Dev) (link : Fin 2) (n : Fin 16), d.deny (.bar2 link) true ((Reg.WRP_LINK_CFG_FORCE_DOWN n).off) 4 = none) :=
  ⟨⟨runDev, 1, by decide +kernel⟩,
   ⟨((writeDev 40).set (Reg.SEQ_STS_STATE 1) 1).onDeck 1 (fun k => { k with link := { k.link with badFrames := 1 } }), 1,
      [], ⟨by decide +kernel, ⟨rfl, by decide +kernel⟩, by decide +kernel⟩⟩,
   ⟨writeDev 40, 1, by decide +kernel⟩,
   ⟨runDev.onDeck 1 (fun k => { k with link := { k.link with req := some { type := 1, tag := 4, payload := [] } } }), 1, 4,
      [2#8, 0#8], by decide +kernel⟩,
   ⟨runDev.onDeck 1 (fun k => { k with link := { k.link with req := some { type := 1, tag := 4, payload := [] } } }), 1, 4,
      [1#8, 0#8, 16#8, 24#8, 3#8, 9#8, 0#8], by decide +kernel⟩,
   ⟨runDev.onDeck 1 (fun k => { k with link := { k.link with req := some { type := 4, tag := 4, payload := [] } } }), 1, 4,
      by decide +kernel⟩,
   ⟨(runDev.set (Reg.WRP_LINK_STS_STATE 1) 2).onDeck 1 (fun k =>
      { k with link := { k.link with req := some { type := 5, tag := 4, payload := [] } } }), 1, 4,
      { type := 5, tag := 4, payload := [] }, by decide +kernel⟩,
   ⟨(runDev.set (Reg.WRP_LINK_STS_STATE 1) 2).onDeck 1 (fun k =>
      { k with link := { k.link with req := some { type := 2, tag := 4, payload := [] } } }), 1, 4,
      { type := 2, tag := 4, payload := [] }, by decide +kernel⟩,
   ⟨runDev, 1, by decide +kernel⟩,
   ⟨runDev.onDeck 1 (fun k =>
      { k with ages := [(aMSG, 10 ^ 11)], link :=
                 { k.link with req := some { type := 2, tag := 4, payload := [], sends := 0, queued := false } } }), 1,
      { type := 2, tag := 4, payload := [], sends := 0, queued := false }, by decide +kernel⟩,
   ⟨runDev.set (Reg.WRP_LINK_STS_STATE 1) 2, 1, by decide +kernel⟩,
   ⟨runDev.set (Reg.WRP_LINK_STS_STATE 1) 1, 1, by decide +kernel⟩,
   ⟨runDev.set (Reg.WRP_LINK_STS_STATE 1) 1, 1, by decide +kernel⟩,
   ⟨(runDev.set (Reg.WRP_LINK_STS_STATE 1) 1).onDeck 1 (fun k =>
      { k with ages := [(aLINK, 10 ^ 11)], link := { k.link with retry := true, tries := 3 } }), 1, by decide +kernel⟩,
   ⟨runDev, 0, 1, by decide +kernel⟩⟩

/-- States and operands that meet the hypotheses of WriteGate. -/
theorem test_witness_WriteGate :
  (∃ (d : Dev) (n : Fin 16) (level : Nat), d.deckOn n = true ∧ d.get (Reg.WRP_GATE_CFG_SHK_LIM n) < level) ∧
  (∃ (d : Dev) (n : Fin 16) (level : Nat), d.deckOn n = true ∧ level ≤ d.get (Reg.WRP_GATE_CFG_SHK_LIM n)) ∧
  (∃ (d : Dev) (n : Fin 16) (level : Nat), d.deckOn n = true ∧ level ≤ d.get (Reg.WRP_GATE_CFG_SHK_LIM n) ∧ bit (d.deck
      n).gate.hold gSHOCK = true) ∧
  (∃ (d : Dev) (n : Fin 16) (vm : Nat), d.deckOn n = true ∧ (vm < d.get (Reg.WRP_GATE_VM_VM_LO n) ∨ d.get
      (Reg.WRP_GATE_VM_VM_HI n) < vm)) ∧
  (∃ (d : Dev) (n : Fin 16) (vm : Nat), d.deckOn n = true ∧ (d.get (Reg.WRP_GATE_VM_VM_LO n) ≤ vm ∧ vm ≤ d.get
      (Reg.WRP_GATE_VM_VM_HI n)) ∧ bit (d.deck n).gate.hold gVM = true) ∧
  (∃ (c : Clock) (d : Dev) (n : Fin 16), d.deckOn n = true ∧ ((d.deck n).gate.hold = 0 ∧ (d.deck n).primer = none ∧
      d.linkSt n = lkUP ∧ d.tbState n = tbLOCKED) ∧ (d.deck n).gate.clearedAt + d.get (Reg.WRP_GATE_CFG_SETTLE n) * 16384 ≤
      c.grains n ∧ ((d.deck n).gate.emFault = 0 ∧ (d.deck n).gate.emAt = []) ∧ d.get (Reg.WRP_GATE_CFG_SETTLE n) * 16384 ≤
      c.grains n) ∧
  (∃ (d : Dev) (n : Fin 16), d.deckOn n = true ∧ (d.deck n).gate.hold ≠ 0) ∧
  (∃ (c : Clock) (d : Dev) (n : Fin 16) (x : Ctx) (w : Wr), (d.deckOn n = true ∧ d.openMask n = 0 ∧ d.get
      (Reg.WRP_GATE_VM_INH_TMO n) * 100 * tickMs ≤ d.span c n aINH) ∧ d.pwr.entry = 0 ∧ (d.host.ctxs = [x] ∧ x.mute = false
      ∧ x.posted = false) ∧ (d.host.writes = [w] ∧ w.stamp = x.stamp ∧ w.fua = true ∧ w.places.contains n = true ∧
      w.committedOn = []) ∧ (d.host.jobs = [] ∧ x.cmd.op = .write)) :=
  ⟨⟨writeDev 40, 1, 200, by decide +kernel⟩,
   ⟨runDev, 1, 0, by decide +kernel⟩,
   ⟨runDev.onDeck 1 (fun k => { k with gate := { k.gate with hold := 4 } }), 1, 0, by decide +kernel⟩,
   ⟨writeDev 40, 1, 1, by decide +kernel⟩,
   ⟨runDev.onDeck 1 (fun k => { k with gate := { k.gate with hold := 16 } }), 1, runDev.get (Reg.WRP_GATE_VM_VM_LO 1),
      by decide +kernel⟩,
   ⟨{ ang := [(1, 100000000 * 2 ^ 24)] }, ((runDev.set (Reg.WRP_LINK_STS_STATE 1) 2).set (Reg.ANG_STS_STATE 1) 3), 1,
      by decide +kernel⟩,
   ⟨runDev.onDeck 1 (fun k => { k with gate := { k.gate with hold := 16 } }), 1, by decide +kernel⟩,
   ⟨{ tick := 10 ^ 12 }, { busyDev { op := .write } with host := { runDev.host with ctxs := [{ busyCtx { op := .write, nsid := 5, fua := true } with staged := true }], writes := [inhWr] } }, 1, { busyCtx { op := .write, nsid := 5, fua := true } with staged := true }, inhWr, by decide +kernel⟩⟩

/-- States and operands that meet the hypotheses of SlotModesAndBanks. -/
theorem test_witness_SlotModesAndBanks :
  (∃ (d : Dev) (link : Fin 2) (n : Fin 16) (k : Fin 8) (mode : Fin 8), d.deny (.bar2 link) true ((Reg.LOOP_SLOT_CTL_MODE n
      k).off) 4 = none ∧ d.getB (Reg.LOOP_ENG_STS_SAFE n) = false ∧ mode.val < 3) ∧
  (∃ (d : Dev) (link : Fin 2) (n : Fin 16) (k : Fin 8), d.deny (.bar2 link) true ((Reg.LOOP_SLOT_CTL_MODE n k).off) 4 =
      none ∧ (d.getB (Reg.LOOP_ENG_STS_SAFE n) = true ∧ k.val ≠ 4)) ∧
  (∃ (d : Dev) (link : Fin 2) (n : Fin 16) (i : Nat) (b : Nat) (k : Fin 8), d.deny (.bar2 link) true
      ((Reg.LOOP_CF_DATA_DATA n).off) 4 = none ∧ (d.get (Reg.LOOP_CF_ADDR_SLOT n) = k ∧ d.get (Reg.LOOP_CF_ADDR_SPACE n) =
      0) ∧ (d.get (Reg.LOOP_CF_ADDR_INDEX n) = i ∧ i < 32 ∧ i ≠ 7 ∧ d.get (Reg.LOOP_CF_ADDR_BANK n) = b) ∧ (b < 2 ∧ d.get
      (Reg.LOOP_BANK_ACTIVE n k) < 2 ∧ b ≠ d.get (Reg.LOOP_BANK_ACTIVE n k) ∧ d.getB (Reg.LOOP_BANK_BUSY n k) = false)) ∧
  (∃ (d : Dev) (link : Fin 2) (n : Fin 16), d.deny (.bar2 link) true ((Reg.LOOP_CF_DATA_DATA n).off) 4 = none ∧ d.get
      (Reg.LOOP_CF_ADDR_SPACE n) = 0 ∧ d.get (Reg.LOOP_CF_ADDR_BANK n) = d.get (Reg.LOOP_BANK_ACTIVE n (d.get
      (Reg.LOOP_CF_ADDR_SLOT n)))) ∧
  (∃ (d : Dev) (link : Fin 2) (n : Fin 16) (k : Fin 8) (trig : Fin 64) (atTrig : Bool), d.deny (.bar2 link) true
      ((Reg.LOOP_BANK_REQ n k).off) 4 = none ∧ d.getB (Reg.LOOP_BANK_BUSY n k) = false ∧ (atTrig = true → d.getB
      (Reg.ANG_TRIG_CFG_ARM n trig) = true ∧ d.get (Reg.ANG_TRIG_CFG_MODE n trig) ≠ 0)) ∧
  (∃ (d : Dev) (link : Fin 2) (n : Fin 16) (k : Fin 8) (trig : Fin 64), d.deny (.bar2 link) true ((Reg.LOOP_BANK_REQ n
      k).off) 4 = none ∧ d.getB (Reg.LOOP_BANK_BUSY n k) = false ∧ d.getB (Reg.ANG_TRIG_CFG_ARM n trig) = false) ∧
  (∃ (d : Dev) (link : Fin 2) (n : Fin 16) (k : Fin 8), d.deny (.bar2 link) true ((Reg.LOOP_BANK_REQ n k).off) 4 = none ∧
      d.getB (Reg.LOOP_BANK_BUSY n k) = true) ∧
  (∃ (d : Dev) (link : Fin 2) (n : Fin 16) (k : Fin 8), d.deny (.bar2 link) true ((Reg.LOOP_FF_CTL_LEARN n k).off) 4 = none
      ∧ ((d.deck n).slot k).learn = none) ∧
  (∃ (d : Dev) (link : Fin 2) (n : Fin 16) (k : Fin 8), d.deny (.bar2 link) true ((Reg.LOOP_FF_CTL_LEARN n k).off) 4 = none
      ∧ ((d.deck n).slot k).learning = false) ∧
  (∃ (d : Dev) (link : Fin 2) (n : Fin 16) (k : Fin 8), d.deny (.bar2 link) true ((Reg.LOOP_FF_CTL_LEARN n k).off) 4 = none
      ∧ ((d.deck n).slot k).learning = true) ∧
  (∃ (d : Dev) (link : Fin 2) (n : Fin 16), d.deny (.bar2 link) true ((Reg.LOOP_ENG_STS_SAFE n).off) 4 = none ∧ d.getB
      (Reg.LOOP_ENG_STS_SAFE n) = true ∧ (∀ k : Fin 8, ((d.deck n).slot k).inhibit = false) ∧ bit (d.deck n).gate.hold
      gLOOP = true) :=
  ⟨⟨runDev, 0, 1, 2, 2, by decide +kernel⟩,
   ⟨runDev.set (Reg.LOOP_ENG_STS_SAFE 1) 1, 0, 1, 2, by decide +kernel⟩,
   ⟨runDev.sets [(Reg.LOOP_CF_ADDR_SLOT 1, 2), (Reg.LOOP_CF_ADDR_INDEX 1, 5), (Reg.LOOP_CF_ADDR_BANK 1, 1),
      (Reg.LOOP_CF_ADDR_SPACE 1, 0)], 0, 1, 5, 1, 2, by decide +kernel⟩,
   ⟨runDev, 0, 1, by decide +kernel⟩,
   ⟨runDev, 0, 1, 2, 3, false, by decide +kernel⟩,
   ⟨runDev, 0, 1, 2, 33, by decide +kernel⟩,
   ⟨runDev.set (Reg.LOOP_BANK_BUSY 1 2) 1, 0, 1, 2, by decide +kernel⟩,
   ⟨runDev, 0, 1, 2, by decide +kernel⟩,
   ⟨runDev.onDeck 1 (fun a => { a with slots := [(2, { table := [(3, 5)] })] }), 0, 1, 2, by decide +kernel⟩,
   ⟨runDev.onDeck 1 (fun a => { a with slots := [(2, { learn := some { started := true } })] }), 0, 1, 2, by decide +kernel⟩,
   ⟨(runDev.set (Reg.LOOP_ENG_STS_SAFE 1) 1).onDeck 1 (fun k => { k with gate := { hold := 64 } }), 0, 1, by decide +kernel⟩⟩

/-- States and operands that meet the hypotheses of ProfilesAndSamples. -/
theorem test_witness_ProfilesAndSamples :
  (∃ (d : Dev) (link : Fin 2) (n : Fin 16) (k : Fin 8), d.deny (.bar2 link) true ((Reg.LOOP_PROF_CTL_CMD n k).off) 4 = none
      ∧ d.getB (Reg.LOOP_PROF_CTL_BUSY n k) = false ∧ d.get (Reg.LOOP_STS_MODE n k) = 2) ∧
  (∃ (d : Dev) (link : Fin 2) (n : Fin 16) (k : Fin 8), d.deny (.bar2 link) true ((Reg.LOOP_PROF_CTL_CMD n k).off) 4 = none
      ∧ d.getB (Reg.LOOP_PROF_CTL_BUSY n k) = true) ∧
  (∃ (d : Dev) (link : Fin 2) (n : Fin 16) (k : Fin 8), d.deny (.bar2 link) true ((Reg.LOOP_PROF_CTL_CMD n k).off) 4 = none
      ∧ d.getB (Reg.LOOP_PROF_CTL_BUSY n k) = false ∧ d.get (Reg.LOOP_STS_MODE n k) = 2) ∧
  (∃ (d : Dev) (link : Fin 2) (n : Fin 16), d.deny (.bar2 link) true ((Reg.LOOP_PROF_CTL_CMD n 1).off) 4 = none ∧ d.getB
      (Reg.LOOP_PROF_CTL_BUSY n 1) = false ∧ d.get (Reg.LOOP_STS_MODE n 1) = 2 ∧ (d.getI (Reg.LOOP_PROF_TGT_TARGET n
      1)).natAbs ≤ 64000) ∧
  (∃ (d : Dev) (link : Fin 2) (n : Fin 16) (k : Fin 8) (p : Prof), d.deny (.bar2 link) true ((Reg.LOOP_PROF_CTL_CMD n
      k).off) 4 = none ∧ (((d.deck n).slot k).prof = some p ∧ p.bySeq = false)) ∧
  (∃ (c : Clock) (d : Dev) (n : Fin 16) (k : Fin 8) (p : Prof), d.deckOn n = true ∧ (((d.deck n).slot k).prof = some p ∧
      p.kind = 1 ∧ p.runs c.tick = false)) ∧
  (∃ (c : Clock) (d : Dev) (n : Fin 16) (k : Fin 8) (p : Prof), d.deckOn n = true ∧ (((d.deck n).slot k).prof = some p ∧
      p.kind = 2 ∧ p.stopping = false ∧ p.ended = false ∧ p.runs c.tick = false)) ∧
  (∃ (d : Dev) (n : Fin 16) (o : ServoObs), d.deckOn n = true ∧ (2 ≤ d.tbState n ∧ d.getB (Reg.LOOP_ENG_STS_FREE n) =
      false) ∧ (o.coils = [] ∧ (d.deck n).eng.sumRun = 0) ∧ (∀ k : Fin 8, d.getB (Reg.LOOP_SLOT_CFG_SUB n k) = false) ∧
      ((d.deck n).slot 1).prof = none) ∧
  (∃ (c : Clock) (d : Dev) (n : Fin 16) (o : ServoObs), d.deckOn n = true ∧ (d.tbState n < 2 ∧ sampleHere c n d = false) ∧
      (∀ t, (d.deck n).eng.sampledAt = some t → t + d.get (Reg.LOOP_SAMPLE_CFG_FREE_TICKS n) ≤ c.tick) ∧ (o.coils = [] ∧
      (d.deck n).eng.sumRun = 0) ∧ (∀ k : Fin 8, d.get (Reg.LOOP_STS_MODE n k) = 0 ∧ ((d.deck n).slot k).pendMode = none ∧
      ((d.deck n).slot k).swap = none ∧ ((d.deck n).slot k).prof = none)) ∧
  (∃ (d : Dev) (n : Fin 16), (d.deckOn n = true ∧ d.getB Reg.PWR_VM_STS_VM_ABS = false ∧ (d.deck n).seq.coilsOff = false ∧
      d.dstate n ≠ dABSENT)) :=
  ⟨⟨(runDev.set (Reg.LOOP_STS_MODE 1 2) 2).set (Reg.LOOP_PROF_TGT_TARGET 1 2) 500, 0, 1, 2, by decide +kernel⟩,
   ⟨runDev.set (Reg.LOOP_PROF_CTL_BUSY 1 2) 1, 0, 1, 2, by decide +kernel⟩,
   ⟨(runDev.set (Reg.LOOP_STS_MODE 1 0) 2).set (Reg.LOOP_PROF_TGT_TARGET 1 0) 500, 0, 1, 0, by decide +kernel⟩,
   ⟨(runDev.set (Reg.LOOP_STS_MODE 1 1) 2).set (Reg.LOOP_PROF_TGT_TARGET 1 1) 500, 0, 1, by decide +kernel⟩,
   ⟨runDev.onDeck 1 (fun a => { a with slots := [(2, { prof := some { kind := 1, start := 0, target := 9, t0 := 0 } })] }),
      0, 1, 2, { kind := 1, start := 0, target := 9, t0 := 0 }, by decide +kernel⟩,
   ⟨{}, runDev.onDeck 1 (fun a =>
      { a with slots := [(2, { prof := some { kind := 1, start := 0, target := 9, t0 := 0 } })] }), 1, 2,
      { kind := 1, start := 0, target := 9, t0 := 0 }, by decide +kernel⟩,
   ⟨{}, (runDev.set (Reg.LOOP_STS_MODE 1 0) 3).onDeck 1 (fun a =>
      { a with slots := [(0, { prof := some { kind := 2, start := 0, target := 9, t0 := 0 } })] }), 1, 0,
      { kind := 2, start := 0, target := 9, t0 := 0 }, by decide +kernel⟩,
   ⟨((List.range 8).foldl (fun d k => d.setBoth (Reg.LOOP_SLOT_CFG_SUB 1 k) 0) (runDev.set (Reg.ANG_STS_STATE 1) 3)), 1,
      { ch := [1, 2, 3, 4] }, by decide +kernel⟩,
   ⟨{}, runDev, 1, { ch := [1, 2, 3, 4] }, by decide +kernel⟩,
   ⟨runDev.set (Reg.SEQ_STS_STATE 1) 1, 1, by decide +kernel⟩⟩

/-- States and operands that meet the hypotheses of SpindleCommands. -/
theorem test_witness_SpindleCommands :
  (∃ (d : Dev) (link : Fin 2) (n : Fin 16) (rpm : Fin 65536), d.deny (.bar2 link) true ((Reg.SPN_CMD_CMD n).off) 4 = none ∧
      d.getB (Reg.SEQ_CTL_REL_SPN n) = true ∧ (600 ≤ rpm.val ∧ rpm.val ≤ 15000) ∧ (d.getB Reg.PWR_VM_STS_VM_ABS = false ∧
      d.spnSt n ≠ spRUN)) ∧
  (∃ (d : Dev) (link : Fin 2) (n : Fin 16) (rpm : Fin 65536), d.deny (.bar2 link) true ((Reg.SPN_CMD_CMD n).off) 4 = none ∧
      d.getB (Reg.SEQ_CTL_REL_SPN n) = true ∧ (rpm.val < 600 ∨ 15000 < rpm.val)) ∧
  (∃ (d : Dev) (link : Fin 2) (n : Fin 16) (rpm : Fin 65536), d.deny (.bar2 link) true ((Reg.SPN_CMD_CMD n).off) 4 = none ∧
      d.getB (Reg.SEQ_CTL_REL_SPN n) = true ∧ (600 ≤ rpm.val ∧ rpm.val ≤ 15000) ∧ (d.spnSt n = spRUN ∧ d.getB
      (Reg.SPN_CMD_BUSY n) = false)) ∧
  (∃ (d : Dev) (link : Fin 2) (n : Fin 16), d.deny (.bar2 link) true ((Reg.SPN_CMD_CMD n).off) 4 = none ∧ d.getB
      (Reg.SEQ_CTL_REL_SPN n) = false) ∧
  (∃ (d : Dev) (link : Fin 2) (n : Fin 16), d.deny (.bar2 link) true ((Reg.SPN_CMD_CMD n).off) 4 = none ∧ d.getB
      (Reg.SEQ_CTL_REL_SPN n) = true ∧ (d.spnSt n = spRUN ∧ d.getB Reg.PWR_VM_STS_UV = false)) ∧
  (∃ (d : Dev) (link : Fin 2) (n : Fin 16), d.deny (.bar2 link) true ((Reg.SPN_CMD_CMD n).off) 4 = none ∧ d.getB
      (Reg.SEQ_CTL_REL_SPN n) = true ∧ (d.spnSt n = spRUN ∧ d.getB Reg.PWR_VM_STS_UV = false ∧ d.getB
      Reg.PWR_VM_STS_BRAKE_FAULT = false)) ∧
  (∃ (d : Dev) (link : Fin 2) (n : Fin 16), d.deny (.bar2 link) true ((Reg.SPN_CMD_CMD n).off) 4 = none ∧ d.getB
      (Reg.SEQ_CTL_REL_SPN n) = true) :=
  ⟨⟨runDev.set (Reg.SEQ_CTL_REL_SPN 1) 1, 0, 1, 9000, by decide +kernel⟩,
   ⟨runDev.set (Reg.SEQ_CTL_REL_SPN 1) 1, 0, 1, 599, by decide +kernel⟩,
   ⟨(runDev.set (Reg.SEQ_CTL_REL_SPN 1) 1).set (Reg.SPN_STS_STATE 1) 6, 0, 1, 9000, by decide +kernel⟩,
   ⟨runDev, 0, 1, by decide +kernel⟩,
   ⟨(runDev.set (Reg.SEQ_CTL_REL_SPN 1) 1).set (Reg.SPN_STS_STATE 1) 6, 0, 1, by decide +kernel⟩,
   ⟨(runDev.set (Reg.SEQ_CTL_REL_SPN 1) 1).set (Reg.SPN_STS_STATE 1) 6, 0, 1, by decide +kernel⟩,
   ⟨(runDev.set (Reg.SEQ_CTL_REL_SPN 1) 1).set (Reg.SPN_STS_STATE 1) 6, 0, 1, by decide +kernel⟩⟩

/-- States and operands that meet the hypotheses of SpindleStates. -/
theorem test_witness_SpindleStates :
  (∃ (d : Dev) (n : Fin 16) (amp : Nat), d.deckOn n = true ∧ (d.dstate n = dLOADED ∧ d.spnSt n = spLISTEN ∧ 20 * tickMs ≤
      d.age n aSPN ∧ d.getB Reg.PWR_VM_STS_UV = false) ∧ amp < d.get (Reg.SPN_KE_EMF_MIN n) ∧ ((d.deck n).spn.cmd = 1 ∧
      d.tbState n = tbOFF)) ∧
  (∃ (d : Dev) (n : Fin 16) (amp : Nat) (rpm : Int), d.deckOn n = true ∧ (d.dstate n = dLOADED ∧ d.spnSt n = spLISTEN ∧ 20
      * tickMs ≤ d.age n aSPN ∧ d.getB Reg.PWR_VM_STS_UV = false) ∧ (d.get (Reg.SPN_KE_EMF_MIN n) ≤ amp ∧ 600 ≤ rpm) ∧
      ((d.deck n).spn.cmd = 1 ∧ d.tbState n = tbOFF)) ∧
  (∃ (d : Dev) (n : Fin 16) (x : Nat), d.deckOn n = true ∧ (d.dstate n = dLOADED ∧ d.spnSt n = spPROBE ∧ 6 * tickMs ≤ d.age
      n aSPN) ∧ x ≤ 1000) ∧
  (∃ (d : Dev) (n : Fin 16) (peaks : List Nat), d.deckOn n = true ∧ (d.dstate n = dLOADED ∧ d.spnSt n = spPROBE ∧ 6 *
      tickMs ≤ d.age n aSPN) ∧ (d.deck n).spn.probes = 1 ∧ peaks = List.replicate 12 100) ∧
  (∃ (d : Dev) (n : Fin 16), d.deckOn n = true ∧ (d.dstate n = dLOADED ∧ d.spnSt n = spALIGN ∧ alignTicks d n ≤ d.age n
      aSPN ∧ d.getB Reg.PWR_VM_STS_UV = false)) ∧
  (∃ (d : Dev) (n : Fin 16), d.deckOn n = true ∧ (d.dstate n = dLOADED ∧ d.spnSt n = spRAMP ∧ ramped d n 0 = true)) ∧
  (∃ (d : Dev) (n : Fin 16), d.deckOn n = true ∧ (d.dstate n = dLOADED ∧ d.spnSt n = spRAMP ∧ ramped d n (500 * tickMs) =
      true)) ∧
  (∃ (d : Dev) (n : Fin 16), d.deckOn n = true ∧ (d.dstate n = dLOADED ∧ d.spnSt n = spSHORT ∧ (d.deck n).spn.shortWhy = 0
      ∧ 500 * tickMs ≤ d.age n aSLOW) ∧ d.tbState n = tbOFF) ∧
  (∃ (d : Dev) (n : Fin 16), d.deckOn n = true ∧ (d.dstate n = dLOADED ∧ d.spnSt n = spSHORT ∧ (d.deck n).spn.shortWhy = 1
      ∧ 200 * tickMs ≤ d.age n aSPN) ∧ d.startTry n ≤ d.get (Reg.SPN_STS_TRIES n)) ∧
  (∃ (d : Dev) (n : Fin 16), d.deckOn n = true ∧ (d.dstate n = dLOADED ∧ d.spnSt n = spREGEN ∧ d.spnRpm n ≤ 600)) ∧
  (∃ (d : Dev) (n : Fin 16), d.deckOn n = true ∧ (d.dstate n = dLOADED ∧ d.spnSt n = spRUN ∧ obsLost d n = true) ∧ d.get
      (Reg.SPN_STS_TRIES n) < d.startTry n) ∧
  (∃ (d : Dev) (n : Fin 16), d.deckOn n = true ∧ (d.dstate n = dLOADED ∧ d.spnSt n = spRUN ∧ (d.deck n).spn.cmdSpeed =
      ((d.deck n).spn.target : Int) * 1000) ∧ ((d.deck n).spn.cmd = 1 ∨ (d.deck n).spn.cmd = 4)) ∧
  (∃ (d : Dev) (n : Fin 16) (i : List Int), d.deckOn n = true ∧ (d.dstate n = dLOADED ∧ d.spnSt n = spRUN) ∧ i.any (fun x
      => decide (d.get (Reg.SPN_SENSE_CFG_OC_LIM n) < x.natAbs)) = true) ∧
  (∃ (d : Dev) (n : Fin 16), d.deckOn n = true ∧ (d.dstate n = dLOADED ∧ d.spnSt n = spSHORT ∧ d.tbState n = tbOFF ∧
      (d.deck n).primer = none)) :=
  ⟨⟨((runDev.set (Reg.SEQ_STS_STATE 1) 1).set (Reg.SPN_STS_STATE 1) 1).onDeck 1 (fun k =>
      { k with ages := [(aSPN, 10 ^ 11)], spn := { cmd := 1 } }), 1, 0, by decide +kernel⟩,
   ⟨((runDev.set (Reg.SEQ_STS_STATE 1) 1).set (Reg.SPN_STS_STATE 1) 1).onDeck 1 (fun k =>
      { k with ages := [(aSPN, 10 ^ 11)], spn := { cmd := 1 } }), 1, 60000, 900, by decide +kernel⟩,
   ⟨(runDev.set (Reg.SEQ_STS_STATE 1) 1).set (Reg.SPN_STS_STATE 1) 3 |>.onDeck 1 (fun k =>
      { k with ages := [(aSPN, 10 ^ 11)] }), 1, 3, by decide +kernel⟩,
   ⟨((runDev.set (Reg.SEQ_STS_STATE 1) 1).set (Reg.SPN_STS_STATE 1) 3).onDeck 1 (fun k =>
      { k with ages := [(aSPN, 10 ^ 11)], spn := { probes := 1 } }), 1, List.replicate 12 100, by decide +kernel⟩,
   ⟨(runDev.set (Reg.SEQ_STS_STATE 1) 1).set (Reg.SPN_STS_STATE 1) 4 |>.onDeck 1 (fun k =>
      { k with ages := [(aSPN, 10 ^ 11)] }), 1, by decide +kernel⟩,
   ⟨(runDev.set (Reg.SEQ_STS_STATE 1) 1).set (Reg.SPN_STS_STATE 1) 5 |>.onDeck 1 (fun k =>
      { k with ages := [(aSPN, 10 ^ 11)] }), 1, by decide +kernel⟩,
   ⟨(runDev.set (Reg.SEQ_STS_STATE 1) 1).set (Reg.SPN_STS_STATE 1) 5 |>.onDeck 1 (fun k =>
      { k with ages := [(aSPN, 10 ^ 11)] }), 1, by decide +kernel⟩,
   ⟨(runDev.set (Reg.SEQ_STS_STATE 1) 1).set (Reg.SPN_STS_STATE 1) 7 |>.onDeck 1 (fun k =>
      { k with ages := [(aSLOW, 10 ^ 11)] }), 1, by decide +kernel⟩,
   ⟨((runDev.set (Reg.SEQ_STS_STATE 1) 1).set (Reg.SPN_STS_STATE 1) 7).set (Reg.SPN_STS_TRIES 1) 7 |>.onDeck 1 (fun k =>
      { k with ages := [(aSPN, 10 ^ 11)], spn := { shortWhy := 1 } }), 1, by decide +kernel⟩,
   ⟨(runDev.set (Reg.SEQ_STS_STATE 1) 1).set (Reg.SPN_STS_STATE 1) 8, 1, by decide +kernel⟩,
   ⟨(runDev.set (Reg.SEQ_STS_STATE 1) 1).set (Reg.SPN_STS_STATE 1) 6, 1, by decide +kernel⟩,
   ⟨((runDev.set (Reg.SEQ_STS_STATE 1) 1).set (Reg.SPN_STS_STATE 1) 6).onDeck 1 (fun k =>
      { k with spn := { cmd := 1, target := 9000, cmdSpeed := 9000000 } }), 1, by decide +kernel⟩,
   ⟨(runDev.set (Reg.SEQ_STS_STATE 1) 1).set (Reg.SPN_STS_STATE 1) 6, 1, [0, -60000, 0], by decide +kernel⟩,
   ⟨(runDev.set (Reg.SEQ_STS_STATE 1) 1).set (Reg.SPN_STS_STATE 1) 7, 1, by decide +kernel⟩⟩

/-- States and operands that meet the hypotheses of MotorSupply. -/
theorem test_witness_MotorSupply :
  (∃ (d : Dev) (vm : Nat), vm < d.get Reg.PWR_VM_LIM_UV_LIM ∧ d.getB Reg.PWR_VM_STS_UV = false) ∧
  (∃ (d : Dev) (vm : Nat), d.get Reg.PWR_VM_LIM_UV_LIM + 25 ≤ vm ∧ d.getB Reg.PWR_VM_STS_UV = true) ∧
  (∃ (d : Dev) (vm : Nat), d.get Reg.PWR_VM_BRK_BRK_ON ≤ vm ∧ d.getB Reg.PWR_VM_STS_BRK_ACTIVE = false) ∧
  (∃ (d : Dev) (vm : Nat), vm ≤ d.get Reg.PWR_VM_BRK_BRK_OFF) ∧
  (∃ (d : Dev) (sense : Nat), (d.getB Reg.PWR_VM_STS_BRK_ACTIVE = true ∧ d.getB Reg.PWR_VM_STS_BRAKE_FAULT = false ∧ 50 *
      tickUs ≤ d.devAge gBRK) ∧ sense < d.get Reg.PWR_BRK_CFG_BRK_IMIN) ∧
  (∃ (d : Dev) (vm : Nat), 3150 ≤ vm ∧ d.getB Reg.PWR_VM_STS_VM_ABS = false) ∧
  (∃ (d : Dev) (link : Fin 2), d.deny (.bar2 link) true Reg.PWR_VM_STS_BRAKE_FAULT.off 4 = none ∧ (d.getB
      Reg.PWR_VM_STS_BRAKE_FAULT = true ∧ d.brk.test = false)) ∧
  (∃ (d : Dev) (sense : Nat), (d.brk.test = true ∧ 20 * tickUs ≤ d.devAge gBRK) ∧ d.get Reg.PWR_BRK_CFG_BRK_IMIN ≤ sense) ∧
  (∃ (d : Dev) (sense : Nat), (d.brk.test = true ∧ 20 * tickUs ≤ d.devAge gBRK) ∧ sense < d.get Reg.PWR_BRK_CFG_BRK_IMIN) ∧
  (∃ (d : Dev) (link : Fin 2), d.deny (.bar2 link) true Reg.PWR_VM_STS_VM_ABS.off 4 = none ∧ d.get Reg.PWR_VM_STS_VM <
      d.get Reg.PWR_VM_BRK_BRK_OFF ∧ (d.getB Reg.PWR_VM_STS_BRAKE_FAULT = false ∧ d.getB Reg.PWR_STATE_STS_THERM_SHUT =
      false)) ∧
  (∃ (d : Dev) (link : Fin 2), d.deny (.bar2 link) true Reg.PWR_VM_STS_VM_ABS.off 4 = none ∧ d.get Reg.PWR_VM_BRK_BRK_OFF ≤
      d.get Reg.PWR_VM_STS_VM) :=
  ⟨⟨(runDev.set (Reg.SPN_STS_STATE 1) 6).set (Reg.SLD_STS_STATE 2) 1, 100, by decide +kernel⟩,
   ⟨runDev.set Reg.PWR_VM_STS_UV 1, 2000, by decide +kernel⟩,
   ⟨runDev, 3000, by decide +kernel⟩,
   ⟨runDev.set Reg.PWR_VM_STS_BRK_ACTIVE 1, 0, by decide +kernel⟩,
   ⟨({ runDev with ages := [(gBRK, 10 ^ 9)] }.set Reg.PWR_VM_STS_BRK_ACTIVE 1).set (Reg.SPN_STS_STATE 1) 8, 0,
      by decide +kernel⟩,
   ⟨runDev.set (Reg.SPN_STS_STATE 1) 6, 3150, by decide +kernel⟩,
   ⟨runDev.set Reg.PWR_VM_STS_BRAKE_FAULT 1, 0, by decide +kernel⟩,
   ⟨{ runDev with ages := [(gBRK, 10 ^ 9)], brk := { test := true } }, 60000, by decide +kernel⟩,
   ⟨{ runDev with ages := [(gBRK, 10 ^ 9)], brk := { test := true } }, 0, by decide +kernel⟩,
   ⟨runDev.set Reg.PWR_VM_STS_VM_ABS 1, 0, by decide +kernel⟩,
   ⟨runDev.set Reg.PWR_VM_STS_VM 3150, 0, by decide +kernel⟩⟩

/-- States and operands that meet the hypotheses of SledCommands. -/
theorem test_witness_SledCommands :
  (∃ (d : Dev) (link : Fin 2) (n : Fin 16), d.deny (.bar2 link) true ((Reg.SLD_CMD_CMD n).off) 4 = none ∧ (d.getB
      (Reg.SEQ_CTL_REL_SLD n) = true ∧ d.sldSt n = slHOLD ∧ (d.deck n).sled.hold = false) ∧ d.getB (Reg.SLD_STS_POS_OK n) =
      true ∧ (d.getI (Reg.SLD_MIN_POS_MIN_POS n) ≤ d.getI (Reg.SLD_TARGET_TARGET n) ∧ d.getI (Reg.SLD_TARGET_TARGET n) ≤
      d.getI (Reg.SLD_MAX_POS_MAX_POS n))) ∧
  (∃ (d : Dev) (link : Fin 2) (n : Fin 16), d.deny (.bar2 link) true ((Reg.SLD_CMD_CMD n).off) 4 = none ∧ d.getB
      (Reg.SEQ_CTL_REL_SLD n) = true ∧ d.getB (Reg.SLD_STS_POS_OK n) = false) ∧
  (∃ (d : Dev) (link : Fin 2) (n : Fin 16), d.deny (.bar2 link) true ((Reg.SLD_CMD_CMD n).off) 4 = none ∧ d.getB
      (Reg.SEQ_CTL_REL_SLD n) = false) ∧
  (∃ (d : Dev) (link : Fin 2) (n : Fin 16), d.deny (.bar2 link) true ((Reg.SLD_CMD_CMD n).off) 4 = none ∧ (d.getB
      (Reg.SEQ_CTL_REL_SLD n) = true ∧ d.sldSt n = slHOLD ∧ (d.deck n).sled.hold = false) ∧ (d.getI (Reg.SLD_TARGET_TARGET
      n)).natAbs ≤ d.get (Reg.SLD_PROF_V_V_MAX n)) ∧
  (∃ (d : Dev) (link : Fin 2) (n : Fin 16), d.deny (.bar2 link) true ((Reg.SLD_CMD_CMD n).off) 4 = none ∧ (d.getB
      (Reg.SEQ_CTL_REL_SLD n) = true ∧ d.sldSt n = slMOVING)) ∧
  (∃ (d : Dev) (link : Fin 2) (n : Fin 16), d.deny (.bar2 link) true ((Reg.SLD_CMD_CMD n).off) 4 = none ∧ (d.getB
      (Reg.SEQ_CTL_REL_SLD n) = true ∧ d.sldSt n = slHOLD) ∧ d.getB (Reg.SLD_STS_POS_OK n) = true) ∧
  (∃ (d : Dev) (link : Fin 2) (n : Fin 16), d.deny (.bar2 link) true ((Reg.SLD_CMD_CMD n).off) 4 = none ∧ (d.getB
      (Reg.SEQ_CTL_REL_SLD n) = true ∧ d.sldSt n = slHOLD)) ∧
  (∃ (d : Dev) (link : Fin 2) (n : Fin 16), d.deny (.bar2 link) true ((Reg.SLD_CMD_CMD n).off) 4 = none ∧ d.getB
      (Reg.SEQ_CTL_REL_SLD n) = true) :=
  ⟨⟨((runDev.set (Reg.SEQ_CTL_REL_SLD 1) 1).set (Reg.SLD_STS_STATE 1) 1).set (Reg.SLD_STS_POS_OK 1) 1, 0, 1,
      by decide +kernel⟩,
   ⟨runDev.set (Reg.SEQ_CTL_REL_SLD 1) 1, 0, 1, by decide +kernel⟩,
   ⟨runDev, 0, 1, by decide +kernel⟩,
   ⟨(runDev.set (Reg.SEQ_CTL_REL_SLD 1) 1).set (Reg.SLD_STS_STATE 1) 1, 0, 1, by decide +kernel⟩,
   ⟨(runDev.set (Reg.SEQ_CTL_REL_SLD 1) 1).set (Reg.SLD_STS_STATE 1) 3, 0, 1, by decide +kernel⟩,
   ⟨((runDev.set (Reg.SEQ_CTL_REL_SLD 1) 1).set (Reg.SLD_STS_STATE 1) 1).set (Reg.SLD_STS_POS_OK 1) 1, 0, 1,
      by decide +kernel⟩,
   ⟨((runDev.set (Reg.SEQ_CTL_REL_SLD 1) 1).set (Reg.SLD_STS_STATE 1) 1).set (Reg.SLD_TARGET_TARGET 1) 4294967000, 0, 1,
      by decide +kernel⟩,
   ⟨((runDev.set (Reg.SEQ_CTL_REL_SLD 1) 1).set (Reg.SLD_STS_STATE 1) 3).set (Reg.SLD_CMD_BUSY 1) 1, 0, 1,
      by decide +kernel⟩⟩

/-- States and operands that meet the hypotheses of SledMotion. -/
theorem test_witness_SledMotion :
  (∃ (d : Dev) (n : Fin 16), d.deckOn n = true ∧ d.sldSt n = slDISABLED) ∧
  (∃ (d : Dev) (n : Fin 16), d.deckOn n = true ∧ (d.sldSt n = slHOLD ∧ (d.deck n).sled.vel = 0)) ∧
  (∃ (c : Clock) (d : Dev) (n : Fin 16), d.deckOn n = true ∧ (d.sldSt n = slSTOPPING ∧ sldAtEnd c d n = true ∧ (d.deck
      n).sled.cmd = 3) ∧ d.dstate n = dLOADED) ∧
  (∃ (d : Dev) (n : Fin 16), d.deckOn n = true ∧ (d.sldSt n = slHOLD ∧ d.get (Reg.SLD_CUR_CFG_HOLD_DELAY n) * tickMs ≤
      d.age n aSLD)) ∧
  (∃ (d : Dev) (n : Fin 16) (emf : Int), d.deckOn n = true ∧ (d.getB (Reg.SLD_STS_CHOP n) = true ∧ d.sldSt n = slMOVING ∧
      (d.deck n).sled.vel ≠ 0) ∧ emf < 0) ∧
  (∃ (d : Dev) (n : Fin 16) (emf : Int), d.deckOn n = true ∧ (d.getB (Reg.SLD_STS_CHOP n) = true ∧ d.sldSt n = slMOVING ∧
      (d.deck n).sled.vel ≠ 0) ∧ d.get (Reg.SLD_STALL_CFG_KE_SLD n) * (d.deck n).sled.vel.natAbs / 65536 ≤ emf ∧ ((d.deck
      n).sled.loads = [0, 0, 0, 0] ∧ 0 < d.get (Reg.SLD_STALL_CFG_STALL_ANG n))) ∧
  (∃ (d : Dev) (n : Fin 16), d.deckOn n = true ∧ (d.dstate n = dTRACKING ∧ (d.deck n).seq.rehome = 2 ∧ (d.deck
      n).seq.newZone = none) ∧ (d.sldSt n = slHOLD ∧ d.spnSt n ≠ spRUN ∧ (d.deck n).seq.job = 1)) ∧
  (∃ (d : Dev) (n : Fin 16), d.deckOn n = true ∧ (d.dstate n = dTRACKING ∧ (d.deck n).seq.rehome ≠ 0 ∧ d.get
      (Reg.SLD_MECH_HOME_TMO n) * turnOne ≤ d.turned n tHOME)) :=
  ⟨⟨runDev, 1, by decide +kernel⟩,
   ⟨runDev.set (Reg.SLD_STS_STATE 1) 1, 1, by decide +kernel⟩,
   ⟨{}, ((runDev.set (Reg.SLD_STS_STATE 1) 5).set (Reg.SEQ_STS_STATE 1) 1).onDeck 1 (fun k =>
      { k with sled := { cmd := 3 } }), 1, by decide +kernel⟩,
   ⟨runDev.set (Reg.SLD_STS_STATE 1) 1 |>.onDeck 1 (fun k => { k with ages := [(aSLD, 10 ^ 11)] }), 1, by decide +kernel⟩,
   ⟨((runDev.set (Reg.SLD_STS_STATE 1) 3).set (Reg.SLD_STS_CHOP 1) 1).onDeck 1 (fun k =>
      { k with sled := { cmd := 1, vel := 65536 } }), 1, -5, by decide +kernel⟩,
   ⟨((runDev.set (Reg.SLD_STS_STATE 1) 3).set (Reg.SLD_STS_CHOP 1) 1).onDeck 1 (fun k =>
      { k with sled := { cmd := 1, vel := 65536, loads := [0, 0, 0, 0] } }), 1, 5000000, by decide +kernel⟩,
   ⟨((runDev.set (Reg.SLD_STS_STATE 1) 1).set (Reg.SEQ_STS_STATE 1) 4).onDeck 1 (fun k =>
      { k with seq := { job := 1, rehome := 2 } }), 1, by decide +kernel⟩,
   ⟨(runDev.set (Reg.SEQ_STS_STATE 1) 4).onDeck 1 (fun k =>
      { k with turns := [(tHOME, 2 ^ 60)], seq := { job := 1, rehome := 2 } }), 1, by decide +kernel⟩⟩

/-- States and operands that meet the hypotheses of SequencerCommands. -/
theorem test_witness_SequencerCommands :
  (∃ (d : Dev) (link : Fin 2) (n : Fin 16), d.deny (.bar2 link) true ((Reg.SEQ_CTL_CMD n).off) 4 = none ∧ (d.getB
      (Reg.SEQ_CTL_REL_SPN n) = false ∧ d.getB (Reg.SEQ_CTL_REL_SLD n) = false ∧ noGains n d = false) ∧ d.dstate n =
      dABSENT) ∧
  (∃ (d : Dev) (link : Fin 2) (n : Fin 16), d.deny (.bar2 link) true ((Reg.SEQ_CTL_CMD n).off) 4 = none ∧ noGains n d =
      true) ∧
  (∃ (d : Dev) (link : Fin 2) (n : Fin 16), d.deny (.bar2 link) true ((Reg.SEQ_CTL_CMD n).off) 4 = none ∧ (d.getB
      (Reg.SEQ_CTL_REL_SPN n) = false ∧ d.getB (Reg.SEQ_CTL_REL_SLD n) = false) ∧ (d.dstate n = dABSENT ∨ (d.dstate n =
      dLOADED ∧ (d.deck n).seq.job = 0))) ∧
  (∃ (d : Dev) (link : Fin 2) (n : Fin 16), d.deny (.bar2 link) true ((Reg.SEQ_CTL_CMD n).off) 4 = none ∧ (d.getB
      (Reg.SEQ_CTL_REL_SPN n) = false ∧ d.getB (Reg.SEQ_CTL_REL_SLD n) = false) ∧ (d.dstate n = dREADY ∧ d.gleaning n =
      false ∧ (d.deck n).seq.opc = false) ∧ (d.spnSt n = spRUN ∧ d.getB Reg.PWR_VM_STS_UV = false)) ∧
  (∃ (d : Dev) (link : Fin 2) (n : Fin 16), d.deny (.bar2 link) true ((Reg.SEQ_CTL_CMD n).off) 4 = none ∧ (d.getB
      (Reg.SEQ_CTL_REL_SPN n) = false ∧ d.getB (Reg.SEQ_CTL_REL_SLD n) = false) ∧ (d.dstate n = dWRITING ∧ d.getB
      (Reg.SEQ_CTL_BUSY n) = false)) ∧
  (∃ (d : Dev) (link : Fin 2) (n : Fin 16), d.deny (.bar2 link) true ((Reg.SEQ_CTL_CMD n).off) 4 = none ∧ (d.getB
      (Reg.SEQ_CTL_REL_SPN n) = false ∧ d.getB (Reg.SEQ_CTL_REL_SLD n) = false) ∧ (d.dstate n = dFAULT ∧ d.spnSt n =
      spFAULT) ∧ (d.getB (Reg.SEQ_STS_CHARGE n) = false ∧ d.getB (Reg.PWR_THERM_THROT 3) = false) ∧ (∀ m : Fin 16, (d.deck
      m).seq.chargeReq = none) ∧ d.get Reg.PWR_SPIN_BUDGET_IN_USE + d.get (Reg.SEQ_PWR_CFG_SPIN_W n) ≤ d.get
      Reg.PWR_SPIN_BUDGET_SPINUP_W ∧ (600 ≤ d.get (Reg.SEQ_LOAD_CFG_LOAD_RPM n) ∧ d.get (Reg.SEQ_LOAD_CFG_LOAD_RPM n) ≤
      15000 ∧ d.getB Reg.PWR_VM_STS_VM_ABS = false)) ∧
  (∃ (d : Dev) (link : Fin 2) (n : Fin 16), d.deny (.bar2 link) true ((Reg.SEQ_CTL_CMD n).off) 4 = none ∧ d.dstate n ≠
      dFAULT) ∧
  (∃ (d : Dev) (link : Fin 2) (n : Fin 16), d.deny (.bar2 link) true ((Reg.SEQ_CTL_CMD n).off) 4 = none) ∧
  (∃ (d : Dev) (link : Fin 2) (n : Fin 16), d.deny (.bar2 link) true ((Reg.SEQ_CTL_CMD n).off) 4 = none) ∧
  (∃ (d : Dev) (n : Fin 16), (d.deckOn n = true ∧ noLoopEngine d n = false) ∧ (d.dstate n = dABSENT ∧ d.getB
      (Reg.WRP_LINK_CFG_FORCE_DOWN n) = false)) ∧
  (∃ (d : Dev) (n : Fin 16), d.deckOn n = true ∧ d.spnSt n = spOFF ∧ d.tst.visits = []) ∧
  (∃ (d : Dev) (n : Fin 16), d.deckOn n = true ∧ (d.spnSt n = spRUN ∧ d.dstate n = dREADY ∧ d.getB Reg.PWR_VM_STS_UV =
      false)) ∧
  (∃ (d : Dev) (n : Fin 16) (t : Nat), d.deckOn n = true ∧ ((d.deck n).seq.chargeReq = some t ∧ (d.deck n).seq.chargeCmd =
      4) ∧ (d.getB (Reg.SEQ_CTL_REL_SPN n) = false ∧ d.getB (Reg.PWR_THERM_THROT 3) = false ∧ d.getB (Reg.SEQ_STS_CHARGE n)
      = false) ∧ (∀ m : Fin 16, waitsBefore d m n = false) ∧ d.get Reg.PWR_SPIN_BUDGET_IN_USE + d.get
      (Reg.SEQ_PWR_CFG_SPIN_W n) ≤ d.get Reg.PWR_SPIN_BUDGET_SPINUP_W) ∧
  (∃ (d : Dev) (n : Fin 16), d.deckOn n = true ∧ d.get Reg.PWR_SPIN_BUDGET_SPINUP_W < d.get Reg.PWR_SPIN_BUDGET_IN_USE +
      d.get (Reg.SEQ_PWR_CFG_SPIN_W n)) :=
  ⟨⟨seqDev, 0, 1, by decide +kernel⟩,
   ⟨runDev, 0, 1, by decide +kernel⟩,
   ⟨runDev, 0, 1, by decide +kernel⟩,
   ⟨(seqDev.set (Reg.SEQ_STS_STATE 1) 6).set (Reg.SPN_STS_STATE 1) 6, 0, 1, by decide +kernel⟩,
   ⟨seqDev.set (Reg.SEQ_STS_STATE 1) 7, 0, 1, by decide +kernel⟩,
   ⟨(seqDev.set (Reg.SEQ_STS_STATE 1) 9).set (Reg.SPN_STS_STATE 1) 9, 0, 1, by decide +kernel⟩,
   ⟨runDev, 0, 1, by decide +kernel⟩,
   ⟨runDev, 0, 1, by decide +kernel⟩,
   ⟨runDev, 0, 1, by decide +kernel⟩,
   ⟨runDev, 1, by decide +kernel⟩,
   ⟨seqDev.set (Reg.SEQ_STS_STATE 1) 1, 1, by decide +kernel⟩,
   ⟨(seqDev.set (Reg.SEQ_STS_STATE 1) 6).set (Reg.SPN_STS_STATE 1) 6, 1, by decide +kernel⟩,
   ⟨seqDev.onDeck 1 (fun k => { k with seq := { chargeReq := some 5, chargeCmd := 4, chargeRpm := 9000 } }), 1, 5,
      by decide +kernel⟩,
   ⟨runDev.set Reg.PWR_SPIN_BUDGET_IN_USE 1023, 1, by decide +kernel⟩⟩

/-- States and operands that meet the hypotheses of LoadingSteps. -/
theorem test_witness_LoadingSteps :
  (∃ (d : Dev) (n : Fin 16), d.deckOn n = true ∧ (d.dstate n = dSPINNING ∧ d.spnSt n = spRUN ∧ 100 * (d.get
      (Reg.SEQ_LOAD_CFG_FS_RPM n) : Int) ≤ d.spnRpm n) ∧ ((d.deck n).seq.job = 1 ∧ ((d.deck n).slot 0).prof = none ∧
      (d.deck n).link.laserMode = 1) ∧ (d.get (Reg.LOOP_PROF_CTL_BUSY n 0) = 0 ∧ ((d.deck n).slot 0).learning = false)) ∧
  (∃ (c : Clock) (d : Dev) (n : Fin 16) (p : Prof), d.deckOn n = true ∧ (d.dstate n = dSPINNING ∧ ((d.deck n).slot 0).prof
      = some p) ∧ p.t0 + d.get (Reg.SEQ_FOCUS_CFG_FS_MS n) * tickMs ≤ c.tick ∧ d.get (Reg.SEQ_FOCUS_CFG_FS_TRY n) ≤ (d.deck
      n).seq.sweeps + 1) ∧
  (∃ (d : Dev) (n : Fin 16) (peaks : List SumPeak), d.deckOn n = true ∧ (d.dstate n = dSPINNING ∧ ((d.deck n).slot
      0).prof.isSome ∧ d.tbState n = tbOFF) ∧ 2 ≤ (sCurves d n peaks).length) ∧
  (∃ (d : Dev) (n : Fin 16) (f : Nat) (l : Nat), d.deckOn n = true ∧ (d.dstate n = dFOCUSED ∧ d.tbState n = tbLOCKED ∧
      d.get (Reg.SEQ_STS_STEP n) = 7) ∧ (layerOf f = some (2, l) ∧ l = (d.deck n).seq.layerTgt)) ∧
  (∃ (d : Dev) (n : Fin 16) (x : Crossing), d.deckOn n = true ∧ (d.dstate n = dFOCUSED ∧ d.get (Reg.SEQ_STS_STEP n) = 8 ∧
      d.tbState n = tbLOCKED ∧ (d.deck n).seq.newMode = none) ∧ slowCrossing d n x = true ∧ d.getB (Reg.SLD_STS_POS_OK n) =
      false) ∧
  (∃ (d : Dev) (n : Fin 16), d.deckOn n = true ∧ (d.dstate n = dSPINNING ∨ d.dstate n = dCALIBRATING ∨ d.dstate n =
      dPARKING) ∧ seqLate d n = true) ∧
  (∃ (d : Dev) (n : Fin 16), d.deckOn n = true ∧ (d.dstate n = dREADY ∧ d.get (Reg.SEQ_PWR_CFG_IDLE_S n) ≠ 0 ∧ d.gleaning n
      = false) ∧ d.get (Reg.SEQ_PWR_CFG_IDLE_S n) * 1000 * tickMs ≤ d.age n aIDLE ∧ (d.spnSt n = spRUN ∧ d.getB
      Reg.PWR_VM_STS_UV = false)) ∧
  (∃ (d : Dev) (n : Fin 16), (d.deckOn n = true ∧ d.get (Reg.SEQ_RECOV_CFG_SHOCK_WIN n) * tickMs ≤ d.age n aSHOCK)) ∧
  (∃ (d : Dev) (n : Fin 16) (swath : Nat) (z : Zone), d.deckOn n = true ∧ (d.gleaning n = false ∧ (d.deck n).seen = [] ∧
      d.get (Reg.SEQ_STS_GEN n) ≠ 1) ∧ (d.deck n).spn.target = swathRpm d n swath ∧ (zoneOf swath = some z ∧ zoneOf (d.deck
      n).seq.swath = some z)) ∧
  (∃ (d : Dev) (n : Fin 16) (swath : Nat) (y : Zone) (z : Zone), d.deckOn n = true ∧ (d.gleaning n = false ∧ (d.deck
      n).seen = [] ∧ d.get (Reg.SEQ_STS_GEN n) ≠ 1) ∧ (zoneOf swath = some z ∧ zoneOf (d.deck n).seq.swath = some y ∧ y.num
      ≠ z.num) ∧ (d.dstate n = dREADY ∧ (d.deck n).seq.writing = false ∧ d.spnSt n = spRUN ∧ z.readRpm < (d.deck
      n).spn.target) ∧ d.getB (Reg.SEQ_RECOV_CFG_ZSWAP n) = false) :=
  ⟨⟨((seqDev.set (Reg.SEQ_STS_STATE 1) 2).set (Reg.SPN_STS_STATE 1) 6).set (Reg.SPN_STS_SPEED 1) 15000 |>.onDeck 1 (fun k
      => { k with seq := { job := 1 }, link := { laserMode := 1 } }), 1, by decide +kernel⟩,
   ⟨{ tick := 10 ^ 12 }, (seqDev.set (Reg.SEQ_STS_STATE 1) 2).onDeck 1 (fun k =>
      { k with seq := { job := 1, sweeps := 255 }, slots := [(0,
                 { prof := some { kind := 1, start := 0, target := 9, t0 := 0 } })] }), 1,
      { kind := 1, start := 0, target := 9, t0 := 0 }, by decide +kernel⟩,
   ⟨(seqDev.set (Reg.SEQ_STS_STATE 1) 2).onDeck 1 (fun k =>
      { k with slots := [(0, { prof := some { kind := 1, start := 0, target := 9, t0 := 0 } })] }), 1, [⟨9000, 1000⟩, ⟨500,
      10⟩, ⟨9000, 1000⟩], by decide +kernel⟩,
   ⟨((seqDev.set (Reg.SEQ_STS_STATE 1) 3).set (Reg.ANG_STS_STATE 1) 3).set (Reg.SEQ_STS_STEP 1) 7 |>.onDeck 1 (fun k =>
      { k with seq := { job := 1, layerTgt := 3 } }), 1, layerField2, 3, by decide +kernel⟩,
   ⟨((seqDev.set (Reg.SEQ_STS_STATE 1) 3).set (Reg.ANG_STS_STATE 1) 3).set (Reg.SEQ_STS_STEP 1) 8, 1, ⟨1000, 10 ^ 9⟩,
      by decide +kernel⟩,
   ⟨seqDev.set (Reg.SEQ_STS_STATE 1) 5 |>.onDeck 1 (fun k => { k with turns := [(tSEQ, 2 ^ 60)] }), 1, by decide +kernel⟩,
   ⟨((seqDev.set (Reg.SEQ_STS_STATE 1) 6).set (Reg.SPN_STS_STATE 1) 6).setBoth (Reg.SEQ_PWR_CFG_IDLE_S 1) 5 |>.onDeck 1
      (fun k => { k with ages := [(aIDLE, 10 ^ 12)] }), 1, by decide +kernel⟩,
   ⟨runDev.onDeck 1 (fun k => { k with ages := [(aSHOCK, 10 ^ 11)], seq := { shockOpen := true } }), 1, by decide +kernel⟩,
   ⟨runDev.onDeck 1 (fun k => { k with spn := { target := swathRpm runDev 1 50 } }), 1, 50, zone40, by decide +kernel⟩,
   ⟨((seqDev.set (Reg.SEQ_STS_STATE 1) 6).set (Reg.SPN_STS_STATE 1) 6).onDeck 1 (fun k =>
      { k with spn := { target := 15000 }, seq := { swath := 40 } }), 1, 1400, zone40, (zoneOf 1400).getD zone40,
      by decide +kernel⟩⟩

/-- States and operands that meet the hypotheses of HostIntake. -/
theorem test_witness_HostIntake :
  (∃ (d : Dev) (cid : Nat) (hc : HostCmd) (k : Ctrl), (d.ctrl cid = some k ∧ k.ready = true ∧ k.kind ≠ 3 ∧ k.ps < 3) ∧
      (d.mayFetch k = true ∧ d.pwr.mode = .run ∧ d.pwr.entry = 0) ∧ Cmd.isAdmin hc.op = true ∧ d.intakeStop k hc = none) ∧
  (∃ (c : Clock) (d : Dev) (cid : Nat) (hc : HostCmd) (k : Ctrl) (r : Nat), (d.ctrl cid = some k ∧ k.ready = true ∧ k.kind
      ≠ 3 ∧ k.ps < 3) ∧ (d.mayFetch k = true ∧ d.pwr.mode = .run ∧ d.pwr.entry = 0) ∧ (Cmd.isAdmin hc.op = true ∧ Cmd.role
      hc.op = some r ∧ bit k.allRoles r = false ∧ d.plait.isSome) ∧ (∀ y ∈ d.host.ctxs, y.stamp ≤ c.stamp)) ∧
  (∃ (d : Dev) (cid : Nat) (k : Ctrl), (d.ctrl cid = some k ∧ k.ps < 3) ∧ (d.pwr.mode = .run ∧ d.pwr.entry = 0) ∧ d.getB
      Reg.HQ_INTAKE_STS_STOPPED = true) ∧
  (∃ (d : Dev) (stamp : Nat) (x : Ctx), (d.ctx stamp = some x ∧ x.phase = .held ∧ x.why = 0) ∧ (d.holdWhy x = none ∧
      d.host.act = none ∧ d.pwr.entry = 0 ∧ d.pwr.mode = .run) ∧ (Cmd.isAdmin x.cmd.op = false ∧ x.cmd.op ≠ .flush ∧
      d.opStop x.cmd.op x.cmd.nsid = none)) ∧
  (∃ (d : Dev) (stamp : Nat) (x : Ctx), (d.ctx stamp = some x ∧ (d.holdWhy x).isSome)) :=
  ⟨⟨runDev, 1, { op := .identify }, boss, by decide +kernel⟩,
   ⟨{}, { runDev with ctrls := [{ boss with roles := 14 }] }, 1, { op := .sanitize }, { boss with roles := 14 }, 0,
      by decide +kernel⟩,
   ⟨runDev.set Reg.HQ_INTAKE_STS_STOPPED 1, 1, boss, by decide +kernel⟩,
   ⟨{ nsDev with host := { nsDev.host with ctxs := [{ busyCtx { op := .read, nsid := 5, nlb := 1 } with phase := .held }] }
                   }, 1, { busyCtx { op := .read, nsid := 5, nlb := 1 } with phase := .held }, by decide +kernel⟩,
   ⟨{ nsDev with host :=
                   { nsDev.host with ctxs := [busyCtx { op := .write, nsid := 5, nlb := 1 },
                                       { busyCtx { op := .read, nsid := 5, nlb := 1 } with stamp := 2, phase := .held }] }
                   }, 2, { busyCtx { op := .read, nsid := 5, nlb := 1 } with stamp := 2, phase := .held },
      by decide +kernel⟩⟩

/-- States and operands that meet the hypotheses of HostWrites. -/
theorem test_witness_HostWrites :
  (∃ (d : Dev) (stamp : Nat) (data : List Byte) (x : Ctx) (b : BindRec) (s : StripeRec), d.running stamp .write = some x ∧
      (x.mute = false ∧ x.posted = false) ∧ (d.opStop .write x.cmd.nsid = none ∧ d.bound x.cmd.nsid = some (b, s) ∧ b.zoned
      = false) ∧ (x.cmd.nlb ≠ 0 ∧ x.cmd.nlb ≤ maxBlocks b ∧ x.cmd.slba + x.cmd.nlb ≤ d.nsBlocks b s) ∧ data.length =
      x.cmd.nlb * b.lbs) ∧
  (∃ (d : Dev) (stamp : Nat) (x : Ctx) (b : BindRec) (s : StripeRec), d.running stamp .write = some x ∧ (x.mute = false ∧
      x.posted = false) ∧ (d.opStop .write x.cmd.nsid = none ∧ d.bound x.cmd.nsid = some (b, s)) ∧ (x.cmd.nlb ≠ 0 ∧
      x.cmd.nlb ≤ maxBlocks b ∧ d.nsBlocks b s < x.cmd.slba + x.cmd.nlb)) ∧
  (∃ (d : Dev) (stamp : Nat) (data : List Byte) (x : Ctx) (b : BindRec) (s : StripeRec) (z : Nat × Nat), d.running stamp
      .zoneAppend = some x ∧ (x.mute = false ∧ x.posted = false) ∧ (d.opStop .zoneAppend x.cmd.nsid = none ∧ d.bound
      x.cmd.nsid = some (b, s) ∧ b.zoned = true) ∧ (x.cmd.nlb ≠ 0 ∧ x.cmd.nlb ≤ maxBlocks b ∧ x.cmd.slba + x.cmd.nlb ≤
      d.nsBlocks b s) ∧ (data.length = x.cmd.nlb * b.lbs ∧ d.zoneCheck b s true x.cmd.slba x.cmd.nlb = .inr z)) ∧
  (∃ (c : Clock) (d : Dev) (stamp : Nat) (x : Ctx) (b : BindRec) (s : StripeRec) (f : Dev), (d.ctx stamp = some x ∧
      x.cmd.op = .write ∧ x.phase = .transfer ∧ x.data ≠ [] ∧ x.mute = false ∧ x.cmd.fua = false) ∧ (d.opStop x.cmd.op
      x.cmd.nsid = none ∧ d.bound x.cmd.nsid = some (b, s) ∧ b.zoned = false) ∧ d.stageWrite c
      { b := b, s := s, slba := x.cmd.slba, nlb := x.cmd.nlb, wid := x.wid, stamp := stamp, fua := false, zone := none,
          pieces := packWrite (d.coding b) (d.get Reg.CMP_CFG_MIN_SAVE) b.lbs x.cmd.slba (blocksOf b.lbs x.cmd.nlb
          x.data).length (d.openRoom b s none ((d.ns b.nsid).zone 0).wp) 0 (blocksOf b.lbs x.cmd.nlb x.data) } = .inr f) ∧
  (∃ (c : Clock) (d : Dev) (n : Fin 16), (d.pwr.mode ≠ .sleep ∧ d.unitWaits n = true) ∧ (∃ t, (d.deck n).placedAt = some t
      ∧ t + d.get Reg.HQ_CMT_CFG_COMMIT_MS * tickMs ≤ c.tick)) ∧
  (∃ (d : Dev) (n : Fin 16) (swath : Nat) (slot : Nat) (pass : Nat) (x : Disc) (z : Zone), (d.deckOn n = true ∧ (d.deck
      n).disc = some x ∧ zoneOf swath = some z) ∧ (mayWrite d n = true ∧ opcDue d n = false ∧ d.unitNeeded n = true ∧
      x.freeUnits ≠ 0) ∧ (bandOf (d.get (Reg.SEQ_STS_LAYER n)) swath = .index ∧ slot < z.s ∧ pass ≤ 3) ∧ x.units.contains
      (d.get (Reg.SEQ_STS_LAYER n), swath, pass, slot) = false ∧ (inPlace d n swath pass z = true ∧ d.openMask n ≠ 0)) ∧
  (∃ (d : Dev) (n : Fin 16) (u : UnitNow) (p : Pass), (d.deckOn n = true ∧ (d.deck n).unit = some u ∧ (d.deck n).pass =
      some p) ∧ (u.magic = magicIndex ∧ unitHolds d n u.slot p = false) ∧ ((d.deck n).nextPass = 2 ∧ (d.deck
      n).seq.pendPark = false)) ∧
  (∃ (d : Dev) (n : Fin 16) (u : UnitNow) (p : Pass) (x : Disc), (d.deckOn n = true ∧ (d.deck n).unit = some u ∧ (d.deck
      n).pass = some p ∧ (d.deck n).disc = some x) ∧ (u.magic = magicIndex ∧ unitHolds d n u.slot p = true) ∧
      (d.host.writes = [] ∧ d.host.ctxs = []) ∧ ((d.deck n).nextPass = 2 ∧ (d.deck n).seq.pendPark = false)) ∧
  (∃ (d : Dev) (stamp : Nat) (x : Ctx), d.running stamp .flush = some x ∧ (x.mute = false ∧ x.posted = false) ∧
      (d.host.writes = [] ∧ d.host.ctxs = [x] ∧ d.host.jobs = [])) ∧
  (∃ (d : Dev) (stamp : Nat) (x : Ctx) (w : Wr), d.running stamp .flush = some x ∧ (x.mute = false ∧ x.posted = false) ∧
      (d.host.writes = [w] ∧ w.stamp < stamp ∧ d.flushCovers x w.nsid = true ∧ d.host.ctxs = [x]) ∧ (∀ m : Fin 16, bit
      (d.deck m).gate.hold gLATCHED = false)) :=
  ⟨⟨nsBusy { op := .write, nsid := 5, nlb := 1 }, 1, block4k, busyCtx { op := .write, nsid := 5, nlb := 1 }, bind5,
      stripe4, by decide +kernel⟩,
   ⟨nsBusy { op := .write, nsid := 5, slba := 2 ^ 60, nlb := 1 }, 1, busyCtx
      { op := .write, nsid := 5, slba := 2 ^ 60, nlb := 1 }, bind5, stripe4, by decide +kernel⟩,
   ⟨nsBusy { op := .zoneAppend, nsid := 6, nlb := 1 }, 1, block4k, busyCtx { op := .zoneAppend, nsid := 6, nlb := 1 },
      bind6, stripe6, (0, 0), by decide +kernel⟩,
   ⟨{}, { nsDev with host := { nsDev.host with ctxs := [stagedCtx] } }, 1, stagedCtx, bind5, stripe4, stagedDev,
      by decide +kernel⟩,
   ⟨{ tick := 10 ^ 11 }, nsDev.onDeck 1 (fun k => { k with placedAt := some 0, keysDue := [(1, [])] }), 1,
      by decide +kernel⟩,
   ⟨(writeAt 10 0).onDeck 1 (fun k =>
      { k with disc := some { layers := 8, freeUnits := 9 }, keysDue := [(1, [])], unitDue := true }), 1, 10, 3, 0,
      { layers := 8, freeUnits := 9 }, (zoneOf 10).getD zone40, by decide +kernel⟩,
   ⟨(writeDev 10).onDeck 1 (fun k =>
      { k with disc := some { layers := 8, freeUnits := 9 }, unit := some unit0, pass := some
                 { pass := 0, startSlot := 3 }, nextPass := 2 }), 1, unit0, { pass := 0, startSlot := 3 },
      by decide +kernel⟩,
   ⟨(writeDev 10).onDeck 1 (fun k =>
      { k with disc := some { layers := 8, freeUnits := 9 }, unit := some unit0, pass := some unitPass, nextPass := 2 }),
      1, unit0, unitPass, { layers := 8, freeUnits := 9 }, by decide +kernel⟩,
   ⟨nsBusy { op := .flush, nsid := 5 }, 1, busyCtx { op := .flush, nsid := 5 }, by decide +kernel⟩,
   ⟨{ nsDev with host := { nsDev.host with ctxs := [busyCtx { op := .flush, nsid := 5 }], writes := [{ inhWr with stamp :=
                                                                                                                    0 }] } }, 1, busyCtx { op := .flush, nsid := 5 }, { inhWr with stamp := 0 }, by decide +kernel⟩⟩

/-- States and operands that meet the hypotheses of HostReads. -/
theorem test_witness_HostReads :
  (∃ (d : Dev) (stamp : Nat) (x : Ctx) (b : BindRec) (s : StripeRec) (l : List Byte), d.running stamp .read = some x ∧
      (x.mute = false ∧ x.posted = false) ∧ (d.nsStop x.cmd.nsid = none ∧ d.bound x.cmd.nsid = some (b, s)) ∧ (d.blocksAway
      s b.nsid none none x.parts x.cmd.slba x.cmd.nlb = false ∧ d.blocksUnread s b.nsid none none x.cmd.slba x.cmd.nlb =
      false) ∧ (x.cmd.nlb ≠ 0 ∧ x.cmd.nlb ≤ maxBlocks b ∧ x.cmd.slba + x.cmd.nlb ≤ d.nsBlocks b s) ∧ (∀ n ∈ d.readDecks b s
      none none x.cmd.slba x.cmd.nlb, d.deckDown n = false ∧ (d.dstate n = dREADY ∨ d.dstate n = dWRITING) ∧ bit (d.get
      Reg.PWR_GOV_STS_HELD) n = false) ∧ readUntil (fun i => d.readBlock b s none none ((x.parts.find? (fun p => p.1 ==
      i)).map (fun p => p.2)) (x.cmd.slba + i)) 0 (List.range x.cmd.nlb) = (l, none)) ∧
  (∃ (d : Dev) (stamp : Nat) (i : Nat) (x : Ctx) (b : BindRec) (s : StripeRec) (l : List Byte), d.running stamp .read =
      some x ∧ (x.mute = false ∧ x.posted = false) ∧ (d.nsStop x.cmd.nsid = none ∧ d.bound x.cmd.nsid = some (b, s)) ∧
      (d.blocksAway s b.nsid none none x.parts x.cmd.slba x.cmd.nlb = false ∧ d.blocksUnread s b.nsid none none x.cmd.slba
      x.cmd.nlb = false) ∧ (x.cmd.nlb ≠ 0 ∧ x.cmd.nlb ≤ maxBlocks b ∧ x.cmd.slba + x.cmd.nlb ≤ d.nsBlocks b s) ∧ (∀ n ∈
      d.readDecks b s none none x.cmd.slba x.cmd.nlb, d.deckDown n = false ∧ (d.dstate n = dREADY ∨ d.dstate n = dWRITING)
      ∧ bit (d.get Reg.PWR_GOV_STS_HELD) n = false) ∧ readUntil (fun i => d.readBlock b s none none ((x.parts.find? (fun p
      => p.1 == i)).map (fun p => p.2)) (x.cmd.slba + i)) 0 (List.range x.cmd.nlb) = (l, some (i, .bad))) ∧
  (∃ (d : Dev) (stamp : Nat) (x : Ctx) (st : Sts), d.running stamp .read = some x ∧ (x.mute = false ∧ x.posted = false) ∧
      (x.cid ≠ seamCid ∧ d.nsStop x.cmd.nsid = some st)) ∧
  (∃ (d : Dev) (stamp : Nat) (x : Ctx), (d.ctx stamp = some x ∧ x.cmd.op = .read ∧ x.phase = .media ∧ x.dw0 = 1 ∧ x.mute =
      false ∧ d.outWaits x = false ∧ x.posted = false)) ∧
  (∃ (d : Dev) (stamp : Nat) (data : List Byte) (x : Ctx) (b : BindRec) (s : StripeRec) (l : List Byte), d.running stamp
      .compare = some x ∧ (x.mute = false ∧ x.posted = false) ∧ (d.nsStop x.cmd.nsid = none ∧ d.bound x.cmd.nsid = some (b,
      s)) ∧ (d.blocksAway s b.nsid none none x.parts x.cmd.slba x.cmd.nlb = false ∧ d.blocksUnread s b.nsid none none
      x.cmd.slba x.cmd.nlb = false) ∧ (x.cmd.nlb ≠ 0 ∧ x.cmd.nlb ≤ maxBlocks b ∧ x.cmd.slba + x.cmd.nlb ≤ d.nsBlocks b s) ∧
      (∀ n ∈ d.readDecks b s none none x.cmd.slba x.cmd.nlb, d.deckDown n = false ∧ (d.dstate n = dREADY ∨ d.dstate n =
      dWRITING) ∧ bit (d.get Reg.PWR_GOV_STS_HELD) n = false) ∧ readUntil (fun i => d.readBlock b s none none
      ((x.parts.find? (fun p => p.1 == i)).map (fun p => p.2)) (x.cmd.slba + i)) 0 (List.range x.cmd.nlb) = (l, none) ∧
      data.length = x.cmd.nlb * b.lbs) ∧
  (∃ (d : Dev) (stamp : Nat) (x : Ctx) (b : BindRec) (s : StripeRec) (l : List Byte), d.running stamp .verify = some x ∧
      (x.mute = false ∧ x.posted = false) ∧ (d.nsStop x.cmd.nsid = none ∧ d.bound x.cmd.nsid = some (b, s)) ∧ (d.blocksAway
      s b.nsid none none x.parts x.cmd.slba x.cmd.nlb = false ∧ d.blocksUnread s b.nsid none none x.cmd.slba x.cmd.nlb =
      false) ∧ (x.cmd.nlb ≠ 0 ∧ x.cmd.nlb ≤ maxBlocks b ∧ x.cmd.slba + x.cmd.nlb ≤ d.nsBlocks b s) ∧ (∀ n ∈ d.readDecks b s
      none none x.cmd.slba x.cmd.nlb, d.deckDown n = false ∧ (d.dstate n = dREADY ∨ d.dstate n = dWRITING) ∧ bit (d.get
      Reg.PWR_GOV_STS_HELD) n = false) ∧ readUntil (fun i => d.readBlock b s none none ((x.parts.find? (fun p => p.1 ==
      i)).map (fun p => p.2)) (x.cmd.slba + i)) 0 (List.range x.cmd.nlb) = (l, none)) ∧
  (∃ (d : Dev) (stamp : Nat) (t : Nat) (x : Ctx) (b : BindRec) (s : StripeRec) (l : List Byte), d.running stamp .readAsOf =
      some x ∧ (x.mute = false ∧ x.posted = false) ∧ (d.nsStop x.cmd.nsid = none ∧ d.bound x.cmd.nsid = some (b, s) ∧
      b.zoned = false) ∧ (x.cmd.nlb = 1 ∧ x.cmd.nlb ≤ maxBlocks b ∧ x.cmd.slba + x.cmd.nlb ≤ d.nsBlocks b s) ∧ (d.versionOf
      s b.nsid x.cmd.slba (some (min t x.tai)) (some x.wid) = none ∧ l = List.replicate b.lbs 0)) ∧
  (∃ (c : Clock) (d : Dev) (stamp : Nat) (recomp : Bool) (skipBad : Bool) (x : Ctx) (b : BindRec) (bt : BindRec) (s :
      StripeRec) (st : StripeRec) (r : Nat × Nat × Nat) (m : MigStep) (k : Ctrl), d.running stamp .migrate = some x ∧
      (x.mute = false ∧ x.posted = false) ∧ (d.opStop .migrate x.cmd.nsid = none ∧ d.bound x.cmd.nsid = some (bt, st) ∧
      bt.zoned = false ∧ x.cmd.hist = false) ∧ (x.cmd.srcs = [r] ∧ d.ctrl x.cid = some k ∧ d.sees k r.1 = true ∧ d.nsStop
      r.1 = none ∧ d.bound r.1 = some (b, s) ∧ b.lbs64 = bt.lbs64) ∧ (x.cmd.slba + r.2.2 ≤ d.nsBlocks bt st ∧ r.2.1 + r.2.2
      ≤ d.nsBlocks b s) ∧ overlaps (false, r.1, r.2.1, r.2.2) (true, x.cmd.nsid, x.cmd.slba, r.2.2) = false ∧ ((List.range
      m.nlb).any (fun i => (d.migPick m (m.slba + i)).any (fun v => v.unread || v.away)) = false ∧ m.base = 0) ∧ (∀ n ∈
      d.readDecks b s none none r.2.1 r.2.2, d.deckDown n = false ∧ (d.dstate n = dREADY ∨ d.dstate n = dWRITING)) ∧
      d.migSteps false r x.cmd.slba = [m] ∧ ((migStep c x bt st recomp skipBad { d := d } m).stop = none ∧ (migStep c x bt
      st recomp skipBad { d := d } m).issued = 1)) ∧
  (∃ (d : Dev) (stamp : Nat) (x : Ctx) (b : BindRec) (s : StripeRec), d.running stamp .zoneSend = some x ∧ (x.mute = false
      ∧ x.posted = false) ∧ (d.bound x.cmd.nsid = some (b, s) ∧ b.zoned = true ∧ zoneSize b s ≠ 0) ∧ (x.cmd.slba % zoneSize
      b s = 0 ∧ x.cmd.slba < d.nsBlocks b s)) ∧
  (∃ (d : Dev) (stamp : Nat) (x : Ctx) (b : BindRec) (s : StripeRec), d.running stamp .zoneSend = some x ∧ (x.mute = false
      ∧ x.posted = false) ∧ (d.bound x.cmd.nsid = some (b, s) ∧ b.zoned = true ∧ zoneSize b s ≠ 0) ∧ (x.cmd.slba % zoneSize
      b s = 0 ∧ x.cmd.slba < d.nsBlocks b s)) ∧
  (∃ (d : Dev) (stamp : Nat) (x : Ctx) (b : BindRec) (s : StripeRec), d.running stamp .zoneReceive = some x ∧ (x.mute =
      false ∧ x.posted = false) ∧ (d.bound x.cmd.nsid = some (b, s) ∧ b.zoned = true ∧ zoneSize b s ≠ 0) ∧ x.cmd.slba <
      d.nsBlocks b s) :=
  ⟨⟨nsBusy { op := .read, nsid := 5, nlb := 1 }, 1, busyCtx { op := .read, nsid := 5, nlb := 1 }, bind5, stripe4, readL
      { op := .read, nsid := 5, nlb := 1 }, ⟨by decide +kernel, by decide +kernel, by decide +kernel, by decide +kernel,
      by decide +kernel, by decide +kernel, Prod.ext rfl (by decide +kernel)⟩⟩,
   ⟨badDev, 1, 0, busyCtx { op := .read, nsid := 5, nlb := 1 }, bind5, stripe4, [], by decide +kernel⟩,
   ⟨(nsBusy { op := .read, nsid := 5, nlb := 1 }).onDeck 1 (fun k => { k with mounted := none }), 1, busyCtx
      { op := .read, nsid := 5, nlb := 1 }, .discNotMounted, by decide +kernel⟩,
   ⟨{ nsDev with host := { nsDev.host with ctxs := [{ busyCtx { op := .read, nsid := 5, nlb := 1 } with phase := .media,
                                                                                                          dw0 := 1, data :=
                                                                                                          [1#8] }] } }, 1,
      { busyCtx { op := .read, nsid := 5, nlb := 1 } with phase := .media, dw0 := 1, data := [1#8] }, by decide +kernel⟩,
   ⟨nsBusy { op := .compare, nsid := 5, nlb := 1 }, 1, block4k, busyCtx { op := .compare, nsid := 5, nlb := 1 }, bind5,
      stripe4, readL { op := .compare, nsid := 5, nlb := 1 }, ⟨by decide +kernel, by decide +kernel, by decide +kernel,
      by decide +kernel, by decide +kernel, by decide +kernel, Prod.ext rfl (by decide +kernel), by decide +kernel⟩⟩,
   ⟨nsBusy { op := .verify, nsid := 5, nlb := 1 }, 1, busyCtx { op := .verify, nsid := 5, nlb := 1 }, bind5, stripe4, readL
      { op := .verify, nsid := 5, nlb := 1 }, ⟨by decide +kernel, by decide +kernel, by decide +kernel, by decide +kernel,
      by decide +kernel, by decide +kernel, Prod.ext rfl (by decide +kernel)⟩⟩,
   ⟨nsBusy { op := .readAsOf, nsid := 5, nlb := 1 }, 1, 77, busyCtx { op := .readAsOf, nsid := 5, nlb := 1 }, bind5,
      stripe4, List.replicate bind5.lbs 0, ⟨by decide +kernel, by decide +kernel, by decide +kernel, by decide +kernel,
      by decide +kernel, rfl⟩⟩,
   ⟨{}, nsBusy { op := .migrate, nsid := 5, slba := 64, srcs := [(5, 0, 1)] }, 1, false, false, busyCtx
      { op := .migrate, nsid := 5, slba := 64, srcs := [(5, 0, 1)] }, bind5, bind5, stripe4, stripe4, (5, 0, 1),
      { b := bind5, s := stripe4, slba := 0, nlb := 1, tlba := 64 }, { boss with nsGroups := 3 }, ⟨by decide +kernel,
      by decide +kernel, by decide +kernel, by decide +kernel, by decide +kernel, by decide +kernel, by decide +kernel,
      by decide +kernel, rfl, by decide +kernel⟩⟩,
   ⟨nsBusy { op := .zoneSend, nsid := 6 }, 1, busyCtx { op := .zoneSend, nsid := 6 }, bind6, stripe6, by decide +kernel⟩,
   ⟨nsBusy { op := .zoneSend, nsid := 6 }, 1, busyCtx { op := .zoneSend, nsid := 6 }, bind6, stripe6, by decide +kernel⟩,
   ⟨nsBusy { op := .zoneReceive, nsid := 6 }, 1, busyCtx { op := .zoneReceive, nsid := 6 }, bind6, stripe6,
      by decide +kernel⟩⟩

/-- States and operands that meet the hypotheses of DiscCommands. -/
theorem test_witness_DiscCommands :
  (∃ (d : Dev) (stamp : Nat) (h : Word) (o : DiscObs) (x : Ctx) (b : BindRec) (s : StripeRec) (u : Nat) (n : Nat) (i :
      PrimerInfo), d.running stamp .mount = some x ∧ (x.mute = false ∧ x.posted = false) ∧ (∀ k ∈ d.ctrls, stamp ∉ k.aers)
      ∧ (d.bound x.cmd.nsid = some (b, s) ∧ s.members.findIdx? (fun m => m == h.toNat) = some u ∧ d.deckOf h.toNat = some
      n) ∧ ((d.deck n).mounted = none ∧ (d.deck n).primer = none ∧ d.gleaning n = false ∧ d.deckDown n = false ∧ noGains n
      d = false ∧ d.ledFull = false) ∧ (d.dstate n = dREADY ∧ d.get (Reg.SEQ_STS_GEN n) ≠ 1 ∧ o.blank = false) ∧
      (o.primer.bind primerOf = some i ∧ i.setLabel = b.label ∧ i.member = u ∧ i.setSize = s.members.length)) ∧
  (∃ (d : Dev) (stamp : Nat) (h : Word) (x : Ctx) (b : BindRec) (s : StripeRec) (u : Nat) (n : Nat), d.running stamp .mount
      = some x ∧ (x.mute = false ∧ x.posted = false) ∧ (d.bound x.cmd.nsid = some (b, s) ∧ s.members.findIdx? (fun m => m
      == h.toNat) = some u ∧ d.deckOf h.toNat = some n) ∧ (d.deck n).mounted.isSome = true) ∧
  (∃ (d : Dev) (stamp : Nat) (h : Word) (x : Ctx) (b : BindRec) (s : StripeRec), d.running stamp .mount = some x ∧ (x.mute
      = false ∧ x.posted = false) ∧ (d.bound x.cmd.nsid = some (b, s) ∧ h.toNat ∉ s.members ∧ isUnit h.toNat = true ∧
      (deckOfIdx (hIndex h.toNat)).isSome = true)) ∧
  (∃ (d : Dev) (stamp : Nat) (h : Word) (x : Ctx) (n : Nat) (nsid : Nat), d.running stamp .unmount = some x ∧ (x.mute =
      false ∧ x.posted = false) ∧ (∀ k ∈ d.ctrls, stamp ∉ k.aers) ∧ (d.deckOf h.toNat = some n ∧ (d.deck n).mounted = some
      nsid ∧ d.ledFull = false ∧ d.reloadHolds nsid = false) ∧ (d.host.jobs = [] ∧ (d.host.ctxs.any fun y => decide
      (y.stamp < stamp)) = false) ∧ (d.dependsOn n = [] ∧ d.unitWaits n = false ∧ (d.deck n).unit = none ∧ (d.deck n).pass
      = none)) ∧
  (∃ (d : Dev) (stamp : Nat) (h : Word) (x : Ctx) (n : Nat), d.running stamp .unmount = some x ∧ (x.mute = false ∧ x.posted
      = false) ∧ (d.deckOf h.toNat = some n ∧ (d.deck n).mounted = none) ∧ (d.host.jobs.any fun j => j.stamp == stamp &&
      j.kind == 3) = false) ∧
  (∃ (d : Dev) (stamp : Nat) (h : Word) (layer : Nat) (first : Nat) (last : Nat) (x : Ctx) (n : Nat), d.running stamp
      .survey = some x ∧ (x.mute = false ∧ x.posted = false) ∧ (8 ≤ first ∧ first ≤ last ∧ last ≤ 2655 ∧ last ≤ first +
      1023 ∧ layer ≤ 31) ∧ (d.deckOf h.toNat = some n ∧ d.dstate n = dREADY ∧ d.deckDown n = false)) ∧
  (∃ (d : Dev) (stamp : Nat) (first : Nat) (last : Nat) (x : Ctx), d.running stamp .survey = some x ∧ (x.mute = false ∧
      x.posted = false) ∧ (first < 8 ∨ 2655 < last ∨ last < first ∨ first + 1023 < last)) ∧
  (∃ (d : Dev) (stamp : Nat) (what : Nat) (x : Ctx), d.running stamp .ledgerRead = some x ∧ (x.mute = false ∧ x.posted =
      false) ∧ what ≤ 2) :=
  ⟨⟨mountDev { op := .mount, nsid := 5 }, 1, 2, { layers := 8, primer := some (primerData primerL 0) }, busyCtx
      { op := .mount, nsid := 5 }, bindL, stripe4, 0, 1, primerL, ⟨by decide +kernel, by decide +kernel, by decide +kernel,
      by decide +kernel, by decide +kernel, by decide +kernel, rfl, by decide +kernel⟩⟩,
   ⟨nsBusy { op := .mount, nsid := 5 }, 1, 2, busyCtx { op := .mount, nsid := 5 }, bind5, stripe4, 0, 1, by decide +kernel⟩,
   ⟨nsBusy { op := .mount, nsid := 5 }, 1, 9, busyCtx { op := .mount, nsid := 5 }, bind5, stripe4, by decide +kernel⟩,
   ⟨nsBusy { op := .unmount, nsid := 5 }, 1, 2, busyCtx { op := .unmount, nsid := 5 }, 1, 5, by decide +kernel⟩,
   ⟨nsBusy { op := .unmount, nsid := 5 }, 1, 4, busyCtx { op := .unmount, nsid := 5 }, 3, by decide +kernel⟩,
   ⟨nsBusy { op := .survey }, 1, 2, 0, 32, 33, busyCtx { op := .survey }, 1, by decide +kernel⟩,
   ⟨nsBusy { op := .survey }, 1, 7, 33, busyCtx { op := .survey }, by decide +kernel⟩,
   ⟨busyDev { op := .ledgerRead }, 1, 0, busyCtx { op := .ledgerRead }, by decide +kernel⟩⟩

/-- States and operands that meet the hypotheses of CompressionJobs. -/
theorem test_witness_CompressionJobs :
  (∃ (d : Dev) (stamp : Nat) (desc : List Byte) (o : JobObs) (x : Ctx) (k : Ctrl), d.running stamp .compressJob = some x ∧
      (x.mute = false ∧ x.posted = false) ∧ (d.ctrl x.cid = some k ∧ k.kind ≤ 1 ∧ (d.jobs.any fun j => j.stamp == stamp) =
      false) ∧ (jobBadDesc false desc = false ∧ jobKind desc = 0 ∧ jobRestore desc = false ∧ jobMethod desc = 1 ∧ o.reach =
      true) ∧ ((jobOut desc).2.1 ≠ 0 ∧ (jobChain desc).2.1 = 0)) ∧
  (∃ (d : Dev) (stamp : Nat) (desc : List Byte) (x : Ctx) (k : Ctrl), d.running stamp .compressJob = some x ∧ (x.mute =
      false ∧ x.posted = false) ∧ (d.ctrl x.cid = some k ∧ k.kind ≤ 1 ∧ (d.jobs.any fun j => j.stamp == stamp) = false) ∧
      jobBadDesc false desc = true) ∧
  (∃ (d : Dev) (stamp : Nat) (desc : List Byte) (o : JobObs) (x : Ctx) (k : Ctrl), d.running stamp .decompressJob = some x
      ∧ (x.mute = false ∧ x.posted = false) ∧ (d.ctrl x.cid = some k ∧ k.kind ≤ 1 ∧ (d.jobs.any fun j => j.stamp == stamp)
      = false) ∧ (jobBadDesc true desc = false ∧ jobKind desc = 0 ∧ jobRestore desc = false ∧ o.reach = true) ∧ ((jobOut
      desc).2.1 ≠ 0 ∧ (jobChain desc).2.1 = 0 ∧ ((slice o.input 0 (jobIn desc).2.1).getD 1 0).toNat ≠ 0x50)) ∧
  (∃ (d : Dev) (stamp : Nat) (j : Job) (en : Nat) (l : List Nat), (d.jobs.find? (fun i => i.stamp == stamp) = some j ∧
      j.eng = none) ∧ (d.jobs.any fun i => i.eng.isNone && i.method == j.method && decide (i.stamp < j.stamp) && d.tenant
      i.cid == d.tenant j.cid) = false ∧ (d.jobYields j en = false ∧ d.jobEngines j = en :: l ∧ d.host.act = none ∧ d.domOn
      9 = true)) ∧
  (∃ (d : Dev) (stamp : Nat) (en : Nat) (j : Job) (x : Ctx), (d.jobs.find? (fun i => i.stamp == stamp) = some j ∧ j.eng =
      some en ∧ d.get (Reg.CMP_ENG_STS_STATE en) = 1) ∧ (d.ctx stamp = some x ∧ x.mute = false ∧ x.posted = false) ∧
      (jobKind j.desc = 0 ∧ j.dec = false ∧ jobSave j.desc = false ∧ (jobCompl j.desc).2.1 = 0 ∧ (jobState j.desc).2.1 = 0)
      ∧ (encJob (d.get Reg.CMP_CFG_MIN_SAVE) ((j.outs.map (fun b => b.2.1)).sum) (jobLast j.desc) j.st (slice j.input 0
      (jobIn j.desc).2.1)).res = some 0) :=
  ⟨⟨busyDev { op := .compressJob, nsid := 5 }, 1, descJ, { input := [1#8, 2#8, 3#8] }, busyCtx
      { op := .compressJob, nsid := 5 }, boss, by decide +kernel⟩,
   ⟨busyDev { op := .compressJob, nsid := 5 }, 1, [], busyCtx { op := .compressJob, nsid := 5 }, boss, by decide +kernel⟩,
   ⟨busyDev { op := .decompressJob, nsid := 5 }, 1, descJ, { input := [1#8, 2#8, 3#8] }, busyCtx
      { op := .decompressJob, nsid := 5 }, boss, by decide +kernel⟩,
   ⟨{ busyDev { op := .compressJob, nsid := 5 } with jobs := [jobJ] }, 1, jobJ, 0, (List.range 31).map (fun i => i + 1),
      by decide +kernel⟩,
   ⟨{ (busyDev { op := .compressJob, nsid := 5 }).set (Reg.CMP_ENG_STS_STATE 0) 1 with jobs := [{ jobJ with eng := some 0,
                                                                                                              st := { dir
                                                                                                                        := 0, phase := 4 } }] }, 1, 0, { jobJ with eng := some 0, st := { dir := 0, phase := 4 } }, busyCtx { op := .compressJob, nsid := 5 }, by decide +kernel⟩⟩

/-- States and operands that meet the hypotheses of QueuesAndEvents. -/
theorem test_witness_QueuesAndEvents :
  (∃ (d : Dev) (stamp : Nat) (x : Ctx), (d.running stamp .otherAdmin = some x ∨ d.running stamp .otherIo = some x) ∧
      (x.mute = false ∧ x.posted = false)) ∧
  (∃ (d : Dev) (stamp : Nat) (qid : Nat) (size : Nat) (vec : Nat) (x : Ctx) (k : Ctrl), d.running stamp .createCq = some x
      ∧ (x.mute = false ∧ x.posted = false) ∧ d.ctrl x.cid = some k ∧ (k.kind ≤ 1 ∧ qid ≠ 0 ∧ qid ≤ k.pairs ∧ (k.cqs.any
      fun y => y.1 == qid) = false ∧ 2 ≤ size ∧ size ≤ 4096 ∧ vec < k.vectors)) ∧
  (∃ (d : Dev) (stamp : Nat) (qid : Nat) (size : Nat) (cq : Nat) (x : Ctx) (k : Ctrl), d.running stamp .createSq = some x ∧
      (x.mute = false ∧ x.posted = false) ∧ d.ctrl x.cid = some k ∧ (k.kind ≤ 1 ∧ qid ≠ 0 ∧ qid ≤ k.pairs ∧ (k.sqs.any fun
      y => y.1 == qid) = false ∧ 2 ≤ size ∧ size ≤ 4096 ∧ (k.cqs.any fun y => y.1 == cq) = true)) ∧
  (∃ (d : Dev) (stamp : Nat) (qid : Nat) (x : Ctx) (k : Ctrl), d.running stamp .deleteSq = some x ∧ (x.mute = false ∧
      x.posted = false) ∧ d.ctrl x.cid = some k ∧ k.kind ≤ 1 ∧ (k.sqs.any fun y => y.1 == qid) = true) ∧
  (∃ (d : Dev) (stamp : Nat) (qid : Nat) (x : Ctx) (k : Ctrl), d.running stamp .deleteCq = some x ∧ (x.mute = false ∧
      x.posted = false) ∧ d.ctrl x.cid = some k ∧ k.kind ≤ 1 ∧ ((k.cqs.any fun y => y.1 == qid) = true ∧ (k.sqs.any fun y
      => y.2 == qid) = false)) ∧
  (∃ (d : Dev) (stamp : Nat) (x : Ctx) (k : Ctrl), d.running stamp .doorbellConfig = some x ∧ (x.mute = false ∧ x.posted =
      false) ∧ d.ctrl x.cid = some k) ∧
  (∃ (d : Dev) (stamp : Nat) (target : Nat) (x : Ctx) (y : Ctx) (k : Ctrl), d.running stamp .abort = some x ∧ (x.mute =
      false ∧ x.posted = false) ∧ d.ctrl x.cid = some k ∧ (d.ctx target = some y ∧ y.phase = .held ∧ y.cid = x.cid ∧ y.mute
      = false ∧ y.posted = false ∧ target ≠ stamp)) ∧
  (∃ (d : Dev) (stamp : Nat) (target : Nat) (x : Ctx) (k : Ctrl), d.running stamp .abort = some x ∧ (x.mute = false ∧
      x.posted = false) ∧ d.ctrl x.cid = some k ∧ (∀ y ∈ d.host.ctxs, y.stamp = target → y.phase ≠ .held ∨ y.cid ≠ x.cid)) ∧
  (∃ (d : Dev) (stamp : Nat) (x : Ctx) (k : Ctrl), d.running stamp .asyncEvent = some x ∧ (x.mute = false ∧ x.posted =
      false) ∧ d.ctrl x.cid = some k ∧ (d.host.act = none ∧ (∀ y ∈ d.ctrls, (y.vendor ≠ 1 ∧ (∀ r ∈ y.events, r.2.2.2 =
      true)) ∨ (y.aers = [] ∧ y.id ≠ x.cid)))) ∧
  (∃ (d : Dev) (stamp : Nat) (x : Ctx) (k : Ctrl), d.running stamp .keepAlive = some x ∧ (x.mute = false ∧ x.posted =
      false) ∧ d.ctrl x.cid = some k) :=
  ⟨⟨busyDev { op := .otherAdmin }, 1, busyCtx { op := .otherAdmin }, by decide +kernel⟩,
   ⟨busyDev { op := .createCq }, 1, 1, 64, 3, busyCtx { op := .createCq }, boss, by decide +kernel⟩,
   ⟨{ busyDev { op := .createSq } with ctrls := [{ boss with cqs := [(1, 3)] }] }, 1, 1, 64, 1, busyCtx
      { op := .createSq }, { boss with cqs := [(1, 3)] }, by decide +kernel⟩,
   ⟨{ busyDev { op := .deleteSq } with ctrls := [{ boss with sqs := [(1, 1)] }] }, 1, 1, busyCtx { op := .deleteSq },
      { boss with sqs := [(1, 1)] }, by decide +kernel⟩,
   ⟨{ busyDev { op := .deleteCq } with ctrls := [{ boss with cqs := [(1, 1)] }] }, 1, 1, busyCtx { op := .deleteCq },
      { boss with cqs := [(1, 1)] }, by decide +kernel⟩,
   ⟨{ busyDev { op := .doorbellConfig } with ctrls := [{ boss with kind := 1, fn := 1 }] }, 1, busyCtx
      { op := .doorbellConfig }, { boss with kind := 1, fn := 1 }, by decide +kernel⟩,
   ⟨{ busyDev { op := .abort } with host :=
                                      { (busyDev { op := .abort }).host with ctxs := [busyCtx { op := .abort },
                                                                               { busyCtx { op := .read } with stamp := 2,
                                                                                                                phase := .held }] } }, 1, 2, busyCtx { op := .abort }, { busyCtx { op := .read } with stamp := 2, phase := .held }, boss, by decide +kernel⟩,
   ⟨busyDev { op := .abort }, 1, 2, busyCtx { op := .abort }, boss, by decide +kernel⟩,
   ⟨busyDev { op := .asyncEvent }, 1, busyCtx { op := .asyncEvent }, boss, by decide +kernel⟩,
   ⟨busyDev { op := .keepAlive }, 1, busyCtx { op := .keepAlive }, boss, by decide +kernel⟩⟩

/-- States and operands that meet the hypotheses of FeaturesLogsIdentify. -/
theorem test_witness_FeaturesLogsIdentify :
  (∃ (d : Dev) (stamp : Nat) (v : Nat) (x : Ctx) (k : Ctrl), d.running stamp .setFeatures = some x ∧ (x.mute = false ∧
      x.posted = false) ∧ d.ctrl x.cid = some k ∧ (bit k.allRoles rOPERATOR = true ∧ v % 32 ≤ d.psMax)) ∧
  (∃ (d : Dev) (stamp : Nat) (x : Ctx) (k : Ctrl), d.running stamp .setFeatures = some x ∧ (x.mute = false ∧ x.posted =
      false) ∧ d.ctrl x.cid = some k ∧ (k.sqs = [] ∧ k.cqs = [] ∧ k.pairs = 1)) ∧
  (∃ (d : Dev) (stamp : Nat) (x : Ctx) (k : Ctrl), d.running stamp .setFeatures = some x ∧ (x.mute = false ∧ x.posted =
      false) ∧ d.ctrl x.cid = some k ∧ (bit k.allRoles rCUSTODIAN = true ∧ d.ledFull = false) ∧ (d.refSrc ≠ 2 ∨ d.get
      Reg.MGMT_PTP_STS_STATE ≠ 3)) ∧
  (∃ (d : Dev) (stamp : Nat) (fid : Nat) (x : Ctx) (k : Ctrl) (r : Nat), d.running stamp .setFeatures = some x ∧ (x.mute =
      false ∧ x.posted = false) ∧ d.ctrl x.cid = some k ∧ (fid = 2 ∨ fid = 14 ∨ fid = 17) ∧ (featRole fid = some r ∧ bit
      k.allRoles r = false)) ∧
  (∃ (d : Dev) (stamp : Nat) (x : Ctx) (k : Ctrl), d.running stamp .getFeatures = some x ∧ (x.mute = false ∧ x.posted =
      false) ∧ d.ctrl x.cid = some k) ∧
  (∃ (d : Dev) (stamp : Nat) (fid : Nat) (x : Ctx) (k : Ctrl), d.running stamp .getFeatures = some x ∧ (x.mute = false ∧
      x.posted = false) ∧ d.ctrl x.cid = some k ∧ featKnown fid = false) ∧
  (∃ (d : Dev) (stamp : Nat) (ofst : Nat) (x : Ctx) (k : Ctrl), d.running stamp .getLogPage = some x ∧ (x.mute = false ∧
      x.posted = false) ∧ d.ctrl x.cid = some k ∧ (d.pwr.mode ≠ .recovery ∧ ofst ≤ d.flt.page.length)) ∧
  (∃ (d : Dev) (stamp : Nat) (ofst : Nat) (x : Ctx) (k : Ctrl), d.running stamp .getLogPage = some x ∧ (x.mute = false ∧
      x.posted = false) ∧ d.ctrl x.cid = some k ∧ (d.pwr.mode ≠ .recovery ∧ ofst ≤ 512)) ∧
  (∃ (d : Dev) (stamp : Nat) (lid : Nat) (x : Ctx) (k : Ctrl), d.running stamp .getLogPage = some x ∧ (x.mute = false ∧
      x.posted = false) ∧ d.ctrl x.cid = some k ∧ lid ∉ [1, 2, 3, 4, 5, 0x70, 0x81, 0xBF, 0xC0, 0xC1, 0xC2, 0xC3]) ∧
  (∃ (d : Dev) (stamp : Nat) (x : Ctx) (k : Ctrl), d.running stamp .identify = some x ∧ (x.mute = false ∧ x.posted = false)
      ∧ d.ctrl x.cid = some k) ∧
  (∃ (d : Dev) (stamp : Nat) (nsid : Nat) (x : Ctx) (k : Ctrl) (b : BindRec) (s : StripeRec), d.running stamp .identify =
      some x ∧ (x.mute = false ∧ x.posted = false) ∧ d.ctrl x.cid = some k ∧ (d.sees k nsid = true ∧ d.bound nsid = some
      (b, s))) ∧
  (∃ (d : Dev) (stamp : Nat) (nsid : Nat) (x : Ctx) (k : Ctrl) (b : BindRec) (s : StripeRec), d.running stamp .identify =
      some x ∧ (x.mute = false ∧ x.posted = false) ∧ d.ctrl x.cid = some k ∧ (d.sees k nsid = true ∧ d.bound nsid = some
      (b, s) ∧ b.zoned = true)) ∧
  (∃ (d : Dev) (stamp : Nat) (nsid : Nat) (x : Ctx) (k : Ctrl), d.running stamp .identify = some x ∧ (x.mute = false ∧
      x.posted = false) ∧ d.ctrl x.cid = some k ∧ d.sees k nsid = false) :=
  ⟨⟨{ busyDev { op := .setFeatures } with plait := some { openPlait with psMax := 4 } }, 1, 1, busyCtx
      { op := .setFeatures }, boss, by decide +kernel⟩,
   ⟨busyDev { op := .setFeatures }, 1, busyCtx { op := .setFeatures }, boss, by decide +kernel⟩,
   ⟨busyDev { op := .setFeatures }, 1, busyCtx { op := .setFeatures }, boss, by decide +kernel⟩,
   ⟨{ busyDev { op := .setFeatures } with ctrls := [{ boss with roles := 8 }] }, 1, 2, busyCtx { op := .setFeatures },
      { boss with roles := 8 }, 2, by decide +kernel⟩,
   ⟨busyDev { op := .getFeatures }, 1, busyCtx { op := .getFeatures }, boss, by decide +kernel⟩,
   ⟨busyDev { op := .getFeatures }, 1, 3, busyCtx { op := .getFeatures }, boss, by decide +kernel⟩,
   ⟨busyDev { op := .getLogPage }, 1, 0, busyCtx { op := .getLogPage }, boss, by decide +kernel⟩,
   ⟨busyDev { op := .getLogPage }, 1, 0, busyCtx { op := .getLogPage }, boss, by decide +kernel⟩,
   ⟨busyDev { op := .getLogPage }, 1, 6, busyCtx { op := .getLogPage }, boss, by decide +kernel⟩,
   ⟨busyDev { op := .identify }, 1, busyCtx { op := .identify }, boss, by decide +kernel⟩,
   ⟨nsBusy { op := .identify }, 1, 5, busyCtx { op := .identify }, { boss with nsGroups := 3 }, bind5, stripe4,
      by decide +kernel⟩,
   ⟨nsBusy { op := .identify }, 1, 6, busyCtx { op := .identify }, { boss with nsGroups := 3 }, bind6, stripe6,
      by decide +kernel⟩,
   ⟨busyDev { op := .identify }, 1, 5, busyCtx { op := .identify }, boss, by decide +kernel⟩⟩

/-- States and operands that meet the hypotheses of FirmwareActivation. -/
theorem test_witness_FirmwareActivation :
  (∃ (d : Dev) (stamp : Nat) (ofst : Nat) (piece : List Byte) (x : Ctx) (k : Ctrl), d.running stamp .fwDownload = some x ∧
      (x.mute = false ∧ x.posted = false) ∧ d.ctrl x.cid = some k ∧ (d.host.fwPieces.any fun p => pieceOverlaps p (ofst,
      piece)) = false) ∧
  (∃ (d : Dev) (stamp : Nat) (slot : Nat) (x : Ctx) (k : Ctrl), d.running stamp .fwCommit = some x ∧ (x.mute = false ∧
      x.posted = false) ∧ d.ctrl x.cid = some k ∧ (slot = 1 ∨ slot = 2) ∧ (d.host.fwPieces = [] ∧ d.ledFull = false ∧
      d.led.bad = false)) ∧
  (∃ (d : Dev) (stamp : Nat) (x : Ctx) (k : Ctrl), d.running stamp .fwCommit = some x ∧ (x.mute = false ∧ x.posted = false)
      ∧ d.ctrl x.cid = some k ∧ (d.host.fwPieces = [] ∧ d.ledFull = false ∧ d.led.bad = false ∧ d.reload = none ∧
      d.host.act = none)) ∧
  (∃ (d : Dev) (stamp : Nat) (x : Ctx) (k : Ctrl), d.running stamp .fwCommit = some x ∧ (x.mute = false ∧ x.posted = false)
      ∧ d.ctrl x.cid = some k) ∧
  (∃ (d : Dev) (a : ActNow), (d.host.act = some a ∧ a.step = 1 ∧ d.drained = true)) ∧
  (∃ (c : Clock) (d : Dev) (a : ActNow) (x : Ctx), (d.host.act = some a ∧ a.step = 1 ∧ a.start + 150 * tickMs ≤ c.tick ∧
      d.ctx a.stamp = some x ∧ x.mute = false ∧ x.posted = false) ∧ (∀ y ∈ d.ctrls, y.aers = [])) ∧
  (∃ (d : Dev) (a : ActNow) (x : Ctx), (d.host.act = some a ∧ a.step = 2 ∧ d.ctx a.stamp = some x ∧ x.mute = false ∧
      x.posted = false) ∧ (∀ y ∈ d.ctrls, y.aers = [])) ∧
  (∃ (c : Clock) (d : Dev) (a : ActNow) (x : Ctx), (d.host.act = some a ∧ a.step = 2 ∧ a.start + 450 * tickMs ≤ c.tick ∧
      d.ctx a.stamp = some x ∧ x.mute = false ∧ x.posted = false) ∧ (∀ y ∈ d.ctrls, y.aers = [])) :=
  ⟨⟨busyDev { op := .fwDownload }, 1, 0, [1, 2], busyCtx { op := .fwDownload }, boss, by decide +kernel⟩,
   ⟨busyDev { op := .fwCommit }, 1, 2, busyCtx { op := .fwCommit }, boss, by decide +kernel⟩,
   ⟨busyDev { op := .fwCommit }, 1, busyCtx { op := .fwCommit }, boss, by decide +kernel⟩,
   ⟨busyDev { op := .fwCommit }, 1, busyCtx { op := .fwCommit }, boss, by decide +kernel⟩,
   ⟨{ runDev with host := { runDev.host with act := some { stamp := 1, start := 0, step := 1 } } },
      { stamp := 1, start := 0, step := 1 }, by decide +kernel⟩,
   ⟨{ tick := 10 ^ 9 },
      { runDev with host :=
                      { runDev.host with ctxs := [busyCtx { op := .fwCommit }], act := some
                                           { stamp := 1, start := 0, step := 1 } } },
      { stamp := 1, start := 0, step := 1 }, busyCtx { op := .fwCommit }, by decide +kernel⟩,
   ⟨{ runDev with host :=
                    { runDev.host with ctxs := [{ busyCtx { op := .fwCommit } with dw0 := 2 }], act := some
                                         { stamp := 1, start := 0, step := 2 } } }, { stamp := 1, start := 0, step := 2 },
      { busyCtx { op := .fwCommit } with dw0 := 2 }, by decide +kernel⟩,
   ⟨{ tick := 10 ^ 9 },
      { runDev with host :=
                      { runDev.host with ctxs := [busyCtx { op := .fwCommit }], act := some
                                           { stamp := 1, start := 0, step := 2 } } },
      { stamp := 1, start := 0, step := 2 }, busyCtx { op := .fwCommit }, by decide +kernel⟩⟩

/-- States and operands that meet the hypotheses of FabricControllers. -/
theorem test_witness_FabricControllers :
  (∃ (d : Dev) (p : Fin 4) (sub : Fin 4) (tls : Nat), (d.ethUp p sub = true ∧ d.booted = true ∧ d.plait.isSome = true ∧
      d.domOn 5 = true) ∧ (d.pwr.mode = .run ∧ d.pwr.entry = 0) ∧ (tls ≤ 1 ∧ (d.tlsReq p sub = false ∨ tls = 1) ∧ (tls = 0
      ∨ d.get Reg.SEC_STS_STATE ≠ 3)) ∧ (d.ctrls.length < 2048 ∧ d.ctrl d.freeCid = none)) ∧
  (∃ (d : Dev) (p : Fin 4) (sub : Fin 4) (nqn : List Byte) (cid : Nat) (qid : Nat) (tls : Nat) (k : Ctrl), (d.ethUp p sub =
      true ∧ d.booted = true ∧ d.plait.isSome = true ∧ d.domOn 5 = true) ∧ (d.pwr.mode = .run ∧ d.pwr.entry = 0) ∧ (tls ≤ 1
      ∧ (d.tlsReq p sub = false ∨ tls = 1) ∧ (tls = 0 ∨ d.get Reg.SEC_STS_STATE ≠ 3)) ∧ (qid ≠ 0 ∧ d.ctrl cid = some k ∧
      k.kind = 2 ∧ k.ready = true ∧ k.nqn = slice nqn 0 48 ∧ qid ≤ k.pairs ∧ (k.sqs.any fun y => y.1 == qid) = false) ∧
      ((d.ctrls.map (fun y => if y.kind = 2 then y.sqs.length else 0)).sum) < 16384) ∧
  (∃ (d : Dev) (stamp : Nat) (x : Ctx) (k : Ctrl), d.running stamp .propertyGet = some x ∧ (x.mute = false ∧ x.posted =
      false) ∧ d.ctrl x.cid = some k ∧ k.kind = 2) ∧
  (∃ (d : Dev) (stamp : Nat) (v : Nat) (x : Ctx) (k : Ctrl), d.running stamp .propertySet = some x ∧ (x.mute = false ∧
      x.posted = false) ∧ d.ctrl x.cid = some k ∧ (k.kind = 2 ∧ v % 2 = 1)) ∧
  (∃ (d : Dev) (stamp : Nat) (x : Ctx) (k : Ctrl), d.running stamp .authSend = some x ∧ (x.mute = false ∧ x.posted = false)
      ∧ d.ctrl x.cid = some k ∧ k.kind = 2) ∧
  (∃ (d : Dev) (stamp : Nat) (x : Ctx) (k : Ctrl), d.running stamp .authReceive = some x ∧ (x.mute = false ∧ x.posted =
      false) ∧ d.ctrl x.cid = some k ∧ k.kind = 2) ∧
  (∃ (d : Dev) (cid : Nat) (k : Ctrl), (d.ctrl cid = some k ∧ k.kind = 2) ∧ (∀ y ∈ d.ctrls, y.id = cid → y = k)) :=
  ⟨⟨runDev.sets [(Reg.MGMT_ETH_CFG_EN 0, 1), (Reg.MGMT_ETH_CFG_LINK 0, 1), (Reg.MGMT_BOOT_STS_STAGE, 10)], 0, 0, 0,
      by decide +kernel⟩,
   ⟨{ runDev.sets [(Reg.MGMT_ETH_CFG_EN 0, 1), (Reg.MGMT_ETH_CFG_LINK 0, 1), (Reg.MGMT_BOOT_STS_STAGE, 10)] with ctrls :=
                                                                                                                   [{ id := 4096, kind := 2, ready := true, nqn := List.replicate 48 1 }] }, 0, 0, List.replicate 48 1, 4096, 1, 0, { id := 4096, kind := 2, ready := true, nqn := List.replicate 48 1 }, by decide +kernel⟩,
   ⟨{ busyDev { op := .propertyGet } with ctrls := [{ boss with kind := 2 }] }, 1, busyCtx { op := .propertyGet },
      { boss with kind := 2 }, by decide +kernel⟩,
   ⟨{ busyDev { op := .propertySet } with ctrls := [{ boss with kind := 2 }] }, 1, 1, busyCtx { op := .propertySet },
      { boss with kind := 2 }, by decide +kernel⟩,
   ⟨{ busyDev { op := .authSend } with ctrls := [{ boss with kind := 2 }] }, 1, busyCtx { op := .authSend },
      { boss with kind := 2 }, by decide +kernel⟩,
   ⟨{ busyDev { op := .authReceive } with ctrls := [{ boss with kind := 2 }] }, 1, busyCtx { op := .authReceive },
      { boss with kind := 2 }, by decide +kernel⟩,
   ⟨{ runDev with ctrls := [{ id := 4096, kind := 2, ready := true }] }, 4096, { id := 4096, kind := 2, ready := true },
      by decide +kernel⟩⟩

/-- States and operands that meet the hypotheses of ControllersAndLinks. -/
theorem test_witness_ControllersAndLinks :
  (∃ (d : Dev) (link : Fin 2) (k : Ctrl), (bit d.host.links link.val = true ∧ d.domOn 4 = true ∧ (link = 0 ∨ d.host.split =
      true)) ∧ d.pwr.mode = .run ∧ (d.ctrl (1 + link.val) = some k ∧ (d.sec.sessions = []) ∧ (∀ y ∈ d.ctrls, y.sessRoles =
      0))) ∧
  (∃ (d : Dev) (cid : Nat) (k : Ctrl), (d.ctrl cid = some k ∧ k.kind ≤ 1) ∧ (∀ y ∈ d.host.ctxs, y.cid ≠ cid)) ∧
  (∃ (d : Dev) (cid : Nat) (k : Ctrl) (x : Ctx) (y : Ctx), (d.ctrl cid = some k ∧ k.kind ≤ 1) ∧ (d.host.ctxs = [x, y] ∧
      x.cid = cid ∧ y.cid = cid ∧ x.stamp ≠ y.stamp) ∧ (x.phase = .held ∧ x.why = 0 ∧ y.cmd.op = .write ∧ y.phase =
      .staged) ∧ d.jobs = []) ∧
  (∃ (d : Dev), (d.host.ctxs = [] ∧ (d.ctrls.map fun y => y.id).Nodup)) ∧
  (∃ (c : Clock) (d : Dev) (cid : Nat) (k : Ctrl), (d.ctrl cid = some k ∧ k.kind ≤ 1 ∧ k.kato ≠ 0 ∧ k.kaTick + k.kato ≤
      c.tick ∧ d.host.act = none) ∧ (∀ y ∈ d.host.ctxs, y.cid ≠ cid)) ∧
  (∃ (d : Dev), d.host.ctxs = []) ∧
  (∃ (d : Dev), d.domOn 4 = true) ∧
  (∃ (d : Dev) (p : Fin 4) (sub : Fin 4) (up : Bool), (up = false ∨ (d.getB (Reg.MGMT_ETH_CFG_EN p) = true ∧ sub.val <
      subPorts (d.get (Reg.MGMT_ETH_CFG_MODE p)))) ∧ d.get (Reg.MGMT_ETH_CFG_LINK p) < 16) ∧
  (∃ (d : Dev) (st : Fin 4), (d.ptpOn = true ∧ d.refSrc ≠ 2 ∧ st ≠ 0)) ∧
  (∃ (d : Dev), (d.ptpOn = true ∧ d.refSrc = 2 ∧ d.misc.ptpSeen = false ∧ d.ledFull = false)) :=
  ⟨⟨runDev, 0, boss, by decide +kernel⟩,
   ⟨runDev, 1, boss, by decide +kernel⟩,
   ⟨{ runDev with host :=
                    { runDev.host with ctxs := [{ busyCtx { op := .read } with phase := .held },
                                         { busyCtx { op := .write } with stamp := 2, phase := .staged, staged := true }] }
                    }, 1, boss, { busyCtx { op := .read } with phase := .held },
      { busyCtx { op := .write } with stamp := 2, phase := .staged, staged := true }, by decide +kernel⟩,
   ⟨{ runDev with ctrls := [boss, { id := 4096, kind := 2, ready := true }] }, by decide +kernel⟩,
   ⟨{ tick := 10 ^ 9 }, { runDev with ctrls := [{ boss with feats := [(0x0F, 5)] }] }, 1,
      { boss with feats := [(0x0F, 5)] }, by decide +kernel⟩,
   ⟨runDev, by decide +kernel⟩,
   ⟨runDev, by decide +kernel⟩,
   ⟨runDev.set (Reg.MGMT_ETH_CFG_EN 0) 1, 0, 0, true, by decide +kernel⟩,
   ⟨runDev.set (Reg.MGMT_ETH_CFG_EN 0) 1, 3, by decide +kernel⟩,
   ⟨{ (runDev.set (Reg.MGMT_ETH_CFG_EN 0) 1) with plait := some { openPlait with refSrc := 2 } }, by decide +kernel⟩⟩

/-- States and operands that meet the hypotheses of SessionsAndOwnership. -/
theorem test_witness_SessionsAndOwnership :
  (∃ (d : Dev) (stamp : Nat) (r : SpdmReq) (x : Ctx) (k : Ctrl), d.running stamp .securitySend = some x ∧ (x.mute = false ∧
      x.posted = false) ∧ d.ctrl x.cid = some k ∧ (d.secReady = true ∧ (r = .digests ∨ r = .certificate 0 ∨ r =
      .certificate 1))) ∧
  (∃ (d : Dev) (stamp : Nat) (proto : Fin 256) (x : Ctx) (k : Ctrl), d.running stamp .securitySend = some x ∧ (x.mute =
      false ∧ x.posted = false) ∧ d.ctrl x.cid = some k ∧ proto ≠ 0xE8) ∧
  (∃ (d : Dev) (stamp : Nat) (x : Ctx) (k : Ctrl), d.running stamp .securityReceive = some x ∧ (x.mute = false ∧ x.posted =
      false) ∧ d.ctrl x.cid = some k) ∧
  (∃ (d : Dev), (d.secReady = true ∧ d.pwr.mode = .run ∧ d.sec.sessions.length < 8) ∧ (d.ledFull = false ∧ d.led.bad =
      false)) ∧
  (∃ (d : Dev), (d.secReady = false ∧ d.pwr.mode = .run ∧ d.pwr.entry = 0)) ∧
  (∃ (c : Clock) (d : Dev) (sid : Nat), (∀ s ∈ d.sec.sessions, s.id = sid → s.beat + 60 * tickS ≤ c.tick)) ∧
  (∃ (d : Dev) (sid : Nat) (s : Session), (d.sec.sessions.find? (fun s => s.id == sid) = some s ∧ d.secReady = true ∧
      s.verified = true) ∧ (s.transport = 1 ∨ s.transport = 2 ∨ s.transport = 3) ∧ ((d.sec.custodians.all fun a =>
      a.isNone) = true ∧ d.sec.custodians.length = 4 ∧ d.ledFull = false ∧ d.led.bad = false)) ∧
  (∃ (d : Dev), (d.sec.custodians.all fun a => a.isNone) = false) ∧
  (∃ (d : Dev) (sid : Nat) (s : Session), (d.sec.sessions.find? (fun s => s.id == sid) = some s ∧ d.secReady = true ∧ bit
      s.roles rCUSTODIAN = true) ∧ (d.sec.custodians.length = 4 ∧ d.ledFull = false ∧ d.led.bad = false)) ∧
  (∃ (d : Dev) (entry : Fin 4), (d.sec.custodians.length = 4 ∧ ((setAt d.sec.custodians entry none).all fun a => a.isNone)
      = true)) :=
  ⟨⟨secBusy { op := .securitySend }, 1, .digests, busyCtx { op := .securitySend }, boss, by decide +kernel⟩,
   ⟨secBusy { op := .securitySend }, 1, 1, busyCtx { op := .securitySend }, boss, by decide +kernel⟩,
   ⟨secBusy { op := .securityReceive }, 1, busyCtx { op := .securityReceive }, boss, by decide +kernel⟩,
   ⟨secDev, by decide +kernel⟩,
   ⟨runDev, by decide +kernel⟩,
   ⟨{ tick := 10 ^ 11 }, secDev, 2, by decide +kernel⟩,
   ⟨secDev, 2, sess2, by decide +kernel⟩,
   ⟨{ secDev with sec := { secDev.sec with custodians := [some [1], none, none, none] } }, by decide +kernel⟩,
   ⟨secDev, 1, sess1, by decide +kernel⟩,
   ⟨secDev, 2, by decide +kernel⟩⟩

/-- States and operands that meet the hypotheses of KeysAndSlots. -/
theorem test_witness_KeysAndSlots :
  (∃ (d : Dev) (sid : Nat) (kid : Word) (kek : List Byte) (s : Session), (d.sec.sessions.find? (fun s => s.id == sid) =
      some s ∧ d.secReady = true ∧ bit s.roles rCUSTODIAN = true) ∧ (d.ledFull = false ∧ d.led.bad = false ∧ kid.toNat ∉
      d.sec.erased ∧ d.getB Reg.SEC_STS_TAMPER = false) ∧ d.kek kid.toNat ≠ some (slice kek 0 32)) ∧
  (∃ (d : Dev) (kid : Word), (kid.toNat ∈ d.sec.erased ∨ d.getB Reg.SEC_STS_TAMPER = true)) ∧
  (∃ (d : Dev) (sid : Nat) (s : Session), (d.sec.sessions.find? (fun s => s.id == sid) = some s ∧ d.secReady = true ∧ bit
      s.roles rCUSTODIAN = true) ∧ (d.ledFull = false ∧ d.led.bad = false)) ∧
  (∃ (d : Dev) (sid : Nat) (s : Session), (d.sec.sessions.find? (fun s => s.id == sid) = some s ∧ d.secReady = true ∧ bit
      s.roles rCUSTODIAN = true) ∧ (d.ledFull = false ∧ d.led.bad = false)) ∧
  (∃ (d : Dev) (sid : Nat) (slot : Fin 8) (s : Session), (d.sec.sessions.find? (fun s => s.id == sid) = some s ∧ d.secReady
      = true ∧ bit s.roles rCUSTODIAN = true) ∧ (d.ledFull = false ∧ d.led.bad = false ∧ 2 ≤ slot.val)) ∧
  (∃ (slot : Fin 8), slot.val < 2) ∧
  (∃ (d : Dev) (sid : Nat) (v : Nat) (s : Session) (p : Plait), (d.sec.sessions.find? (fun s => s.id == sid) = some s ∧
      d.secReady = true ∧ bit s.roles rCUSTODIAN = true) ∧ (d.ledFull = false ∧ d.led.bad = false ∧ d.plait = some p ∧
      d.sec.svnPlait < v ∧ v ≤ 64 ∧ v ≤ p.secVersion)) ∧
  (∃ (d : Dev) (sid : Nat) (s : Session), (d.sec.sessions.find? (fun s => s.id == sid) = some s ∧ d.secReady = true ∧ bit
      s.roles rCUSTODIAN = true)) ∧
  (∃ (d : Dev) (link : Fin 2), d.deny (.bar2 link) true Reg.SEC_ZERO_KEY.off 4 = none) ∧
  (∃ (d : Dev) (sid : Nat) (s : Session), (d.sec.sessions.find? (fun s => s.id == sid) = some s ∧ d.secReady = true ∧ bit
      s.roles rCUSTODIAN = true) ∧ d.inDeep = false) ∧
  (∃ (d : Dev), d.inDeep = false) ∧
  (∃ (d : Dev) (stamp : Nat) (x : Ctx) (k : Ctrl), d.running stamp .sanitize = some x ∧ (x.mute = false ∧ x.posted = false)
      ∧ d.ctrl x.cid = some k ∧ (d.nsWhere (fun b => !b.enc) = [] ∧ d.ledFull = false ∧ d.led.bad = false ∧ d.kidsUsed =
      [])) ∧
  (∃ (d : Dev) (stamp : Nat) (action : Fin 8) (x : Ctx) (k : Ctrl), d.running stamp .sanitize = some x ∧ (x.mute = false ∧
      x.posted = false) ∧ d.ctrl x.cid = some k ∧ action ≠ 4) :=
  ⟨⟨secDev, 1, 4, List.replicate 32 9, sess1, by decide +kernel⟩,
   ⟨{ secDev with sec := { secDev.sec with erased := [4] } }, 4, by decide +kernel⟩,
   ⟨secDev, 1, sess1, by decide +kernel⟩,
   ⟨secDev, 1, sess1, by decide +kernel⟩,
   ⟨secDev, 1, 2, sess1, by decide +kernel⟩,
   ⟨1, by decide +kernel⟩,
   ⟨{ secDev with plait := some { openPlait with secVersion := 3 } }, 1, 3, sess1, { openPlait with secVersion := 3 },
      by decide +kernel⟩,
   ⟨secDev, 1, sess1, by decide +kernel⟩,
   ⟨secDev, 0, by decide +kernel⟩,
   ⟨secDev, 1, sess1, by decide +kernel⟩,
   ⟨secDev, by decide +kernel⟩,
   ⟨secBusy { op := .sanitize }, 1, busyCtx { op := .sanitize }, boss, by decide +kernel⟩,
   ⟨secBusy { op := .sanitize }, 1, 2, busyCtx { op := .sanitize }, boss, by decide +kernel⟩⟩

/-- States and operands that meet the hypotheses of TamperLedgerRecords. -/
theorem test_witness_TamperLedgerRecords :
  (∃ (d : Dev), (d.pwr.mode = .run ∧ d.inDeep = false)) ∧
  (∃ (d : Dev) (link : Fin 2), d.deny (.bar2 link) true Reg.SEC_STS_TAMPER.off 4 = none ∧ d.getB Reg.SEC_STS_TAMPER = true) ∧
  (∃ (d : Dev), (d.led.flushed < d.led.next ∧ d.led.next / 1024 = d.led.flushed / 1024 ∧ d.led.next < 131072)) ∧
  (∃ (d : Dev), (d.led.flushed < d.led.next ∧ d.led.next / 1024 = d.led.flushed / 1024 + 1 ∧ d.led.next < 131072 ∧
      d.led.leaf < 1000)) ∧
  (∃ (d : Dev), d.led.flushed ≠ d.led.next) ∧
  (∃ (d : Dev) (link : Fin 2), d.deny (.bar2 link) true Reg.FLT_ACK_SEQ_ACK_LO.off 4 = none) ∧
  (∃ (c : Clock) (d : Dev), (d.flt.lostOpen = true ∧ d.inDeep = false ∧ d.flt.lostAt + 100 * tickMs ≤ c.tick)) :=
  ⟨⟨secDev, by decide +kernel⟩,
   ⟨secDev.set Reg.SEC_STS_TAMPER 1, 0, by decide +kernel⟩,
   ⟨runDev.ledAdd {} {} 12 2 0 1 zeros48 zeros48, by decide +kernel⟩,
   ⟨{ runDev with led := { next := 1024, flushed := 1000 } }, by decide +kernel⟩,
   ⟨runDev.ledAdd {} {} 12 2 0 1 zeros48 zeros48, by decide +kernel⟩,
   ⟨{ runDev with flt := { ring := [{ seq := 4, tick := 5, handle := 7, cls := 1, code := 2, sev := 3 }], next := 5 } }, 0,
      by decide +kernel⟩,
   ⟨{ tick := 10 ^ 9 }, { runDev with flt := { lostOpen := true, lostNow := 3 } }, by decide +kernel⟩⟩

/-- States and operands that meet the hypotheses of TamperAndRecordsInEveryState. -/
theorem test_witness_TamperAndRecordsInEveryState :
  (∃ (d : Dev), (d.pwr.mode ≠ .off ∧ d.pwr.mode ≠ .deep)) ∧
  (∃ (d : Dev), (d.pwr.mode = .off ∨ d.pwr.mode = .deep)) ∧
  (∃ (d : Dev) (link : Fin 2), d.deny (.bar2 link) true Reg.SEC_STS_TAMPER.off 4 = none) ∧
  (∃ (d : Dev), d.flt.lostOpen = false) ∧
  (∃ (c : Clock) (d : Dev), (d.flt.lostOpen = true ∧ d.inDeep = false ∧ d.flt.lostAt + 100 * tickMs ≤ c.tick ∧ d.getB
      Reg.FLT_CFG_FOLD_EN = false)) :=
  ⟨⟨secDev, by decide +kernel⟩,
   ⟨{ secDev with pwr := { secDev.pwr with mode := .deep } }, by decide +kernel⟩,
   ⟨runDev, 0, by decide +kernel⟩,
   ⟨runDev, by decide +kernel⟩,
   ⟨{ tick := 10 ^ 9 }, { runDev.setBoth Reg.FLT_CFG_FOLD_EN 0 with flt := { lostOpen := true, lostNow := 3 } },
      by decide +kernel⟩⟩

/-- States and operands that meet the hypotheses of BufferMemoryBytes. -/
theorem test_witness_BufferMemoryBytes :
  (∃ (d : Dev) (off : Nat) (len : Nat) (data : List Byte), (off + len ≤ 2 ^ 30 ∧ off + data.length ≤ 2 ^ 30) ∧ (d.memRuns =
      true ∧ d.domOn 4 = true ∧ d.pwr.mode = .run ∧ d.pwr.entry = 0) ∧ (d.get Reg.MEM_STS_CH_FAIL = 0 ∧ d.mem.poison = [])) ∧
  (∃ (d : Dev) (off : Nat) (len : Nat), off + len ≤ 2 ^ 30 ∧ (d.memRuns = true ∧ d.domOn 4 = true ∧ d.pwr.mode = .run ∧
      d.pwr.entry = 0) ∧ (d.get Reg.MEM_STS_CH_FAIL = 0 ∧ d.mem.poison = [])) ∧
  (∃ (d : Dev) (off : Nat) (len : Nat) (w : Nat), off + len ≤ 2 ^ 30 ∧ (d.memRuns = true ∧ d.domOn 4 = true ∧ d.pwr.mode =
      .run ∧ d.pwr.entry = 0) ∧ (d.get Reg.MEM_STS_CH_FAIL = 0 ∧ d.mem.poison = [w] ∧ w ∈ wordsOf (d.cmbBase + off) len)) ∧
  (∃ (d : Dev) (link : Fin 2), d.deny (.bar2 link) true Reg.MEM_FILL_CTL_START.off 4 = none ∧ (d.mstate = mRUN ∧ d.getB
      Reg.MEM_FILL_CTL_BUSY = false)) ∧
  (∃ (d : Dev) (f : Nat × Nat × Nat), (d.mem.fillTo = some f ∧ d.pwr.mode = .run ∧ f.1 + f.2.1 ≤ d.dramPages)) ∧
  (∃ (d : Dev) (f : Nat × Nat × Nat), (d.mem.fillTo = some f ∧ d.pwr.mode = .run ∧ d.dramPages < f.1 + f.2.1)) ∧
  (∃ (d : Dev) (link : Fin 2) (page : Nat), d.deny (.bar2 link) true Reg.MEM_RET_CTL_PAGE.off 4 = none ∧ (d.getB
      Reg.MEM_RET_STS_BUSY = false ∧ d.retErr page = none ∧ d.ledFull = false ∧ d.mem.retiring = none ∧ d.mem.retWait = [])
      ∧ page < 2 ^ Reg.MEM_RET_CTL_PAGE.w) ∧
  (∃ (d : Dev) (link : Fin 2) (page : Nat) (r : Nat), d.deny (.bar2 link) true Reg.MEM_RET_CTL_PAGE.off 4 = none ∧ (d.getB
      Reg.MEM_RET_STS_BUSY = false ∧ d.retErr page = some r)) ∧
  (∃ (d : Dev) (dst : Nat) (page : Nat), (d.mem.retiring = some (page, 2) ∧ d.pageFree dst = true ∧ d.ledFull = false ∧
      d.mc.ways = [] ∧ d.mc.victims = [] ∧ page ≠ dst) ∧ (d.mem.wf = true ∧ (d.mem.fills.any fun f => fillHas f page) =
      true)) ∧
  (∃ (d : Dev) (link : Fin 2) (ch : Fin 8), d.deny (.bar2 link) true ((0x500240 + 4 * ch.val)) 4 = none ∧ (∀ r : Fin 4,
      d.getB (Reg.MEM_DEV_MARK_VALID ch r) = false) ∧ d.ledFull = false) :=
  ⟨⟨memDev, 37, 0, [1, 2, 3, 4, 5, 6, 7, 8, 9, 10, 11, 12, 13, 14, 15, 16, 17, 18, 19, 20], by decide +kernel⟩,
   ⟨memDev, 37, 5, by decide +kernel⟩,
   ⟨memDev.onMem (fun m => { m with poison := [memDev.cmbBase / 16 + 2] }), 37, 5, memDev.cmbBase / 16 + 2,
      by decide +kernel⟩,
   ⟨memDev, 0, by decide +kernel⟩,
   ⟨memDev.onMem (fun m => { m with fillTo := some (3, 2, 0x04030201), cells := [(12288, 9)] }), (3, 2, 0x04030201),
      by decide +kernel⟩,
   ⟨memDev.onMem (fun m => { m with fillTo := some (2 ^ 40, 2, 0) }), (2 ^ 40, 2, 0), by decide +kernel⟩,
   ⟨memDev, 0, 5, by decide +kernel⟩,
   ⟨memDev, 0, 2 ^ 40, 5, by decide +kernel⟩,
   ⟨memDev.onMem (fun m =>
      { m with retiring := some (5, 2), fills := [(0, 2 ^ 24, 0)], cells := [(4096 * 5 + 3, 7), (4096 * 6 + 9, 8)] }), 6,
      5, by decide +kernel⟩,
   ⟨memDev, 0, 2, by decide +kernel⟩⟩

/-- States and operands that meet the hypotheses of MemoryChannels. -/
theorem test_witness_MemoryChannels :
  (∃ (d : Dev) (link : Fin 2), d.deny (.bar2 link) true Reg.MEM_CTL_TRAIN.off 4 = none) ∧
  (∃ (d : Dev) (o : TrainObs), (d.mstate = mTRAINING ∧ d.pwr.mode ≠ .boot ∧ o.alike = false)) ∧
  (∃ (d : Dev) (o : TrainObs), (d.mstate = mTRAINING ∧ d.pwr.mode ≠ .boot ∧ o.alike = true ∧ o.width ≤ 1)) ∧
  (∃ (d : Dev) (link : Fin 2), d.deny (.bar2 link) true Reg.MEM_CTL_START.off 4 = none ∧ (d.mstate = mSTOPPED ∧
      d.mem.unequal = false ∧ d.mapErr = none ∧ d.get Reg.MEM_STS_CH_TRAINED = 0xFF) ∧ (d.flash.retPages = [] ∧
      d.flash.retMarks = [])) ∧
  (∃ (d : Dev) (link : Fin 2), d.deny (.bar2 link) true Reg.MEM_CTL_START.off 4 = none ∧ (d.mstate = mSTOPPED ∧
      d.mem.unequal = true)) ∧
  (∃ (d : Dev) (link : Fin 2), d.deny (.bar2 link) true Reg.MEM_CTL_RECENTER.off 4 = none ∧ d.mstate ≠ mRUN) ∧
  (∃ (d : Dev) (link : Fin 2) (o : CentreObs), d.deny (.bar2 link) true Reg.MEM_CTL_RECENTER.off 4 = none ∧ (d.mstate =
      mRUN ∧ o.noEye = false ∧ d.get Reg.MEM_CFG_WIDTH = 1) ∧ (∀ g : Fin 10, d.get (Reg.MEM_TRN_RES_RD_CTR 0 g) ≤ 61)) ∧
  (∃ (c : Clock) (d : Dev) (ch : Fin 8) (o : CentreObs), recentreDue c ch o.temp d = true ∧ (d.mstate = mRUN ∧ o.noEye =
      false ∧ d.get Reg.MEM_CFG_WIDTH = 1) ∧ (∀ g : Fin 10, d.get (Reg.MEM_TRN_RES_RD_CTR ch g) ≤ 61)) ∧
  (∃ (d : Dev) (ch : Fin 8) (done : Nat), d.mstate = mRUN ∧ (1024 ≤ done ∨ d.get (Reg.MEM_CH_STS_ALERTS ch) ≤ 1)) ∧
  (∃ (d : Dev) (ch : Fin 8) (done : Nat), (d.mstate = mRUN ∧ done < 1024 ∧ d.get (Reg.MEM_CH_STS_ALERTS ch) = 2 ∧ bit
      (d.get Reg.MEM_STS_CH_FAIL) ch = false ∧ d.inDeep = false)) ∧
  (∃ (c : Clock) (d : Dev), d.get Reg.MEM_RINSE_CFG_RINSE_H * 60 * tickMin ≤ d.devSpan c gRINSE * d.dramPages ∧ (d.mstate =
      mRUN ∧ d.getB Reg.MEM_RINSE_CFG_EN = true ∧ d.mem.poison = [])) ∧
  (∃ (c : Clock) (d : Dev) (w : Nat) (bad : List (Nat × Nat)), ((eccRead (d.erased (d.placeOfWord w).ch (d.placeOfWord
      w).rk) (eccXor bad [])).kind = 1 ∧ (eccRead (d.erased (d.placeOfWord w).ch (d.placeOfWord w).rk) (eccXor bad
      [])).wrong = []) ∧ d.get Reg.MEM_RINSE_CFG_RINSE_H * 60 * tickMin ≤ d.devSpan c gRINSE * d.dramPages ∧ (d.mstate =
      mRUN ∧ d.getB Reg.MEM_RINSE_CFG_EN = true ∧ d.mem.poison = [] ∧ d.mem.retired = [] ∧ d.get Reg.MEM_STS_CH_FAIL = 0) ∧
      (w / 256 = d.get Reg.MEM_RINSE_STS_PAGE ∧ d.get Reg.MEM_RINSE_STS_PAGE < pageOf d.cmbBase ∧ d.get
      Reg.MEM_RINSE_STS_PAGE + 1 < d.dramPages) ∧ d.getB Reg.MEM_RET_POL_POL_EN = false) ∧
  (∃ (d : Dev) (link : Fin 2) (ch : Fin 8), d.deny (.bar2 link) true ((Reg.MEM_CH_STS_CLR ch).off) 4 = none) :=
  ⟨⟨runDev, 0, by decide +kernel⟩,
   ⟨runDev.set Reg.MEM_STS_STATE 1, { trainObs with alike := false }, by decide +kernel⟩,
   ⟨runDev.set Reg.MEM_STS_STATE 1, trainObs, by decide +kernel⟩,
   ⟨defaultMap (memDev.sets [(Reg.MEM_STS_STATE, 0), (Reg.MEM_STS_CH_TRAINED, 0xFF)]), 0, by decide +kernel⟩,
   ⟨runDev.onMem (fun m => { m with unequal := true }), 0, by decide +kernel⟩,
   ⟨runDev, 0, by decide +kernel⟩,
   ⟨memDev.set Reg.MEM_CFG_WIDTH 1, 0, { moves := [(1, 1)], noEye := false }, by decide +kernel⟩,
   ⟨{ tick := 10 ^ 12 }, memDev.set Reg.MEM_CFG_WIDTH 1, 3, { moves := [(1, 1)], noEye := false }, by decide +kernel⟩,
   ⟨memDev, 1, 5, by decide +kernel⟩,
   ⟨memDev.set (Reg.MEM_CH_STS_ALERTS 1) 2, 1, 5, by decide +kernel⟩,
   ⟨{ tick := 10 ^ 15 }, memDev.set Reg.MEM_RINSE_CFG_EN 1, by decide +kernel⟩,
   ⟨{ tick := 10 ^ 15 }, memDev.sets [(Reg.MEM_RINSE_CFG_EN, 1), (Reg.MEM_RET_POL_POL_EN, 0)], 3, [(2, 5)],
      by decide +kernel⟩,
   ⟨memDev, 0, 3, by decide +kernel⟩⟩

/-- States and operands that meet the hypotheses of MappingCache. -/
theorem test_witness_MappingCache :
  (∃ (d : Dev) (link : Fin 2) (way : Fin 16) (x : Way), d.deny (.bar2 link) true Reg.MC_MAINT_CTL_CMD.off 4 = none ∧
      (d.getB Reg.MC_MAINT_CTL_BUSY = false ∧ d.mc.at (d.get Reg.MC_MAINT_ARG_SET) way = some x)) ∧
  (∃ (d : Dev) (link : Fin 2), d.deny (.bar2 link) true Reg.MC_MAINT_CTL_CMD.off 4 = none ∧ d.getB Reg.MC_MAINT_CTL_BUSY =
      false) ∧
  (∃ (d : Dev) (link : Fin 2), d.deny (.bar2 link) true Reg.MC_MAINT_CTL_CMD.off 4 = none ∧ (d.getB Reg.MC_MAINT_CTL_BUSY =
      false ∧ FMap.canon (fun _ => none) (d.mc.ways.map fun y => (y.1, some y.2)) = true)) ∧
  (∃ (d : Dev) (link : Fin 2), d.deny (.bar2 link) true Reg.MC_MAINT_CTL_CMD.off 4 = none ∧ d.getB Reg.MC_MAINT_CTL_BUSY =
      false ∧ d.get Reg.MC_MAINT_ARG_COUNT = 0) ∧
  (∃ (d : Dev) (link : Fin 2), d.deny (.bar2 link) true Reg.MC_MAINT_CTL_CMD.off 4 = none ∧ d.getB Reg.MC_MAINT_CTL_BUSY =
      true) ∧
  (∃ (d : Dev) (k : Nat), d.mc.op = some (k, [])) ∧
  (∃ (d : Dev) (line : Nat) (half : Fin 2) (f : McFill), (d.mc.fills = [f] ∧ f.line = line ∧ f.half = half.val ∧ d.mc.at
      (mcSet line) f.way = none) ∧ (d.mem.poison = [] ∧ d.get Reg.MEM_STS_CH_FAIL = 0 ∧ d.mc.op = none)) ∧
  (∃ (d : Dev) (addr : Nat) (w : Nat) (x : Way), (d.mc.hit (addr / 256) = some (w, x) ∧ bit x.valid (addr / 64 % 4) = true)
      ∧ d.mc.fills = []) ∧
  (∃ (d : Dev) (addr : Nat) (cls : Nat) (line : Nat) (w : Nat), (d.mc.hit (addr / 256) = none ∧ d.mc.fills = [] ∧
      d.mc.victims = [] ∧ line ≠ addr / 256) ∧ mcVictim (mcSet (addr / 256)) cls d = some (w, d) ∧ d.mc.at (mcSet (addr /
      256)) w = none) ∧
  (∃ (c : Clock) (d : Dev), d.get Reg.MC_CFG_SCRUB_MIN * tickMin ≤ d.devSpan c gSCRUB * 12288) ∧
  (∃ (c : Clock) (d : Dev) (r : McErr), d.get Reg.MC_CFG_SCRUB_MIN * tickMin ≤ d.devSpan c gSCRUB * 12288 ∧ (r.set =
      d.mc.scrub ∧ r.uncorr = false)) ∧
  (∃ (d : Dev) (link : Fin 2), d.deny (.bar2 link) true Reg.MC_STS_CLR.off 4 = none) :=
  ⟨⟨{ memDev with mc :=
                    { ways := [(3, { tag := 2, valid := 15, dirty := 3, age := 1, cls := 0 }), (5,
                        { tag := 9, valid := 1, age := 0, cls := 1 })] } }, 0, 3,
      { tag := 2, valid := 15, dirty := 3, age := 1, cls := 0 }, by decide +kernel⟩,
   ⟨{ memDev with mc :=
                    { ways := [(3, { tag := 2, valid := 15, dirty := 3, age := 1, cls := 0 }), (5,
                        { tag := 9, valid := 1, age := 0, cls := 1 })] } }, 0, by decide +kernel⟩,
   ⟨{ memDev with mc :=
                    { ways := [(3, { tag := 2, valid := 15, dirty := 3, age := 1, cls := 0 }), (5,
                        { tag := 9, valid := 1, age := 0, cls := 1 })] } }, 0, by decide +kernel⟩,
   ⟨memDev.set Reg.MC_MAINT_ARG_COUNT 0, 0, by decide +kernel⟩,
   ⟨memDev.set Reg.MC_MAINT_CTL_BUSY 1, 0, by decide +kernel⟩,
   ⟨{ memDev with mc := { op := some (1, []) } }, 1, by decide +kernel⟩,
   ⟨{ memDev with mc := { fills := [{ line := 5, half := 1, cls := 2, way := 3, stream := false }] } }, 5, 1,
      { line := 5, half := 1, cls := 2, way := 3, stream := false }, by decide +kernel⟩,
   ⟨{ memDev with mc := { ways := [(16 * 5 + 3, { tag := 0, valid := 15, age := 2, cls := 2 })] } }, 0x540, 3,
      { tag := 0, valid := 15, age := 2, cls := 2 }, by decide +kernel⟩,
   ⟨memDev.set (Reg.MC_WAYMASK_MASK 0) 1, 0x540, 0, 9, 0, by decide +kernel⟩,
   ⟨{ tick := 10 ^ 13 }, memDev, by decide +kernel⟩,
   ⟨{ tick := 10 ^ 13 }, memDev, { set := 0, way := 1, sector := 2, word := 3, tag := false, uncorr := false },
      by decide +kernel⟩,
   ⟨memDev, 0, by decide +kernel⟩⟩

/-- States and operands that meet the hypotheses of PowerStates. -/
theorem test_witness_PowerStates :
  (∃ (c : Clock) (d : Dev), (d.pwr.mode = .run ∧ d.pwr.entry = 0 ∧ d.quiet = true ∧ d.get Reg.PWR_STATE_CTL_IDLE_US *
      tickUs ≤ d.devSpan c gIDLE)) ∧
  (∃ (d : Dev), d.pwr.mode = .idle) ∧
  (∃ (d : Dev) (cid : Nat) (ps : Fin 5) (k : Ctrl), (d.ctrl cid = some k ∧ d.apst = true ∧ k.enabled = true ∧ bit (FMap.get
      Config.featDefault k.feats 0x0C) 0 = true) ∧ (3 ≤ ps.val ∧ ps.val ≤ d.psMax ∧ k.ps < ps.val) ∧ (d.host.ctxs.all fun x
      => x.cid != cid || x.cmd.op == .asyncEvent) = true) ∧
  (∃ (d : Dev), (d.pwr.mode = .run ∧ d.pwr.entry = 0 ∧ d.psTarget = some 2 ∧ d.entryHeld = false ∧ d.sleepDrained = true) ∧
      d.tst.visits = []) ∧
  (∃ (d : Dev), (d.pwr.mode = .run ∧ d.pwr.entry = 0 ∧ d.psTarget = some 2 ∧ d.entryHeld = false ∧ d.sleepDrained = false)) ∧
  (∃ (d : Dev), d.entryHeld = true) ∧
  (∃ (d : Dev) (w : WakeCause), (w ≠ .clamp ∧ w ≠ .tamper) ∧ (d.pwr.mode = .sleep ∧ d.pwr.entry = 0 ∧ d.mstate = mSELFREF)) ∧
  (∃ (w : WakeCause), (w = .clamp ∨ w = .tamper)) ∧
  (∃ (d : Dev), (d.pwr.mode = .run ∧ d.psTarget = some 3 ∧ d.entryHeld = false ∧ d.pwr.entry = 0)) ∧
  (∃ (d : Dev), d.entryHeld = true) ∧
  (∃ (d : Dev), (d.pwr.entry = 3 ∧ d.pwr.step = 5 ∧ d.tst.visits = [])) ∧
  (∃ (d : Dev), ((d.pwr.entry = 3 ∨ d.pwr.entry = 7) ∧ d.pwr.step = 1 ∧ d.allCommitted = true)) ∧
  (∃ (d : Dev), ((d.pwr.entry = 3 ∨ d.pwr.entry = 7) ∧ d.pwr.step = 2 ∧ d.deckBusy = true ∧ d.mstate = mRUN)) ∧
  (∃ (d : Dev) (w : WakeCause), (d.pwr.mode = .deep ∧ d.pwr.entry = 0 ∧ w ≠ .clamp ∧ d.mstate = mSELFREF) ∧ (d.flt.aon = []
      ∧ d.flt.aonLost = 0)) ∧
  (∃ (d : Dev) (w : WakeCause), (d.pwr.entry = 3 ∧ d.pwr.step < 4 ∧ w ≠ .clamp ∧ d.mstate = mRUN)) ∧
  (∃ (d : Dev) (link : Fin 2), d.deny (.bar2 link) true Reg.PWR_STATE_CTL_REQ_OFF.off 4 = none ∧ (d.linked = false ∧
      d.deckBusy = false ∧ d.pwr.mode = .run ∧ d.pwr.entry = 0 ∧ d.entryHeld = false)) ∧
  (∃ (d : Dev) (link : Fin 2), d.deny (.bar2 link) true Reg.PWR_STATE_CTL_REQ_OFF.off 4 = none ∧ (d.linked = false ∧
      d.deckBusy = false ∧ d.pwr.mode = .run ∧ d.pwr.entry = 0 ∧ d.entryHeld = true)) ∧
  (∃ (d : Dev), ((d.pwr.entry = 3 ∨ d.pwr.entry = 7) ∧ d.pwr.step = 0 ∧ d.entryHeld = false)) ∧
  (∃ (d : Dev) (link : Fin 2), d.deny (.bar2 link) true Reg.PWR_STATE_CTL_REQ_OFF.off 4 = none ∧ d.linked = true) ∧
  (∃ (d : Dev), (d.pwr.mode = .sleep ∨ d.pwr.mode = .deep)) ∧
  (∃ (d : Dev), d.pwr.mode = .off) :=
  ⟨⟨{ tick := 10 ^ 9 }, runDev, by decide +kernel⟩,
   ⟨{ runDev with pwr := { mode := .idle } }, by decide +kernel⟩,
   ⟨{ runDev with plait := some { openPlait with psMax := 4, apst := true }, ctrls := [{ boss with feats := [(0x0C, 1)] }]
                    }, 1, 3, { boss with feats := [(0x0C, 1)] }, by decide +kernel⟩,
   ⟨{ memDev with ctrls := [{ boss with ps := 3 }] }, by decide +kernel⟩,
   ⟨{ memDev with ctrls := [{ boss with ps := 3 }], host := { memDev.host with ctxs := [busyCtx { op := .read }] } },
      by decide +kernel⟩,
   ⟨{ memDev with ctrls := [{ boss with ps := 3 }], host :=
                    { memDev.host with act := some { stamp := 1, start := 0, step := 1 } } }, by decide +kernel⟩,
   ⟨{ memDev.sets [(Reg.MEM_STS_STATE, 3), (Reg.PWR_STATE_STS_STATE, 2)] with pwr := { mode := .sleep } }, .command,
      by decide +kernel⟩,
   ⟨.clamp, by decide +kernel⟩,
   ⟨{ memDev with ctrls := [{ boss with ps := 4 }] }, by decide +kernel⟩,
   ⟨{ memDev with ctrls := [{ boss with ps := 4 }], host :=
                    { memDev.host with act := some { stamp := 1, start := 0, step := 1 } } }, by decide +kernel⟩,
   ⟨{ memDev with pwr := { mode := .run, entry := 3, step := 5 } }, by decide +kernel⟩,
   ⟨{ memDev with pwr := { mode := .run, entry := 3, step := 1 } }, by decide +kernel⟩,
   ⟨{ memDev.sets [(Reg.SEQ_CTL_REL_SPN 1, 1), (Reg.SPN_STS_STATE 1, 6)] with pwr :=
                                                                                { mode := .run, entry := 3, step := 2 } },
      by decide +kernel⟩,
   ⟨{ memDev.sets [(Reg.MEM_STS_STATE, 3), (Reg.PWR_STATE_STS_STATE, 3)] with pwr := { mode := .deep } }, .command,
      by decide +kernel⟩,
   ⟨{ memDev with pwr := { mode := .run, entry := 3, step := 2 } }, .command, by decide +kernel⟩,
   ⟨memDev, 0, by decide +kernel⟩,
   ⟨{ memDev with host := { memDev.host with act := some { stamp := 1, start := 0, step := 1 } } }, 0, by decide +kernel⟩,
   ⟨{ memDev with pwr := { mode := .run, entry := 7, step := 0 } }, by decide +kernel⟩,
   ⟨{ memDev with ctrls := [boss, { id := 4096, kind := 2, ready := true }] }, 0, by decide +kernel⟩,
   ⟨{ memDev with pwr := { mode := .deep } }, by decide +kernel⟩,
   ⟨{ memDev with pwr := { mode := .off } }, by decide +kernel⟩⟩

/-- States and operands that meet the hypotheses of OperatingPointsAndHeat. -/
theorem test_witness_OperatingPointsAndHeat :
  (∃ (d : Dev) (link : Fin 2), d.deny (.bar2 link) true Reg.PWR_PAD_REL_REL.off 4 = none) ∧
  (∃ (d : Dev) (link : Fin 2) (j : Fin 7) (v : Word), d.deny (.bar2 link) true ((Reg.PWR_DVFS_CTL_F_OPP j).off) 4 = none ∧
      (bits v.toNat 2 2 < bits v.toNat 0 2 ∨ (bits v.toNat 2 2 ≠ d.get (Reg.PWR_DVFS_CTL_F_OPP j) ∧ bits v.toNat 0 2 ≠
      d.get (Reg.PWR_DVFS_CTL_V_OPP j)))) ∧
  (∃ (d : Dev) (link : Fin 2) (j : Fin 7) (v : Word), d.deny (.bar2 link) true ((Reg.PWR_DVFS_CTL_F_OPP j).off) 4 = none ∧
      (d.getB (Reg.PWR_DVFS_CTL_BUSY j) = false ∧ bits v.toNat 0 2 = d.get (Reg.PWR_DVFS_CTL_V_OPP j) ∧ bits v.toNat 0 2 ≤
      bits v.toNat 2 2) ∧ v.toNat < 16) ∧
  (∃ (d : Dev) (j : Fin 7), (d.oppF j < 4 ∧ d.oppV j < 4)) ∧
  (∃ (d : Dev) (link : Fin 2) (i : Fin 5), d.deny (.bar2 link) true ((Reg.PWR_THERM_CLR i).off) 4 = none) ∧
  (∃ (d : Dev) (i : Fin 5) (tj : Int), (105 ≤ tj ∧ tj < 120 ∧ d.getB (Reg.PWR_THERM_THROT i) = false ∧ d.inDeep = false)) ∧
  (∃ (c : Clock) (d : Dev) (pin : Nat) (vin : Nat) (n : Nat), 5 * tickMs ≤ d.devSpan c gGOV ∧ (pin < 2 ^
      Reg.PWR_GOV_STS_P_IN.w ∧ vin < 2 ^ Reg.PWR_VIN_STS_VIN.w ∧ d.pwr.wait = false ∧ d.pwr.heat = false) ∧ (∀ i : Fin 5,
      d.getB (Reg.PWR_THERM_THROT i) = false) ∧ ((min (min 125000 (d.psLow.elim 125000 psCap)) (vin * d.get
      Reg.PWR_GOV_CFG_VIN_ILIM) : Nat) : Int) - 500 * d.get Reg.PWR_GOV_CFG_MARGIN < 50 * pin ∧ holdNext d (fun _ => true)
      = some n) ∧
  (∃ (c : Clock) (d : Dev) (pin : Nat) (vin : Nat), 5 * tickMs ≤ d.devSpan c gGOV ∧ (pin < 2 ^ Reg.PWR_GOV_STS_P_IN.w ∧ vin
      < 2 ^ Reg.PWR_VIN_STS_VIN.w ∧ d.pwr.wait = false ∧ d.pwr.heat = false ∧ d.pwr.low < 3) ∧ (∀ i : Fin 5, d.getB
      (Reg.PWR_THERM_THROT i) = false) ∧ 50 * (pin : Int) ≤ ((min (min 125000 (d.psLow.elim 125000 psCap)) (vin * d.get
      Reg.PWR_GOV_CFG_VIN_ILIM) : Nat) : Int) - 500 * d.get Reg.PWR_GOV_CFG_MARGIN) ∧
  (∃ (d : Dev) (tj : Int), (120 ≤ tj ∧ tj < 128 ∧ d.pwr.mode = .run ∧ d.tst.visits = [])) ∧
  (∃ (tj : List Int), (tj.all fun t => decide (t < 95)) = false) ∧
  (∃ (d : Dev) (tj : List Int), (d.pwr.mode = .hot ∧ (tj.all fun t => decide (t < 95)) = true ∧ d.pwr.shutDie ≠ none)) :=
  ⟨⟨memDev, 0, by decide +kernel⟩,
   ⟨memDev, 0, 3, 1, by decide +kernel⟩,
   ⟨memDev, 0, 3, 4, by decide +kernel⟩,
   ⟨memDev, 3, by decide +kernel⟩,
   ⟨memDev, 0, 2, by decide +kernel⟩,
   ⟨memDev, 2, 106, by decide +kernel⟩,
   ⟨{ tick := 10 ^ 9 }, memDev.set (Reg.LANE_STATE_STBY 1 3) 0, 2500, 2400, 1, by decide +kernel⟩,
   ⟨{ tick := 10 ^ 9 }, memDev, 100, 2400, by decide +kernel⟩,
   ⟨memDev, 121, by decide +kernel⟩,
   ⟨[96], by decide +kernel⟩,
   ⟨{ memDev.set Reg.PWR_STATE_STS_THERM_SHUT 1 with pwr := { mode := .hot, shutDie := some (2, 121) } }, [90],
      by decide +kernel⟩⟩

/-- States and operands that meet the hypotheses of ResetAndBoot. -/
theorem test_witness_ResetAndBoot :
  (∃ (vin : Nat), vin < 410) ∧
  (∃ (vin : Nat), 410 ≤ vin) ∧
  (∃ (vin : Nat), 3200 ≤ vin) ∧
  (∃ (d : Dev) (vin : Nat), (d.pwr.mode = .overvolt ∧ vin < 3025)) ∧
  (∃ (d : Dev), d.pwr.mode = .reset) ∧
  (∃ (d : Dev), (d.pwr.mode = .boot ∧ d.get Reg.MGMT_BOOT_STS_STAGE = 8 ∧ d.get Reg.MGMT_BOOT_STS_FAIL = 4)) :=
  ⟨⟨409, by decide +kernel⟩,
   ⟨410, by decide +kernel⟩,
   ⟨3200, by decide +kernel⟩,
   ⟨{ secDev with pwr := { mode := .overvolt } }, 3024, by decide +kernel⟩,
   ⟨State.reset.dev, by decide +kernel⟩,
   ⟨{ runDev.sets [(Reg.MGMT_BOOT_STS_STAGE, 8), (Reg.MGMT_BOOT_STS_FAIL, 4)] with pwr := { mode := .boot } },
      by decide +kernel⟩⟩

/-- States and operands that meet the hypotheses of ManagementInterface. -/
theorem test_witness_ManagementInterface :
  (∃ (d : Dev), (d.pwr.mode = .run ∧ d.pwr.entry = 0 ∧ d.domOn 2 = true)) ∧
  (∃ (d : Dev), (d.pwr.mode = .run ∧ d.pwr.entry = 0 ∧ d.domOn 2 = true)) ∧
  (∃ (d : Dev), (d.pwr.mode = .run ∧ d.pwr.entry = 0 ∧ d.domOn 2 = true)) ∧
  (∃ (d : Dev) (pcie : Bool), (d.pwr.mode = .run ∧ d.pwr.entry = 0 ∧ d.domOn 2 = true ∧ d.mctpSession pcie = true)) ∧
  (∃ (d : Dev) (pcie : Bool), (d.pwr.mode = .run ∧ d.pwr.entry = 0 ∧ d.domOn 2 = true ∧ d.mctpSession pcie = true)) ∧
  (∃ (d : Dev) (pcie : Bool), (d.pwr.mode = .run ∧ d.pwr.entry = 0 ∧ d.domOn 2 = true ∧ d.mctpSession pcie = true) ∧
      (d.host.ctxs = [] ∧ (d.ctrls.map fun y => y.id).Nodup)) ∧
  (∃ (d : Dev) (pcie : Bool), (d.pwr.mode = .run ∧ d.pwr.entry = 0 ∧ d.mctpSession pcie = false)) ∧
  (∃ (d : Dev) (pcie : Bool), (d.pwr.mode = .run ∧ d.pwr.entry = 0 ∧ d.mctpSession pcie = false)) ∧
  (∃ (d : Dev) (pcie : Bool), (d.pwr.mode = .run ∧ d.pwr.entry = 0 ∧ d.mctpSession pcie = false)) ∧
  (∃ (d : Dev) (stamp : Nat) (x : Ctx) (k : Ctrl), d.running stamp .miSend = some x ∧ (x.mute = false ∧ x.posted = false) ∧
      d.ctrl x.cid = some k) ∧
  (∃ (d : Dev) (stamp : Nat) (x : Ctx) (k : Ctrl), d.running stamp .miReceive = some x ∧ (x.mute = false ∧ x.posted =
      false) ∧ d.ctrl x.cid = some k) :=
  ⟨⟨runDev, by decide +kernel⟩,
   ⟨{ runDev with flt := { runDev.flt with ring := [{ seq := 1, tick := 0, handle := 0, cls := 3, code := 1, sev := 2 }] }
                    }, by decide +kernel⟩,
   ⟨runDev, by decide +kernel⟩,
   ⟨mctpDev, true, by decide +kernel⟩,
   ⟨{ mctpDev with host := { mctpDev.host with miCfg := [(3, 7)] } }, true, by decide +kernel⟩,
   ⟨mctpDev, true, by decide +kernel⟩,
   ⟨runDev, true, by decide +kernel⟩,
   ⟨runDev, true, by decide +kernel⟩,
   ⟨runDev, true, by decide +kernel⟩,
   ⟨busyDev { op := .miSend }, 1, busyCtx { op := .miSend }, boss, by decide +kernel⟩,
   ⟨busyDev { op := .miReceive }, 1, busyCtx { op := .miReceive }, boss, by decide +kernel⟩⟩

/-- States and operands that meet the hypotheses of SelfTestVisits. -/
theorem test_witness_SelfTestVisits :
  (∃ (c : Clock) (d : Dev) (u : Fin 16384), dueTick d u.val false ≤ c.tick ∧ (tstKind u.val = 5 ∧ (d.tunit u.val).state ≠
      3) ∧ (d.tst.queue = [] ∧ (∀ v ∈ d.tst.visits, v.unit ≠ u.val ∧ v.step ≠ 4)) ∧ (d.get Reg.TST_CFG_ENG_EN = 1 ∧ d.domOn
      9 = true ∧ d.get (Reg.CMP_ENG_STS_STATE (u.val - 1192)) = 0 ∧ cmpTests d < 2)) ∧
  (∃ (c : Clock) (d : Dev) (u : Fin 16384) (cal : Bool) (n : Nat) (k : Nat) (s : Nat), dueTick d u.val cal ≤ c.tick ∧
      (tstKind u.val = 1 ∧ n = unitDeck u.val ∧ k = unitLane u.val ∧ (d.tunit u.val).state ≠ 3) ∧ (d.tst.queue = [] ∧ (∀ v
      ∈ d.tst.visits, v.unit ≠ u.val ∧ v.step ≠ 4 ∧ ¬ (tstKind v.unit = 1 ∧ unitDeck v.unit = n))) ∧ (d.get
      Reg.TST_CFG_LANE_EN = 1 ∧ d.get (Reg.TST_DECK_CFG_EN n) = 1 ∧ d.domOn (12 + 3 * (n / 8)) = true) ∧ (d.lstate n k =
      lACTIVE ∧ allStandby d n = false ∧ d.get (Reg.LANE_STATE_STBY n k) = 0 ∧ tstSpare d n = some s)) ∧
  (∃ (c : Clock) (d : Dev) (u : Fin 16384) (cal : Bool), (dueTick d u.val cal ≤ c.tick ∧ (∀ w ∈ d.tst.queue, w.cmd = true ∨
      w.due ≤ dueTick d u.val cal)) ∧ (tstKind u.val ≠ 0 ∧ (cal = true → tstKind u.val ≤ 2) ∧ (d.tunit u.val).state ≠ 3) ∧
      ((∀ v ∈ d.tst.visits, v.unit ≠ u.val ∧ v.step ≠ 4) ∧ (∀ v ∈ d.tst.queue, v.unit ≠ u.val)) ∧ (d.get
      Reg.TST_CFG_LANE_EN = 0 ∧ d.get Reg.TST_CFG_ENG_EN = 0)) ∧
  (∃ (d : Dev) (link : Fin 2) (u : Fin 16384), d.deny (.bar2 link.val) true Reg.TST_CMD_OP.off 4 = none ∧ (d.get
      Reg.TST_CMD_BUSY = 0 ∧ tstKind u.val = 5 ∧ (d.tunit u.val).state ≠ 3) ∧ (d.tst.queue = [] ∧ (∀ v ∈ d.tst.visits,
      v.unit ≠ u.val ∧ v.step ≠ 4)) ∧ (d.get Reg.TST_CFG_ENG_EN = 1 ∧ d.domOn 9 = true ∧ d.get (Reg.CMP_ENG_STS_STATE
      (u.val - 1192)) = 0 ∧ cmpTests d < 2)) ∧
  (∃ (d : Dev) (link : Fin 2) (u : Fin 16384), d.deny (.bar2 link.val) true Reg.TST_CMD_OP.off 4 = none ∧ (d.get
      Reg.TST_CMD_BUSY = 1 ∨ tstKind u.val = 0 ∨ (d.tunit u.val).state = 3)) ∧
  (∃ (d : Dev) (link : Fin 2) (u : Fin 16384) (n : Nat) (s : Nat), d.deny (.bar2 link.val) true Reg.TST_CMD_OP.off 4 = none
      ∧ (d.get Reg.TST_CMD_BUSY = 0 ∧ tstKind u.val = 2 ∧ (d.tunit u.val).state ≠ 3 ∧ n = unitDeck u.val ∧ s + 64 =
      unitLane u.val) ∧ (d.tst.queue = [] ∧ (∀ v ∈ d.tst.visits, v.unit ≠ u.val ∧ v.step ≠ 4)) ∧ (d.get Reg.TST_CFG_LANE_EN
      = 1 ∧ d.domOn (12 + 3 * (n / 8)) = true ∧ d.lstate n (64 + s) = lSPARE) ∧ (d.get (Reg.LANE_SPARE_CTL_BUSY n s) = 0 ∧
      d.get (Reg.LANE_SPARE_CTL_TST_OWN n s) = 0)) ∧
  (∃ (d : Dev) (link : Fin 2) (u : Fin 16384), d.deny (.bar2 link.val) true Reg.TST_CMD_OP.off 4 = none ∧ 2 < tstKind u.val) ∧
  (∃ (d : Dev) (u : Fin 16384) (sig : BitVec 64) (v : Visit), (d.tst.visits = [v] ∧ v.unit = u.val ∧ v.step = 5 ∧ v.cal =
      false ∧ v.second = false ∧ tstKind u.val = 1) ∧ (sig = Config.expectSig 1 (d.tunit u.val).slice ∧ (d.tunit
      u.val).again = false ∧ (d.tunit u.val).slice < 15)) ∧
  (∃ (d : Dev) (u : Fin 16384) (sig : BitVec 64) (v : Visit), (d.tst.visits = [v] ∧ v.unit = u.val ∧ v.step = 5 ∧ v.cal =
      false ∧ v.second = false ∧ tstKind u.val = 1) ∧ (sig = Config.expectSig 1 (d.tunit u.val).slice ∧ (d.tunit
      u.val).again = true ∧ (d.tunit u.val).slice < 15) ∧ d.inDeep = false) ∧
  (∃ (d : Dev) (u : Fin 16384) (sig : BitVec 64) (v : Visit), (d.tst.visits = [v] ∧ v.unit = u.val ∧ v.step = 5 ∧ v.cal =
      false ∧ v.second = false ∧ tstKind u.val ≠ 0) ∧ (sig ≠ Config.expectSig (tstKind u.val) (d.tunit u.val).slice ∧
      (d.tunit u.val).again = false)) ∧
  (∃ (d : Dev) (u : Fin 16384) (sig : BitVec 64) (v : Visit), (d.tst.visits = [v] ∧ v.unit = u.val ∧ v.step = 5 ∧ v.cal =
      false ∧ v.second = false ∧ v.cmd = true ∧ tstKind u.val = 5 ∧ d.tst.queue = []) ∧ (sig ≠ Config.expectSig 5 (d.tunit
      u.val).slice ∧ (d.tunit u.val).again = true ∧ d.get Reg.TST_CFG_FUSE_AUTO = 0) ∧ d.inDeep = false) ∧
  (∃ (d : Dev) (u : Fin 16384) (sig : BitVec 64) (v : Visit), (d.tst.visits = [v] ∧ v.unit = u.val ∧ v.step = 5 ∧ v.cal =
      false ∧ v.second = false ∧ v.cmd = true ∧ tstKind u.val = 5 ∧ d.tst.queue = []) ∧ (sig = Config.expectSig 5 11 ∧
      (d.tunit u.val).slice = 11 ∧ (d.tunit u.val).again = false ∧ (d.tunit u.val).state = 2)) ∧
  (∃ (d : Dev) (u : Fin 16384) (o : CalObs) (v : Visit) (n : Nat) (k : Nat), (d.tst.visits = [v] ∧ v.unit = u.val ∧ v.step
      = 5 ∧ v.cal = true ∧ v.spare < 2 ∧ tstKind u.val = 1 ∧ n = unitDeck u.val ∧ k = unitLane u.val) ∧ (inByte (ofsCor o)
      = true ∧ inByte (gainCor o) = true ∧ inByte o.skew = true)) ∧
  (∃ (d : Dev) (u : Fin 16384) (o : CalObs) (v : Visit) (n : Nat) (k : Nat), (d.tst.visits = [v] ∧ v.unit = u.val ∧ v.step
      = 5 ∧ v.cal = true ∧ tstKind u.val = 1 ∧ n = unitDeck u.val ∧ k = unitLane u.val ∧ v.spare < 2 ∧ d.tst.queue = []) ∧
      ((inByte (ofsCor o) && inByte (gainCor o) && inByte o.skew) = false ∧ d.get Reg.TST_CFG_FUSE_AUTO = 0) ∧ d.inDeep =
      false) :=
  ⟨⟨{}, runDev, 1193, by decide +kernel⟩,
   ⟨{}, runDev.sets [(Reg.LANE_STATE_STBY 1 2, 0), (Reg.LANE_STATE_LSTATE 1 2, 0), (Reg.LANE_LOOP_VAL_GAIN 1 2, 77),
      (Reg.TST_DECK_CFG_EN 1, 1)], 100, true, 1, 2, 0, by decide +kernel⟩,
   ⟨{}, runDev.sets [(Reg.TST_CFG_LANE_EN, 0), (Reg.TST_CFG_ENG_EN, 0)], 1193, false, by decide +kernel⟩,
   ⟨runDev, 0, 1193, by decide +kernel⟩,
   ⟨runDev, 0, 3, by decide +kernel⟩,
   ⟨runDev, 0, 162, 1, 0, by decide +kernel⟩,
   ⟨runDev, 0, 1193, by decide +kernel⟩,
   ⟨{ runDev with tst :=
                    { units := [(100, { state := 2, slice := 3 })], visits := [{ unit := 100, step := 5, spare := 0 }] } },
      100, Config.expectSig 1 3, { unit := 100, step := 5, spare := 0 }, ⟨by decide +kernel, ⟨rfl, by decide +kernel⟩⟩⟩,
   ⟨{ runDev with tst := { units := [(100, { state := 2, slice := 3, again := true, badSig := 9 })], visits := [{ unit :=
                                                                                                                    100, step := 5, spare := 0 }] } }, 100, Config.expectSig 1 3, { unit := 100, step := 5, spare := 0 }, ⟨by decide +kernel, ⟨rfl, by decide +kernel⟩, by decide +kernel⟩⟩,
   ⟨{ runDev with tst :=
                    { units := [(100, { state := 2, slice := 3 })], visits := [{ unit := 100, step := 5, spare := 0 }] } },
      100, Config.expectSig 1 3 + 1, { unit := 100, step := 5, spare := 0 }, ⟨by decide +kernel, ⟨sig_succ_ne _,
      by decide +kernel⟩⟩⟩,
   ⟨{ runDev.sets [(Reg.CMP_ENG_STS_STATE 1, 2), (Reg.TST_CMD_BUSY, 1)] with tst :=
                                                                               { units := [(1193,
                                                                                   { state := 2, slice := 3, again := true
                                                                                       })], visits := [{ unit := 1193, step
                                                                                                           := 5, cmd :=
                                                                                                           true }] } },
      1193, Config.expectSig 5 3 + 1, { unit := 1193, step := 5, cmd := true }, ⟨by decide +kernel, ⟨sig_succ_ne _,
      by decide +kernel⟩, by decide +kernel⟩⟩,
   ⟨{ runDev.sets [(Reg.CMP_ENG_STS_STATE 1, 2), (Reg.TST_CMD_BUSY, 1)] with tst :=
                                                                               { units := [(1193,
                                                                                   { state := 2, slice := 11 })], visits :=
                                                                                   [{ unit := 1193, step := 5, cmd := true
                                                                                        }] } }, 1193, Config.expectSig 5
      11, { unit := 1193, step := 5, cmd := true }, ⟨by decide +kernel, ⟨rfl, by decide +kernel⟩⟩⟩,
   ⟨{ runDev.sets [(Reg.LANE_STATE_LSTATE 1 2, lTEST), (Reg.LANE_STATE_LSTATE 1 64, 0)] with tst :=
                                                                                               { units := [(100, { state :=
                                                                                                                     2 })], visits := [{ unit := 100, step := 5, spare := 0, cal := true }] } }, 100, { sum := 5000, diff := 736, skew := -3 }, { unit := 100, step := 5, spare := 0, cal := true }, 1, 2, by decide +kernel⟩,
   ⟨{ runDev.sets [(Reg.LANE_STATE_LSTATE 1 2, lTEST), (Reg.LANE_STATE_LSTATE 1 64, 0)] with tst :=
                                                                                               { units := [(100, { state :=
                                                                                                                     2 })], visits := [{ unit := 100, step := 5, spare := 0, cal := true }] } }, 100, { sum := 0, diff := 768, skew := 200 }, { unit := 100, step := 5, spare := 0, cal := true }, 1, 2, by decide +kernel⟩⟩

/-- States and operands that meet the hypotheses of ComparesAndFuses. -/
theorem test_witness_ComparesAndFuses :
  (∃ (d : Dev) (u : Fin 16384) (dis : Nat) (cnt : Nat) (revs : Nat) (v : Visit) (n : Nat), (d.tst.visits = [v] ∧ v.unit =
      u.val ∧ v.step = 1 ∧ tstKind u.val = 1 ∧ n = unitDeck u.val ∧ d.tbState n = tbLOCKED) ∧ (d.get
      (Reg.TST_DECK_CFG_SHADOW_REV n) ≤ revs ∧ 2 ^ 20 ≤ cnt ∧ dis * 2 ^ 20 ≤ d.get (Reg.TST_DECK_CFG_CMP_LIM n) * cnt) ∧
      (16 ≤ d.get (Reg.TST_DECK_CFG_TRIG n) ∧ d.get (Reg.ANG_TRIG_CFG_ARM n (d.get (Reg.TST_DECK_CFG_TRIG n))) = 1 ∧ d.get
      (Reg.ANG_TRIG_CFG_MODE n (d.get (Reg.TST_DECK_CFG_TRIG n))) ≠ 0)) ∧
  (∃ (d : Dev) (u : Fin 16384) (dis : Nat) (cnt : Nat) (revs : Nat) (v : Visit) (n : Nat), (d.tst.visits = [v] ∧ v.unit =
      u.val ∧ v.step = 1 ∧ v.force = false ∧ v.spare < 2 ∧ tstKind u.val = 1 ∧ n = unitDeck u.val ∧ d.tbState n = tbLOCKED)
      ∧ (d.get (Reg.TST_DECK_CFG_SHADOW_REV n) ≤ revs ∧ 2 ^ 20 ≤ cnt ∧ d.get (Reg.TST_DECK_CFG_CMP_LIM n) * cnt < dis * 2 ^
      20) ∧ d.lstate n (64 + v.spare) ≠ lRETIRED ∧ d.inDeep = false) ∧
  (∃ (cnt : Nat) (revs : Nat), (cnt < 2 ^ 20 ∧ revs < 16)) ∧
  (∃ (d : Dev) (u : Fin 16384) (cnt : Nat) (revs : Nat) (v : Visit) (n : Nat), (d.tst.visits = [v] ∧ v.unit = u.val ∧
      v.step = 8 ∧ tstKind u.val = 1 ∧ n = unitDeck u.val ∧ d.tbState n = tbLOCKED) ∧ (16 ≤ revs ∧ cnt < 2 ^ 20)) ∧
  (∃ (d : Dev) (n : Fin 16) (v : Visit), (d.tst.visits = [v] ∧ v.unit = 1228 + n.val ∧ v.step = 1)) ∧
  (∃ (d : Dev) (n : Fin 16) (v : Visit), (d.tst.visits = [v] ∧ v.unit = 1228 + n.val ∧ v.step = 8 ∧ v.cmd = false ∧
      d.tst.queue = [] ∧ (d.tunit (1228 + n.val)).state = 1)) ∧
  (∃ (d : Dev) (n : Fin 16) (bad : Nat) (v : Visit), (bad ≠ 0 ∧ d.tst.visits = [v] ∧ v.unit = 1228 + n.val ∧ v.step = 1 ∧
      v.force = false) ∧ d.inDeep = false) ∧
  (∃ (d : Dev) (link : Fin 2) (index : Fin 16384) (voids : Nat), d.deny (.bar2 link.val) true Reg.TST_FROW_CTL_BURN.off 4 =
      none ∧ (tstKind index.val ≠ 0 ∧ d.ledFull = false ∧ d.led.bad = false) ∧ (voids ≤ 2 ∧ d.tst.rows.length + voids <
      256)) ∧
  (∃ (d : Dev) (link : Fin 2) (index : Fin 16384) (voids : Nat), d.deny (.bar2 link.val) true Reg.TST_FROW_CTL_BURN.off 4 =
      none ∧ (tstKind index.val ≠ 0 ∧ d.ledFull = false ∧ d.led.bad = false) ∧ (3 ≤ voids ∧ d.tst.rows.length + 3 ≤ 256)) ∧
  (∃ (d : Dev) (link : Fin 2) (index : Fin 16384), d.deny (.bar2 link.val) true Reg.TST_FROW_CTL_BURN.off 4 = none ∧
      tstKind index.val = 0) :=
  ⟨⟨{ runDev.sets [(Reg.ANG_STS_STATE 1, 3), (Reg.TST_DECK_CFG_TRIG 1, 20), (Reg.TST_DECK_CFG_CMP_LIM 1, 1000), (Reg.ANG_TRIG_CFG_ARM 1 20, 1), (Reg.ANG_TRIG_CFG_MODE 1 20, 3)] with tst := { units := [(100, { state := 1 })], visits := [{ unit := 100, step := 1, spare := 0 }] } }, 100, 3, 1048576, 2, { unit := 100, step := 1, spare := 0 }, 1, by decide +kernel⟩,
   ⟨{ runDev.sets [(Reg.ANG_STS_STATE 1, 3), (Reg.TST_DECK_CFG_TRIG 1, 20), (Reg.LANE_STATE_LSTATE 1 64, lSHADOW)] with tst
                                                                                                                          := { units := [(100, { state := 1 })], visits := [{ unit := 100, step := 1, spare := 0 }] } }, 100, 300000, 1048576, 2, { unit := 100, step := 1, spare := 0 }, 1, by decide +kernel⟩,
   ⟨5, 9, by decide +kernel⟩,
   ⟨{ runDev.sets [(Reg.ANG_STS_STATE 1, 3)] with tst := { units := [(100, { state := 1 })], visits := [{ unit := 100, step
                                                                                                            := 8, spare :=
                                                                                                            0 }] } }, 100,
      5, 16, { unit := 100, step := 8, spare := 0 }, 1, by decide +kernel⟩,
   ⟨{ runDev with tst := { visits := [{ unit := 1229, step := 1, spare := 0 }] } }, 1,
      { unit := 1229, step := 1, spare := 0 }, by decide +kernel⟩,
   ⟨{ runDev.set (Reg.LOOP_ENG_STS_SPARE_ENG 1) 1 with tst := { units := [(1229, { state := 1 })], visits := [{ unit :=
                                                                                                                  1229, step := 8, spare := 0 }] } }, 1, { unit := 1229, step := 8, spare := 0 }, by decide +kernel⟩,
   ⟨{ runDev with tst := { visits := [{ unit := 1229, step := 1, spare := 0 }] } }, 1, 4,
      { unit := 1229, step := 1, spare := 0 }, by decide +kernel⟩,
   ⟨{ runDev with tst := { rows := [7] } }, 0, 1193, 1, by decide +kernel⟩,
   ⟨{ runDev with tst := { rows := [7] } }, 0, 1193, 4, by decide +kernel⟩,
   ⟨runDev, 0, 4, by decide +kernel⟩⟩

namespace Sys2Proof

/-! ### Ill-formed commands: for each check of Instr.wf, an operand it refuses, whatever the others -/

/-- What training finds with seven channels, and with seventeen serial numbers. -/
def tob : TrainObs :=
  { dimmLog2 := 0, dpc := 0, ranks := 0, width := 0, rowBits := 0, colBits := 0, mts := 0,
    alike := true, serials := [], chans := List.replicate 7 (true, []) }
def tob2 : TrainObs := { tob with chans := List.replicate 8 (true, []), serials := List.replicate 17 0 }

theorem test_wf_refuses_1 :
    (∀ a b d e, (Instr.regWrite a b 0 d e).wf = false) ∧
    (∀ a b d e f g h, (Instr.plaitLoad a b [1] d e f g h).wf = false) ∧
    (∀ a peer d e f g, (Instr.seamPortBringup a (16) peer d e f g).wf = false) ∧
    (∀ a locked d e f g, (Instr.seamPortBringup a locked (some { dev := 2 ^ 18, port := 0, sheaf := 0 }) d e f g).wf = false) ∧
    (∀ b, (Instr.seamMemberUnreachable (2 ^ 18) b).wf = false) ∧
    (∀ a b timing d e f ys, (Instr.laneLoopBlock a b timing d e f ys (List.replicate 33 ⟨[], [], []⟩)).wf = false) ∧
    (∀ a b timing d e f eq, (Instr.laneLoopBlock a b timing d e f [32] eq).wf = false) ∧
    (∀ a b c d, (Instr.winnowWindow a b c d []).wf = false) ∧
    (∀ a b c d, (Instr.winnowWindow a b c d [-33]).wf = false) ∧
    (∀ a b d passes f g h, (Instr.syncWindow a b (512) d passes f g h).wf = false) := by
  refine ⟨?_, ?_, ?_, ?_, ?_, ?_, ?_, ?_, ?_, ?_⟩ <;> intros <;>
    simp [Instr.wf]

theorem test_wf_refuses_2 :
    (∀ a b slot d f g h, (Instr.syncWindow a b slot d (16) f g h).wf = false) ∧
    (∀ a c, (Instr.resyncWindow a { beam := 0, slot := 512 } c).wf = false) ∧
    (∀ a c, (Instr.resyncWindow a { beam := 64, slot := 0 } c).wf = false) ∧
    (∀ a c d, (Instr.ldpcFirstPassDone a (512) c d).wf = false) ∧
    (∀ a c d, (Instr.turboPassDone a (512) c d).wf = false) ∧
    (∀ a, (Instr.darnDispatch a (512)).wf = false) ∧
    (∀ a c d eng, (Instr.darnDone a (512) c d eng).wf = false) ∧
    (∀ a slot c d, (Instr.darnDone a slot c d (4)).wf = false) ∧
    (∀ a, (Instr.gleanSetApply a 0).wf = false) ∧
    (∀ a swath pass e f, (Instr.writePassStart a (32) swath pass e f).wf = false) := by
  refine ⟨?_, ?_, ?_, ?_, ?_, ?_, ?_, ?_, ?_, ?_⟩ <;> intros <;>
    simp [Instr.wf]

theorem test_wf_refuses_3 :
    (∀ a layer pass e f, (Instr.writePassStart a layer (4096) pass e f).wf = false) ∧
    (∀ a layer swath e f, (Instr.writePassStart a layer swath (4) e f).wf = false) ∧
    (∀ a b v, (Instr.sectorVerifyDone a b (512) v).wf = false) ∧
    (∀ a b slot, (Instr.sectorVerifyDone a b slot { watched := [(64, {})] }).wf = false) ∧
    (∀ a pass, (Instr.writePassEnd a (4096) pass).wf = false) ∧
    (∀ a swath, (Instr.writePassEnd a swath (4)).wf = false) ∧
    (∀ a, (Instr.opcRun a 145).wf = false) ∧
    (∀ a c d, (Instr.laserTxFrame a (256) c d).wf = false) ∧
    (∀ a c, (Instr.laserRxFrame a [1024] c).wf = false) ∧
    (∀ a p, (Instr.cap a (256) p).wf = false) := by
  refine ⟨?_, ?_, ?_, ?_, ?_, ?_, ?_, ?_, ?_, ?_⟩ <;> intros <;>
    simp [Instr.wf]

theorem test_wf_refuses_4 :
    (∀ a tag, (Instr.cap a tag (List.replicate 105 0)).wf = false) ∧
    (∀ a p, (Instr.tableData a (256) p).wf = false) ∧
    (∀ a tag, (Instr.tableData a tag (List.replicate 105 0)).wf = false) ∧
    (∀ a result d, (Instr.ack a (256) result d).wf = false) ∧
    (∀ a tag d, (Instr.ack a tag (256) d).wf = false) ∧
    (∀ a code, (Instr.fault a (2 ^ 16) code).wf = false) ∧
    (∀ a mask, (Instr.fault a mask (256)).wf = false) ∧
    (∀ a c, (Instr.loopSubsample a (64) c).wf = false) ∧
    (∀ a, (Instr.spindleOc a []).wf = false) ∧
    (∀ a b c e, (Instr.spindleListenEnd a b c (360) e).wf = false) := by
  refine ⟨?_, ?_, ?_, ?_, ?_, ?_, ?_, ?_, ?_, ?_⟩ <;> intros <;>
    simp [Instr.wf]

theorem test_wf_refuses_5 :
    (∀ a, (Instr.spindleProbeDone a []).wf = false) ∧
    ((Instr.vmUndervoltage (4096)).wf = false) ∧
    ((Instr.vmUvRecover (4096)).wf = false) ∧
    ((Instr.brkOn (4096)).wf = false) ∧
    ((Instr.brkOff (4096)).wf = false) ∧
    (∀ b, (Instr.brakeFault (4096) b).wf = false) ∧
    ((Instr.vmAbs (4096)).wf = false) ∧
    (∀ a, (Instr.layerIdentified a []).wf = false) ∧
    (∀ a, (Instr.layerIdentified a [4096]).wf = false) ∧
    (∀ a, (Instr.zoneChange a (4096)).wf = false) := by
  refine ⟨?_, ?_, ?_, ?_, ?_, ?_, ?_, ?_, ?_, ?_⟩ <;> intros <;>
    simp [Instr.wf]

theorem test_wf_refuses_6 :
    (∀ sq c, (Instr.commandFetch (65536 + 3) sq c).wf = false) ∧
    (∀ cid c, (Instr.commandFetch cid (65536) c).wf = false) ∧
    (∀ a slot pass, (Instr.indexUnitWrite a (32) slot pass).wf = false) ∧
    (∀ a swath pass, (Instr.indexUnitWrite a swath (118) pass).wf = false) ∧
    (∀ a swath slot, (Instr.indexUnitWrite a swath slot (4)).wf = false) ∧
    (∀ a size cq, (Instr.createIoSubmissionQueue a (65536) size cq).wf = false) ∧
    (∀ a qid cq, (Instr.createIoSubmissionQueue a qid (65536) cq).wf = false) ∧
    (∀ a qid size, (Instr.createIoSubmissionQueue a qid size (65536)).wf = false) ∧
    (∀ a, (Instr.deleteIoSubmissionQueue a (65536)).wf = false) ∧
    (∀ a size vec, (Instr.createIoCompletionQueue a (65536) size vec).wf = false) := by
  refine ⟨?_, ?_, ?_, ?_, ?_, ?_, ?_, ?_, ?_, ?_⟩ <;> intros <;>
    simp [Instr.wf]

theorem test_wf_refuses_7 :
    (∀ a qid vec, (Instr.createIoCompletionQueue a qid (65536) vec).wf = false) ∧
    (∀ a qid size, (Instr.createIoCompletionQueue a qid size (65536)).wf = false) ∧
    (∀ a, (Instr.deleteIoCompletionQueue a (65536)).wf = false) ∧
    (∀ a c d e f g, (Instr.getLogPage a (256) c d e f g).wf = false) ∧
    (∀ a c, (Instr.identify a (256) c).wf = false) ∧
    (∀ a c, (Instr.setFeatures a (256) c).wf = false) ∧
    (∀ a, (Instr.getFeatures a (256)).wf = false) ∧
    (∀ a action, (Instr.firmwareCommit a (8) action).wf = false) ∧
    (∀ a slot, (Instr.firmwareCommit a slot (8)).wf = false) ∧
    (∀ a c d, (Instr.nvmeMiSend a (256) c d).wf = false) := by
  refine ⟨?_, ?_, ?_, ?_, ?_, ?_, ?_, ?_, ?_, ?_⟩ <;> intros <;>
    simp [Instr.wf]

theorem test_wf_refuses_8 :
    (∀ a c, (Instr.nvmeMiReceive a (256) c).wf = false) ∧
    (∀ b c d e cid qid h i j, (Instr.fabricsConnect 0 b c d e cid qid h i j).wf = false) ∧
    (∀ transport b c d e qid h i j, (Instr.fabricsConnect transport b c d e (65536) qid h i j).wf = false) ∧
    (∀ transport b c d e cid h i j, (Instr.fabricsConnect transport b c d e cid (65536) h i j).wf = false) ∧
    (∀ a, (Instr.authenticationSend a (3)).wf = false) ∧
    (∀ a c, (Instr.zoneManagementSend a (256) c).wf = false) ∧
    (∀ a c, (Instr.zoneManagementReceive a (256) c).wf = false) ∧
    (∀ a b first last f, (Instr.survey a b (32) first last f).wf = false) ∧
    (∀ a b layer last f, (Instr.survey a b layer (4096) last f).wf = false) ∧
    (∀ a b layer first f, (Instr.survey a b layer first (4096) f).wf = false) := by
  refine ⟨?_, ?_, ?_, ?_, ?_, ?_, ?_, ?_, ?_, ?_⟩ <;> intros <;>
    simp [Instr.wf]

theorem test_wf_refuses_9 :
    (∀ a c, (Instr.compressJob a [] c).wf = false) ∧
    (∀ a c, (Instr.decompressJob a [] c).wf = false) ∧
    (∀ b c, (Instr.spdmMessage 0 b c).wf = false) ∧
    (∀ a b, (Instr.custSet a b (some [])).wf = false) ∧
    (∀ a b, (Instr.kekSet a b []).wf = false) ∧
    (∀ a c d, (Instr.pskSet a [] c d).wf = false) ∧
    (∀ b c d, (Instr.ptpMessage 0 b c d).wf = false) ∧
    ((Instr.dramTrainDone (tob)).wf = false) ∧
    ((Instr.dramTrainDone (tob2)).wf = false) ∧
    (∀ a, (Instr.recenter a []).wf = false) := by
  refine ⟨?_, ?_, ?_, ?_, ?_, ?_, ?_, ?_, ?_, ?_⟩ <;> intros <;>
    simp [Instr.wf, tob, tob2]

theorem test_wf_refuses_10 :
    (∀ a, (Instr.retirePage a (2 ^ 30)).wf = false) ∧
    (∀ a c d, (Instr.mcFillDone a (2 ^ 34) c d).wf = false) ∧
    ((Instr.mcScrubStep [{ set := 0, way := 16 }]).wf = false) ∧
    (∀ a b, (Instr.sleepExit a b []).wf = false) ∧
    (∀ a l d, (Instr.deepExit a (2 ^ 24) l d).wf = false) ∧
    (∀ a banks d, (Instr.deepExit a banks [] d).wf = false) ∧
    (∀ vin tj, (Instr.governorPeriod (8192) vin tj).wf = false) ∧
    (∀ pin tj, (Instr.governorPeriod pin (4096) tj).wf = false) ∧
    (∀ pin vin, (Instr.governorPeriod pin vin []).wf = false) ∧
    (∀ a, (Instr.thermalThrottle a 128).wf = false) := by
  refine ⟨?_, ?_, ?_, ?_, ?_, ?_, ?_, ?_, ?_, ?_⟩ <;> intros <;>
    simp [Instr.wf]

theorem test_wf_refuses_11 :
    (∀ a, (Instr.thermalShutdown a (-129)).wf = false) ∧
    (∀ b, (Instr.thermalRestart [] b).wf = false) ∧
    ((Instr.vinBrownout (4096)).wf = false) ∧
    ((Instr.vinOvervoltage (4096)).wf = false) ∧
    (∀ a c, (Instr.lockstepDone a 1025 c).wf = false) ∧
    (∀ a c d e f, (Instr.pwmPeriod a (4096) c d e f).wf = false) ∧
    (∀ a, (Instr.vmWindowCrossing a (4096)).wf = false) ∧
    (∀ b, (Instr.vinOvervoltageClear (4096) b).wf = false) ∧
    (∀ a, (Instr.controllerEnable a (256)).wf = false) ∧
    (∀ a, (Instr.v12RailChange a (256)).wf = false) := by
  refine ⟨?_, ?_, ?_, ?_, ?_, ?_, ?_, ?_, ?_, ?_⟩ <;> intros <;>
    simp [Instr.wf]

theorem test_wf_refuses_12 :
    (∀ a b d e f g, (Instr.laneLoopBlock a b true d e f [5] g).wf = false) ∧
    (∀ b d, (Instr.cmbAccess true b 2 [] d).wf = false) ∧
    (∀ a c d, (Instr.shadowCompareDone a 5 4 c d).wf = false) := by
  refine ⟨?_, ?_, ?_⟩ <;> intros <;>
    simp [Instr.wf]

end Sys2Proof

namespace Sys2Proof.Machine

/-! ### Worked examples of the spec -/

/-- Lane 5 of deck 3 on device 37 (example under R26). -/
theorem test_handle : laneIdx 3 5 = 235 ∧ mkHandle 37 (laneIdx 3 5) = 606443 := by decide

/-- Slot 100 of a zone 20 track begins at grain 7,260,242; slot 101 at grain 7,332,651 (examples under R90 and R220). -/
theorem test_sector_grains :
    (zones.find? (fun z => z.p == 8906)).map (fun z => (z.sectorGrain 100, z.sectorGrain 101)) = some (7260242, 7332651) := by
  decide +kernel

/-- A request at tick 5,003,500,000 is for the boundary at tick 5,003,600,000 (example under R22). -/
theorem test_commit_epoch : cdiv (5003500000 + 2000) epochTicks * epochTicks = 5003600000 := by decide +kernel

/-- The thirteen bytes ABCABCABCABCX (example under R464): the block of the stream decodes to them. -/
theorem test_dm_example :
    decodeStream 1 64 (dmHeader ++ [0x0D, 0, 0, 0x40, 8, 0, 0, 0, 0x67, 0x41, 0x42, 0x43, 3, 0, 0x20, 0x58] ++
        dmEnd 13 (crc64 [65, 66, 67, 65, 66, 67, 65, 66, 67, 65, 66, 67, 88])) =
      .inl [65, 66, 67, 65, 66, 67, 65, 66, 67, 65, 66, 67, 88] := by decide +kernel

/-- That stream's 48 bytes miss a saving of 8 in 256 (example under R464). -/
theorem test_incompressible : incompressible 8 48 13 = true := by decide

/-- The set, tag and sector of DRAM address 0x12_3456_7880 (example under R536). -/
theorem test_cache_line :
    mcSet (0x1234567880 / 256) = 1656 ∧ mcTag (0x1234567880 / 256) = 24855 ∧ 0x1234567880 / 64 % 4 = 2 := by decide

/-- The place of that address under the default map: channel 1, rank 0, bank group 4, bank 3, row 18,641, column 704
(example under R491). -/
theorem test_dram_place :
    (defaultMap (runDev.sets [(Reg.MEM_CFG_DPC, 1), (Reg.MEM_CFG_DIMM_LOG2, 6), (Reg.MEM_CFG_RANKS, 2),
      (Reg.MEM_CFG_ROW_BITS, 16), (Reg.MEM_CFG_COL_BITS, 11)])).place (0x1234567880 / 128) =
      { ch := 1, rk := 0, bg := 4, ba := 3, row := 18641, col := 704 } := by decide +kernel

/-- GAIN_COR for a measured difference of 46 LSB (example under R603). -/
theorem test_gain_cor : gainCor { sum := 0, diff := 736, skew := 0 } = 45 := by decide

/-- The row of DECK[9].LOOP.BANK[3] (example under R702). -/
theorem test_bank_offset : (Reg.LOOP_BANK_ACTIVE 9 3).off = 0x019401D4 ∧ (regAt 0x019401D4).isSome = true := by decide +kernel

/-- TAI of tick 5,003,600,000 (example under R392). -/
theorem test_tai : ({ host := { tai := 1700000037250000000 } } : Dev).taiNow { tick := 5003600000 } = 1700000042253600000 := by
  decide

/-! ### The symbol code and the demapper -/

/-- One wrong symbol is corrected, two are, three are not, and the poison pattern reads as poison (R501, R502). -/
theorem test_ecc_errors :
    eccRead [] [(3, 5)] = { kind := 1, fixed := [(3, 5)] } ∧ (eccRead [] [(3, 5), (4, 200)]).wrong = [] ∧
      (eccRead [] poisonPattern).kind = 3 := ⟨by decide +kernel, by decide +kernel, by decide +kernel⟩

/-- With a ×8 device erased, one more symbol is corrected (R501). -/
theorem test_ecc_erased : (eccRead [4, 5] [(4, 5), (5, 200), (1, 1)]).fixed = [(4, 5), (5, 200), (1, 1)] := by decide +kernel

/-- Soft values of a modulated word without errors demap to its data bits (R162). -/
theorem test_demap_clean :
    (let llr := (modEncode 0xDEADBEEF).map (fun b => if b then (-9 : Int) else 9)
     (demapWord llr 0).map (fun x => decide (x < 0)) == msb 32 0xDEADBEEF) = true := by decide +kernel

/-- A check of the LDPC code involves its 64 data bits, its own parity bit and that of the row above (R95). -/
theorem test_ldpc_check : (ldpcCheck 0 511).length = 65 ∧ (ldpcCheck 7 0).drop 64 = [36352, 35840] := by decide +kernel

/-! ### Single steps -/

/-- A written word's RWS field is staged only; a reserved bit is dropped (R5, R7). -/
theorem test_reg_write_staged :
    (match exec (.regWrite 0 0x400000 4 0xFFFFFFFF {}) ⟨{}, runDev, []⟩ with
      | .next t => decide (t.dev.get Reg.CMP_CFG_MIN_SAVE = 8 ∧ t.dev.stg Reg.CMP_CFG_MIN_SAVE = 2 ^ Reg.CMP_CFG_MIN_SAVE.w - 1)
      | _ => false) = true := by decide +kernel

/-- The tick counter wraps (R66). -/
theorem test_tick_wraps : (match step ⟨{ tick := 2 ^ 64 - 1 }, runDev, []⟩ with
    | .next t => decide (t.clk.tick = 0)
    | _ => false) = true := by decide +kernel

/-- An access past the controller memory buffer stops; one inside it does not. -/
theorem test_cmb_end :
    (match exec (.cmbAccess false (2 ^ 30) 1 [] []) ⟨{}, runDev, []⟩ with
      | .fault f => decide (f = .cmbOutside)
      | _ => false) = true ∧
      (match exec (.cmbAccess false (2 ^ 30 - 4) 4 [] []) ⟨{}, memDev, []⟩ with
        | .next _ => true
        | _ => false) = true := ⟨by decide +kernel, by decide +kernel⟩

/-- The first fetch takes stamp 1 (R415). -/
theorem test_first_stamp :
    (match exec (.commandFetch 1 0 { op := .identify }) ⟨{}, runDev, []⟩ with
      | .next t => decide (t.clk.stamp = 1 ∧ t.dev.host.ctxs.map (fun x => x.stamp) = [1])
      | _ => false) = true := by decide +kernel

end Sys2Proof.Machine
end

section
/-! SUPPORT. Fault records, ranges of register fields, and the first statements of the register window (specs 00, 01 and 21). -/

open Sys2Proof Sys2Proof.Machine

namespace Sys2Proof.Machine

/-! ### Fields that a change leaves alone -/

/-- A change of one field in force is seen under its own key only. -/
theorem Dev.regs_set_ne (d : Dev) (f : Fld) (v : Nat) {k : Nat} (h : k ≠ f.key) :
    FMap.get resetOf (d.set f v).regs k = FMap.get resetOf d.regs k :=
  FMap.get_set_ne resetOf d.regs _ h

/-- A change of one staged field is seen under its own key only. -/
theorem Dev.staged_setStg_ne (d : Dev) (f : Fld) (v : Nat) {k : Nat} (h : k ≠ f.key) :
    FMap.get resetOf (d.setStg f v).staged k = FMap.get resetOf d.staged k :=
  FMap.get_set_ne resetOf d.staged _ h

theorem RegsOnly.refl (l : List Fld) {d e : Dev} (h : e.regs = d.regs) : RegsOnly l d e := fun _ _ => by rw [h]

theorem RegsOnly.trans {l : List Fld} {d e f : Dev} (h : RegsOnly l d e) (h' : RegsOnly l e f) : RegsOnly l d f :=
  fun k hk => (h' k hk).trans (h k hk)

theorem RegsOnly.mono {l l' : List Fld} (hl : ∀ f ∈ l, f ∈ l') {d e : Dev} (h : RegsOnly l d e) : RegsOnly l' d e :=
  fun k hk => h k fun hm => hk (List.map_subset _ hl hm)

/-- Setting listed fields leaves every other one as it was. -/
theorem RegsOnly.sets (d : Dev) (l : List (Fld × Nat)) {fs : List Fld} (hfs : l.map Prod.fst = fs := by rfl) :
    RegsOnly fs d (d.sets l) := by
  subst hfs
  induction l generalizing d with
  | nil => exact .refl _ rfl
  | cons p l ih =>
    intro k hk
    simp only [List.map_cons, List.mem_cons, not_or] at hk
    rw [Dev.sets_cons, ih _ k hk.2, Dev.regs_set_ne _ _ _ hk.1]

/-- Each field of a list of distinct fields reads what was put into it, within its width. -/
theorem Dev.get_sets_of_mem (d : Dev) {fs : List Fld} (hkeys : (fs.map Fld.key).Nodup) {l : List (Fld × Nat)} {f : Fld} {v : Nat}
    (hp : (f, v) ∈ l) (hfs : l.map Prod.fst = fs := by rfl) : (d.sets l).get f = v % 2 ^ f.w := by
  subst hfs
  induction l generalizing d with
  | nil => cases hp
  | cons q l ih =>
    rw [List.map_cons, List.map_cons, List.nodup_cons] at hkeys
    rw [Dev.sets_cons]
    rcases List.mem_cons.1 hp with rfl | hp
    · rw [Dev.get_sets_ne _ _ fun r hr h => hkeys.1 (h ▸ List.mem_map_of_mem (List.mem_map_of_mem hr)), Dev.get_set_self]
    · exact ih _ hp hkeys.2

/-! ### What a fault record leaves (R667 to R671) -/

/-- Arming the vendor event leaves the ring as it is. -/
theorem Dev.armEvents_ring (c : Clock) (sev cls : Nat) (d : Dev) : (d.armEvents c sev cls).flt.ring = d.flt.ring := by
  obtain ⟨k, h, m, n, e⟩ := Dev.armEvents_frame c sev cls d
  rw [e]

theorem Dev.armEvents_regs (c : Clock) (sev cls : Nat) (d : Dev) : (d.armEvents c sev cls).regs = d.regs := by
  obtain ⟨k, h, m, n, e⟩ := Dev.armEvents_frame c sev cls d
  rw [e]

/-- The ring holds a record of a class and code after one is pushed. -/
theorem Flt.mem_push (f : Flt) (r : FaultRec) : ∃ o ∈ (f.push r).ring, o.cls = r.cls ∧ o.code = r.code := by
  unfold Flt.push
  split
  · exact ⟨r, List.mem_append_right _ (List.mem_singleton_self _), rfl, rfl⟩
  · exact ⟨_, List.mem_append_right _ (List.mem_singleton_self _), rfl, rfl⟩

/-- The ring after a record: the newest one repeated, or the record pushed. -/
def Dev.ringAfter (d : Dev) (r : FaultRec) : Flt :=
  match d.flt.ring.getLast? with
  | some o => if foldsInto (d.getB Reg.FLT_CFG_FOLD_EN) o r then
      { d.flt with ring := d.flt.ring.dropLast ++ [{ o with rep := satAdd 8 o.rep 1 }] }
    else d.flt.push { r with seq := d.flt.next }
  | none => d.flt.push { r with seq := d.flt.next }

/-- The registers after a record: FATAL for severity 3, LOST when an unread record was overwritten. -/
def Dev.stsAfter (d : Dev) (r : FaultRec) : Dev :=
  let e := { d with flt := d.ringAfter r }
  let e := if r.sev = 3 then e.set Reg.FLT_STS_FATAL 1 else e
  if d.flt.lostNow < (d.ringAfter r).lostNow then e.set Reg.FLT_STS_LOST 1 else e

/-- A record outside DEEP: ring, status, events. -/
theorem Dev.record_awake {d : Dev} (h : d.inDeep = false) (c : Clock) (r : FaultRec) :
    d.record c r = (d.stsAfter r).armEvents c r.sev r.cls := by
  unfold Dev.record Dev.stsAfter Dev.ringAfter
  rw [h]
  cases d.flt.ring.getLast? with
  | none => simp only [Bool.false_eq_true, if_false, apply_ite Dev.flt, Dev.set_flt, ite_self]
  | some o => 
    by_cases hf : foldsInto (d.getB Reg.FLT_CFG_FOLD_EN) o r = true <;>
    simp only [hf, Bool.false_eq_true, if_false, if_true, apply_ite Dev.flt, Dev.set_flt, ite_self]

theorem Dev.stsAfter_flt (d : Dev) (r : FaultRec) : (d.stsAfter r).flt = d.ringAfter r := by
  unfold Dev.stsAfter
  simp only [apply_ite Dev.flt, Dev.set_flt, ite_self]

/-- A record's status registers are those of FLT.STS, and LOST alone below severity 3. -/
theorem Dev.stsAfter_regsOnly (d : Dev) {r : FaultRec} (h : r.sev ≠ 3) : RegsOnly [Reg.FLT_STS_LOST] d (d.stsAfter r) := by
  unfold Dev.stsAfter
  dsimp only
  rw [if_neg h]
  split
  · exact RegsOnly.sets { d with flt := d.ringAfter r } [(Reg.FLT_STS_LOST, 1)]
  · exact .refl _ rfl

theorem Dev.mem_ringAfter (d : Dev) (r : FaultRec) : ∃ o ∈ (d.ringAfter r).ring, o.cls = r.cls ∧ o.code = r.code := by
  unfold Dev.ringAfter
  split
  · rename_i o _
    split
    · rename_i hf
      simp only [foldsInto, Bool.and_eq_true, beq_iff_eq] at hf
      obtain ⟨⟨⟨_, hcls⟩, hcode⟩, _⟩ := hf
      exact ⟨_, List.mem_append_right _ (List.mem_singleton_self _), hcls, hcode⟩
    · exact Flt.mem_push _ { r with seq := d.flt.next }
  · exact Flt.mem_push _ { r with seq := d.flt.next }

/-- Outside DEEP a fault leaves a record of its class and code in the ring. -/
theorem Dev.fault_reported {d : Dev} (h : d.inDeep = false) (c : Clock) (src : Src) (q : Cond) :
    Reported q.cls q.code (d.fault c src q) := by
  unfold Dev.fault Reported
  rw [Dev.record_awake h, Dev.armEvents_ring, Dev.stsAfter_flt]
  exact Dev.mem_ringAfter ..

/-- A fault below severity 3 leaves every register field but FLT.STS.LOST as it was. -/
theorem Dev.fault_regsOnly (c : Clock) (src : Src) {q : Cond} (hq : q.sev ≠ 3) (d : Dev) :
    RegsOnly [Reg.FLT_STS_LOST] d (d.fault c src q) := by
  unfold Dev.fault
  cases h : d.inDeep with
  | true =>
    refine .refl _ ?_
    rw [Dev.record, if_pos h]
    split <;> rfl
  | false =>
    rw [Dev.record_awake h]
    exact (Dev.stsAfter_regsOnly d hq).trans (.refl _ (Dev.armEvents_regs ..))

/-- A fault changes registers, the ring, controllers and the host side only. -/
theorem Dev.fault_eq (c : Clock) (src : Src) (q : Cond) (d : Dev) :
    d.fault c src q = { d with
      regs := (d.fault c src q).regs, flt := (d.fault c src q).flt, ctrls := (d.fault c src q).ctrls,
      host := (d.fault c src q).host } := by
  obtain ⟨a, f, k, h, e⟩ := Dev.fault_frame c src q d
  rw [e]

/-! ### Accesses that something stands against (R4, R571, R631) -/

/-- An access without effect leaves its record, and notes a domain that is off, and nothing else. -/
theorem Dev.denied_frame (c : Clock) (off : Nat) (q : Deny) (d : Dev) :
    d.denied c off q = { d with
      flt := (d.denied c off q).flt, ctrls := (d.denied c off q).ctrls, host := (d.denied c off q).host,
      pwr := (d.denied c off q).pwr, regs := (d.denied c off q).regs } := by
  cases q with
  | closed => rfl
  | bad r => rw [Dev.denied, Dev.fault_eq]
  | off k =>
    unfold Dev.denied
    dsimp only
    split
    · rfl
    · rw [Dev.fault_eq]

theorem Dev.denied_regsOnly (c : Clock) (off : Nat) (q : Deny) (d : Dev) : RegsOnly [Reg.FLT_STS_LOST] d (d.denied c off q) := by
  cases q with
  | closed => exact .refl _ rfl
  | bad r => exact Dev.fault_regsOnly c _ (by simp) d
  | off k =>
    unfold Dev.denied
    dsimp only
    split
    · exact .refl _ rfl
    · exact Dev.fault_regsOnly c _ (by simp) _

/-- A test that answers with a reason has none exactly when it passes and so does what follows. -/
theorem ite_some_eq_none_iff {α : Type} {p : Prop} [Decidable p] {a : α} {x : Option α} :
    (if p then some a else x) = none ↔ ¬p ∧ x = none := by
  split <;> simp [*]

/-- What lets an access through: the tests of R4, R23, R571 and R631 one after the other. -/
theorem Dev.deny_none_iff (d : Dev) (via : Via) (wr : Bool) (off width : Nat) :
    d.deny via wr off width = none ↔ d.accessRoles via ≠ 0 ∧ width = 4 ∧ off % 4 = 0 ∧ off < selSpan ∧
      (regAt off).isSome = true ∧ d.domOn (domainOf off) = true ∧
      (wr = true → bit (d.accessRoles via) (if off < deckBase then rCUSTODIAN else rOPERATOR) = true) := by
  simp only [Dev.deny, ite_some_eq_none_iff, not_or, not_and, not_not, Nat.not_le, Bool.not_eq_false, Bool.not_eq_true,
    Option.isNone_eq_false_iff, and_true, and_assoc]

/-- A write without a role that opens the window meets a closed one. -/
theorem Dev.deny_closed {d : Dev} {via : Via} (h : d.accessRoles via = 0) (wr : Bool) (off width : Nat) :
    d.deny via wr off width = some .closed := by
  rw [Dev.deny, if_pos h]

/-- A record of a domain that is off, the first of its epoch, notes the domain (R571). -/
theorem Dev.denied_off_first {d : Dev} (h : d.pwr.offSeen = []) (c : Clock) (off k : Nat) :
    d.denied c off (.off k) = Dev.fault c .device { cls := 5, code := 6, sev := 1, detail := le 1 k ++ le 4 off }
      { d with pwr := { d.pwr with offSeen := [(k, c.epoch)] } } := by
  simp [Dev.denied, h]

/-- A domain reported off in an epoch is not reported in it again (R571). -/
theorem Dev.denied_off_again {d : Dev} {c : Clock} {k : Nat} (h : (k, c.epoch) ∈ d.pwr.offSeen) (off : Nat) :
    d.denied c off (.off k) = d := by
  rw [Dev.denied, if_pos (List.contains_iff_mem.2 h)]

/-! ### The rows as changes of the module -/

/-- REG_WRITE is an access that writes a word (R4, R7). -/
theorem exec_regWrite (link : Fin 2) (off width : Nat) (v : Word) (o : BusObs) (c : Clock) (d : Dev) (q : List Instr) :
    exec (.regWrite link off width v o) ⟨c, d, q⟩ =
      .next ⟨c, d.access c (.bar2 link) off width (wordWrite c off v.toNat o), q⟩ := rfl

/-- A REG_WRITE that something stands against leaves what the denial leaves. -/
theorem exec_regWrite_of_deny {d : Dev} {link : Fin 2} {off width : Nat} {z : Deny}
    (h : d.deny (.bar2 link) true off width = some z) (c : Clock) (q : List Instr) (v : Word) (o : BusObs) :
    exec (.regWrite link off width v o) ⟨c, d, q⟩ = .next ⟨c, d.denied c off z, q⟩ := by
  rw [exec_regWrite, Dev.access_of_some h]

theorem exec_sigLoRead (link : Fin 2) (c : Clock) (d : Dev) (q : List Instr) :
    exec (.sigLoRead link) ⟨c, d, q⟩ = .next ⟨c, rdRow c link Reg.TST_SIG_LO_SIG_LO.off sigLoRead d, q⟩ := rfl

/-- Settles O10: a write or read meets one denial, and each denial has one lemma that says what it leaves. -/
theorem accessRule : Obligations.AccessRule := by
  unfold Obligations.AccessRule
  refine ⟨Dev.deny_none_iff, ?closed, ?bad, ?domainOff, ?domainSeen, ?read⟩
  case closed =>
    intro c d q link off width v o h
    exact ⟨d, exec_regWrite_of_deny (Dev.deny_closed h true off width) c q v o, rfl⟩
  case bad =>
    rintro c d q link off width r v o ⟨h, hdeep⟩
    exact ⟨_, exec_regWrite_of_deny h c q v o, Dev.fault_reported hdeep c _ _, Dev.fault_eq .., Dev.denied_regsOnly c off _ d⟩
  case domainOff =>
    rintro c d q link off k v o ⟨h, hdeep, hseen⟩
    refine ⟨_, exec_regWrite_of_deny h c q v o, ?_, ?_, Dev.denied_frame .., Dev.denied_regsOnly c off _ d⟩
    · rw [Dev.denied_off_first hseen]
      exact Dev.fault_reported (d := { d with pwr := { d.pwr with offSeen := [(k, c.epoch)] } }) hdeep c .device
        { cls := 5, code := 6, sev := 1, detail := le 1 k ++ le 4 off }
    · rw [Dev.denied_off_first hseen, Dev.fault_eq]
  case domainSeen =>
    rintro c d q link off k v o ⟨h, hseen⟩
    exact ⟨_, exec_regWrite_of_deny h c q v o, Dev.denied_off_again hseen off⟩
  case read =>
    intro c d q link z h
    refine ⟨_, exec_sigLoRead link c d q, ?_⟩
    rw [rdRow, Dev.accessRead_of_some h]
    refine ⟨rfl, ?_, Dev.denied_regsOnly c _ z d⟩
    rw [Dev.denied_frame]

/-! ### Reads that latch (R71, R79, R412, R444, R615, R682) -/

/-- A revolution counter has 40 bits (R49), so its high part fits SNAP_GRAIN. -/
theorem Clock.rev_high_lt (c : Clock) (n : Nat) : c.rev n / 2 ^ 32 < 2 ^ 8 := by
  unfold Clock.rev
  omega

theorem Clock.grain_lt (c : Clock) (n : Nat) : c.grain n < 2 ^ 24 := Nat.mod_lt _ (by decide)

/-- A read that sets some fields and returns a word. -/
def Dev.latched (d : Dev) (l : List (Fld × Nat)) (word : Nat) : Dev := { d.sets l with rdata := word }

theorem Dev.latched_frame (d : Dev) (l : List (Fld × Nat)) (word : Nat) :
    d.latched l word = { d with regs := (d.latched l word).regs, rdata := word } := by
  rw [Dev.latched, Dev.sets_eq]

theorem Dev.latched_regsOnly (d : Dev) {l : List (Fld × Nat)} {fs : List Fld} (word : Nat)
    (hfs : l.map Prod.fst = fs := by rfl) : RegsOnly fs d (d.latched l word) := RegsOnly.sets d l hfs

theorem Dev.get_latched (d : Dev) {fs : List Fld} (hkeys : (fs.map Fld.key).Nodup) (word : Nat) {l : List (Fld × Nat)} {f : Fld}
    {v : Nat} (hp : (f, v) ∈ l) (hfs : l.map Prod.fst = fs := by rfl) : (d.latched l word).get f = v % 2 ^ f.w :=
  d.get_sets_of_mem hkeys hp hfs

/-- SNAP_GRAIN_READ sets the grain and revolution words from the counter (R71). -/
theorem exec_snapGrainRead {d : Dev} {link : Fin 2} {n : Fin 16}
    (h : d.deny (.bar2 link) false (Reg.ANG_SNAP_GRAIN_GRAIN n).off 4 = none) (c : Clock) (q : List Instr) :
    exec (.snapGrainRead link n) ⟨c, d, q⟩ = .next ⟨c, d.latched [(Reg.ANG_SNAP_GRAIN_REV_HI n, c.rev n / 2 ^ 32),
      (Reg.ANG_SNAP_GRAIN_GRAIN n, c.grain n), (Reg.ANG_SNAP_REV_REV_LO n, c.rev n % 2 ^ 32)]
      (c.rev n / 2 ^ 32 * 2 ^ 24 + c.grain n), q⟩ :=
  congrArg (fun e => Host.Outcome.next (State.mk c e q)) (rdRow_of_none h c (snapGrainRead c n))

/-- TICK_LO_READ sets the two words of the tick (R79). -/
theorem exec_tickLoRead {d : Dev} {link : Fin 2} (h : d.deny (.bar2 link) false Reg.MGMT_TICK_LO_TICK_LO.off 4 = none)
    (c : Clock) (q : List Instr) :
    exec (.tickLoRead link) ⟨c, d, q⟩ = .next ⟨c, d.latched [(Reg.MGMT_TICK_LO_TICK_LO, c.tick),
      (Reg.MGMT_TICK_HI_TICK_HI, c.tick / 2 ^ 32)] (c.tick % 2 ^ 32), q⟩ :=
  congrArg (fun e => Host.Outcome.next (State.mk c e q)) (rdRow_of_none h c (tickLoRead c))

/-- TAI_NS_READ sets the three words of the TAI base (R412). -/
theorem exec_taiNsRead {d : Dev} {link : Fin 2} (h : d.deny (.bar2 link) false Reg.MGMT_TAI_NS_NS.off 4 = none)
    (c : Clock) (q : List Instr) :
    exec (.taiNsRead link) ⟨c, d, q⟩ = .next ⟨c, d.latched [(Reg.MGMT_TAI_NS_NS, d.host.tai % 1000000000),
      (Reg.MGMT_TAI_SEC_LO_SEC_LO, d.host.tai / 1000000000), (Reg.MGMT_TAI_SEC_HI_SEC_HI, d.host.tai / 1000000000 / 2 ^ 32)]
      (d.host.tai % 1000000000), q⟩ :=
  congrArg (fun e => Host.Outcome.next (State.mk c e q)) (rdRow_of_none h c taiNsRead)

/-- STAMP_LO_READ sets the two words of the next stamp (R444). -/
theorem exec_stampLoRead {d : Dev} {link : Fin 2} (h : d.deny (.bar2 link) false Reg.HQ_STAMP_LO_STAMP_LO.off 4 = none)
    (c : Clock) (q : List Instr) :
    exec (.stampLoRead link) ⟨c, d, q⟩ = .next ⟨c, d.latched [(Reg.HQ_STAMP_LO_STAMP_LO, (c.stamp + 1) % 2 ^ 32),
      (Reg.HQ_STAMP_HI_STAMP_HI, (c.stamp + 1) / 2 ^ 32)] ((c.stamp + 1) % 2 ^ 32), q⟩ :=
  congrArg (fun e => Host.Outcome.next (State.mk c e q)) (rdRow_of_none h c (stampLoRead c))

/-- SIG_LO_READ sets the two words of the last signature (R615). -/
theorem exec_sigLoRead_of_none {d : Dev} {link : Fin 2} (h : d.deny (.bar2 link) false Reg.TST_SIG_LO_SIG_LO.off 4 = none)
    (c : Clock) (q : List Instr) :
    exec (.sigLoRead link) ⟨c, d, q⟩ = .next ⟨c, d.latched [(Reg.TST_SIG_LO_SIG_LO, d.tst.sig % 2 ^ 32),
      (Reg.TST_SIG_HI_SIG_HI, d.tst.sig / 2 ^ 32)] (d.tst.sig % 2 ^ 32), q⟩ :=
  congrArg (fun e => Host.Outcome.next (State.mk c e q)) (rdRow_of_none h c sigLoRead)

/-- REC_DATA_READ returns word 0 of the record shown and latches the rest (R682). -/
theorem exec_recDataRead {d : Dev} {link : Fin 2} (h : d.deny (.bar2 link) false (Reg.FLT_REC_DATA_DATA 0).off 4 = none)
    (c : Clock) (q : List Instr) : exec (.recDataRead link) ⟨c, d, q⟩ = .next ⟨c, recDataRead d, q⟩ :=
  congrArg (fun e => Host.Outcome.next (State.mk c e q)) (rdRow_of_none h c recDataRead)

/-- The keys of SNAP_GRAIN and SNAP_REV of a deck differ. -/
theorem snap_keys_nodup (n : Nat) :
    ([Reg.ANG_SNAP_GRAIN_REV_HI n, Reg.ANG_SNAP_GRAIN_GRAIN n, Reg.ANG_SNAP_REV_REV_LO n].map Fld.key).Nodup := by
  simp [Fld.key, Reg.ANG_SNAP_GRAIN_REV_HI, Reg.ANG_SNAP_GRAIN_GRAIN, Reg.ANG_SNAP_REV_REV_LO]
  omega

theorem tick_keys_nodup : ([Reg.MGMT_TICK_LO_TICK_LO, Reg.MGMT_TICK_HI_TICK_HI].map Fld.key).Nodup := by decide

theorem tai_keys_nodup :
    ([Reg.MGMT_TAI_NS_NS, Reg.MGMT_TAI_SEC_LO_SEC_LO, Reg.MGMT_TAI_SEC_HI_SEC_HI].map Fld.key).Nodup := by decide

theorem stamp_keys_nodup : ([Reg.HQ_STAMP_LO_STAMP_LO, Reg.HQ_STAMP_HI_STAMP_HI].map Fld.key).Nodup := by decide

theorem sig_keys_nodup : ([Reg.TST_SIG_LO_SIG_LO, Reg.TST_SIG_HI_SIG_HI].map Fld.key).Nodup := by decide

/-- Settles O11: every latching read sets a list of distinct fields and returns a word. -/
theorem windowReadsLatch : Obligations.WindowReadsLatch := by
  unfold Obligations.WindowReadsLatch
  refine ⟨?snap, ?tick, ?tai, ?stamp, ?sig, ?rec⟩
  case snap =>
    intro c d q link n h
    refine ⟨_, exec_snapGrainRead h c q, ?grain, ?high, ?low, rfl, d.latched_frame _ _,
      (d.latched_regsOnly _).mono (by simp)⟩
    case grain =>
      exact (d.get_latched (snap_keys_nodup n) _ (.tail _ (.head _))).trans (Nat.mod_eq_of_lt (c.grain_lt n))
    case high =>
      exact (d.get_latched (snap_keys_nodup n) _ (.head _)).trans (Nat.mod_eq_of_lt (c.rev_high_lt n))
    case low =>
      exact (d.get_latched (snap_keys_nodup n) _ (.tail _ (.tail _ (.head _)))).trans (Nat.mod_mod _ _)
  case tick =>
    intro c d q link h
    exact ⟨_, exec_tickLoRead h c q, rfl, d.get_latched tick_keys_nodup _ (.head _),
      d.get_latched tick_keys_nodup _ (.tail _ (.head _)), d.latched_frame _ _, d.latched_regsOnly _⟩
  case tai =>
    intro c d q link h
    refine ⟨_, exec_taiNsRead h c q, rfl, ?ns, d.get_latched tai_keys_nodup _ (.tail _ (.head _)),
      d.get_latched tai_keys_nodup _ (.tail _ (.tail _ (.head _))), d.latched_frame _ _, d.latched_regsOnly _⟩
    case ns =>
      have hlt : d.host.tai % 1000000000 < 2 ^ 30 := by omega
      exact (d.get_latched tai_keys_nodup _ (.head _)).trans (Nat.mod_eq_of_lt (hlt.trans (by decide)))
  case stamp =>
    intro c d q link h
    exact ⟨_, exec_stampLoRead h c q, rfl, (d.get_latched stamp_keys_nodup _ (.head _)).trans (Nat.mod_mod _ _),
      d.get_latched stamp_keys_nodup _ (.tail _ (.head _)), d.latched_frame _ _, d.latched_regsOnly _⟩
  case sig =>
    intro c d q link h
    exact ⟨_, exec_sigLoRead_of_none h c q, rfl, (d.get_latched sig_keys_nodup _ (.head _)).trans (Nat.mod_mod _ _),
      d.get_latched sig_keys_nodup _ (.tail _ (.head _)), d.latched_frame _ _, d.latched_regsOnly _⟩
  case rec =>
    intro c d q link h
    exact ⟨_, exec_recDataRead h c q, rfl, rfl, rfl⟩

/-! ### The module after reset (R6) -/

/-- The same words stand in force in every deck after reset. -/
theorem reset_deck_words (n : Fin 16) :
    State.reset.dev.wordInForce (deckBase + n * deckSpan) = 0x29600000 ∧
      State.reset.dev.wordInForce (deckBase + n * deckSpan + 0x20000) = 0x00761248 ∧
      State.reset.dev.wordInForce (deckBase + n * deckSpan + 0x30010) = 0x14282460 ∧
      State.reset.dev.wordInForce (deckBase + n * deckSpan + 0x40004) = 0x400603D1 ∧
      State.reset.dev.wordInForce (deckBase + n * deckSpan + 0x50008) = 0x40C801F4 ∧
      State.reset.dev.wordInForce (deckBase + n * deckSpan + 0x60010) = 0x0FA000C8 ∧
      State.reset.dev.wordInForce (deckBase + n * deckSpan + 0x80008) = 0x2904321E := by
  revert n
  decide +kernel

theorem reset_deck_states (n : Fin 16) :
    State.reset.dev.dstate n = dABSENT ∧ State.reset.dev.tbState n = tbOFF ∧ State.reset.clk.counter n = 0 := by
  revert n
  decide +kernel

/-- Settles O2: every table of the module is empty, so a field has the reset value of its register. -/
theorem resetState : Obligations.ResetState :=
  ⟨rfl, by decide, rfl, rfl, fun _ => ⟨rfl, rfl⟩, reset_mem_wf, rfl, rfl, rfl, reset_deck_states, by decide +kernel,
    by decide +kernel, by decide +kernel, by decide +kernel, reset_deck_words⟩

end Sys2Proof.Machine
end

section
/-! SUPPORT. A word written to the register window, field by field (R4, R5, R7), through BAR2 and through MCTP (R393). -/

open Sys2Proof Sys2Proof.Machine

namespace Sys2Proof.Machine

/-! ### The rows of the register tables -/

theorem findRow_mem {off : Nat} {l : List RRow} {r : RRow} {i : Nat} (h : findRow off l = some (r, i)) : r ∈ l := by
  induction l with
  | nil => cases h
  | cons a t ih =>
    rw [findRow] at h
    split at h
    · cases h
      exact List.mem_cons_self ..
    · exact List.mem_cons_of_mem _ (ih h)

/-- A register is one of the rows of the tables. -/
theorem regAt_mem {off : Nat} {r : RRow} {i : Nat} (h : regAt off = some (r, i)) : r ∈ devRegs ++ deckRegs := by
  unfold regAt at h
  dsimp only at h
  split at h
  · exact List.mem_append_left _ (findRow_mem h)
  · split at h
    · exact List.mem_append_right _ (findRow_mem h)
    · cases h

/-- The fields of every row of the tables begin at different bits of its word. -/
theorem table_fields : ∀ r ∈ devRegs ++ deckRegs, (r.fields.map FRow.lo).Nodup ∧ ∀ f ∈ r.fields, f.lo < 32 := by
  decide +kernel

/-! ### A word under its access classes (R5, R7) -/

/-- A rule that stands against no field of a word: none is skipped, no value is invalid, and RWX fields are not locked. -/
def WordRule.Plain (w : WordRule) (fs : List FRow) : Prop :=
  w.skip = [] ∧ (∀ lo x, w.bad lo x = false) ∧ ∀ f ∈ fs, f.acc = .rwx → w.run = false

theorem WordRule.plain_default (fs : List FRow) : WordRule.Plain {} fs := ⟨rfl, fun _ _ => rfl, fun _ _ _ => rfl⟩

theorem WordRule.Plain.mono {w : WordRule} {fs gs : List FRow} (h : w.Plain fs) (hs : ∀ f ∈ gs, f ∈ fs) : w.Plain gs :=
  ⟨h.1, h.2.1, fun f hf => h.2.2 f (hs f hf)⟩

/-- The cut of a word for a field fits the field. -/
theorem bits_mod (v lo w : Nat) : bits v lo w % 2 ^ w = bits v lo w := Nat.mod_mod _ _

section OneField

variable {off v : Nat} {w : WordRule} {f : FRow} (d : Dev)

/-- One field written under a plain rule: what each access class makes of it. -/
theorem fieldWrite_eq (h : w.Plain [f]) : fieldWrite off v w d f = match f.acc with
    | .ro => d
    | .w1c => d.set ⟨off, f.lo, f.w⟩ (d.get ⟨off, f.lo, f.w⟩ - (d.get ⟨off, f.lo, f.w⟩ &&& bits v f.lo f.w))
    | .rwl => d.set ⟨off, f.lo, f.w⟩ (bits v f.lo f.w)
    | .rws => d.setStg ⟨off, f.lo, f.w⟩ (bits v f.lo f.w)
    | .rwx => if bits v f.lo f.w = d.get ⟨off, f.lo, f.w⟩ then d else d.set ⟨off, f.lo, f.w⟩ (bits v f.lo f.w) := by
  obtain ⟨hskip, hbad, hrun⟩ := h
  have hopen : w.skip.contains f.lo = false := by rw [hskip]; rfl
  simp only [fieldWrite, hopen, hbad, Bool.false_eq_true, if_false]
  cases hf : f.acc with
  | rwx => simp only [hrun f (List.mem_singleton_self f) hf, Bool.false_eq_true, if_false]
  | ro => rfl
  | w1c => rfl
  | rwl => rfl
  | rws => rfl

/-- A field under a plain rule holds what its class asks for. -/
theorem fieldWrite_byClass (h : w.Plain [f]) :
    ByClass ⟨off, f.lo, f.w⟩ f.acc (bits v f.lo f.w) d (fieldWrite off v w d f) := by
  rw [fieldWrite_eq d h]
  cases f.acc with
  | ro => exact ⟨rfl, rfl⟩
  | w1c => exact ⟨Dev.get_set_self .., rfl⟩
  | rwl => exact ⟨(Dev.get_set_self ..).trans (bits_mod ..), rfl⟩
  | rws => exact ⟨rfl, (Dev.stg_setStg_self ..).trans (bits_mod ..)⟩
  | rwx =>
    dsimp only
    split
    · exact ⟨Eq.symm ‹_›, rfl⟩
    · exact ⟨(Dev.get_set_self ..).trans (bits_mod ..), rfl⟩

/-- A field under a plain rule leaves every other key as it was, and the rest of the module. -/
theorem fieldWrite_frame (h : w.Plain [f]) :
    (∀ k, k ≠ off * 32 + f.lo → FMap.get resetOf (fieldWrite off v w d f).regs k = FMap.get resetOf d.regs k ∧
      FMap.get resetOf (fieldWrite off v w d f).staged k = FMap.get resetOf d.staged k) ∧
    fieldWrite off v w d f = { d with regs := (fieldWrite off v w d f).regs, staged := (fieldWrite off v w d f).staged } := by
  have hset : ∀ x k, k ≠ off * 32 + f.lo →
      FMap.get resetOf (d.set ⟨off, f.lo, f.w⟩ x).regs k = FMap.get resetOf d.regs k := fun x k hk => Dev.regs_set_ne d _ x hk
  rw [fieldWrite_eq d h]
  cases f.acc with
  | ro => exact ⟨fun _ _ => ⟨rfl, rfl⟩, rfl⟩
  | w1c => exact ⟨fun k hk => ⟨hset _ k hk, rfl⟩, rfl⟩
  | rwl => exact ⟨fun k hk => ⟨hset _ k hk, rfl⟩, rfl⟩
  | rws => exact ⟨fun k hk => ⟨rfl, Dev.staged_setStg_ne d _ _ hk⟩, rfl⟩
  | rwx =>
    dsimp only
    split
    · exact ⟨fun _ _ => ⟨rfl, rfl⟩, rfl⟩
    · exact ⟨fun k hk => ⟨hset _ k hk, rfl⟩, rfl⟩

end OneField

/-- What a field holds by its class depends on that field alone. -/
theorem ByClass.congr {g : Fld} {a : Acc} {x : Nat} {d d' e e' : Dev} (h : ByClass g a x d e)
    (hd : d'.get g = d.get g ∧ d'.stg g = d.stg g) (he : e'.get g = e.get g ∧ e'.stg g = e.stg g) : ByClass g a x d' e' := by
  obtain ⟨hdg, hds⟩ := hd
  obtain ⟨heg, hes⟩ := he
  cases a <;> simpa only [ByClass, hdg, hds, heg, hes] using h

/-- The fields of a word, written in turn under a plain rule: each holds what its class asks for, other keys and the rest of
the module keep what they held. -/
theorem fieldsWrite_spec {off v : Nat} {w : WordRule} {fs : List FRow} (hw : w.Plain fs) (hlo : (fs.map FRow.lo).Nodup) (d : Dev) :
    (∀ f ∈ fs, ByClass ⟨off, f.lo, f.w⟩ f.acc (bits v f.lo f.w) d (fs.foldl (fieldWrite off v w) d)) ∧
    (∀ k, (∀ f ∈ fs, k ≠ off * 32 + f.lo) →
      FMap.get resetOf (fs.foldl (fieldWrite off v w) d).regs k = FMap.get resetOf d.regs k ∧
      FMap.get resetOf (fs.foldl (fieldWrite off v w) d).staged k = FMap.get resetOf d.staged k) ∧
    fs.foldl (fieldWrite off v w) d = { d with
      regs := (fs.foldl (fieldWrite off v w) d).regs, staged := (fs.foldl (fieldWrite off v w) d).staged } := by
  induction fs generalizing d with
  | nil => exact ⟨fun _ h => (List.not_mem_nil h).elim, fun _ _ => ⟨rfl, rfl⟩, rfl⟩
  | cons f fs ih =>
    rw [List.map_cons, List.nodup_cons] at hlo
    have hf : w.Plain [f] := hw.mono fun g hg => List.mem_singleton.1 hg ▸ List.mem_cons_self ..
    obtain ⟨hother, hrest⟩ := fieldWrite_frame (off := off) (v := v) d hf
    obtain ⟨hclass, hkeys, hframe⟩ := ih (hw.mono fun g hg => List.mem_cons_of_mem _ hg) hlo.2 (fieldWrite off v w d f)
    rw [List.foldl_cons]
    refine ⟨fun g hg => ?_, fun k hk => ?_, ?_⟩
    · rcases List.mem_cons.1 hg with rfl | hg
      · have hne : ∀ f ∈ fs, off * 32 + g.lo ≠ off * 32 + f.lo := fun f hf h =>
          hlo.1 (Nat.add_left_cancel h ▸ List.mem_map_of_mem hf)
        exact (fieldWrite_byClass d hf).congr ⟨rfl, rfl⟩ (hkeys _ hne)
      · have hne : off * 32 + g.lo ≠ off * 32 + f.lo := fun h => hlo.1 (Nat.add_left_cancel h ▸ List.mem_map_of_mem hg)
        exact (hclass g hg).congr ⟨(hother _ hne).1.symm, (hother _ hne).2.symm⟩ ⟨rfl, rfl⟩
    · obtain ⟨hr, hs⟩ := hkeys k fun g hg => hk g (List.mem_cons_of_mem _ hg)
      obtain ⟨hr', hs'⟩ := hother k (hk f (List.mem_cons_self ..))
      exact ⟨hr.trans hr', hs.trans hs'⟩
    · rw [hframe, hrest]

/-- What a written word leaves: every field of its register by its class, every field of another word, and the rest of the
module, as they were. -/
def WordWritten (off v : Nat) (d e : Dev) : Prop :=
  (∀ r i f, regAt off = some (r, i) → f ∈ r.fields → ByClass ⟨off, f.lo, f.w⟩ f.acc (bits v f.lo f.w) d e) ∧
  (∀ k, k / 32 ≠ off → FMap.get resetOf e.regs k = FMap.get resetOf d.regs k ∧
    FMap.get resetOf e.staged k = FMap.get resetOf d.staged k) ∧
  e = { d with regs := e.regs, staged := e.staged, who := e.who }

/-- A word written under a plain rule. -/
theorem classWrite_written {off : Nat} {r : RRow} {i : Nat} (h : regAt off = some (r, i)) {w : WordRule} (hw : w.Plain r.fields)
    (v : Nat) (d : Dev) : WordWritten off v d (classWrite off v w d) := by
  obtain ⟨hlo, hlt⟩ := table_fields r (regAt_mem h)
  obtain ⟨hclass, hkeys, hframe⟩ := fieldsWrite_spec (off := off) (v := v) hw hlo d
  rw [classWrite, h]
  refine ⟨fun r' i' f h' hf => ?_, fun k hk => hkeys k fun f hf => ?_, ?_⟩
  · rw [h, Option.some.injEq, Prod.mk.injEq] at h'
    exact hclass f (h'.1 ▸ hf)
  · have := hlt f hf
    omega
  · dsimp only
    rw [hframe]

/-- Who makes the access does not matter to what is written. -/
theorem WordWritten.of_who {off v : Nat} {d e : Dev} {x : Who} (h : WordWritten off v { d with who := x } e) :
    WordWritten off v d e := by
  obtain ⟨hclass, hkeys, hframe⟩ := h
  exact ⟨fun r i f hr hf => (hclass r i f hr hf).congr ⟨rfl, rfl⟩ ⟨rfl, rfl⟩, hkeys, hframe⟩

/-! ### Words without special effects -/

/-- A word of MGMT but ETH_CFG, HQ, CMP or SEAM that is no COMMIT_CTL is written under the default rule. -/
theorem wordWrite_plain {off : Nat} (hblk : off / deckSpan = 4 ∨ off / deckSpan = 9 ∨ off / deckSpan = 3 ∨
      (off / deckSpan = 0 ∧ (off < 0x300 ∨ 0x310 ≤ off))) (hctl : off % deckSpan ≠ 0xFF00) {d : Dev}
    (hsel : d.selected off = some off) (c : Clock) (v : Nat) (o : BusObs) :
    wordWrite c off v o d = classWrite off v {} d := by
  have hdev : off < deckBase := by
    simp only [deckSpan, deckBase] at hblk ⊢
    omega
  have hplain : plainWrite off v [] d = classWrite off v {} d := by rw [plainWrite, hsel]
  rw [wordWrite, if_pos hdev, devWrite, if_neg hctl, ← hplain]
  rcases hblk with h | h | h | ⟨h, hoff⟩
  · simp only [h]
  · simp only [h]
  · simp only [h]
  · have heth : ¬(0x300 ≤ off ∧ off < 0x310) := by omega
    simp only [h, if_neg heth]

/-- The words of a deck that RegisterWordWrites is about: written as plain words of the deck, all but LANE.LOOP_INIT in a
sub-block that does not run while the deck stands still. -/
theorem deckWrite_plain (n : Nat) {t : Nat} (ht : t = 4 ∨ t = 0x10018 ∨ t = 0x5001C ∨ t = 0x80008 ∨ t = 0x60020) {d : Dev}
    (hsld : d.sldSt n = slDISABLED) (hspn : d.spnSt n = spOFF) (c : Clock) (v : Nat) :
    ∃ run, (run = false ∨ t = 0x10018) ∧ deckWrite c n t v d = deckWord n t v run [] anyValue d := by
  rcases ht with rfl | rfl | rfl | rfl | rfl
  · exact ⟨false, .inl rfl, by simp [deckWrite, angWrite]⟩
  · exact ⟨laneRuns d n 0, .inr rfl, by simp [deckWrite, laneWrite]⟩
  · exact ⟨false, .inl rfl, by simp [deckWrite, spnWrite, hspn]⟩
  · exact ⟨false, .inl rfl, by simp [deckWrite, seqWrite]⟩
  · exact ⟨false, .inl rfl, by simp [deckWrite, sldWrite, hsld]⟩

/-- LANE.LOOP_INIT has staged fields only. -/
theorem loopInit_fields (n : Fin 16) :
    ((regAt (deckOff n 0x10018)).all fun p => p.1.fields.all fun f => f.acc == .rws) = true := by
  revert n
  decide +kernel

/-- A deck's word under any flag, with no value invalid, follows its access classes unless an RWX field is locked. -/
theorem deckWord_written {n t : Nat} {r : RRow} {i : Nat} (h : regAt (deckOff n t) = some (r, i)) {run : Bool}
    (hrun : ∀ f ∈ r.fields, f.acc = .rwx → run = false) (v : Nat) (d : Dev) :
    WordWritten (deckOff n t) v d (deckWord n t v run [] anyValue d) :=
  classWrite_written h ⟨rfl, fun _ _ => rfl, hrun⟩ v d

/-- An offset of a deck's window names the deck and the word in it. -/
theorem wordWrite_deck (n : Nat) {t : Nat} (ht : t < deckSpan) (c : Clock) (v : Nat) (o : BusObs) (d : Dev) :
    wordWrite c (deckOff n t) v o d = deckWrite c n t v d := by
  have hdeck : ¬deckOff n t < deckBase := by
    unfold deckOff
    omega
  have hoff : deckOff n t - deckBase = n * deckSpan + t := by
    unfold deckOff
    omega
  have hdiv : (n * deckSpan + t) / deckSpan = n := by
    rw [Nat.mul_comm, Nat.mul_add_div (by decide), Nat.div_eq_of_lt ht, Nat.add_zero]
  rw [wordWrite, if_neg hdeck, hoff, hdiv, Nat.add_mod, Nat.mul_mod_left, Nat.zero_add, Nat.mod_mod, Nat.mod_eq_of_lt ht]

/-! ### The window through MCTP (R393) -/

/-- An access through MCTP that something lets through finds MGMT powered. -/
theorem Dev.domOn_of_mctp {d : Dev} {pcie wr : Bool} {off width : Nat} (h : d.deny (.mctp pcie) wr off width = none) :
    d.domOn 2 = true := by
  by_contra hoff
  refine ((d.deny_none_iff ..).1 h).1 ?_
  unfold Dev.accessRoles
  dsimp only
  split
  · rw [if_neg hoff]
  · rfl

/-- A vendor MI request to a running module with a session and power: the packet has nothing to wake. -/
theorem mctpReg_running {d : Dev} {pcie : Bool} (hrun : d.pwr.mode = .run ∧ d.pwr.entry = 0) (hdom : d.domOn 2 = true)
    (hsession : d.mctpSession pcie = true) (go : Dev → Dev) : mctpReg pcie go d = go d := by
  obtain ⟨hmode, hentry⟩ := hrun
  have hactive : d.activity = d := by simp [Dev.activity, hmode]
  have hwake : d.wakeBy Reg.PWR_WAKE_STS_MCTP = d := by simp [Dev.wakeBy, hmode, hentry]
  simp [mctpReg, hactive, hwake, hmode, hdom, hsession]

/-- A REGISTER_WRITE within the window is an access, and an answer. -/
theorem exec_registerWrite {d : Dev} {pcie : Bool} {dw : Word} (hrun : d.pwr.mode = .run ∧ d.pwr.entry = 0)
    (hsession : d.mctpSession pcie = true) (h : d.deny (.mctp pcie) true (4 * dw.toNat) 4 = none) (c : Clock) (q : List Instr)
    (v : Word) (o : BusObs) :
    exec (.registerWrite pcie dw v o) ⟨c, d, q⟩ = .next ⟨c, miReply 0xC1 dw.toNat [(0, [0])] 0
      (d.access c (.mctp pcie) (4 * dw.toNat) 4 (wordWrite c (4 * dw.toNat) v.toNat o)), q⟩ := by
  have hoff : ¬selSpan ≤ 4 * dw.toNat := Nat.not_le.2 ((d.deny_none_iff ..).1 h).2.2.2.1
  have hreg : registerWrite c pcie dw.toNat v.toNat o d = _ := mctpReg_running hrun (Dev.domOn_of_mctp h) hsession _
  rw [if_neg hoff] at hreg
  exact congrArg (fun e => Host.Outcome.next (State.mk c e q)) hreg

/-- A REGISTER_READ within the window is a read, and an answer that carries its word. -/
theorem exec_registerRead {d : Dev} {pcie : Bool} {dw : Word} (hrun : d.pwr.mode = .run ∧ d.pwr.entry = 0)
    (hsession : d.mctpSession pcie = true) (h : d.deny (.mctp pcie) false (4 * dw.toNat) 4 = none) (c : Clock) (q : List Instr) :
    exec (.registerRead pcie dw) ⟨c, d, q⟩ = .next ⟨c, miReply 0xC0 dw.toNat
      [(0, [0]), (4, le 4 (wordRead c (4 * dw.toNat) d).rdata)] 0 (wordRead c (4 * dw.toNat) d), q⟩ := by
  have hoff : ¬selSpan ≤ 4 * dw.toNat := Nat.not_le.2 ((d.deny_none_iff ..).1 h).2.2.2.1
  have hreg : registerRead c pcie dw.toNat d = _ := mctpReg_running hrun (Dev.domOn_of_mctp h) hsession _
  rw [if_neg hoff, Dev.accessRead_of_none h] at hreg
  exact congrArg (fun e => Host.Outcome.next (State.mk c e q)) hreg

/-- CMP and SEAM have no read that latches. -/
theorem wordRead_plain {off : Nat} (h : off / deckSpan = 4 ∨ off / deckSpan = 9) (c : Clock) (d : Dev) :
    wordRead c off d = { d with rdata := shownWord c d off } := by
  have hlow : off < deckBase ∧ 0x400000 ≤ off ∧ off ≠ 0x70000C ∧ off ≠ 0xA00040 := by
    simp only [deckSpan, deckBase] at h ⊢
    omega
  obtain ⟨hdev, hbase, hsig, hrec⟩ := hlow
  have hsnap : ¬(deckBase ≤ off ∧ (off - deckBase) % deckSpan = 0x10) := fun hd => absurd hd.1 (Nat.not_le.2 hdev)
  rw [wordRead, if_neg (by omega), if_neg (by omega), if_neg (by omega), if_neg hsig, if_neg hrec, if_neg hsnap]

/-- Bytes 4 to 7 of an answer are those of its second part. -/
theorem patched_word (rest : Nat → Byte) (x : Byte) (v : Nat) :
    ((patched 32 rest [(0, [x]), (4, le 4 v)]).drop 4).take 4 = le 4 v := rfl

/-! ### The statement -/

/-- A write that nothing stands against and that reaches its word as a plain one. -/
theorem Dev.access_written {d : Dev} {via : Via} {off v : Nat} {c : Clock} {o : BusObs} (h : d.deny via true off 4 = none)
    (hw : ∀ x, WordWritten off v { d with who := x } (wordWrite c off v o { d with who := x })) :
    WordWritten off v d (d.access c via off 4 (wordWrite c off v o)) := by
  rw [Dev.access_of_none h]
  exact (hw _).of_who

/-- A word without special effects, written through any path. -/
theorem access_plain {d : Dev} {via : Via} {off : Nat} (h : d.deny via true off 4 = none)
    (hblk : off / deckSpan = 4 ∨ off / deckSpan = 9 ∨ off / deckSpan = 3 ∨ (off / deckSpan = 0 ∧ (off < 0x300 ∨ 0x310 ≤ off)))
    (hctl : off % deckSpan ≠ 0xFF00) (hsel : d.selected off = some off) (c : Clock) (v : Nat) (o : BusObs) :
    WordWritten off v d (d.access c via off 4 (wordWrite c off v o)) := by
  obtain ⟨⟨r, i⟩, hr⟩ := Option.isSome_iff_exists.1 ((d.deny_none_iff ..).1 h).2.2.2.2.1
  refine Dev.access_written h fun x => ?_
  have hsel' : Dev.selected { d with who := x } off = some off := hsel
  rw [wordWrite_plain hblk hctl hsel']
  exact classWrite_written hr (WordRule.plain_default _) v _

/-- A word of a deck that stands still. -/
theorem access_deck {d : Dev} {via : Via} {n : Fin 16} {t : Nat} (h : d.deny via true (deckOff n t) 4 = none)
    (ht : t = 4 ∨ t = 0x10018 ∨ t = 0x5001C ∨ t = 0x80008 ∨ t = 0x60020) (hsld : d.sldSt n = slDISABLED) (hspn : d.spnSt n = spOFF)
    (c : Clock) (v : Nat) (o : BusObs) :
    WordWritten (deckOff n t) v d (d.access c via (deckOff n t) 4 (wordWrite c (deckOff n t) v o)) := by
  obtain ⟨⟨r, i⟩, hr⟩ := Option.isSome_iff_exists.1 ((d.deny_none_iff ..).1 h).2.2.2.2.1
  have hspan : t < deckSpan := by
    simp only [deckSpan]
    omega
  refine Dev.access_written h fun x => ?_
  rw [wordWrite_deck n hspan]
  obtain ⟨run, hcase, hword⟩ := deckWrite_plain n ht (d := { d with who := x }) hsld hspn c v
  rw [hword]
  refine deckWord_written hr (fun f hf hacc => hcase.elim id fun hinit => ?_) v _
  subst hinit
  have hall := loopInit_fields n
  rw [hr] at hall
  simp only [Option.all_some, List.all_eq_true, beq_iff_eq] at hall
  exact absurd (hall f hf) (by simp [hacc])

/-- Settles O14: each path ends in one word written under a plain rule, or read as it is shown. -/
theorem registerWordWrites : Obligations.RegisterWordWrites := by
  unfold Obligations.RegisterWordWrites
  refine ⟨?block, ?deck, ?mctpWrite, ?mctpRead⟩
  case block =>
    intro c d q link off v o h hblk hctl hsel
    exact ⟨_, exec_regWrite .., access_plain h hblk hctl hsel c v.toNat o⟩
  case deck =>
    rintro c d q link n t v o h ht ⟨hsld, hspn⟩
    exact ⟨_, exec_regWrite .., access_deck h ht hsld hspn c v.toNat o⟩
  case mctpWrite =>
    intro c d q pcie dw v o h hsession hrun hblk hctl hsel
    obtain ⟨hclass, hkeys, hframe⟩ := access_plain h (by tauto) hctl hsel c v.toNat o
    refine ⟨_, exec_registerWrite hrun hsession h c q v o, fun r i f hr hf => (hclass r i f hr hf).congr ⟨rfl, rfl⟩ ⟨rfl, rfl⟩,
      hkeys, ?_⟩
    rw [miReply, hframe]
  case mctpRead =>
    intro c d q pcie dw h hsession hrun hblk
    refine ⟨_, exec_registerRead hrun hsession h c q, ?_⟩
    rw [wordRead_plain hblk]
    exact ⟨rfl, patched_word .., rfl⟩

end Sys2Proof.Machine
end

section
/-! SUPPORT. The work of an epoch boundary: time passes, a due commit is decided, self-test looks at what waits (R17 to R22, R594). -/

open Sys2Proof Sys2Proof.Machine

namespace Sys2Proof.Machine

/-! ### What time changes (R51, R66) -/

/-- Only what decks hold beside their registers, and ages, may differ. -/
def TimeOnly (d e : Dev) : Prop := ∃ k a, e = { d with decks := k, ages := a }

theorem TimeOnly.refl (d : Dev) : TimeOnly d d := ⟨_, _, rfl⟩

theorem TimeOnly.trans {d e f : Dev} (h : TimeOnly d e) (h' : TimeOnly e f) : TimeOnly d f := by
  obtain ⟨k, a, rfl⟩ := h
  obtain ⟨k', a', rfl⟩ := h'
  exact ⟨k', a', rfl⟩

theorem TimeOnly.onDeck (d : Dev) (n : Nat) (g : Deck → Deck) : TimeOnly d (d.onDeck n g) := ⟨_, _, rfl⟩

theorem TimeOnly.eachDeck {f : Nat → Dev → Dev} (h : ∀ n d, TimeOnly d (f n d)) (d : Dev) : TimeOnly d (d.eachDeck f) := by
  unfold Dev.eachDeck
  induction List.range 16 generalizing d with
  | nil => exact .refl d
  | cons n l ih => exact (h n d).trans (ih (f n d))

theorem Dev.waitNote_timeOnly (c : Clock) (d : Dev) : TimeOnly d (d.waitNote c) := by
  unfold Dev.waitNote
  extract_lets one e
  have hone : ∀ n d, TimeOnly d (one n d) := fun n d => by
    unfold one
    extract_lets due
    split
    · exact .refl d
    · exact .onDeck ..
  have he : TimeOnly d e := .eachDeck hone d
  split
  · exact he
  · exact he.trans ⟨_, _, rfl⟩

theorem Dev.tickNote_timeOnly (c c' : Clock) (k n : Nat) (d : Dev) : TimeOnly d (d.tickNote c c' k n) := by
  unfold Dev.tickNote
  exact (TimeOnly.onDeck ..).trans (.onDeck ..)

theorem Dev.primerTick_timeOnly (k n : Nat) (d : Dev) : TimeOnly d (d.primerTick k n) := by
  unfold Dev.primerTick
  split
  · exact .onDeck ..
  · exact .refl d

theorem Dev.deckOlder_timeOnly (c c' : Clock) (k n : Nat) (d : Dev) : TimeOnly d (d.deckOlder c c' k n) := by
  unfold Dev.deckOlder
  split
  · exact .refl d
  · exact .onDeck ..

/-- Ticks leave registers, commits, host and everything else but decks and ages alone. -/
theorem ticks_timeOnly (k : Nat) (c : Clock) (d : Dev) : TimeOnly d (ticks k c d).2 := by
  have hold : TimeOnly (d.waitNote c) ((d.waitNote c).older k) := ⟨_, _, rfl⟩
  unfold ticks
  dsimp only
  refine ((Dev.waitNote_timeOnly c d).trans hold).trans (.eachDeck (fun n d => ?_) _)
  refine .trans (.trans ?_ (Dev.primerTick_timeOnly k n _)) (Dev.deckOlder_timeOnly ..)
  split
  · exact .refl d
  · exact Dev.tickNote_timeOnly ..

/-! ### Registers that a commit does not see -/

/-- Keys that matter to commits: staged-class fields, and the words COMMIT_CTL and COMMIT_STS of any block. -/
def commitSees (k : Nat) : Bool := accOf k == .rws || k / 32 % deckSpan == 0xFF00 || k / 32 % deckSpan == 0xFF04

/-- Every field that matters to commits has the value in force it had. -/
def StatusOnly (d e : Dev) : Prop :=
  ∀ k, commitSees k = true → FMap.get resetOf e.regs k = FMap.get resetOf d.regs k

theorem StatusOnly.trans {d e f : Dev} (h : StatusOnly d e) (h' : StatusOnly e f) : StatusOnly d f :=
  fun k hk => (h' k hk).trans (h k hk)

theorem RegsOnly.statusOnly {l : List Fld} {d e : Dev} (h : RegsOnly l d e) (hl : ∀ f ∈ l, commitSees f.key = false) :
    StatusOnly d e := by
  refine fun k hk => h k fun hm => ?_
  obtain ⟨f, hf, rfl⟩ := List.mem_map.1 hm
  rw [hl f hf] at hk
  cases hk

/-- A change that no commit sees: status registers and what is no part of commits. -/
structure CommitKept (d e : Dev) : Prop where
  status : StatusOnly d e
  staged : e.staged = d.staged
  pend : e.blkPend = d.blkPend
  led : e.led = d.led

theorem CommitKept.of_regs_eq {d e : Dev} (hr : e.regs = d.regs) (hs : e.staged = d.staged := by rfl)
    (hp : e.blkPend = d.blkPend := by rfl) (hl : e.led = d.led := by rfl) : CommitKept d e := ⟨fun _ _ => by rw [hr], hs, hp, hl⟩

theorem CommitKept.refl (d : Dev) : CommitKept d d := .of_regs_eq rfl

theorem CommitKept.trans {d e f : Dev} (h : CommitKept d e) (h' : CommitKept e f) : CommitKept d f :=
  ⟨h.status.trans h'.status, h'.staged.trans h.staged, h'.pend.trans h.pend, h'.led.trans h.led⟩

theorem CommitKept.onLane (d : Dev) (n l : Nat) (g : LaneSt → LaneSt) : CommitKept d (d.onLane n l g) := .of_regs_eq rfl

theorem CommitKept.since (n key : Nat) (d : Dev) : CommitKept d (d.since n key) := .of_regs_eq rfl

theorem CommitKept.onUnit (u : Nat) (g : TUnit → TUnit) (d : Dev) : CommitKept d (d.onUnit u g) := .of_regs_eq rfl

theorem CommitKept.onVisits (g : List Visit → List Visit) (d : Dev) : CommitKept d (d.onVisits g) := .of_regs_eq rfl

theorem CommitKept.queue (d : Dev) (q : List Visit) : CommitKept d { d with tst := { d.tst with queue := q } } := .of_regs_eq rfl

theorem CommitKept.foldl {α : Type} {f : Dev → α → Dev} (h : ∀ d x, CommitKept d (f d x)) (l : List α) (d : Dev) :
    CommitKept d (l.foldl f d) := by
  induction l generalizing d with
  | nil => exact .refl d
  | cons x l ih => exact (h d x).trans (ih (f d x))

theorem CommitKept.sets (d : Dev) {fs : List Fld} (h : ∀ f ∈ fs, commitSees f.key = false) {l : List (Fld × Nat)}
    (hfs : l.map Prod.fst = fs := by rfl) : CommitKept d (d.sets l) := by
  rw [Dev.sets_eq]
  exact ⟨(RegsOnly.sets d l hfs).statusOnly h, rfl, rfl, rfl⟩

theorem CommitKept.set (d : Dev) {f : Fld} (h : commitSees f.key = false) (v : Nat) : CommitKept d (d.set f v) :=
  .sets d (List.forall_mem_singleton.2 h) (l := [(f, v)])

/-- The register at an offset of a deck's window is that of deck 0 (R23). -/
theorem regAt_deck {n : Nat} (hn : n < 16) {t : Nat} (ht : t < deckSpan) :
    regAt (deckOff n t) = findRow (deckBase + t) deckRegs := by
  have hin : deckOff n t % selSpan = deckOff n t := by
    simp only [deckOff, deckBase, deckSpan, selSpan] at ht ⊢
    omega
  have hlow : ¬deckOff n t < deckBase := by
    unfold deckOff
    omega
  have hhigh : deckOff n t < deckBase + 16 * deckSpan := by
    simp only [deckOff, deckBase, deckSpan] at ht ⊢
    omega
  have hmod : (deckOff n t - deckBase) % deckSpan = t := by
    simp only [deckOff, deckBase, deckSpan] at ht ⊢
    omega
  unfold regAt
  dsimp only
  rw [hin, if_neg hlow, if_pos hhigh, hmod]

theorem deckOff_zero (t : Nat) : deckOff 0 t = deckBase + t := by rw [deckOff, Nat.zero_mul, Nat.add_zero]

/-- Which keys matter to commits follows from the register, the bit, and the place in the block. -/
theorem commitSees_congr {k k' : Nat} (hreg : regAt (k / 32) = regAt (k' / 32)) (hlo : k % 32 = k' % 32)
    (hmod : k / 32 % deckSpan = k' / 32 % deckSpan) : commitSees k = commitSees k' := by
  rw [commitSees, commitSees, accOf, accOf, hreg, hlo, hmod]

/-- It is the same for every deck. -/
theorem commitSees_deck {n : Nat} (hn : n < 16) {t lo : Nat} (ht : t < deckSpan) (hlo : lo < 32) :
    commitSees (deckOff n t * 32 + lo) = commitSees ((deckBase + t) * 32 + lo) := by
  have hdiv : ∀ off, (off * 32 + lo) / 32 = off := fun off => by omega
  have hrem : ∀ off, (off * 32 + lo) % 32 = lo := fun off => by omega
  have hzero := regAt_deck (n := 0) (by decide) ht
  rw [deckOff_zero] at hzero
  have hmod : deckOff n t % deckSpan = (deckBase + t) % deckSpan := by
    simp only [deckOff, deckBase, deckSpan]
    omega
  apply commitSees_congr
  · rw [hdiv, hdiv, regAt_deck hn ht, hzero]
  · rw [hrem, hrem]
  · rw [hdiv, hdiv, hmod]

/-- Words and low bits of the status of lane 0 of a deck: LOOP_VAL, FREQ of TR_STS, STATE (R145, R146, R148). -/
def laneStatus : List (Nat × Nat) :=
  [(0x10020, 0), (0x10020, 8), (0x10020, 16), (0x10024, 16), (0x10028, 0), (0x10028, 8), (0x10028, 15)]

theorem laneStatus_unseen : ∀ l < 66, ∀ g ∈ laneStatus,
    g.1 + l * 0x40 < deckSpan ∧ g.2 < 32 ∧ commitSees ((deckBase + (g.1 + l * 0x40)) * 32 + g.2) = false := by
  decide +kernel

/-- The status of a lane is no part of commits. -/
theorem lane_status {n : Nat} (hn : n < 16) {l : Nat} (hl : l < 66) {o lo w : Nat} (hg : (o, lo) ∈ laneStatus) :
    commitSees (Fld.key ⟨0x1000000 + n * 0x100000 + o + l * 0x40, lo, w⟩) = false := by
  obtain ⟨hspan, hlo, hsees⟩ := laneStatus_unseen l hl _ hg
  rw [← hsees, ← commitSees_deck hn hspan hlo, Fld.key, deckOff, deckBase, deckSpan, Nat.add_assoc _ o]

theorem lane_loops_status {n : Nat} (hn : n < 16) {l : Nat} (hl : l < 66) :
    ∀ f ∈ [Reg.LANE_LOOP_VAL_GAIN n l, Reg.LANE_LOOP_VAL_OFS n l, Reg.LANE_LOOP_VAL_ASYM n l, Reg.LANE_TR_STS_FREQ n l],
      commitSees f.key = false := by
  rw [List.forall_mem_cons, List.forall_mem_cons, List.forall_mem_cons, List.forall_mem_singleton]
  exact ⟨lane_status hn hl (by decide), lane_status hn hl (by decide), lane_status hn hl (by decide), lane_status hn hl (by decide)⟩

theorem lane_state_status {n : Nat} (hn : n < 16) {l : Nat} (hl : l < 66) :
    commitSees (Reg.LANE_STATE_LSTATE n l).key = false ∧ commitSees (Reg.LANE_STATE_SRC n l).key = false ∧
      commitSees (Reg.LANE_STATE_STBY n l).key = false :=
  ⟨lane_status hn hl (by decide), lane_status hn hl (by decide), lane_status hn hl (by decide)⟩

theorem spare_status : ∀ n < 16, ∀ s < 2, commitSees (Reg.LANE_SPARE_CTL_TST_OWN n s).key = false := by
  decide +kernel

theorem engine_status : ∀ e < 36, commitSees (Reg.CMP_ENG_STS_STATE e).key = false := by
  decide +kernel

theorem test_status : ∀ f ∈ [Reg.TST_STS_IN_TEST, Reg.TST_STS_ROWS_USED, Reg.TST_STS_FULL], commitSees f.key = false := by
  decide +kernel

theorem ledger_status : ∀ f ∈ [Reg.SEC_LEDGER_STS_BUFFERED, Reg.SEC_LEDGER_STS_FULL, Reg.SEC_LEDGER_STS_FIRST_CP,
    Reg.SEC_LEDGER_SEQ_SEQ_LO], commitSees f.key = false := by decide +kernel

theorem fault_status : ∀ f ∈ [Reg.FLT_STS_LOST], commitSees f.key = false := by decide +kernel

/-! ### Self-test looks at what waits (R594) -/

theorem tstShow_regsOnly (d : Dev) :
    RegsOnly [Reg.TST_STS_IN_TEST, Reg.TST_STS_ROWS_USED, Reg.TST_STS_FULL] d (tstShow d) := RegsOnly.sets d _

theorem tstShow_kept (d : Dev) : CommitKept d (tstShow d) := .sets d test_status

theorem laneWake_kept (d : Dev) (n l : Nat) : CommitKept d (d.laneWake n l) := by
  unfold Dev.laneWake
  split
  · exact .refl d
  · exact (CommitKept.onLane ..).trans (.since ..)

theorem laneFit_kept {n l : Nat} (hn : n < 16) (hl : l < 66) (d : Dev) : CommitKept d (d.laneFit n l) := by
  have hstby := CommitKept.set d (lane_state_status hn hl).2.2 1
  unfold Dev.laneFit
  split
  · exact .refl d
  · split
    · split
      · exact laneWake_kept d n l
      · exact .refl d
    · extract_lets e
      split
      · exact hstby.trans (.onLane ..)
      · exact hstby

theorem laneTo_kept {n l : Nat} (hn : n < 16) (hl : l < 66) (st src : Nat) (d : Dev) : CommitKept d (laneTo n l st src d) :=
  ((CommitKept.set d (lane_state_status hn hl).1 st).trans (.set _ (lane_state_status hn hl).2.1 src)).trans
    (laneFit_kept hn hl _)

theorem copyLoops_kept {n dst : Nat} (hn : n < 16) (hl : dst < 66) (src : Nat) (d : Dev) :
    CommitKept d (copyLoops n src dst d) := by
  unfold copyLoops
  exact (CommitKept.sets d (lane_loops_status hn hl)).trans (.onLane ..)

theorem ustate_kept (u st : Nat) (d : Dev) : CommitKept d (d.ustate u st) := .onUnit ..

/-- Where the units of each kind lie (R26, R592). -/
theorem tstKind_range {u : Nat} :
    (tstKind u = 1 → unitDeck u < 16 ∧ unitLane u < 64) ∧ (tstKind u = 2 → unitDeck u < 16 ∧ 64 ≤ unitLane u ∧ unitLane u < 66) ∧
      (tstKind u = 5 → u - 1192 < 36) := by
  unfold tstKind unitDeck unitLane
  split_ifs <;> simp <;> omega

/-- An engine that leaves its pool changes its own state only. -/
theorem engineOut_kept {u : Nat} {d e : Dev} (h : engineOut u d = some e) : CommitKept d e := by
  unfold engineOut at h
  dsimp only at h
  split at h
  · split at h
    · cases h
      exact .of_regs_eq rfl
    · cases h
  · split at h
    · cases h
      exact .of_regs_eq rfl
    · cases h
  · rename_i hkind
    split at h
    · cases h
      exact .set d (engine_status _ (tstKind_range.2.2 hkind)) 2
    · cases h
  · cases h

/-- The spare a visit takes is one of a deck's two. -/
theorem tstSpare_lt {d : Dev} {n s : Nat} (h : tstSpare d n = some s) : s < 2 := by
  have := List.mem_of_find?_eq_some h
  simp only [List.mem_cons, List.not_mem_nil, or_false] at this
  omega

/-- A visit that starts changes lanes, engines and units, and nothing that commits see. -/
theorem visitStart_kept {v : Visit} {d e : Dev} (h : visitStart v d = some e) : CommitKept d e := by
  have reset := CommitKept.onUnit v.unit (fun t => { t with slice := 0, again := false }) d
  unfold visitStart at h
  extract_lets u n k lanes add reset' busy s lower g at h
  have hadd : ∀ w d, CommitKept d (add w d) := fun w d => .onVisits ..
  split at h
  · rename_i hkind
    obtain ⟨hn, hk⟩ := tstKind_range.1 hkind
    split at h
    · cases h
    · split at h
      · cases h
        exact ((reset.trans (laneTo_kept hn (by omega) _ _ _)).trans (hadd ..)).trans (ustate_kept ..)
      · split at h
        · rename_i s' hs
          have hs := tstSpare_lt hs
          split at h
          · cases h
          · cases h
            exact ((((reset.trans (copyLoops_kept hn (by omega) _ _)).trans (laneTo_kept hn (by omega) _ _ _)).trans (hadd ..)).trans
              (ustate_kept ..)).trans (.set _ (spare_status _ hn _ hs) 1)
        · cases h
  · rename_i hkind
    obtain ⟨hn, hk, hk'⟩ := tstKind_range.2.1 hkind
    split at h
    · cases h
    · cases h
      exact ((reset.trans (hadd ..)).trans (ustate_kept ..)).trans (.set _ (spare_status _ hn _ (by omega)) 1)
  · split at h
    · cases h
    · split at h
      · cases h
        exact (reset.trans (hadd ..)).trans (ustate_kept ..)
      · split at h
        · cases h
          exact (reset.trans (hadd ..)).trans (ustate_kept ..)
        · cases h
  · split at h
    · cases h
    · cases h
      exact (reset.trans (hadd ..)).trans (ustate_kept ..)
  · cases h
  · split at h
    · cases h
    · split at h
      · rename_i e' he
        cases h
        exact ((reset.trans (engineOut_kept he)).trans (hadd ..)).trans (ustate_kept ..)
      · cases h

/-- Self-test's queue and its visits between slices. -/
theorem tstPump_kept (d : Dev) : CommitKept d (tstPump d) := by
  unfold tstPump
  extract_lets d1 d2
  have h1 : CommitKept d d1 := by
    refine .foldl (fun d v => ?_) _ d
    split
    · rename_i e he
      exact ((engineOut_kept he).trans (.onVisits ..)).trans (ustate_kept ..)
    · exact .refl d
  have h2 : CommitKept d1 d2 := by
    refine .foldl (fun d v => ?_) _ d1
    split
    · rename_i e he
      exact .trans (.queue d _) (visitStart_kept he)
    · exact .refl d
  exact (h1.trans h2).trans (tstShow_kept d2)

/-- A visit is queued. -/
theorem tstQueue_kept (v : Visit) (head : Bool) (d : Dev) : CommitKept d (tstQueue v head d) := by
  unfold tstQueue
  dsimp only
  split
  · exact .refl d
  · split
    · split
      · exact .onVisits ..
      · exact .refl d
    · split
      · exact (CommitKept.queue ..).trans (tstPump_kept _)
      · split
        · exact (CommitKept.queue ..).trans (tstPump_kept _)
        · exact .refl d

theorem tstRetry_kept (c : Clock) (d : Dev) : CommitKept d (tstRetry c d) :=
  .foldl (fun d e => by
    split
    · split
      · exact .refl d
      · exact (CommitKept.onUnit ..).trans (tstQueue_kept ..)
    · exact .refl d) _ d

theorem tstSwapped_of_no_visits {d : Dev} (h : d.tst.visits = []) (c : Clock) : tstSwapped c d = d := by
  rw [tstSwapped, h, List.foldl_nil]

/-- With no visit on its way, what self-test does at a boundary is nothing that commits see. -/
theorem tstPoll_kept {d : Dev} (h : d.tst.visits = []) (c : Clock) : CommitKept d (tstPoll c d) := by
  rw [tstPoll, tstSwapped_of_no_visits h]
  exact (tstRetry_kept c d).trans (tstPump_kept _)

/-- With nothing queued and nothing to retry, self-test only shows its counts. -/
theorem tstPoll_idle {d : Dev} (hv : d.tst.visits = []) (hq : d.tst.queue = []) (hr : ∀ u ∈ d.tst.units, u.2.retry = none)
    (c : Clock) : tstPoll c d = tstShow d := by
  have hretry : tstRetry c d = d := by
    unfold tstRetry
    generalize d.tst.units = l at hr
    induction l with
    | nil => rfl
    | cons u l ih =>
      rw [List.foldl_cons, hr u (List.mem_cons_self ..)]
      exact ih fun x hx => hr x (List.mem_cons_of_mem _ hx)
  rw [tstPoll, tstSwapped_of_no_visits hv, hretry, tstPump, hv]
  simp only [List.filter_nil, List.foldl_nil, hq]

end Sys2Proof.Machine
end

section
/-! SUPPORT. The decision of a device-wide commit at its epoch boundary (R17, R19, R20, R22, R42, R644). -/

open Sys2Proof Sys2Proof.Machine

namespace Sys2Proof.Machine

/-! ### Putting a pending set in force (R19) -/

/-- A table after a list of entries with different keys is put into it. -/
theorem FMap.get_foldl_ins {α : Type} (dflt : Nat → α) {vals : FMap α} (h : vals.Pairwise (fun x y => x.1 < y.1)) (m : FMap α)
    (k : Nat) : FMap.get dflt (vals.foldl (fun m e => m.ins e.1 e.2) m) k =
      if k ∈ vals.map Prod.fst then FMap.get dflt vals k else FMap.get dflt m k := by
  induction vals generalizing m with
  | nil => rfl
  | cons e t ih =>
    obtain ⟨k', v⟩ := e
    rw [List.pairwise_cons] at h
    rw [List.foldl_cons, ih h.2]
    by_cases hk : k = k'
    · subst hk
      have hnot : k ∉ t.map Prod.fst := fun hm => by
        obtain ⟨x, hx, hxk⟩ := List.mem_map.1 hm
        exact absurd (h.1 x hx) (by omega)
      have hmem : k ∈ ((k, v) :: t).map Prod.fst := List.mem_cons_self ..
      rw [if_neg hnot, FMap.get_ins_self, if_pos hmem, FMap.get, if_pos rfl]
    · rw [FMap.get_ins_ne _ _ _ hk, FMap.get, if_neg (Ne.symm hk)]
      have hmem : k ∈ ((k', v) :: t).map Prod.fst ↔ k ∈ t.map Prod.fst := List.mem_cons.trans (or_iff_right hk)
      rw [if_congr hmem rfl rfl]

/-- A key that is not listed has the table's default. -/
theorem FMap.get_of_not_mem {α : Type} (dflt : Nat → α) {m : FMap α} {k : Nat} (h : k ∉ m.map Prod.fst) :
    FMap.get dflt m k = dflt k := by
  induction m with
  | nil => rfl
  | cons e t ih =>
    rw [List.map_cons, List.mem_cons, not_or] at h
    rw [FMap.get, if_neg (Ne.symm h.1), ih h.2]

/-- A filter by keys leaves a kept key's value, and a dropped key its default. -/
theorem FMap.get_filter_key {α : Type} (dflt : Nat → α) (p : Nat → Bool) (m : FMap α) (k : Nat) :
    FMap.get dflt (m.filter fun e => p e.1) k = if p k then FMap.get dflt m k else dflt k := by
  induction m with
  | nil => simp [FMap.get]
  | cons e t ih =>
    obtain ⟨k', v⟩ := e
    rw [List.filter_cons]
    by_cases hk : k' = k
    · subst hk
      split
      · rename_i hp
        rw [FMap.get, FMap.get, if_pos rfl, if_pos rfl]
      · rename_i hp
        rw [ih, if_neg hp]
    · rw [FMap.get, if_neg hk]
      split
      · rw [FMap.get, if_neg hk, ih]
      · exact ih

/-- A pending set that lies in its range is put in force whole, and nothing else is. -/
theorem applySet_applied {p : Nat → Bool} {vals : FMap Nat} (hvals : vals.Pairwise (fun x y => x.1 < y.1))
    (hin : ∀ x ∈ vals, p x.1 = true ∧ accOf x.1 = .rws) (d : Dev) : Applied p vals d (d.applySet p vals) := by
  intro k hk
  rw [Dev.applySet]
  dsimp only
  rw [FMap.get_foldl_ins _ hvals, FMap.get_filter_key resetOf (fun k => !(p k && accOf k == .rws)), hk]
  by_cases hmem : k ∈ vals.map Prod.fst
  · obtain ⟨x, hx, rfl⟩ := List.mem_map.1 hmem
    rw [if_pos hmem, if_pos (hin x hx).1]
  · rw [if_neg hmem]
    cases hp : p k with
    | true => simp [FMap.get_of_not_mem resetOf hmem]
    | false => simp

/-! ### A commit's end is shown (R21, R22) -/

/-- The fields that show the end of a block's commit. -/
def blkFields (base : Nat) : List Fld := [Reg.BLK_COMMIT_CTL_REQ base, Reg.BLK_COMMIT_STS_RESULT base, Reg.BLK_COMMIT_STS_RULE base,
  Reg.BLK_COMMIT_STS_EPOCH_LSB base, Reg.BLK_COMMIT_STS_DIRTY base]

theorem blkFields_nodup (base : Nat) : ((blkFields base).map Fld.key).Nodup := by
  simp [blkFields, Fld.key, Reg.BLK_COMMIT_CTL_REQ, Reg.BLK_COMMIT_STS_RESULT, Reg.BLK_COMMIT_STS_RULE,
    Reg.BLK_COMMIT_STS_EPOCH_LSB, Reg.BLK_COMMIT_STS_DIRTY]
  omega

/-- None of them is staged, and commits see COMMIT_CTL and COMMIT_STS of every block. -/
theorem blkFields_class : ∀ base ∈ blkBases, ∀ f ∈ blkFields base, accOf f.key ≠ .rws := by
  decide +kernel

theorem blkFields_seen : ∀ base ∈ blkBases, ∀ f ∈ blkFields base, commitSees f.key = true := by
  decide +kernel

/-- A block's commit has ended: nothing pends, the registers show how, and no staged field's value in force has changed. -/
structure Decided (base result rule : Nat) (d e : Dev) : Prop where
  rws : RwsKept d e
  staged : e.staged = d.staged
  pend : e.blkPend = d.blkPend.ins base none
  req : e.get (Reg.BLK_COMMIT_CTL_REQ base) = 0
  result : e.get (Reg.BLK_COMMIT_STS_RESULT base) = result % 2 ^ 4
  rule : e.get (Reg.BLK_COMMIT_STS_RULE base) = rule % 2 ^ 16

theorem blkShow_decided {base : Nat} (hb : base ∈ blkBases) (c : Clock) (result rule : Nat) (d : Dev) :
    Decided base result rule d (blkShow c base result rule d) := by
  have hkeys := blkFields_nodup base
  refine ⟨fun k hk => ?_, ?_, ?_, ?_, ?_, ?_⟩
  · have hnot : k ∉ (blkFields base).map Fld.key := fun hm => by
      obtain ⟨f, hf, rfl⟩ := List.mem_map.1 hm
      exact blkFields_class base hb f hf hk
    exact (RegsOnly.sets (fs := blkFields base) _ _) k hnot
  · rw [blkShow, Dev.sets_eq]
  · rw [blkShow, Dev.sets_eq]
  · exact Dev.get_sets_of_mem _ hkeys (.head _)
  · exact Dev.get_sets_of_mem _ hkeys (.tail _ (.head _))
  · exact Dev.get_sets_of_mem _ hkeys (.tail _ (.tail _ (.head _)))

theorem commitSees_of_rws {k : Nat} (h : accOf k = .rws) : commitSees k = true := by simp [commitSees, h]

/-- What commits do not see leaves a decision as it is. -/
theorem Decided.mono {base result rule : Nat} (hb : base ∈ blkBases) {d e f : Dev} (h : Decided base result rule d e)
    (hs : StatusOnly e f) (hst : f.staged = e.staged) (hp : f.blkPend = e.blkPend) : Decided base result rule d f := by
  have seen : ∀ g ∈ blkFields base, f.get g = e.get g := fun g hg => hs _ (blkFields_seen base hb g hg)
  exact ⟨fun k hk => (hs k (commitSees_of_rws hk)).trans (h.rws k hk), hst.trans h.staged, hp.trans h.pend,
    (seen _ (.head _)).trans h.req, (seen _ (.tail _ (.head _))).trans h.result, (seen _ (.tail _ (.tail _ (.head _)))).trans h.rule⟩

/-- An entry changes status registers and the ledger. -/
theorem blkEntry_frame (c : Clock) (base res : Nat) (who : Who) (old new : List Byte) (d : Dev) :
    StatusOnly d (blkEntry c base res who old new d) ∧
      blkEntry c base res who old new d = { d with
        regs := (blkEntry c base res who old new d).regs, led := (blkEntry c base res who old new d).led } := by
  unfold blkEntry Dev.ledEvent
  split
  · exact ⟨fun _ _ => rfl, rfl⟩
  · refine ⟨?_, Dev.ledAdd_eq ..⟩
    unfold Dev.ledAdd Dev.ledShow
    extract_lets e
    exact fun k hk => (CommitKept.sets _ ledger_status).status k hk

/-- With room in the ledger an entry is made. -/
theorem blkEntry_next {d : Dev} (h : d.ledFull = false) (c : Clock) (base res : Nat) (who : Who) (old new : List Byte) :
    (blkEntry c base res who old new d).led.next = d.led.next + 1 := by
  rw [blkEntry, Dev.ledEvent, h, if_neg Bool.false_ne_true, Dev.ledAdd, Dev.ledShow, Dev.sets_eq]

/-- A block's commit has been refused or put in force on a module, and entered. -/
theorem blkEntered_decided {base : Nat} (hb : base ∈ blkBases) (c : Clock) (result rule res : Nat) (who : Who) (old new : List Byte)
    (d : Dev) : Decided base result rule d (blkEntry c base res who old new (blkShow c base result rule d)) := by
  obtain ⟨hs, hframe⟩ := blkEntry_frame c base res who old new (blkShow c base result rule d)
  refine (blkShow_decided hb c result rule d).mono hb hs ?_ ?_
  · rw [hframe]
  · rw [hframe]

theorem blkShow_tst (c : Clock) (base result rule : Nat) (d : Dev) : (blkShow c base result rule d).tst = d.tst := by
  rw [blkShow, Dev.sets_eq]

theorem blkShow_led (c : Clock) (base result rule : Nat) (d : Dev) : (blkShow c base result rule d).led = d.led := by
  rw [blkShow, Dev.sets_eq]

theorem blkEntry_tst (c : Clock) (base res : Nat) (who : Who) (old new : List Byte) (d : Dev) :
    (blkEntry c base res who old new d).tst = d.tst := by
  rw [(blkEntry_frame ..).2]

/-- A commit under a reload that covers the block's resources is refused (R42). -/
theorem blkDecide_reloaded {d : Dev} {base : Nat} (hb : base ∈ blkBases) (h : d.reloadsBlock base = true) (c : Clock) (p : BlkPend) :
    Decided base 3 0 d (blkDecide c base p d) ∧ (blkDecide c base p d).tst = d.tst := by
  rw [blkDecide]
  dsimp only
  rw [if_pos h]
  exact ⟨blkEntered_decided hb .., by rw [blkEntry_tst, blkShow_tst]⟩

/-- A commit that fails a rule is refused, with a fault record (R19, R20). -/
theorem blkDecide_failed {d : Dev} {base : Nat} (hb : base ∈ blkBases) (h : d.reloadsBlock base = false) {p : BlkPend} {r : Nat}
    (hr : blkRules base (d.applySet (blkKeys base) p.vals) = some r) (c : Clock) :
    Decided base 2 r d (blkDecide c base p d) ∧ (blkDecide c base p d).tst = d.tst := by
  rw [blkDecide]
  dsimp only
  rw [if_neg (by simp [h]), hr]
  dsimp only
  refine ⟨(blkEntered_decided hb ..).mono hb ((Dev.fault_regsOnly c _ (by simp) _).statusOnly fault_status) ?_ ?_, ?_⟩
  · rw [Dev.fault_eq]
  · rw [Dev.fault_eq]
  · rw [Dev.fault_eq, blkEntry_tst, blkShow_tst]

/-- A commit whose rules hold is put in force whole, with one entry (R19, R644). -/
theorem blkDecide_applied {d : Dev} {base : Nat} (hb : base ∈ blkBases) (h : d.reloadsBlock base = false) {p : BlkPend}
    (hr : blkRules base (d.applySet (blkKeys base) p.vals) = none) (hled : d.ledFull = false) (c : Clock) :
    Decided base 1 0 (d.applySet (blkKeys base) p.vals) (blkDecide c base p d) ∧ (blkDecide c base p d).tst = d.tst ∧
      (blkDecide c base p d).led.next = d.led.next + 1 := by
  rw [blkDecide]
  dsimp only
  rw [if_neg (by simp [h]), hr]
  dsimp only
  rw [if_neg (by simp [hled])]
  refine ⟨blkEntered_decided hb .., ?_, ?_⟩
  · rw [blkEntry_tst, blkShow_tst, Dev.applySet]
  · have hroom : (blkShow c base 1 0 (d.applySet (blkKeys base) p.vals)).ledFull = false := by
      rw [Dev.ledFull, blkShow_led]
      exact hled
    rw [blkEntry_next hroom, blkShow_led, Dev.applySet]

/-! ### The boundary (R17) -/

/-- What a boundary does about one block: a commit that is due is decided. -/
def decideDue (c : Clock) (d : Dev) (b : Nat) : Dev :=
  match d.blk b with
  | some p => if p.epoch ≤ c.epoch then blkDecide c b p d else d
  | none => d

/-- Shares begin anew, and a Sanitize ends (R431, R640). -/
def sharesAnew (d : Dev) : Dev := sanitizeEnd { d with host := { d.host with moved := [], engUsed := [] } }

theorem epochWork_eq (c : Clock) (d : Dev) : epochWork c d = tstPoll c (sharesAnew (blkBases.foldl (decideDue c) d)) := by
  unfold epochWork sharesAnew
  refine congrArg (fun f => tstPoll c (sanitizeEnd { List.foldl f d blkBases with
    host := { (List.foldl f d blkBases).host with moved := [], engUsed := [] } })) ?_
  funext d b
  rfl

theorem sharesAnew_host (d : Dev) :
    sharesAnew d = { d with host := { d.host with moved := [], engUsed := [], sanitize := (sharesAnew d).host.sanitize } } := by
  unfold sharesAnew sanitizeEnd
  dsimp only
  split <;> rfl

/-- With no commit pending the blocks are passed over. -/
theorem decideDue_none {d : Dev} (h : ∀ b, d.blk b = none) (c : Clock) (l : List Nat) : l.foldl (decideDue c) d = d := by
  induction l with
  | nil => rfl
  | cons b l ih => rw [List.foldl_cons, decideDue, h b]; exact ih

/-- The one commit that pends, due, is decided in its block's turn. -/
theorem decideDue_one {d : Dev} {base : Nat} {p : BlkPend} (hp : d.blkPend = [(base, some p)]) {c : Clock} (hdue : p.epoch ≤ c.epoch)
    (hafter : (blkDecide c base p d).blkPend = d.blkPend.ins base none) {l : List Nat} (hl : base ∈ l) :
    l.foldl (decideDue c) d = blkDecide c base p d := by
  have hblk : ∀ b, d.blk b = if base = b then some p else none := fun b => by rw [Dev.blk, hp]; rfl
  have hnone : ∀ b, (blkDecide c base p d).blk b = none := fun b => by
    rw [Dev.blk, hafter, hp]
    simp [FMap.ins, FMap.get]
  induction l with
  | nil => cases hl
  | cons b l ih =>
    rw [List.foldl_cons, decideDue, hblk]
    by_cases hb : base = b
    · subst hb
      simp only [if_pos, if_pos hdue]
      exact decideDue_none hnone c l
    · rw [if_neg hb]
      exact ih ((List.mem_cons.1 hl).resolve_left hb)

/-! ### The statement -/

theorem exec_epochBoundary (c : Clock) (d : Dev) (q : List Instr) :
    exec .epochBoundary ⟨c, d, q⟩ = .next ⟨(epochBoundary c d).1, (epochBoundary c d).2, q⟩ := rfl

/-- A boundary works on the module as time has left it: with other ages, and what decks hold beside their registers. -/
theorem epochBoundary_dev (c : Clock) (d : Dev) :
    ∃ k a, (epochBoundary c d).2 = epochWork (epochBoundary c d).1 { d with decks := k, ages := a } := by
  obtain ⟨k, a, he⟩ := ticks_timeOnly (epochTicks - c.tick % epochTicks) c d
  exact ⟨k, a, by rw [epochBoundary, he]⟩

/-- The rules of a block read registers, controllers and the plait, which time leaves alone. -/
theorem blkRules_time (base : Nat) (d : Dev) (k : FMap Deck) (a : FMap Nat) :
    blkRules base { d with decks := k, ages := a } = blkRules base d := by
  unfold blkRules
  rfl

/-- A commit is due at the boundary it waits for, where the tick does not wrap. -/
theorem due_at_boundary {c : Clock} {p : BlkPend} (hdue : p.epoch * epochTicks ≤ c.tick + (epochTicks - c.tick % epochTicks))
    (hwrap : c.tick + epochTicks < 2 ^ 64) (d : Dev) : p.epoch ≤ (epochBoundary c d).1.epoch := by
  rw [epochBoundary_clock, Clock.epoch, (ticks_clock ..).1, Nat.mod_eq_of_lt (by omega)]
  exact (Nat.le_div_iff_mul_le (by decide)).2 hdue

/-- At a boundary with one commit pending and due, and no visit on its way, the module ends as the decision leaves it, but for
what commits do not see. -/
theorem epochWork_one {d : Dev} {base : Nat} {p : BlkPend} (hp : d.blkPend = [(base, some p)]) (hb : base ∈ blkBases) {c : Clock}
    (hdue : p.epoch ≤ c.epoch) (hvisits : d.tst.visits = []) {result rule : Nat} {x : Dev}
    (hx : Decided base result rule x (blkDecide c base p d)) (hpend : x.blkPend = d.blkPend)
    (htst : (blkDecide c base p d).tst = d.tst) :
    Decided base result rule x (epochWork c d) ∧ (epochWork c d).led = (blkDecide c base p d).led := by
  have hfold := decideDue_one hp hdue (hpend ▸ hx.pend) hb
  have hshares := sharesAnew_host (blkDecide c base p d)
  have hkept : CommitKept (blkDecide c base p d) (epochWork c d) := by
    rw [epochWork_eq, hfold]
    refine .trans (.of_regs_eq ?_ ?_ ?_ ?_) (tstPoll_kept ?_ c) <;> rw [hshares]
    exact htst ▸ hvisits
  exact ⟨hx.mono hb hkept.status hkept.staged hkept.pend, hkept.led⟩

/-- After a decision no commit of the block pends. -/
theorem Decided.blk {base result rule : Nat} {d e : Dev} (h : Decided base result rule d e) : e.blk base = none := by
  rw [Dev.blk, h.pend, FMap.get_ins_self]

theorem Dev.reloadsBlock_of_no_reload {d : Dev} (h : d.reload = none) (base : Nat) : d.reloadsBlock base = false := by
  rw [Dev.reloadsBlock, h]

/-- Settles O13: time leaves commits alone, the decision ends in one of three ways, and self-test touches nothing of them. -/
theorem epochBoundaryDecides : Obligations.EpochBoundaryDecides := by
  unfold Obligations.EpochBoundaryDecides
  refine ⟨?quiet, ?applied, ?failed, ?reloaded⟩
  case quiet =>
    intro c d q hp hvisits hqueue hretry
    obtain ⟨k, a, hdev⟩ := epochBoundary_dev c d
    have hshares := sharesAnew_host { d with decks := k, ages := a }
    have hnone : ∀ b, Dev.blk { d with decks := k, ages := a } b = none := fun b => by rw [Dev.blk, hp]; rfl
    have hwork : epochWork (epochBoundary c d).1 { d with decks := k, ages := a } =
        tstShow (sharesAnew { d with decks := k, ages := a }) := by
      rw [epochWork_eq, decideDue_none hnone]
      apply tstPoll_idle <;> rw [hshares]
      · exact hvisits
      · exact hqueue
      · exact hretry
    refine ⟨_, _, exec_epochBoundary c d q, ?_, ?_, ?_, ?_, ?_, ?_⟩
    · rw [epochBoundary_clock, (ticks_clock ..).1]
    · rw [epochBoundary_clock, (ticks_clock ..).2.1]
    · rw [epochBoundary_clock]
    · rw [hdev, hwork, tstShow, Dev.sets_eq, hshares]
    · rw [hdev, hwork, tstShow, Dev.sets_eq, hshares]
    · rw [hdev, hwork]
      refine .trans (.refl _ ?_) (tstShow_regsOnly _)
      rw [hshares]
  case applied =>
    intro c d q base p hp hb hdue hwrap hreload hled hvisits _ _ hvals hin hrules
    obtain ⟨k, a, hdev⟩ := epochBoundary_dev c d
    obtain ⟨hdec, htst, hnext⟩ := blkDecide_applied (d := { d with decks := k, ages := a }) hb
      (Dev.reloadsBlock_of_no_reload hreload base) ((blkRules_time base (d.applySet (blkKeys base) p.vals) k a).trans hrules) hled
      (epochBoundary c d).1
    obtain ⟨hend, hledger⟩ := epochWork_one (d := { d with decks := k, ages := a }) hp hb (due_at_boundary hdue hwrap d) hvisits hdec
      rfl htst
    rw [← hdev] at hend hledger
    refine ⟨_, _, exec_epochBoundary c d q, fun key hkey => ?_, hend.blk, hend.req, hend.result, ?_⟩
    · exact (hend.rws key hkey).trans (applySet_applied hvals hin d key hkey)
    · rw [hledger, hnext]
  case failed =>
    intro c d q base p r hp hb hdue hwrap hreload hvisits _ hrules
    obtain ⟨k, a, hdev⟩ := epochBoundary_dev c d
    obtain ⟨hdec, htst⟩ := blkDecide_failed (d := { d with decks := k, ages := a }) hb
      (Dev.reloadsBlock_of_no_reload hreload base) ((blkRules_time base (d.applySet (blkKeys base) p.vals) k a).trans hrules)
      (epochBoundary c d).1
    obtain ⟨hend, _⟩ := epochWork_one (d := { d with decks := k, ages := a }) hp hb (due_at_boundary hdue hwrap d) hvisits hdec rfl htst
    rw [← hdev] at hend
    exact ⟨_, _, exec_epochBoundary c d q, hend.rws, hend.blk, hend.result, hend.rule, hend.staged⟩
  case reloaded =>
    intro c d q base p hp hb hdue hwrap hreload hvisits _
    obtain ⟨k, a, hdev⟩ := epochBoundary_dev c d
    obtain ⟨hdec, htst⟩ := blkDecide_reloaded (d := { d with decks := k, ages := a }) hb hreload (epochBoundary c d).1 p
    obtain ⟨hend, _⟩ := epochWork_one (d := { d with decks := k, ages := a }) hp hb (due_at_boundary hdue hwrap d) hvisits hdec rfl htst
    rw [← hdev] at hend
    exact ⟨_, _, exec_epochBoundary c d q, hend.rws, hend.blk, hend.result⟩

end Sys2Proof.Machine
end

section
/-! SUPPORT. Requests of a device-wide commit, its discard, and the boundary that decides it (R17, R18, R20, R21). -/

open Sys2Proof Sys2Proof.Machine

namespace Sys2Proof.Machine

/-! ### COMMIT_REQ and COMMIT_DISCARD as changes of the module (R21) -/

/-- COMMIT_REQ that nothing stands against is a request by whoever makes the access. -/
theorem exec_commitReq {d : Dev} {link : Fin 2} {b : Fin 10}
    (h : d.deny (.bar2 link) true (Reg.BLK_COMMIT_CTL_REQ (blkBase b)).off 4 = none) (c : Clock) (q : List Instr) :
    ∃ w, exec (.commitReq link b) ⟨c, d, q⟩ = .next ⟨c, blkRequest c w (blkBase b) { d with who := w }, q⟩ :=
  ⟨_, congrArg (fun e => Host.Outcome.next (State.mk c e q)) (regRow_of_none h c (blkCommitReq c (blkBase b)))⟩

/-- COMMIT_DISCARD that nothing stands against. -/
theorem exec_commitDiscard {d : Dev} {link : Fin 2} {b : Fin 10}
    (h : d.deny (.bar2 link) true (Reg.BLK_COMMIT_CTL_REQ (blkBase b)).off 4 = none) (c : Clock) (q : List Instr) :
    ∃ w, exec (.commitDiscard link b) ⟨c, d, q⟩ = .next ⟨c, blkDiscard (blkBase b) { d with who := w }, q⟩ :=
  ⟨_, congrArg (fun e => Host.Outcome.next (State.mk c e q)) (regRow_of_none h c (blkDiscard (blkBase b)))⟩

/-- A request while a commit of the block waits is ignored and flagged. -/
theorem blkRequest_of_pending {d : Dev} {base : Nat} (h : (d.blk base).isSome = true) (c : Clock) (w : Who) :
    blkRequest c w base d = d.set (Reg.BLK_COMMIT_STS_BUSY_REJ base) 1 := by
  rw [blkRequest, if_pos h]

/-- A request while none waits: the captured set waits for the first boundary at least 2,000 ticks away. -/
theorem blkRequest_of_none {d : Dev} {base : Nat} (h : d.blk base = none) (c : Clock) (w : Who) :
    blkRequest c w base d = Dev.set { d with blkPend := d.blkPend.ins base (some
      { epoch := cdiv (c.tick + 2000) epochTicks, vals := d.capture (blkKeys base), who := w }) }
      (Reg.BLK_COMMIT_CTL_REQ base) 1 := by
  rw [blkRequest, h]
  rfl

/-- The commit that waits after a request while none waited. -/
theorem blkRequest_blk {d : Dev} {base : Nat} (h : d.blk base = none) (c : Clock) (w : Who) :
    (blkRequest c w base d).blk base = some
      { epoch := cdiv (c.tick + 2000) epochTicks, vals := d.capture (blkKeys base), who := w } := by
  rw [blkRequest_of_none h, Dev.blk, Dev.set_blkPend, FMap.get_ins_self]

/-! ### Discarding staged values (R21, R77) -/

/-- The staged fields of a range take their values in force; every other staged value is kept. -/
theorem discardSet_reloaded {d : Dev} (h : d.regs.Pairwise (fun x y => x.1 < y.1)) (p : Nat → Bool) :
    Reloaded p d (d.discardSet p) := by
  intro k
  have hforce : FMap.get resetOf (d.inForceRws p) k =
      if p k && accOf k == .rws then FMap.get resetOf d.regs k else resetOf k :=
    FMap.get_filter_key resetOf (fun k => p k && accOf k == .rws) d.regs k
  have hmem : k ∈ (d.inForceRws p).map Prod.fst → p k = true ∧ accOf k = .rws := fun hm => by
    obtain ⟨x, hx, rfl⟩ := List.mem_map.1 hm
    simpa using (List.mem_filter.1 hx).2
  have hrising : (d.inForceRws p).Pairwise (fun x y => x.1 < y.1) := h.filter _
  rw [Dev.discardSet]
  dsimp only
  rw [FMap.get_foldl_ins _ hrising, FMap.get_filter_key resetOf (fun k => !p k), hforce]
  by_cases hin : k ∈ (d.inForceRws p).map Prod.fst
  · obtain ⟨hp, hacc⟩ := hmem hin
    simp [hin, hp, hacc]
  · have hreset : p k = true → accOf k = .rws → FMap.get resetOf d.regs k = resetOf k := fun hp hacc => by
      rw [← FMap.get_of_not_mem resetOf hin, hforce]
      simp [hp, hacc]
    cases hp : p k with
    | false => simp [hin]
    | true =>
      by_cases hacc : accOf k = .rws
      · simp [hin, hacc, hreset hp hacc]
      · simp [hin, hacc]

/-- Settles O12: a request or a discard is one change of the module, made by whoever makes the access. -/
theorem blockCommitRequests : Obligations.BlockCommitRequests := by
  unfold Obligations.BlockCommitRequests
  refine ⟨?request, ?busy, ?discard⟩
  case request =>
    intro c d q link b hdeny hnone
    obtain ⟨w, hexec⟩ := exec_commitReq hdeny c q
    have hblk := blkRequest_blk (d := { d with who := w }) hnone c w
    have hnew := blkRequest_of_none (d := { d with who := w }) hnone c w
    refine ⟨_, hexec, ?_, ?_, ?_, ?_, ?_⟩
    · rw [hnew, Dev.get_set_self]
      rfl
    · rw [hblk, hnew]
      rfl
    · rw [hblk, hnew]
      rfl
    · rw [hnew]
      rfl
    · rw [hnew]
      exact .trans (.refl _ rfl) (.sets _ [(Reg.BLK_COMMIT_CTL_REQ (blkBase b), 1)])
  case busy =>
    intro c d q link b hdeny hsome
    obtain ⟨w, hexec⟩ := exec_commitReq hdeny c q
    rw [blkRequest_of_pending (d := { d with who := w }) hsome] at hexec
    exact ⟨_, hexec, Dev.get_set_self .., rfl,
      .trans (.refl _ rfl) (.sets _ [(Reg.BLK_COMMIT_STS_BUSY_REJ (blkBase b), 1)])⟩
  case discard =>
    intro c d q link b hdeny hnone hrising
    obtain ⟨w, hexec⟩ := exec_commitDiscard hdeny c q
    have hnone' : ¬(Dev.blk { d with who := w } (blkBase b)).isSome = true := by
      rw [Dev.blk] at hnone ⊢
      simp [hnone]
    rw [blkDiscard, if_neg hnone'] at hexec
    exact ⟨_, hexec, discardSet_reloaded (d := { d with who := w }) hrising _, rfl⟩

/-! ### What a boundary leaves pending (R17) -/

/-- A decision, however it ends, leaves the block without a pending commit and the other blocks as they were. -/
theorem blkDecide_pend (c : Clock) (base : Nat) (p : BlkPend) (d : Dev) :
    (blkDecide c base p d).blkPend = d.blkPend.ins base none := by
  have hshow : ∀ result rule (e : Dev), (blkShow c base result rule e).blkPend = e.blkPend.ins base none := fun result rule e => by
    rw [blkShow, Dev.sets_blkPend]
  have hentry : ∀ res old new (e : Dev), (blkEntry c base res p.who old new e).blkPend = e.blkPend := fun res old new e => by
    rw [(blkEntry_frame c base res p.who old new e).2]
  have hfault : ∀ src cond (e : Dev), (e.fault c src cond).blkPend = e.blkPend := fun src cond e => by rw [Dev.fault_eq]
  rw [blkDecide]
  dsimp only
  split
  · rw [hentry, hshow]
  · split
    · rw [hfault, hentry, hshow]
    · split
      · rw [hfault, hentry, hshow]
      · rw [hentry, hshow]
        rfl

/-- Passing over a block changes the pending commit of no other. -/
theorem decideDue_blk_ne (c : Clock) (d : Dev) {b base : Nat} (h : base ≠ b) : (decideDue c d b).blk base = d.blk base := by
  unfold decideDue
  split
  · split
    · rw [Dev.blk, blkDecide_pend, FMap.get_ins_ne _ _ _ h, Dev.blk]
    · rfl
  · rfl

/-- In its block's turn a commit that is due is decided, and one that is not keeps waiting. -/
theorem decideDue_blk_self {d : Dev} {base : Nat} {p : BlkPend} (h : d.blk base = some p) (c : Clock) :
    (decideDue c d base).blk base = if p.epoch ≤ c.epoch then none else some p := by
  rw [decideDue, h]
  dsimp only
  split
  · rw [Dev.blk, blkDecide_pend, FMap.get_ins_self]
  · exact h

theorem decideDue_fold_ne (c : Clock) {base : Nat} {l : List Nat} (h : base ∉ l) (d : Dev) :
    (l.foldl (decideDue c) d).blk base = d.blk base := by
  induction l generalizing d with
  | nil => rfl
  | cons b l ih =>
    rw [List.mem_cons, not_or] at h
    rw [List.foldl_cons, ih h.2, decideDue_blk_ne c d h.1]

/-- Each block has its turn once. -/
theorem decideDue_fold (c : Clock) {base : Nat} {p : BlkPend} {l : List Nat} (hl : l.Nodup) (hb : base ∈ l) {d : Dev}
    (h : d.blk base = some p) : (l.foldl (decideDue c) d).blk base = if p.epoch ≤ c.epoch then none else some p := by
  induction l generalizing d with
  | nil => cases hb
  | cons b l ih =>
    rw [List.nodup_cons] at hl
    rw [List.foldl_cons]
    by_cases hbb : base = b
    · subst hbb
      rw [decideDue_fold_ne c hl.1, decideDue_blk_self h]
    · exact ih hl.2 ((List.mem_cons.1 hb).resolve_left hbb) ((decideDue_blk_ne c d hbb).trans h)

theorem blkBases_nodup : blkBases.Nodup := by decide

theorem blkBase_mem (b : Fin 10) : blkBase b ∈ blkBases := by
  revert b
  decide

/-! ### Self-test looks at its visits (R597, R598) -/

theorem test_command_status : ∀ f ∈ [Reg.TST_CMD_BUSY, Reg.TST_CMD_RESULT], commitSees f.key = false := by decide +kernel

/-- The end of a visit is nothing that commits see. -/
theorem visitEnd_kept (v : Visit) (result : Nat) (d : Dev) : CommitKept d (visitEnd v result d) := by
  unfold visitEnd
  extract_lets n d1 d2 d3
  have h2 : CommitKept d d2 := (CommitKept.onVisits ..).trans (.onUnit ..)
  have h3 : CommitKept d2 d3 := by
    unfold d3
    split
    · rename_i hkind
      split
      · exact .set _ (spare_status _ (tstKind_range.1 hkind).1 _ ‹_›) 0
      · exact .refl _
    · rename_i hkind
      obtain ⟨hn, hk, hk'⟩ := tstKind_range.2.1 hkind
      exact .set _ (spare_status _ hn _ (by omega)) 0
    · exact .refl _
  refine ((h2.trans h3).trans ?_).trans (tstPump_kept _)
  split
  · exact .sets _ test_command_status
  · exact .refl _

/-- A spare given back is nothing that commits see. -/
theorem spareFree_kept (v : Visit) (d : Dev) : CommitKept d (spareFree v d) := by
  unfold spareFree
  split
  · rename_i h
    split
    · exact .refl d
    · exact laneTo_kept (tstKind_range.1 h.1).1 (by omega) _ _ d
  · exact .refl d

/-- What became of the swaps that visits asked for is nothing that commits see. -/
theorem tstSwapped_kept (c : Clock) (d : Dev) : CommitKept d (tstSwapped c d) := by
  refine .foldl (fun d v => ?_) _ d
  dsimp only
  split
  · exact .refl d
  · split
    · split
      · split
        · exact visitEnd_kept v 3 d
        · exact ((ustate_kept ..).trans (.onVisits ..)).trans (tstShow_kept _)
      · exact ((CommitKept.onUnit ..).trans (spareFree_kept v _)).trans (visitEnd_kept v 3 _)
    · split
      · exact visitEnd_kept v 1 d
      · exact .refl d

/-- Self-test at a boundary is nothing that commits see, whatever visits are on their way. -/
theorem tstPoll_commitKept (c : Clock) (d : Dev) : CommitKept d (tstPoll c d) :=
  ((tstSwapped_kept c d).trans (tstRetry_kept c _)).trans (tstPump_kept _)

/-! ### The boundary that decides -/

/-- A boundary decides the commit of a block that is due, and leaves one that is not. -/
theorem epochWork_blk {d : Dev} {base : Nat} {p : BlkPend} (hb : base ∈ blkBases) (h : d.blk base = some p) (c : Clock) :
    (epochWork c d).blk base = if p.epoch ≤ c.epoch then none else some p := by
  have hpend : (epochWork c d).blkPend = (blkBases.foldl (decideDue c) d).blkPend := by
    rw [epochWork_eq, (tstPoll_commitKept c _).pend, sharesAnew_host]
  rw [Dev.blk, hpend]
  exact decideDue_fold c blkBases_nodup hb h

/-- The first boundary at least 2,000 ticks away, from the first boundary B after a tick. -/
theorem boundary_of_request {tick B : Nat} (hB : B % epochTicks = 0) (hle : B ≤ tick + epochTicks) (hlt : tick < B) :
    cdiv (tick + 2000) epochTicks * epochTicks = if tick + 2000 ≤ B then B else B + epochTicks := by
  unfold cdiv epochTicks at *
  split <;> omega

/-- Settles O8: a request names the boundary it waits for, and each boundary gives every block its turn once. -/
theorem epochOfACommit : Obligations.EpochOfACommit := by
  unfold Obligations.EpochOfACommit
  refine ⟨?request, ?boundary⟩
  case request =>
    intro c d q link b B hdeny hnone hB hle hlt
    obtain ⟨w, hexec⟩ := exec_commitReq hdeny c q
    exact ⟨_, _, hexec, blkRequest_blk (d := { d with who := w }) hnone c w, boundary_of_request hB hle hlt⟩
  case boundary =>
    intro c d q b p hp
    obtain ⟨k, a, hdev⟩ := epochBoundary_dev c d
    have hdue : p.epoch ≤ (epochBoundary c d).1.epoch ↔ p.epoch * epochTicks ≤ (epochBoundary c d).1.tick :=
      Nat.le_div_iff_mul_le (by decide)
    refine ⟨_, _, exec_epochBoundary c d q, ?_, ?_⟩
    · rw [epochBoundary_clock, (ticks_clock ..).1]
    · rw [hdev, epochWork_blk (d := { d with decks := k, ages := a }) (blkBase_mem b) hp]
      exact if_congr hdue rfl rfl

end Sys2Proof.Machine
end

section
/-! SUPPORT. The software commit of a deck: requests, ends, and the firing that decides it (R60, R62, R63, R65, R77, R78). -/

open Sys2Proof Sys2Proof.Machine

namespace Sys2Proof.Machine

/-! ### Fields of different words, and staged fields that a change keeps -/

/-- A change of a field leaves the fields of every other word as they were. -/
theorem Dev.get_set_of_off_ne (d : Dev) {f g : Fld} (v : Nat) (h : g.off ≠ f.off) (hg : g.lo < 32 := by decide)
    (hf : f.lo < 32 := by decide) : (d.set f v).get g = d.get g :=
  d.get_set_ne v (by simp only [Fld.key]; omega)

theorem RwsKept.refl (d : Dev) : RwsKept d d := fun _ _ => rfl

theorem RwsKept.trans {d e f : Dev} (h : RwsKept d e) (h' : RwsKept e f) : RwsKept d f :=
  fun k hk => (h' k hk).trans (h k hk)

theorem RegsOnly.rwsKept {l : List Fld} {d e : Dev} (h : RegsOnly l d e) (hl : ∀ f ∈ l, accOf f.key ≠ .rws) : RwsKept d e := by
  refine fun k hk => h k fun hm => ?_
  obtain ⟨f, hf, rfl⟩ := List.mem_map.1 hm
  exact hl f hf hk

theorem StatusOnly.rwsKept {d e : Dev} (h : StatusOnly d e) : RwsKept d e := fun k hk => h k (commitSees_of_rws hk)

/-- A pending set put in force gives staged-class fields the same values over any fields of other classes. -/
theorem RwsKept.applySet {d e : Dev} (h : RwsKept d e) (p : Nat → Bool) (vals : FMap Nat) :
    RwsKept (d.applySet p vals) (e.applySet p vals) := by
  have fold : ∀ (l : FMap Nat) (m m' : FMap Nat) (k : Nat), FMap.get resetOf m k = FMap.get resetOf m' k →
      FMap.get resetOf (l.foldl (fun m x => m.ins x.1 x.2) m) k = FMap.get resetOf (l.foldl (fun m x => m.ins x.1 x.2) m') k := by
    intro l
    induction l with
    | nil => exact fun _ _ _ h => h
    | cons x l ih =>
      intro m m' k hk
      refine ih _ _ k ?_
      by_cases hx : k = x.1
      · rw [hx, FMap.get_ins_self, FMap.get_ins_self]
      · rw [FMap.get_ins_ne _ _ _ hx, FMap.get_ins_ne _ _ _ hx, hk]
  intro k hk
  refine fold vals _ _ k ?_
  rw [FMap.get_filter_key resetOf (fun k => !(p k && accOf k == .rws)), FMap.get_filter_key resetOf
    (fun k => !(p k && accOf k == .rws)), h k hk]

/-- The table of fields in force stays in rising key order. -/
theorem Dev.rising_set {d : Dev} (h : d.regs.Pairwise (fun x y => x.1 < y.1)) (f : Fld) (v : Nat) :
    (d.set f v).regs.Pairwise (fun x y => x.1 < y.1) := by
  rw [Dev.set]
  dsimp only
  unfold FMap.set
  split
  · exact h.filter _
  · exact FMap.rising_ins h ..

/-! ### The words of a deck's commits (R77, R78) -/

/-- The fields that show the end of a deck's commit. -/
def deckCommitFields (n : Nat) : List Fld := [Reg.ANG_COMMIT_CTL_REQ n, Reg.ANG_COMMIT_STS_RESULT n, Reg.ANG_COMMIT_STS_SUB n,
  Reg.ANG_COMMIT_STS_RULE n, Reg.ANG_COMMIT_STS_REV_LSB n, Reg.ANG_COMMIT_STS_LATE n, Reg.ANG_COMMIT_STS_DIRTY n]

/-- The fields that a request sets. -/
def deckRequestFields (n : Nat) : List Fld :=
  [Reg.ANG_COMMIT_CTL_SUB_MASK n, Reg.ANG_COMMIT_CTL_TRIG n, Reg.ANG_COMMIT_CTL_REQ n]

theorem deckCommitFields_nodup (n : Nat) : ((deckCommitFields n).map Fld.key).Nodup := by
  simp [deckCommitFields, Fld.key, Reg.ANG_COMMIT_CTL_REQ, Reg.ANG_COMMIT_STS_RESULT, Reg.ANG_COMMIT_STS_SUB,
    Reg.ANG_COMMIT_STS_RULE, Reg.ANG_COMMIT_STS_REV_LSB, Reg.ANG_COMMIT_STS_LATE, Reg.ANG_COMMIT_STS_DIRTY]
  omega

theorem deckRequestFields_nodup (n : Nat) : ((deckRequestFields n).map Fld.key).Nodup := by
  simp [deckRequestFields, Fld.key, Reg.ANG_COMMIT_CTL_REQ, Reg.ANG_COMMIT_CTL_SUB_MASK, Reg.ANG_COMMIT_CTL_TRIG]

/-- None of them is staged, and commits see them all. -/
theorem deckCommitFields_class : ∀ n < 16, ∀ f ∈ deckCommitFields n, accOf f.key ≠ .rws := by decide +kernel

theorem deckRequestFields_class : ∀ n < 16, ∀ f ∈ deckRequestFields n, accOf f.key ≠ .rws := by decide +kernel

theorem deckCommitFields_seen : ∀ n < 16, ∀ f ∈ deckCommitFields n, commitSees f.key = true := by decide +kernel

/-! ### The end of a deck's commit (R63, R78, R644) -/

/-- A deck's commit has ended: nothing waits, the registers show how, and no staged field's value in force has changed. -/
structure DeckEnded (c : Clock) (n result rule : Nat) (d e : Dev) : Prop where
  rws : RwsKept d e
  staged : e.staged = d.staged
  decks : e.decks = (d.onDeck n fun k => { k with pend := none }).decks
  req : e.get (Reg.ANG_COMMIT_CTL_REQ n) = 0
  result : e.get (Reg.ANG_COMMIT_STS_RESULT n) = result % 2 ^ 4
  rule : e.get (Reg.ANG_COMMIT_STS_RULE n) = rule % 2 ^ 12
  rev : e.get (Reg.ANG_COMMIT_STS_REV_LSB n) = c.rev n % 2 ^ 8

theorem DeckEnded.deck {c : Clock} {n result rule : Nat} {d e : Dev} (h : DeckEnded c n result rule d e) :
    e.deck n = { d.deck n with pend := none } := by
  rw [Dev.deck, h.decks]
  exact Dev.deck_onDeck_self ..

/-- What commits do not see leaves an end as it is. -/
theorem DeckEnded.mono {c : Clock} {n result rule : Nat} (hn : n < 16) {d e f : Dev} (h : DeckEnded c n result rule d e)
    (hs : StatusOnly e f) (hst : f.staged = e.staged) (hd : f.decks = e.decks) : DeckEnded c n result rule d f := by
  have seen : ∀ g ∈ deckCommitFields n, f.get g = e.get g := fun g hg => hs _ (deckCommitFields_seen n hn g hg)
  exact ⟨h.rws.trans hs.rwsKept, hst.trans h.staged, hd.trans h.decks, (seen _ (by simp [deckCommitFields])).trans h.req,
    (seen _ (by simp [deckCommitFields])).trans h.result, (seen _ (by simp [deckCommitFields])).trans h.rule,
    (seen _ (by simp [deckCommitFields])).trans h.rev⟩

theorem deckCommitShow_eq (c : Clock) (n result sub rule : Nat) (late : Bool) (d : Dev) :
    d.deckCommitShow c n result sub rule late = { d with
      regs := (d.deckCommitShow c n result sub rule late).regs, decks := (d.onDeck n fun k => { k with pend := none }).decks } := by
  rw [Dev.deckCommitShow, Dev.sets_eq]
  rfl

theorem deckCommitShow_ended {n : Nat} (hn : n < 16) (c : Clock) (result sub rule : Nat) (late : Bool) (d : Dev) :
    DeckEnded c n result rule d (d.deckCommitShow c n result sub rule late) := by
  have hkeys := deckCommitFields_nodup n
  refine ⟨?_, ?_, ?_, ?_, ?_, ?_, ?_⟩
  · have hregs : RegsOnly (deckCommitFields n) (d.onDeck n fun k => { k with pend := none })
        (d.deckCommitShow c n result sub rule late) := RegsOnly.sets _ _
    exact hregs.rwsKept (deckCommitFields_class n hn)
  · rw [deckCommitShow_eq]
  · rw [deckCommitShow_eq]
  · exact Dev.get_sets_of_mem _ hkeys (.head _)
  · exact Dev.get_sets_of_mem _ hkeys (.tail _ (.head _))
  · exact Dev.get_sets_of_mem _ hkeys (.tail _ (.tail _ (.tail _ (.head _))))
  · exact Dev.get_sets_of_mem _ hkeys (.tail _ (.tail _ (.tail _ (.tail _ (.head _)))))

/-- An event or a refusal entered changes status registers and the ledger only. -/
theorem Dev.ledEvent_frame (c : Clock) (who : Who) (cls result detail object : Nat) (old new : List Byte) (d : Dev) :
    StatusOnly d (d.ledEvent c who cls result detail object old new) ∧
      d.ledEvent c who cls result detail object old new = { d with
        regs := (d.ledEvent c who cls result detail object old new).regs,
        led := (d.ledEvent c who cls result detail object old new).led } := by
  unfold Dev.ledEvent
  split
  · exact ⟨fun _ _ => rfl, rfl⟩
  · refine ⟨?_, Dev.ledAdd_eq ..⟩
    unfold Dev.ledAdd Dev.ledShow
    extract_lets e
    exact fun k hk => (CommitKept.sets _ ledger_status).status k hk

/-- With room in the ledger an entry is made. -/
theorem Dev.ledEvent_next {d : Dev} (h : d.ledFull = false) (c : Clock) (who : Who) (cls result detail object : Nat)
    (old new : List Byte) : (d.ledEvent c who cls result detail object old new).led.next = d.led.next + 1 := by
  rw [Dev.ledEvent, h, if_neg Bool.false_ne_true, Dev.ledAdd, Dev.ledShow, Dev.sets_eq]

/-- An end shown and entered. -/
theorem deckCommitEntry_ended {n : Nat} (hn : n < 16) (c : Clock) (result sub rule : Nat) (late : Bool) (res : Nat) (who : Who)
    (mask : Nat) (old new : List Byte) (d : Dev) : DeckEnded c n result rule d
      ((d.deckCommitShow c n result sub rule late).deckCommitEntry c n res who mask old new) := by
  obtain ⟨hs, hframe⟩ := Dev.ledEvent_frame c who 2 res
    ((d.deckCommitShow c n result sub rule late).wordInForce (Reg.ANG_COMMIT_STS_RESULT n).off) (n + mask * 256) old new
    (d.deckCommitShow c n result sub rule late)
  refine (deckCommitShow_ended hn c result sub rule late d).mono hn hs ?_ ?_
  · rw [Dev.deckCommitEntry, hframe]
  · rw [Dev.deckCommitEntry, hframe]

/-- A commit that ends with nothing applied. -/
theorem deckCommitEnd_ended {n : Nat} (hn : n < 16) (c : Clock) (result sub rule : Nat) (late : Bool) (d : Dev) :
    DeckEnded c n result rule d (d.deckCommitEnd c n result sub rule late) := by
  unfold Dev.deckCommitEnd
  split
  · exact deckCommitEntry_ended hn ..
  · exact deckCommitEntry_ended hn ..

theorem deckCommitEnd_eq (c : Clock) (n result sub rule : Nat) (late : Bool) (d : Dev) :
    d.deckCommitEnd c n result sub rule late = { d with
      regs := (d.deckCommitEnd c n result sub rule late).regs, decks := (d.deckCommitEnd c n result sub rule late).decks,
      led := (d.deckCommitEnd c n result sub rule late).led } := by
  have hentry : ∀ who mask old new, (d.deckCommitShow c n result sub rule late).deckCommitEntry c n 1 who mask old new = { d with
      regs := ((d.deckCommitShow c n result sub rule late).deckCommitEntry c n 1 who mask old new).regs,
      decks := ((d.deckCommitShow c n result sub rule late).deckCommitEntry c n 1 who mask old new).decks,
      led := ((d.deckCommitShow c n result sub rule late).deckCommitEntry c n 1 who mask old new).led } := fun who mask old new => by
    rw [Dev.deckCommitEntry, (Dev.ledEvent_frame ..).2, deckCommitShow_eq]
  unfold Dev.deckCommitEnd
  split
  · exact hentry ..
  · exact hentry ..

/-! ### Requests, cancelling, discarding (R62, R63, R77) -/

theorem exec_deckCommitReq {d : Dev} {link : Fin 2} {n : Fin 16}
    (h : d.deny (.bar2 link) true (Reg.ANG_COMMIT_CTL_REQ n).off 4 = none) (c : Clock) (q : List Instr) (mask : Fin 512)
    (trig : Fin 64) : ∃ w, exec (.deckCommitReq link n mask trig) ⟨c, d, q⟩ =
      .next ⟨c, deckCommitReq c n mask trig { d with who := w }, q⟩ :=
  ⟨_, congrArg (fun e => Host.Outcome.next (State.mk c e q)) (regRow_of_none h c (deckCommitReq c n mask trig))⟩

theorem exec_deckCommitCancel {d : Dev} {link : Fin 2} {n : Fin 16}
    (h : d.deny (.bar2 link) true (Reg.ANG_COMMIT_CTL_REQ n).off 4 = none) (c : Clock) (q : List Instr) :
    ∃ w, exec (.deckCommitCancel link n) ⟨c, d, q⟩ = .next ⟨c, deckCommitCancel c n { d with who := w }, q⟩ :=
  ⟨_, congrArg (fun e => Host.Outcome.next (State.mk c e q)) (regRow_of_none h c (deckCommitCancel c n))⟩

theorem exec_deckCommitDiscard {d : Dev} {link : Fin 2} {n : Fin 16}
    (h : d.deny (.bar2 link) true (Reg.ANG_COMMIT_CTL_REQ n).off 4 = none) (c : Clock) (q : List Instr) (mask : Fin 512) :
    ∃ w, exec (.deckCommitDiscard link n mask) ⟨c, d, q⟩ = .next ⟨c, deckCommitDiscard n mask { d with who := w }, q⟩ :=
  ⟨_, congrArg (fun e => Host.Outcome.next (State.mk c e q)) (regRow_of_none h c (deckCommitDiscard n mask))⟩

/-- Who makes an access is no part of the registers. -/
theorem Dev.get_who (d : Dev) (w : Who) (f : Fld) : Dev.get { d with who := w } f = d.get f := rfl

theorem Dev.tbFires_who (d : Dev) (w : Who) (n : Nat) : Dev.tbFires { d with who := w } n = d.tbFires n := by
  rw [Dev.tbFires, Dev.tbState, Dev.get_who, Dev.tbFires, Dev.tbState]

/-- The fields of COMMIT_CTL that a request sets leave every other word of the deck as it was. -/
theorem get_deckRequest (d : Dev) (n mask trig : Nat) {g : Fld} (h : g.off ≠ (Reg.ANG_COMMIT_CTL_REQ n).off) (hg : g.lo < 32) :
    ((d.set (Reg.ANG_COMMIT_CTL_SUB_MASK n) mask).set (Reg.ANG_COMMIT_CTL_TRIG n) trig).get g = d.get g := by
  have htrig : g.off ≠ (Reg.ANG_COMMIT_CTL_TRIG n).off := h
  have hmask : g.off ≠ (Reg.ANG_COMMIT_CTL_SUB_MASK n).off := h
  rw [Dev.get_set_of_off_ne _ _ htrig hg (by simp [Reg.ANG_COMMIT_CTL_TRIG]),
    Dev.get_set_of_off_ne _ _ hmask hg (by simp [Reg.ANG_COMMIT_CTL_SUB_MASK])]

/-- COMMIT_CTL lies above the words of the triggers. -/
theorem trig_off_ne_commit (n : Nat) {t : Nat} (ht : t < 64) :
    (Reg.ANG_TRIG_CFG_ARM n t).off ≠ (Reg.ANG_COMMIT_CTL_REQ n).off := by
  simp only [Reg.ANG_TRIG_CFG_ARM, Reg.ANG_COMMIT_CTL_REQ]
  omega

/-- A request on an armed trigger that can fire: the named sub-blocks' staged values are captured and wait for it. -/
theorem deckCommitReq_waits {d : Dev} {n mask trig : Nat} (ht : trig < 64) (hpend : (d.deck n).pend = none)
    (harm : d.getB (Reg.ANG_TRIG_CFG_ARM n trig) = true) (hmode : d.get (Reg.ANG_TRIG_CFG_MODE n trig) ≠ 0)
    (hfires : d.tbFires n = true) (c : Clock) : deckCommitReq c n mask trig d =
      (d.sets [(Reg.ANG_COMMIT_CTL_SUB_MASK n, mask), (Reg.ANG_COMMIT_CTL_TRIG n, trig), (Reg.ANG_COMMIT_CTL_REQ n, 1)]).onDeck n
        (fun k => { k with
          pend := some { mask := mask, trig := trig, req := c.tick, vals := d.capture (subKeys n mask), who := d.who } }) := by
  have harm' := get_deckRequest d n mask trig (g := Reg.ANG_TRIG_CFG_ARM n trig) (trig_off_ne_commit n ht)
    (by simp [Reg.ANG_TRIG_CFG_ARM])
  have hmode' := get_deckRequest d n mask trig (g := Reg.ANG_TRIG_CFG_MODE n trig) (trig_off_ne_commit n ht)
    (by simp [Reg.ANG_TRIG_CFG_MODE])
  have hstate := get_deckRequest d n mask trig (g := Reg.ANG_STS_STATE n)
    (by simp [Reg.ANG_STS_STATE, Reg.ANG_COMMIT_CTL_REQ]) (by simp [Reg.ANG_STS_STATE])
  rw [Dev.getB] at harm
  rw [Dev.tbFires, Dev.tbState] at hfires
  rw [deckCommitReq, hpend]
  simp [Dev.getB, Dev.tbFires, Dev.tbState, harm', hmode', hstate, harm, hmode, hfires, Dev.capture]

/-- A request on a disarmed trigger is refused at once. -/
theorem deckCommitReq_disarmed {d : Dev} {n mask trig : Nat} (ht : trig < 64) (hpend : (d.deck n).pend = none)
    (harm : d.getB (Reg.ANG_TRIG_CFG_ARM n trig) = false) (c : Clock) : deckCommitReq c n mask trig d =
      ((d.set (Reg.ANG_COMMIT_CTL_SUB_MASK n) mask).set (Reg.ANG_COMMIT_CTL_TRIG n) trig).deckCommitEnd c n 4 0 0 false := by
  have harm' := get_deckRequest d n mask trig (g := Reg.ANG_TRIG_CFG_ARM n trig) (trig_off_ne_commit n ht)
    (by simp [Reg.ANG_TRIG_CFG_ARM])
  rw [Dev.getB] at harm
  rw [deckCommitReq, hpend]
  simp [Dev.getB, harm', harm]

theorem deckCommitReq_busy {d : Dev} {n : Nat} (h : (d.deck n).pend.isSome = true) (c : Clock) (mask trig : Nat) :
    deckCommitReq c n mask trig d = d.set (Reg.ANG_COMMIT_STS_BUSY_REJ n) 1 := by
  rw [deckCommitReq, if_pos h]

theorem deckCommitCancel_of_pending {d : Dev} {n : Nat} (h : (d.deck n).pend.isSome = true) (c : Clock) :
    deckCommitCancel c n d = d.deckCommitEnd c n 6 0 0 false := by
  obtain ⟨p, hp⟩ := Option.isSome_iff_exists.1 h
  rw [deckCommitCancel, Dev.deckCommitRefuse, hp]
  rfl

/-- Staged values reloaded do not depend on registers that are not staged. -/
theorem Reloaded.of_rwsKept {p : Nat → Bool} {d e f : Dev} (h : Reloaded p e f) (hr : RwsKept d e) (hs : e.staged = d.staged) :
    Reloaded p d f := by
  intro k
  rw [h k, hs]
  by_cases hk : accOf k = .rws
  · rw [hr k hk]
  · simp [hk]

/-! ### A firing (R57 to R60) -/

/-- A pass over a list that changes nothing in any turn. -/
theorem foldl_fixed_of_mem {α β : Type} {f : β → α → β} {l : List α} {b : β} (h : ∀ a ∈ l, f b a = b) : l.foldl f b = b := by
  induction l with
  | nil => rfl
  | cons a l ih =>
    rw [List.foldl_cons, h a (List.mem_cons_self ..)]
    exact ih fun x hx => h x (List.mem_cons_of_mem _ hx)

/-- Nothing waits on the triggers of a deck but perhaps a commit: no lane swap, no bank swap. -/
structure NoSwaps (d : Dev) (n : Nat) : Prop where
  spares : ∀ s ∈ [0, 1], (d.deck n).sparePend s = none
  slots : ∀ s ∈ List.range 8, ((d.deck n).slot s).swap = none

theorem NoSwaps.of_deck {d e : Dev} {n : Nat} (h : NoSwaps d n) (hspare : (e.deck n).spare = (d.deck n).spare)
    (hslots : (e.deck n).slots = (d.deck n).slots) : NoSwaps e n := by
  obtain ⟨hs, hb⟩ := h
  constructor
  · intro s hmem
    rw [Deck.sparePend, hspare]
    exact hs s hmem
  · intro s hmem
    rw [Deck.slot, hslots]
    exact hb s hmem

theorem NoSwaps.swapsAtTrig {d : Dev} {n : Nat} (h : NoSwaps d n) (t : Nat) : swapsAtTrig n t d = d :=
  foldl_fixed_of_mem fun s hs => by rw [h.slots s hs]

theorem NoSwaps.swapsRefuse {d : Dev} {n : Nat} (h : NoSwaps d n) (t : Nat) : d.swapsRefuse n t = d :=
  foldl_fixed_of_mem fun s hs => by rw [h.slots s hs]

theorem NoSwaps.sparesAtTrig {d : Dev} {n : Nat} (h : NoSwaps d n) (t : Nat) : sparesAtTrig n t d = d :=
  foldl_fixed_of_mem fun s hs => by rw [h.spares s hs]

theorem NoSwaps.sparesAbandon {d : Dev} {n : Nat} (h : NoSwaps d n) (t : Option Nat) : d.sparesAbandon n t = d :=
  foldl_fixed_of_mem fun s hs => by rw [h.spares s hs]

/-- A disarmed trigger that nothing waits on. -/
theorem NoSwaps.trigDisarmed {d : Dev} {n : Nat} (h : NoSwaps d n) (hpend : (d.deck n).pend = none) (c : Clock) (t : Nat) :
    d.trigDisarmed c n t = d := by
  rw [Dev.trigDisarmed, Dev.trigGone, Dev.deckCommitRefuse, hpend]
  dsimp only
  rw [h.swapsRefuse, h.sparesAbandon]

/-- The triggers above the sequencer's own have no work of the deck's (R58). -/
theorem ownAtTrig_of_software {t : Nat} (h : 16 ≤ t) (c : Clock) (n : Nat) (o : Sample) (d : Dev) : ownAtTrig c n t o d = d := by
  unfold ownAtTrig
  split
  case h_7 => rfl
  all_goals omega

/-- A deck whose triggers have acted on the ticks gone by. -/
def Deck.acted (k : Deck) : Deck := { k with tb := { k.tb with acted := true } }

@[simp] theorem Deck.acted_pend (k : Deck) : k.acted.pend = k.pend := rfl
@[simp] theorem Deck.acted_seqPend (k : Deck) : k.acted.seqPend = k.seqPend := rfl
@[simp] theorem Deck.acted_spare (k : Deck) : k.acted.spare = k.spare := rfl
@[simp] theorem Deck.acted_slots (k : Deck) : k.acted.slots = k.slots := rfl

/-- The module as its trigger's firing finds it: the ticks are acted on, a ONCE trigger is disarmed, FIRED is set. -/
def Dev.firing (d : Dev) (n t : Nat) : Dev :=
  (d.onDeck n Deck.acted).sets ((if d.get (Reg.ANG_TRIG_CFG_MODE n t) = 1 then [(Reg.ANG_TRIG_CFG_ARM n t, 0)] else []) ++
    [(Reg.ANG_TRIG_CFG_FIRED n t, 1)])

theorem Dev.firing_regsOnly (d : Dev) (n t : Nat) :
    RegsOnly [Reg.ANG_TRIG_CFG_ARM n t, Reg.ANG_TRIG_CFG_FIRED n t] d (d.firing n t) := by
  have hkept : RegsOnly [Reg.ANG_TRIG_CFG_ARM n t, Reg.ANG_TRIG_CFG_FIRED n t] d (d.onDeck n Deck.acted) := .refl _ rfl
  unfold Dev.firing
  split
  · exact hkept.trans (.sets _ [(Reg.ANG_TRIG_CFG_ARM n t, 0), (Reg.ANG_TRIG_CFG_FIRED n t, 1)])
  · exact hkept.trans (.mono (l := [Reg.ANG_TRIG_CFG_FIRED n t]) (by simp) (.sets _ [(Reg.ANG_TRIG_CFG_FIRED n t, 1)]))

theorem Dev.firing_eq (d : Dev) (n t : Nat) : d.firing n t = { d with
    regs := (d.firing n t).regs, decks := (d.onDeck n Deck.acted).decks } := by
  rw [Dev.firing, Dev.sets_eq]
  rfl

theorem Dev.firing_deck (d : Dev) (n t : Nat) : (d.firing n t).deck n = (d.deck n).acted := by
  rw [Dev.deck, Dev.firing, Dev.sets_decks]
  exact Dev.deck_onDeck_self ..

/-- The signals of a firing to the deck core. -/
def Dev.signalled (d : Dev) (n t : Nat) : Dev :=
  d.onDeck n (fun k => { k with signals := [t].filter (fun t => d.getB (Reg.ANG_TRIG_CFG_IRQ_EN n t)) })

/-- The effects of one software trigger, where no swap waits once its commits are done. -/
theorem trigEffects_one {n t : Nat} (ht : 16 ≤ t) {c : Clock} {late : Bool} {o : Sample} {d e : Dev}
    (he : commitsAtTrig c n t late d = e) (hs : NoSwaps e n) : trigEffects c n [t] late o d = e.signalled n t := by
  have h0 : t ≠ 0 := by omega
  have h3 : t ≠ 3 := by omega
  rw [trigEffects]
  simp only [List.foldl_cons, List.foldl_nil, he, hs.swapsAtTrig, hs.sparesAtTrig]
  simp [h0, h3, h0.symm, ownAtTrig_of_software ht, Dev.signalled]

/-- TRIGGER_FIRE with one software trigger due and not held, where no swap waits once its commits are done. -/
theorem triggerFire_one {c : Clock} {d : Dev} {n t : Nat} (ht : 16 ≤ t) (hdue : trigsDue d c n = [t]) (hheld : trigHeld d n t = false)
    (o : Sample) {e : Dev} (he : commitsAtTrig c n t false (d.firing n t) = e) (hs : NoSwaps e n) (hpend : (e.deck n).pend = none) :
    triggerFire c n o d = e.signalled n t := by
  have hsig : NoSwaps (e.signalled n t) n :=
    hs.of_deck (by rw [Dev.signalled, Dev.deck_onDeck_self]) (by rw [Dev.signalled, Dev.deck_onDeck_self])
  have hsigpend : ((e.signalled n t).deck n).pend = none := by rw [Dev.signalled, Dev.deck_onDeck_self]; exact hpend
  have hfire := trigEffects_one ht (o := o) he hs
  have hheld' : trigHeld (d.onDeck n Deck.acted) n t = false := hheld
  have hacted : (d.onDeck n fun k => { k with tb := { k.tb with acted := true } }) = d.onDeck n Deck.acted := rfl
  rw [triggerFire, hdue, hacted]
  rw [Dev.firing] at hfire
  by_cases hmode : d.get (Reg.ANG_TRIG_CFG_MODE n t) = 1
  · rw [if_pos hmode] at hfire
    simp only [List.cons_append, List.nil_append, Dev.sets_cons, Dev.sets_nil] at hfire
    simp [hheld, hheld', hmode, hfire, hsig.trigDisarmed hsigpend]
  · rw [if_neg hmode] at hfire
    simp only [List.nil_append, Dev.sets_cons, Dev.sets_nil] at hfire
    simp [hheld, hheld', hmode, hfire]

theorem exec_triggerFire_software {d : Dev} {n : Fin 16} (hon : d.deckOn n = true) {t : Nat} (ht : 16 ≤ t) {c : Clock}
    (hdue : trigsDue d c n = [t]) (q : List Instr) (w : WedgeObs) (o : ServoObs) :
    exec (.triggerFire n w o) ⟨c, d, q⟩ = .next ⟨c, triggerFire c n ⟨o, w⟩ d, q⟩ := by
  have hnot : (trigsDue d c n).contains 5 = false := by
    rw [hdue]
    simp only [List.contains_cons, List.contains_nil, Bool.or_false, beq_eq_false_iff_ne]
    omega
  have hexec : exec (.triggerFire n w o) ⟨c, d, q⟩ =
      .next ⟨c, deckRow n (fun d => firedToo c n d (triggerFire c n ⟨o, w⟩ d)) d, q⟩ := rfl
  rw [hexec, deckRow, if_pos hon, firedToo, hnot, if_neg Bool.false_ne_true]

/-! ### The commit that a firing decides (R62, R65) -/

/-- The fields that the rules of ANG read. -/
def angRuleFields (n : Nat) : List Fld := [Reg.ANG_PLL_TOL_LOCK_TOL n, Reg.ANG_PLL_TOL_UNLOCK_TOL n, Reg.ANG_PLL_TOL_WIN n,
  Reg.ANG_PLL_CFG_KP_SHIFT n, Reg.ANG_PLL_CFG_KI_SHIFT n, Reg.ANG_PLL_CFG_HOLD_MAX n]

theorem angRuleFields_class : ∀ n < 16, ∀ f ∈ angRuleFields n, accOf f.key = .rws := by decide +kernel

/-- The rules of ANG read staged-class fields only. -/
theorem angRules_rwsKept {n : Nat} (hn : n < 16) {d e : Dev} (h : RwsKept d e) : angRules e n = angRules d n := by
  have hget : ∀ f ∈ angRuleFields n, e.get f = d.get f := fun f hf => h _ (angRuleFields_class n hn f hf)
  simp only [angRuleFields, List.forall_mem_cons] at hget
  obtain ⟨h1, h2, h3, h4, h5, h6, _⟩ := hget
  simp only [angRules, h1, h2, h3, h4, h5, h6]

/-- A commit of ANG alone is held against the rules of ANG. -/
theorem firstFail_ang (old d : Dev) (n : Nat) : firstFail old d n 1 = (angRules d n).map fun r => (0, r) := by
  rw [firstFail]
  simp [List.range_succ, bit, subRules]
  cases angRules d n <;> rfl

/-- A set put in force changes no deck beside its registers. -/
theorem Dev.deck_applySet (d : Dev) (p : Nat → Bool) (vals : FMap Nat) (n : Nat) : (d.applySet p vals).deck n = d.deck n := rfl

theorem loopBlank_ang (n : Nat) (d : Dev) : loopBlank n 1 d = d := rfl

theorem Dev.reloadsDeck_of_no_reload {d : Dev} (h : d.reload = none) (n : Nat) : d.reloadsDeck n = false := by
  rw [Dev.reloadsDeck, h]

/-- A commit of ANG whose rules hold is put in force whole, with one entry. -/
theorem deckCommitDecide_applied {d : Dev} {n : Nat} (hn : n < 16) {p : DeckPend} (hmask : p.mask = 1) (hreload : d.reload = none)
    (hrules : angRules (d.applySet (subKeys n 1) p.vals) n = none) (hled : d.ledFull = false) (c : Clock) (late : Bool) :
    DeckEnded c n 1 0 (d.applySet (subKeys n 1) p.vals) (deckCommitDecide c n p late d) ∧
      (deckCommitDecide c n p late d).led.next = d.led.next + 1 := by
  rw [deckCommitDecide, Dev.reloadsDeck_of_no_reload hreload, if_neg Bool.false_ne_true, hmask]
  dsimp only
  rw [firstFail_ang, hrules]
  dsimp only [Option.map_none]
  rw [hled, if_neg Bool.false_ne_true, loopBlank_ang]
  refine ⟨deckCommitEntry_ended hn .., ?_⟩
  have hshow := deckCommitShow_eq c n 1 0 0 late (d.applySet (subKeys n 1) p.vals)
  rw [Dev.deckCommitEntry, Dev.ledEvent_next]
  · rw [hshow]
    rfl
  · rw [hshow]
    exact hled

/-- A commit of ANG that fails a rule changes nothing in force. -/
theorem deckCommitDecide_failed {d : Dev} {n : Nat} (hn : n < 16) {p : DeckPend} (hmask : p.mask = 1) (hreload : d.reload = none)
    {r : Nat} (hrules : angRules (d.applySet (subKeys n 1) p.vals) n = some r) (c : Clock) (late : Bool) :
    DeckEnded c n 2 r d (deckCommitDecide c n p late d) := by
  rw [deckCommitDecide, Dev.reloadsDeck_of_no_reload hreload, if_neg Bool.false_ne_true, hmask]
  dsimp only
  rw [firstFail_ang, hrules]
  dsimp only [Option.map_some]
  rw [deckCommitFail]
  refine (deckCommitEnd_ended hn c 2 0 r late d).mono hn ((Dev.fault_regsOnly c _ (by simp) _).statusOnly fault_status) ?_ ?_
  · rw [Dev.fault_eq]
  · rw [Dev.fault_eq]

/-- The module in which a firing's software commit is decided: fired, with no commit of the sequencer's. -/
def Dev.atCommit (d : Dev) (n t : Nat) : Dev := seqCommits n t (d.firing n t)

theorem trigFlags_unseen : ∀ t < 64, 0x100 + t * 0x10 < deckSpan ∧
    commitSees ((deckBase + (0x100 + t * 0x10)) * 32 + 31) = false ∧ commitSees ((deckBase + (0x100 + t * 0x10)) * 32 + 20) = false := by
  decide +kernel

/-- ARM and FIRED of a trigger are no part of commits. -/
theorem trigFlags_status {n t : Nat} (hn : n < 16) (ht : t < 64) :
    ∀ f ∈ [Reg.ANG_TRIG_CFG_ARM n t, Reg.ANG_TRIG_CFG_FIRED n t], commitSees f.key = false := by
  obtain ⟨hspan, harm, hfired⟩ := trigFlags_unseen t ht
  rw [List.forall_mem_cons, List.forall_mem_singleton]
  constructor
  · rw [← harm, ← commitSees_deck hn hspan (by decide), Fld.key, deckOff, deckBase, deckSpan, Reg.ANG_TRIG_CFG_ARM, Nat.add_assoc _ 0x100]
  · rw [← hfired, ← commitSees_deck hn hspan (by decide), Fld.key, deckOff, deckBase, deckSpan, Reg.ANG_TRIG_CFG_FIRED,
      Nat.add_assoc _ 0x100]

/-- With no commit of the sequencer's waiting, its step of a firing leaves the deck's list empty. -/
theorem seqCommits_none {d : Dev} {n : Nat} (h : (d.deck n).seqPend = []) (t : Nat) :
    seqCommits n t d = d.onDeck n (fun k => { k with seqPend := k.seqPend.filter (fun p => p.trig != t) }) := by
  rw [seqCommits, h]
  rfl

/-- Nothing that the decision of a commit reads is changed before it. -/
theorem Dev.atCommit_spec {d : Dev} {n t : Nat} (hn : n < 16) (ht : t < 64) (hseq : (d.deck n).seqPend = []) :
    RwsKept d (d.atCommit n t) ∧ d.atCommit n t = { d with regs := (d.atCommit n t).regs, decks := (d.atCommit n t).decks } ∧
      ((d.atCommit n t).deck n).pend = (d.deck n).pend ∧ (NoSwaps d n → NoSwaps (d.atCommit n t) n) := by
  have hfseq : ((d.firing n t).deck n).seqPend = [] := by rw [Dev.firing_deck, Deck.acted_seqPend, hseq]
  have hat : d.atCommit n t = (d.firing n t).onDeck n (fun k => { k with seqPend := k.seqPend.filter (fun p => p.trig != t) }) :=
    seqCommits_none hfseq t
  have hflags : RwsKept d (d.firing n t) := ((d.firing_regsOnly n t).statusOnly (trigFlags_status hn ht)).rwsKept
  rw [hat]
  refine ⟨hflags, ?_, ?_, fun h => h.of_deck ?_ ?_⟩
  · rw [d.firing_eq n t]
    rfl
  · rw [Dev.deck_onDeck_self, Dev.firing_deck]
    rfl
  · rw [Dev.deck_onDeck_self, Dev.firing_deck]
    rfl
  · rw [Dev.deck_onDeck_self, Dev.firing_deck]
    rfl

/-- What makes a firing decide a commit of ANG and do nothing else: one software trigger is due and not held, the commit waits
on it since 2,000 ticks or more, and nothing else waits. -/
structure FiresCommit (c : Clock) (d : Dev) (n t : Nat) (p : DeckPend) : Prop where
  software : 16 ≤ t ∧ t < 64
  due : trigsDue d c n = [t] ∧ trigHeld d n t = false
  pend : (d.deck n).pend = some p ∧ p.trig = t ∧ p.mask = 1
  early : p.req + 2000 ≤ c.tick
  seq : (d.deck n).seqPend = []
  swaps : NoSwaps d n

/-- Such a firing decides the commit and signals the trigger. -/
theorem FiresCommit.triggerFire_eq {c : Clock} {d : Dev} {n t : Nat} {p : DeckPend} (h : FiresCommit c d n t p) (hn : n < 16)
    {result rule : Nat} {x : Dev} (hx : DeckEnded c n result rule x (deckCommitDecide c n p false (d.atCommit n t)))
    (hdeck : x.deck n = (d.atCommit n t).deck n) (o : Sample) :
    triggerFire c n o d = (deckCommitDecide c n p false (d.atCommit n t)).signalled n t := by
  obtain ⟨hsoft, ht⟩ := h.software
  obtain ⟨hdue, hheld⟩ := h.due
  obtain ⟨hpend, htrig, _⟩ := h.pend
  obtain ⟨_, _, hatpend, hswaps⟩ := d.atCommit_spec hn ht h.seq
  have hcommit : commitsAtTrig c n t false (d.firing n t) = deckCommitDecide c n p false (d.atCommit n t) := by
    rw [Dev.atCommit, hpend] at hatpend
    rw [commitsAtTrig, hatpend, Dev.atCommit]
    dsimp only
    rw [if_pos ⟨htrig, h.early⟩]
  refine triggerFire_one hsoft hdue hheld o hcommit ((hswaps h.swaps).of_deck ?_ ?_) ?_
  · rw [hx.deck, hdeck]
  · rw [hx.deck, hdeck]
  · rw [hx.deck]

/-! ### The statement -/

/-- Settles O19: a request is taken, flagged or refused; every end goes through one list of fields and one entry; a firing that
decides a commit does nothing else to staged fields. -/
theorem deckCommits : Obligations.DeckCommits := by
  unfold Obligations.DeckCommits
  refine ⟨?request, ?busy, ?disarmed, ?cancel, ?discard, ?applied, ?failed⟩
  case request =>
    rintro c d q link n mask trig hdeny hpend ⟨harm, hmode⟩ hfires
    obtain ⟨w, hexec⟩ := exec_deckCommitReq hdeny c q mask trig
    have hmode' : Dev.get { d with who := w } (Reg.ANG_TRIG_CFG_MODE n trig) ≠ 0 := by rwa [Dev.get_who]
    rw [deckCommitReq_waits (d := { d with who := w }) trig.isLt hpend harm hmode' ((Dev.tbFires_who ..).trans hfires)] at hexec
    have hkeys := deckRequestFields_nodup n
    have hdeck : ∀ (l : List (Fld × Nat)) m, (Dev.sets { d with who := w } l).deck m = d.deck m := fun l m => by
      rw [Dev.deck, Dev.sets_decks, Dev.deck]
    refine ⟨_, hexec, ?_, ?_, ?_, ?_, ?_, ?_, ?_⟩
    · rw [Dev.get_onDeck]
      exact Dev.get_sets_of_mem _ hkeys (.tail _ (.tail _ (.head _)))
    · rw [Dev.get_onDeck]
      exact (Dev.get_sets_of_mem _ hkeys (.head _)).trans (Nat.mod_eq_of_lt mask.isLt)
    · rw [Dev.get_onDeck]
      exact (Dev.get_sets_of_mem _ hkeys (.tail _ (.head _))).trans (Nat.mod_eq_of_lt trig.isLt)
    · rw [Dev.deck_onDeck_self, Dev.onDeck_who, Dev.sets_who, hdeck]
      rfl
    · intro m hm
      rw [Dev.deck_onDeck_ne _ _ hm, hdeck]
    · rw [Dev.sets_eq]
      rfl
    · have hset := RegsOnly.sets (fs := deckRequestFields n) { d with who := w } [(Reg.ANG_COMMIT_CTL_SUB_MASK n, mask.val),
        (Reg.ANG_COMMIT_CTL_TRIG n, trig.val), (Reg.ANG_COMMIT_CTL_REQ n, 1)]
      exact .mono (l := deckRequestFields n) (by simp [deckRequestFields])
        (((RegsOnly.refl _ rfl).trans hset).trans (.refl _ (Dev.onDeck_regs ..)))
  case busy =>
    intro c d q link n mask trig hdeny hpend
    obtain ⟨w, hexec⟩ := exec_deckCommitReq hdeny c q mask trig
    rw [deckCommitReq_busy (d := { d with who := w }) hpend] at hexec
    exact ⟨_, hexec, Dev.get_set_self .., rfl, .trans (.refl _ rfl) (.sets _ [(Reg.ANG_COMMIT_STS_BUSY_REJ n, 1)])⟩
  case disarmed =>
    intro c d q link n mask trig hdeny hpend harm
    obtain ⟨w, hexec⟩ := exec_deckCommitReq hdeny c q mask trig
    rw [deckCommitReq_disarmed (d := { d with who := w }) trig.isLt hpend harm] at hexec
    have hend := deckCommitEnd_ended n.isLt c 4 0 0 false
      ((Dev.set { d with who := w } (Reg.ANG_COMMIT_CTL_SUB_MASK n) mask).set (Reg.ANG_COMMIT_CTL_TRIG n) trig)
    have hset : RegsOnly (deckRequestFields n) d
        ((Dev.set { d with who := w } (Reg.ANG_COMMIT_CTL_SUB_MASK n) mask).set (Reg.ANG_COMMIT_CTL_TRIG n) trig) := by
      refine .mono (l := [Reg.ANG_COMMIT_CTL_SUB_MASK n, Reg.ANG_COMMIT_CTL_TRIG n]) (by simp [deckRequestFields]) ?_
      exact (RegsOnly.refl _ rfl).trans (RegsOnly.sets { d with who := w }
        [(Reg.ANG_COMMIT_CTL_SUB_MASK n, mask.val), (Reg.ANG_COMMIT_CTL_TRIG n, trig.val)])
    exact ⟨_, hexec, hend.result, hend.req, by rw [hend.deck],
      (hset.rwsKept (deckRequestFields_class n n.isLt)).trans hend.rws, hend.staged⟩
  case cancel =>
    intro c d q link n hdeny hpend
    obtain ⟨w, hexec⟩ := exec_deckCommitCancel hdeny c q
    rw [deckCommitCancel_of_pending (d := { d with who := w }) hpend] at hexec
    have hend := deckCommitEnd_ended n.isLt c 6 0 0 false { d with who := w }
    refine ⟨_, hexec, hend.result, hend.req, hend.deck, hend.rws, ?_, fun m hm => ?_⟩
    · rw [deckCommitEnd_eq]
    · rw [Dev.deck, hend.decks]
      exact Dev.deck_onDeck_ne _ _ hm
  case discard =>
    intro c d q link n mask hdeny hpend hrising
    obtain ⟨w, hexec⟩ := exec_deckCommitDiscard hdeny c q mask
    have hpend' : ¬(Dev.deck { d with who := w } n).pend.isSome = true := by
      rw [Dev.deck] at hpend ⊢
      simp [hpend]
    rw [deckCommitDiscard, if_neg hpend'] at hexec
    have hset : RegsOnly [Reg.ANG_COMMIT_CTL_SUB_MASK n] d (Dev.set { d with who := w } (Reg.ANG_COMMIT_CTL_SUB_MASK n) mask) :=
      (RegsOnly.refl _ rfl).trans (RegsOnly.sets { d with who := w } [(Reg.ANG_COMMIT_CTL_SUB_MASK n, mask.val)])
    have hclass : ∀ f ∈ [Reg.ANG_COMMIT_CTL_SUB_MASK n], accOf f.key ≠ .rws := fun f hf =>
      deckRequestFields_class n n.isLt f (by simp_all [deckRequestFields])
    refine ⟨_, hexec, ?_, ?_, rfl, hset⟩
    · exact (discardSet_reloaded (Dev.rising_set (d := { d with who := w }) hrising _ _) _).of_rwsKept (hset.rwsKept hclass) rfl
    · exact (Dev.get_set_self ..).trans (Nat.mod_eq_of_lt mask.isLt)
  case applied =>
    rintro c d q n t w o p hon hsoft hdue hpend hearly hseq ⟨hs0, hs1⟩ hslots ⟨hreload, hled⟩ _ hvals hin hrules
    have hfire : FiresCommit c d n t p := ⟨⟨hsoft, t.isLt⟩, hdue, hpend, hearly, hseq, by simp [hs0, hs1],
      fun s hs => hslots ⟨s, List.mem_range.1 hs⟩⟩
    obtain ⟨hrws, hframe, _, _⟩ := d.atCommit_spec n.isLt t.isLt hseq
    have hnew := hrws.applySet (subKeys n 1) p.vals
    obtain ⟨hend, hnext⟩ := deckCommitDecide_applied (d := d.atCommit n t) n.isLt hpend.2.2 (by rw [hframe]; exact hreload)
      ((angRules_rwsKept n.isLt hnew).trans hrules) (by rw [hframe]; exact hled) c false
    refine ⟨_, exec_triggerFire_software hon hsoft hdue.1 q w o, ?_⟩
    rw [hfire.triggerFire_eq n.isLt hend (Dev.deck_applySet ..)]
    refine ⟨fun k hk => ?_, hend.result, hend.rev, ?_, ?_⟩
    · exact ((hnew.trans hend.rws) k hk).trans (applySet_applied hvals hin d k hk)
    · rw [Dev.signalled, Dev.deck_onDeck_self, hend.deck]
    · rw [Dev.signalled, Dev.onDeck_led, hnext, hframe]
  case failed =>
    rintro c d q n t w o p r hon hsoft hdue hpend hearly hseq ⟨hs0, hs1⟩ hslots hreload hrules
    have hfire : FiresCommit c d n t p := ⟨⟨hsoft, t.isLt⟩, hdue, hpend, hearly, hseq, by simp [hs0, hs1],
      fun s hs => hslots ⟨s, List.mem_range.1 hs⟩⟩
    obtain ⟨hrws, hframe, _, _⟩ := d.atCommit_spec n.isLt t.isLt hseq
    have hend := deckCommitDecide_failed (d := d.atCommit n t) n.isLt hpend.2.2 (by rw [hframe]; exact hreload)
      ((angRules_rwsKept n.isLt (hrws.applySet (subKeys n 1) p.vals)).trans hrules) c false
    refine ⟨_, exec_triggerFire_software hon hsoft hdue.1 q w o, ?_⟩
    rw [hfire.triggerFire_eq n.isLt hend rfl]
    refine ⟨hrws.trans hend.rws, ?_, hend.result, hend.rule, ?_⟩
    · rw [Dev.signalled, Dev.onDeck_staged, hend.staged, hframe]
    · rw [Dev.signalled, Dev.deck_onDeck_self, hend.deck]

end Sys2Proof.Machine
end

section
/-! SUPPORT. Darn and gleans: what an engine takes, delivers or leaves to a glean, and a glean set that takes effect (R171 to R174). -/

open Sys2Proof Sys2Proof.Machine

namespace Sys2Proof.Machine

/-! ### Changes of one deck -/

theorem DeckOnly.trans {n : Nat} {d e f : Dev} (h : DeckOnly n d e) (h' : DeckOnly n e f) : DeckOnly n d f :=
  fun m hm => (h' m hm).trans (h m hm)

theorem DeckOnly.onDeck (n : Nat) (g : Deck → Deck) (d : Dev) : DeckOnly n d (d.onDeck n g) := fun _ hm => Dev.deck_onDeck_ne d g hm

theorem DeckOnly.of_decks {n : Nat} {d e : Dev} (h : e.decks = d.decks) : DeckOnly n d e := fun m _ => by rw [Dev.deck, h, Dev.deck]

theorem Dev.deck_of_decks {d e : Dev} (h : e.decks = d.decks) (n : Nat) : e.deck n = d.deck n := by rw [Dev.deck, h, Dev.deck]

/-! ### A die's pool and the words that show it (R167, R170) -/

/-- Only DET.STS words have changed, and no other part of the module than registers. -/
structure StsOnly (d e : Dev) : Prop where
  frame : e = { d with regs := e.regs }
  get : ∀ g : Fld, g.lo < 32 → g.off % deckSpan ≠ 0x2001C → e.get g = d.get g

theorem StsOnly.refl (d : Dev) : StsOnly d d := ⟨rfl, fun _ _ _ => rfl⟩

theorem StsOnly.trans {d e f : Dev} (h : StsOnly d e) (h' : StsOnly e f) : StsOnly d f := by
  refine ⟨?_, fun g hlo hg => (h'.get g hlo hg).trans (h.get g hlo hg)⟩
  rw [h'.frame, h.frame]

theorem Dev.get_of_regs {d e : Dev} (h : e.regs = d.regs) (g : Fld) : e.get g = d.get g := by rw [Dev.get, h, Dev.get]

theorem StsOnly.set (d : Dev) {f : Fld} (hf : f.off % deckSpan = 0x2001C) (hlo : f.lo < 32) (v : Nat) : StsOnly d (d.set f v) :=
  ⟨rfl, fun _ hg hne => d.get_set_of_off_ne v (fun h => hne (h ▸ hf)) hg hlo⟩

/-- The word DET.STS of a deck. -/
theorem det_sts_off (n : Nat) :
    (Reg.DET_STS_QUEUE n).off % deckSpan = 0x2001C ∧ (Reg.DET_STS_SHED n).off % deckSpan = 0x2001C := by
  simp only [Reg.DET_STS_QUEUE, Reg.DET_STS_SHED, deckSpan]
  omega

theorem det_sts_bits (n : Nat) : (Reg.DET_STS_QUEUE n).lo < 32 ∧ (Reg.DET_STS_SHED n).lo < 32 := by
  simp only [Reg.DET_STS_QUEUE, Reg.DET_STS_SHED]
  omega

/-- QUEUE and SHED are shown in DET.STS of the decks of the die. -/
theorem dieShow_stsOnly (i : Nat) (d : Dev) :
    ∃ shed, StsOnly { d with dies := d.dies.ins i { d.die i with shed := shed } } (dieShow i d) := by
  unfold dieShow
  extract_lets p shed e
  refine ⟨shed, ?_⟩
  change StsOnly e _
  generalize e = e
  induction List.range 8 generalizing e with
  | nil => exact .refl e
  | cons k l ih =>
    rw [List.foldl_cons]
    have hqueue := StsOnly.set e (det_sts_off (8 * i + k)).1 (det_sts_bits _).1 p.first.length
    have hshed := StsOnly.set (e.set (Reg.DET_STS_QUEUE (8 * i + k)) p.first.length) (det_sts_off (8 * i + k)).2 (det_sts_bits _).2
      (ofB shed)
    refine .trans ?_ (ih _)
    exact hqueue.trans hshed

/-- A change of a die's pool: the pool, and the words that show it. -/
theorem onDie_stsOnly (i : Nat) (f : Die → Die) (d : Dev) :
    ∃ m shed, StsOnly { d with dies := m } (d.onDie i f) ∧ (d.onDie i f).die i = { f (d.die i) with shed := shed } := by
  obtain ⟨shed, h⟩ := dieShow_stsOnly i { d with dies := d.dies.ins i (f (d.die i)) }
  have hdie : Dev.die { d with dies := d.dies.ins i (f (d.die i)) } i = f (d.die i) := FMap.get_ins_self ..
  refine ⟨_, shed, h, ?_⟩
  rw [Dev.onDie, Dev.die, h.frame]
  exact (FMap.get_ins_self ..).trans (by rw [hdie])

/-- The LDPC pool and the rest of the module see nothing of a change of a die but its registers and its entry. -/
theorem onDie_eq (i : Nat) (f : Die → Die) (d : Dev) :
    d.onDie i f = { d with regs := (d.onDie i f).regs, dies := (d.onDie i f).dies } := by
  obtain ⟨m, _, h, _⟩ := onDie_stsOnly i f d
  rw [h.frame]

theorem onDie_darn (i : Nat) (f : Die → Die) (d : Dev) : ((d.onDie i f).die i).darn = (f (d.die i)).darn := by
  obtain ⟨_, _, _, h⟩ := onDie_stsOnly i f d
  rw [h]

theorem onDie_decks (i : Nat) (f : Die → Die) (d : Dev) : (d.onDie i f).decks = d.decks := by rw [onDie_eq]

/-- Fields outside DET.STS keep their values. -/
theorem get_onDie (i : Nat) (f : Die → Die) (d : Dev) {g : Fld} (hlo : g.lo < 32) (hg : g.off % deckSpan ≠ 0x2001C) :
    (d.onDie i f).get g = d.get g := by
  obtain ⟨_, _, h, _⟩ := onDie_stsOnly i f d
  rw [h.get g hlo hg]
  rfl

/-! ### The block in hand -/

theorem Deck.blk_singleton {k : Deck} {b : Blk} {slot : Nat} (h : k.blocks = [b]) (hs : b.slot = slot) : k.blk slot = some b := by
  rw [Deck.blk, h, List.find?_cons, hs, beq_self_eq_true]

theorem mapIf_singleton {α : Type} {p : α → Bool} {a : α} (h : p a = true) (f : α → α) : mapIf p f [a] = [f a] := by
  rw [mapIf, List.map_cons, if_pos h, List.map_nil]

/-- The one block of a deck changes. -/
theorem blocks_onBlk {d : Dev} {n slot : Nat} {b : Blk} (h : (d.deck n).blocks = [b]) (hs : b.slot = slot) (f : Blk → Blk) :
    ((onBlk n slot f d).deck n).blocks = [f b] := by
  rw [onBlk, Dev.deck_onDeck_self, h]
  exact mapIf_singleton (p := fun b => b.slot == slot) (by rw [hs, beq_self_eq_true]) f

/-! ### Rows as changes of the module -/

theorem exec_darnDispatch {d : Dev} {n : Fin 16} (h : d.domOn (dDEC (n / 8)) = true) (c : Clock) (q : List Instr) (slot : Nat) :
    exec (.darnDispatch n slot) ⟨c, d, q⟩ = .next ⟨c, darnDispatch n slot d, q⟩ :=
  congrArg (fun e => Host.Outcome.next (State.mk c e q)) (if_pos h)

/-- DARN_DONE of the block at work in the engine it names. -/
theorem exec_darnDone {d : Dev} {n : Fin 16} {slot eng : Nat} {b : Blk} (hon : d.domOn (dDEC (n / 8)) = true)
    (heng : (d.die (dieOf n)).darn[eng]? = some (n.val, slot)) (hb : (d.deck n).blocks = [b]) (hs : b.slot = slot) (c : Clock)
    (q : List Instr) : exec (.darnDone n slot b.swath (d.get (Reg.SEQ_STS_LAYER n)) eng) ⟨c, d, q⟩ =
      .next ⟨c, darnDone c n slot d, q⟩ := by
  have hblock : d.blockOf n b.swath slot = true := by
    rw [Dev.blockOf, Deck.blk_singleton hb hs, Option.any_some, beq_self_eq_true]
  have hat : d.darnAt n slot (d.get (Reg.SEQ_STS_LAYER n)) eng = true := by
    rw [Dev.darnAt, heng, beq_self_eq_true, beq_self_eq_true, Bool.and_self]
  exact congrArg (fun e => Host.Outcome.next (State.mk c e q)) ((if_pos hon).trans (if_pos ⟨hblock, hat⟩))

theorem exec_gleanSetApply {d : Dev} {n : Fin 16} (h : d.deckOn n = true) (c : Clock) (q : List Instr) (g : Fin 5) :
    exec (.gleanSetApply n g) ⟨c, d, q⟩ = .next ⟨c, gleanSetApply c n g d, q⟩ :=
  congrArg (fun e => Host.Outcome.next (State.mk c e q)) (if_pos h)

/-! ### The engine's result (R172) -/

/-- A pool in which no darn engine works on a block of a deck. -/
def Die.darnFree (n slot : Nat) (p : Die) : Die := { p with darn := p.darn.filter (fun x => x != (n, slot)) }

/-- The engine is free again, and the block is counted. -/
def Dev.darnFreed (d : Dev) (n slot : Nat) (b : Blk) : Dev := blkCount n b (d.onDie (dieOf n) (Die.darnFree n slot))

/-- Counting a block changes its deck's margin only. -/
theorem blkCount_spec (n : Nat) (b : Blk) (d : Dev) : blkCount n b d = { d with decks := (blkCount n b d).decks } ∧
    DeckOnly n d (blkCount n b d) ∧ ((blkCount n b d).deck n).blocks = (d.deck n).blocks ∧
    ((blkCount n b d).deck n).delivered = (d.deck n).delivered ∧
    ((blkCount n b d).deck n).margin.miscorr = (d.deck n).margin.miscorr := by
  unfold blkCount
  split
  · refine ⟨rfl, DeckOnly.onDeck _ _ _, ?_, ?_, ?_⟩ <;> rw [Dev.deck_onDeck_self]
  · exact ⟨rfl, fun _ _ => rfl, rfl, rfl, rfl⟩

/-- What is left when the engine is free: the block and the deck's results as they were. -/
structure DarnFreed (n slot : Nat) (d e : Dev) : Prop where
  frame : e = { d with regs := e.regs, decks := e.decks, dies := e.dies }
  get : ∀ g : Fld, g.lo < 32 → g.off % deckSpan ≠ 0x2001C → e.get g = d.get g
  decks : DeckOnly n d e
  blocks : (e.deck n).blocks = (d.deck n).blocks
  delivered : (e.deck n).delivered = (d.deck n).delivered
  miscorr : (e.deck n).margin.miscorr = (d.deck n).margin.miscorr
  darn : (e.die (dieOf n)).darn = (d.die (dieOf n)).darn.filter (fun x => x != (n, slot))

theorem Dev.darnFreed_spec (d : Dev) (n slot : Nat) (b : Blk) : DarnFreed n slot d (d.darnFreed n slot b) := by
  have hdecks := onDie_decks (dieOf n) (Die.darnFree n slot) d
  have hdeck := Dev.deck_of_decks hdecks n
  obtain ⟨hframe, honly, hblocks, hdelivered, hmiscorr⟩ := blkCount_spec n b (d.onDie (dieOf n) (Die.darnFree n slot))
  have hregs : (d.darnFreed n slot b).regs = (d.onDie (dieOf n) (Die.darnFree n slot)).regs := by rw [Dev.darnFreed, hframe]
  have hdies : (d.darnFreed n slot b).dies = (d.onDie (dieOf n) (Die.darnFree n slot)).dies := by rw [Dev.darnFreed, hframe]
  refine ⟨?_, fun g hlo hg => ?_, ?_, ?_, ?_, ?_, ?_⟩
  · rw [Dev.darnFreed, hframe, onDie_eq]
  · rw [Dev.get_of_regs hregs, get_onDie _ _ d hlo hg]
  · exact (DeckOnly.of_decks hdecks).trans honly
  · rw [Dev.darnFreed, hblocks, hdeck]
  · rw [Dev.darnFreed, hdelivered, hdeck]
  · rw [Dev.darnFreed, hmiscorr, hdeck]
  · rw [Dev.die, hdies]
    exact onDie_darn ..

/-- The result for a fully written block, by its erasures (R172). -/
theorem darnDone_full {d : Dev} {n slot : Nat} {b : Blk} (hb : (d.deck n).blocks = [b]) (hs : b.slot = slot) (hin : b.inDarn = true)
    (hpass : b.passes % 16 = 15) (c : Clock) :
    (b.erasures = 0 → (d.darnFreed n slot b).getB (Reg.DET_DEC_CFG_DARN_CHK n) = false →
      darnDone c n slot d = blkDeliver c n b true true b.data (d.darnFreed n slot b)) ∧
    (0 < b.erasures → b.erasures ≤ 8 → ∀ r, darnDecode b.pays b.erased = some r →
      darnDone c n slot d = darnDecoded c n b r.1 r.2 (d.darnFreed n slot b)) ∧
    (0 < b.erasures → b.erasures ≤ 8 → darnDecode b.pays b.erased = none →
      darnDone c n slot d = blkGlean c n b (d.darnFreed n slot b)) ∧
    (8 < b.erasures → 0 < b.dataErasures → darnDone c n slot d = blkGlean c n b (d.darnFreed n slot b)) := by
  have hfind : (d.deck n).blocks.find? (fun b => b.slot == slot && b.inDarn) = some b := by
    rw [hb, List.find?_cons, hs, beq_self_eq_true, hin, Bool.and_self]
  have hfree : blkCount n b (d.onDie (dieOf n) (fun p => { p with darn := p.darn.filter (fun x => x != (n, slot)) })) =
      d.darnFreed n slot b := rfl
  rw [darnDone, hfind]
  dsimp only
  rw [if_pos hpass, hfree]
  refine ⟨fun hnone hchk => ?_, fun hsome hfew r hr => ?_, fun hsome hfew hr => ?_, fun hmany hdata => ?_⟩
  · rw [if_neg (by simp [hnone, hchk]), if_pos hnone]
  · rw [if_pos ⟨hfew, .inr hsome⟩, hr]
  · rw [if_pos ⟨hfew, .inr hsome⟩, hr]
  · rw [if_neg (by omega), if_neg (by omega), if_neg (by omega)]

/-- A block delivered leaves the list, with both stamps of the end of its last sector. -/
theorem blkDeliver_spec {d : Dev} {n t a : Nat} {b : Blk} (hb : (d.deck n).blocks = [b]) (hend : b.ended = some (t, a)) (c : Clock)
    (checked hist : Bool) (data : List Byte) :
    ((blkDeliver c n b checked hist data d).deck n).delivered =
      (d.deck n).delivered ++ [⟨b.slot, b.swath, 0, checked, t, a, data, d.get (Reg.SEQ_STS_LAYER n)⟩] ∧
    ((blkDeliver c n b checked hist data d).deck n).blocks = [] ∧
    ((blkDeliver c n b checked hist data d).deck n).margin.miscorr = (d.deck n).margin.miscorr := by
  rw [blkDeliver, Dev.deck_onDeck_self]
  refine ⟨?_, ?_, rfl⟩
  · rw [Blk.stamps, hend]
    rfl
  · rw [hb]
    simp

/-- A block that may be read again waits for its next glean (R173). -/
theorem blkGlean_waits {d : Dev} {n : Nat} {b : Blk} (hg : b.glean < min (d.get (Reg.DET_DEC_CFG_MAX_GLEAN n)) 4)
    (htb : 2 ≤ d.tbState n) (c : Clock) : blkGlean c n b d =
      (onBlk n b.slot (fun x => { x with inDarn := false, pending := true, glean := x.glean + 1 }) d).set (Reg.DET_STS_GLEANING n) 1 := by
  rw [blkGlean]
  dsimp only
  rw [if_neg (not_or.2 ⟨Nat.not_le.2 hg, Nat.not_lt.2 htb⟩)]

theorem layer_elsewhere (n : Nat) : (Reg.SEQ_STS_LAYER n).lo < 32 ∧ (Reg.SEQ_STS_LAYER n).off % deckSpan ≠ 0x2001C := by
  simp only [Reg.SEQ_STS_LAYER, deckSpan]
  omega

theorem dec_cfg_elsewhere (n : Nat) :
    (Reg.DET_DEC_CFG_DARN_CHK n).lo < 32 ∧ (Reg.DET_DEC_CFG_MAX_GLEAN n).lo < 32 ∧
      (Reg.DET_DEC_CFG_DARN_CHK n).off % deckSpan ≠ 0x2001C := by
  simp only [Reg.DET_DEC_CFG_DARN_CHK, Reg.DET_DEC_CFG_MAX_GLEAN, deckSpan]
  omega

theorem tb_state_elsewhere (n : Nat) : (Reg.ANG_STS_STATE n).lo < 32 ∧ (Reg.ANG_STS_STATE n).off % deckSpan ≠ 0x2001C := by
  simp only [Reg.ANG_STS_STATE, deckSpan]
  omega

/-- The block waits for its next glean once the engine is free. -/
theorem glean_after_darn {d : Dev} {n slot : Nat} {b : Blk} (hb : (d.deck n).blocks = [b])
    (hg : b.glean < min (d.get (Reg.DET_DEC_CFG_MAX_GLEAN n)) 4) (htb : 2 ≤ d.tbState n) (c : Clock) :
    ((blkGlean c n b (d.darnFreed n slot b)).deck n).blocks = [{ b with inDarn := false, pending := true, glean := b.glean + 1 }] ∧
    (blkGlean c n b (d.darnFreed n slot b)).get (Reg.DET_STS_GLEANING n) = 1 ∧
    DeckOnly n d (blkGlean c n b (d.darnFreed n slot b)) ∧
    blkGlean c n b (d.darnFreed n slot b) = { d with
      regs := (blkGlean c n b (d.darnFreed n slot b)).regs, decks := (blkGlean c n b (d.darnFreed n slot b)).decks,
      dies := (blkGlean c n b (d.darnFreed n slot b)).dies } := by
  have hfree := d.darnFreed_spec n slot b
  have hmax := hfree.get (Reg.DET_DEC_CFG_MAX_GLEAN n) (dec_cfg_elsewhere n).2.1 (dec_cfg_elsewhere n).2.2
  have hstate := hfree.get (Reg.ANG_STS_STATE n) (tb_state_elsewhere n).1 (tb_state_elsewhere n).2
  rw [blkGlean_waits (by rw [hmax]; exact hg) (by rw [Dev.tbState, hstate]; exact htb)]
  refine ⟨?_, ?_, ?_, ?_⟩
  · rw [Dev.deck_set, blocks_onBlk (hfree.blocks.trans hb) rfl]
  · exact Dev.get_set_self ..
  · exact hfree.decks.trans (.trans (DeckOnly.onDeck _ _ _) (.of_decks (Dev.set_decks ..)))
  · rw [hfree.frame]
    rfl

/-- The module with the tracks of a decoded block that held errors counted and reported. -/
def Dev.miscorrected (c : Clock) (n : Nat) (b : Blk) (errs : List Nat) (d : Dev) : Dev :=
  if errs = [] then d else
    ((d.onDeck n (fun k => { k with margin := { k.margin with miscorr := satAdd 32 k.margin.miscorr errs.length } })).set
      (Reg.DET_STS_MISCORR n) 1).fault c (.deck n)
      { cls := 2, code := 1, sev := 2,
        detail := le 4 (pbaOf (d.get (Reg.SEQ_STS_LAYER n)) b.swath b.slot) ++ le 8 (errs.foldl setBit 0) }

theorem darnDecoded_eq (c : Clock) (n : Nat) (b : Blk) (data : List (List Byte)) (errs : List Nat) (d : Dev) :
    darnDecoded c n b data errs d = blkDeliver c n b true true data.flatten (d.miscorrected c n b errs) := rfl

/-- A fault below severity 3 leaves the fields of decks as they were. -/
theorem Dev.get_fault_deck (c : Clock) (src : Src) {q : Cond} (hq : q.sev ≠ 3) (d : Dev) {g : Fld} (hg : deckBase ≤ g.off) :
    (d.fault c src q).get g = d.get g := by
  refine Dev.fault_regsOnly c src hq d g.key ?_
  simp only [List.map_cons, List.map_nil, List.mem_singleton, Fld.key, Reg.FLT_STS_LOST, deckBase] at hg ⊢
  omega

theorem Dev.fault_decks (c : Clock) (src : Src) (q : Cond) (d : Dev) : (d.fault c src q).decks = d.decks := by rw [Dev.fault_eq]

/-- Errors counted touch neither the block nor what has been delivered. -/
theorem Dev.miscorrected_spec (c : Clock) (n : Nat) (b : Blk) (errs : List Nat) (d : Dev) :
    ((d.miscorrected c n b errs).deck n).blocks = (d.deck n).blocks ∧
    ((d.miscorrected c n b errs).deck n).delivered = (d.deck n).delivered ∧
    (d.miscorrected c n b errs).get (Reg.SEQ_STS_LAYER n) = d.get (Reg.SEQ_STS_LAYER n) ∧
    (errs ≠ [] → ((d.miscorrected c n b errs).deck n).margin.miscorr = satAdd 32 (d.deck n).margin.miscorr errs.length ∧
      (d.miscorrected c n b errs).get (Reg.DET_STS_MISCORR n) = 1) := by
  unfold Dev.miscorrected
  split
  · exact ⟨rfl, rfl, rfl, fun h => absurd ‹_› h⟩
  · have hlayer : deckBase ≤ (Reg.SEQ_STS_LAYER n).off ∧ (Reg.SEQ_STS_LAYER n).off ≠ (Reg.DET_STS_MISCORR n).off ∧
        deckBase ≤ (Reg.DET_STS_MISCORR n).off := by
      simp only [Reg.SEQ_STS_LAYER, Reg.DET_STS_MISCORR, deckBase]
      omega
    obtain ⟨hbase, hne, hbase'⟩ := hlayer
    refine ⟨?_, ?_, ?_, fun _ => ⟨?_, ?_⟩⟩
    · rw [Dev.deck_of_decks (Dev.fault_decks ..), Dev.deck_set, Dev.deck_onDeck_self]
    · rw [Dev.deck_of_decks (Dev.fault_decks ..), Dev.deck_set, Dev.deck_onDeck_self]
    · rw [Dev.get_fault_deck c _ (by simp) _ hbase, Dev.get_set_of_off_ne _ _ hne (layer_elsewhere n).1
        (by simp [Reg.DET_STS_MISCORR]), Dev.get_onDeck]
    · rw [Dev.deck_of_decks (Dev.fault_decks ..), Dev.deck_set, Dev.deck_onDeck_self]
    · rw [Dev.get_fault_deck c _ (by simp) _ hbase']
      exact Dev.get_set_self ..

/-! ### A glean set (R174) -/

/-- The one pending block of a glean is read again as its set takes effect. -/
theorem gleanSetApply_spec {c : Clock} {d : Dev} {n g : Nat} {b : Blk} (hb : (d.deck n).blocks = [b])
    (hpend : b.pending = true) (hg : b.glean = g) (htb : 2 ≤ d.tbState n)
    (hhere : passes (gleanPoint d n [b.slot] * 2 ^ 24) (2 ^ 48) (d.deck n).tb.prev (c.counter n) = true)
    (heq : d.get (Reg.DET_GLEAN_SET_EQ_MODE n g) = 0) (hofs : d.getI (Reg.DET_GLEAN_SET_FOCUS_OFS n g) = (d.deck n).gleanOfs) :
    ((gleanSetApply c n g d).deck n).glean = g ∧ ((gleanSetApply c n g d).deck n).gleanOn = true ∧
    ((gleanSetApply c n g d).deck n).blocks =
      [{ b with pending := false, ended := none, dec := b.dec.map (fun v => if v = .erased then .waiting else v) }] ∧
    DeckOnly n d (gleanSetApply c n g d) ∧ gleanSetApply c n g d = { d with decks := (gleanSetApply c n g d).decks } := by
  have hsel : (b.pending && b.glean == g) = true := by rw [hpend, hg, beq_self_eq_true, Bool.and_self]
  have hl : (d.deck n).blocks.filter (fun b => b.pending && b.glean == g) = [b] := by
    rw [hb]
    exact List.filter_cons_of_pos (p := fun b : Blk => b.pending && b.glean == g) hsel
  unfold gleanSetApply
  extract_lets l here e again e' e'' ofs
  have hlist : l = [b] := hl
  have hpoint : here = true := by
    unfold here
    rw [hlist]
    exact hhere
  have hnot : ¬(l = [] ∨ d.tbState n < 2 ∨ here = false) := by
    rw [hlist, hpoint]
    simp [Nat.not_lt.2 htb]
  rw [if_neg hnot]
  have he : e = { d with decks := e.decks } ∧ DeckOnly n d e ∧ (e.deck n).blocks = [b] ∧ (e.deck n).gleanOfs = (d.deck n).gleanOfs := by
    unfold e
    split
    · exact ⟨rfl, fun _ _ => rfl, hb, rfl⟩
    · refine ⟨rfl, DeckOnly.onDeck _ _ _, ?_, ?_⟩ <;> rw [Dev.deck_onDeck_self]
      exact hb
  obtain ⟨hframe, honly, hblocks, heofs⟩ := he
  have hregs : e'.regs = d.regs := by unfold e'; rw [Dev.onDeck_regs, hframe]
  have hmode : e'' = e' := by
    unfold e''
    rw [Dev.get_of_regs hregs, heq]
    rfl
  have hmove : e''.focusBy c n (ofs - (e''.deck n).gleanOfs) = e' := by
    have hzero : ofs - (e'.deck n).gleanOfs = 0 := by
      unfold ofs
      rw [hmode, Dev.getI, Dev.get_of_regs hregs]
      unfold e'
      rw [Dev.deck_onDeck_self]
      exact Int.sub_eq_zero.2 (hofs.trans heofs.symm)
    rw [hmode, hzero, Dev.focusBy, if_pos (.inl rfl)]
  rw [hmove]
  unfold e'
  refine ⟨?_, ?_, ?_, ?_, ?_⟩
  · rw [Dev.deck_onDeck_self, Dev.deck_onDeck_self]
  · rw [Dev.deck_onDeck_self, Dev.deck_onDeck_self]
  · rw [Dev.deck_onDeck_self, Dev.deck_onDeck_self, hblocks]
    exact mapIf_singleton (p := fun b : Blk => b.pending && b.glean == g) hsel again
  · exact (honly.trans (DeckOnly.onDeck _ _ _)).trans (DeckOnly.onDeck _ _ _)
  · rw [hframe]
    rfl

/-! ### The statement -/

/-- Settles O23: the engine is freed first; what follows is a delivery, a decode or a wait, each with its own lemma. -/
theorem darnAndGleans : Obligations.DarnAndGleans := by
  unfold Obligations.DarnAndGleans
  refine ⟨?dispatch, ?whole, ?decoded, ?tooMany, ?gleanSet⟩
  case dispatch =>
    rintro c d q n slot b hon ⟨hb, hs⟩ ⟨hcomplete, hin, hpend, hmode⟩ hroom
    have hdarn : darnDispatch n slot d = (onBlk n slot (fun b => { b with inDarn := true }) d).onDie (dieOf n)
        (fun p => { p with darn := p.darn ++ [(n.val, slot)] }) := by
      rw [darnDispatch, Deck.blk_singleton hb hs]
      simp [hcomplete, hin, hpend, hmode, hroom]
    refine ⟨_, exec_darnDispatch hon c q slot, ?_, ?_, ?_, ?_⟩
    · rw [hdarn, Dev.deck_of_decks (onDie_decks ..), blocks_onBlk hb hs]
    · rw [hdarn, onDie_darn]
      rfl
    · rw [hdarn]
      exact .trans (DeckOnly.onDeck _ _ _) (.of_decks (onDie_decks ..))
    · rw [hdarn, onDie_eq]
      rfl
  case whole =>
    rintro c d q n slot eng t a b heng hon ⟨hb, hs, hin, hend⟩ ⟨hpass, hnone⟩ hchk
    have hfree := d.darnFreed_spec n slot b
    have hchk' : (d.darnFreed n slot b).getB (Reg.DET_DEC_CFG_DARN_CHK n) = false := by
      rw [Dev.getB, hfree.get _ (dec_cfg_elsewhere n).1 (dec_cfg_elsewhere n).2.2]
      exact hchk
    have hdone := (darnDone_full hb hs hin hpass c).1 hnone hchk'
    obtain ⟨hdelivered, hblocks, _⟩ := blkDeliver_spec (hfree.blocks.trans hb) hend c true true b.data
    rw [hfree.delivered, hfree.get _ (layer_elsewhere n).1 (layer_elsewhere n).2, hs] at hdelivered
    refine ⟨_, exec_darnDone hon heng hb hs c q, ?_, ?_, ?_, ?_, ?_⟩
    · rw [hdone, hdelivered]
    · rw [hdone, hblocks]
    · rw [hdone]
      exact hfree.darn
    · rw [hdone]
      exact hfree.decks.trans (DeckOnly.onDeck _ _ _)
    · rw [hdone, hfree.frame]
      rfl
  case decoded =>
    rintro c d q n slot eng t a b heng hon ⟨hb, hs, hin, hend⟩ ⟨hpass, hsome, hfew⟩
    have hfree := d.darnFreed_spec n slot b
    obtain ⟨_, hyes, hno, _⟩ := darnDone_full hb hs hin hpass c
    refine ⟨_, exec_darnDone hon heng hb hs c q, fun data errs hdec => ?_, fun data errs hdec herrs => ?_, fun hdec hg htb => ?_⟩
    · obtain ⟨hblocks, hdelivered, hlayer, _⟩ := (d.darnFreed n slot b).miscorrected_spec c n b errs
      obtain ⟨hnew, _, _⟩ := blkDeliver_spec ((hblocks.trans hfree.blocks).trans hb) hend c true true data.flatten
      rw [hdelivered, hlayer, hfree.delivered, hfree.get _ (layer_elsewhere n).1 (layer_elsewhere n).2, hs] at hnew
      rw [hyes hsome hfew _ hdec]
      exact hnew
    · obtain ⟨hblocks, _, _, hmis⟩ := (d.darnFreed n slot b).miscorrected_spec c n b errs
      obtain ⟨hcount, hflag⟩ := hmis herrs
      obtain ⟨_, _, hkept⟩ := blkDeliver_spec ((hblocks.trans hfree.blocks).trans hb) hend c true true data.flatten
      rw [hcount, hfree.miscorr] at hkept
      rw [hyes hsome hfew _ hdec]
      exact ⟨hkept, hflag⟩
    · rw [hno hsome hfew hdec]
      exact (glean_after_darn hb hg htb c).1
  case tooMany =>
    rintro c d q n slot eng b heng hon ⟨hb, hs, hin⟩ ⟨hpass, hmany, hdata⟩ ⟨hg, htb⟩
    have hdone := (darnDone_full hb hs hin hpass c).2.2.2 hmany hdata
    refine ⟨_, exec_darnDone hon heng hb hs c q, ?_⟩
    rw [hdone]
    exact glean_after_darn hb hg htb c
  case gleanSet =>
    rintro c d q n g b hon ⟨hb, hpend, hg⟩ htb hhere heq hofs
    exact ⟨_, exec_gleanSetApply hon c q g, gleanSetApply_spec hb hpend hg htb hhere heq hofs⟩

end Sys2Proof.Machine
end

section
/-! SUPPORT. Writes of the host: their transfer and staging, the units that describe and commit them, Flush (R13, R417 to R424). -/

open Sys2Proof Sys2Proof.Machine

namespace Sys2Proof.Machine

/-! ### What the host side of the module keeps -/

/-- Only the host side has changed; no context is new, and no completion posted is taken back. -/
structure HostSettles (d e : Dev) : Prop where
  frame : e = { d with host := e.host }
  ctx : ∀ stamp, d.ctx stamp = none → e.ctx stamp = none
  posted : ∀ p ∈ d.host.posted, p ∈ e.host.posted

theorem HostSettles.refl (d : Dev) : HostSettles d d := ⟨rfl, fun _ h => h, fun _ h => h⟩

theorem HostSettles.trans {d e f : Dev} (h : HostSettles d e) (h' : HostSettles e f) : HostSettles d f := by
  refine ⟨?_, fun s hs => h'.ctx s (h.ctx s hs), fun p hp => h'.posted p (h.posted p hp)⟩
  rw [h'.frame, h.frame]

theorem Dev.complete_settles (stamp : Nat) (st : Sts) (dw0 dw1 : Nat) (data : List Byte) (d : Dev) :
    HostSettles d (d.complete stamp st dw0 dw1 data) := by
  refine ⟨Dev.complete_eq .., fun s hs => ?_, fun p hp => ?_⟩
  · have hrest : (d.host.ctxs.filter (fun y => y.stamp != stamp)).find? (fun y => y.stamp == s) = none :=
      List.find?_eq_none.2 fun y hy => List.find?_eq_none.1 hs y (List.mem_of_mem_filter hy)
    unfold Dev.complete
    split
    · exact hs
    · dsimp only
      split <;> exact hrest
  · unfold Dev.complete
    split
    · exact hp
    · dsimp only
      split
      · exact hp
      · exact List.mem_append_left _ hp

theorem Dev.settle_settles (d : Dev) : HostSettles d d.settle := by
  unfold Dev.settle
  generalize (d.host.ctxs.filter (fun x => x.cmd.op == .flush && x.phase == .media)).map (fun x => x.stamp) = l
  induction l generalizing d with
  | nil => exact .refl d
  | cons s t ih =>
    refine HostSettles.trans ?_ (ih _)
    dsimp only
    split
    · split
      · exact Dev.complete_settles ..
      · exact .refl d
    · exact .refl d

theorem Dev.ctx_ends (stamp : Nat) (st : Sts) (d : Dev) : (d.ends stamp st).ctx stamp = none := by
  unfold Dev.ends Dev.complete
  split
  · assumption
  · dsimp only
    split <;> simp [Dev.ctx]

/-- A command refused is answered, whatever flushes end with it. -/
theorem Dev.ends_settle_answered {d : Dev} {stamp : Nat} {x : Ctx} (h : d.ctx stamp = some x) (hm : x.mute = false)
    (hp : x.posted = false) (st : Sts) : Answered stamp x st 0 0 [] (d.ends stamp st).settle ∧
      (d.ends stamp st).settle = { d with host := (d.ends stamp st).settle.host } := by
  have hs := (d.ends stamp st).settle_settles
  refine ⟨⟨hs.ctx stamp (Dev.ctx_ends stamp st d), hs.posted _ ?_⟩, ((Dev.complete_settles stamp st 0 0 [] d).trans hs).frame⟩
  rw [Dev.ends, Dev.complete_of_ctx h hm hp]
  exact List.mem_append_right _ (List.mem_singleton_self _)

theorem Dev.stamp_of_ctx {d : Dev} {stamp : Nat} {x : Ctx} (h : d.ctx stamp = some x) : x.stamp = stamp :=
  beq_iff_eq.1 (List.find?_some (p := fun y : Ctx => y.stamp == stamp) h)

/-- A change of a context that leaves stamps as they are shows in it. -/
theorem Dev.ctx_onCtx {d : Dev} {stamp : Nat} {x : Ctx} (h : d.ctx stamp = some x) {f : Ctx → Ctx} (hf : ∀ y, (f y).stamp = y.stamp) :
    (d.onCtx stamp f).ctx stamp = some (f x) := by
  have hp : (fun y : Ctx => y.stamp == stamp) ∘ (fun y => if y.stamp == stamp then f y else y) = fun y => y.stamp == stamp := by
    funext y
    dsimp only [Function.comp]
    split
    · rw [hf]
    · rfl
  rw [Dev.ctx, Dev.onCtx, mapIf, List.find?_map, hp]
  rw [Dev.ctx] at h
  rw [h, Option.map_some, if_pos (List.find?_some (p := fun y : Ctx => y.stamp == stamp) h)]

/-! ### Changes of registers and decks -/

/-- Only registers and decks have changed. -/
def DeckRegs (d e : Dev) : Prop := e = { d with regs := e.regs, decks := e.decks }

theorem DeckRegs.refl (d : Dev) : DeckRegs d d := rfl

theorem DeckRegs.trans {d e f : Dev} (h : DeckRegs d e) (h' : DeckRegs e f) : DeckRegs d f := by
  rw [DeckRegs, h', h]

theorem DeckRegs.set (f : Fld) (v : Nat) (d : Dev) : DeckRegs d (d.set f v) := rfl

theorem DeckRegs.onDeck (n : Nat) (g : Deck → Deck) (d : Dev) : DeckRegs d (d.onDeck n g) := rfl

theorem DeckRegs.since (n key : Nat) (d : Dev) : DeckRegs d (d.since n key) := rfl

theorem DeckRegs.turnSince (n key : Nat) (d : Dev) : DeckRegs d (d.turnSince n key) := rfl

theorem DeckRegs.foldl {α : Type} {f : Dev → α → Dev} (h : ∀ d a, DeckRegs d (f d a)) (l : List α) (d : Dev) :
    DeckRegs d (l.foldl f d) := by
  induction l generalizing d with
  | nil => exact .refl d
  | cons a t ih => exact (h d a).trans (ih _)

theorem DeckRegs.ite {p : Prop} [Decidable p] {d a b : Dev} (ha : DeckRegs d a) (hb : DeckRegs d b) :
    DeckRegs d (if p then a else b) := by
  split <;> assumption

theorem DeckRegs.host {d e : Dev} (h : DeckRegs d e) : e.host = d.host := by rw [h]

theorem queueStm_deckRegs (n num : Nat) (zone : Option Nat) (fresh : Bool) (x : Stm) (d : Dev) :
    DeckRegs d (queueStm n num zone fresh x d) := .ite (.refl d) (.onDeck ..)

/-! ### The wake of a parked deck (R364) -/

theorem coilsUp_deckRegs (n : Nat) (d : Dev) : DeckRegs d (d.coilsUp n) :=
  (DeckRegs.onDeck n _ d).trans (DeckRegs.foldl (fun _ _ => .set ..) _ _)

theorem spnSetSpeed_deckRegs (n rpm : Nat) (d : Dev) : DeckRegs d (spnSetSpeed n rpm d) := by
  refine .ite (.set ..) ?_
  have htake : DeckRegs d (d.spnTake n 4) := (DeckRegs.ite (.set ..) (.refl d)).trans ((DeckRegs.onDeck ..).trans (.set ..))
  exact htake.trans ((DeckRegs.set ..).trans (.onDeck ..))

theorem chargeFree_deckRegs (n : Nat) (d : Dev) : DeckRegs d (d.chargeFree n) :=
  .ite ((DeckRegs.set ..).trans (.set ..)) (.refl d)

theorem spnState_deckRegs (n st : Nat) (d : Dev) : DeckRegs d (d.spnState n st) := by
  have hst : DeckRegs d (((d.set (Reg.SPN_STS_STATE n) st).since n aSPN).since n aSLOW) :=
    (DeckRegs.set ..).trans ((DeckRegs.since ..).trans (.since ..))
  exact .ite (hst.trans (chargeFree_deckRegs ..)) hst

theorem spnStart_deckRegs (n rpm : Nat) (d : Dev) : DeckRegs d (spnStart n rpm d) := by
  refine .ite (.set ..) (.ite (spnSetSpeed_deckRegs ..) ?_)
  have htake : DeckRegs d (d.spnTake n 1) := (DeckRegs.ite (.set ..) (.refl d)).trans ((DeckRegs.onDeck ..).trans (.set ..))
  exact htake.trans ((DeckRegs.set ..).trans ((DeckRegs.onDeck ..).trans ((DeckRegs.set ..).trans ((DeckRegs.set ..).trans
    (spnState_deckRegs ..)))))

theorem deckState_deckRegs (n st : Nat) (d : Dev) : DeckRegs d (d.deckState n st) :=
  (DeckRegs.set ..).trans ((DeckRegs.since ..).trans ((DeckRegs.since ..).trans (.turnSince ..)))

theorem seqSpin_deckRegs (n cmd rpm : Nat) (d : Dev) : DeckRegs d (seqSpin n cmd rpm d) :=
  .ite ((spnStart_deckRegs ..).trans ((deckState_deckRegs ..).trans (.set ..))) (spnSetSpeed_deckRegs ..)

theorem chargeTake_deckRegs (n : Nat) (d : Dev) : DeckRegs d (d.chargeTake n) :=
  .ite (.refl d) ((DeckRegs.set ..).trans ((DeckRegs.set ..).trans (.onDeck ..)))

theorem chargeTry_deckRegs (n : Nat) (d : Dev) : DeckRegs d (chargeTry n d) :=
  .ite (.refl d) ((DeckRegs.onDeck ..).trans ((DeckRegs.set ..).trans ((chargeTake_deckRegs ..).trans (seqSpin_deckRegs ..))))

theorem chargeWant_deckRegs (c : Clock) (n cmd rpm : Nat) (d : Dev) : DeckRegs d (chargeWant c n cmd rpm d) :=
  .ite (seqSpin_deckRegs ..) ((DeckRegs.onDeck ..).trans ((DeckRegs.set ..).trans (chargeTry_deckRegs ..)))

theorem loadGo_deckRegs (c : Clock) (n job : Nat) (d : Dev) : DeckRegs d (loadGo c n job d) :=
  (DeckRegs.onDeck ..).trans ((coilsUp_deckRegs ..).trans ((DeckRegs.set ..).trans (chargeWant_deckRegs ..)))

theorem deckWake_deckRegs (c : Clock) (n : Nat) (d : Dev) : DeckRegs d (deckWake c n d) :=
  .ite ((DeckRegs.onDeck ..).trans (loadGo_deckRegs ..)) (.since ..)

/-! ### The transfer of a write's data (R13, R405, R423) -/

theorem exec_write (c : Clock) (d : Dev) (q : List Instr) (stamp : Nat) (data : List Byte) :
    exec (.write stamp data) ⟨c, d, q⟩ = .next ⟨c, hostWrite .write stamp data d, q⟩ := rfl

theorem exec_zoneAppend (c : Clock) (d : Dev) (q : List Instr) (stamp : Nat) (data : List Byte) :
    exec (.zoneAppend stamp data) ⟨c, d, q⟩ = .next ⟨c, hostWrite .zoneAppend stamp data d, q⟩ := rfl

section transfer
variable {d : Dev} {op : Cmd} {stamp : Nat} {x : Ctx} {b : BindRec} {s : StripeRec} (hrun : d.running stamp op = some x)
  (hstop : d.opStop op x.cmd.nsid = none) (hbound : d.bound x.cmd.nsid = some (b, s)) (hsize : x.cmd.nlb ≠ 0 ∧ x.cmd.nlb ≤ maxBlocks b)
include hrun hstop hbound hsize

/-- Data that pass every check wait in the context, and count for the controller. -/
theorem hostWrite_takes (hrange : x.cmd.slba + x.cmd.nlb ≤ d.nsBlocks b s) (hop : op = .zoneAppend → b.zoned = true)
    {data : List Byte} (hdata : data.length = x.cmd.nlb * b.lbs)
    (hzone : b.zoned = true → ∃ z, d.zoneCheck b s (op == .zoneAppend) x.cmd.slba x.cmd.nlb = .inr z) :
    hostWrite op stamp data d = (d.onCtx stamp (fun y => { y with data := data })).moveCount x.cid data.length := by
  have hkind : ¬(op = .zoneAppend ∧ b.zoned = false) := fun h => by simp [hop h.1] at h
  rw [hostWrite, Dev.run_of_running hrun, hstop, hbound]
  dsimp only
  rw [if_neg (by omega), if_neg (by omega), if_neg hkind, if_neg (not_not.2 hdata)]
  cases hz : b.zoned with
  | false => rfl
  | true =>
    obtain ⟨z, hz'⟩ := hzone hz
    rw [if_pos rfl, hz']

theorem hostWrite_outOfRange (hrange : d.nsBlocks b s < x.cmd.slba + x.cmd.nlb) (data : List Byte) :
    hostWrite op stamp data d = (d.ends stamp .lbaRange).settle := by
  rw [hostWrite, Dev.run_of_running hrun, hstop, hbound]
  dsimp only
  rw [if_neg (by omega), if_pos hrange]

end transfer

/-! ### Staging (R420) -/

/-- A write that is staged joins the table of writes; contexts and completions stay. -/
theorem Dev.stageWrite_host {d f : Dev} {c : Clock} {j : WriteJob} (h : d.stageWrite c j = .inr f) :
    f.host.ctxs = d.host.ctxs ∧ f.host.posted = d.host.posted ∧
      f.host.writes.map (fun w => w.stamp) = d.host.writes.map (fun w => w.stamp) ++ [j.stamp] := by
  unfold Dev.stageWrite at h
  extract_lets ns start r size decks noRoom d1 d2 d3 w side d4 at h
  split_ifs at h
  have hf : f = decks.foldl (fun d n => deckWake c n d) d4 := (Sum.inr.inj h).symm
  have h1 : d1.host = d.host := (DeckRegs.foldl (fun _ _ => queueStm_deckRegs ..) _ _).host
  have hwake : f.host = d4.host := hf ▸ (DeckRegs.foldl (fun _ _ => deckWake_deckRegs ..) _ _).host
  have h3 : d3.host.ctxs = d.host.ctxs ∧ d3.host.posted = d.host.posted ∧ d3.host.writes = d.host.writes := by
    have h2 : d2.host.ctxs = d.host.ctxs ∧ d2.host.posted = d.host.posted ∧ d2.host.writes = d.host.writes := by
      change d1.host.ctxs = _ ∧ d1.host.posted = _ ∧ d1.host.writes = _
      rw [h1]
      exact ⟨rfl, rfl, rfl⟩
    unfold d3
    split <;> exact h2
  obtain ⟨hctxs, hposted, hwrites⟩ := h3
  rw [hwake]
  refine ⟨hctxs, hposted, ?_⟩
  rw [← hwrites]
  exact List.map_append ..

/-- What the staging of a write to an unzoned namespace works on. -/
def Dev.plainJob (d : Dev) (x : Ctx) (b : BindRec) (s : StripeRec) (stamp : Nat) : WriteJob :=
  let bs := blocksOf b.lbs x.cmd.nlb x.data
  { b := b, s := s, slba := x.cmd.slba, nlb := x.cmd.nlb, wid := x.wid, stamp := stamp, fua := false, zone := none,
    pieces := packWrite (d.coding b) (d.get Reg.CMP_CFG_MIN_SAVE) b.lbs x.cmd.slba bs.length
      (d.openRoom b s none ((d.ns b.nsid).zone 0).wp) 0 bs }

/-- The module after its staging of a write: the engines' input counted, the completion posted and the context marked. -/
def Dev.stagedWrite (f : Dev) (x : Ctx) (stamp bytes : Nat) : Dev :=
  let g := (f.engCount x.cid bytes).onCtx stamp (fun y => { y with phase := .staged, staged := true, data := [], dw0 := 0, dw1 := 0 })
  Dev.onCtx { g with host := { g.host with posted := g.host.posted ++ [{ stamp := stamp, cid := x.cid, status := .success }] } } stamp
    (fun y => { y with posted := true })

theorem exec_writeStaged (c : Clock) (d : Dev) (q : List Instr) (stamp : Nat) :
    exec (.writeStaged stamp) ⟨c, d, q⟩ = .next ⟨c, writeStaged c stamp d, q⟩ := rfl

theorem writeStaged_plain {c : Clock} {d f : Dev} {stamp : Nat} {x : Ctx} {b : BindRec} {s : StripeRec} (hctx : d.ctx stamp = some x)
    (hop : x.cmd.op = .write) (hphase : x.phase = .transfer) (hdata : x.data ≠ []) (hmute : x.mute = false) (hfua : x.cmd.fua = false)
    (hstop : d.opStop x.cmd.op x.cmd.nsid = none) (hbound : d.bound x.cmd.nsid = some (b, s)) (hzoned : b.zoned = false)
    (hstage : d.stageWrite c (d.plainJob x b s stamp) = .inr f) :
    writeStaged c stamp d = f.stagedWrite x stamp (if (f.coding b).kind = 0 then 0 else x.data.length) := by
  have hgo : ¬((x.cmd.op ≠ .write ∧ x.cmd.op ≠ .zoneAppend) ∨ x.phase ≠ .transfer ∨ x.data = []) := by simp [hop, hphase, hdata]
  rw [writeStaged, hctx]
  dsimp only
  rw [if_neg hgo, hstop, hbound]
  simp only [hzoned, Bool.false_eq_true, if_false, hfua]
  unfold Dev.plainJob at hstage
  rw [hstage]
  simp [hop, hmute, Dev.stagedWrite]

theorem Dev.engCount_frame (cid bytes : Nat) (d : Dev) :
    d.engCount cid bytes = { d with host := { d.host with engUsed := (d.engCount cid bytes).host.engUsed } } := by
  unfold Dev.engCount
  dsimp only
  split <;> rfl

theorem Dev.ctx_stagedWrite {f : Dev} {x : Ctx} {stamp : Nat} (h : f.ctx stamp = some x) (bytes : Nat) :
    (f.stagedWrite x stamp bytes).ctx stamp =
      some { x with phase := .staged, staged := true, data := [], posted := true, dw0 := 0, dw1 := 0 } := by
  have hcount : (f.engCount x.cid bytes).ctx stamp = some x := by
    rw [Dev.engCount_frame]
    exact h
  have hmark := Dev.ctx_onCtx hcount (f := fun y => { y with phase := .staged, staged := true, data := [], dw0 := 0, dw1 := 0 }) fun _ => rfl
  exact Dev.ctx_onCtx (f := fun y => { y with posted := true }) hmark fun _ => rfl

/-- Beside the context and the completion, the host side keeps its writes and namespaces. -/
theorem Dev.stagedWrite_frame (f : Dev) (x : Ctx) (stamp bytes : Nat) :
    f.stagedWrite x stamp bytes = { f with host := (f.stagedWrite x stamp bytes).host } ∧
      (f.stagedWrite x stamp bytes).host.writes = f.host.writes ∧ (f.stagedWrite x stamp bytes).host.nss = f.host.nss ∧
      (f.stagedWrite x stamp bytes).host.posted = f.host.posted ++ [{ stamp := stamp, cid := x.cid, status := .success }] := by
  unfold Dev.stagedWrite
  rw [Dev.engCount_frame]
  exact ⟨rfl, rfl, rfl, rfl⟩

/-! ### When a unit is due (R422) -/

theorem exec_commitTimer (c : Clock) (d : Dev) (q : List Instr) (n : Fin 16) :
    exec (.commitTimer n) ⟨c, d, q⟩ = .next ⟨c, commitTimer c n d, q⟩ := rfl

theorem commitTimer_due {c : Clock} {d : Dev} {n t : Nat} (hmode : d.pwr.mode ≠ .sleep) (hwaits : d.unitWaits n = true)
    (hat : (d.deck n).placedAt = some t) (ht : t + d.get Reg.HQ_CMT_CFG_COMMIT_MS * tickMs ≤ c.tick) :
    commitTimer c n d = d.onDeck n (fun k => { k with unitDue := true }) := by
  rw [commitTimer, if_pos ⟨hmode, hwaits, by rw [hat, Option.any_some, decide_eq_true_eq]; exact ht⟩]

/-! ### The writing of a unit (R103, R104, R422) -/

theorem exec_indexUnitWrite {d : Dev} {n : Fin 16} (h : d.deckOn n = true) (c : Clock) (q : List Instr) (swath slot pass : Nat) :
    exec (.indexUnitWrite n swath slot pass) ⟨c, d, q⟩ = .next ⟨c, indexUnitWrite c n swath slot pass d, q⟩ :=
  congrArg (fun e => Host.Outcome.next (State.mk c e q)) (if_pos h)

/-- The deck as the pass of an index unit begins. -/
def Deck.unitBegins (c : Clock) (u : UnitNow) (x : Disc) (layer : Nat) (k : Deck) : Deck :=
  { k with
    unit := some u, unitDue := false, placedAt := some c.tick, pass := some { pass := u.pass, startSlot := u.slot }
    disc := some { x with
      units := (layer, u.swath, u.pass, u.slot) :: x.units, freeUnits := x.freeUnits - 1, dirty := true } }

/-- The writes that a unit describes take the commit time it states. -/
def Dev.timeWrites (c : Clock) (u : UnitNow) (d : Dev) : Dev :=
  { d with host := { d.host with writes := mapIf u.tells (fun w => { w with time := some (w.time.getD (d.taiNow c)) }) d.host.writes } }

/-- The deck goes over to writing. -/
def Dev.startsWriting (n : Nat) (d : Dev) : Dev := ((d.deckState n dWRITING).onSeq n (fun s => { s with writing := true })).laser n 2

theorem indexUnitWrite_begins {c : Clock} {d : Dev} {n swath slot pass : Nat} {x : Disc} {z : Zone} (hdisc : (d.deck n).disc = some x)
    (hz : zoneOf swath = some z) (hmay : mayWrite d n = true) (hopc : opcDue d n = false) (hneed : d.unitNeeded n = true)
    (hfree : x.freeUnits ≠ 0) (hband : bandOf (d.get (Reg.SEQ_STS_LAYER n)) swath = .index) (hslot : slot < z.s) (hpass : pass ≤ 3)
    (hnew : x.units.contains (d.get (Reg.SEQ_STS_LAYER n), swath, pass, slot) = false) (hplace : inPlace d n swath pass z = true)
    (hopen : d.openMask n ≠ 0) :
    indexUnitWrite c n swath slot pass d =
      ((d.timeWrites c (d.indexUnit c n x ⟨swath, slot, pass⟩)).onDeck n
        (Deck.unitBegins c (d.indexUnit c n x ⟨swath, slot, pass⟩) x (d.get (Reg.SEQ_STS_LAYER n)))).startsWriting n := by
  have hindex : (bandOf (d.get (Reg.SEQ_STS_LAYER n)) swath == Band.index) = true := by rw [hband]; rfl
  have hdue : (true && d.unitNeeded n && x.freeUnits != 0) = true := by simp [hneed, hfree]
  have hgo : ¬(z.s ≤ slot ∨ 3 < pass) := by omega
  rw [indexUnitWrite, hdisc, hz]
  dsimp only
  rw [hindex, hdue, hmay, hopc, hnew, hplace, if_neg (by simp; omega), if_neg (by decide), if_neg hopen]
  simp only [Bool.not_true, Bool.and_false, if_true]
  rfl

/-- The deck once it has gone over to writing. -/
def Deck.writes (k : Deck) : Deck :=
  { k with
    ages := (k.ages.ins aSEQ 0).ins aIDLE 0, turns := k.turns.ins tSEQ 0
    seq := { k.seq with writing := true }, link := { k.link with laserMode := 2 } }

theorem Dev.deck_deckState (n st : Nat) (d : Dev) : (d.deckState n st).deck n =
    { d.deck n with ages := ((d.deck n).ages.ins aSEQ 0).ins aIDLE 0, turns := (d.deck n).turns.ins tSEQ 0 } := by
  rw [Dev.deckState, Dev.turnSince, Dev.since, Dev.since, Dev.deck_onDeck_self, Dev.deck_onDeck_self, Dev.deck_onDeck_self, Dev.deck_set]

theorem Dev.deckState_deckOnly (n st : Nat) (d : Dev) : DeckOnly n d (d.deckState n st) := by
  have hset : DeckOnly n d (d.set (Reg.SEQ_STS_STATE n) st) := .of_decks rfl
  exact ((hset.trans (DeckOnly.onDeck n (fun k => { k with ages := k.ages.ins aSEQ 0 }) _)).trans
    (DeckOnly.onDeck n (fun k => { k with ages := k.ages.ins aIDLE 0 }) _)).trans
      (DeckOnly.onDeck n (fun k => { k with turns := k.turns.ins tSEQ 0 }) _)

theorem Dev.deckState_regs (n st : Nat) (d : Dev) : (d.deckState n st).regs = (d.set (Reg.SEQ_STS_STATE n) st).regs := rfl

theorem Dev.startsWriting_regs (n : Nat) (d : Dev) : (d.startsWriting n).regs = (d.set (Reg.SEQ_STS_STATE n) dWRITING).regs :=
  Dev.deckState_regs n dWRITING d

theorem Dev.dstate_startsWriting (n : Nat) (d : Dev) : (d.startsWriting n).dstate n = dWRITING := by
  rw [Dev.dstate, Dev.get_of_regs (Dev.startsWriting_regs n d), Dev.get_set_self]
  rfl

theorem Dev.startsWriting_regsOnly (n : Nat) (d : Dev) : RegsOnly [Reg.SEQ_STS_STATE n] d (d.startsWriting n) := by
  intro k hk
  rw [Dev.startsWriting_regs]
  exact Dev.regs_set_ne d _ _ (List.ne_of_not_mem_cons hk)

theorem Dev.deck_startsWriting (n : Nat) (d : Dev) : (d.startsWriting n).deck n = (d.deck n).writes := by
  rw [Dev.startsWriting, Dev.laser, Dev.onSeq, Dev.deck_onDeck_self, Dev.deck_onDeck_self, Dev.deck_deckState]
  rfl

theorem Dev.startsWriting_deckOnly (n : Nat) (d : Dev) : DeckOnly n d (d.startsWriting n) :=
  ((Dev.deckState_deckOnly n dWRITING d).trans (DeckOnly.onDeck n (fun k => { k with seq := { k.seq with writing := true } }) _)).trans
    (DeckOnly.onDeck n (fun k => { k with link := { k.link with laserMode := 2 } }) _)

theorem Dev.startsWriting_deckRegs (n : Nat) (d : Dev) : DeckRegs d (d.startsWriting n) := by
  unfold Dev.startsWriting Dev.laser Dev.onSeq
  exact (deckState_deckRegs ..).trans ((DeckRegs.onDeck ..).trans (.onDeck ..))

/-! ### The verifying read of a unit (R214, R421, R424) -/

theorem exec_indexUnitVerified {d : Dev} {n : Fin 16} {u : UnitNow} (h : d.deckOn n = true) (hu : (d.deck n).unit = some u)
    (c : Clock) (q : List Instr) :
    exec (.indexUnitVerified n u.seq) ⟨c, d, q⟩ = .next ⟨c, indexUnitVerified c n d, q⟩ := by
  have hany : (d.deck n).unit.any (fun v => v.seq == u.seq) = true := by rw [hu, Option.any_some, beq_self_eq_true]
  exact congrArg (fun e => Host.Outcome.next (State.mk c e q)) ((if_pos h).trans (if_pos hany))

/-- The sectors of a unit that no emitter wrote. -/
def unitMissing (c : Clock) (n : Nat) (u : UnitNow) (p : Pass) : List SlotOut :=
  ((List.range 16).filter (fun e => !p.outs.any (fun o => o.emitter == e && o.slot == u.slot))).map
    (fun e => ⟨e, u.slot, .notWritten, c.tick, c.angleStamp n⟩)

/-- The count of the sectors not written. -/
def unitCounted (c : Clock) (n : Nat) (u : UnitNow) (p : Pass) (d : Dev) : Dev :=
  (unitMissing c n u p).foldl (fun d o => countOut n o.out d) d

/-- The deck once the pass of an index unit is over: another unit is due when it does not hold. -/
def Deck.unitEnds (outs : List SlotOut) (holds : Bool) (k : Deck) : Deck :=
  { k with unit := none, pass := none, report := outs, unitDue := k.unitDue || !holds }

theorem countOut_incomplete (n : Nat) (d : Dev) :
    countOut n .notWritten d = d.bump (Reg.WRP_VFY_STS_INCOMPLETE n) 1 := rfl

/-- Sectors not written change their count only. -/
theorem unitCounted_spec (c : Clock) (n : Nat) (u : UnitNow) (p : Pass) (d : Dev) :
    unitCounted c n u p d = { d with regs := (unitCounted c n u p d).regs } ∧
      RegsOnly [Reg.WRP_VFY_STS_INCOMPLETE n] d (unitCounted c n u p d) := by
  have hout : ∀ o ∈ unitMissing c n u p, o.out = .notWritten := by
    intro o ho
    obtain ⟨e, -, rfl⟩ := List.mem_map.1 ho
    rfl
  unfold unitCounted
  generalize unitMissing c n u p = l at hout
  induction l generalizing d with
  | nil => exact ⟨rfl, .refl _ rfl⟩
  | cons o t ih =>
    obtain ⟨hframe, hregs⟩ := ih (d.bump (Reg.WRP_VFY_STS_INCOMPLETE n) 1) fun a ha => hout a (List.mem_cons_of_mem _ ha)
    rw [List.foldl_cons, hout o (List.mem_cons_self ..), countOut_incomplete]
    refine ⟨hframe.trans rfl, RegsOnly.trans (fun k hk => ?_) hregs⟩
    exact Dev.regs_set_ne d _ _ (List.ne_of_not_mem_cons hk)

/-- A deck with a pass still to come goes on writing. -/
theorem writingEnds_more {c : Clock} {n : Nat} {d : Dev} (hpass : (d.deck n).nextPass = 2) (hpark : (d.deck n).seq.pendPark = false) :
    writingEnds c n d = d := by
  rw [writingEnds]
  exact if_pos (.inr (by simp [hpass, hpark]))

/-- The module once the pass of an index unit is over. -/
def unitOver (c : Clock) (n : Nat) (u : UnitNow) (p : Pass) (holds : Bool) (d : Dev) : Dev :=
  (unitCounted c n u p d).onDeck n (Deck.unitEnds (p.outs ++ unitMissing c n u p) holds)

theorem unitOver_spec (c : Clock) (n : Nat) (u : UnitNow) (p : Pass) (holds : Bool) (d : Dev) :
    (unitOver c n u p holds d).deck n = (d.deck n).unitEnds (p.outs ++ unitMissing c n u p) holds ∧
      DeckOnly n d (unitOver c n u p holds d) ∧ DeckRegs d (unitOver c n u p holds d) ∧
      RegsOnly [Reg.WRP_VFY_STS_INCOMPLETE n] d (unitOver c n u p holds d) := by
  obtain ⟨hframe, hregs⟩ := unitCounted_spec c n u p d
  unfold unitOver
  generalize unitCounted c n u p d = g at hframe hregs
  have hdecks : g.decks = d.decks := by rw [hframe]
  have hcount : DeckRegs d g := by rw [DeckRegs, hdecks]; exact hframe
  refine ⟨?_, (DeckOnly.of_decks hdecks).trans (DeckOnly.onDeck _ _ _), hcount.trans (.onDeck ..), hregs⟩
  rw [Dev.deck_onDeck_self, Dev.deck_of_decks hdecks]

theorem indexUnitVerified_eq {c : Clock} {n : Nat} {d : Dev} {u : UnitNow} {p : Pass} (hunit : (d.deck n).unit = some u)
    (hpass : (d.deck n).pass = some p) (hmagic : u.magic = magicIndex) (holds : Bool) (hholds : unitHolds d n u.slot p = holds) :
    indexUnitVerified c n d = writingEnds c n ((if holds then unitCommits c n u else id) (unitOver c n u p holds d)) := by
  subst hholds
  rw [indexUnitVerified, hunit, hpass]
  dsimp only
  rw [if_pos hmagic, hmagic]
  simp only [beq_self_eq_true, Bool.and_true]
  cases unitHolds d n u.slot p <;> rfl

/-- The deck once a verified unit has taken effect on its disc. -/
def Deck.unitTold (c : Clock) (u : UnitNow) (k : Deck) : Deck :=
  { k with
    placed := k.placed.filter (fun m => !u.maps.contains m), keysDue := k.keysDue.filter (fun e => !u.keys.contains e),
    placedAt := if k.placed.all (fun m => u.maps.contains m) then none else some c.tick,
    disc := k.disc.map (fun x => { x with
      maps := x.maps ++ u.maps, commits := x.commits ++ u.commits, keys := x.keys ++ u.keys, unitSeq := u.seq }) }

/-- With no write under way and no command to answer, the sweep changes the host side only. -/
theorem Dev.commitSweep_idle {d : Dev} (hwrites : d.host.writes = []) (hctxs : d.host.ctxs = []) :
    d.commitSweep = { d with host := d.commitSweep.host } := by
  unfold Dev.commitSweep Dev.settle
  simp [hwrites, hctxs]

theorem unitCommits_idle {d : Dev} (hwrites : d.host.writes = []) (hctxs : d.host.ctxs = []) (c : Clock) (n : Nat) (u : UnitNow) :
    unitCommits c n u d = { d.onDeck n (Deck.unitTold c u) with host := (unitCommits c n u d).host } := by
  unfold unitCommits
  rw [Dev.commitSweep_idle]
  · rfl
  · simp [hwrites]
  · exact hctxs

/-! ### Flush (R424) -/

theorem exec_flush (c : Clock) (d : Dev) (q : List Instr) (stamp : Nat) :
    exec (.flush stamp) ⟨c, d, q⟩ = .next ⟨c, hostFlush stamp d, q⟩ := rfl

/-- The one command that there is, a flush that waits, ends when nothing it covers is under way. -/
theorem Dev.settle_flush {d : Dev} {x : Ctx} (hctxs : d.host.ctxs = [x]) (hop : x.cmd.op = .flush) (hphase : x.phase = .media) :
    d.settle = if d.flushDone x then d.ends x.stamp .success else d := by
  simp [Dev.settle, Dev.ctx, hctxs, hop, hphase]

theorem Dev.inhibit_idle {d : Dev} (hwrites : d.host.writes = []) (hctxs : d.host.ctxs = []) (hjobs : d.host.jobs = []) (n : Nat) :
    d.inhibit n = d := by
  have hhost : { d.host with ctxs := [], writes := [], jobs := [] } = d.host := by rw [← hwrites, ← hctxs, ← hjobs]
  have hnone : d.inhibit n = { d with host := { d.host with ctxs := [], writes := [], jobs := [] } } := by
    simp [Dev.inhibit, Dev.dependsOn, hwrites, hctxs, hjobs, mapIf]
  rw [hnone, hhost]

theorem Dev.inhibitLatched_idle {d : Dev} (hwrites : d.host.writes = []) (hctxs : d.host.ctxs = []) (hjobs : d.host.jobs = []) :
    d.inhibitLatched = d := by
  refine foldl_fixed_of_mem fun n _ => ?_
  dsimp only
  rw [Dev.inhibit_idle hwrites hctxs hjobs, ite_self]

theorem Dev.inhibitLatched_open {d : Dev} (h : ∀ m : Fin 16, bit (d.deck m).gate.hold gLATCHED = false) : d.inhibitLatched = d := by
  refine foldl_fixed_of_mem fun n hn => ?_
  have hn' : bit (d.deck n).gate.hold gLATCHED = false := h ⟨n, List.mem_range.1 hn⟩
  dsimp only
  rw [hn', if_neg Bool.false_ne_true]

/-- A flush that is the one command in progress waits in MEDIA. -/
theorem hostFlush_only {d : Dev} {stamp : Nat} {x : Ctx} (hrun : d.running stamp .flush = some x) (hctxs : d.host.ctxs = [x]) :
    hostFlush stamp d =
      Dev.inhibitLatched (Dev.settle { d with host := { d.host with ctxs := [{ x with phase := .media }] } }) := by
  have hstamp : (x.stamp == stamp) = true := beq_iff_eq.2 (Dev.stamp_of_ctx (Dev.ctx_of_running hrun))
  rw [hostFlush, Dev.run_of_running hrun, Dev.onCtx, hctxs, mapIf_singleton (p := fun y : Ctx => y.stamp == stamp) hstamp]

theorem Dev.op_of_running {d : Dev} {stamp : Nat} {op : Cmd} {x : Ctx} (h : d.running stamp op = some x) : x.cmd.op = op := by
  rw [Dev.running, Dev.ctx_of_running h] at h
  dsimp only at h
  split_ifs at h with hop
  exact hop.1

theorem Dev.flushDone_of_earlier {d : Dev} {x : Ctx} {w : Wr} (hw : w ∈ d.host.writes) (hearlier : w.stamp < x.stamp)
    (hcovers : d.flushCovers x w.nsid = true) : d.flushDone x = false := by
  have hany : d.host.writes.any (fun w => decide (w.stamp < x.stamp) && d.flushCovers x w.nsid) = true :=
    List.any_eq_true.2 ⟨w, hw, by rw [hcovers, decide_eq_true hearlier, Bool.and_self]⟩
  rw [Dev.flushDone, hany, Bool.not_true, Bool.false_and]

section flush
variable {d : Dev} {stamp : Nat} {x : Ctx} (hrun : d.running stamp .flush = some x) (hctxs : d.host.ctxs = [x])
include hrun hctxs

theorem hostFlush_completes (hwrites : d.host.writes = []) (hjobs : d.host.jobs = []) (hmute : x.mute = false)
    (hposted : x.posted = false) : hostFlush stamp d = { d with host := { d.host with
      ctxs := [], posted := d.host.posted ++ [{ stamp := stamp, cid := x.cid, status := .success, dnr := false }] } } := by
  have hstamp : x.stamp = stamp := Dev.stamp_of_ctx (Dev.ctx_of_running hrun)
  have hop := Dev.op_of_running hrun
  have hdone : Dev.flushDone { d with host := { d.host with ctxs := [{ x with phase := .media }] } } { x with phase := .media } = true := by
    simp [Dev.flushDone, hwrites]
  have hends : Dev.ends x.stamp .success { d with host := { d.host with ctxs := [{ x with phase := .media }] } } =
      { d with host := { d.host with
        ctxs := [], posted := d.host.posted ++ [{ stamp := stamp, cid := x.cid, status := .success, dnr := false }] } } := by
    simp [Dev.ends, Dev.complete, hmute, hposted, hstamp, dnrOf]
  rw [hostFlush_only hrun hctxs, Dev.settle_flush (x := { x with phase := .media }) rfl hop rfl, hdone, if_pos rfl,
    hends]
  exact Dev.inhibitLatched_idle hwrites rfl hjobs

/-- A write of an earlier command that the flush covers holds it. -/
theorem hostFlush_waits {w : Wr} (hwrites : d.host.writes = [w]) (hearlier : w.stamp < stamp) (hcovers : d.flushCovers x w.nsid = true)
    (hgates : ∀ m : Fin 16, bit (d.deck m).gate.hold gLATCHED = false) :
    hostFlush stamp d = { d with host := { d.host with ctxs := [{ x with phase := .media }] } } := by
  have hstamp : x.stamp = stamp := Dev.stamp_of_ctx (Dev.ctx_of_running hrun)
  have hop := Dev.op_of_running hrun
  have hwait : Dev.flushDone { d with host := { d.host with ctxs := [{ x with phase := .media }] } } { x with phase := .media } = false :=
    Dev.flushDone_of_earlier (w := w) (hwrites ▸ List.mem_singleton_self w) (hstamp ▸ hearlier) hcovers
  rw [hostFlush_only hrun hctxs, Dev.settle_flush (x := { x with phase := .media }) rfl hop rfl, hwait,
    if_neg Bool.false_ne_true]
  exact Dev.inhibitLatched_open hgates

end flush

/-! ### The statement -/

/-- Settles O38: each command's meaning is brought to a change of the module that says what it does, then read off. -/
theorem hostWrites : Obligations.HostWrites := by
  unfold Obligations.HostWrites
  refine ⟨?write, ?outOfRange, ?append, ?staged, ?timer, ?unitWrite, ?fails, ?verified, ?flushDone, ?flushWaits⟩
  case write =>
    rintro c d q stamp data x b s hrun - ⟨hstop, hbound, hzoned⟩ ⟨hnlb, hmax, hrange⟩ hdata
    have hzone : b.zoned = true → ∃ z, d.zoneCheck b s (Cmd.write == .zoneAppend) x.cmd.slba x.cmd.nlb = .inr z := by simp [hzoned]
    refine ⟨_, exec_write .., ?_⟩
    rw [hostWrite_takes hrun hstop hbound ⟨hnlb, hmax⟩ hrange (by simp) hdata hzone]
    exact ⟨rfl, rfl⟩
  case outOfRange =>
    rintro c d q stamp data x b s hrun ⟨hmute, hposted⟩ ⟨hstop, hbound⟩ ⟨hnlb, hmax, hrange⟩
    refine ⟨_, exec_write .., ?_⟩
    rw [hostWrite_outOfRange hrun hstop hbound ⟨hnlb, hmax⟩ hrange]
    exact Dev.ends_settle_answered (Dev.ctx_of_running hrun) hmute hposted .lbaRange
  case append =>
    rintro c d q stamp data x b s z hrun - ⟨hstop, hbound, hzoned⟩ ⟨hnlb, hmax, hrange⟩ ⟨hdata, hcheck⟩
    refine ⟨_, exec_zoneAppend .., ?_⟩
    rw [hostWrite_takes hrun hstop hbound ⟨hnlb, hmax⟩ hrange (fun _ => hzoned) hdata fun _ => ⟨z, hcheck⟩]
    exact ⟨rfl, rfl⟩
  case staged =>
    rintro c d q stamp x b s f ⟨hctx, hop, hphase, hdata, hmute, hfua⟩ ⟨hstop, hbound, hzoned⟩ hstage
    obtain ⟨hctxs, hposted, hwrites⟩ := Dev.stageWrite_host hstage
    obtain ⟨hframe, hw, hnss, hp⟩ := f.stagedWrite_frame x stamp (if (f.coding b).kind = 0 then 0 else x.data.length)
    have hctx' : f.ctx stamp = some x := by rw [Dev.ctx, hctxs, ← hctx, Dev.ctx]
    refine ⟨_, exec_writeStaged .., ?_⟩
    rw [writeStaged_plain hctx hop hphase hdata hmute hfua hstop hbound hzoned hstage]
    refine ⟨?_, Dev.ctx_stagedWrite hctx' _, hframe, hw, hnss, ?_⟩
    · rw [hp, hposted]
    · rw [hw, hwrites]
  case timer =>
    rintro c d q n ⟨hmode, hwaits⟩ ⟨t, hat, ht⟩
    refine ⟨_, exec_commitTimer .., ?_⟩
    rw [commitTimer_due hmode hwaits hat ht]
    exact ⟨Dev.deck_onDeck_self .., DeckOnly.onDeck _ _ _, rfl⟩
  case unitWrite =>
    rintro c d q n swath slot pass x z ⟨hon, hdisc, hz⟩ ⟨hmay, hopc, hneed, hfree⟩ ⟨hband, hslot, hpass⟩ hnew ⟨hplace, hopen⟩
    refine ⟨_, exec_indexUnitWrite hon .., ?_⟩
    rw [indexUnitWrite_begins hdisc hz hmay hopc hneed hfree hband hslot hpass hnew hplace hopen]
    generalize hu : d.indexUnit c n x ⟨swath, slot, pass⟩ = u
    have hsays : (u.magic, u.swath, u.slot, u.pass, u.seq) = (magicIndex, swath, slot, pass, x.unitSeq + 1) := hu ▸ rfl
    generalize hg : (d.timeWrites c u).onDeck n (Deck.unitBegins c u x (d.get (Reg.SEQ_STS_LAYER n))) = g
    have hdeck : (g.startsWriting n).deck n = ((d.deck n).unitBegins c u x (d.get (Reg.SEQ_STS_LAYER n))).writes := by
      rw [Dev.deck_startsWriting, ← hg, Dev.deck_onDeck_self]
      rfl
    have hframe : g = { d with decks := g.decks, host := g.host } := hg ▸ rfl
    have honly : DeckOnly n d g := hg ▸ (DeckOnly.of_decks rfl).trans (DeckOnly.onDeck _ _ _)
    rw [hdeck]
    simp only [Prod.mk.injEq] at hsays
    obtain ⟨hmagic, hswath, hslot', hpass', hseq⟩ := hsays
    refine ⟨Dev.dstate_startsWriting n g, rfl, ?_, ?_, rfl, rfl, ?_, rfl, honly.trans (g.startsWriting_deckOnly n), ?_, ?_⟩
    · simp only [Deck.writes, Deck.unitBegins, Option.map_some, hmagic, hswath, hslot', hpass', hseq]
    · simp only [Deck.writes, Deck.unitBegins, hslot', hpass']
    · simp only [Deck.writes, Deck.unitBegins, hswath, hslot', hpass']
    · rw [Dev.startsWriting_deckRegs, hframe]
    · exact (RegsOnly.refl _ (by rw [hframe])).trans (g.startsWriting_regsOnly n)
  case fails =>
    rintro c d q n u p ⟨hon, hunit, hpass⟩ ⟨hmagic, hholds⟩ ⟨hnext, hpark⟩
    obtain ⟨hdeck, honly, hframe, hregs⟩ := unitOver_spec c n u p false d
    refine ⟨_, exec_indexUnitVerified hon hunit c q, ?_⟩
    rw [indexUnitVerified_eq hunit hpass hmagic false hholds, if_neg Bool.false_ne_true, id,
      writingEnds_more (by rw [hdeck]; exact hnext) (by rw [hdeck]; exact hpark), hdeck]
    refine ⟨?_, fun o ho => List.mem_append_left _ ho, honly, hframe, hregs⟩
    simp [Deck.unitEnds]
  case verified =>
    rintro c d q n u p x ⟨hon, hunit, hpass, hdisc⟩ ⟨hmagic, hholds⟩ ⟨hwrites, hctxs⟩ ⟨hnext, hpark⟩
    obtain ⟨hdeck, honly, hframe, hregs⟩ := unitOver_spec c n u p true d
    have htold := unitCommits_idle (hframe.host.symm ▸ hwrites) (hframe.host.symm ▸ hctxs) c n u
    refine ⟨_, exec_indexUnitVerified hon hunit c q, ?_⟩
    rw [indexUnitVerified_eq hunit hpass hmagic true hholds, if_pos rfl]
    generalize unitOver c n u p true d = f at hdeck honly hframe hregs htold
    have hdecks : (unitCommits c n u f).decks = (f.onDeck n (Deck.unitTold c u)).decks := by rw [htold]
    have hfinal : (unitCommits c n u f).deck n = ((d.deck n).unitEnds (p.outs ++ unitMissing c n u p) true).unitTold c u := by
      rw [Dev.deck_of_decks hdecks, Dev.deck_onDeck_self, hdeck]
    rw [writingEnds_more (by rw [hfinal]; exact hnext) (by rw [hfinal]; exact hpark), hfinal]
    refine ⟨?_, rfl, rfl, rfl, (honly.trans (DeckOnly.onDeck _ _ _)).trans (DeckOnly.of_decks hdecks), ?_, ?_⟩
    · simp only [Deck.unitTold, Deck.unitEnds, hdisc, Option.map_some]
    · rw [htold, hframe]
      rfl
    · exact hregs.trans (.refl _ (by rw [htold, Dev.onDeck_regs]))
  case flushDone =>
    rintro c d q stamp x hrun ⟨hmute, hposted⟩ ⟨hwrites, hctxs, hjobs⟩
    refine ⟨_, exec_flush .., ?_⟩
    have hstamp : x.stamp = stamp := Dev.stamp_of_ctx (Dev.ctx_of_running hrun)
    rw [hostFlush_completes hrun hctxs hwrites hjobs hmute hposted]
    exact ⟨⟨by simp [hctxs, hstamp], rfl⟩, rfl⟩
  case flushWaits =>
    rintro c d q stamp x w hrun - ⟨hwrites, hearlier, hcovers, hctxs⟩ hgates
    refine ⟨_, exec_flush .., ?_⟩
    rw [hostFlush_waits hrun hctxs hwrites hearlier hcovers hgates]
    exact ⟨rfl, rfl⟩

end Sys2Proof.Machine
end

section
/-! SUPPORT. Events told to controllers and namespaces reported, and what they leave alone (R42, R45, R434, R673 to R675). -/

open Sys2Proof Sys2Proof.Machine

namespace Sys2Proof.Machine

/-! ### A completion (R417) -/

/-- A completion changes contexts and the completions posted only. -/
theorem Dev.complete_host (stamp : Nat) (st : Sts) (dw0 dw1 : Nat) (data : List Byte) (d : Dev) :
    d.complete stamp st dw0 dw1 data = { d with host := { d.host with
      ctxs := (d.complete stamp st dw0 dw1 data).host.ctxs, posted := (d.complete stamp st dw0 dw1 data).host.posted } } := by
  unfold Dev.complete
  split
  · rfl
  · dsimp only
    split <;> rfl

/-- A command keeps its context when another one completes. -/
theorem Dev.ctx_complete_ne {s stamp : Nat} (h : s ≠ stamp) (st : Sts) (dw0 dw1 : Nat) (data : List Byte) (d : Dev) :
    (d.complete stamp st dw0 dw1 data).ctx s = d.ctx s := by
  have hrest : (d.host.ctxs.filter (fun y => y.stamp != stamp)).find? (fun y => y.stamp == s) =
      d.host.ctxs.find? (fun y => y.stamp == s) := by
    rw [List.find?_filter]
    refine congrArg (fun p => List.find? p d.host.ctxs) (funext fun y => ?_)
    by_cases hy : y.stamp = s
    · simp [hy, h]
    · simp [hy]
  unfold Dev.complete
  split
  · rfl
  · dsimp only
    split <;> exact hrest

/-- A command that is to have a completion is answered by it. -/
theorem Dev.complete_answered {d : Dev} {stamp : Nat} {x : Ctx} (h : d.ctx stamp = some x) (hm : x.mute = false)
    (hp : x.posted = false) (st : Sts) (dw0 dw1 : Nat) (data : List Byte) :
    Answered stamp x st dw0 dw1 data (d.complete stamp st dw0 dw1 data) := by
  rw [Dev.complete_of_ctx h hm hp]
  exact ⟨by simp [Dev.ctx], List.mem_append_right _ (List.mem_singleton_self _)⟩

/-! ### Events told (R673, R675) -/

/-- No controller holds a command as an event request of its own. -/
def Dev.Unasked (stamp : Nat) (d : Dev) : Prop := ∀ k ∈ d.ctrls, stamp ∉ k.aers

/-- Controllers have been told events: some event requests are answered, and nothing else has changed. -/
structure Told (d e : Dev) : Prop where
  frame : e = { d with ctrls := e.ctrls, host := { d.host with ctxs := e.host.ctxs, posted := e.host.posted } }
  posted : ∀ p ∈ d.host.posted, p ∈ e.host.posted
  ctx : ∀ stamp, d.Unasked stamp → e.Unasked stamp ∧ e.ctx stamp = d.ctx stamp

theorem Told.refl (d : Dev) : Told d d := ⟨rfl, fun _ h => h, fun _ h => ⟨h, rfl⟩⟩

theorem Told.trans {d e f : Dev} (h : Told d e) (h' : Told e f) : Told d f := by
  refine ⟨?_, fun p hp => h'.posted p (h.posted p hp), fun s hs => ?_⟩
  · rw [h'.frame, h.frame]
  · obtain ⟨he, hce⟩ := h.ctx s hs
    obtain ⟨hf, hcf⟩ := h'.ctx s he
    exact ⟨hf, hcf.trans hce⟩

theorem Told.foldl {α : Type} {f : Dev → α → Dev} (h : ∀ d a, Told d (f d a)) (l : List α) (d : Dev) :
    Told d (l.foldl f d) := by
  induction l generalizing d with
  | nil => exact .refl d
  | cons a l ih => exact (h d a).trans (ih (f d a))

/-- Controllers that hold no event request but those they held. -/
theorem Told.setCtrls {d : Dev} {l : List Ctrl} (h : ∀ k ∈ l, ∀ s ∈ k.aers, ∃ k' ∈ d.ctrls, s ∈ k'.aers) :
    Told d { d with ctrls := l } := by
  refine ⟨rfl, fun _ hp => hp, fun s hs => ⟨fun k hk ha => ?_, rfl⟩⟩
  obtain ⟨k', hk', ha'⟩ := h k hk s ha
  exact hs k' hk' ha'

/-- A change of every controller that leaves its event requests. -/
theorem Told.map (d : Dev) {f : Ctrl → Ctrl} (h : ∀ k, (f k).aers = k.aers) : Told d { d with ctrls := d.ctrls.map f } := by
  refine .setCtrls fun k hk s hs => ?_
  obtain ⟨k', hk', rfl⟩ := List.mem_map.1 hk
  exact ⟨k', hk', h k' ▸ hs⟩

/-- A change of some controllers that leaves their event requests. -/
theorem Told.mapIf (d : Dev) (p : Ctrl → Bool) {f : Ctrl → Ctrl} (h : ∀ k, (f k).aers = k.aers) :
    Told d { d with ctrls := mapIf p f d.ctrls } :=
  .map d fun k => by rw [apply_ite Ctrl.aers, h, ite_self]

/-- The answer to an event request leaves every command alone that is none. -/
theorem Told.answer {d : Dev} {k : Ctrl} {stamp : Nat} (hk : k ∈ d.ctrls) (hs : stamp ∈ k.aers) (st : Sts) (dw0 dw1 : Nat)
    (data : List Byte) : Told d (d.complete stamp st dw0 dw1 data) := by
  refine ⟨?_, (Dev.complete_settles ..).posted, fun s hu => ⟨?_, ?_⟩⟩
  · rw [Dev.complete_host]
  · rw [Dev.complete_eq]
    exact hu
  · exact Dev.ctx_complete_ne (fun h : s = stamp => hu k hk (h ▸ hs)) ..

/-- A completion does not look at controllers. -/
theorem Dev.complete_ctrls (stamp : Nat) (st : Sts) (dw0 dw1 : Nat) (data : List Byte) (d : Dev) (l : List Ctrl) :
    Dev.complete stamp st dw0 dw1 data { d with ctrls := l } = { d.complete stamp st dw0 dw1 data with ctrls := l } := by
  unfold Dev.complete
  dsimp only
  split
  · rfl
  · split <;> rfl

/-- One controller is told what it has to be told. -/
theorem tellCtrl_told (fuel id : Nat) (d : Dev) : Told d (tellCtrl fuel id d) := by
  induction fuel generalizing d with
  | zero => exact .refl d
  | succ n ih =>
    rw [tellCtrl]
    split
    · exact .refl d
    · rename_i k hk
      have hmem := List.mem_of_find?_eq_some hk
      split
      · rename_i st rest v k' haers _
        dsimp only
        refine .trans ?_ (ih _)
        rw [Dev.complete_ctrls]
        refine (Told.answer hmem (haers ▸ List.mem_cons_self) ..).trans (.setCtrls fun y hy s hs => ?_)
        rw [Dev.complete_eq]
        obtain ⟨y', hy', rfl⟩ := List.mem_map.1 hy
        dsimp only at hs
        split at hs
        · exact ⟨k, hmem, haers ▸ List.mem_cons_of_mem _ hs⟩
        · exact ⟨y', hy', hs⟩
      · exact .refl d

theorem Dev.deliver_told (d : Dev) : Told d d.deliver := by
  unfold Dev.deliver
  split
  · exact .refl d
  · exact .foldl (fun d k => tellCtrl_told ..) ..

theorem Dev.raise_told (p : Ctrl → Bool) (e : Nat × Nat × Nat) (d : Dev) : Told d (d.raise p e) := by
  unfold Dev.raise
  refine .trans (.mapIf d _ fun k => ?_) (Dev.deliver_told _)
  rfl

/-! ### Namespaces that are reported (R434, R673) -/

/-- Namespaces stand in the Changed Namespace List. -/
def Dev.listed (l : List Nat) (d : Dev) : Dev :=
  { d with host := { d.host with changed := d.host.changed ++ l.filter (fun x => !d.host.changed.contains x) } }

theorem Dev.listed_nil (d : Dev) : d.listed [] = d := by rw [Dev.listed, List.filter_nil, List.append_nil]

theorem Dev.mem_listed {l : List Nat} {n : Nat} (h : n ∈ l) (d : Dev) : n ∈ (d.listed l).host.changed := by
  by_cases hn : n ∈ d.host.changed
  · exact List.mem_append_left _ hn
  · exact List.mem_append_right _ (List.mem_filter.2 ⟨h, by simpa using hn⟩)

/-- Namespaces that changed are listed, and controllers told. -/
theorem Dev.nsChanged_told (l : List Nat) (d : Dev) : Told (d.listed l) (d.nsChanged l) := by
  cases l with
  | nil =>
    rw [Dev.listed_nil]
    exact .refl d
  | cons n l => exact Dev.raise_told ..

/-- The sheaf is up or down; its namespaces are listed, and controllers told. -/
theorem Dev.sheafCheck_told (d : Dev) :
    ∃ b l, Told (Dev.listed l { d with misc := { d.misc with sheafDown := b } }) d.sheafCheck := by
  unfold Dev.sheafCheck
  split
  · refine ⟨false, [], ?_⟩
    rw [Dev.listed_nil]
    exact .refl _
  · dsimp only
    split
    · exact ⟨_, [], by rw [Dev.listed_nil]; exact .refl _⟩
    · exact ⟨_, _, Dev.nsChanged_told ..⟩

end Sys2Proof.Machine
end

section
/-! SUPPORT. Seam ports and members, and what the other members of a sheaf send (R29, R30, R43 to R45). -/

open Sys2Proof Sys2Proof.Machine

namespace Sys2Proof.Machine

/-! ### The fields of a port -/

/-- The fields of a port's status (R44). -/
def portFields (k : Nat) : List Fld := [Reg.SEAM_PORT_STS_STATE k, Reg.SEAM_PORT_STS_STEP k, Reg.SEAM_PORT_STS_LANES k,
  Reg.SEAM_PORT_STS_PEER_DEV k, Reg.SEAM_PORT_STS_PEER_PORT k]

theorem portFields_nodup (k : Nat) : ((portFields k).map Fld.key).Nodup := by
  simp [portFields, Fld.key, Reg.SEAM_PORT_STS_STATE, Reg.SEAM_PORT_STS_STEP, Reg.SEAM_PORT_STS_LANES,
    Reg.SEAM_PORT_STS_PEER_DEV, Reg.SEAM_PORT_STS_PEER_PORT]

/-- The fields that say where a port stands. -/
theorem portState_nodup (k : Nat) :
    ([Reg.SEAM_PORT_STS_STATE k, Reg.SEAM_PORT_STS_STEP k, Reg.SEAM_PORT_STS_LANES k].map Fld.key).Nodup :=
  (portFields_nodup k).sublist (by simp [portFields])

/-- A fault record leaves a port's status alone. -/
theorem get_fault_port (c : Clock) (src : Src) {q : Cond} (hq : q.sev ≠ 3) (d : Dev) {k : Nat} (hk : k < 6) :
    ∀ f ∈ portFields k, (d.fault c src q).get f = d.get f := by
  intro f hf
  refine Dev.fault_regsOnly c src hq d f.key fun hm => ?_
  simp [portFields, Fld.key, Reg.SEAM_PORT_STS_STATE, Reg.SEAM_PORT_STS_STEP, Reg.SEAM_PORT_STS_LANES,
    Reg.SEAM_PORT_STS_PEER_DEV, Reg.SEAM_PORT_STS_PEER_PORT, Reg.FLT_STS_LOST] at hf hm
  rcases hf with rfl | rfl | rfl | rfl | rfl <;> simp only at hm <;> omega

/-- Nor does the record of a seam fault touch it. -/
theorem get_seamFault {k : Nat} (hk : k < 6) (c : Clock) (n peer : Nat) (d : Dev) :
    ∀ f ∈ portFields k, (seamFault c n peer d).get f = d.get f := by
  unfold seamFault
  exact get_fault_port c .device (by simp) d hk

/-! ### The sheaf and its members -/

/-- The sheaf is found up or down, and namespaces are reported: registers and the rest of the seam's tables stay. -/
structure SheafTold (d e : Dev) : Prop where
  frame : e = { d with misc := { d.misc with sheafDown := e.misc.sheafDown }, ctrls := e.ctrls, host := e.host }
  changed : ∀ n ∈ d.host.changed, n ∈ e.host.changed

theorem SheafTold.of_told {d e : Dev} {b : Bool} {l : List Nat}
    (h : Told (Dev.listed l { d with misc := { d.misc with sheafDown := b } }) e) : SheafTold d e := by
  refine ⟨?_, fun n hn => ?_⟩
  · rw [h.frame]
    rfl
  · rw [h.frame]
    exact List.mem_append_left _ hn

/-- The sheaf's state is checked, then namespaces are reported. -/
theorem sheafCheck_nsChanged (l : List Nat) (d : Dev) :
    SheafTold d (d.sheafCheck.nsChanged l) ∧ ∀ n ∈ l, n ∈ (d.sheafCheck.nsChanged l).host.changed := by
  obtain ⟨b, l', hcheck⟩ := d.sheafCheck_told
  have hnotice := Dev.nsChanged_told l d.sheafCheck
  obtain ⟨hframe, hchanged⟩ := SheafTold.of_told hcheck
  refine ⟨⟨?_, fun n hn => ?_⟩, fun n hn => ?_⟩
  · rw [hnotice.frame, Dev.listed, hframe]
  · rw [hnotice.frame]
    exact List.mem_append_left _ (hchanged n hn)
  · rw [hnotice.frame]
    exact Dev.mem_listed hn _

/-! ### The rows as changes of the module -/

section rows
variable {d : Dev} (hon : d.domOn 6 = true) (c : Clock) (q : List Instr) (k : Fin 6)
include hon

theorem exec_seamPortBringup (locked : Nat) (peer : Option SeamPeer) (digest : List Byte) (auth : Option Bool) (routed : Bool)
    (reach : List (Nat × Nat × List Byte)) : exec (.seamPortBringup k locked peer digest auth routed reach) ⟨c, d, q⟩ =
      .next ⟨c, seamBringup c k locked peer digest auth routed reach d, q⟩ :=
  congrArg (fun e => Host.Outcome.next (State.mk c e q)) (if_pos hon)

theorem exec_seamRetryTimer : exec (.seamRetryTimer k) ⟨c, d, q⟩ = .next ⟨c, seamRetry k d, q⟩ :=
  congrArg (fun e => Host.Outcome.next (State.mk c e q)) (if_pos hon)

theorem exec_seamLaneFail : exec (.seamLaneFail k) ⟨c, d, q⟩ = .next ⟨c, seamLaneFail c k d, q⟩ :=
  congrArg (fun e => Host.Outcome.next (State.mk c e q)) (if_pos hon)

end rows

theorem exec_seamMemberUnreachable (dev : Nat) (eth : Option (List Byte)) (c : Clock) (d : Dev) (q : List Instr) :
    exec (.seamMemberUnreachable dev eth) ⟨c, d, q⟩ = .next ⟨c, seamUnreachable dev eth d, q⟩ := rfl

theorem exec_sheafForward (m : SheafMsg) (c : Clock) (d : Dev) (q : List Instr) :
    exec (.sheafForward m) ⟨c, d, q⟩ = .next ⟨c, sheafForward c m d, q⟩ := rfl

/-! ### Bring-up (R43, R44) -/

/-- Step 4: the peer has told who it is. -/
def Dev.peerMet (k locked : Nat) (f : SeamPeer) (d : Dev) : Dev :=
  let sheaves := d.misc.seamSheaf.filter (fun (x : Nat × Nat) => x.1 != k) ++ [(k, f.sheaf)]
  Dev.sets { d with misc := { d.misc with seamSheaf := sheaves } }
    [(Reg.SEAM_PORT_STS_STEP k, 4), (Reg.SEAM_PORT_STS_LANES k, lanesOf locked),
      (Reg.SEAM_PORT_STS_PEER_DEV k, f.dev), (Reg.SEAM_PORT_STS_PEER_PORT k, f.port)]

/-- The devices reached through a port: the peer, and what it reaches over at most two others. -/
def Plait.seamNear (p : Plait) (peer : Nat) (digest : List Byte) (reach : List (Nat × Nat × List Byte)) :
    List (Nat × Nat × List Byte) :=
  (peer, 0, digest) :: reach.filter (fun x => decide (x.2.1 ≤ 2) && x.1 != p.deviceNum && x.1 != peer)

/-- A port whose peer has told who it is comes UP, and routes lead through it. -/
def Dev.seamUp (k locked : Nat) (f : SeamPeer) (near : List (Nat × Nat × List Byte)) (d : Dev) : Dev :=
  let d := d.peerMet k locked f
  let back := near.map (fun (x : Nat × Nat × List Byte) => x.1)
  { d.sets [(Reg.SEAM_PORT_STS_STEP k, 6), (Reg.SEAM_PORT_STS_STATE k, 2)] with misc := { d.misc with
    routes := d.misc.routes ++ near.map (fun (x : Nat × Nat × List Byte) => (x.1, k, x.2.1)),
    seamDigest := d.misc.seamDigest.filter (fun (x : Nat × List Byte) => !back.contains x.1) ++
      near.map (fun (x : Nat × Nat × List Byte) => (x.1, x.2.2)),
    unreachable := d.misc.unreachable.filter (fun v => !back.contains v),
    ethPeers := d.misc.ethPeers.filter (fun v => !back.contains v) } }

theorem lanesOf_lt (locked : Nat) : lanesOf locked < 2 ^ 3 := by
  unfold lanesOf
  split_ifs <;> decide

/-- The status of a port that is UP. -/
theorem seamUp_status (k locked : Nat) (f : SeamPeer) (near : List (Nat × Nat × List Byte)) (d : Dev) :
    (d.seamUp k locked f near).get (Reg.SEAM_PORT_STS_STATE k) = 2 ∧
      (d.seamUp k locked f near).get (Reg.SEAM_PORT_STS_STEP k) = 6 ∧
      (d.seamUp k locked f near).get (Reg.SEAM_PORT_STS_LANES k) = lanesOf locked ∧
      (d.seamUp k locked f near).get (Reg.SEAM_PORT_STS_PEER_DEV k) = f.dev % 2 ^ 18 ∧
      RegsOnly (portFields k) d (d.seamUp k locked f near) := by
  have hlast : ([Reg.SEAM_PORT_STS_STEP k, Reg.SEAM_PORT_STS_STATE k].map Fld.key).Nodup :=
    (List.Perm.swap ..).nodup ((portFields_nodup k).sublist
      (l₁ := [Reg.SEAM_PORT_STS_STATE k, Reg.SEAM_PORT_STS_STEP k].map Fld.key) (by simp [portFields]))
  have hpeer : ([Reg.SEAM_PORT_STS_STEP k, Reg.SEAM_PORT_STS_LANES k, Reg.SEAM_PORT_STS_PEER_DEV k,
      Reg.SEAM_PORT_STS_PEER_PORT k].map Fld.key).Nodup := (portFields_nodup k).sublist (by simp [portFields])
  have hkept : ∀ g ∈ [Reg.SEAM_PORT_STS_LANES k, Reg.SEAM_PORT_STS_PEER_DEV k],
      (d.seamUp k locked f near).get g = (d.peerMet k locked f).get g := fun g hg =>
    Dev.get_sets_ne (d.peerMet k locked f) [(Reg.SEAM_PORT_STS_STEP k, 6), (Reg.SEAM_PORT_STS_STATE k, 2)] (by
      simp only [List.mem_cons, List.not_mem_nil, or_false] at hg
      rcases hg with rfl | rfl <;>
        simp [Fld.key, Reg.SEAM_PORT_STS_STATE, Reg.SEAM_PORT_STS_STEP, Reg.SEAM_PORT_STS_LANES, Reg.SEAM_PORT_STS_PEER_DEV])
  refine ⟨?_, ?_, ?_, ?_, ?_⟩
  · exact Dev.get_sets_of_mem (d.peerMet k locked f) hlast (.tail _ (.head _))
  · exact Dev.get_sets_of_mem (d.peerMet k locked f) hlast (.head _)
  · rw [hkept _ (.head _), Dev.peerMet, Dev.get_sets_of_mem _ hpeer (.tail _ (.head _))]
    exact Nat.mod_eq_of_lt (lanesOf_lt locked)
  · rw [hkept _ (.tail _ (.head _)), Dev.peerMet, Dev.get_sets_of_mem _ hpeer (.tail _ (.tail _ (.head _)))]
    rfl
  · have hmet : RegsOnly (portFields k) d (d.peerMet k locked f) := (RegsOnly.sets _ _).mono (by simp [portFields])
    exact hmet.trans ((RegsOnly.sets (d.peerMet k locked f) [(Reg.SEAM_PORT_STS_STEP k, 6), (Reg.SEAM_PORT_STS_STATE k, 2)]).mono
      (by simp [portFields]))

/-- Beside the port's status the seam's tables change. -/
theorem seamUp_frame (k locked : Nat) (f : SeamPeer) (near : List (Nat × Nat × List Byte)) (d : Dev) :
    d.seamUp k locked f near = { d with regs := (d.seamUp k locked f near).regs, misc := (d.seamUp k locked f near).misc } := by
  have hmet : d.peerMet k locked f = { d with regs := (d.peerMet k locked f).regs, misc := (d.peerMet k locked f).misc } := by
    rw [Dev.peerMet, Dev.sets_eq]
  unfold Dev.seamUp
  dsimp only
  rw [Dev.sets_eq, hmet]

/-- The peer is reached through it. -/
theorem seamUp_routes (k locked : Nat) (f : SeamPeer) {near : List (Nat × Nat × List Byte)} {x : Nat × Nat × List Byte}
    (h : x ∈ near) (d : Dev) :
    (x.1, k, x.2.1) ∈ (d.seamUp k locked f near).misc.routes ∧ x.1 ∉ (d.seamUp k locked f near).misc.unreachable := by
  refine ⟨List.mem_append_right _ (List.mem_map.2 ⟨x, h, rfl⟩), ?_⟩
  have hback : x.1 ∈ near.map (fun x => x.1) := List.mem_map_of_mem h
  simp only [Dev.seamUp, List.mem_filter, List.contains_iff_mem.2 hback, Bool.not_true, Bool.false_eq_true, and_false,
    not_false_eq_true]

/-- Devices added to a group, each once, are at most so many more. -/
theorem group_length (near : List (Nat × Nat × List Byte)) (l : List Nat) :
    (near.foldl (fun l x => if l.contains x.1 then l else l ++ [x.1]) l).length ≤ l.length + near.length := by
  induction near generalizing l with
  | nil => exact Nat.le_refl _
  | cons x near ih =>
    refine (ih _).trans ?_
    rw [List.length_cons]
    dsimp only
    split
    · omega
    · rw [List.length_append, List.length_singleton]
      omega

/-- With no route yet and six devices behind the peer at most, the group stays within eight (R43). -/
theorem seamNear_fits {d : Dev} (hroutes : d.misc.routes = []) (p : Plait) (peer : Nat) (digest : List Byte)
    {reach : List (Nat × Nat × List Byte)} (hreach : reach.length ≤ 6) :
    ¬8 < ((p.seamNear peer digest reach).foldl (fun l x => if l.contains x.1 then l else l ++ [x.1]) d.seamGroup).length := by
  have hgroup := group_length (p.seamNear peer digest reach) d.seamGroup
  have hself : d.seamGroup.length = 1 := by rw [Dev.seamGroup, hroutes]; rfl
  have hnear : (p.seamNear peer digest reach).length ≤ reach.length + 1 := Nat.succ_le_succ (List.length_filter_le ..)
  omega

/-- A port in training whose peer, digest and authentication match comes up. -/
theorem seamBringup_up {c : Clock} {d : Dev} {k locked : Nat} {f : SeamPeer} {p : Plait} {reach : List (Nat × Nat × List Byte)}
    (hplait : d.plait = some p) (hport : p.port k = (f.dev, f.port, true)) (hstate : d.get (Reg.SEAM_PORT_STS_STATE k) = 1)
    (hlocked : locked % 16 ≠ 0) (hlanes : lanesOf locked ≠ 0) (hother : f.dev ≠ p.deviceNum) (hroutes : d.misc.routes = [])
    (hreach : reach.length ≤ 6) :
    seamBringup c k locked (some f) p.sheafDigest (some true) true reach d =
      (d.seamUp k locked f (p.seamNear f.dev p.sheafDigest reach)).sheafCheck.nsChanged
        (((p.seamNear f.dev p.sheafDigest reach).map (fun x => x.1)).flatMap
          (fun v => (d.seamUp k locked f (p.seamNear f.dev p.sheafDigest reach)).nsOver v)) := by
  have hfits : ¬8 < ((p.seamNear f.dev p.sheafDigest reach).foldl (fun l x => if l.contains x.1 then l else l ++ [x.1])
      (d.peerMet k locked f).seamGroup).length :=
    seamNear_fits (by rw [Dev.peerMet, Dev.sets_eq]; exact hroutes) p f.dev p.sheafDigest hreach
  unfold seamBringup
  split
  · rename_i hnone
    rw [hplait] at hnone
    cases hnone
  · rename_i p' hp'
    obtain rfl : p' = p := Option.some.inj (hp'.symm.trans hplait)
    dsimp only
    rw [hport, if_neg (by simp [hstate]), if_neg hlocked, if_neg hlanes, if_neg hother, if_neg (by simp), if_neg (by simp)]
    refine (if_neg hfits).trans ?_
    rw [if_neg (by simp), if_neg (by simp), if_neg (by simp)]
    rfl

/-! ### Ports that fail, wait and fall back (R44, R45) -/

/-- A failed step leaves the port down at that step, among those that wait for their retry. -/
theorem portFail_spec {k : Nat} (hk : k < 6) (c : Clock) (step peer : Nat) (d : Dev) :
    (portFail c k step peer d).get (Reg.SEAM_PORT_STS_STATE k) = 0 ∧
      (portFail c k step peer d).get (Reg.SEAM_PORT_STS_STEP k) = step % 2 ^ 4 ∧
      k ∈ (portFail c k step peer d).misc.seamFail := by
  have hsets := fun f v => Dev.get_sets_of_mem d (portState_nodup k) (f := f) (v := v)
    (l := [(Reg.SEAM_PORT_STS_STATE k, 0), (Reg.SEAM_PORT_STS_STEP k, step), (Reg.SEAM_PORT_STS_LANES k, 0)])
  refine ⟨?_, ?_, ?_⟩
  · exact (get_seamFault hk c k peer _ _ (.head _)).trans (hsets _ _ (.head _))
  · exact (get_seamFault hk c k peer _ _ (.tail _ (.head _))).trans (hsets _ _ (.tail _ (.head _)))
  · unfold portFail seamFault
    dsimp only
    rw [Dev.fault_eq]
    exact List.mem_append_right _ (List.mem_singleton_self k)

/-- A port on which no lane locks fails at step 1. -/
theorem seamBringup_unlocked {d : Dev} {k : Nat} {p : Plait} (hplait : d.plait = some p) (hport : (p.port k).2.2 = true)
    (hstate : d.get (Reg.SEAM_PORT_STS_STATE k) = 1) (c : Clock) (peer : Option SeamPeer) (digest : List Byte) (auth : Option Bool)
    (routed : Bool) (reach : List (Nat × Nat × List Byte)) :
    seamBringup c k 0 peer digest auth routed reach d = portFail c k 1 0 d := by
  unfold seamBringup
  split
  · rename_i hnone
    rw [hplait] at hnone
    cases hnone
  · rename_i p' hp'
    obtain rfl : p' = p := Option.some.inj (hp'.symm.trans hplait)
    dsimp only
    rw [if_neg (by simp [hport, hstate]), if_pos rfl]

/-- A port that begins bring-up. -/
theorem portTrain_spec (k : Nat) (d : Dev) :
    (portTrain k d).get (Reg.SEAM_PORT_STS_STATE k) = 1 ∧ (portTrain k d).get (Reg.SEAM_PORT_STS_STEP k) = 0 ∧
      k ∉ (portTrain k d).misc.seamFail ∧
      portTrain k d = { d with regs := (portTrain k d).regs, misc := { d.misc with
        seamFail := (portTrain k d).misc.seamFail, routes := (portTrain k d).misc.routes } } ∧
      RegsOnly [Reg.SEAM_PORT_STS_STATE k, Reg.SEAM_PORT_STS_STEP k, Reg.SEAM_PORT_STS_LANES k] d (portTrain k d) := by
  have hsets := fun f v => Dev.get_sets_of_mem d (portState_nodup k) (f := f) (v := v)
    (l := [(Reg.SEAM_PORT_STS_STATE k, 1), (Reg.SEAM_PORT_STS_STEP k, 0), (Reg.SEAM_PORT_STS_LANES k, 0)])
  refine ⟨hsets _ _ (.head _), hsets _ _ (.tail _ (.head _)), ?_, ?_, ?_⟩
  · simp [portTrain]
  · unfold portTrain
    rw [Dev.sets_eq]
  · exact RegsOnly.sets d [(Reg.SEAM_PORT_STS_STATE k, 1), (Reg.SEAM_PORT_STS_STEP k, 0), (Reg.SEAM_PORT_STS_LANES k, 0)]

/-! ### Members that cannot be reached (R43, R45) -/

/-- A member is lost: no route leads to it, and nothing is known of it over Ethernet. -/
def Dev.memberLost (v : Nat) (d : Dev) : Dev :=
  { d with misc := { d.misc with
    routes := d.misc.routes.filter (fun r => r.1 != v), ethPeers := d.misc.ethPeers.filter (fun x => x != v),
    unreachable := d.misc.unreachable.filter (fun x => x != v) ++ [v] } }

/-- A member that does not answer over Ethernet, or has no record there, is lost. -/
theorem seamUnreachable_lost {d : Dev} {v : Nat} {eth : Option (List Byte)} {p : Plait} (hplait : d.plait = some p)
    (hmember : p.sheafDevs.contains v = true) (heth : eth = none ∨ p.peers.any (fun r => r.dev == v) = false) :
    seamUnreachable v eth d = (d.memberLost v).sheafCheck.nsChanged (d.nsOver v) := by
  have hnone : (if p.peers.any (fun e => e.dev == v) = true then eth else none) = none := by
    rcases heth with rfl | h
    · rw [ite_self]
    · rw [h, if_neg Bool.false_ne_true]
  unfold seamUnreachable
  split
  · rename_i h
    rw [hplait] at h
    cases h
  · rename_i p' hp'
    obtain rfl : p' = p := Option.some.inj (hp'.symm.trans hplait)
    dsimp only
    rw [if_neg (by simp only [hmember, Bool.true_eq_false, not_false_eq_true]), hnone]
    rfl

/-! ### What other members send (R29, R30) -/

/-- A member's failure ends the command, and tells the root nothing else. -/
theorem sheafForward_failed {d : Dev} {stamp : Nat} {x : Ctx} {st : Sts} (hctx : d.ctx stamp = some x) (hheld : x.phase ≠ .held)
    (hdone : x.phase ≠ .done) (hst : st ≠ .success) (c : Clock) (dev dw0 dw1 : Nat) (data : List Byte) (all : Bool) :
    sheafForward c (.result dev stamp st dw0 dw1 data all) d = d.complete stamp st dw0 dw1 [] := by
  have hnote : noteAnswer c stamp st data d = d := by rw [noteAnswer, hctx]; exact if_pos hst
  have hfirst : ¬(st == .success &&
      d.host.writes.any (fun w => w.stamp == stamp && w.places.any (fun p => decide (16 ≤ p)))) = true := by
    rw [beq_eq_false_iff_ne.2 hst, Bool.false_and]
    exact Bool.false_ne_true
  rw [sheafForward, if_neg hfirst, hnote, forwardResult, hctx]
  dsimp only
  rw [if_neg (not_or.2 ⟨hheld, hdone⟩), if_pos hst]

/-! ### The statement -/

/-- Settles O16: each row comes down to one change of the seam's tables; a check of the sheaf that follows it reports namespaces and
leaves the tables. -/
theorem seamLinks : Obligations.SeamLinks := by
  unfold Obligations.SeamLinks
  refine ⟨?up, ?unlocked, ?retry, ?laneFail, ?unreachable, ?command, ?failed⟩
  case up =>
    rintro c d q k locked peerDev peerPort sheaf digest reach p hon hplait hport hstate ⟨hlocked, hlanes⟩ hother rfl
      ⟨hroutes, hreach⟩
    refine ⟨_, exec_seamPortBringup hon .., ?_⟩
    rw [seamBringup_up (f := ⟨peerDev, peerPort, sheaf⟩) hplait hport hstate hlocked hlanes hother hroutes hreach]
    obtain ⟨hst, hstep, hln, hdev, hregs⟩ := seamUp_status k locked ⟨peerDev, peerPort, sheaf⟩
      (p.seamNear peerDev p.sheafDigest reach) d
    obtain ⟨hroute, hreached⟩ := seamUp_routes k locked ⟨peerDev, peerPort, sheaf⟩
      (near := p.seamNear peerDev p.sheafDigest reach) (.head _) d
    have hup := seamUp_frame k locked ⟨peerDev, peerPort, sheaf⟩ (p.seamNear peerDev p.sheafDigest reach) d
    generalize d.seamUp k locked ⟨peerDev, peerPort, sheaf⟩ (p.seamNear peerDev p.sheafDigest reach) = e at *
    obtain ⟨⟨hframe, -⟩, -⟩ := sheafCheck_nsChanged (((p.seamNear peerDev p.sheafDigest reach).map (fun x => x.1)).flatMap
      (fun v => e.nsOver v)) e
    generalize e.sheafCheck.nsChanged _ = f at *
    have hsame : f.regs = e.regs := by rw [hframe]
    have hget := Dev.get_of_regs hsame
    refine ⟨(hget _).trans hst, (hget _).trans hstep, (hget _).trans hln, (hget _).trans hdev, ?_, ?_, ?_,
      hregs.trans (.refl _ hsame)⟩
    · rw [hframe]
      exact hroute
    · rw [hframe]
      exact hreached
    · rw [hframe, hup]
  case unlocked =>
    intro c d q k peer digest auth routed reach p hon hplait hport hstate
    refine ⟨_, exec_seamPortBringup hon .., ?_⟩
    rw [seamBringup_unlocked hplait hport hstate]
    exact portFail_spec k.isLt c 1 0 d
  case retry =>
    rintro c d q k hon ⟨hfail, hage⟩
    refine ⟨_, exec_seamRetryTimer hon .., ?_⟩
    rw [seamRetry, if_pos ⟨List.contains_iff_mem.2 hfail, hage⟩]
    exact portTrain_spec k d
  case laneFail =>
    intro c d q k hon hstate hlanes
    refine ⟨_, exec_seamLaneFail hon .., ?_⟩
    rw [seamLaneFail, if_neg (not_not.2 hstate), if_pos hlanes]
    exact ⟨Dev.get_set_self .., rfl, RegsOnly.sets d [(Reg.SEAM_PORT_STS_LANES k, 2)]⟩
  case unreachable =>
    intro c d q dev eth p hplait hmember heth
    refine ⟨_, exec_seamMemberUnreachable .., ?_⟩
    rw [seamUnreachable_lost hplait hmember heth]
    obtain ⟨⟨hframe, -⟩, hlisted⟩ := sheafCheck_nsChanged (d.nsOver dev) (d.memberLost dev)
    refine ⟨?_, ?_, hlisted, ?_⟩
    · rw [hframe]
      exact List.mem_append_right _ (List.mem_singleton_self dev)
    · rw [hframe]
      simp [Dev.memberLost]
    · rw [hframe]
      rfl
  case command =>
    rintro c d q hc wid tai hplait ⟨hwrite, happend⟩
    refine ⟨_, exec_sheafForward .., ?_⟩
    rw [sheafForward, forwardCmd, if_neg (by simp [Option.isSome_iff_ne_none.1 hplait, hwrite, happend])]
    exact ⟨rfl, rfl⟩
  case failed =>
    rintro c d q dev stamp dw0 dw1 st data all x ⟨hctx, hmute, hposted⟩ ⟨hheld, hdone⟩ hst
    refine ⟨_, exec_sheafForward .., ?_⟩
    rw [sheafForward_failed hctx hheld hdone hst, Dev.complete_of_ctx hctx hmute hposted]
    exact ⟨⟨rfl, rfl⟩, rfl⟩

end Sys2Proof.Machine
end

section
/-! SUPPORT. What units, domains, the ledger and fault records leave alone of a plait's load and reload (R36, R42, R608, R647). -/

open Sys2Proof Sys2Proof.Machine

namespace Sys2Proof.Machine

/-! ### Changes that a load or reload does not see -/

/-- The plait in force, load and reload, flash, DRAM and the word PLAIT_STS are as they were; no completion posted is taken back; a
command that no controller holds as an event request has the context it had. -/
structure LoadKept (stamp : Nat) (d e : Dev) : Prop where
  plait : e.plait = d.plait
  load : e.load = d.load
  reload : e.reload = d.reload
  flash : e.flash = d.flash
  mem : e.mem = d.mem
  sts : ∀ g : Fld, g.off = 0x100 → g.lo < 32 → e.get g = d.get g
  posted : ∀ p ∈ d.host.posted, p ∈ e.host.posted
  ctx : d.Unasked stamp → e.Unasked stamp ∧ e.ctx stamp = d.ctx stamp

theorem LoadKept.trans {stamp : Nat} {d e f : Dev} (h : LoadKept stamp d e) (h' : LoadKept stamp e f) : LoadKept stamp d f := by
  refine ⟨h'.plait.trans h.plait, h'.load.trans h.load, h'.reload.trans h.reload, h'.flash.trans h.flash, h'.mem.trans h.mem,
    fun g hoff hlo => (h'.sts g hoff hlo).trans (h.sts g hoff hlo), fun p hp => h'.posted p (h.posted p hp), fun hu => ?_⟩
  obtain ⟨he, hce⟩ := h.ctx hu
  obtain ⟨hf, hcf⟩ := h'.ctx he
  exact ⟨hf, hcf.trans hce⟩

/-- A change of other parts of the module, and of registers outside PLAIT_STS. -/
theorem LoadKept.of_sts {stamp : Nat} {d e : Dev} (hs : ∀ g : Fld, g.off = 0x100 → g.lo < 32 → e.get g = d.get g)
    (hplait : e.plait = d.plait := by rfl) (hload : e.load = d.load := by rfl) (hreload : e.reload = d.reload := by rfl)
    (hflash : e.flash = d.flash := by rfl) (hmem : e.mem = d.mem := by rfl) (hctrls : e.ctrls = d.ctrls := by rfl)
    (hctxs : e.host.ctxs = d.host.ctxs := by rfl) (hposted : e.host.posted = d.host.posted := by rfl) : LoadKept stamp d e := by
  refine ⟨hplait, hload, hreload, hflash, hmem, hs, fun p hp => hposted ▸ hp, fun hu => ⟨?_, ?_⟩⟩
  · rw [Dev.Unasked, hctrls]
    exact hu
  · rw [Dev.ctx, hctxs, Dev.ctx]

/-- A change of other parts of the module alone. -/
theorem LoadKept.of_regs {stamp : Nat} {d e : Dev} (hregs : e.regs = d.regs := by rfl)
    (hplait : e.plait = d.plait := by rfl) (hload : e.load = d.load := by rfl) (hreload : e.reload = d.reload := by rfl)
    (hflash : e.flash = d.flash := by rfl) (hmem : e.mem = d.mem := by rfl) (hctrls : e.ctrls = d.ctrls := by rfl)
    (hctxs : e.host.ctxs = d.host.ctxs := by rfl) (hposted : e.host.posted = d.host.posted := by rfl) : LoadKept stamp d e :=
  .of_sts (fun g _ _ => Dev.get_of_regs hregs g) hplait hload hreload hflash hmem hctrls hctxs hposted

theorem LoadKept.refl (stamp : Nat) (d : Dev) : LoadKept stamp d d := .of_regs

theorem LoadKept.of_told {stamp : Nat} {d e : Dev} (h : Told d e) : LoadKept stamp d e := by
  refine ⟨?_, ?_, ?_, ?_, ?_, fun g _ _ => Dev.get_of_regs ?_ g, h.posted, h.ctx stamp⟩ <;> rw [h.frame]

theorem LoadKept.foldl {stamp : Nat} {α : Type} {f : Dev → α → Dev} (h : ∀ d a, LoadKept stamp d (f d a)) (l : List α)
    (d : Dev) : LoadKept stamp d (l.foldl f d) := by
  induction l generalizing d with
  | nil => exact .refl _ d
  | cons a l ih => exact (h d a).trans (ih (f d a))

theorem LoadKept.ite {stamp : Nat} {p : Prop} [Decidable p] {d a b : Dev} (ha : LoadKept stamp d a) (hb : LoadKept stamp d b) :
    LoadKept stamp d (if p then a else b) := by
  split
  · exact ha
  · exact hb

/-- A field of a word above PLAIT_STS. -/
theorem LoadKept.set {stamp : Nat} (d : Dev) {f : Fld} (hf : 0x100 < f.off) (v : Nat) : LoadKept stamp d (d.set f v) := by
  refine .of_sts fun g hoff hlo => Dev.get_set_ne d v fun h => ?_
  simp only [Fld.key, hoff] at h
  omega

theorem LoadKept.sets {stamp : Nat} (d : Dev) {fs : List Fld} (h : ∀ f ∈ fs, 0x100 < f.off) {l : List (Fld × Nat)}
    (hfs : l.map Prod.fst = fs := by rfl) : LoadKept stamp d (d.sets l) := by
  subst hfs
  induction l generalizing d with
  | nil => exact .refl _ d
  | cons p l ih =>
    rw [List.map_cons, List.forall_mem_cons] at h
    exact (LoadKept.set d h.1 p.2).trans (ih _ h.2)

theorem LoadKept.setBoth {stamp : Nat} (d : Dev) {f : Fld} (hf : 0x100 < f.off) (v : Nat) : LoadKept stamp d (d.setBoth f v) :=
  (LoadKept.set d hf v).trans .of_regs

theorem LoadKept.onDeck {stamp : Nat} (d : Dev) (n : Nat) (g : Deck → Deck) : LoadKept stamp d (d.onDeck n g) := .of_regs

/-- A field of a deck lies above PLAIT_STS (R23). -/
theorem deckField_high (n t lo w : Nat) : 0x100 < (Fld.mk (0x1000000 + n * 0x100000 + t) lo w).off :=
  Nat.lt_add_right _ (Nat.lt_add_right _ (by decide))

theorem laneField_high (n t i lo w : Nat) : 0x100 < (Fld.mk (0x1000000 + n * 0x100000 + t + i) lo w).off :=
  Nat.lt_add_right _ (deckField_high n t lo w)

/-- So does a field of the word of one engine, port or operating point. -/
theorem indexField_high {base : Nat} (h : 0x100 < base) (i lo w : Nat) : 0x100 < (Fld.mk (base + i) lo w).off :=
  Nat.lt_add_right _ h

/-! ### Fault records (R667 to R675) -/

theorem Dev.armEvents_loadKept {stamp : Nat} (c : Clock) (sev cls : Nat) (d : Dev) : LoadKept stamp d (d.armEvents c sev cls) := by
  unfold Dev.armEvents
  split
  · extract_lets e f
    have he : Told d e := .mapIf d _ fun _ => by rfl
    have hf : LoadKept stamp d f := .of_told (he.trans (Dev.deliver_told e))
    exact .ite (hf.trans .of_regs) hf
  · exact .refl _ d

theorem Dev.stsAfter_loadKept {stamp : Nat} (r : FaultRec) (d : Dev) : LoadKept stamp d (d.stsAfter r) := by
  unfold Dev.stsAfter
  extract_lets e f
  have he : LoadKept stamp d e := .of_regs
  have hf : LoadKept stamp d f := .ite (he.trans (.set e (by decide) 1)) he
  exact .ite (hf.trans (.set f (by decide) 1)) hf

theorem Dev.fault_loadKept {stamp : Nat} (c : Clock) (src : Src) (q : Cond) (d : Dev) : LoadKept stamp d (d.fault c src q) := by
  unfold Dev.fault
  cases h : d.inDeep with
  | true =>
    rw [Dev.record, if_pos h]
    exact .ite .of_regs .of_regs
  | false =>
    rw [Dev.record_awake h]
    exact (Dev.stsAfter_loadKept _ d).trans (Dev.armEvents_loadKept ..)

/-! ### The ledger (R644 to R650) -/

theorem Dev.ledShow_loadKept {stamp : Nat} (d : Dev) : LoadKept stamp d d.ledShow :=
  .sets d (fs := [Reg.SEC_LEDGER_STS_BUFFERED, Reg.SEC_LEDGER_STS_FULL, Reg.SEC_LEDGER_STS_FIRST_CP, Reg.SEC_LEDGER_SEQ_SEQ_LO])
    (by decide)

theorem Dev.ledAdd_loadKept {stamp : Nat} (c : Clock) (who : Who) (cls result detail object : Nat) (old new : List Byte) (d : Dev) :
    LoadKept stamp d (d.ledAdd c who cls result detail object old new) := by
  unfold Dev.ledAdd
  exact .trans .of_regs (Dev.ledShow_loadKept _)

theorem Dev.ledEvent_loadKept {stamp : Nat} (c : Clock) (who : Who) (cls result detail object : Nat) (old new : List Byte)
    (d : Dev) : LoadKept stamp d (d.ledEvent c who cls result detail object old new) :=
  .ite (.refl _ d) (Dev.ledAdd_loadKept ..)

theorem checkpoint_loadKept {stamp : Nat} (c : Clock) (k : Nat) (d : Dev) : LoadKept stamp d (checkpoint c k d) := by
  unfold checkpoint
  extract_lets last head m leaf cp src e
  have he : LoadKept stamp d e := .of_regs
  exact .ite (he.trans (Dev.ledAdd_loadKept ..)) he

theorem ledWrite_loadKept {stamp : Nat} (c : Clock) (d : Dev) : LoadKept stamp d (ledWrite c d) := by
  unfold ledWrite
  extract_lets first upto e seg keep
  have he : LoadKept stamp d e := .foldl (fun d i => checkpoint_loadKept ..) ..
  exact (he.trans .of_regs).trans (Dev.ledShow_loadKept _)

/-! ### Lanes and their beams (R130 to R136) -/

theorem Dev.laneWake_loadKept {stamp : Nat} (d : Dev) (n l : Nat) : LoadKept stamp d (d.laneWake n l) :=
  .ite (.refl _ d) ((LoadKept.onDeck ..).trans (.onDeck ..))

theorem Dev.laneFit_loadKept {stamp : Nat} (n l : Nat) (d : Dev) : LoadKept stamp d (d.laneFit n l) := by
  have hstby : LoadKept stamp d (d.set (Reg.LANE_STATE_STBY n l) 1) := .set d (laneField_high ..) 1
  unfold Dev.laneFit
  exact .ite (.refl _ d) (.ite (.ite (Dev.laneWake_loadKept ..) (.refl _ d)) (.ite (hstby.trans (.onDeck ..)) hstby))

theorem laneTo_loadKept {stamp : Nat} (n l st src : Nat) (d : Dev) : LoadKept stamp d (laneTo n l st src d) :=
  ((LoadKept.set d (laneField_high ..) st).trans (.set _ (laneField_high ..) src)).trans (Dev.laneFit_loadKept ..)

theorem copyLoops_loadKept {stamp : Nat} (n src dst : Nat) (d : Dev) : LoadKept stamp d (copyLoops n src dst d) := by
  have hfields : ∀ f ∈ [Reg.LANE_LOOP_VAL_GAIN n dst, Reg.LANE_LOOP_VAL_OFS n dst, Reg.LANE_LOOP_VAL_ASYM n dst,
      Reg.LANE_TR_STS_FREQ n dst], 0x100 < f.off := by
    rw [List.forall_mem_cons, List.forall_mem_cons, List.forall_mem_cons, List.forall_mem_singleton]
    exact ⟨laneField_high .., laneField_high .., laneField_high .., laneField_high ..⟩
  unfold copyLoops
  exact (LoadKept.sets d hfields).trans (.onDeck ..)

theorem Dev.gateShow_loadKept {stamp : Nat} (n : Nat) (d : Dev) : LoadKept stamp d (d.gateShow n) := by
  unfold Dev.gateShow
  extract_lets gone d1 d2 d3
  have h1 : LoadKept stamp d d1 := by
    unfold d1
    split
    · split
      · exact .onDeck ..
      · exact .refl _ d
    · exact .refl _ d
  have h2 : LoadKept stamp d1 d2 := by
    unfold d2
    split
    · exact .ite (.onDeck ..) (.refl _ d1)
    · exact .refl _ d1
  have h3 : LoadKept stamp d2 d3 := .ite (.onDeck ..) (.refl _ d2)
  exact (((h1.trans h2).trans h3).trans (.set d3 (deckField_high ..) _)).trans (.set _ (deckField_high ..) _)

theorem Dev.gateKept_loadKept {stamp : Nat} (n : Nat) (wasOpen : Bool) (d : Dev) : LoadKept stamp d (d.gateKept n wasOpen) := by
  have hkill : LoadKept stamp d (d.kill n) := (LoadKept.onDeck ..).trans (.set _ (deckField_high ..) 1)
  exact (LoadKept.ite hkill (.refl _ d)).trans (Dev.gateShow_loadKept ..)

theorem Dev.onDie_loadKept {stamp : Nat} (d : Dev) (i : Nat) (f : Die → Die) : LoadKept stamp d (d.onDie i f) := by
  refine .of_sts (fun g hoff hlo => get_onDie i f d hlo (by rw [hoff]; decide)) ?_ ?_ ?_ ?_ ?_ ?_ ?_ ?_ <;> rw [onDie_eq]

theorem beamErase_loadKept {stamp : Nat} (n beam : Nat) (wasOpen : Bool) (d : Dev) :
    LoadKept stamp d (beamErase n beam wasOpen d) :=
  (((LoadKept.set d (laneField_high ..) 1).trans (Dev.onDie_loadKept ..)).trans (.onDeck ..)).trans (Dev.gateKept_loadKept ..)

theorem laneRetire_loadKept {stamp : Nat} (n l : Nat) (d : Dev) : LoadKept stamp d (laneRetire n l d) := by
  have hto : LoadKept stamp d (laneTo n l lRETIRED 127 d) := laneTo_loadKept ..
  unfold laneRetire
  extract_lets was t open' e
  refine .ite hto (hto.trans ?_)
  split
  · exact .ite ((LoadKept.set _ (laneField_high ..) 1).trans (.onDeck ..)) (beamErase_loadKept ..)
  · exact beamErase_loadKept ..

/-! ### Fuse rows (R136, R608) -/

theorem lanesFromFuses_loadKept {stamp : Nat} (n : Nat) (retired : List Nat) (d : Dev) :
    LoadKept stamp d (lanesFromFuses n retired d) := by
  unfold lanesFromFuses
  refine .trans (.foldl (fun d l => .ite (.refl _ d) (laneRetire_loadKept ..)) ..) (.foldl (fun d b => ?_) ..)
  split
  · split
    · exact (laneTo_loadKept ..).trans (.set _ (laneField_high ..) 0)
    · exact .refl _ d
  · exact .refl _ d

theorem fuseMark_loadKept {stamp : Nat} (lo hi : Nat) (d : Dev) : LoadKept stamp d (fuseMark lo hi d) :=
  .foldl (fun _ _ => .of_regs) ..

theorem fuseLoops_loadKept {stamp : Nat} (die : Nat) (d : Dev) : LoadKept stamp d (fuseLoops die d) :=
  ((fuseMark_loadKept ..).trans (fuseMark_loadKept ..)).trans
    (.foldl (fun d _ => .ite (.set d (deckField_high ..) 1) (.refl _ d)) ..)

theorem fuseLanes_loadKept {stamp : Nat} (die : Nat) (d : Dev) : LoadKept stamp d (fuseLanes die d) :=
  .foldl (fun _ _ => (fuseMark_loadKept ..).trans (lanesFromFuses_loadKept ..)) ..

theorem fuseDec_loadKept {stamp : Nat} (die : Nat) (d : Dev) : LoadKept stamp d (fuseDec die d) :=
  ((fuseMark_loadKept ..).trans (fuseMark_loadKept ..)).trans .of_regs

theorem fuseCmp_loadKept {stamp : Nat} (d : Dev) : LoadKept stamp d (fuseCmp d) :=
  (fuseMark_loadKept ..).trans (.foldl (fun d _ => .set d (indexField_high (by decide) ..) 3) ..)

theorem fuseFaults_loadKept {stamp : Nat} (c : Clock) (d : Dev) : LoadKept stamp d (fuseFaults c d) :=
  .foldl (fun d _ => .ite (Dev.fault_loadKept ..) (.refl _ d)) ..

/-! ### Visits of self-test (R591 to R600) -/

theorem tstShow_loadKept {stamp : Nat} (d : Dev) : LoadKept stamp d (tstShow d) :=
  .sets d (fs := [Reg.TST_STS_IN_TEST, Reg.TST_STS_ROWS_USED, Reg.TST_STS_FULL]) (by decide)

theorem engineOut_loadKept {stamp : Nat} {u : Nat} {d e : Dev} (h : engineOut u d = some e) : LoadKept stamp d e := by
  unfold engineOut at h
  dsimp only at h
  split at h
  · split at h
    · cases h
      exact .of_regs
    · cases h
  · split at h
    · cases h
      exact .of_regs
    · cases h
  · split at h
    · cases h
      exact .set d (indexField_high (by decide) ..) 2
    · cases h
  · cases h

theorem engineBack_loadKept {stamp : Nat} (u : Nat) (d : Dev) : LoadKept stamp d (engineBack u d) := by
  unfold engineBack
  dsimp only
  split
  · exact .of_regs
  · exact .of_regs
  · exact .set d (indexField_high (by decide) ..) 0
  · exact .refl _ d

theorem visitStart_loadKept {stamp : Nat} {v : Visit} {d e : Dev} (h : visitStart v d = some e) : LoadKept stamp d e := by
  unfold visitStart at h
  extract_lets u n k lanes add reset busy s lower g at h
  have hreset : LoadKept stamp d (reset d) := .of_regs
  have hadd : ∀ w d, LoadKept stamp d (add w d) := fun w d => .of_regs
  have hstate : ∀ u st d, LoadKept stamp d (Dev.ustate u st d) := fun u st d => .of_regs
  have hstart : ∀ w st, LoadKept stamp d ((add w (reset d)).ustate u st) := fun w st => (hreset.trans (hadd ..)).trans (hstate ..)
  split at h
  · split at h
    · cases h
    · split at h
      · cases h
        exact ((hreset.trans (laneTo_loadKept ..)).trans (hadd ..)).trans (hstate ..)
      · split at h
        · split at h
          · cases h
          · cases h
            exact ((((hreset.trans (copyLoops_loadKept ..)).trans (laneTo_loadKept ..)).trans (hadd ..)).trans (hstate ..)).trans
              (.set _ (laneField_high ..) 1)
        · cases h
  · split at h
    · cases h
    · cases h
      exact (hstart ..).trans (.set _ (laneField_high ..) 1)
  · split at h
    · cases h
    · split at h
      · cases h
        exact hstart ..
      · split at h
        · cases h
          exact hstart ..
        · cases h
  · split at h
    · cases h
    · cases h
      exact hstart ..
  · cases h
  · split at h
    · cases h
    · split at h
      · rename_i e' he
        cases h
        exact ((hreset.trans (engineOut_loadKept he)).trans (hadd ..)).trans (hstate ..)
      · cases h

theorem tstPump_loadKept {stamp : Nat} (d : Dev) : LoadKept stamp d (tstPump d) := by
  unfold tstPump
  refine .trans (.trans (.foldl (fun d v => ?_) ..) (.foldl (fun d v => ?_) ..)) (tstShow_loadKept _)
  · split
    · rename_i e he
      exact (engineOut_loadKept he).trans .of_regs
    · exact .refl _ d
  · split
    · rename_i e he
      exact .trans .of_regs (visitStart_loadKept he)
    · exact .refl _ d

theorem visitEnd_loadKept {stamp : Nat} (v : Visit) (result : Nat) (d : Dev) : LoadKept stamp d (visitEnd v result d) := by
  unfold visitEnd
  extract_lets n d1 d2 d3
  have h2 : LoadKept stamp d d2 := .of_regs
  have h3 : LoadKept stamp d2 d3 := by
    unfold d3
    split
    · exact .ite (.set d2 (laneField_high ..) 0) (.refl _ d2)
    · exact .set d2 (laneField_high ..) 0
    · exact .refl _ d2
  have h23 : LoadKept stamp d d3 := h2.trans h3
  exact (h23.trans (.ite (.sets d3 (fs := [Reg.TST_CMD_BUSY, Reg.TST_CMD_RESULT]) (by decide)) (.refl _ d3))).trans
    (tstPump_loadKept _)

theorem spareFree_loadKept {stamp : Nat} (v : Visit) (d : Dev) : LoadKept stamp d (spareFree v d) :=
  .ite (.ite (.refl _ d) (laneTo_loadKept ..)) (.refl _ d)

theorem tstAbort_loadKept {stamp : Nat} (d : Dev) : LoadKept stamp d (tstAbort d) := by
  unfold tstAbort
  refine .foldl (fun d v => ?_) ..
  extract_lets n
  have hback : LoadKept stamp d (if v.step = 5 then engineBack v.unit d else d) := .ite (engineBack_loadKept ..) (.refl _ d)
  split
  · refine .ite (.refl _ d) (.trans (.trans ?_ (spareFree_loadKept v _)) (visitEnd_loadKept ..))
    exact .ite (.refl _ d) (laneTo_loadKept ..)
  · exact .ite (.refl _ d) (visitEnd_loadKept ..)
  · exact .ite (.refl _ d) ((LoadKept.set d (deckField_high ..) 0).trans (visitEnd_loadKept ..))
  · exact .ite (.refl _ d) (visitEnd_loadKept ..)
  · exact .ite (.refl _ d) (hback.trans (visitEnd_loadKept ..))
  · exact .ite (.refl _ d) (hback.trans (visitEnd_loadKept ..))

/-! ### Power domains and operating points (R558, R572) -/

theorem domsOff_loadKept {stamp : Nat} (l : List Nat) (d : Dev) : LoadKept stamp d (domsOff l d) := .set d (by decide) _

theorem domsDown_loadKept {stamp : Nat} (keep : Nat) (d : Dev) : LoadKept stamp d (domsDown keep d) :=
  ((LoadKept.set d (by decide) _).trans (domsOff_loadKept ..)).trans (tstAbort_loadKept _)

theorem domsOn_loadKept {stamp : Nat} (c : Clock) (mask : Nat) (d : Dev) : LoadKept stamp d (domsOn c mask d) := by
  unfold domsOn
  extract_lets was new d1 d2 d3
  have h1 : LoadKept stamp d d1 := .set d (by decide) _
  have h2 : LoadKept stamp d1 d2 := by
    refine .foldl (fun d die => ?_) ..
    extract_lets e f
    have he : LoadKept stamp d e := .ite (fuseLoops_loadKept ..) (.refl _ d)
    have hf : LoadKept stamp e f := .ite (fuseLanes_loadKept ..) (.refl _ e)
    exact (he.trans hf).trans (.ite (fuseDec_loadKept ..) (.refl _ f))
  have h3 : LoadKept stamp d2 d3 := .ite (fuseCmp_loadKept d2) (.refl _ d2)
  exact ((h1.trans h2).trans h3).trans (.ite (fuseFaults_loadKept ..) (.refl _ d3))

theorem oppDefaults_loadKept {stamp : Nat} (v : Nat) (d : Dev) : LoadKept stamp d (oppDefaults v d) := by
  refine .foldl (fun d j => ?_) ..
  have hfields : ∀ f ∈ [Reg.PWR_DVFS_CTL_F_OPP j, Reg.PWR_DVFS_CTL_V_OPP j, Reg.PWR_DVFS_CTL_EFF_F j, Reg.PWR_DVFS_CTL_EFF_V j],
      0x100 < f.off := by
    rw [List.forall_mem_cons, List.forall_mem_cons, List.forall_mem_cons, List.forall_mem_singleton]
    exact ⟨indexField_high (by decide) .., indexField_high (by decide) .., indexField_high (by decide) ..,
      indexField_high (by decide) ..⟩
  exact .sets d hfields

end Sys2Proof.Machine
end

section
/-! SUPPORT. Plait Load, its timeout, and the end of a pending reload (R36, R38, R40 to R42, R46). -/

open Sys2Proof Sys2Proof.Machine

namespace Sys2Proof.Machine

/-! ### A plait takes effect (R38, R42) -/

theorem loadQuotas_loadKept {stamp : Nat} (l : List BindRec) (d : Dev) : LoadKept stamp d (loadQuotas l d) :=
  .foldl (fun d _ => .setBoth d (indexField_high (by decide) ..) _) ..

theorem engOwners_loadKept {stamp : Nat} (p : Plait) (d : Dev) : LoadKept stamp d (engOwners p d) :=
  .foldl (fun d _ => .set d (indexField_high (by decide) ..) _) ..

theorem powerFields_loadKept {stamp : Nat} (p : Plait) (d : Dev) : LoadKept stamp d (powerFields p d) :=
  (LoadKept.setBoth d (by decide) _).trans (.foldl (fun d _ => .setBoth d (deckField_high ..) _) ..)

/-- The fields of a port lie above PLAIT_STS. -/
theorem portFields_high (k : Nat) : ∀ f ∈ [Reg.SEAM_PORT_STS_STATE k, Reg.SEAM_PORT_STS_STEP k, Reg.SEAM_PORT_STS_LANES k],
    0x100 < f.off := by
  rw [List.forall_mem_cons, List.forall_mem_cons, List.forall_mem_singleton]
  exact ⟨indexField_high (by decide) .., indexField_high (by decide) .., indexField_high (by decide) ..⟩

theorem portTrain_loadKept {stamp : Nat} (k : Nat) (d : Dev) : LoadKept stamp d (portTrain k d) :=
  (LoadKept.sets d (portFields_high k)
    (l := [(Reg.SEAM_PORT_STS_STATE k, 1), (Reg.SEAM_PORT_STS_STEP k, 0), (Reg.SEAM_PORT_STS_LANES k, 0)])).trans .of_regs

theorem portDown_loadKept {stamp : Nat} (k : Nat) (d : Dev) : LoadKept stamp d (portDown k d) :=
  (LoadKept.sets d (portFields_high k)
    (l := [(Reg.SEAM_PORT_STS_STATE k, 0), (Reg.SEAM_PORT_STS_STEP k, 0), (Reg.SEAM_PORT_STS_LANES k, 0)])).trans .of_regs

theorem Dev.sheafCheck_loadKept {stamp : Nat} (d : Dev) : LoadKept stamp d d.sheafCheck := by
  obtain ⟨b, l, h⟩ := d.sheafCheck_told
  exact .trans .of_regs (.of_told h)

theorem seamPorts_loadKept {stamp : Nat} (old : Option Plait) (p : Plait) (d : Dev) : LoadKept stamp d (seamPorts old p d) := by
  unfold seamPorts
  extract_lets same d1 src d2
  have h1 : LoadKept stamp d d1 :=
    .foldl (fun d k => .ite (.ite (.refl _ d) (portTrain_loadKept ..)) (portDown_loadKept ..)) ..
  have h2 : LoadKept stamp d1 d2 := .ite (.refl _ d1) .of_regs
  exact (h1.trans h2).trans (Dev.sheafCheck_loadKept _)

theorem Dev.listed_loadKept {stamp : Nat} (l : List Nat) (d : Dev) : LoadKept stamp d (d.listed l) := .of_regs

theorem nsFollow_loadKept {stamp : Nat} (old : Option Plait) (p : Plait) (d : Dev) : LoadKept stamp d (nsFollow old p d) := by
  unfold nsFollow
  extract_lets was changed src d1 d2 src'
  have h1 : LoadKept stamp d d1 := .of_regs
  have h2 : LoadKept stamp d1 d2 := .foldl (fun d n => .onDeck ..) ..
  have h3 : LoadKept stamp d2 (d2.listed changed) := Dev.listed_loadKept ..
  exact (h1.trans h2).trans (.ite (.refl _ d2) (h3.trans (.of_told (Dev.raise_told ..))))

/-- A controller's identity says nothing of its event requests. -/
theorem Ctrl.aers_withPolicy (pol : List PolRec) (k : Ctrl) : (k.withPolicy pol).aers = k.aers := by
  unfold Ctrl.withPolicy
  dsimp only
  split <;> rfl

theorem Dev.refreshRoles_loadKept {stamp : Nat} (d : Dev) : LoadKept stamp d d.refreshRoles :=
  .of_told (.map d fun k => by rw [apply_ite Ctrl.aers, Ctrl.aers_withPolicy, ite_self])

theorem Dev.refreshSessions_loadKept {stamp : Nat} (d : Dev) : LoadKept stamp d d.refreshSessions := by
  unfold Dev.refreshSessions
  extract_lets gain e
  have he : LoadKept stamp d e := .of_told (.map d fun _ => by rfl)
  exact he.trans (.set e (by decide) _)

/-- The plait that follows from one applied: a subtree goes into the plait in force. -/
def Dev.plaitAfter (d : Dev) (img : Plait) : Plait :=
  match d.plait with
  | some q => if img.subtree then mergeSubtree q img else img
  | none => img

/-- A plait in force, as PLAIT_STS and SELF_HANDLE show it. -/
def Dev.inForce (source : Nat) (p : Plait) (d : Dev) : Dev :=
  Dev.sets { d with plait := some p } [(Reg.MGMT_SELF_HANDLE_DEVICE_NUM, p.deviceNum), (Reg.MGMT_SELF_HANDLE_INDEX, 0),
    (Reg.MGMT_PLAIT_STS_SOURCE, source), (Reg.MGMT_PLAIT_STS_STATE, 2)]

theorem Dev.inForce_status (source : Nat) (p : Plait) (d : Dev) :
    (d.inForce source p).get Reg.MGMT_PLAIT_STS_STATE = 2 ∧ (d.inForce source p).get Reg.MGMT_PLAIT_STS_SOURCE = source % 4 := by
  have hkeys : ([Reg.MGMT_SELF_HANDLE_DEVICE_NUM, Reg.MGMT_SELF_HANDLE_INDEX, Reg.MGMT_PLAIT_STS_SOURCE,
    Reg.MGMT_PLAIT_STS_STATE].map Fld.key).Nodup := by decide
  exact ⟨Dev.get_sets_of_mem _ hkeys (.tail _ (.tail _ (.tail _ (.head _)))),
    Dev.get_sets_of_mem _ hkeys (.tail _ (.tail _ (.head _)))⟩

/-- What follows from it leaves the plait and its status. -/
theorem applyPlait_loadKept {stamp : Nat} (source : Nat) (img : Plait) (d : Dev) :
    LoadKept stamp (d.inForce source (d.plaitAfter img)) (applyPlait source img d) := by
  unfold applyPlait
  extract_lets old p d1 d2 d3 d4
  have h3 : LoadKept stamp d2 d3 := (loadQuotas_loadKept ..).trans (engOwners_loadKept ..)
  have h4 : LoadKept stamp d3 d4 := .ite (.refl _ d3) (powerFields_loadKept ..)
  exact ((((h3.trans h4).trans (seamPorts_loadKept ..)).trans (nsFollow_loadKept ..)).trans (Dev.refreshRoles_loadKept _)).trans
    (Dev.refreshSessions_loadKept _)

/-- The plait in force after one is applied, and what else of loads is as it was. -/
theorem applyPlait_spec (stamp source : Nat) (img : Plait) (d : Dev) :
    (applyPlait source img d).plait = some (d.plaitAfter img) ∧ (applyPlait source img d).get Reg.MGMT_PLAIT_STS_STATE = 2 ∧
      (applyPlait source img d).get Reg.MGMT_PLAIT_STS_SOURCE = source % 4 ∧ (applyPlait source img d).reload = d.reload ∧
      (applyPlait source img d).flash = d.flash ∧ (applyPlait source img d).mem = d.mem ∧
      (d.Unasked stamp → (applyPlait source img d).Unasked stamp ∧ (applyPlait source img d).ctx stamp = d.ctx stamp) := by
  obtain ⟨hstate, hsource⟩ := d.inForce_status source (d.plaitAfter img)
  have hkept := applyPlait_loadKept (stamp := stamp) source img d
  have hframe : d.inForce source (d.plaitAfter img) = { d with
      plait := some (d.plaitAfter img), regs := (d.inForce source (d.plaitAfter img)).regs } := Dev.sets_eq ..
  generalize applyPlait source img d = e at *
  generalize d.inForce source (d.plaitAfter img) = f at *
  rw [hframe] at hkept
  exact ⟨hkept.plait, (hframe ▸ hkept.sts _ rfl (by decide)).trans hstate,
    (hframe ▸ hkept.sts _ rfl (by decide)).trans hsource, hkept.reload, hkept.flash, hkept.mem, hkept.ctx⟩

theorem reloadDomains_loadKept {stamp : Nat} (c : Clock) (was d : Dev) : LoadKept stamp d (reloadDomains c was d) := by
  unfold reloadDomains
  split
  · refine .ite (.trans (.trans (domsOn_loadKept ..) (domsDown_loadKept ..)) (oppDefaults_loadKept ..)) (.refl _ d)
  · extract_lets d1 d2
    have h1 : LoadKept stamp d d1 := (domsOn_loadKept ..).trans (oppDefaults_loadKept ..)
    have h2 : LoadKept stamp d1 d2 := domsOff_loadKept ..
    exact (h1.trans h2).trans (.ite (.foldl (fun d _ => .setBoth d (indexField_high (by decide) ..) 1) ..) (.refl _ d2))
  · exact .refl _ d

/-! ### A load that is rejected (R36, R40) -/

/-- PLAIT_STS.STATE shows a module at rest. -/
theorem Dev.get_plaitRest (d : Dev) : d.plaitRest.get Reg.MGMT_PLAIT_STS_STATE = if d.plait.isSome then 2 else 4 := by
  unfold Dev.plaitRest
  split
  · exact Dev.get_set_self ..
  · exact Dev.get_set_self ..

/-- The module as a rejected load leaves it: its reason shown, the plait in force, the stored ones and a pending reload as they
were, its command answered. -/
structure Rejected (stamp : Nat) (x : Ctx) (reason : Nat) (d e : Dev) : Prop where
  shown : e.get Reg.MGMT_PLAIT_STS_REASON = reason % 2 ^ Reg.MGMT_PLAIT_STS_REASON.w
  rej : e.get Reg.MGMT_PLAIT_STS_REJ = 1
  state : e.get Reg.MGMT_PLAIT_STS_STATE = if d.plait.isSome then 2 else 4
  plait : e.plait = d.plait
  load : e.load = d.load
  flash : e.flash = d.flash
  reload : e.reload = d.reload
  answered : Answered stamp x .plaitRejected reason 0 [] e

/-- A rejection shown, recorded and entered, before its command completes. -/
def Dev.loadRefused (c : Clock) (who : Who) (reason : Nat) (raw : List Byte) (d : Dev) : Dev :=
  let build := leAt raw 0x20 8
  let d := d.sets [(Reg.MGMT_PLAIT_STS_REASON, reason), (Reg.MGMT_PLAIT_STS_REJ, 1)]
  let d := d.fault c .device { cls := 7, code := 2, sev := 2, detail := le 4 reason ++ le 8 build }
  d.ledEvent c who 3 1 reason build d.plaitDigest (sha (imgSigned raw))

theorem plaitReject_eq (c : Clock) (stamp : Nat) (who : Who) (reason : Nat) (raw : List Byte) (d : Dev) :
    plaitReject c stamp who reason raw d =
      (d.loadRefused c who reason raw).plaitRest.complete stamp .plaitRejected reason 0 [] := rfl

/-- The record and the entry leave what has been shown. -/
theorem Dev.loadRefused_kept {stamp : Nat} (c : Clock) (who : Who) (reason : Nat) (raw : List Byte) (d : Dev) :
    LoadKept stamp (d.sets [(Reg.MGMT_PLAIT_STS_REASON, reason), (Reg.MGMT_PLAIT_STS_REJ, 1)]) (d.loadRefused c who reason raw) :=
  (Dev.fault_loadKept ..).trans (Dev.ledEvent_loadKept ..)

theorem plaitReject_rejected {d : Dev} {stamp : Nat} {x : Ctx} (hctx : d.ctx stamp = some x) (hmute : x.mute = false)
    (hposted : x.posted = false) (hasked : d.Unasked stamp) (c : Clock) (who : Who) (reason : Nat) (raw : List Byte) :
    Rejected stamp x reason d (plaitReject c stamp who reason raw d) := by
  have hkeys : ([Reg.MGMT_PLAIT_STS_REASON, Reg.MGMT_PLAIT_STS_REJ].map Fld.key).Nodup := by decide
  have hreason := Dev.get_sets_of_mem d hkeys (.head [(Reg.MGMT_PLAIT_STS_REJ, 1)]) (f := Reg.MGMT_PLAIT_STS_REASON) (v := reason)
  have hrej := Dev.get_sets_of_mem d hkeys (.tail (Reg.MGMT_PLAIT_STS_REASON, reason) (.head []))
    (f := Reg.MGMT_PLAIT_STS_REJ) (v := 1)
  have hkept := d.loadRefused_kept (stamp := stamp) c who reason raw
  rw [plaitReject_eq]
  generalize d.loadRefused c who reason raw = f at hkept
  rw [Dev.sets_eq] at hkept
  have hplait : f.plait = d.plait := hkept.plait
  have hregs : (f.plaitRest.complete stamp .plaitRejected reason 0 []).regs = f.plaitRest.regs := by rw [Dev.complete_eq]
  have hget : ∀ g, (f.plaitRest.complete stamp .plaitRejected reason 0 []).get g = f.plaitRest.get g := Dev.get_of_regs hregs
  refine ⟨?_, ?_, ?_, ?_, ?_, ?_, ?_, ?_⟩
  · rw [hget, Dev.plaitRest, Dev.get_set_ne _ _ (by decide), hkept.sts _ rfl (by decide)]
    exact hreason
  · rw [hget, Dev.plaitRest, Dev.get_set_ne _ _ (by decide), hkept.sts _ rfl (by decide)]
    exact hrej
  · rw [hget, Dev.get_plaitRest, hplait]
  · rw [Dev.complete_eq]
    exact hplait
  · rw [Dev.complete_eq]
    exact hkept.load
  · rw [Dev.complete_eq]
    exact hkept.flash
  · rw [Dev.complete_eq]
    exact hkept.reload
  · exact Dev.complete_answered (d := f.plaitRest) ((hkept.ctx hasked).2.trans hctx) hmute hposted ..

/-! ### What a reload held goes on (R42) -/

/-- A change of a context, none of which has a stamp it had not, brings no context back. -/
theorem Dev.onCtx_settles (stamp : Nat) {f : Ctx → Ctx} (hf : ∀ y, (f y).stamp = y.stamp) (d : Dev) :
    HostSettles d (d.onCtx stamp f) := by
  refine ⟨rfl, fun s hs => List.find?_eq_none.2 fun y hy => ?_, fun _ hp => hp⟩
  obtain ⟨y', hy', rfl⟩ := List.mem_map.1 hy
  rw [apply_ite Ctx.stamp, hf, ite_self]
  exact List.find?_eq_none.1 hs y' hy'

/-- Commands held go on: the completions posted stay, and no context is new. -/
theorem Dev.letGo_settles (why : Nat) (d : Dev) : HostSettles d (d.letGo why) := by
  unfold Dev.letGo
  extract_lets stamps
  generalize stamps = l
  induction l generalizing d with
  | nil => exact .refl d
  | cons st l ih =>
    refine .trans ?_ (ih _)
    dsimp only
    split
    · exact Dev.onCtx_settles st (fun _ => by rfl) d
    · exact .refl d

theorem HostSettles.ends (l : List Nat) (st : Sts) (d : Dev) : HostSettles d (l.foldl (fun d s => d.ends s st) d) := by
  induction l generalizing d with
  | nil => exact .refl d
  | cons s l ih => exact (Dev.complete_settles ..).trans (ih _)

theorem Dev.reloadRelease_settles (d : Dev) : HostSettles d d.reloadRelease :=
  (HostSettles.ends ..).trans (Dev.letGo_settles ..)

/-- What was answered stays answered. -/
theorem HostSettles.answered {d e : Dev} (h : HostSettles d e) {stamp : Nat} {x : Ctx} {st : Sts} {dw0 dw1 : Nat} {data : List Byte}
    (ha : Answered stamp x st dw0 dw1 data d) : Answered stamp x st dw0 dw1 data e := ⟨h.ctx _ ha.1, h.posted _ ha.2⟩

theorem HostSettles.rejected {stamp : Nat} {x : Ctx} {reason : Nat} {d e f : Dev} (h : HostSettles e f)
    (hr : Rejected stamp x reason d e) : Rejected stamp x reason d f := by
  have hget : ∀ g, f.get g = e.get g := Dev.get_of_regs (by rw [h.frame])
  refine ⟨(hget _).trans hr.shown, (hget _).trans hr.rej, (hget _).trans hr.state, ?_, ?_, ?_, ?_, h.answered hr.answered⟩
  · rw [h.frame]
    exact hr.plait
  · rw [h.frame]
    exact hr.load
  · rw [h.frame]
    exact hr.flash
  · rw [h.frame]
    exact hr.reload

/-! ### The rows as changes of the module -/

theorem exec_plaitLoad (c : Clock) (d : Dev) (q : List Instr) (stamp ofst : Nat) (piece : List Byte) (last : Bool) (dest : Fin 4)
    (select : Bool) (subtree : Word) (quiesce : Nat) :
    exec (.plaitLoad stamp ofst piece last dest select subtree quiesce) ⟨c, d, q⟩ =
      .next ⟨c, plaitLoad c stamp ofst piece last dest select subtree.toNat quiesce d, q⟩ := rfl

theorem exec_plaitLoadTimeout (c : Clock) (d : Dev) (q : List Instr) :
    exec .plaitLoadTimeout ⟨c, d, q⟩ = .next ⟨c, plaitLoadTimeout c d, q⟩ := rfl

theorem exec_subtreeReloadApply (c : Clock) (d : Dev) (q : List Instr) :
    exec .subtreeReloadApply ⟨c, d, q⟩ = .next ⟨c, reloadDomains c d (subtreeReloadApply c d), q⟩ := rfl

theorem exec_reloadQuiesceTimeout (c : Clock) (d : Dev) (q : List Instr) :
    exec .reloadQuiesceTimeout ⟨c, d, q⟩ = .next ⟨c, reloadQuiesceTimeout c d, q⟩ := rfl

/-! ### Pieces of a load (R40) -/

/-- The pieces of the load in progress. -/
def Dev.pieces (d : Dev) : List (Nat × List Byte) :=
  match d.load with
  | some l => l.pieces
  | none => []

/-- No other controller's load is in progress. -/
def Dev.loadFree (d : Dev) (cid : Nat) : Bool :=
  match d.load with
  | some l => l.cid == cid
  | none => true

/-- A piece is held. -/
def Dev.pieceHeld (c : Clock) (x : Ctx) (ofst : Nat) (piece : List Byte) (d : Dev) : Dev :=
  let d := { d with load := some { cid := x.cid, pieces := d.pieces ++ [(4 * ofst, piece)], last := c.tick } }
  if d.plait.isNone then d.set Reg.MGMT_PLAIT_STS_STATE 1 else d

/-- Under the minimal structure alone a piece shows in PLAIT_STS. -/
theorem Dev.pieceHeld_spec (c : Clock) (x : Ctx) (ofst : Nat) (piece : List Byte) (d : Dev) :
    d.pieceHeld c x ofst piece = { d with
        regs := (d.pieceHeld c x ofst piece).regs,
        load := some { cid := x.cid, pieces := d.pieces ++ [(4 * ofst, piece)], last := c.tick } } ∧
      (d.plait.isNone = true → (d.pieceHeld c x ofst piece).get Reg.MGMT_PLAIT_STS_STATE = 1) ∧
      (d.plait.isNone = false → (d.pieceHeld c x ofst piece).regs = d.regs) ∧
      RegsOnly [Reg.MGMT_PLAIT_STS_STATE] d (d.pieceHeld c x ofst piece) := by
  unfold Dev.pieceHeld
  extract_lets e
  have hnone : e.plait.isNone = d.plait.isNone := rfl
  rw [hnone]
  cases d.plait.isNone with
  | true =>
    rw [if_pos rfl]
    exact ⟨rfl, fun _ => Dev.get_set_self .., fun h => absurd h (by decide), RegsOnly.sets e [(Reg.MGMT_PLAIT_STS_STATE, 1)]⟩
  | false =>
    rw [if_neg Bool.false_ne_true]
    exact ⟨rfl, fun h => absurd h (by decide), fun _ => rfl, .refl _ rfl⟩

/-- A piece that is not the last one is held, and its command succeeds. -/
theorem plaitLoad_piece {d : Dev} {stamp ofst : Nat} {piece : List Byte} {dest : Fin 4} {x : Ctx}
    (hrun : d.running stamp .plaitLoad = some x) (hfree : d.loadFree x.cid = true) (hdest : dest ≠ 3)
    (hover : d.pieces.any (pieceOverlaps (4 * ofst, piece)) = false) (c : Clock) (select : Bool) (subtree quiesce : Nat) :
    plaitLoad c stamp ofst piece false dest select subtree quiesce d = (d.pieceHeld c x ofst piece).ends stamp .success := by
  have hdest' : dest.val ≠ 3 := fun h => hdest (Fin.ext h)
  unfold plaitLoad
  rw [Dev.run_of_running hrun]
  extract_lets mine held p e e'
  have hmine : mine = true := hfree
  have hheld : held.any (pieceOverlaps p) = false := hover
  rw [if_neg (by rw [hmine]; decide), if_neg (by simp [hdest', hheld]), if_neg Bool.false_ne_true]
  rfl

/-- An image that came in one piece. -/
theorem loadImage_single (piece : List Byte) : loadImage [(0, piece)] = some piece := by
  simp [loadImage, sortBy, insertBy]

/-- Verification does not look at the load in progress. -/
theorem verifyPlait_unloaded (d : Dev) (gib : Nat) (raw : List Byte) :
    verifyPlait { d with load := none } gib raw = verifyPlait d gib raw := by
  unfold verifyPlait
  rfl

/-- An image in one piece that does not verify is rejected, and the load is over. -/
theorem plaitLoad_bad {d : Dev} {stamp : Nat} {piece : List Byte} {dest : Fin 4} {subtree r : Nat} {x : Ctx}
    (hrun : d.running stamp .plaitLoad = some x) (hload : d.load = none) (hdest : dest ≠ 3)
    (hroot : piece.length < 64 ∨ leAt piece 0x1C 4 = subtree) (hmem : d.get Reg.MEM_STS_STATE = 2)
    (hbad : verifyPlait d d.dramGib piece = .inl r) (c : Clock) (select : Bool) (quiesce : Nat) :
    plaitLoad c stamp 0 piece true dest select subtree quiesce d =
      plaitReject c stamp (d.whoOf x.cid rCUSTODIAN) r piece { d with load := none } := by
  have hdest' : dest.val ≠ 3 := fun h => hdest (Fin.ext h)
  have hroot' : ¬(64 ≤ piece.length ∧ leAt piece 0x1C 4 ≠ subtree) := fun h =>
    hroot.elim (Nat.not_lt.2 h.1) h.2
  unfold plaitLoad
  rw [Dev.run_of_running hrun]
  extract_lets mine held p e raw who
  have hmine : mine = true := by simp only [mine, hload]
  have hheld : held = [] := by simp only [held, hload]
  have hraw : raw = piece := by
    unfold raw
    rw [hheld]
    exact congrArg (fun o => Option.getD o []) (loadImage_single piece)
  have hruns : ¬e.get Reg.MEM_STS_STATE ≠ 2 := not_not.2 hmem
  have hverify : verifyPlait e e.dramGib piece = .inl r := (verifyPlait_unloaded ..).trans hbad
  rw [if_neg (by rw [hmine]; decide), if_neg (by simp [hdest', hheld]), if_pos rfl, hraw, if_neg hroot', if_neg hruns,
    hverify]
  rfl

/-! ### A reload whose resources are idle (R42, R647) -/

/-- The reload is over and its entry is in flash. -/
def Dev.reloadEntered (c : Clock) (r : ReloadNow) (d : Dev) : Dev :=
  ledWrite c (Dev.ledAdd c r.who 3 0 0 r.image.buildId d.plaitDigest r.image.digest { d with reload := none })

theorem Dev.reloadEntered_kept {stamp : Nat} (c : Clock) (r : ReloadNow) (d : Dev) :
    LoadKept stamp { d with reload := none } (d.reloadEntered c r) :=
  (Dev.ledAdd_loadKept ..).trans (ledWrite_loadKept ..)

/-- With its resources idle and the ledger able to take the entry, the plait takes effect and the command ends. -/
theorem subtreeReloadApply_idle {d : Dev} {r : ReloadNow} (hreload : d.reload = some r) (hidle : d.reloadIdle r.image = true)
    (hfull : d.ledFull = false) (hflash : d.led.bad = false) (hdest : r.dest ≠ 1) (c : Clock) :
    subtreeReloadApply c d = ((applyPlait 3 r.image (d.reloadEntered c r)).ends r.stamp .success).reloadRelease := by
  have hroom : ¬(Dev.ledFull { d with reload := none } || (ledFirst 3 && d.led.bad)) = true := by
    rw [hflash, Bool.and_false, Bool.or_false]
    exact ne_true_of_eq_false hfull
  unfold subtreeReloadApply
  rw [hreload]
  dsimp only
  rw [hidle, if_neg (by decide), Dev.ledgered, if_neg hroom]
  dsimp only
  rw [if_neg hdest]
  rfl

/-! ### The statement -/

/-- Settles O15: a load ends in a piece held or a rejection; a plait that takes effect is followed by changes of units, domains and
ports, none of which a load or reload sees. -/
theorem plaitLoadAndReload : Obligations.PlaitLoadAndReload := by
  unfold Obligations.PlaitLoadAndReload
  refine ⟨?first, ?further, ?rejected, ?timeout, ?apply, ?busy⟩
  case first =>
    rintro c d q stamp ofst piece dest select subtree quiesce x hrun ⟨hmute, hposted⟩ hload hdest
    have hfree : d.loadFree x.cid = true := by rw [Dev.loadFree, hload]
    have hnone : d.pieces = [] := by rw [Dev.pieces, hload]
    obtain ⟨hframe, hminimal, hkept, hregs⟩ := d.pieceHeld_spec c x ofst piece
    refine ⟨_, exec_plaitLoad .., ?_⟩
    rw [plaitLoad_piece hrun hfree hdest (by rw [hnone]; rfl)]
    generalize d.pieceHeld c x ofst piece = f at *
    have hctx : f.ctx stamp = some x := by
      rw [hframe]
      exact Dev.ctx_of_running hrun
    have hhost : f.host = d.host := by rw [hframe]
    rw [Dev.ends, Dev.complete_of_ctx hctx hmute hposted, hhost]
    refine ⟨?_, ⟨rfl, rfl⟩, hminimal, hkept, ?_, hregs⟩
    · rw [hframe, hnone]
      rfl
    · rw [hframe]
  case further =>
    rintro c d q stamp ofst piece dest select subtree quiesce x l hrun ⟨hmute, hposted⟩ hload hcid hover hdest
    have hfree : d.loadFree x.cid = true := by
      rw [Dev.loadFree, hload]
      exact beq_iff_eq.2 hcid
    have hheld : d.pieces = l.pieces := by rw [Dev.pieces, hload]
    obtain ⟨hframe, -⟩ := d.pieceHeld_spec c x ofst piece
    refine ⟨_, exec_plaitLoad .., ?_⟩
    rw [plaitLoad_piece hrun hfree hdest (by rw [hheld]; exact hover)]
    generalize d.pieceHeld c x ofst piece = f at *
    have hctx : f.ctx stamp = some x := by
      rw [hframe]
      exact Dev.ctx_of_running hrun
    have hhost : f.host = d.host := by rw [hframe]
    rw [Dev.ends, Dev.complete_of_ctx hctx hmute hposted, hhost]
    refine ⟨?_, rfl, rfl⟩
    rw [hframe, hheld]
  case rejected =>
    rintro c d q stamp ofst piece dest select subtree quiesce x r hrun ⟨hmute, hposted⟩ hasked hload hdest hroot rfl hmem hbad
    have h := plaitReject_rejected (d := { d with load := none }) (Dev.ctx_of_running hrun) hmute hposted hasked c
      (d.whoOf x.cid rCUSTODIAN) r piece
    refine ⟨_, exec_plaitLoad .., ?_⟩
    rw [plaitLoad_bad hrun hload hdest hroot hmem hbad]
    exact ⟨h.shown, h.rej, h.state, h.plait, h.load, h.flash, h.reload, h.answered⟩
  case timeout =>
    rintro c d q l ⟨hload, hlast⟩
    refine ⟨_, exec_plaitLoadTimeout .., ?_⟩
    rw [plaitLoadTimeout, hload]
    dsimp only
    rw [if_neg (Nat.not_lt.2 hlast)]
    have hget : Dev.get { d with load := none } Reg.MGMT_PLAIT_STS_STATE = d.get Reg.MGMT_PLAIT_STS_STATE := rfl
    by_cases hst : d.get Reg.MGMT_PLAIT_STS_STATE = 1
    · rw [hget, if_pos hst, if_pos hst]
      exact ⟨rfl, Dev.get_plaitRest _, rfl, RegsOnly.sets { d with load := none } [(Reg.MGMT_PLAIT_STS_STATE, _)]⟩
    · rw [hget, if_neg hst, if_neg hst]
      exact ⟨rfl, rfl, rfl, .refl _ rfl⟩
  case apply =>
    rintro c d q r q' x hreload hplait hidle ⟨hfull, hflash⟩ ⟨hctx, hmute, hposted⟩ hasked hdest
    refine ⟨_, exec_subtreeReloadApply .., ?_⟩
    rw [subtreeReloadApply_idle hreload hidle hfull hflash hdest]
    have hled := d.reloadEntered_kept (stamp := r.stamp) c r
    generalize d.reloadEntered c r = f at hled
    have hafter : f.plaitAfter r.image = if r.image.subtree then mergeSubtree q' r.image else r.image := by
      rw [Dev.plaitAfter, hled.plait, hplait]
    obtain ⟨hplaitg, hstate, hsource, hreloadg, hflashg, hmemg, hctxg⟩ := applyPlait_spec r.stamp 3 r.image f
    generalize applyPlait 3 r.image f = g at *
    obtain ⟨haskedf, hctxf⟩ := hled.ctx hasked
    obtain ⟨haskedg, hctxg⟩ := hctxg haskedf
    have hended : Answered r.stamp x .success 0 0 [] (g.ends r.stamp .success) :=
      Dev.complete_answered ((hctxg.trans hctxf).trans hctx) hmute hposted ..
    have hanswered := (Dev.reloadRelease_settles _).answered hended
    have hframe : (g.ends r.stamp .success).reloadRelease = { g with host := (g.ends r.stamp .success).reloadRelease.host } :=
      ((Dev.complete_settles r.stamp .success 0 0 [] g).trans (Dev.reloadRelease_settles _)).frame
    have hdomains := reloadDomains_loadKept (stamp := r.stamp) c d (g.ends r.stamp .success).reloadRelease
    generalize (g.ends r.stamp .success).reloadRelease = m at *
    generalize reloadDomains c d m = e at *
    have haskedm : m.Unasked r.stamp := by
      rw [hframe]
      exact haskedg
    have hget : ∀ k, m.get k = g.get k := Dev.get_of_regs (by rw [hframe])
    refine ⟨?_, ?_, ?_, ?_, ?_, ?_, (hdomains.ctx haskedm).2.trans hanswered.1, hdomains.posted _ hanswered.2⟩
    · rw [hdomains.reload, hframe]
      exact hreloadg.trans hled.reload
    · rw [hdomains.plait, hframe, ← hafter]
      exact hplaitg
    · rw [hdomains.sts _ rfl (by decide), hget]
      exact hstate
    · rw [hdomains.sts _ rfl (by decide), hget]
      exact hsource
    · rw [hdomains.flash, hframe]
      exact hflashg.trans hled.flash
    · rw [hdomains.mem, hframe]
      exact hmemg.trans hled.mem
  case busy =>
    rintro c d q r x hreload ⟨hbusy, hdue⟩ ⟨hctx, hmute, hposted⟩ hasked
    have h := (Dev.reloadRelease_settles _).rejected
      (plaitReject_rejected (d := { d with reload := none }) hctx hmute hposted hasked c r.who 0x10 r.raw)
    refine ⟨_, exec_reloadQuiesceTimeout .., ?_⟩
    rw [reloadQuiesceTimeout, hreload]
    dsimp only
    rw [if_neg (by simp [hbusy, hdue])]
    exact ⟨h.reload, h.plait, h.flash, h.shown, h.rej, h.answered⟩

end Sys2Proof.Machine
end

section
/-! SUPPORT. What a step can do to the clocks, and the two invariants of time (R49, R51, R55, R66, R415). -/

open Sys2Proof Sys2Proof.Machine

namespace Sys2Proof.Machine

/-! ### Commands and the clocks -/

/-- A command that moves no clock changes the module alone; only an access past the controller memory buffer stops. -/
theorem exec_of_not_movesClock {i : Instr} (h : movesClock i = false) (s : State) :
    exec i s = .fault .cmbOutside ∨ ∃ f, exec i s = .next (s.onDev f) := by
  cases i
  case cmbAccess wr off len data dram =>
    rw [exec, execCmbAccess]
    split
    · exact .inl rfl
    · exact .inr ⟨_, rfl⟩
  case epochBoundary | clockMark | commandFetch | powerOnReset | wakeN | thermalRestart | vinBrownout | vinOvervoltage |
      vinOvervoltageClear | tamper => cases h
  all_goals exact .inr ⟨_, rfl⟩

/-- What a step that does not reset the module can do to the clocks: nothing, let time pass within an epoch, reload the counter of a
deck, take a stamp. -/
inductive ClockMove (c : Clock) : Clock → Prop
  | kept : ClockMove c c
  | passed (k : Nat) (d : Dev) (h : k ≤ epochTicks) : ClockMove c (ticks k c d).1
  | reloaded (n w : Nat) : ClockMove c (c.setCounter n (reloadTo (c.grains n) w * 2 ^ 24))
  | stamped : ClockMove c { c with stamp := c.stamp + 1 }

/-- A reset of the module that takes effect begins every clock again; one that does not leaves them. -/
theorem exec_clk_of_resetsModule {i : Instr} (h : resetsModule i = true) {s t : State} (ht : exec i s = .next t) :
    t.clk = s.clk ∨ t.clk = {} := by
  obtain ⟨f, hf, hclk⟩ : ∃ f, exec i s = .next (s.onBoth f) ∧ ∀ c d, (f c d).1 = c ∨ (f c d).1 = {} := by
    cases i
    case powerOnReset o =>
      refine ⟨powerOnReset o, rfl, fun c d => ?_⟩
      rw [powerOnReset]
      split <;> simp
    case wakeN o =>
      refine ⟨wakeN o, rfl, fun c d => ?_⟩
      rw [wakeN]
      split <;> simp
    case thermalRestart tj o =>
      refine ⟨thermalRestart tj o, rfl, fun c d => ?_⟩
      rw [thermalRestart]
      split <;> simp
    case vinBrownout vin =>
      refine ⟨vinBrownout vin, rfl, fun c d => ?_⟩
      rw [vinBrownout]
      split <;> simp
    case vinOvervoltage vin =>
      refine ⟨vinOvervoltage vin, rfl, fun c d => ?_⟩
      rw [vinOvervoltage]
      split <;> simp
    case vinOvervoltageClear vin o =>
      refine ⟨vinOvervoltageClear vin o, rfl, fun c d => ?_⟩
      rw [vinOvervoltageClear]
      split <;> simp
    case tamper o =>
      refine ⟨tamper o, rfl, fun c d => ?_⟩
      rw [tamper.eq_def]
      split <;> simp
    all_goals cases h
  rw [hf] at ht
  obtain rfl := Host.Outcome.next.inj ht
  exact hclk s.clk s.dev

/-- Every other command moves the clocks in one of four ways. -/
theorem exec_clockMove {i : Instr} (h : resetsModule i = false) {s t : State} (ht : exec i s = .next t) : ClockMove s.clk t.clk := by
  by_cases hm : movesClock i = false
  · rcases exec_of_not_movesClock hm s with hf | ⟨f, hf⟩ <;> rw [hf] at ht <;> cases ht
    exact .kept
  · cases i
    case epochBoundary =>
      obtain rfl := Host.Outcome.next.inj ht
      rw [State.onBoth_clk, epochBoundary_clock]
      exact .passed _ _ (Nat.sub_le ..)
    case clockMark n idx eps =>
      obtain rfl := Host.Outcome.next.inj ht
      rw [State.onBoth_clk]
      split
      · rcases clockMark_clock s.clk n (idx.map Fin.val) (eps.map fun p => (p.1.val, p.2)) (fun c ts d => lateFire c n ts d) s.dev
          with hc | ⟨w, hc⟩
        · rw [hc]
          exact .kept
        · rw [hc]
          exact .reloaded _ _
      · exact .kept
    case commandFetch cid sq hc =>
      obtain rfl := Host.Outcome.next.inj ht
      rw [State.onBoth_clk]
      rcases commandFetch_clock cid sq hc s.clk s.dev with hc | hc
      · rw [hc]
        exact .kept
      · rw [hc]
        exact .stamped
    case powerOnReset | wakeN | thermalRestart | vinBrownout | vinOvervoltage | vinOvervoltageClear | tamper => cases h
    all_goals exact absurd rfl hm

/-- A step that does not reset the module moves the clocks in one of four ways; with no command waiting, time passes. -/
theorem step_clockMove {s t : State} (h : ∀ i ∈ s.pending.head?, resetsModule i = false) (ht : step s = .next t) :
    ClockMove s.clk t.clk := by
  obtain ⟨c, d, q⟩ := s
  cases q with
  | nil =>
    obtain rfl := Host.Outcome.next.inj ht
    rw [State.onBoth_clk, idleTick_clock]
    refine .passed _ _ ?_
    unfold idleTicks epochTicks
    split <;> decide
  | cons i q => exact exec_clockMove (s := ⟨c, d, q⟩) (h i rfl) ht

/-- A step that resets the module begins every clock again, or leaves them. -/
theorem step_clk {s t : State} (ht : step s = .next t) : ClockMove s.clk t.clk ∨ t.clk = {} := by
  by_cases h : ∀ i ∈ s.pending.head?, resetsModule i = false
  · exact .inl (step_clockMove h ht)
  · obtain ⟨c, d, q⟩ := s
    cases q with
    | nil => exact absurd (fun _ hi => nomatch hi) h
    | cons i q =>
      have hi : resetsModule i = true := by
        by_contra hi
        exact h fun j hj => by
          obtain rfl := Option.some.inj hj
          exact Bool.eq_false_iff.2 hi
      refine (exec_clk_of_resetsModule (s := ⟨c, d, q⟩) hi ht).imp (fun hclk => ?_) id
      rw [hclk]
      exact .kept

/-! ### What every move keeps -/

theorem Clock.sound_iff (c : Clock) : c.sound = true ↔ c.tick < 2 ^ 64 ∧ FMap.canon (fun _ => 0) c.ang = true := by
  rw [Clock.sound, Bool.and_eq_true, decide_eq_true_eq]

theorem ClockMove.sound {c c' : Clock} (h : ClockMove c c') (hc : c.sound = true) : c'.sound = true := by
  rw [Clock.sound_iff] at hc ⊢
  obtain ⟨htick, hang⟩ := hc
  cases h with
  | kept => exact ⟨htick, hang⟩
  | passed k d _ =>
    obtain ⟨ht, _, _, ha⟩ := ticks_clock k c d
    exact ⟨ht ▸ Nat.mod_lt _ (by decide), ha hang⟩
  | reloaded n w =>
    rw [Clock.setCounter_tick, Clock.setCounter_ang]
    exact ⟨htick, FMap.canon_set hang _ _⟩
  | stamped => exact ⟨htick, hang⟩

/-- The tick goes on by no more than an epoch (R66). -/
theorem ClockMove.tick {c c' : Clock} (h : ClockMove c c') (hc : c.tick < 2 ^ 64) :
    ∃ k, k ≤ epochTicks ∧ c'.tick = (c.tick + k) % 2 ^ 64 := by
  have hkept : c.tick = (c.tick + 0) % 2 ^ 64 := (Nat.mod_eq_of_lt hc).symm
  cases h with
  | kept => exact ⟨0, Nat.zero_le _, hkept⟩
  | passed k d hk => exact ⟨k, hk, (ticks_clock k c d).1⟩
  | reloaded n w => exact ⟨0, Nat.zero_le _, (Clock.setCounter_tick ..).trans hkept⟩
  | stamped => exact ⟨0, Nat.zero_le _, hkept⟩

/-- A step takes one stamp at most (R415). -/
theorem ClockMove.stamp {c c' : Clock} (h : ClockMove c c') : c'.stamp = c.stamp ∨ c'.stamp = c.stamp + 1 := by
  cases h with
  | kept => exact .inl rfl
  | passed k d _ => exact .inl (ticks_clock k c d).2.1
  | reloaded n w => exact .inl (Clock.setCounter_stamp ..)
  | stamped => exact .inr rfl

/-- No counter goes back: ticks only add to it, and a reload is to the next place of its wedge (R51, R55). -/
theorem ClockMove.grains_le {c c' : Clock} (h : ClockMove c c') (n : Nat) : c.grains n ≤ c'.grains n := by
  cases h with
  | kept => exact le_refl _
  | passed k d _ =>
    obtain ⟨_, _, hcounter, _⟩ := ticks_clock k c d
    rw [Clock.grains, Clock.grains, hcounter n]
    refine Nat.div_le_div_right ?_
    split
    · exact Dev.counter_le_counterTick ..
    · exact le_refl _
  | reloaded m w =>
    by_cases hn : n = m
    · subst hn
      rw [Clock.grains.eq_def (c.setCounter _ _), Clock.counter_setCounter_self, Nat.mul_div_cancel _ (by decide)]
      exact le_reloadTo ..
    · rw [Clock.grains, Clock.grains, Clock.counter_setCounter_ne _ _ hn]
  | stamped => exact le_refl _

/-! ### The statements -/

/-- Settles O4: whatever a step does to the clocks keeps them sound, and a reset begins them at zero. -/
theorem clockStaysSound : Obligations.ClockStaysSound := by
  unfold Obligations.ClockStaysSound
  intro s t hs ht
  rcases step_clk ht with h | h
  · exact h.sound hs
  · rw [h]
    decide

/-- Settles O5: each of the four moves of the clocks goes forward. -/
theorem timeNeverRunsBack : Obligations.TimeNeverRunsBack := by
  unfold Obligations.TimeNeverRunsBack
  intro s t htick hhead ht
  have h := step_clockMove hhead ht
  exact ⟨h.tick htick, h.stamp, h.grains_le⟩

end Sys2Proof.Machine
end

section
/-! SUPPORT. What the steps of a boot leave alone of the module that a reset left, and the statement on reset and boot (R556, R577,
R608, R643, R658 to R662, R696). -/

open Sys2Proof Sys2Proof.Machine

namespace Sys2Proof.Machine

/-! ### Changes within a boot -/

/-- The flags of SEC.STS that a boot decides: the tamper latch and the state of the engine (R653). -/
def secFlags : List Fld := [Reg.SEC_STS_TAMPER, Reg.SEC_STS_STATE]

/-- Flash, jobs, plait, the split of link A and the power state are as they were, and so are the listed flags of SEC.STS; no
controller is new. -/
structure BootKept (gs : List Fld) (d e : Dev) : Prop where
  flash : e.flash = d.flash
  jobs : e.jobs = d.jobs
  plait : e.plait = d.plait
  split : e.host.split = d.host.split
  pwr : e.pwr = d.pwr
  ctrls : d.ctrls = [] → e.ctrls = []
  flags : ∀ g ∈ gs, g ∈ secFlags → e.get g = d.get g

section
variable {gs : List Fld}

theorem BootKept.of_flags {d e : Dev} (h : ∀ g ∈ gs, g ∈ secFlags → e.get g = d.get g) (hflash : e.flash = d.flash := by rfl)
    (hjobs : e.jobs = d.jobs := by rfl) (hplait : e.plait = d.plait := by rfl) (hsplit : e.host.split = d.host.split := by rfl)
    (hpwr : e.pwr = d.pwr := by rfl) (hctrls : e.ctrls = d.ctrls := by rfl) : BootKept gs d e :=
  ⟨hflash, hjobs, hplait, hsplit, hpwr, hctrls.trans, h⟩

/-- A change of other parts of the module alone. -/
theorem BootKept.of_regs {d e : Dev} (hregs : e.regs = d.regs := by rfl) (hflash : e.flash = d.flash := by rfl)
    (hjobs : e.jobs = d.jobs := by rfl) (hplait : e.plait = d.plait := by rfl) (hsplit : e.host.split = d.host.split := by rfl)
    (hpwr : e.pwr = d.pwr := by rfl) (hctrls : e.ctrls = d.ctrls := by rfl) : BootKept gs d e :=
  .of_flags (fun g _ _ => Dev.get_of_regs hregs g) hflash hjobs hplait hsplit hpwr hctrls

theorem BootKept.refl (d : Dev) : BootKept gs d d := .of_regs

theorem BootKept.trans {d e f : Dev} (h : BootKept gs d e) (h' : BootKept gs e f) : BootKept gs d f :=
  ⟨h'.flash.trans h.flash, h'.jobs.trans h.jobs, h'.plait.trans h.plait, h'.split.trans h.split, h'.pwr.trans h.pwr,
    fun hc => h'.ctrls (h.ctrls hc), fun g hg hs => (h'.flags g hg hs).trans (h.flags g hg hs)⟩

theorem BootKept.ite {p : Prop} [Decidable p] {d a b : Dev} (ha : BootKept gs d a) (hb : BootKept gs d b) :
    BootKept gs d (if p then a else b) := by
  split
  · exact ha
  · exact hb

theorem BootKept.foldl {α : Type} {f : Dev → α → Dev} {l : List α} (h : ∀ d, ∀ a ∈ l, BootKept gs d (f d a)) (d : Dev) :
    BootKept gs d (l.foldl f d) := by
  induction l generalizing d with
  | nil => exact .refl d
  | cons a l ih =>
    exact (h d a List.mem_cons_self).trans (ih (fun d b hb => h d b (List.mem_cons_of_mem a hb)) _)

theorem BootKept.eachDeck {f : Nat → Dev → Dev} (h : ∀ n < 16, ∀ d, BootKept gs d (f n d)) (d : Dev) :
    BootKept gs d (d.eachDeck f) :=
  .foldl (fun d n hn => h n (List.mem_range.1 hn) d) d

theorem BootKept.onDeck (d : Dev) (n : Nat) (g : Deck → Deck) : BootKept gs d (d.onDeck n g) := .of_regs

theorem BootKept.of_told {d e : Dev} (h : Told d e) (hctrls : d.ctrls = [] → e.ctrls = []) : BootKept gs d e := by
  refine ⟨?_, ?_, ?_, ?_, ?_, hctrls, fun g _ _ => Dev.get_of_regs ?_ g⟩ <;> rw [h.frame]

theorem BootKept.set_of_key {d : Dev} {f : Fld} (h : ∀ g ∈ gs, g ∈ secFlags → g.key ≠ f.key) (v : Nat) : BootKept gs d (d.set f v) :=
  .of_flags fun g hg hs => Dev.get_set_ne d v (h g hg hs)

/-- The flags stand in the word 0x800000. -/
theorem secFlags_key : ∀ g ∈ secFlags, 0x800000 * 32 ≤ g.key ∧ g.key < 0x800001 * 32 := by decide

/-- A field of a word above SEC.STS. -/
theorem BootKept.set_high (d : Dev) {f : Fld} (hf : 0x800000 < f.off) (v : Nat) : BootKept gs d (d.set f v) := by
  refine .set_of_key (fun g _ hs => ?_) v
  have h := (secFlags_key g hs).2
  unfold Fld.key at *
  omega

/-- A field of a word below it. -/
theorem BootKept.set_low (d : Dev) {f : Fld} (hf : f.key < 0x800000 * 32) (v : Nat) : BootKept gs d (d.set f v) :=
  .set_of_key (fun g _ hs => Nat.ne_of_gt (hf.trans_le (secFlags_key g hs).1)) v

theorem BootKept.sets (d : Dev) {fs : List Fld} (h : ∀ f ∈ fs, ∀ g ∈ gs, g ∈ secFlags → g.key ≠ f.key) {l : List (Fld × Nat)}
    (hfs : l.map Prod.fst = fs := by rfl) : BootKept gs d (d.sets l) := by
  subst hfs
  induction l generalizing d with
  | nil => exact .refl d
  | cons p l ih =>
    rw [List.map_cons, List.forall_mem_cons] at h
    exact (BootKept.set_of_key h.1 p.2).trans (ih _ h.2)

/-- Fields whose keys are none of the flags'. -/
theorem BootKept.sets_off (d : Dev) {fs : List Fld} (h : ∀ f ∈ fs, ∀ g ∈ secFlags, g.key ≠ f.key) {l : List (Fld × Nat)}
    (hfs : l.map Prod.fst = fs := by rfl) : BootKept gs d (d.sets l) := .sets d (fun f hf g _ hs => h f hf g hs) hfs

/-- A field of a deck lies above SEC.STS (R23). -/
theorem deckField_above (n t lo w : Nat) : 0x800000 < (Fld.mk (0x1000000 + n * 0x100000 + t) lo w).off :=
  Nat.lt_add_right _ (Nat.lt_add_right _ (by decide))

theorem laneField_above (n t i lo w : Nat) : 0x800000 < (Fld.mk (0x1000000 + n * 0x100000 + t + i) lo w).off :=
  Nat.lt_add_right _ (deckField_above n t lo w)

/-! ### Fault records and the ledger -/

theorem Dev.armEvents_bootKept (c : Clock) (sev cls : Nat) (d : Dev) : BootKept gs d (d.armEvents c sev cls) := by
  unfold Dev.armEvents
  split
  · extract_lets e f
    have he : Told d e := .mapIf d _ fun _ => by rfl
    have hnone : d.ctrls = [] → f.ctrls = [] := fun h => by
      have hc : e.ctrls = [] := by simp only [e, h, mapIf, List.map_nil]
      simp only [f, Dev.deliver, hc, List.foldl_nil, ite_self]
    have hf : BootKept gs d f := .of_told (he.trans (Dev.deliver_told e)) hnone
    exact .ite (hf.trans .of_regs) hf
  · exact .refl d

theorem Dev.stsAfter_bootKept (r : FaultRec) (d : Dev) : BootKept gs d (d.stsAfter r) := by
  unfold Dev.stsAfter
  extract_lets e f
  have he : BootKept gs d e := .of_regs
  have hf : BootKept gs d f := .ite (he.trans (.set_high e (by decide) 1)) he
  exact .ite (hf.trans (.set_high f (by decide) 1)) hf

theorem Dev.fault_bootKept (c : Clock) (src : Src) (q : Cond) (d : Dev) : BootKept gs d (d.fault c src q) := by
  unfold Dev.fault
  cases h : d.inDeep with
  | true =>
    rw [Dev.record, if_pos h]
    exact .ite .of_regs .of_regs
  | false =>
    rw [Dev.record_awake h]
    exact (Dev.stsAfter_bootKept _ d).trans (Dev.armEvents_bootKept ..)

theorem Dev.ledShow_bootKept (d : Dev) : BootKept gs d d.ledShow :=
  .sets_off d (fs := [Reg.SEC_LEDGER_STS_BUFFERED, Reg.SEC_LEDGER_STS_FULL, Reg.SEC_LEDGER_STS_FIRST_CP, Reg.SEC_LEDGER_SEQ_SEQ_LO])
    (by decide)

theorem Dev.ledEvent_bootKept (c : Clock) (who : Who) (cls result detail object : Nat) (old new : List Byte) (d : Dev) :
    BootKept gs d (d.ledEvent c who cls result detail object old new) :=
  .ite (.refl d) (.trans .of_regs (Dev.ledShow_bootKept _))

/-! ### The security engine -/

theorem Dev.onSec_bootKept (f : Sec → Sec) (d : Dev) : BootKept gs d (d.onSec f) :=
  .trans .of_regs (.sets_off _ (fs := [Reg.SEC_STS_OWNED, Reg.SEC_STS_KIDS, Reg.SEC_STS_SESSIONS]) (by decide))

theorem Dev.refreshSessions_bootKept (d : Dev) : BootKept gs d d.refreshSessions :=
  have hkey : ∀ g ∈ secFlags, g.key ≠ Reg.SEC_STS_SESSIONS.key := by decide
  have hroles : ∀ g : Ctrl → Ctrl, BootKept gs d { d with ctrls := d.ctrls.map g } := fun g =>
    ⟨rfl, rfl, rfl, rfl, rfl, fun h => by rw [h, List.map_nil], fun _ _ _ => rfl⟩
  (hroles _).trans (.set_of_key (fun g _ hs => hkey g hs) _)

/-! ### Lanes and their beams -/

theorem Dev.laneFit_bootKept (n l : Nat) (d : Dev) : BootKept gs d (d.laneFit n l) := by
  have hwake : BootKept gs d (d.laneWake n l) := .ite (.refl d) ((BootKept.onDeck ..).trans (.onDeck ..))
  have hstby : BootKept gs d (d.set (Reg.LANE_STATE_STBY n l) 1) := .set_high d (laneField_above ..) 1
  unfold Dev.laneFit
  exact .ite (.refl d) (.ite (.ite hwake (.refl d)) (.ite (hstby.trans (.onDeck ..)) hstby))

theorem laneTo_bootKept (n l st src : Nat) (d : Dev) : BootKept gs d (laneTo n l st src d) :=
  ((BootKept.set_high d (laneField_above ..) st).trans (.set_high _ (laneField_above ..) src)).trans (Dev.laneFit_bootKept ..)

theorem Dev.gateShow_bootKept (n : Nat) (d : Dev) : BootKept gs d (d.gateShow n) := by
  unfold Dev.gateShow
  extract_lets gone d1 d2 d3
  have h1 : BootKept gs d d1 := by
    unfold d1
    split
    · split
      · exact .onDeck ..
      · exact .refl d
    · exact .refl d
  have h2 : BootKept gs d1 d2 := by
    unfold d2
    split
    · exact .ite (.onDeck ..) (.refl d1)
    · exact .refl d1
  have h3 : BootKept gs d2 d3 := .ite (.onDeck ..) (.refl d2)
  exact (((h1.trans h2).trans h3).trans (.set_high d3 (deckField_above ..) _)).trans (.set_high _ (deckField_above ..) _)

theorem Dev.onDie_bootKept (d : Dev) (i : Nat) (f : Die → Die) : BootKept gs d (d.onDie i f) := by
  have hword : ∀ g ∈ secFlags, g.lo < 32 ∧ g.off % deckSpan ≠ 0x2001C := by decide
  refine .of_flags (fun g _ hs => get_onDie i f d (hword g hs).1 (hword g hs).2) ?_ ?_ ?_ ?_ ?_ ?_ <;> rw [onDie_eq]

theorem beamErase_bootKept (n beam : Nat) (wasOpen : Bool) (d : Dev) : BootKept gs d (beamErase n beam wasOpen d) := by
  have hkill : ∀ e, BootKept gs e (Dev.kill n e) := fun e => (BootKept.onDeck ..).trans (.set_high _ (deckField_above ..) 1)
  exact (((BootKept.set_high d (laneField_above ..) 1).trans (Dev.onDie_bootKept ..)).trans (.onDeck ..)).trans
    ((BootKept.ite (hkill _) (.refl _)).trans (Dev.gateShow_bootKept ..))

theorem laneRetire_bootKept (n l : Nat) (d : Dev) : BootKept gs d (laneRetire n l d) := by
  have hto : BootKept gs d (laneTo n l lRETIRED 127 d) := laneTo_bootKept ..
  unfold laneRetire
  extract_lets was t open' e
  refine .ite hto (hto.trans ?_)
  split
  · exact .ite ((BootKept.set_high _ (laneField_above ..) 1).trans (.onDeck ..)) (beamErase_bootKept ..)
  · exact beamErase_bootKept ..

/-! ### Power domains and fuse rows (R136, R558, R608) -/

theorem lanesFromFuses_bootKept (n : Nat) (retired : List Nat) (d : Dev) : BootKept gs d (lanesFromFuses n retired d) := by
  unfold lanesFromFuses
  refine .trans (.foldl (fun d l _ => .ite (.refl d) (laneRetire_bootKept ..)) d) (.foldl (fun d b _ => ?_) _)
  split
  · split
    · exact (laneTo_bootKept ..).trans (.set_high _ (laneField_above ..) 0)
    · exact .refl d
  · exact .refl d

theorem fuseMark_bootKept (lo hi : Nat) (d : Dev) : BootKept gs d (fuseMark lo hi d) := .foldl (fun _ _ _ => .of_regs) d

theorem fuseLoops_bootKept (die : Nat) (d : Dev) : BootKept gs d (fuseLoops die d) :=
  ((fuseMark_bootKept ..).trans (fuseMark_bootKept ..)).trans
    (.foldl (fun d _ _ => .ite (.set_high d (deckField_above ..) 1) (.refl d)) _)

theorem fuseLanes_bootKept (die : Nat) (d : Dev) : BootKept gs d (fuseLanes die d) :=
  .foldl (fun _ _ _ => (fuseMark_bootKept ..).trans (lanesFromFuses_bootKept ..)) d

theorem fuseDec_bootKept (die : Nat) (d : Dev) : BootKept gs d (fuseDec die d) :=
  ((fuseMark_bootKept ..).trans (fuseMark_bootKept ..)).trans .of_regs

theorem fuseCmp_bootKept (d : Dev) : BootKept gs d (fuseCmp d) := by
  refine (fuseMark_bootKept ..).trans (.foldl (fun d u hu => .set_low d ?_ 3) _)
  have hu : u - 1192 < 36 := tstKind_range.2.2 (by simpa using (List.mem_filter.1 hu).2)
  simp only [Reg.CMP_ENG_STS_STATE, Fld.key]
  omega

theorem fuseFaults_bootKept (c : Clock) (d : Dev) : BootKept gs d (fuseFaults c d) :=
  .foldl (fun d _ _ => .ite (Dev.fault_bootKept ..) (.refl d)) d

theorem domsOn_bootKept (c : Clock) (mask : Nat) (d : Dev) : BootKept gs d (domsOn c mask d) := by
  unfold domsOn
  extract_lets was new d1 d2 d3
  have h1 : BootKept gs d d1 := .set_low d (by decide) _
  have h2 : BootKept gs d1 d2 := by
    refine .foldl (fun d die _ => ?_) d1
    extract_lets e f
    have he : BootKept gs d e := .ite (fuseLoops_bootKept ..) (.refl d)
    have hf : BootKept gs e f := .ite (fuseLanes_bootKept ..) (.refl e)
    exact (he.trans hf).trans (.ite (fuseDec_bootKept ..) (.refl f))
  have h3 : BootKept gs d2 d3 := .ite (fuseCmp_bootKept d2) (.refl d2)
  exact ((h1.trans h2).trans h3).trans (.ite (fuseFaults_bootKept ..) (.refl d3))

theorem domsOff_bootKept (l : List Nat) (d : Dev) : BootKept gs d (domsOff l d) := .set_low d (by decide) _

/-! ### What firmware writes (R572, R605, R658) -/

theorem oppDefaults_bootKept (v : Nat) (d : Dev) : BootKept gs d (oppDefaults v d) := by
  refine .foldl (fun d j hj => ?_) d
  have hj : j < 7 := List.mem_range.1 hj
  have hset : ∀ (d : Dev) (lo w v : Nat), lo < 32 → BootKept gs d (d.set ⟨0x100100 + j * 0x4, lo, w⟩ v) := fun d lo w v hlo =>
    .set_low d (by simp only [Fld.key]; omega) v
  exact (((hset d 2 2 _ (by decide)).trans (hset _ 0 2 _ (by decide))).trans (hset _ 10 2 _ (by decide))).trans
    (hset _ 8 2 _ (by decide))

theorem powerFields_bootKept (p : Plait) (d : Dev) : BootKept gs d (powerFields p d) :=
  .trans (.trans (.set_low d (f := Reg.PWR_SPIN_BUDGET_SPINUP_W) (by decide) _) .of_regs)
    (.eachDeck (fun n _ d => .trans (.set_high d (deckField_above ..) _) .of_regs) _)

theorem blkRequest_bootKept (c : Clock) (who : Who) (d : Dev) : BootKept gs d (blkRequest c who 0xA00000 d) :=
  .ite (.set_high d (by decide) 1) (.trans .of_regs (.set_high _ (by decide) 1))

theorem servoOffsets_bootKept (c : Clock) {n : Nat} (hn : n < 16) (svo shunt : List Int) (d : Dev) :
    BootKept gs d (servoOffsets c n svo shunt d) := by
  unfold servoOffsets
  extract_lets one e
  have hone : ∀ (d : Dev) (i : Nat) (sum : Int) (f : Fld), f.key < 0x800000 * 32 → BootKept gs d (one d i sum f) := by
    intro d i sum f hf
    unfold one
    extract_lets o g
    have hg : BootKept gs d g := .set_low d hf _
    exact .ite (hg.trans (Dev.fault_bootKept ..)) hg
  refine .trans (e := e) (.foldl (fun d p hp => hone _ _ _ _ ?_) d) (.foldl (fun d p hp => hone _ _ _ _ ?_) e)
  · have hi : p.2 < 8 := List.mem_range.1 (List.of_mem_zip hp).2
    simp only [Reg.TST_SVO_OFS_OFS, Fld.key]
    omega
  · have hi : p.2 < 3 := List.mem_range.1 (List.of_mem_zip hp).2
    simp only [Reg.TST_SHUNT_OFS_OFS, Fld.key]
    omega

theorem memTrain_bootKept (d : Dev) : BootKept gs d (memTrain d) :=
  .ite (.sets_off d (fs := [Reg.MEM_CTL_TRAIN, Reg.MEM_STS_STATE]) (by decide)) (.refl d)

theorem stage_bootKept (k : Nat) (d : Dev) : BootKept gs d (stage k d) := .set_low d (by decide) k

theorem bootFail_bootKept (k : Nat) (d : Dev) : BootKept gs d (bootFail k d) := .set_low d (by decide) k

theorem perstRelease_bootKept (links : Nat) (d : Dev) : BootKept gs d (perstRelease links d) := by
  unfold perstRelease
  exact .ite .of_regs .of_regs

end

end Sys2Proof.Machine
end

section
/-! SUPPORT. The module that a reset leaves, the cold boot, and the statement on reset and boot (R556, R643, R658 to R662, R695, R696). -/

open Sys2Proof Sys2Proof.Machine

namespace Sys2Proof.Machine

/-! ### What a reset leaves (R556) -/

/-- The registers a module reset shows anew: those of the security engine, the ledger and self-test. -/
def resetShown : List Fld :=
  [Reg.SEC_STS_OWNED, Reg.SEC_STS_KIDS, Reg.SEC_STS_SESSIONS, Reg.SEC_LEDGER_STS_BUFFERED, Reg.SEC_LEDGER_STS_FULL,
    Reg.SEC_LEDGER_STS_FIRST_CP, Reg.SEC_LEDGER_SEQ_SEQ_LO, Reg.TST_STS_IN_TEST, Reg.TST_STS_ROWS_USED, Reg.TST_STS_FULL]

/-- After a reset that keeps no wake cause every other register has its reset value. -/
theorem moduleReset_regs (d : Dev) {k : Nat} (hk : k ∉ resetShown.map Fld.key) :
    FMap.get resetOf (moduleReset 0 d).regs k = resetOf k := by
  unfold moduleReset
  extract_lets kept dirty blank e1 e2
  have hblank : e2.regs = [] := rfl
  generalize e2 = e at hblank
  have hsec : RegsOnly resetShown e e.secShow :=
    (RegsOnly.sets e [(Reg.SEC_STS_OWNED, _), (Reg.SEC_STS_KIDS, _), (Reg.SEC_STS_SESSIONS, _)] (fs := resetShown.take 3)).mono (by decide)
  have hled : RegsOnly resetShown e.secShow e.secShow.ledShow :=
    (RegsOnly.sets _ [(Reg.SEC_LEDGER_STS_BUFFERED, _), (Reg.SEC_LEDGER_STS_FULL, _), (Reg.SEC_LEDGER_STS_FIRST_CP, _),
      (Reg.SEC_LEDGER_SEQ_SEQ_LO, _)] (fs := (resetShown.drop 3).take 4)).mono (by decide)
  have htst : RegsOnly resetShown e.secShow.ledShow (tstShow e.secShow.ledShow) :=
    (tstShow_regsOnly _).mono (by decide)
  rw [((hsec.trans hled).trans htst) k hk, hblank]
  rfl

/-- The rest of the module that a reset leaves. -/
structure Cleared (d e : Dev) : Prop where
  flash : e.flash = d.flash
  custodians : e.sec.custodians = d.sec.custodians
  svnFw : e.sec.svnFw = d.sec.svnFw
  keks : e.sec.keks = []
  sessions : e.sec.sessions = []
  rows : e.tst.rows = d.tst.rows
  decks : e.decks = []
  ctrls : e.ctrls = []
  plait : e.plait = none
  mem : e.mem = {}
  flt : e.flt = {}
  host : e.host = {}
  jobs : e.jobs = []
  mode : e.pwr.mode = .reset

theorem moduleReset_cleared (d : Dev) : Cleared d (moduleReset 0 d) := by
  constructor <;> simp [moduleReset, tstShow, Dev.ledShow, Dev.secShow]

/-- The module held in reset while the converter is stopped. -/
def Dev.overvolted (d : Dev) : Dev := { d with pwr := { d.pwr with mode := .overvolt } }

theorem Cleared.overvolted {d e : Dev} (h : Cleared d e) :
    e.overvolted.pwr.mode = .overvolt ∧ e.overvolted.flash = d.flash ∧ e.overvolted.decks = [] ∧ e.overvolted.plait = none ∧
      e.overvolted.mem = {} :=
  ⟨rfl, h.flash, h.decks, h.plait, h.mem⟩

theorem vinOvervoltage_of_le {vin : Nat} (h : 3200 ≤ vin) (c : Clock) (d : Dev) :
    vinOvervoltage vin c d = ({}, (moduleReset 0 d).overvolted) := by
  rw [vinOvervoltage, if_neg (Nat.not_lt.2 h)]
  rfl

/-! ### The cold boot (R658, R662) -/

/-- The module as a boot begins. -/
def Dev.booting (split : Bool) (d : Dev) : Dev :=
  { d with host := { d.host with split := split }, pwr := { d.pwr with mode := .boot } }

/-- Steps of the boot before the fuses are read: the first domains, the links, a tamper loop that is open. -/
def bootPrelude (c : Clock) (b : BootObs) (d : Dev) : Dev :=
  let d := stage 1 (domsOn c (maskOf [0, 1, 2, 4, 10]) (d.booting b.split))
  let d := if b.perst then perstRelease b.links d else d
  if b.tamperOpen then tamperAct c (if b.fromOff then 7 else 0) d else d

/-- What a boot has left of the module it began with, and shown. -/
structure Booted (b : BootObs) (d e : Dev) : Prop where
  mode : e.pwr.mode = .boot ∨ e.pwr.mode = .halt ∨ e.pwr.mode = .recovery
  flash : e.flash = d.flash
  jobs : e.jobs = d.jobs
  plait : e.plait = d.plait
  split : e.host.split = b.split
  tamper : b.tamperOpen = true → e.get Reg.SEC_STS_TAMPER = 1

theorem BootKept.flag {f : Fld} {d e : Dev} (h : BootKept [f] d e) (hf : f ∈ secFlags := by decide) : e.get f = d.get f :=
  h.flags f List.mem_cons_self hf

theorem Booted.kept {b : BootObs} {d e f : Dev} (h : Booted b d e) (h' : BootKept [Reg.SEC_STS_TAMPER] e f) : Booted b d f :=
  ⟨h'.pwr ▸ h.mode, h'.flash.trans h.flash, h'.jobs.trans h.jobs, h'.plait.trans h.plait, h'.split.trans h.split,
    fun ht => h'.flag.trans (h.tamper ht)⟩

/-- A boot that comes to an end in another mode. -/
theorem Booted.toMode {b : BootObs} {d e : Dev} (h : Booted b d e) {m : PMode} (hm : m = .halt ∨ m = .recovery) (l : List Ctrl) :
    Booted b d { e with pwr := { e.pwr with mode := m }, ctrls := l } :=
  ⟨.inr hm, h.flash, h.jobs, h.plait, h.split, h.tamper⟩

/-- The module has no plait and no controller. -/
def Alone (d : Dev) : Prop := d.plait = none ∧ d.ctrls = []

theorem BootKept.alone {gs : List Fld} {d e : Dev} (h : BootKept gs d e) (hd : Alone d) : Alone e :=
  ⟨h.plait.trans hd.1, h.ctrls hd.2⟩

/-- Then no namespace and no connection is lost. -/
theorem nsLose_alone {d : Dev} (h : Alone d) (p : BindRec → Bool) : nsLose (d.nsWhere p) (tlsGone d.refreshSessions) = d.refreshSessions := by
  have hns : d.nsWhere p = [] := by rw [Dev.nsWhere, h.1]
  have htls : tlsGone d.refreshSessions = d.refreshSessions := by
    rw [tlsGone, Dev.refreshSessions, Dev.set_ctrls, h.2]
    rfl
  rw [hns, htls]
  rfl

theorem secWipe_bootKept {gs : List Fld} {d : Dev} (h : Alone d) : BootKept gs d (secWipe d) := by
  have hsec := Dev.onSec_bootKept (gs := gs) (fun s => { s with keks := [], dataKeys := [], sessions := [] }) d
  rw [secWipe, nsLose_alone (hsec.alone h)]
  exact hsec.trans (Dev.refreshSessions_bootKept _)

/-- A tamper loop found open is latched (R643). -/
theorem tamperAct_latches {d e : Dev} (h : BootKept [] d e) (ha : Alone e) (c : Clock) (state : Nat) :
    BootKept [] d (tamperAct c state e) ∧ (tamperAct c state e).get Reg.SEC_STS_TAMPER = 1 := by
  have hopen : BootKept [] e { e with sec := { e.sec with tamperOpen := true } } := .of_regs
  have hwipe := (hopen.trans (secWipe_bootKept (hopen.alone ha))).trans (Dev.onSec_bootKept (fun s => { s with psks := [] }) _)
  unfold tamperAct
  dsimp only
  generalize (secWipe _).onSec _ = f at hwipe
  have hset : BootKept [] f (f.set Reg.SEC_STS_TAMPER 1) := .of_flags (fun g hg => nomatch hg)
  have hlatch : (f.set Reg.SEC_STS_TAMPER 1).get Reg.SEC_STS_TAMPER = 1 := Dev.get_set_self ..
  generalize f.set Reg.SEC_STS_TAMPER 1 = g at hset hlatch
  have hend : ∀ {gs}, BootKept gs g _ := (Dev.fault_bootKept c .device
    { cls := 9, code := 1, sev := 3, detail := [BitVec.ofNat 8 state], latched := true } g).trans
    (Dev.ledEvent_bootKept c {} 12 2 0 1 zeros48 zeros48 _)
  exact ⟨((h.trans hwipe).trans hset).trans hend, hend.flag.trans hlatch⟩

theorem bootPrelude_booted (c : Clock) (b : BootObs) {d : Dev} (h : Alone d) :
    Booted b d (bootPrelude c b d) ∧ Alone (bootPrelude c b d) := by
  unfold bootPrelude
  extract_lets d0 d1
  have h0 : BootKept [] (d.booting b.split) d0 :=
    (domsOn_bootKept ..).trans (stage_bootKept 1 _)
  have h1 : BootKept [] _ d1 := h0.trans (.ite (perstRelease_bootKept ..) (.refl d0))
  have ha : Alone d1 := h1.alone h
  have hbooted : ∀ e, BootKept [] (d.booting b.split) e →
      (b.tamperOpen = true → e.get Reg.SEC_STS_TAMPER = 1) → Booted b d e := fun e he ht =>
    ⟨.inl (congrArg PwrSt.mode he.pwr), he.flash, he.jobs, he.plait, he.split, ht⟩
  split
  · obtain ⟨hk, ht⟩ := tamperAct_latches h1 ha c (if b.fromOff then 7 else 0)
    exact ⟨hbooted _ hk fun _ => ht, hk.alone h⟩
  · rename_i hopen
    exact ⟨hbooted _ h1 fun ht => absurd ht hopen, ha⟩

/-- A boot that halts shows where it failed (R662). -/
theorem bootHalt_booted {b : BootObs} {d e : Dev} (h : Booted b d e) {k : Nat} (hk : k < 16) :
    Booted b d (bootHalt k e) ∧ (bootHalt k e).pwr.mode = .halt ∧ (bootHalt k e).get Reg.MGMT_BOOT_STS_FAIL = k ∧
      (bootHalt k e).get Reg.MGMT_BOOT_STS_STAGE = 11 ∧ (bootHalt k e).get Reg.SEC_STS_STATE = e.get Reg.SEC_STS_STATE := by
  have hstage : ∀ {gs}, BootKept gs e (stage 11 (bootFail k e)) := (bootFail_bootKept k e).trans (stage_bootKept 11 _)
  refine ⟨(h.kept hstage).toMode (.inl rfl) _, rfl, ?_, ?_, hstage.flag⟩
  · change (stage 11 (bootFail k e)).get _ = k
    rw [stage, Dev.get_set_ne _ _ (by decide), bootFail, Dev.get_set_self]
    exact Nat.mod_eq_of_lt hk
  · change (stage 11 (bootFail k e)).get _ = 11
    exact Dev.get_set_self ..

/-- A known-answer test that fails leaves the engine in ERROR (R641). -/
theorem secError_booted {d : Dev} (h : Alone d) (c : Clock) (i : Nat) :
    BootKept [Reg.SEC_STS_TAMPER] d (secError c i d) ∧ (secError c i d).get Reg.SEC_STS_STATE = 3 := by
  unfold secError
  dsimp only
  have hset : BootKept [Reg.SEC_STS_TAMPER] d (d.sets [(Reg.SEC_STS_STATE, 3), (Reg.SEC_STS_KAT_FAIL, 1)]) :=
    .sets d (fs := [Reg.SEC_STS_STATE, Reg.SEC_STS_KAT_FAIL]) (by decide)
  have hstate : (d.sets [(Reg.SEC_STS_STATE, 3), (Reg.SEC_STS_KAT_FAIL, 1)]).get Reg.SEC_STS_STATE = 3 :=
    Dev.get_sets_of_mem d (fs := [Reg.SEC_STS_STATE, Reg.SEC_STS_KAT_FAIL]) (by decide) (v := 3) (by decide)
  generalize d.sets [(Reg.SEC_STS_STATE, 3), (Reg.SEC_STS_KAT_FAIL, 1)] = e at hset hstate
  have hrec : ∀ {gs}, BootKept gs e _ := ((Dev.fault_bootKept c .device
    { cls := 9, code := 2, sev := 3, detail := [BitVec.ofNat 8 i] } e).trans
    (Dev.ledEvent_bootKept c {} 12 2 0 3 zeros48 zeros48 _)).trans (Dev.onSec_bootKept (fun s => { s with sessions := [] }) _)
  rw [nsLose_alone ((hset.trans hrec).alone h)]
  have hend : ∀ {gs}, BootKept gs e _ := hrec.trans (Dev.refreshSessions_bootKept _)
  exact ⟨hset.trans hend, hend.flag.trans hstate⟩

/-- Firmware brings the boot to DRAM training (R658, R680). -/
theorem bootFirmware_booted {b : BootObs} {d e : Dev} (h : Booted b d e) (c : Clock) (slot : Nat) (fallback : Bool) :
    Booted b d (bootFirmware c b slot fallback e) := by
  unfold bootFirmware
  extract_lets host d1 d2 dlost d3 d4 found digest d5 mask d6 d7 host' d8 d9 d10 d11 d12
  have h1 : Booted b d d1 := h.kept .of_regs
  have h2 : Booted b d d2 := (h1.kept (.sets d1 (fs := [Reg.MGMT_BOOT_STS_FW_SLOT, Reg.MGMT_BOOT_STS_FW_FALLBACK,
    Reg.SEC_STS_STATE]) (by decide))).kept (stage_bootKept 4 _)
  have h3 : Booted b d d3 := h2.kept (.ite (.refl d2) (((Dev.onSec_bootKept ..).trans
    (.set_low dlost (f := Reg.MGMT_BOOT_STS_STORE_LOST) (by decide) 1)).trans (Dev.ledEvent_bootKept ..)))
  have h4 : Booted b d d4 := ⟨h3.mode, h3.flash, h3.jobs, h3.plait, h3.split, h3.tamper⟩
  have h5 : Booted b d d5 := h4.kept (Dev.ledEvent_bootKept ..)
  have h6 : Booted b d d6 := h5.kept (stage_bootKept 5 _)
  have h7 : Booted b d d7 := h6.kept ((domsOn_bootKept ..).trans (domsOff_bootKept ..))
  have h8 : Booted b d d8 := h7.kept (.ite (.refl d7) .of_regs)
  have h9 : Booted b d d9 := by
    refine h8.kept ?_
    unfold d9
    generalize found = f
    cases f with
    | some p => exact (oppDefaults_bootKept ..).trans (powerFields_bootKept ..)
    | none => exact .refl d8
  have h10 : Booted b d d10 := h9.kept .of_regs
  have h11 : Booted b d d11 :=
    h10.kept ((blkRequest_bootKept ..).trans (.set_low _ (f := Reg.PWR_PAD_LATCH_LATCHED) (by decide) 0))
  have h12 : Booted b d d12 := h11.kept (.eachDeck (fun n hn d => .ite (servoOffsets_bootKept _ hn ..) (.refl d)) d11)
  exact h12.kept ((memTrain_bootKept _).trans (stage_bootKept 6 _))

/-! ### The ways a cold boot takes -/

section
variable {b : BootObs} {c : Clock} {d : Dev}

theorem coldBoot_fuses (h : b.fuseOk = false) : coldBoot c b d = bootHalt 1 (bootPrelude c b d) := by
  rw [coldBoot, h]
  rfl

/-- The engine runs its tests. -/
def bootTests (c : Clock) (b : BootObs) (d : Dev) : Dev := stage 2 ((bootPrelude c b d).set Reg.SEC_STS_STATE 1)

theorem coldBoot_tests (h : b.fuseOk = true) {i : Nat} (hk : b.kat = some i) :
    coldBoot c b d = bootHalt 2 (secError c i (bootTests c b d)) := by
  rw [coldBoot, h, hk]
  rfl

/-- The firmware slot a boot takes, where the flash answers. -/
def bootSlot (b : BootObs) (d : Dev) : Option (Nat × Bool) := if b.flashOk then fwChoose d else none

/-- ROM recovery: no firmware image can be run. -/
def bootRecovery (d : Dev) : Dev :=
  let d := stage 10 (bootFail 3 (d.set Reg.SEC_STS_STATE 2))
  { d with pwr := { d.pwr with mode := .recovery }, ctrls := endpoints }

theorem coldBoot_recovery (h : b.fuseOk = true) (hk : b.kat = none) (hs : bootSlot b (stage 3 (bootTests c b d)) = none) :
    coldBoot c b d = bootRecovery (stage 3 (bootTests c b d)) := by
  rw [coldBoot, h, hk]
  change (match bootSlot b (stage 3 (bootTests c b d)) with
    | none => bootRecovery (stage 3 (bootTests c b d))
    | some f => bootFirmware c b f.1 f.2 (stage 3 (bootTests c b d))) = _
  rw [hs]

theorem coldBoot_firmware (h : b.fuseOk = true) (hk : b.kat = none) {f : Nat × Bool}
    (hs : bootSlot b (stage 3 (bootTests c b d)) = some f) :
    coldBoot c b d = bootFirmware c b f.1 f.2 (stage 3 (bootTests c b d)) := by
  rw [coldBoot, h, hk]
  change (match bootSlot b (stage 3 (bootTests c b d)) with
    | none => bootRecovery (stage 3 (bootTests c b d))
    | some f => bootFirmware c b f.1 f.2 (stage 3 (bootTests c b d))) = _
  rw [hs]

theorem bootTests_booted (h : Alone d) : Booted b d (bootTests c b d) ∧ Alone (bootTests c b d) := by
  obtain ⟨hp, ha⟩ := bootPrelude_booted c b h
  have hk : BootKept [Reg.SEC_STS_TAMPER] (bootPrelude c b d) (bootTests c b d) :=
    .trans (.set_of_key (f := Reg.SEC_STS_STATE) (by decide) 1) (stage_bootKept 2 _)
  exact ⟨hp.kept hk, hk.alone ha⟩

/-- ROM recovery is shown (R662). -/
theorem bootRecovery_booted {e : Dev} (h : Booted b d e) :
    Booted b d (bootRecovery e) ∧ (bootRecovery e).pwr.mode = .recovery ∧ (bootRecovery e).get Reg.MGMT_BOOT_STS_FAIL = 3 ∧
      (bootRecovery e).get Reg.MGMT_BOOT_STS_STAGE = 10 := by
  have hk : BootKept [Reg.SEC_STS_TAMPER] e (stage 10 (bootFail 3 (e.set Reg.SEC_STS_STATE 2))) :=
    (BootKept.trans (.set_of_key (f := Reg.SEC_STS_STATE) (by decide) 2) (bootFail_bootKept 3 _)).trans (stage_bootKept 10 _)
  refine ⟨(h.kept hk).toMode (.inr rfl) _, rfl, ?_, ?_⟩
  · change (stage 10 (bootFail 3 (e.set Reg.SEC_STS_STATE 2))).get _ = 3
    rw [stage, Dev.get_set_ne _ _ (by decide), bootFail]
    exact Dev.get_set_self ..
  · change (stage 10 (bootFail 3 (e.set Reg.SEC_STS_STATE 2))).get _ = 10
    exact Dev.get_set_self ..

/-- However a cold boot goes on, it leaves flash alone, and the module without jobs and plait. -/
theorem coldBoot_booted (h : Alone d) : Booted b d (coldBoot c b d) := by
  obtain ⟨hp, hpa⟩ := bootPrelude_booted c b h
  obtain ⟨ht, hta⟩ := bootTests_booted (b := b) (c := c) h
  have hload : Booted b d (stage 3 (bootTests c b d)) := ht.kept (stage_bootKept 3 _)
  cases hf : b.fuseOk with
  | false =>
    rw [coldBoot_fuses hf]
    exact (bootHalt_booted hp (by decide)).1
  | true =>
    cases hk : b.kat with
    | some i =>
      rw [coldBoot_tests hf hk]
      exact (bootHalt_booted (ht.kept (secError_booted hta c i).1) (by decide)).1
    | none =>
      cases hs : bootSlot b (stage 3 (bootTests c b d)) with
      | none =>
        rw [coldBoot_recovery hf hk hs]
        exact (bootRecovery_booted hload).1
      | some f =>
        rw [coldBoot_firmware hf hk hs]
        exact bootFirmware_booted hload ..

end

theorem moduleReset_alone (d : Dev) : Alone (moduleReset 0 d) := ⟨(moduleReset_cleared d).plait, (moduleReset_cleared d).ctrls⟩

/-! ### The rows as changes of clocks and module -/

section
variable (c : Clock) (d : Dev) (q : List Instr)

theorem exec_vinBrownout (vin : Nat) :
    exec (.vinBrownout vin) ⟨c, d, q⟩ = .next ⟨(vinBrownout vin c d).1, (vinBrownout vin c d).2, q⟩ := rfl

theorem exec_vinOvervoltage (vin : Nat) :
    exec (.vinOvervoltage vin) ⟨c, d, q⟩ = .next ⟨(vinOvervoltage vin c d).1, (vinOvervoltage vin c d).2, q⟩ := rfl

theorem exec_vinOvervoltageClear (vin : Nat) (o : BootObs) :
    exec (.vinOvervoltageClear vin o) ⟨c, d, q⟩ =
      .next ⟨(vinOvervoltageClear vin o c d).1, (vinOvervoltageClear vin o c d).2, q⟩ := rfl

theorem exec_powerOnReset (o : BootObs) :
    exec (.powerOnReset o) ⟨c, d, q⟩ = .next ⟨(powerOnReset o c d).1, (powerOnReset o c d).2, q⟩ := rfl

theorem exec_bootReady (fails : List (Nat × Nat)) : exec (.bootReady fails) ⟨c, d, q⟩ = .next ⟨c, bootReady c fails d, q⟩ := rfl

theorem exec_boundaryScanInstruction (i : Fin 8) :
    exec (.boundaryScanInstruction i) ⟨c, d, q⟩ = .next ⟨c, boundaryScan i d, q⟩ := rfl

end

/-- What BOOT_READY writes where the DRAM cannot be used. -/
def minimalReady (c : Clock) : List (Fld × Nat) :=
  [(Reg.MGMT_PLAIT_STS_STATE, 4), (Reg.MGMT_BOOT_TIME_READY_MS, min 65535 (c.tick / 1000000)), (Reg.MGMT_BOOT_STS_STAGE, 9),
    (Reg.PWR_STATE_STS_STATE, 0)]

/-- The minimal structure takes effect (R658, R662). -/
theorem bootReady_minimal {c : Clock} {d : Dev} (hmode : d.pwr.mode = .boot) (hstage : d.get Reg.MGMT_BOOT_STS_STAGE = 8)
    (hfail : d.get Reg.MGMT_BOOT_STS_FAIL = 4) :
    bootReady c [] d = { d.sets (minimalReady c) with
      ctrls := mapIf (fun k => decide (k.kind ≤ 1) && k.enabled) (fun k => { k with ready := true }) d.ctrls,
      tst := { d.tst with initial := some c.tick }, pwr := { d.pwr with mode := .run } } := by
  rw [bootReady, if_neg (by simp [hmode, hstage]), List.foldl_nil]
  dsimp only
  rw [if_pos hfail]
  rfl

/-- Settles O56: a reset clears the module but for what flash and fuses hold, and a boot goes on as far as fuses, tests and flash
let it. -/
theorem resetAndBoot : Obligations.ResetAndBoot := by
  unfold Obligations.ResetAndBoot
  refine ⟨?brownout, ?nominal, ?overvoltage, ?clear, ?powerOn, ?ready, ?scan⟩
  case brownout =>
    intro c d q vin hvin
    refine ⟨_, _, exec_vinBrownout .., ?_⟩
    rw [vinBrownout, if_pos hvin]
    have h := moduleReset_cleared d
    exact ⟨rfl, h.mode, h.flash, h.custodians, h.svnFw, h.keks, h.sessions, h.rows, h.decks, h.ctrls, h.plait, h.mem, h.flt, h.host,
      h.jobs, fun k hk => moduleReset_regs d hk⟩
  case nominal =>
    intro c d q vin hvin
    refine ⟨_, _, exec_vinBrownout .., ?_⟩
    rw [vinBrownout, if_neg (Nat.not_lt.2 hvin)]
    exact ⟨rfl, rfl⟩
  case overvoltage =>
    intro c d q vin hvin
    refine ⟨_, _, exec_vinOvervoltage .., ?_⟩
    rw [vinOvervoltage_of_le hvin]
    exact ⟨rfl, (moduleReset_cleared d).overvolted⟩
  case clear =>
    intro c d q vin o hclear
    refine ⟨_, _, exec_vinOvervoltageClear .., ?_⟩
    rw [vinOvervoltageClear, if_pos hclear]
    have h := moduleReset_cleared d
    have hboot : Booted o (moduleReset 0 d) (coldBoot {} o (moduleReset 0 d)) := coldBoot_booted (moduleReset_alone d)
    exact ⟨rfl, hboot.mode, hboot.flash.trans h.flash, hboot.jobs.trans h.jobs, hboot.plait.trans h.plait⟩
  case powerOn =>
    intro c d q o hmode
    refine ⟨_, _, exec_powerOnReset .., ?_⟩
    rw [powerOnReset, if_pos hmode]
    have h := moduleReset_cleared d
    have halone := moduleReset_alone d
    have hboot : Booted o (moduleReset 0 d) (coldBoot {} o (moduleReset 0 d)) := coldBoot_booted halone
    refine ⟨rfl, hboot.mode, fun hf => ?_, fun hf hk => ?_, fun hf hk hflash => ?_, hboot.flash.trans h.flash, hboot.split,
      hboot.plait.trans h.plait, hboot.tamper⟩
    · obtain ⟨_, hm, hfail, hstage, _⟩ := bootHalt_booted (bootPrelude_booted {} o halone).1 (k := 1) (by decide)
      rw [coldBoot_fuses hf]
      exact ⟨hm, hfail, hstage⟩
    · obtain ⟨i, hi⟩ := Option.ne_none_iff_exists'.1 hk
      obtain ⟨ht, hta⟩ := bootTests_booted (b := o) (c := {}) halone
      obtain ⟨herr, hstate⟩ := secError_booted hta {} i
      obtain ⟨_, hm, hfail, _, hsec⟩ := bootHalt_booted (ht.kept herr) (k := 2) (by decide)
      rw [coldBoot_tests hf hi]
      exact ⟨hm, hfail, hsec.trans hstate⟩
    · have hslot : bootSlot o (stage 3 (bootTests {} o (moduleReset 0 d))) = none := by
        rw [bootSlot, hflash]
        rfl
      obtain ⟨_, hm, hfail, hstage⟩ := bootRecovery_booted ((bootTests_booted (b := o) (c := {}) halone).1.kept (stage_bootKept 3 _))
      rw [coldBoot_recovery hf hk hslot]
      exact ⟨hm, hfail, hstage⟩
  case ready =>
    rintro c d q ⟨hmode, hstage, hfail⟩
    refine ⟨_, exec_bootReady .., ?_⟩
    rw [bootReady_minimal hmode hstage hfail]
    have hkeys : ([Reg.MGMT_PLAIT_STS_STATE, Reg.MGMT_BOOT_TIME_READY_MS, Reg.MGMT_BOOT_STS_STAGE, Reg.PWR_STATE_STS_STATE].map
      Fld.key).Nodup := by decide
    have hget : ∀ p ∈ minimalReady c, (d.sets (minimalReady c)).get p.1 = p.2 % 2 ^ p.1.w := fun p hp => d.get_sets_of_mem hkeys hp
    refine ⟨rfl, hget (Reg.PWR_STATE_STS_STATE, 0) (by simp [minimalReady]), hget (Reg.MGMT_BOOT_STS_STAGE, 9) (by simp [minimalReady]),
      hget (Reg.MGMT_PLAIT_STS_STATE, 4) (by simp [minimalReady]), ?_, rfl, rfl, ?_, ?_⟩
    · refine (hget (Reg.MGMT_BOOT_TIME_READY_MS, _) (by simp [minimalReady])).trans (Nat.mod_eq_of_lt ?_)
      exact Nat.lt_of_le_of_lt (Nat.min_le_left ..) (by decide : 65535 < 2 ^ 16)
    · rw [Dev.sets_eq]
    · exact (RegsOnly.sets d (minimalReady c) (fs := [Reg.MGMT_PLAIT_STS_STATE, Reg.MGMT_BOOT_TIME_READY_MS,
        Reg.MGMT_BOOT_STS_STAGE, Reg.PWR_STATE_STS_STATE])).mono (by decide)
  case scan =>
    intro c d q i
    exact ⟨_, exec_boundaryScanInstruction .., rfl, rfl, rfl⟩

end Sys2Proof.Machine
end

section
/-! SUPPORT. Writes of the angle trigger registers and a firing with nothing waiting on it (R57 to R60, R74 to R76). -/

open Sys2Proof Sys2Proof.Machine

namespace Sys2Proof.Machine

/-! ### The fields of a trigger -/

/-- The status fields of a trigger, in the order in which a write clears them. -/
def trigStatus (n t : Nat) : List Fld :=
  [Reg.ANG_TRIG_CFG_FIRED n t, Reg.ANG_TRIG_CFG_LATE n t, Reg.ANG_TRIG_CFG_MISSED n t, Reg.ANG_TRIG_CFG_ERR n t]

/-- The configuration fields of a trigger, in the order in which a write sets them. -/
def trigConfig (n t : Nat) : List Fld :=
  [Reg.ANG_TRIG_CFG_ARM n t, Reg.ANG_TRIG_CFG_IRQ_EN n t, Reg.ANG_TRIG_CFG_LATE_FIRE n t, Reg.ANG_TRIG_CFG_REQ_LOCK n t,
    Reg.ANG_TRIG_CFG_MODE n t]

theorem trigStatus_nodup (n t : Nat) : ((trigStatus n t).map Fld.key).Nodup := by
  simp [trigStatus, Fld.key, Reg.ANG_TRIG_CFG_FIRED, Reg.ANG_TRIG_CFG_LATE, Reg.ANG_TRIG_CFG_MISSED, Reg.ANG_TRIG_CFG_ERR]

theorem trigConfig_nodup (n t : Nat) : ((trigConfig n t).map Fld.key).Nodup := by
  simp [trigConfig, Fld.key, Reg.ANG_TRIG_CFG_ARM, Reg.ANG_TRIG_CFG_IRQ_EN, Reg.ANG_TRIG_CFG_LATE_FIRE,
    Reg.ANG_TRIG_CFG_REQ_LOCK, Reg.ANG_TRIG_CFG_MODE]

/-- Status and configuration of a trigger share no field. -/
theorem trigStatus_key_ne {n t : Nat} {f g : Fld} (hf : f ∈ trigStatus n t) (hg : g ∈ trigConfig n t) : f.key ≠ g.key := by
  simp only [trigStatus, trigConfig, List.mem_cons, List.not_mem_nil, or_false] at hf hg
  rcases hf with rfl | rfl | rfl | rfl <;> rcases hg with rfl | rfl | rfl | rfl | rfl <;>
    simp [Fld.key, Reg.ANG_TRIG_CFG_FIRED, Reg.ANG_TRIG_CFG_LATE, Reg.ANG_TRIG_CFG_MISSED, Reg.ANG_TRIG_CFG_ERR,
      Reg.ANG_TRIG_CFG_ARM, Reg.ANG_TRIG_CFG_IRQ_EN, Reg.ANG_TRIG_CFG_LATE_FIRE, Reg.ANG_TRIG_CFG_REQ_LOCK, Reg.ANG_TRIG_CFG_MODE]

/-! ### Status bits written 1 (W1C) -/

/-- The status fields that a write of TRIG_CFG clears. -/
def trigClears (n t v : Nat) : List (Fld × Nat) := ((trigStatus n t).filter (fun f => bit v f.lo)).map (fun f => (f, 0))

theorem Dev.sets_filter_cons (p : Fld → Bool) (f : Fld) (l : List Fld) (d : Dev) :
    d.sets (((f :: l).filter p).map fun f => (f, 0)) = (if p f then d.set f 0 else d).sets ((l.filter p).map fun f => (f, 0)) := by
  cases h : p f <;> simp [h]

theorem Dev.sets_append (d : Dev) (l m : List (Fld × Nat)) : d.sets (l ++ m) = (d.sets l).sets m := List.foldl_append ..

theorem trigW1c_eq (n t v : Nat) (d : Dev) : trigW1c n t v d = d.sets (trigClears n t v) := by
  rw [trigClears, trigStatus]
  simp only [Dev.sets_filter_cons, List.filter_nil, List.map_nil, Dev.sets_nil, trigW1c]

theorem trigClears_fst (n t v : Nat) : (trigClears n t v).map Prod.fst = (trigStatus n t).filter (fun f => bit v f.lo) := by
  rw [trigClears, List.map_map]
  exact List.map_id _

theorem mem_trigStatus_of_clears {n t v : Nat} {p : Fld × Nat} (h : p ∈ trigClears n t v) : p.1 ∈ trigStatus n t ∧ bit v p.1.lo = true := by
  obtain ⟨f, hf, rfl⟩ := List.mem_map.1 h
  exact List.mem_filter.1 hf

theorem trigW1c_regsOnly (n t v : Nat) (d : Dev) : RegsOnly (trigStatus n t) d (trigW1c n t v d) := by
  rw [trigW1c_eq]
  exact (RegsOnly.sets d _ (trigClears_fst n t v)).mono fun f hf => List.mem_of_mem_filter hf

/-- A status bit written 1 is cleared. -/
theorem get_trigW1c_cleared {n t v : Nat} {f : Fld} (hf : f ∈ trigStatus n t) (hv : bit v f.lo = true) (d : Dev) :
    (trigW1c n t v d).get f = 0 := by
  have hsub : ((trigStatus n t).filter (fun f => bit v f.lo)).Sublist (trigStatus n t) := List.filter_sublist
  rw [trigW1c_eq, d.get_sets_of_mem ((trigStatus_nodup n t).sublist (hsub.map Fld.key)) (f := f) (v := 0) _ (trigClears_fst n t v)]
  · exact Nat.zero_mod _
  · exact List.mem_map.2 ⟨f, List.mem_filter.2 ⟨hf, hv⟩, rfl⟩

/-- A status bit written 0 stays. -/
theorem get_trigW1c_kept {n t v : Nat} {f : Fld} (hf : f ∈ trigStatus n t) (hv : bit v f.lo = false) (d : Dev) :
    (trigW1c n t v d).get f = d.get f := by
  rw [trigW1c_eq]
  refine d.get_sets_ne _ fun p hp hkey => ?_
  obtain ⟨hmem, hbit⟩ := mem_trigStatus_of_clears hp
  rw [List.inj_on_of_nodup_map (trigStatus_nodup n t) hf hmem hkey, hbit] at hv
  exact Bool.noConfusion hv

/-- The configuration stays. -/
theorem get_trigW1c_config {n t v : Nat} {f : Fld} (hf : f ∈ trigConfig n t) (d : Dev) : (trigW1c n t v d).get f = d.get f := by
  rw [trigW1c_eq]
  exact d.get_sets_ne _ fun p hp => (trigStatus_key_ne (mem_trigStatus_of_clears hp).1 hf).symm

/-- Other words stay. -/
theorem get_trigW1c_pos (n t v : Nat) (d : Dev) :
    (trigW1c n t v d).get (Reg.ANG_TRIG_POS_POS n t) = d.get (Reg.ANG_TRIG_POS_POS n t) := by
  rw [trigW1c_eq]
  refine d.get_sets_ne _ fun p hp => ?_
  have hmem := (mem_trigStatus_of_clears hp).1
  simp only [trigStatus, List.mem_cons, List.not_mem_nil, or_false] at hmem
  have hoff : p.1.off = (Reg.ANG_TRIG_CFG_FIRED n t).off ∧ p.1.lo < 32 := by
    rcases hmem with h | h | h | h <;> rw [h] <;>
      simp [Reg.ANG_TRIG_CFG_FIRED, Reg.ANG_TRIG_CFG_LATE, Reg.ANG_TRIG_CFG_MISSED, Reg.ANG_TRIG_CFG_ERR]
  simp only [Reg.ANG_TRIG_CFG_FIRED] at hoff
  simp only [Fld.key, Reg.ANG_TRIG_POS_POS]
  omega

/-! ### The rows of the three words -/

theorem exec_trigCfgWrite {d : Dev} {link : Fin 2} {n : Fin 16} {t : Fin 64}
    (h : d.deny (.bar2 link) true (Reg.ANG_TRIG_CFG_MODE n t).off 4 = none) (c : Clock) (q : List Instr) (v : Word) :
    ∃ w, exec (.trigCfgWrite link n t v) ⟨c, d, q⟩ =
      .next ⟨c, trigCfgWrite c n t v.toNat (fun ts d => lateFire c n ts d) { d with who := w }, q⟩ :=
  ⟨_, congrArg (fun e => Host.Outcome.next (State.mk c e q)) (regRow_of_none h c (trigCfgWrite c n t v.toNat (fun ts d => lateFire c n ts d)))⟩

theorem exec_trigPosWrite {d : Dev} {link : Fin 2} {n : Fin 16} {t : Fin 64}
    (h : d.deny (.bar2 link) true (Reg.ANG_TRIG_POS_POS n t).off 4 = none) (c : Clock) (q : List Instr) (v : Word) :
    ∃ w, exec (.trigPosWrite link n t v) ⟨c, d, q⟩ = .next ⟨c, trigPosWrite n t v.toNat { d with who := w }, q⟩ :=
  ⟨_, congrArg (fun e => Host.Outcome.next (State.mk c e q)) (regRow_of_none h c (trigPosWrite n t v.toNat))⟩

theorem exec_trigRevWrite {d : Dev} {link : Fin 2} {n : Fin 16} {t : Fin 64}
    (h : d.deny (.bar2 link) true (Reg.ANG_TRIG_REV_REV_LO n t).off 4 = none) (c : Clock) (q : List Instr) (v : Word) :
    ∃ w, exec (.trigRevWrite link n t v) ⟨c, d, q⟩ = .next ⟨c, trigRevWrite n t v.toNat { d with who := w }, q⟩ :=
  ⟨_, congrArg (fun e => Host.Outcome.next (State.mk c e q)) (regRow_of_none h c (trigRevWrite n t v.toNat))⟩

/-- The sequencer owns triggers 0 to 15 only (R58). -/
theorem seqOwns_eq_false {t : Nat} (h : 16 ≤ t) : seqOwns t = false := decide_eq_false (by omega)

/-- Configuration fields and their values in a written word. -/
def trigConfigOf (n t v : Nat) : List (Fld × Nat) :=
  [(Reg.ANG_TRIG_CFG_ARM n t, bits v 31 1), (Reg.ANG_TRIG_CFG_IRQ_EN n t, bits v 15 1),
    (Reg.ANG_TRIG_CFG_LATE_FIRE n t, bits v 14 1), (Reg.ANG_TRIG_CFG_REQ_LOCK n t, bits v 13 1), (Reg.ANG_TRIG_CFG_MODE n t, bits v 0 3)]

/-- A disarmed trigger takes a valid configuration that cannot fire at once, after the bits written 1 are cleared. -/
theorem trigCfgWrite_taken {n t v : Nat} (ht : 16 ≤ t) {d : Dev} (harm : d.getB (Reg.ANG_TRIG_CFG_ARM n t) = false)
    (hvalid : trigValid (bits v 0 3) (d.get (Reg.ANG_TRIG_POS_POS n t)) = true) (hquiet : bits v 0 3 ≠ 1 ∨ bit v 31 = false)
    (c : Clock) (fire : List Nat → Dev → Dev) :
    trigCfgWrite c n t v fire d = (trigW1c n t v d).sets (trigConfigOf n t v) := by
  have harm' : (trigW1c n t v d).getB (Reg.ANG_TRIG_CFG_ARM n t) = false := by
    rw [Dev.getB, get_trigW1c_config (by simp [trigConfig]), ← Dev.getB, harm]
  have hnot : (bits v 0 3 == 1 && bit v 31) = false := by
    rcases hquiet with h | h
    · rw [beq_eq_false_iff_ne.2 h, Bool.false_and]
    · rw [h, Bool.and_false]
  rw [trigCfgWrite, seqOwns_eq_false ht, harm, trigApply, get_trigW1c_pos, hvalid, harm', trigConfigOf]
  simp only [Bool.false_and, Bool.false_eq_true, if_false, if_true, Bool.and_assoc]
  rw [← Bool.and_assoc (bits v 0 3 == 1), hnot]
  simp only [Bool.false_and, Bool.and_false, Bool.false_eq_true, if_false]

/-- A change of the mode of a trigger that stays armed is flagged. -/
theorem trigCfgWrite_armed {n t v : Nat} (ht : 16 ≤ t) {d : Dev} (harm : d.getB (Reg.ANG_TRIG_CFG_ARM n t) = true)
    (hstays : bit v 31 = true) (hmode : bits v 0 3 ≠ d.get (Reg.ANG_TRIG_CFG_MODE n t)) (c : Clock) (fire : List Nat → Dev → Dev) :
    trigCfgWrite c n t v fire d = d.set (Reg.ANG_TRIG_CFG_ERR n t) 1 := by
  rw [trigCfgWrite, seqOwns_eq_false ht, harm, hstays, if_neg Bool.false_ne_true, Bool.and_self, if_pos rfl, if_neg]
  rintro ⟨_, _, _, heq⟩
  exact hmode heq

theorem trigCfgWrite_owned {n t : Nat} (ht : t < 16) (c : Clock) (v : Nat) (fire : List Nat → Dev → Dev) (d : Dev) :
    trigCfgWrite c n t v fire d = trigW1c n t v d := by
  rw [trigCfgWrite, seqOwns, decide_eq_true ht, if_pos rfl]

theorem trigPosWrite_taken {n t v : Nat} (ht : 16 ≤ t) {d : Dev} (harm : d.getB (Reg.ANG_TRIG_CFG_ARM n t) = false)
    (hvalid : trigValid (d.get (Reg.ANG_TRIG_CFG_MODE n t)) (bits v 0 24) = true) :
    trigPosWrite n t v d = d.sets [(Reg.ANG_TRIG_POS_REV_HI n t, bits v 24 8), (Reg.ANG_TRIG_POS_POS n t, bits v 0 24)] := by
  rw [trigPosWrite, seqOwns_eq_false ht, harm, hvalid]
  rfl

theorem trigPosWrite_armed {n t : Nat} (ht : 16 ≤ t) {d : Dev} (harm : d.getB (Reg.ANG_TRIG_CFG_ARM n t) = true) (v : Nat) :
    trigPosWrite n t v d = d.set (Reg.ANG_TRIG_CFG_ERR n t) 1 := by
  rw [trigPosWrite, seqOwns_eq_false ht, harm]
  rfl

theorem trigRevWrite_taken {n t : Nat} (ht : 16 ≤ t) {d : Dev} (harm : d.getB (Reg.ANG_TRIG_CFG_ARM n t) = false) (v : Nat) :
    trigRevWrite n t v d = d.set (Reg.ANG_TRIG_REV_REV_LO n t) v := by
  rw [trigRevWrite, seqOwns_eq_false ht, harm]
  rfl

/-! ### Firings with nothing waiting on them -/

/-- A commit step of a firing that no commit waits for. -/
theorem commitsAtTrig_none {d : Dev} {n : Nat} (hpend : (d.deck n).pend = none) (hseq : (d.deck n).seqPend = []) (c : Clock)
    (t : Nat) (late : Bool) : commitsAtTrig c n t late d = d.onDeck n (fun k => { k with seqPend := k.seqPend.filter (fun p => p.trig != t) }) := by
  have hkept : ((seqCommits n t d).deck n).pend = none := by
    rw [seqCommits_none hseq, Dev.deck_onDeck_self, hpend]
  rw [commitsAtTrig, hkept, seqCommits_none hseq]

/-- The signals of a firing go by IRQ_EN, which the firing leaves as it was. -/
theorem Dev.getB_firing_irqEn (d : Dev) (n t : Nat) :
    (d.firing n t).getB (Reg.ANG_TRIG_CFG_IRQ_EN n t) = d.getB (Reg.ANG_TRIG_CFG_IRQ_EN n t) := by
  have hkept := d.firing_regsOnly n t (Reg.ANG_TRIG_CFG_IRQ_EN n t).key (by
    simp [Fld.key, Reg.ANG_TRIG_CFG_IRQ_EN, Reg.ANG_TRIG_CFG_ARM, Reg.ANG_TRIG_CFG_FIRED])
  rw [Dev.getB, Dev.getB, Dev.get, Dev.get, hkept]

theorem Dev.get_firing_fired (d : Dev) (n t : Nat) : (d.firing n t).get (Reg.ANG_TRIG_CFG_FIRED n t) = 1 := by
  unfold Dev.firing
  split
  · exact Dev.get_set_self _ (Reg.ANG_TRIG_CFG_FIRED n t) 1
  · exact Dev.get_set_self _ (Reg.ANG_TRIG_CFG_FIRED n t) 1

/-- An armed trigger that fires stays armed, but a ONCE trigger. -/
theorem Dev.getB_firing_arm {d : Dev} {n t : Nat} (harm : d.getB (Reg.ANG_TRIG_CFG_ARM n t) = true) :
    (d.firing n t).getB (Reg.ANG_TRIG_CFG_ARM n t) = decide (d.get (Reg.ANG_TRIG_CFG_MODE n t) ≠ 1) := by
  have hne : (Reg.ANG_TRIG_CFG_ARM n t).key ≠ (Reg.ANG_TRIG_CFG_FIRED n t).key := by
    simp [Fld.key, Reg.ANG_TRIG_CFG_ARM, Reg.ANG_TRIG_CFG_FIRED]
  unfold Dev.firing
  split
  case isTrue hmode =>
    simp [Dev.getB, Dev.get_set_ne _ _ hne, hmode]
  case isFalse hmode =>
    simp only [List.nil_append, Dev.sets_cons, Dev.sets_nil, Dev.getB, Dev.get_set_ne _ _ hne, Dev.get_onDeck]
    rw [← Dev.getB, harm, decide_eq_true hmode]

/-- With no commit of the sequencer's waiting, the deck that a firing leaves. -/
theorem Deck.acted_quiet {k : Deck} (h : k.seqPend = []) (p : SeqPend → Bool) (s : List Nat) :
    { k.acted with seqPend := k.acted.seqPend.filter p, signals := s } = { k with tb := { k.tb with acted := true }, signals := s } := by
  rw [Deck.acted_seqPend, h, List.filter_nil, ← h]
  rfl

theorem Dev.getB_onDeck (d : Dev) (n : Nat) (g : Deck → Deck) (f : Fld) : (d.onDeck n g).getB f = d.getB f := rfl

theorem Dev.deck_signalled (d : Dev) (n t : Nat) : (d.signalled n t).deck n =
    { d.deck n with signals := if d.getB (Reg.ANG_TRIG_CFG_IRQ_EN n t) then [t] else [] } := by
  rw [Dev.signalled, Dev.deck_onDeck_self, List.filter_cons, List.filter_nil]

/-- A trigger that is due is armed. -/
theorem arm_of_due {d : Dev} {c : Clock} {n t : Nat} (h : t ∈ trigsDue d c n) : d.getB (Reg.ANG_TRIG_CFG_ARM n t) = true := by
  rw [trigsDue] at h
  split at h
  · cases h
  · obtain ⟨hlive, _⟩ := Bool.and_eq_true_iff.1 (List.mem_filter.1 h).2
    rw [trigLive] at hlive
    simp only [Bool.and_eq_true] at hlive
    exact hlive.1.1.1

/-- A skipped firing that nothing waits on shows MISSED and nothing else. -/
theorem Dev.trigMiss_quiet {d : Dev} {n : Nat} (hpend : (d.deck n).pend = none)
    (hslots : ∀ s ∈ List.range 8, ((d.deck n).slot s).swap = none) (c : Clock) (t : Nat) :
    d.trigMiss c n t = d.set (Reg.ANG_TRIG_CFG_MISSED n t) 1 := by
  have hmissed : (d.set (Reg.ANG_TRIG_CFG_MISSED n t) 1).deck n = d.deck n := Dev.deck_set ..
  rw [Dev.trigMiss]
  generalize d.set (Reg.ANG_TRIG_CFG_MISSED n t) 1 = e at hmissed ⊢
  rw [← hmissed] at hpend hslots
  rw [Dev.trigGone, Dev.deckCommitRefuse, hpend]
  exact foldl_fixed_of_mem fun s hs => by rw [hslots s hs]

/-- TRIGGER_FIRE with one trigger due that waits for LOCKED. -/
theorem triggerFire_held {c : Clock} {d : Dev} {n t : Nat} (hdue : trigsDue d c n = [t]) (hheld : trigHeld d n t = true)
    (hpend : (d.deck n).pend = none) (hslots : ∀ s ∈ List.range 8, ((d.deck n).slot s).swap = none) (o : Sample) :
    triggerFire c n o d = (d.onDeck n Deck.acted).set (Reg.ANG_TRIG_CFG_MISSED n t) 1 := by
  have hheld' : trigHeld (d.onDeck n Deck.acted) n t = true := hheld
  have hmiss : (d.onDeck n Deck.acted).trigMiss c n t = (d.onDeck n Deck.acted).set (Reg.ANG_TRIG_CFG_MISSED n t) 1 := by
    refine Dev.trigMiss_quiet ?_ ?_ c t
    · rw [Dev.deck_onDeck_self, Deck.acted_pend, hpend]
    · rw [Dev.deck_onDeck_self]
      exact hslots
  have hacted : (d.onDeck n fun k => { k with tb := { k.tb with acted := true } }) = d.onDeck n Deck.acted := rfl
  rw [triggerFire, hdue, hacted]
  simp [hheld, hheld', hmiss]

theorem exec_triggerFire_unrefocused {d : Dev} {n : Fin 16} (hon : d.deckOn n = true) {t : Nat} (ht : t ≠ 5) {c : Clock}
    (hdue : trigsDue d c n = [t]) (q : List Instr) (w : WedgeObs) (o : ServoObs) :
    exec (.triggerFire n w o) ⟨c, d, q⟩ = .next ⟨c, triggerFire c n ⟨o, w⟩ d, q⟩ := by
  have hnot : (trigsDue d c n).contains 5 = false := by
    rw [hdue]
    simp only [List.contains_cons, List.contains_nil, Bool.or_false, beq_eq_false_iff_ne]
    exact ht.symm
  have hexec : exec (.triggerFire n w o) ⟨c, d, q⟩ =
      .next ⟨c, deckRow n (fun d => firedToo c n d (triggerFire c n ⟨o, w⟩ d)) d, q⟩ := rfl
  rw [hexec, deckRow, if_pos hon, firedToo, hnot, if_neg Bool.false_ne_true]

/-! ### The statement -/

/-- Settles O18: a write either sets the fields of one word or flags itself, and a firing with nothing waiting on it changes the
trigger's own bits. -/
theorem triggerRegisters : Obligations.TriggerRegisters := by
  unfold Obligations.TriggerRegisters
  refine ⟨?disarmed, ?armed, ?owned, ?pos, ?posArmed, ?rev, ?fire, ?held⟩
  case disarmed =>
    intro c d q link n t v hdeny ht harm hvalid hquiet
    obtain ⟨w, hexec⟩ := exec_trigCfgWrite hdeny c q v
    rw [trigCfgWrite_taken (d := { d with who := w }) ht harm hvalid hquiet] at hexec
    have hcfg : ∀ {f : Fld} (lo k : Nat), (f, bits v.toNat lo k) ∈ trigConfigOf n t v.toNat → f.w = k →
        ((trigW1c n t v.toNat { d with who := w }).sets (trigConfigOf n t v.toNat)).get f = bits v.toNat lo k := by
      rintro f lo _ hmem rfl
      exact (Dev.get_sets_of_mem _ (trigConfig_nodup n t) hmem).trans (bits_mod ..)
    have hfired : ((trigW1c n t v.toNat { d with who := w }).sets (trigConfigOf n t v.toNat)).get (Reg.ANG_TRIG_CFG_FIRED n t) =
        (trigW1c n t v.toNat { d with who := w }).get (Reg.ANG_TRIG_CFG_FIRED n t) :=
      Dev.get_sets_ne _ _ fun p hp => trigStatus_key_ne (.head _) (List.mem_map_of_mem (f := Prod.fst) hp)
    refine ⟨_, hexec, hcfg 0 3 ?_ rfl, hcfg 13 1 ?_ rfl, hcfg 14 1 ?_ rfl, hcfg 15 1 ?_ rfl, hcfg 31 1 ?_ rfl, fun hv => ?_,
      fun hv => ?_, ?_, ?_⟩
    iterate 5 simp [trigConfigOf]
    · rw [hfired, get_trigW1c_cleared (.head _) hv]
    · rw [hfired, get_trigW1c_kept (.head _) hv, Dev.get_who]
    · rw [trigW1c_eq, ← Dev.sets_append, Dev.sets_eq]
    · have hconfig : RegsOnly (trigConfig n t) (trigW1c n t v.toNat { d with who := w }) _ := .sets _ (trigConfigOf n t v.toNat)
      have hclears := trigW1c_regsOnly n t v.toNat { d with who := w }
      exact (RegsOnly.refl _ rfl).trans ((hclears.mono (by simp [trigStatus])).trans (hconfig.mono (by simp [trigConfig])))
  case armed =>
    rintro c d q link n t v hdeny ht ⟨harm, hstays⟩ hmode
    obtain ⟨w, hexec⟩ := exec_trigCfgWrite hdeny c q v
    rw [trigCfgWrite_armed (d := { d with who := w }) ht harm hstays hmode] at hexec
    exact ⟨_, hexec, Dev.get_set_self .., rfl, .trans (.refl _ rfl) (.sets _ [(Reg.ANG_TRIG_CFG_ERR n t, 1)])⟩
  case owned =>
    intro c d q link n t v hdeny ht
    obtain ⟨w, hexec⟩ := exec_trigCfgWrite hdeny c q v
    rw [trigCfgWrite_owned ht] at hexec
    refine ⟨_, hexec, ?_, ?_, .trans (.refl _ rfl) (trigW1c_regsOnly n t v.toNat { d with who := w })⟩
    · rw [get_trigW1c_config (.head _), Dev.get_who]
    · rw [trigW1c_eq, Dev.sets_eq]
  case pos =>
    intro c d q link n t v hdeny ht harm hvalid
    obtain ⟨w, hexec⟩ := exec_trigPosWrite hdeny c q v
    rw [trigPosWrite_taken (d := { d with who := w }) ht harm hvalid] at hexec
    have hkeys : ([Reg.ANG_TRIG_POS_REV_HI n t, Reg.ANG_TRIG_POS_POS n t].map Fld.key).Nodup := by
      simp [Fld.key, Reg.ANG_TRIG_POS_REV_HI, Reg.ANG_TRIG_POS_POS]
    refine ⟨_, hexec, ?_, ?_, by rw [Dev.sets_eq], ?_⟩
    · exact (Dev.get_sets_of_mem _ hkeys (.tail _ (.head _))).trans (bits_mod ..)
    · exact (Dev.get_sets_of_mem _ hkeys (.head _)).trans (bits_mod ..)
    · exact (RegsOnly.refl _ rfl).trans ((RegsOnly.sets (fs := [Reg.ANG_TRIG_POS_REV_HI n t, Reg.ANG_TRIG_POS_POS n t]) _ _).mono
        (by simp))
  case posArmed =>
    intro c d q link n t v hdeny ht harm
    obtain ⟨w, hexec⟩ := exec_trigPosWrite hdeny c q v
    rw [trigPosWrite_armed (d := { d with who := w }) ht harm] at hexec
    exact ⟨_, hexec, Dev.get_set_self .., rfl, .trans (.refl _ rfl) (.sets _ [(Reg.ANG_TRIG_CFG_ERR n t, 1)])⟩
  case rev =>
    intro c d q link n t v hdeny ht harm
    obtain ⟨w, hexec⟩ := exec_trigRevWrite hdeny c q v
    rw [trigRevWrite_taken (d := { d with who := w }) ht harm] at hexec
    exact ⟨_, hexec, (Dev.get_set_self ..).trans (Nat.mod_eq_of_lt v.isLt), rfl,
      .trans (.refl _ rfl) (.sets _ [(Reg.ANG_TRIG_REV_REV_LO n t, v.toNat)])⟩
  case fire =>
    rintro c d q n t w o hon ht ⟨hdue, hheld⟩ ⟨hpend, hseq⟩ ⟨hspare0, hspare1⟩ hslots
    have hswaps : NoSwaps d n := ⟨by simp [hspare0, hspare1], fun s hs => hslots ⟨s, List.mem_range.1 hs⟩⟩
    have hdeck := d.firing_deck n t
    have hcommit : commitsAtTrig c n t false (d.firing n t) = (d.firing n t).onDeck n
        (fun k => { k with seqPend := k.seqPend.filter (fun p => p.trig != t) }) := by
      refine commitsAtTrig_none ?_ ?_ c t false
      · rw [hdeck, Deck.acted_pend, hpend]
      · rw [hdeck, Deck.acted_seqPend, hseq]
    have hfire := triggerFire_one ht hdue hheld ⟨o, w⟩ hcommit
      (hswaps.of_deck (by rw [Dev.deck_onDeck_self, hdeck]; rfl) (by rw [Dev.deck_onDeck_self, hdeck]; rfl))
      (by rw [Dev.deck_onDeck_self, hdeck]; exact hpend)
    have hexec := exec_triggerFire_software hon ht hdue q w o
    rw [hfire] at hexec
    refine ⟨_, hexec, ?_, ?_, ?_, fun m hm => ?_, ?_, ?_⟩
    · rw [Dev.signalled, Dev.get_onDeck, Dev.get_onDeck, Dev.get_firing_fired]
    · rw [Dev.signalled, Dev.getB_onDeck, Dev.getB_onDeck, Dev.getB_firing_arm (arm_of_due (by rw [hdue]; exact .head _))]
    · rw [Dev.deck_signalled, Dev.deck_onDeck_self, hdeck, Dev.getB_onDeck, Dev.getB_firing_irqEn, Deck.acted_quiet hseq]
    · rw [Dev.signalled, Dev.deck_onDeck_ne _ _ hm, Dev.deck_onDeck_ne _ _ hm, d.firing_eq n t]
      exact Dev.deck_onDeck_ne _ _ hm
    · rw [Dev.signalled, d.firing_eq n t]
      rfl
    · rw [Dev.signalled]
      exact ((d.firing_regsOnly n t).mono (by simp)).trans (.refl _ rfl)
  case held =>
    rintro c d q n t w o hon ht ⟨hdue, hheld⟩ hpend hslots
    have hexec := exec_triggerFire_unrefocused hon ht hdue q w o
    rw [triggerFire_held hdue hheld hpend fun s hs => hslots ⟨s, List.mem_range.1 hs⟩] at hexec
    refine ⟨_, hexec, Dev.get_set_self .., ?_, fun m hm => ?_, rfl, .trans (.refl _ rfl) (.sets _ [(Reg.ANG_TRIG_CFG_MISSED n t, 1)])⟩
    · rw [Dev.deck_set, Dev.deck_onDeck_self, Deck.acted]
    · rw [Dev.deck_set, Dev.deck_onDeck_ne _ _ hm]

end Sys2Proof.Machine
end

section
/-! SUPPORT. A mark that locks the timebase while a commit of the sequencer's waits on a trigger that then fires late (R53, R59, R64). -/

open Sys2Proof Sys2Proof.Machine

namespace Sys2Proof.Machine

/-- A counter twenty grains past wedge 3 of its first revolution. -/
def lateLandClock : Clock := { tick := 900, ang := [(1, (3 * 16384 + 20) * 2 ^ 24)] }

/-- Deck 1 in ACQUIRE, one good wedge before LOCKED. Trigger 20, ONCE with LATE_FIRE, has its target at 0, and on it waits a
commit of the sequencer's that holds the timebase's state. The model bounds neither the trigger nor the fields of such a commit. -/
def lateLandDev : Dev :=
  (runDev.sets [(Reg.ANG_STS_STATE 1, tbACQUIRE), (Reg.ANG_TRIG_CFG_ARM 1 20, 1), (Reg.ANG_TRIG_CFG_LATE_FIRE 1 20, 1),
    (Reg.ANG_TRIG_CFG_MODE 1 20, 1)]).onDeck 1 (fun k => { k with
      tb := { good := 63 }, seqPend := [{ trig := 20, vals := [((Reg.ANG_STS_STATE 1).key, tbOFF)], lane := none }] })

/-- Whether a mark of wedge 3 leaves the timebase of deck 1 OFF. -/
def markLeavesOff (c : Clock) (d : Dev) : Bool :=
  match exec (.clockMark 1 (some 3) []) ⟨c, d, []⟩ with
  | .next s => s.dev.tbState 1 == tbOFF
  | _ => false

theorem tbState_of_markLeavesOff {c c' : Clock} {d e : Dev} (h : markLeavesOff c d = true)
    (hexec : exec (.clockMark 1 (some 3) []) ⟨c, d, []⟩ = .next ⟨c', e, []⟩) : e.tbState 1 = tbOFF := by
  rw [markLeavesOff, hexec] at h
  exact eq_of_beq h

/-- The entry to LOCKED lets the late trigger fire, and the commit that lands with it puts the timebase OFF. -/
theorem markLeavesOff_lateLand : markLeavesOff lateLandClock lateLandDev = true := by decide +kernel

/-- Refutes O17: its clause on the mark that locks lets any commit of the sequencer's wait on a ONCE trigger that fires late at
the entry to LOCKED, and such a commit can set the state of the timebase. -/
theorem not_timebaseRows : ¬ Obligations.TimebaseRows := by
  unfold Obligations.TimebaseRows
  rintro ⟨_, _, _, hlocks, _⟩
  obtain ⟨c', e, hexec, _, hlocked, _, _⟩ := hlocks lateLandClock lateLandDev [] 1 3 (by decide +kernel) (by decide +kernel)
    (by decide +kernel) (by decide +kernel) (by decide +kernel) (by decide +kernel)
  rw [show e.tbState (1 : Fin 16) = tbOFF from tbState_of_markLeavesOff markLeavesOff_lateLand hexec] at hlocked
  exact absurd hlocked (by decide)

end Sys2Proof.Machine
end

section
/-! SUPPORT. What the operations of a deck leave alone: the states, modes and settings that the steps of a loading show and read
(R53, R130, R134, R175, R206, R211, R246, R247, R251, R254, R258). -/

open Sys2Proof Sys2Proof.Machine

namespace Sys2Proof.Machine

/-! ### The relation -/

/-- The fields by which the steps of a loading go and which they show. -/
def seqFields (n : Nat) : List Fld :=
  [Reg.PWR_VM_STS_UV, Reg.SEQ_STS_STATE n, Reg.SEQ_STS_STEP n, Reg.SEQ_STS_CAUSE n, Reg.SEQ_STS_GEN n, Reg.SEQ_STS_LAYER n,
    Reg.LOOP_STS_MODE n 0, Reg.LOOP_STS_MODE n 1, Reg.LOOP_STS_MODE n 2, Reg.LOOP_STS_MODE n 3, Reg.ANG_STS_STATE n,
    Reg.SPN_STS_STATE n, Reg.ACT_SAFE_CFG_DEFOCUS n, Reg.SEQ_FOCUS_CFG_FS_TRY n, Reg.SLD_STS_POS_OK n, Reg.SEQ_RECOV_CFG_ZSWAP n]

/-- Those of them that belong to the deck: offset within the deck, position, width. -/
def seqPlaces : List (Nat × Nat × Nat) :=
  [(0x80004, 28, 4), (0x80004, 24, 4), (0x80004, 20, 4), (0x80004, 18, 2), (0x80004, 8, 5), (0x40134, 24, 3), (0x40174, 24, 3),
    (0x401B4, 24, 3), (0x401F4, 24, 3), (0x8, 0, 3), (0x50004, 12, 4), (0x70020, 16, 16), (0x8000C, 20, 4), (0x6000C, 6, 1),
    (0x80018, 0, 1)]

/-- A field of a deck by its place. -/
def deckFld (n : Nat) (p : Nat × Nat × Nat) : Fld := ⟨0x1000000 + n * 0x100000 + p.1, p.2.1, p.2.2⟩

theorem seqFields_eq (n : Nat) : seqFields n = Reg.PWR_VM_STS_UV :: seqPlaces.map (deckFld n) := by
  simp only [seqFields, seqPlaces, deckFld, List.map_cons, List.map_nil, Reg.SEQ_STS_STATE, Reg.SEQ_STS_STEP, Reg.SEQ_STS_CAUSE,
    Reg.SEQ_STS_GEN, Reg.SEQ_STS_LAYER, Reg.LOOP_STS_MODE, Reg.ANG_STS_STATE, Reg.SPN_STS_STATE, Reg.ACT_SAFE_CFG_DEFOCUS,
    Reg.SEQ_FOCUS_CFG_FS_TRY, Reg.SLD_STS_POS_OK, Reg.SEQ_RECOV_CFG_ZSWAP, Nat.add_assoc, Nat.reduceMul, Nat.reduceAdd]

theorem seqFields_nodup (n : Nat) : ((seqFields n).map Fld.key).Nodup := by
  have hplaces : (seqPlaces.map fun p => p.1 * 32 + p.2.1).Nodup := by decide
  have hkey : seqPlaces.map (Fld.key ∘ deckFld n) =
      (seqPlaces.map fun p => p.1 * 32 + p.2.1).map fun k => (0x1000000 + n * 0x100000) * 32 + k := by
    rw [List.map_map]
    refine List.map_congr_left fun p _ => ?_
    simp only [Function.comp_apply, deckFld, Fld.key]
    omega
  rw [seqFields_eq, List.map_cons, List.nodup_cons, List.map_map]
  constructor
  · simp only [List.mem_map, Function.comp_apply, deckFld, Fld.key, Reg.PWR_VM_STS_UV, not_exists, not_and]
    intros
    omega
  · rw [hkey]
    exact hplaces.map fun _ _ h => Nat.add_left_cancel h

/-- Whether a position within a deck is none of theirs. -/
@[reducible] def seqFree (k : Nat) : Prop := k ∉ seqPlaces.map fun p => p.1 * 32 + p.2.1

/-- Angle triggers, commits, lanes, detection and the write path hold none of them. -/
theorem seqFree_of_low {k : Nat} (h : 0x9 * 32 ≤ k) (h' : k < 0x40134 * 32) : seqFree k := by
  have hplaces : ∀ p ∈ seqPlaces, p.1 * 32 + p.2.1 < 0x9 * 32 ∨ 0x40134 * 32 ≤ p.1 * 32 + p.2.1 := by decide
  intro hk
  obtain ⟨p, hp, rfl⟩ := List.mem_map.1 hk
  rcases hplaces p hp with hp | hp <;> omega

/-- Of a loop slot only STS is one of them. -/
theorem seqFree_of_slot {o s lo : Nat} (ho : 0x40100 ≤ o ∧ o < 0x40140 ∧ o ≠ 0x40134) (hs : s < 8) (hlo : lo < 32) :
    seqFree ((o + s * 0x40) * 32 + lo) := by
  have hplaces : ∀ p ∈ seqPlaces, p.1 < 0x40100 ∨ 0x40300 ≤ p.1 ∨ p.1 % 0x40 = 0x34 := by decide
  have hplaces' : ∀ p ∈ seqPlaces, p.2.1 < 32 := by decide
  intro hk
  obtain ⟨p, hp, hkey⟩ := List.mem_map.1 hk
  have hpos := hplaces' p hp
  rcases hplaces p hp with hp | hp | hp <;> omega

/-- A field of the deck at another place. -/
theorem key_not_mem_of_seqFree {n o lo w : Nat} (h : seqFree (o * 32 + lo)) :
    (Fld.mk (0x1000000 + n * 0x100000 + o) lo w).key ∉ (seqFields n).map Fld.key := by
  rw [seqFields_eq, List.map_cons, List.mem_cons, List.map_map, List.mem_map]
  rintro (huv | ⟨p, hp, hkey⟩)
  · simp only [Fld.key, Reg.PWR_VM_STS_UV] at huv
    omega
  · refine h (List.mem_map.2 ⟨p, hp, ?_⟩)
    simp only [Function.comp_apply, deckFld, Fld.key] at hkey
    omega

/-- A field of the module below the decks. -/
theorem key_not_mem_of_low {g : Fld} (hlow : g.key < 0x1000000 * 32) (hg : g.key ≠ Reg.PWR_VM_STS_UV.key) (n : Nat) :
    g.key ∉ (seqFields n).map Fld.key := by
  rw [seqFields_eq, List.map_cons, List.mem_cons, List.map_map, List.mem_map]
  rintro (huv | ⟨p, _, hkey⟩)
  · exact hg huv
  · simp only [Function.comp_apply, deckFld, Fld.key] at hkey hlow
    omega

/-- The sequencer, but for its notes on coils and sled, and the disc that is mounted. -/
def Deck.core (k : Deck) : Seqr × Option Nat := ({ k.seq with coilsOff := false, parkMove := false }, k.mounted)

/-- What belongs to other decks, the fields above but the listed ones, and the core of the deck are as they were. -/
structure SeqKept (ex : List Fld) (n : Nat) (d e : Dev) : Prop where
  others : DeckOnly n d e
  regs : ∀ f ∈ seqFields n, f ∉ ex → e.get f = d.get f
  core : (e.deck n).core = (d.deck n).core

section
variable {ex : List Fld} {n : Nat}

theorem SeqKept.refl (d : Dev) : SeqKept ex n d d := ⟨fun _ _ => rfl, fun _ _ _ => rfl, rfl⟩

theorem SeqKept.trans {d e f : Dev} (h : SeqKept ex n d e) (h' : SeqKept ex n e f) : SeqKept ex n d f :=
  ⟨h.others.trans h'.others, fun g hg hx => (h'.regs g hg hx).trans (h.regs g hg hx), h'.core.trans h.core⟩

/-- A change of other parts of the module. -/
theorem SeqKept.of_eq {d e f : Dev} (h : SeqKept ex n d e) (hregs : f.regs = e.regs) (hdecks : f.decks = e.decks) :
    SeqKept ex n d f :=
  h.trans ⟨.of_decks hdecks, fun g _ _ => Dev.get_of_regs hregs g, by rw [Dev.deck_of_decks hdecks]⟩

theorem SeqKept.onDeck {d e : Dev} (h : SeqKept ex n d e) {g : Deck → Deck} (hcore : ∀ k, (g k).core = k.core) :
    SeqKept ex n d (e.onDeck n g) :=
  h.trans ⟨.onDeck n g e, fun _ _ _ => rfl, by rw [Dev.deck_onDeck_self, hcore]⟩

/-- A field with another key is set. -/
theorem SeqKept.setOther {d e : Dev} (h : SeqKept ex n d e) {g : Fld} (v : Nat) (hg : g.key ∉ (seqFields n).map Fld.key) :
    SeqKept ex n d (e.set g v) :=
  h.trans ⟨fun _ _ => Dev.deck_set .., fun _ hf _ => e.get_set_ne v fun hkey => hg (hkey ▸ List.mem_map_of_mem hf),
    by rw [Dev.deck_set]⟩

/-- A field of the deck at another place is set. -/
theorem SeqKept.set {d e : Dev} (h : SeqKept ex n d e) {o lo w v : Nat} (hg : seqFree (o * 32 + lo)) :
    SeqKept ex n d (e.set ⟨0x1000000 + n * 0x100000 + o, lo, w⟩ v) :=
  h.setOther v (key_not_mem_of_seqFree hg)

/-- A field of one of the deck's lanes, slots, spares or triggers is set. -/
theorem SeqKept.setAt {d e : Dev} (h : SeqKept ex n d e) {o k lo w v : Nat} (hg : seqFree ((o + k) * 32 + lo)) :
    SeqKept ex n d (e.set ⟨0x1000000 + n * 0x100000 + o + k, lo, w⟩ v) := by
  refine h.setOther v ?_
  rw [Nat.add_assoc]
  exact key_not_mem_of_seqFree hg

/-- A field of one of the deck's triggers, lanes or spares is set. -/
theorem SeqKept.setLane {d e : Dev} (h : SeqKept ex n d e) {o k lo w v : Nat}
    (hplace : 0x9 * 32 ≤ (o + k) * 32 + lo ∧ (o + k) * 32 + lo < 0x40134 * 32) :
    SeqKept ex n d (e.set ⟨0x1000000 + n * 0x100000 + o + k, lo, w⟩ v) :=
  h.setAt (seqFree_of_low hplace.1 hplace.2)

/-- A field of one of the deck's loop slots but STS is set. -/
theorem SeqKept.setSlot {d e : Dev} (h : SeqKept ex n d e) {o s lo w v : Nat} (hs : s < 8)
    (hplace : (0x40100 ≤ o ∧ o < 0x40140 ∧ o ≠ 0x40134) ∧ lo < 32) :
    SeqKept ex n d (e.set ⟨0x1000000 + n * 0x100000 + o + s * 0x40, lo, w⟩ v) :=
  h.setAt (seqFree_of_slot hplace.1 hs hplace.2)

/-- A field of the module below the decks is set. -/
theorem SeqKept.setLow {d e : Dev} (h : SeqKept ex n d e) {g : Fld} {v : Nat} (hlow : g.key < 0x1000000 * 32)
    (hg : g.key ≠ Reg.PWR_VM_STS_UV.key) : SeqKept ex n d (e.set g v) :=
  h.setOther v (key_not_mem_of_low hlow hg n)

/-- A listed field is set. -/
theorem SeqKept.setListed {d e : Dev} (h : SeqKept ex n d e) {g : Fld} (v : Nat) (hg : g ∈ seqFields n) (hex : g ∈ ex) :
    SeqKept ex n d (e.set g v) := by
  refine h.trans ⟨fun _ _ => Dev.deck_set .., fun f hf hx => e.get_set_ne v fun hkey => ?_, by rw [Dev.deck_set]⟩
  rw [List.inj_on_of_nodup_map (seqFields_nodup n) hf hg hkey] at hx
  exact hx hex

theorem SeqKept.ite {p : Prop} [Decidable p] {d a b : Dev} (ha : SeqKept ex n d a) (hb : SeqKept ex n d b) :
    SeqKept ex n d (if p then a else b) := by
  split
  · exact ha
  · exact hb

theorem SeqKept.foldl {α : Type} {f : Dev → α → Dev} {l : List α} {d e : Dev} (h : SeqKept ex n d e)
    (hf : ∀ e, ∀ a ∈ l, SeqKept ex n e (f e a)) : SeqKept ex n d (l.foldl f e) := by
  induction l generalizing e with
  | nil => exact h
  | cons a l ih => exact ih (h.trans (hf e a List.mem_cons_self)) fun e b hb => hf e b (List.mem_cons_of_mem a hb)

/-! ### The gate, the laser and the link (R199, R202, R206, R211, R214) -/

theorem Dev.gateShow_seqKept (d : Dev) : SeqKept ex n d (d.gateShow n) := by
  unfold Dev.gateShow
  extract_lets gone e1 e2 e3
  have h1 : SeqKept ex n d e1 := by
    simp only [e1]
    split
    · split
      · exact .onDeck (.refl d) fun _ => by rfl
      · exact .refl d
    · exact .refl d
  have h2 : SeqKept ex n d e2 := by
    simp only [e2]
    split
    · exact .ite (.onDeck h1 fun _ => by rfl) h1
    · exact h1
  have h3 : SeqKept ex n d e3 := .ite (.onDeck h2 fun _ => by rfl) h2
  exact (h3.set (by decide)).set (by decide)

theorem Dev.kill_seqKept (d : Dev) : SeqKept ex n d (d.kill n) := 
  ((SeqKept.refl d).onDeck fun _ => by rfl).set (by decide)

theorem Dev.gateClose_seqKept {cause : Nat} (hcause : cause < 15) (d : Dev) : SeqKept ex n d (d.gateClose n cause) := by
  have hfree : seqFree (0x30018 * 32 + cause) := seqFree_of_low (by omega) (by omega)
  have hflag : SeqKept ex n d ((d.onDeck n fun k => { k with gate := { k.gate with hold := setBit k.gate.hold cause, shut := 0xFFFF } }).set
      (gateFlag n cause) 1) := ((SeqKept.refl d).onDeck fun _ => by rfl).set hfree
  exact (hflag.trans (.ite (Dev.kill_seqKept _) (.refl _))).trans (Dev.gateShow_seqKept _)

theorem Dev.gateShut_seqKept (c : Clock) (d : Dev) : SeqKept ex n d (d.gateShut c n) :=
  (((SeqKept.refl d).onDeck fun _ => by rfl).trans (.ite (Dev.kill_seqKept _) (.refl _))).trans (Dev.gateShow_seqKept _)

theorem Dev.laser_seqKept (mode : Nat) (d : Dev) : SeqKept ex n d (d.laser n mode) := .onDeck (.refl d) fun _ => by rfl

/-! ### Lanes (R130, R134, R598) -/

theorem Dev.laneWake_seqKept (l : Nat) (d : Dev) : SeqKept ex n d (d.laneWake n l) :=
  .ite (.refl d) (.onDeck (.onDeck (.refl d) fun _ => by rfl) fun _ => by rfl)

theorem Dev.lanesRelease_seqKept (d : Dev) : SeqKept ex n d (d.lanesRelease n) :=
  .ite (.refl d) (.foldl (.refl d) fun e l _ => .ite (e.laneWake_seqKept l) (.refl e))

theorem Dev.tstStandby_seqKept (d : Dev) : SeqKept ex n d (d.tstStandby n) := by
  unfold Dev.tstStandby
  extract_lets mine back e
  have hback : ∀ e, ∀ v ∈ d.tst.visits.filter mine, SeqKept ex n e (back e v) := by
    intro e v hv
    have hmine := (List.mem_filter.1 hv).2
    simp only [mine, Bool.and_eq_true, decide_eq_true_eq] at hmine
    obtain ⟨⟨hlow, hhigh⟩, hspare⟩ := hmine
    dsimp -zeta only [back]
    extract_lets l k e1 e2 e3 u t e4
    have hl : l < 66 := by simp only [l]; omega
    have hk : k < 64 := by simp only [k]; omega
    have h1 : SeqKept ex n e e1 := .ite (.refl e) ((((SeqKept.refl e).setLane (by omega)).setLane (by omega)).setLane (by omega))
    have h2 : SeqKept ex n e e2 := .ite h1 ((h1.setLane (by omega)).setLane (by omega))
    have h3 : SeqKept ex n e e3 := (h2.setLane (by omega)).onDeck fun _ => by rfl
    have h4 : SeqKept ex n e e4 := h3.of_eq rfl rfl
    exact .ite ((h4.setLow (by decide) (by decide)).setLow (by decide) (by decide)) h4
  exact (SeqKept.foldl (.refl d) hback).of_eq rfl rfl

theorem Dev.lanesStandby_seqKept (d : Dev) : SeqKept ex n d (d.lanesStandby n) := by
  refine .foldl d.tstStandby_seqKept fun e l hl => ?_
  have hl' : l < 66 := List.mem_range.1 hl
  have h : SeqKept ex n e (e.set (Reg.LANE_STATE_STBY n l) 1) := (SeqKept.refl e).setLane (by omega)
  exact .ite (h.onDeck fun _ => by rfl) h

theorem Dev.spareEnd_seqKept {s : Nat} (hs : s < 2) (result : Nat) (d : Dev) : SeqKept ex n d (d.spareEnd n s result) :=
  (((SeqKept.refl d).onDeck fun _ => by rfl).setLane (by omega)).setLane (by omega)

theorem Dev.sparesAbandon_seqKept (t : Option Nat) (d : Dev) : SeqKept ex n d (d.sparesAbandon n t) := by
  refine .foldl (.refl d) fun e s hs => ?_
  have hs' : s < 2 := by
    simp only [List.mem_cons, List.not_mem_nil, or_false] at hs
    omega
  split
  · exact .ite (e.spareEnd_seqKept hs' 3) (.refl e)
  · exact .refl e

/-! ### Faults and the ledger -/

theorem Dev.fault_seqKept (c : Clock) (src : Src) {q : Cond} (hq : q.sev ≠ 3) (d : Dev) : SeqKept ex n d (d.fault c src q) := by
  have hlost : Reg.FLT_STS_LOST.key ∉ (seqFields n).map Fld.key := key_not_mem_of_low (by decide) (by decide) n
  refine ⟨.of_decks (Dev.fault_decks ..), fun f hf _ => ?_, by rw [Dev.deck_of_decks (Dev.fault_decks ..)]⟩
  rw [Dev.get, Dev.get, Dev.fault_regsOnly c src hq d f.key]
  intro hmem
  rw [List.map_singleton, List.mem_singleton] at hmem
  exact hlost (hmem ▸ List.mem_map_of_mem hf)

theorem Dev.ledShow_seqKept (d : Dev) : SeqKept ex n d d.ledShow := by
  rw [Dev.ledShow]
  simp only [Dev.sets_cons, Dev.sets_nil]
  exact ((((SeqKept.refl d).setLow (by decide) (by decide)).setLow (by decide) (by decide)).setLow (by decide) (by decide)).setLow
    (by decide) (by decide)

theorem Dev.ledEvent_seqKept (c : Clock) (who : Who) (cls result detail object : Nat) (old new : List Byte) (d : Dev) :
    SeqKept ex n d (d.ledEvent c who cls result detail object old new) := by
  unfold Dev.ledEvent
  split
  · exact .of_eq (.refl d) rfl rfl
  · rw [Dev.ledAdd]
    exact (SeqKept.of_eq (.refl d) (by rfl) (by rfl)).trans (Dev.ledShow_seqKept _)

/-! ### Commits, bank swaps and triggers (R59, R63, R251) -/

theorem Dev.deckCommitShow_seqKept (c : Clock) (result sub rule : Nat) (late : Bool) (d : Dev) :
    SeqKept ex n d (d.deckCommitShow c n result sub rule late) :=
  ((((((((SeqKept.refl d).onDeck fun _ => by rfl).set (by decide)).set (by decide)).set (by decide)).set (by decide)).set (by decide)).set
    (by decide)).set (by decide)

theorem Dev.deckCommitEnd_seqKept (c : Clock) (result sub rule : Nat) (late : Bool) (d : Dev) :
    SeqKept ex n d (d.deckCommitEnd c n result sub rule late) := by
  unfold Dev.deckCommitEnd
  split
  · exact (d.deckCommitShow_seqKept ..).trans (Dev.ledEvent_seqKept ..)
  · exact (d.deckCommitShow_seqKept ..).trans (Dev.ledEvent_seqKept ..)

theorem Dev.deckCommitRefuse_seqKept (c : Clock) (result : Nat) (t : Option Nat) (d : Dev) :
    SeqKept ex n d (d.deckCommitRefuse c n result t) := by
  unfold Dev.deckCommitRefuse
  split
  · exact .ite (d.deckCommitEnd_seqKept ..) (.refl d)
  · exact .refl d

theorem Dev.swapEnd_seqKept {s : Nat} (hs : s < 8) (result : Nat) (d : Dev) : SeqKept ex n d (d.swapEnd n s result) :=
  ((((SeqKept.refl d).onDeck fun _ => by rfl).setSlot hs (by decide)).setSlot hs (by decide)).setSlot hs (by decide)

theorem Dev.swapsRefuse_seqKept (t : Nat) (d : Dev) : SeqKept ex n d (d.swapsRefuse n t) := by
  refine .foldl (.refl d) fun e s hs => ?_
  split
  · exact .ite (e.swapEnd_seqKept (List.mem_range.1 hs) 3) (.refl e)
  · exact .refl e

theorem Dev.trigMiss_seqKept (c : Clock) {t : Nat} (ht : t < 64) (d : Dev) : SeqKept ex n d (d.trigMiss c n t) := by
  have hmissed : SeqKept ex n d (d.set (Reg.ANG_TRIG_CFG_MISSED n t) 1) := (SeqKept.refl d).setLane (by omega)
  rw [Dev.trigMiss, Dev.trigGone]
  exact (hmissed.trans (Dev.deckCommitRefuse_seqKept ..)).trans (Dev.swapsRefuse_seqKept ..)

theorem Dev.periodicMiss_seqKept (c : Clock) (d : Dev) : SeqKept ex n d (d.periodicMiss c n) :=
  .foldl (.refl d) fun e _ ht => .ite (e.trigMiss_seqKept c (List.mem_range.1 ht)) (.refl e)

/-! ### Gleans (R174, R175) -/

theorem seqFields_stays (f : Fld) (hf : f ∈ seqFields n) : f.lo < 32 ∧ f.off % deckSpan ≠ 0x2001C := by
  have hplaces : ∀ p ∈ seqPlaces, p.1 < 0x100000 ∧ p.1 ≠ 0x2001C ∧ p.2.1 < 32 := by decide
  rw [seqFields_eq, List.mem_cons, List.mem_map] at hf
  rcases hf with rfl | ⟨p, hp, rfl⟩
  · decide
  · obtain ⟨hspan, hne, hlo⟩ := hplaces p hp
    refine ⟨hlo, ?_⟩
    simp only [deckFld, deckSpan]
    omega

theorem onDie_seqKept (i : Nat) (f : Die → Die) (d : Dev) : SeqKept ex n d (d.onDie i f) :=
  ⟨.of_decks (onDie_decks ..), fun g hg _ => get_onDie i f d (seqFields_stays g hg).1 (seqFields_stays g hg).2,
    by rw [Dev.deck_of_decks (onDie_decks ..)]⟩

theorem Dev.deliverUnread_seqKept (c : Clock) (b : Blk) (d : Dev) : SeqKept ex n d (d.deliverUnread c n b) :=
  (((onDie_seqKept ..).trans (onDie_seqKept ..)).onDeck fun _ => by rfl).set (by decide)

theorem Dev.focusBy_seqKept (c : Clock) (nm : Int) (d : Dev) : SeqKept ex n d (d.focusBy c n nm) := by
  unfold Dev.focusBy
  refine .ite (.refl d) ?_
  dsimp only
  split
  · exact .onDeck (.refl d) fun _ => by rfl
  · exact .setSlot (.onDeck (.refl d) fun _ => by rfl) (by decide) (by decide)

theorem Dev.gleanStop_seqKept (c : Clock) (d : Dev) : SeqKept ex n d (d.gleanStop c n) :=
  ((d.focusBy_seqKept c _).onDeck fun _ => by rfl).set (by decide)

theorem Dev.gleansAbandon_seqKept (c : Clock) (d : Dev) : SeqKept ex n d (d.gleansAbandon c n) := by
  unfold Dev.gleansAbandon
  extract_lets l e
  have hdelivered : SeqKept ex n d e := .foldl (.refl d) fun e b _ => e.deliverUnread_seqKept c b
  exact .ite (.refl d) ((hdelivered.trans (e.gleanStop_seqKept c)).trans (Dev.fault_seqKept c _ (Nat.ne_of_beq_eq_false rfl) _))

/-! ### The timebase (R53, R54, R58, R246) -/

theorem Dev.learnDrop_seqKept {s : Nat} (hs : s < 8) (d : Dev) : SeqKept ex n d (d.learnDrop n s) :=
  (((SeqKept.refl d).onDeck fun _ => by rfl).setSlot hs (by decide)).setSlot hs (by decide)

theorem Dev.tbUnlock_seqKept (c : Clock) (cause : Nat) (d : Dev) : SeqKept ex n d (d.tbUnlock c n cause) := by
  unfold Dev.tbUnlock
  extract_lets latched recorded learned
  have hlatched : SeqKept ex n d latched := ((SeqKept.refl d).set (by decide)).set (by decide)
  have hrecorded : SeqKept ex n latched recorded := Dev.fault_seqKept c _ (Nat.ne_of_beq_eq_false rfl) _
  have hlearned : SeqKept ex n recorded learned :=
    .foldl (.refl _) fun e s hs => .ite (e.learnDrop_seqKept (List.mem_range.1 hs)) (.refl e)
  exact ((hlatched.trans hrecorded).trans hlearned).trans (learned.gateClose_seqKept (by decide))

theorem Dev.tbLoseAngle_seqKept (c : Clock) (d : Dev) : SeqKept ex n d (d.tbLoseAngle c n) := by
  unfold Dev.tbLoseAngle
  extract_lets missed dropped
  have hmissed : SeqKept ex n d missed := (d.deckCommitRefuse_seqKept ..).trans (Dev.periodicMiss_seqKept ..)
  have hdropped : SeqKept ex n missed dropped := (SeqKept.refl _).onDeck fun _ => by rfl
  exact (((hmissed.trans hdropped).trans (Dev.sparesAbandon_seqKept ..)).trans (Dev.gleansAbandon_seqKept ..)).set (by decide)

/-- The entry to SEARCH leaves all but the timebase's own state. -/
theorem Dev.tbSearch_seqKept (c : Clock) (hex : Reg.ANG_STS_STATE n ∈ ex) (d : Dev) : SeqKept ex n d (d.tbSearch c n) := by
  unfold Dev.tbSearch
  exact ((((SeqKept.refl d).onDeck fun _ => by rfl).setListed _ (by simp [seqFields]) hex).set (by decide)).trans (Dev.tbLoseAngle_seqKept c _)

theorem Dev.tbDisable_seqKept (c : Clock) (hex : Reg.ANG_STS_STATE n ∈ ex) (d : Dev) : SeqKept ex n d (d.tbDisable c n) := by
  unfold Dev.tbDisable
  refine .ite (.refl d) ?_
  have hlock : SeqKept ex n d (if d.tbState n = tbLOCKED then d.tbUnlock c n 4 else d) := .ite (d.tbUnlock_seqKept c 4) (.refl d)
  exact (((hlock.onDeck fun _ => by rfl).setListed _ (by simp [seqFields]) hex).set (by decide)).trans (Dev.tbLoseAngle_seqKept c _)

theorem Dev.mapTriggers_seqKept (d : Dev) : SeqKept ex n d (d.mapTriggers n) :=
  ((SeqKept.refl d).setLane (by omega)).setLane (by omega)

theorem Dev.ownTriggers_seqKept (d : Dev) : SeqKept ex n d (d.ownTriggers n) := by
  refine SeqKept.trans (SeqKept.setLane (SeqKept.foldl (.refl d) fun e p hp => ?_) (by omega)) (Dev.mapTriggers_seqKept _)
  have ht : p.1 < 64 := by
    simp only [List.mem_cons, List.not_mem_nil, or_false] at hp
    rcases hp with rfl | rfl | rfl | rfl | rfl | rfl <;> decide
  exact ((SeqKept.refl e).setLane (by omega)).setLane (by omega)

end

end Sys2Proof.Machine
end

section
/-! SUPPORT. What each operation of a loading, a park or a fault of the deck does to its states and modes (R247, R254, R258, R298,
R355, R358 to R364). -/

open Sys2Proof Sys2Proof.Machine

namespace Sys2Proof.Machine

section
variable {ex : List Fld} {n : Nat}

/-! ### Loop slots (R247, R254, R258) -/

theorem loopMode_mem (n : Nat) {s : Nat} (hs : s < 4) : Reg.LOOP_STS_MODE n s ∈ seqFields n := by
  interval_cases s <;> simp [seqFields]

theorem loopMode_ne (n : Nat) {s t : Nat} (h : s ≠ t) : Reg.LOOP_STS_MODE n s ≠ Reg.LOOP_STS_MODE n t := by
  rw [Reg.LOOP_STS_MODE, Reg.LOOP_STS_MODE, ne_eq, Fld.mk.injEq]
  omega

theorem loopMode_not_mem_step (n s : Nat) : Reg.LOOP_STS_MODE n s ∉ [Reg.SEQ_STS_STEP n] := fun h =>
  absurd (congrArg Fld.w (List.mem_singleton.1 h)) (by simp [Reg.LOOP_STS_MODE, Reg.SEQ_STS_STEP])

theorem loopMode_not_mem_state (n s : Nat) : Reg.LOOP_STS_MODE n s ∉ [Reg.SEQ_STS_STATE n] := fun h =>
  absurd (congrArg Fld.w (List.mem_singleton.1 h)) (by simp [Reg.LOOP_STS_MODE, Reg.SEQ_STS_STATE])

theorem Dev.profStop_seqKept {s : Nat} (hs : s < 8) (d : Dev) : SeqKept ex n d (d.profStop n s) :=
  .ite ((((SeqKept.refl d).onDeck fun _ => by rfl).setSlot hs (by decide)).setSlot hs (by decide)) (.refl d)

theorem Dev.slotMode_seqKept {s : Nat} (hs : s < 4) (hex : Reg.LOOP_STS_MODE n s ∈ ex) (mode : Nat) (d : Dev) :
    SeqKept ex n d (d.slotMode n s mode) := by
  unfold Dev.slotMode
  extract_lets entered dropped
  have hentered : SeqKept ex n d entered := (SeqKept.refl d).onDeck fun _ => by rfl
  have hdropped : SeqKept ex n entered dropped := .ite (entered.learnDrop_seqKept (by omega)) (.refl _)
  exact (hentered.trans hdropped).setListed _ (loopMode_mem n hs) hex

/-- A slot forced to a mode leaves all but that mode. -/
theorem Dev.slotForce_seqKept {s : Nat} (hs : s < 4) (hex : Reg.LOOP_STS_MODE n s ∈ ex) (mode : Nat) (d : Dev) :
    SeqKept ex n d (d.slotForce n s mode) :=
  ((d.profStop_seqKept (by omega)).trans (Dev.slotMode_seqKept hs hex mode _)).setSlot (by omega) (by decide)

theorem Dev.get_slotForce_mode (n s mode : Nat) (d : Dev) :
    (d.slotForce n s mode).get (Reg.LOOP_STS_MODE n s) = mode % 2 ^ 3 := by
  have hne : (Reg.LOOP_STS_MODE n s).key ≠ (Reg.LOOP_SLOT_CTL_MODE n s).key := by
    simp only [Fld.key, Reg.LOOP_STS_MODE, Reg.LOOP_SLOT_CTL_MODE]
    omega
  rw [Dev.slotForce, Dev.get_set_ne _ _ hne, Dev.slotMode]
  exact Dev.get_set_self ..

theorem Dev.defocus_seqKept (hex : Reg.LOOP_STS_MODE n 0 ∈ ex) (d : Dev) : SeqKept ex n d (d.defocus n) :=
  ((d.slotForce_seqKept (by decide) hex 1).onDeck fun _ => by rfl).setSlot (by decide) (by decide)

theorem Dev.get_defocus_mode (n : Nat) (d : Dev) : (d.defocus n).get (Reg.LOOP_STS_MODE n 0) = 1 := by
  have hne : (Reg.LOOP_STS_MODE n 0).key ≠ (Reg.LOOP_VAL_OUT n 0).key := by
    simp only [Fld.key, Reg.LOOP_STS_MODE, Reg.LOOP_VAL_OUT]
    omega
  unfold Dev.defocus
  rw [Dev.get_set_ne _ _ hne, Dev.onSlot, Dev.get_onDeck, Dev.get_slotForce_mode]
  rfl

/-- A slot's SCALE goes to its banks. -/
theorem scaleSet_seqKept {s : Nat} (hs : s < 8) (pp : Nat) (d : Dev) : SeqKept ex n d (scaleSet n s pp d) := by
  unfold scaleSet
  extract_lets v a scaled
  have hscaled : SeqKept ex n d scaled := (SeqKept.refl d).onDeck fun _ => by rfl
  exact .ite ((hscaled.setSlot hs (by decide)).onDeck fun _ => by rfl) hscaled

/-! ### States of the deck, of its spindle and of its sled -/

theorem Dev.deckState_seqKept (hex : Reg.SEQ_STS_STATE n ∈ ex) (st : Nat) (d : Dev) : SeqKept ex n d (d.deckState n st) := by
  unfold Dev.deckState Dev.since Dev.turnSince
  exact ((((SeqKept.refl (n := n) d).setListed st (by simp [seqFields]) hex).onDeck fun _ => by rfl).onDeck fun _ => by rfl).onDeck fun _ => by rfl

theorem Dev.dstate_deckState (n st : Nat) (d : Dev) : (d.deckState n st).dstate n = st % 2 ^ 4 := by
  rw [Dev.dstate, Dev.get_of_regs (Dev.deckState_regs n st d)]
  exact Dev.get_set_self ..

theorem Dev.seqStep_seqKept (hex : Reg.SEQ_STS_STEP n ∈ ex) (st : Nat) (d : Dev) : SeqKept ex n d (d.seqStep n st) :=
  (SeqKept.refl d).setListed st (by simp [seqFields]) hex

theorem Dev.chargeFree_seqKept (d : Dev) : SeqKept ex n d (d.chargeFree n) :=
  .ite (((SeqKept.refl d).set (by decide)).setLow (by decide) (by decide)) (.refl d)

theorem Dev.spnState_seqKept (hex : Reg.SPN_STS_STATE n ∈ ex) (st : Nat) (d : Dev) : SeqKept ex n d (d.spnState n st) := by
  unfold Dev.spnState
  have hstate : SeqKept ex n d (((d.set (Reg.SPN_STS_STATE n) st).since n aSPN).since n aSLOW) :=
    (((SeqKept.refl (n := n) d).setListed st (by simp [seqFields]) hex).onDeck fun _ => by rfl).onDeck fun _ => by rfl
  exact .ite (hstate.trans (Dev.chargeFree_seqKept _)) hstate

theorem Dev.get_chargeFree_spnState (n : Nat) (d : Dev) : (d.chargeFree n).get (Reg.SPN_STS_STATE n) = d.get (Reg.SPN_STS_STATE n) :=
  (d.chargeFree_seqKept (ex := [])).regs _ (by simp [seqFields]) List.not_mem_nil

theorem Dev.get_spnState (n st : Nat) (d : Dev) : (d.spnState n st).get (Reg.SPN_STS_STATE n) = st % 2 ^ 4 := by
  unfold Dev.spnState
  extract_lets e
  have hstate : e.get (Reg.SPN_STS_STATE n) = st % 2 ^ 4 := Dev.get_set_self ..
  clear_value e
  split
  · rw [Dev.get_chargeFree_spnState, hstate]
  · exact hstate

theorem Dev.coilsShow_seqKept (d : Dev) : SeqKept ex n d (d.coilsShow n) := by
  refine .foldl (.refl d) fun e k hk => ?_
  have hfree : seqFree ((0x70010 + k * 0x4) * 32) := by
    simp only [List.mem_cons, List.not_mem_nil, or_false] at hk
    rcases hk with rfl | rfl | rfl <;> decide
  exact (SeqKept.refl e).setAt hfree

theorem Dev.coilsDown_seqKept (d : Dev) : SeqKept ex n d (d.coilsDown n) := ((SeqKept.refl d).onDeck fun _ => by rfl).trans (Dev.coilsShow_seqKept _)

theorem Dev.sldBegin_seqKept (c : Clock) (st cmd : Nat) (d : Dev) : SeqKept ex n d (d.sldBegin c n st cmd) :=
  ((((SeqKept.refl d).onDeck fun _ => by rfl).set (by decide)).set (by decide))

theorem Dev.sldEnd_seqKept (result : Nat) (d : Dev) : SeqKept ex n d (d.sldEnd n result) :=
  ((((SeqKept.refl d).onDeck fun _ => by rfl).set (by decide)).set (by decide))

theorem sldMove_seqKept (c : Clock) (rel : Bool) (target : Int) (d : Dev) : SeqKept ex n d (sldMove c n rel target d) :=
  .ite ((d.sldBegin_seqKept ..).onDeck fun _ => by rfl) ((SeqKept.refl d).set (by decide))

theorem sldStop_seqKept (c : Clock) (d : Dev) : SeqKept ex n d (sldStop c n d) :=
  .ite (.refl d) (.ite ((((SeqKept.refl d).set (by decide)).onDeck fun _ => by rfl).trans (Dev.sldEnd_seqKept ..))
    (.ite (d.sldEnd_seqKept ..) ((d.sldBegin_seqKept ..).onDeck fun _ => by rfl)))

theorem Dev.spnTake_seqKept (cmd : Nat) (d : Dev) : SeqKept ex n d (d.spnTake n cmd) := by
  unfold Dev.spnTake
  have hbusy : SeqKept ex n d (if d.getB (Reg.SPN_CMD_BUSY n) then d.set (Reg.SPN_CMD_RESULT n) 4 else d) :=
    .ite ((SeqKept.refl d).set (by decide)) (.refl d)
  exact (hbusy.onDeck fun _ => by rfl).set (by decide)

/-- STOP by the winding short of a spindle that turns, with the bus not under voltage. -/
theorem spnStop_short {d : Dev} (hst : d.spnSt n ≠ spOFF) (huv : d.getB Reg.PWR_VM_STS_UV = false) :
    SeqKept [Reg.SPN_STS_STATE n] n d (spnStop n 0 d) ∧ (spnStop n 0 d).spnSt n = spSHORT := by
  unfold spnStop
  extract_lets named taken braked
  have hnamed : SeqKept [] n d named := (SeqKept.refl d).set (by decide)
  have htaken : SeqKept [] n named taken := (named.spnTake_seqKept 2).onDeck fun _ => by rfl
  have hst' : named.spnSt n ≠ spOFF := by
    rw [Dev.spnSt, hnamed.regs _ (by simp [seqFields]) List.not_mem_nil]
    exact hst
  have huv' : taken.getB Reg.PWR_VM_STS_UV = false := by
    rw [Dev.getB, (hnamed.trans htaken).regs _ (by simp [seqFields]) List.not_mem_nil, ← Dev.getB, huv]
  have hmethod : ¬((0 : Nat) = 1 ∧ taken.getB Reg.PWR_VM_STS_BRAKE_FAULT = true) := fun h => absurd h.1 (by decide)
  have hbraked : braked = taken := if_neg hmethod
  rw [if_neg hst', huv', if_neg Bool.false_ne_true, if_neg (fun h => absurd h.1 (by decide)), hbraked]
  refine ⟨?_, Dev.get_spnState ..⟩
  have hkept : SeqKept [Reg.SPN_STS_STATE n] n d taken := ((SeqKept.refl d).set (by decide)).trans ((named.spnTake_seqKept 2).onDeck fun _ => by rfl)
  exact (hkept.onDeck fun _ => by rfl).trans (Dev.spnState_seqKept (.head _) spSHORT _)

end

end Sys2Proof.Machine
end

section
/-! SUPPORT. The steps of a loading and of a park, the entry to FAULT and the change of a zone, and the statement on them (R53, R355,
R358 to R365). -/

open Sys2Proof Sys2Proof.Machine

namespace Sys2Proof.Machine

/-! ### Reading what a step kept -/

section
variable {ex : List Fld} {n : Nat} {d e : Dev}

theorem SeqKept.dstate (h : SeqKept ex n d e) (hex : Reg.SEQ_STS_STATE n ∉ ex) : e.dstate n = d.dstate n :=
  h.regs _ (by simp [seqFields]) hex

theorem SeqKept.tbState (h : SeqKept ex n d e) (hex : Reg.ANG_STS_STATE n ∉ ex) : e.tbState n = d.tbState n :=
  h.regs _ (by simp [seqFields]) hex

theorem SeqKept.spnSt (h : SeqKept ex n d e) (hex : Reg.SPN_STS_STATE n ∉ ex) : e.spnSt n = d.spnSt n :=
  h.regs _ (by simp [seqFields]) hex

theorem SeqKept.step (h : SeqKept ex n d e) (hex : Reg.SEQ_STS_STEP n ∉ ex) : e.get (Reg.SEQ_STS_STEP n) = d.get (Reg.SEQ_STS_STEP n) :=
  h.regs _ (by simp [seqFields]) hex

theorem SeqKept.job (h : SeqKept ex n d e) : (e.deck n).seq.job = (d.deck n).seq.job := congrArg (fun c => c.1.job) h.core

theorem SeqKept.travel (h : SeqKept ex n d e) : (e.deck n).seq.travel = (d.deck n).seq.travel := congrArg (fun c => c.1.travel) h.core

theorem SeqKept.layerTgt (h : SeqKept ex n d e) : (e.deck n).seq.layerTgt = (d.deck n).seq.layerTgt :=
  congrArg (fun c => c.1.layerTgt) h.core

theorem SeqKept.newMode (h : SeqKept ex n d e) : (e.deck n).seq.newMode = (d.deck n).seq.newMode :=
  congrArg (fun c => c.1.newMode) h.core

theorem SeqKept.laneMode (h : SeqKept ex n d e) : (e.deck n).seq.laneMode = (d.deck n).seq.laneMode :=
  congrArg (fun c => c.1.laneMode) h.core

theorem SeqKept.sweeps (h : SeqKept ex n d e) : (e.deck n).seq.sweeps = (d.deck n).seq.sweeps := congrArg (fun c => c.1.sweeps) h.core

theorem SeqKept.mounted (h : SeqKept ex n d e) : (e.deck n).mounted = (d.deck n).mounted := congrArg Prod.snd h.core

end

section
variable {n : Nat}

/-! ### The entry to FAULT (R355, R366) -/

theorem Dev.seqEnd_deckOnly (n result : Nat) (d : Dev) : DeckOnly n d (d.seqEnd n result) := fun m hm => by
  rw [Dev.seqEnd, Dev.deck_set, Dev.deck_set, Dev.deck_onDeck_ne _ _ hm]

/-- A deck at FAULT with a cause, and nothing changed on other decks. -/
structure Faulted (n cause : Nat) (d e : Dev) : Prop where
  state : e.dstate n = dFAULT
  cause : e.get (Reg.SEQ_STS_CAUSE n) = cause % 2 ^ 4
  others : DeckOnly n d e

theorem Faulted.onDeck {cause : Nat} {d e : Dev} (h : Faulted n cause d e) (g : Deck → Deck) : Faulted n cause d (e.onDeck n g) :=
  ⟨h.state, h.cause, h.others.trans (.onDeck n g e)⟩

/-- What leaves the state and the cause keeps the deck at FAULT. -/
theorem Faulted.kept {cause : Nat} {d e f : Dev} (h : Faulted n cause d e)
    (hk : SeqKept [Reg.SEQ_STS_STEP n, Reg.ANG_STS_STATE n] n e f) : Faulted n cause d f := by
  refine ⟨(hk.dstate ?_).trans h.state, (hk.regs _ (by simp [seqFields]) ?_).trans h.cause, h.others.trans hk.others⟩
  · simp [Reg.SEQ_STS_STATE, Reg.SEQ_STS_STEP, Reg.ANG_STS_STATE]
  · simp [Reg.SEQ_STS_CAUSE, Reg.SEQ_STS_STEP, Reg.ANG_STS_STATE]

theorem faulted_deckState {d e : Dev} (h : DeckOnly n d e) (cause : Nat) :
    Faulted n cause d ((e.deckState n dFAULT).set (Reg.SEQ_STS_CAUSE n) cause) := by
  refine ⟨?_, Dev.get_set_self .., fun m hm => ?_⟩
  · rw [Dev.dstate, Dev.get_set_ne _ _ (by simp [Fld.key, Reg.SEQ_STS_STATE, Reg.SEQ_STS_CAUSE]), ← Dev.dstate, Dev.dstate_deckState]
    rfl
  · rw [Dev.deck_set, Dev.deckState_deckOnly n dFAULT e m hm, h m hm]

/-- A deck that is not at FAULT goes there. -/
theorem deckFault_faulted {d : Dev} (h : d.dstate n ≠ dFAULT) (c : Clock) (cause : Nat) : Faulted n cause d (d.deckFault c n cause) := by
  unfold Dev.deckFault
  rw [if_neg h]
  extract_lets left ended faulted freed cleared parked disabled
  have hended : DeckOnly n d ended := by
    simp only [ended]
    split
    · exact fun m hm => Dev.seqEnd_deckOnly n _ d m hm
    · exact fun m hm => Dev.deck_onDeck_ne _ _ hm
  have hfaulted : Faulted n cause d faulted := (faulted_deckState hended cause).onDeck _
  have hfreed : SeqKept [Reg.SEQ_STS_STEP n, Reg.ANG_STS_STATE n] n faulted freed :=
    ((SeqKept.refl faulted).setListed 0 (by simp [seqFields]) (.head _)).trans (Dev.chargeFree_seqKept _)
  have hcleared : Faulted n cause d cleared := (hfaulted.kept hfreed).onDeck _
  have hparked : SeqKept [Reg.SEQ_STS_STEP n, Reg.ANG_STS_STATE n] n cleared parked :=
    ((SeqKept.refl cleared).set (by decide)).trans (Dev.lanesStandby_seqKept _)
  have hdisabled : SeqKept [Reg.SEQ_STS_STEP n, Reg.ANG_STS_STATE n] n parked disabled :=
    (parked.gateShut_seqKept c).trans (Dev.tbDisable_seqKept c (.tail _ (.head _)) _)
  exact hcleared.kept ((hparked.trans hdisabled).trans (Dev.fault_seqKept c _ (Nat.ne_of_beq_eq_false rfl) _))

/-! ### The focus sweep and its capture (R358) -/

/-- The move of a sweep, through twice the distance of DEFOCUS. -/
def sweepMove (c : Clock) (n : Nat) (d : Dev) : Prof :=
  { kind := 1, start := 0, target := 2 * ((d.getI (Reg.ACT_SAFE_CFG_DEFOCUS n)).natAbs : Int) * 32, t0 := c.tick, bySeq := true,
    sweep := true }

/-- A sweep starts in OPEN from DEFOCUS. -/
theorem focusSweepStart_spec {d : Dev} (hst : d.dstate n = dSPINNING) (hrun : d.spnSt n = spRUN)
    (hrpm : 100 * (d.get (Reg.SEQ_LOAD_CFG_FS_RPM n) : Int) ≤ d.spnRpm n) (hjob : (d.deck n).seq.job = 1)
    (hprof : ((d.deck n).slot 0).prof = none) (hlaser : (d.deck n).link.laserMode = 1) (c : Clock) :
    focusSweepStart c n d = (((d.defocus n).onSlot n 0 (fun a => { a with prof := some (sweepMove c n d), profPos := 0 })).set
      (Reg.LOOP_PROF_CTL_BUSY n 0) 1).seqStep n 6 := by
  have hdefocus : (d.defocus n).getI (Reg.ACT_SAFE_CFG_DEFOCUS n) = d.getI (Reg.ACT_SAFE_CFG_DEFOCUS n) := by
    have h : SeqKept [Reg.LOOP_STS_MODE n 0] n d (d.defocus n) := d.defocus_seqKept (.head _)
    rw [Dev.getI, h.regs _ (by simp [seqFields]) (by simp [Reg.ACT_SAFE_CFG_DEFOCUS, Reg.LOOP_STS_MODE]), ← Dev.getI]
  have hgo : ¬(d.dstate n ≠ dSPINNING ∨ d.spnSt n ≠ spRUN ∨ d.spnRpm n < 100 * d.get (Reg.SEQ_LOAD_CFG_FS_RPM n) ∨
      (d.deck n).seq.job = 0 ∨ ((d.deck n).slot 0).prof.isSome = true) := by
    simp [hst, hrun, hjob, hprof, Int.not_lt.2 hrpm]
  unfold focusSweepStart
  rw [if_neg hgo, if_neg (by rw [hlaser]; decide), sweepMove, ← hdefocus]

theorem Dev.get_seqStep_ne {g : Fld} (h : g.key ≠ (Reg.SEQ_STS_STEP n).key) (st : Nat) (d : Dev) :
    (d.seqStep n st).get g = d.get g := Dev.get_set_ne _ _ h

/-- The timebase of a deck that enters SEARCH. -/
theorem Dev.tbState_tbSearch (c : Clock) (n : Nat) (d : Dev) : (d.tbSearch c n).tbState n = tbSEARCH := by
  unfold Dev.tbSearch
  extract_lets blank searching measured
  have hkept : SeqKept [] n searching (measured.tbLoseAngle c n) := ((SeqKept.refl searching).set (by decide)).trans (Dev.tbLoseAngle_seqKept ..)
  rw [hkept.tbState List.not_mem_nil]
  exact Dev.get_set_self ..

/-- FOCUS_CAPTURE up to the timebase: FOCUSED in step 7, slot 0 CLOSED, the layer travel noted. -/
theorem focusCapture_spec {c : Clock} {d : Dev} {peaks : List SumPeak} (hst : d.dstate n = dSPINNING)
    (hprof : ((d.deck n).slot 0).prof.isSome = true) (htb : d.tbState n = tbOFF) (hpeaks : 2 ≤ (sCurves d n peaks).length)
    (lens : Int) : ∃ x, focusCapture c n peaks lens d = (x.ownTriggers n).tbSearch c n ∧ x.dstate n = dFOCUSED ∧
      x.get (Reg.SEQ_STS_STEP n) = 7 ∧ x.get (Reg.LOOP_STS_MODE n 0) = 2 ∧
      (x.deck n).seq.travel = Config.rnd (lens * 12) 100 ∧ DeckOnly n d x := by
  obtain ⟨s, hs⟩ : ∃ s, (sCurves d n peaks)[1]? = some s := ⟨_, List.getElem?_eq_getElem (by omega)⟩
  have hgo : ¬(d.dstate n ≠ dSPINNING ∨ ((d.deck n).slot 0).prof = none) := by
    rw [not_or, not_not]
    exact ⟨hst, Option.ne_none_iff_isSome.2 hprof⟩
  unfold focusCapture
  rw [hs]
  dsimp only
  rw [if_neg hgo]
  have hforced : SeqKept [Reg.LOOP_STS_MODE n 0] n d ((scaleSet n 0 s.pp (d.profStop n 0)).slotForce n 0 2) :=
    ((d.profStop_seqKept (by decide)).trans (scaleSet_seqKept (by decide) ..)).trans (Dev.slotForce_seqKept (by decide) (.head _) ..)
  have hmode := Dev.get_slotForce_mode n 0 2 (scaleSet n 0 s.pp (d.profStop n 0))
  generalize (scaleSet n 0 s.pp (d.profStop n 0)).slotForce n 0 2 = forced at hforced hmode
  generalize hrest : (forced.onSlot n 0 fun a => { a with profPos := 0 }) = rest
  generalize htravel : (rest.onSeq n fun s => { s with travel := Config.rnd (lens * 12) 100 }) = travelled
  have hregs : travelled.regs = forced.regs := by
    rw [← htravel, ← hrest]
    rfl
  have hothers : DeckOnly n forced travelled := fun m hm => by
    rw [← htravel, ← hrest, Dev.onSeq, Dev.onSlot, Dev.deck_onDeck_ne _ _ hm, Dev.deck_onDeck_ne _ _ hm]
  have hshown : SeqKept [Reg.SEQ_STS_STATE n, Reg.SEQ_STS_STEP n] n travelled ((travelled.deckState n dFOCUSED).seqStep n 7) :=
    (Dev.deckState_seqKept (.head _) ..).trans (Dev.seqStep_seqKept (.tail _ (.head _)) ..)
  have hoff : ((travelled.deckState n dFOCUSED).seqStep n 7).tbState n = tbOFF := by
    rw [hshown.tbState (by simp [Reg.ANG_STS_STATE, Reg.SEQ_STS_STATE, Reg.SEQ_STS_STEP]), Dev.tbState, Dev.get_of_regs hregs,
      ← Dev.tbState, hforced.tbState (by simp [Reg.ANG_STS_STATE, Reg.LOOP_STS_MODE]), htb]
  refine ⟨(travelled.deckState n dFOCUSED).seqStep n 7, ?_, ?_, Dev.get_set_self .., ?_, ?_, ?_⟩
  · rw [Dev.tbEnable, if_pos hoff]
  · rw [Dev.dstate, Dev.get_seqStep_ne (by simp [Fld.key, Reg.SEQ_STS_STATE, Reg.SEQ_STS_STEP]), ← Dev.dstate, Dev.dstate_deckState]
    rfl
  · rw [hshown.regs _ (by simp [seqFields]) (by simp [Reg.LOOP_STS_MODE, Reg.SEQ_STS_STATE, Reg.SEQ_STS_STEP]),
      Dev.get_of_regs hregs, hmode]
    rfl
  · rw [hshown.travel, ← htravel, Dev.onSeq, Dev.deck_onDeck_self]
  · exact (hforced.others.trans hothers).trans hshown.others

/-! ### The layer and the track (R359, R360) -/

theorem stageMap_seqKept {ex : List Fld} (d : Dev) : SeqKept ex n d (stageMap n d) := by
  unfold stageMap
  exact .ite (.refl d) (.onDeck (.refl d) fun _ => by rfl)

/-- LAYER_IDENTIFIED on eight like fields of a CG2 layer that is the one asked for. -/
theorem layerIdentified_spec {d : Dev} {f l : Nat} (hst : d.dstate n = dFOCUSED) (htb : d.tbState n = tbLOCKED)
    (hstep : d.get (Reg.SEQ_STS_STEP n) = 7) (hf : layerOf f = some (2, l)) (hl : l = (d.deck n).seq.layerTgt) (c : Clock) :
    ∃ x, layerIdentified c n (List.replicate 8 f) d = (((stageMap n x).slotForce n 2 2).turnSince n tSEQ).seqStep n 8 ∧
      x = ((d.set (Reg.SEQ_STS_LAYER n) l).set (Reg.SEQ_STS_GEN n) 2).onSeq n (fun s => { s with newMode := some 0 }) := by
  refine ⟨_, ?_, rfl⟩
  have hok : (List.replicate 8 f).filterMap layerOf = (2, l) :: List.replicate 7 (2, l) := by
    simp [List.replicate_succ, hf]
  have hgo : ¬(d.dstate n ≠ dFOCUSED ∨ d.tbState n ≠ tbLOCKED ∨ d.get (Reg.SEQ_STS_STEP n) ≠ 7 ∨ (List.replicate 8 f).length ≠ 8 ∨
      ((2, l) :: List.replicate 7 (2, l)).length < 5) := by
    simp [hst, htb, hstep]
  unfold layerIdentified
  rw [hok]
  dsimp only
  rw [if_neg hgo, if_neg (by simp), if_neg (by decide)]
  generalize hx : (((d.set (Reg.SEQ_STS_LAYER n) l).set (Reg.SEQ_STS_GEN n) 2).onSeq n fun s => { s with newMode := some (2 - 2) }) = x
  have hkept : SeqKept [Reg.LOOP_STS_MODE n 2] n x (((stageMap n x).slotForce n 2 2).turnSince n tSEQ) :=
    ((stageMap_seqKept x).trans (Dev.slotForce_seqKept (by decide) (.head _) ..)).onDeck fun _ => by rfl
  have htgt : l = ((((stageMap n x).slotForce n 2 2).turnSince n tSEQ).deck n).seq.layerTgt := by
    rw [hkept.layerTgt, ← hx, Dev.onSeq, Dev.deck_onDeck_self, Dev.deck_set, Dev.deck_set, ← hl]
  rw [if_pos htgt]

/-- TRACK_CAPTURE at a slow crossing with no known sled position begins a re-home. -/
theorem trackCapture_spec {d : Dev} {x : Crossing} (hst : d.dstate n = dFOCUSED) (hstep : d.get (Reg.SEQ_STS_STEP n) = 8)
    (htb : d.tbState n = tbLOCKED) (hmode : (d.deck n).seq.newMode = none) (hslow : slowCrossing d n x = true)
    (hpos : d.getB (Reg.SLD_STS_POS_OK n) = false) (c : Clock) :
    trackCapture c n x d = rehomeGo n ((((((scaleSet n 1 x.pp d).slotForce n 1 2).slotForce n 3 2).deckState n dTRACKING).seqStep n
      9).lanesRelease n) := by
  have hgo : ¬(d.dstate n ≠ dFOCUSED ∨ d.get (Reg.SEQ_STS_STEP n) ≠ 8 ∨ d.tbState n ≠ tbLOCKED ∨ (d.deck n).seq.newMode ≠ none ∨
      slowCrossing d n x = false) := by
    simp [hst, hstep, htb, hmode, hslow]
  unfold trackCapture
  rw [if_neg hgo]
  dsimp only
  have hkept : SeqKept [Reg.LOOP_STS_MODE n 1, Reg.LOOP_STS_MODE n 3, Reg.SEQ_STS_STATE n, Reg.SEQ_STS_STEP n] n d
      ((((((scaleSet n 1 x.pp d).slotForce n 1 2).slotForce n 3 2).deckState n dTRACKING).seqStep n 9).lanesRelease n) :=
    (((((scaleSet_seqKept (by decide) ..).trans (Dev.slotForce_seqKept (by decide) (by simp) ..)).trans
      (Dev.slotForce_seqKept (by decide) (by simp) ..)).trans (Dev.deckState_seqKept (by simp) ..)).trans
      (Dev.seqStep_seqKept (by simp) ..)).trans (Dev.lanesRelease_seqKept _)
  generalize (((((scaleSet n 1 x.pp d).slotForce n 1 2).slotForce n 3 2).deckState n dTRACKING).seqStep n 9).lanesRelease n = e at hkept ⊢
  have hpos' : e.getB (Reg.SLD_STS_POS_OK n) = false := by
    rw [Dev.getB, hkept.regs _ (by simp [seqFields]) (by simp [Reg.SLD_STS_POS_OK, Reg.LOOP_STS_MODE, Reg.SEQ_STS_STATE, Reg.SEQ_STS_STEP]),
      ← Dev.getB, hpos]
  rw [if_pos (Or.inl hpos')]

/-! ### The park of an idle deck (R363, R364) -/

/-- The modes and steps that a park shows. -/
def parkFields (n : Nat) : List Fld :=
  [Reg.SEQ_STS_STEP n, Reg.ANG_STS_STATE n, Reg.LOOP_STS_MODE n 0, Reg.LOOP_STS_MODE n 1, Reg.LOOP_STS_MODE n 2, Reg.LOOP_STS_MODE n 3]

/-- A park begins: its job is noted and whatever the sequencer was about is dropped. -/
def Dev.parkBegin (n job : Nat) (d : Dev) : Dev :=
  ((d.deckState n dPARKING).onSeq n (fun s => { s with
    job := job, pendPark := false, chargeReq := none, rehome := 0, opc := false, writing := false, newZone := none,
    newMode := none })).onDeck n (fun k => { k with seqPend := [] })

/-- Gate and lanes of a deck that parks, its loops, then coils, laser and timebase. -/
def Dev.parkQuiet (c : Clock) (n : Nat) (d : Dev) : Dev := ((d.gateShut c n).lanesStandby n).set (Reg.SEQ_STS_BUDGET_WAIT n) 0

def Dev.parkLoops (n : Nat) (d : Dev) : Dev := ([1, 2, 3] : List Nat).foldl (fun d s => d.slotForce n s 0) ((d.profStop n 0).defocus n)

def Dev.parkOff (c : Clock) (n : Nat) (d : Dev) : Dev := (((d.coilsDown n).laser n 0).tbDisable c n).chargeFree n

/-- The sled of a deck that parks goes to PARK_POS, once at rest. -/
def Dev.parkSledGo (c : Clock) (n : Nat) (rest : Bool) (d : Dev) : Dev :=
  if d.getB (Reg.SLD_STS_POS_OK n) = false then d
  else if rest then sldMove c n false (d.getI (Reg.SEQ_PARK_POS_PARK_POS n)) d
  else (sldStop c n d).onSeq n (fun s => { s with parkMove := true })

/-- The step that a park shows. -/
def Dev.parkStep (n : Nat) (d : Dev) : Dev := d.seqStep n (if d.getB (Reg.SLD_STS_POS_OK n) then 4 else 5)

theorem parkGo_eq (c : Clock) (n job : Nat) (d : Dev) : parkGo c n job d = parkEnd n (spnStop n 0
    ((((((d.parkBegin n job).parkQuiet c n).parkLoops n).parkOff c n).parkSledGo c n (d.sldRest n)).parkStep n)) := rfl

theorem Dev.parkQuiet_seqKept {ex : List Fld} (c : Clock) (d : Dev) : SeqKept ex n d (d.parkQuiet c n) :=
  ((d.gateShut_seqKept c).trans (Dev.lanesStandby_seqKept _)).set (by decide)

theorem Dev.parkLoops_seqKept (d : Dev) : SeqKept (parkFields n) n d (d.parkLoops n) := by
  refine .foldl ((d.profStop_seqKept (by decide)).trans (Dev.defocus_seqKept (by simp [parkFields]) _)) fun e s hs => ?_
  simp only [List.mem_cons, List.not_mem_nil, or_false] at hs
  rcases hs with rfl | rfl | rfl
  · exact e.slotForce_seqKept (by decide) (by simp [parkFields]) 0
  · exact e.slotForce_seqKept (by decide) (by simp [parkFields]) 0
  · exact e.slotForce_seqKept (by decide) (by simp [parkFields]) 0

theorem Dev.parkOff_seqKept (c : Clock) (d : Dev) : SeqKept (parkFields n) n d (d.parkOff c n) :=
  ((d.coilsDown_seqKept.trans (Dev.laser_seqKept 0 _)).trans (Dev.tbDisable_seqKept c (by simp [parkFields]) _)).trans
    (Dev.chargeFree_seqKept _)

theorem Dev.parkSledGo_seqKept {ex : List Fld} (c : Clock) (rest : Bool) (d : Dev) : SeqKept ex n d (d.parkSledGo c n rest) :=
  .ite (.refl d) (.ite (sldMove_seqKept ..) ((sldStop_seqKept c d).onDeck fun _ => by rfl))

/-- What a park does before the spindle's STOP leaves all but the modes and steps that it shows. -/
theorem park_seqKept (c : Clock) (rest : Bool) (d : Dev) :
    SeqKept (parkFields n) n d (((((d.parkQuiet c n).parkLoops n).parkOff c n).parkSledGo c n rest).parkStep n) :=
  ((((d.parkQuiet_seqKept c).trans (Dev.parkLoops_seqKept _)).trans (Dev.parkOff_seqKept c _)).trans
    (Dev.parkSledGo_seqKept c rest _)).trans (Dev.seqStep_seqKept (by simp [parkFields]) _ _)

theorem Dev.deck_parkBegin (n job : Nat) (d : Dev) : ((d.parkBegin n job).deck n).seq.job = job ∧
    ((d.parkBegin n job).deck n).mounted = ((d.deckState n dPARKING).deck n).mounted := by
  rw [Dev.parkBegin, Dev.onSeq, Dev.deck_onDeck_self, Dev.deck_onDeck_self]
  exact ⟨rfl, rfl⟩

theorem Dev.parkBegin_deckOnly (n job : Nat) (d : Dev) : DeckOnly n d (d.parkBegin n job) := fun m hm => by
  rw [Dev.parkBegin, Dev.onSeq, Dev.deck_onDeck_ne _ _ hm, Dev.deck_onDeck_ne _ _ hm]
  exact d.deckState_deckOnly n dPARKING m hm

theorem Dev.get_parkBegin (n job : Nat) (d : Dev) (f : Fld) : (d.parkBegin n job).get f = (d.deckState n dPARKING).get f := by
  rw [Dev.parkBegin, Dev.onSeq, Dev.get_onDeck, Dev.get_onDeck]

/-- A park of a deck whose spindle runs goes through the winding short. -/
theorem parkGo_spec {d : Dev} (hrun : d.spnSt n = spRUN) (huv : d.getB Reg.PWR_VM_STS_UV = false) (c : Clock) (job : Nat) :
    (parkGo c n job d).dstate n = dPARKING ∧ (parkGo c n job d).spnSt n = spSHORT ∧ ((parkGo c n job d).deck n).seq.job = job ∧
      ((parkGo c n job d).deck n).mounted = (d.deck n).mounted ∧ DeckOnly n d (parkGo c n job d) := by
  have hstate : SeqKept [Reg.SEQ_STS_STATE n] n d (d.deckState n dPARKING) := Dev.deckState_seqKept (.head _) ..
  have hall := park_seqKept (n := n) c (d.sldRest n) (d.parkBegin n job)
  obtain ⟨hjob, hmounted⟩ := d.deck_parkBegin n job
  rw [parkGo_eq]
  generalize (((((d.parkBegin n job).parkQuiet c n).parkLoops n).parkOff c n).parkSledGo c n (d.sldRest n)).parkStep n = stepped at hall ⊢
  have hrunning : stepped.spnSt n = spRUN := by
    rw [hall.spnSt (by simp [parkFields, Reg.SPN_STS_STATE, Reg.SEQ_STS_STEP, Reg.ANG_STS_STATE, Reg.LOOP_STS_MODE]), Dev.spnSt,
      Dev.get_parkBegin, ← Dev.spnSt, hstate.spnSt (by simp [Reg.SPN_STS_STATE, Reg.SEQ_STS_STATE]), hrun]
  have hvm : stepped.getB Reg.PWR_VM_STS_UV = false := by
    rw [Dev.getB, hall.regs _ (by simp [seqFields])
      (by simp [parkFields, Reg.PWR_VM_STS_UV, Reg.SEQ_STS_STEP, Reg.ANG_STS_STATE, Reg.LOOP_STS_MODE]), Dev.get_parkBegin,
      hstate.regs _ (by simp [seqFields]) (by simp [Reg.PWR_VM_STS_UV, Reg.SEQ_STS_STATE]), ← Dev.getB, huv]
  obtain ⟨hstop, hshort⟩ := spnStop_short (n := n) (by rw [hrunning]; decide) hvm
  have hend : parkEnd n (spnStop n 0 stepped) = spnStop n 0 stepped := by
    refine if_neg fun h => ?_
    rw [hshort] at h
    exact absurd h.2 (by decide)
  rw [hend]
  refine ⟨?_, hshort, ?_, ?_, ?_⟩
  · rw [hstop.dstate (by simp [Reg.SEQ_STS_STATE, Reg.SPN_STS_STATE]),
      hall.dstate (by simp [parkFields, Reg.SEQ_STS_STATE, Reg.SEQ_STS_STEP, Reg.ANG_STS_STATE, Reg.LOOP_STS_MODE]), Dev.dstate,
      Dev.get_parkBegin, ← Dev.dstate, Dev.dstate_deckState]
    rfl
  · rw [hstop.job, hall.job, hjob]
  · rw [hstop.mounted, hall.mounted, hmounted, hstate.mounted]
  · exact ((d.parkBegin_deckOnly n job).trans hall.others).trans hstop.others

end

/-! ### Zones (R84, R362) -/

theorem mem_zones_of_zoneOf {swath : Nat} {z : Zone} (h : zoneOf swath = some z) : z ∈ zones := List.mem_of_find?_eq_some h

/-- The zones have each their own count of sectors, and speeds that the spindle takes. -/
theorem zones_table : (∀ y ∈ zones, ∀ z ∈ zones, y.p = z.p → y.num = z.num) ∧ ∀ z ∈ zones, 600 ≤ z.readRpm ∧ z.readRpm ≤ 15000 := by
  decide +kernel

theorem mapOf_of_zone {gen swath : Nat} {z : Zone} (hgen : gen ≠ 1) (h : zoneOf swath = some z) : mapOf gen swath = some (z.p, z.s) := by
  rw [mapOf, if_neg hgen, h, Option.map_some]

/-- Within a zone at its speed only the swath changes. -/
theorem zoneGo_within {d : Dev} {n swath : Nat} {z : Zone} (hglean : d.gleaning n = false) (hseen : (d.deck n).seen = [])
    (hgen : d.get (Reg.SEQ_STS_GEN n) ≠ 1) (hrpm : (d.deck n).spn.target = swathRpm d n swath) (hz : zoneOf swath = some z)
    (hy : zoneOf (d.deck n).seq.swath = some z) (c : Clock) :
    zoneGo c n swath d = d.onSeq n (fun s => { s with swath := swath }) := by
  have htarget : ((d.onSeq n fun s => { s with swath := swath }).deck n).spn.target = swathRpm d n swath := by
    rw [Dev.onSeq, Dev.deck_onDeck_self, hrpm]
  unfold zoneGo
  dsimp only
  rw [mapOf_of_zone hgen hz, mapOf_of_zone hgen hy]
  dsimp only
  rw [if_neg (by simp [hglean, hseen]), if_pos (Or.inl ⟨beq_self_eq_true _, htarget⟩)]

theorem spnSetSpeed_running {d : Dev} {n rpm : Nat} (hrun : d.spnSt n = spRUN) (hlow : 600 ≤ rpm) (hhigh : rpm ≤ 15000) :
    spnSetSpeed n rpm d = ((d.spnTake n 4).set (Reg.SPN_CMD_TARGET_RPM n) rpm).onSpn n (fun s => { s with target := rpm }) := by
  refine if_neg ?_
  simp only [hrun, ne_eq, not_true_eq_false, false_or]
  omega

theorem Dev.seq_onSeq (d : Dev) (n : Nat) (f : Seqr → Seqr) : ((d.onSeq n f).deck n).seq = f (d.deck n).seq := by
  rw [Dev.onSeq, Dev.deck_onDeck_self]

theorem Dev.spn_onSeq (d : Dev) (n : Nat) (f : Seqr → Seqr) : ((d.onSeq n f).deck n).spn = (d.deck n).spn := by
  rw [Dev.onSeq, Dev.deck_onDeck_self]

theorem Dev.seq_onSpn (d : Dev) (n : Nat) (f : Spindle → Spindle) : ((d.onSpn n f).deck n).seq = (d.deck n).seq := by
  rw [Dev.onSpn, Dev.deck_onDeck_self]

theorem Dev.spn_onSpn (d : Dev) (n : Nat) (f : Spindle → Spindle) : ((d.onSpn n f).deck n).spn = f (d.deck n).spn := by
  rw [Dev.onSpn, Dev.deck_onDeck_self]

theorem Dev.seq_staged (d : Dev) (n : Nat) (l : List SeqPend) :
    ((d.onDeck n fun k => { k with seqPend := l }).deck n).seq = (d.deck n).seq := by
  rw [Dev.deck_onDeck_self]

theorem Dev.spn_staged (d : Dev) (n : Nat) (l : List SeqPend) :
    ((d.onDeck n fun k => { k with seqPend := l }).deck n).spn = (d.deck n).spn := by
  rw [Dev.deck_onDeck_self]

theorem Dev.deck_spnTake (n cmd : Nat) (d : Dev) :
    (d.spnTake n cmd).deck n = { d.deck n with spn := { (d.deck n).spn with cmd := cmd } } := by
  have hbusy : (if d.getB (Reg.SPN_CMD_BUSY n) then d.set (Reg.SPN_CMD_RESULT n) 4 else d).deck n = d.deck n := by
    split
    · exact Dev.deck_set ..
    · rfl
  unfold Dev.spnTake
  rw [Dev.deck_set, Dev.onSpn, Dev.deck_onDeck_self, hbusy]

/-- The map of a new zone is staged for the revolution mark. -/
theorem stageMap_zone {d : Dev} {n swath : Nat} {m : Nat × Nat} (hzone : (d.deck n).seq.newZone = some swath)
    (hmap : mapOf (d.get (Reg.SEQ_STS_GEN n)) swath = some m) :
    ∃ p : SeqPend, p.trig = 5 ∧ stageMap n d = d.onDeck n (fun k => { k with seqPend := [p] }) := by
  unfold stageMap
  dsimp only
  rw [hzone, Option.bind_some, hmap, if_neg (by simp)]
  exact ⟨_, rfl, rfl⟩

/-- To a zone with a lower speed: the speed is set, the swath and the zone are noted and the map is staged. -/
theorem zoneGo_lower {d : Dev} {n swath : Nat} {y z : Zone} (hglean : d.gleaning n = false) (hseen : (d.deck n).seen = [])
    (hgen : d.get (Reg.SEQ_STS_GEN n) ≠ 1) (hz : zoneOf swath = some z) (hy : zoneOf (d.deck n).seq.swath = some y)
    (hyz : y.num ≠ z.num) (hst : d.dstate n = dREADY) (hwriting : (d.deck n).seq.writing = false) (hrun : d.spnSt n = spRUN)
    (hslower : z.readRpm < (d.deck n).spn.target) (hzswap : d.getB (Reg.SEQ_RECOV_CFG_ZSWAP n) = false) (c : Clock) :
    ∃ p : SeqPend, p.trig = 5 ∧ zoneGo c n swath d = ((spnSetSpeed n z.readRpm (d.onSeq n fun s => { s with swath := swath })).onSeq n
      fun s => { s with newZone := some swath }).onDeck n (fun k => { k with seqPend := [p] }) := by
  obtain ⟨hinj, hspeeds⟩ := zones_table
  have hmem := mem_zones_of_zoneOf hz
  have hsame : (some (y.p, y.s) == some (z.p, z.s)) = false := by
    refine beq_eq_false_iff_ne.2 fun h => hyz (hinj y (mem_zones_of_zoneOf hy) z hmem ?_)
    exact (Prod.mk.inj (Option.some.inj h)).1
  have hrpm : swathRpm d n swath = z.readRpm := by
    have hread : ¬(d.dstate n = dWRITING ∨ (d.deck n).seq.writing = true) := by
      rw [hst, hwriting]
      decide
    rw [swathRpm, hz]
    dsimp only
    rw [if_neg hgen, zoneRpm, if_neg hread]
  have hbase : (d.onSeq n fun s => { s with swath := swath }).dstate n = dREADY := hst
  have htarget : ((d.onSeq n fun s => { s with swath := swath }).deck n).spn.target = (d.deck n).spn.target := by
    rw [Dev.onSeq, Dev.deck_onDeck_self]
  have hregs : (d.onSeq n fun s => { s with swath := swath }).regs = d.regs := rfl
  unfold zoneGo
  dsimp only
  rw [mapOf_of_zone hgen hz, mapOf_of_zone hgen hy, hrpm]
  dsimp only
  rw [hsame, if_neg (by simp [hglean, hseen])]
  generalize (d.onSeq n fun s => { s with swath := swath }) = b at hbase htarget hregs ⊢
  have hgo : ¬(((false : Bool) = true ∧ (b.deck n).spn.target = z.readRpm) ∨ b.dstate n < dTRACKING ∨ dWRITING < b.dstate n) := by
    rw [hbase]
    simp [dREADY, dTRACKING, dWRITING]
  have hspeed : seqSpeed c n z.readRpm b = spnSetSpeed n z.readRpm b := if_neg (by rw [htarget]; omega)
  have hset := spnSetSpeed_running (d := b) (n := n) (by rw [Dev.spnSt, Dev.get_of_regs hregs, ← Dev.spnSt, hrun]) (hspeeds z hmem).1
    (hspeeds z hmem).2
  have hkept : SeqKept [] n b (spnSetSpeed n z.readRpm b) := by
    rw [hset]
    exact ((b.spnTake_seqKept 4).set (by decide)).onDeck fun _ => by rfl
  rw [if_neg hgo, if_neg Bool.false_ne_true, hspeed]
  generalize spnSetSpeed n z.readRpm b = b' at hkept
  have hgen' : (b'.onSeq n fun s => { s with newZone := some swath }).get (Reg.SEQ_STS_GEN n) = d.get (Reg.SEQ_STS_GEN n) := by
    rw [Dev.onSeq, Dev.get_onDeck, hkept.regs _ (by simp [seqFields]) List.not_mem_nil, Dev.get_of_regs hregs]
  obtain ⟨p, htrig, hstage⟩ := stageMap_zone (d := b'.onSeq n fun s => { s with newZone := some swath }) (n := n) (swath := swath)
    (m := (z.p, z.s)) (by rw [Dev.onSeq, Dev.deck_onDeck_self]) (by rw [hgen', mapOf_of_zone hgen hz])
  have hswap : ((b'.onSeq n fun s => { s with newZone := some swath }).onDeck n fun k => { k with seqPend := [p] }).getB
      (Reg.SEQ_RECOV_CFG_ZSWAP n) = false := by
    rw [Dev.getB_onDeck, Dev.onSeq, Dev.getB_onDeck, Dev.getB, hkept.regs _ (by simp [seqFields]) List.not_mem_nil,
      Dev.get_of_regs hregs, ← Dev.getB, hzswap]
  refine ⟨p, htrig, ?_⟩
  rw [hstage, hswap, if_neg Bool.false_ne_true]

/-! ### The rows (R355, R358 to R365) -/

section
variable {n : Fin 16} {d : Dev} (hon : d.deckOn n = true) (c : Clock) (q : List Instr)
include hon

theorem exec_focusSweepStart : exec (.focusSweepStart n) ⟨c, d, q⟩ = .next ⟨c, focusSweepStart c n d, q⟩ :=
  congrArg (fun e => Host.Outcome.next (State.mk c e q)) (if_pos hon)

theorem exec_focusSweepEnd : exec (.focusSweepEnd n) ⟨c, d, q⟩ = .next ⟨c, focusSweepEnd c n d, q⟩ :=
  congrArg (fun e => Host.Outcome.next (State.mk c e q)) (if_pos hon)

theorem exec_focusCapture (peaks : List SumPeak) (lens : Int) :
    exec (.focusCapture n peaks lens) ⟨c, d, q⟩ = .next ⟨c, focusCapture c n peaks lens d, q⟩ :=
  congrArg (fun e => Host.Outcome.next (State.mk c e q)) (if_pos hon)

theorem exec_layerIdentified (fields : List Nat) :
    exec (.layerIdentified n fields) ⟨c, d, q⟩ = .next ⟨c, layerIdentified c n fields d, q⟩ :=
  congrArg (fun e => Host.Outcome.next (State.mk c e q)) (if_pos hon)

theorem exec_trackCapture (x : Crossing) : exec (.trackCapture n x) ⟨c, d, q⟩ = .next ⟨c, trackCapture c n x d, q⟩ :=
  congrArg (fun e => Host.Outcome.next (State.mk c e q)) (if_pos hon)

theorem exec_seqTimeout : exec (.seqTimeout n) ⟨c, d, q⟩ = .next ⟨c, seqTimeout c n d, q⟩ :=
  congrArg (fun e => Host.Outcome.next (State.mk c e q)) (if_pos hon)

theorem exec_idleTimer : exec (.idleTimer n) ⟨c, d, q⟩ = .next ⟨c, idleTimer c n d, q⟩ :=
  congrArg (fun e => Host.Outcome.next (State.mk c e q)) (if_pos hon)

theorem exec_shockWindowEnd : exec (.shockWindowEnd n) ⟨c, d, q⟩ = .next ⟨c, shockWindowEnd n d, q⟩ :=
  congrArg (fun e => Host.Outcome.next (State.mk c e q)) (if_pos hon)

theorem exec_zoneChange (swath : Nat) : exec (.zoneChange n swath) ⟨c, d, q⟩ = .next ⟨c, zoneChange c n swath d, q⟩ :=
  congrArg (fun e => Host.Outcome.next (State.mk c e q)) (if_pos hon)

end

/-- The beginning of a re-home shows in no register. -/
theorem get_rehomeGo (n : Nat) (d : Dev) (f : Fld) : (rehomeGo n d).get f = d.get f := by
  rw [rehomeGo, Dev.turnSince, Dev.onSeq, Dev.get_onDeck, Dev.get_onDeck]

/-- The last sweep allowed ends at FAULT. -/
theorem focusSweepEnd_last {c : Clock} {d : Dev} {n : Nat} {p : Prof} (hst : d.dstate n = dSPINNING)
    (hprof : ((d.deck n).slot 0).prof = some p) (hover : p.t0 + d.get (Reg.SEQ_FOCUS_CFG_FS_MS n) * tickMs ≤ c.tick)
    (htry : d.get (Reg.SEQ_FOCUS_CFG_FS_TRY n) ≤ (d.deck n).seq.sweeps + 1) : Faulted n 3 d (focusSweepEnd c n d) := by
  have hstop : SeqKept [] n d (d.profStop n 0) := d.profStop_seqKept (by decide)
  have hgo : ¬(d.dstate n ≠ dSPINNING ∨ ((d.deck n).slot 0).prof.any (fun p =>
      decide (p.t0 + d.get (Reg.SEQ_FOCUS_CFG_FS_MS n) * tickMs ≤ c.tick)) = false) := by
    rw [hprof, Option.any_some, decide_eq_true hover]
    rintro (h | h)
    · exact h hst
    · exact Bool.noConfusion h
  unfold focusSweepEnd
  dsimp only
  rw [if_neg hgo]
  have hget : ∀ f, ((d.profStop n 0).onSeq n fun s => { s with sweeps := s.sweeps + 1 }).get f = (d.profStop n 0).get f := fun f => by
    rw [Dev.onSeq, Dev.get_onDeck]
  have hothers : DeckOnly n (d.profStop n 0) ((d.profStop n 0).onSeq n fun s => { s with sweeps := s.sweeps + 1 }) := fun m hm => by
    rw [Dev.onSeq, Dev.deck_onDeck_ne _ _ hm]
  have hsweeps : (((d.profStop n 0).onSeq n fun s => { s with sweeps := s.sweeps + 1 }).deck n).seq.sweeps =
      (d.deck n).seq.sweeps + 1 := by
    rw [Dev.onSeq, Dev.deck_onDeck_self]
    rw [hstop.sweeps]
  generalize ((d.profStop n 0).onSeq n fun s => { s with sweeps := s.sweeps + 1 }) = e at hget hothers hsweeps ⊢
  rw [hget, hsweeps, hstop.regs _ (by simp [seqFields]) List.not_mem_nil, if_pos htry]
  have hspinning : e.dstate n = dSPINNING := by
    rw [Dev.dstate, hget, ← Dev.dstate, hstop.dstate List.not_mem_nil, hst]
  obtain ⟨hstate, hcause, hdecks⟩ := deckFault_faulted (n := n) (by rw [hspinning]; decide) c 3
  exact ⟨hstate, hcause, (hstop.others.trans hothers).trans hdecks⟩

/-- The time-out of a deck that spins up, calibrates or parks. -/
theorem seqTimeout_faulted {d : Dev} {n : Nat} (hst : d.dstate n = dSPINNING ∨ d.dstate n = dCALIBRATING ∨ d.dstate n = dPARKING)
    (hlate : seqLate d n = true) (c : Clock) :
    Faulted n (if d.dstate n = dSPINNING then 2 else if d.dstate n = dCALIBRATING then 7 else 11) d (seqTimeout c n d) := by
  have hfault : d.dstate n ≠ dFAULT := by
    rcases hst with h | h | h <;> rw [h] <;> decide
  have hgo : ∀ st cause, d.dstate n = st → (if st = dSPINNING then 2 else if st = dCALIBRATING then 7 else 11) = cause →
      seqTimeout c n d = d.deckFault c n cause → Faulted n (if d.dstate n = dSPINNING then 2 else if d.dstate n = dCALIBRATING then 7
        else 11) d (seqTimeout c n d) := by
    intro st cause h hcause hrow
    rw [h, hcause, hrow]
    exact deckFault_faulted hfault c cause
  rcases hst with h | h | h
  · refine hgo dSPINNING 2 h rfl ?_
    simp [seqTimeout, hlate, h]
  · refine hgo dCALIBRATING 7 h rfl ?_
    simp [seqTimeout, hlate, h, dSPINNING, dFOCUSED, dTRACKING, dCALIBRATING]
  · refine hgo dPARKING 11 h rfl ?_
    simp [seqTimeout, hlate, h, dSPINNING, dFOCUSED, dTRACKING, dCALIBRATING, dPARKING]

/-! ### The statement -/

/-- Settles O36: each step is followed through the shared operations of the deck, which leave alone what the step shows. -/
theorem loadingSteps : Obligations.LoadingSteps := by
  unfold Obligations.LoadingSteps
  refine ⟨?sweepStart, ?sweepEnd, ?capture, ?layer, ?track, ?timeout, ?idle, ?shock, ?within, ?zone⟩
  case sweepStart =>
    rintro c d q n hon ⟨hst, hrun, hrpm⟩ ⟨hjob, hprof, hlaser⟩ _
    refine ⟨_, exec_focusSweepStart hon c q, ?_⟩
    rw [focusSweepStart_spec hst hrun hrpm hjob hprof hlaser c]
    have hdefocus : SeqKept [Reg.LOOP_STS_MODE n 0] n d (d.defocus n) := d.defocus_seqKept (.head _)
    refine ⟨?_, ?_, ?_, Dev.get_set_self .., fun m hm => ?_⟩
    · rw [Dev.get_seqStep_ne (by simp [Fld.key, Reg.LOOP_STS_MODE, Reg.SEQ_STS_STEP]),
        Dev.get_set_ne _ _ (by simp only [Fld.key, Reg.LOOP_STS_MODE, Reg.LOOP_PROF_CTL_BUSY]; omega), Dev.onSlot, Dev.get_onDeck,
        Dev.get_defocus_mode]
    · rw [Dev.seqStep, Dev.deck_set, Dev.deck_set, Dev.onSlot, Dev.deck_onDeck_self]
      rw [Deck.slot, FMap.get_ins_self, sweepMove]
    · rw [Dev.get_seqStep_ne (by simp only [Fld.key, Reg.LOOP_PROF_CTL_BUSY, Reg.SEQ_STS_STEP]; omega)]
      exact Dev.get_set_self ..
    · rw [Dev.seqStep, Dev.deck_set, Dev.deck_set, Dev.onSlot, Dev.deck_onDeck_ne _ _ hm, hdefocus.others m hm]
  case sweepEnd =>
    rintro c d q n p hon ⟨hst, hprof⟩ hover htry
    obtain ⟨hstate, hcause, hdecks⟩ := focusSweepEnd_last hst hprof hover htry
    exact ⟨_, exec_focusSweepEnd hon c q, hstate, hcause, hdecks⟩
  case capture =>
    rintro c d q n peaks lens hon ⟨hst, hprof, htb⟩ hpeaks
    obtain ⟨x, hx, hfocused, hstep, hmode, htravel, hdecks⟩ := focusCapture_spec hst hprof htb hpeaks lens
    refine ⟨_, exec_focusCapture hon c q peaks lens, ?_⟩
    rw [hx]
    have hkept : SeqKept [Reg.ANG_STS_STATE n] n x ((x.ownTriggers n).tbSearch c n) :=
      x.ownTriggers_seqKept.trans (Dev.tbSearch_seqKept c (.head _) _)
    refine ⟨?_, ?_, ?_, Dev.tbState_tbSearch .., ?_, hdecks.trans hkept.others⟩
    · rw [hkept.dstate (by simp [Reg.SEQ_STS_STATE, Reg.ANG_STS_STATE]), hfocused]
    · rw [hkept.step (by simp [Reg.SEQ_STS_STEP, Reg.ANG_STS_STATE]), hstep]
    · rw [hkept.regs _ (by simp [seqFields]) (by simp [Reg.LOOP_STS_MODE, Reg.ANG_STS_STATE]), hmode]
    · rw [hkept.travel, htravel]
  case layer =>
    rintro c d q n f l hon ⟨hst, htb, hstep⟩ ⟨hf, hl⟩
    obtain ⟨x, hid, hx⟩ := layerIdentified_spec hst htb hstep hf hl c
    refine ⟨_, exec_layerIdentified hon c q _, ?_⟩
    rw [hid]
    have hkept : SeqKept [Reg.LOOP_STS_MODE n 2, Reg.SEQ_STS_STEP n] n x ((((stageMap n x).slotForce n 2 2).turnSince n tSEQ).seqStep n 8) :=
      (((stageMap_seqKept x).trans (Dev.slotForce_seqKept (by decide) (.head _) ..)).onDeck fun _ => by rfl).trans
        (Dev.seqStep_seqKept (.tail _ (.head _)) ..)
    refine ⟨?_, ?_, ?_, ?_, ?_, Dev.get_set_self .., ?_, fun m hm => ?_⟩
    · rw [hkept.regs _ (by simp [seqFields]) (by simp [Reg.SEQ_STS_LAYER, Reg.LOOP_STS_MODE, Reg.SEQ_STS_STEP]), hx, Dev.onSeq,
        Dev.get_onDeck, Dev.get_set_ne _ _ (by simp [Fld.key, Reg.SEQ_STS_LAYER, Reg.SEQ_STS_GEN]), Dev.get_set_self]
    · rw [hkept.regs _ (by simp [seqFields]) (by simp [Reg.SEQ_STS_GEN, Reg.LOOP_STS_MODE, Reg.SEQ_STS_STEP]), hx, Dev.onSeq,
        Dev.get_onDeck]
      exact Dev.get_set_self ..
    · rw [hkept.newMode, hx, Dev.onSeq, Dev.deck_onDeck_self]
    · rw [hkept.laneMode, hx, Dev.onSeq, Dev.deck_onDeck_self, Dev.deck_set, Dev.deck_set]
    · rw [Dev.get_seqStep_ne (by simp [Fld.key, Reg.LOOP_STS_MODE, Reg.SEQ_STS_STEP]), Dev.turnSince, Dev.get_onDeck,
        Dev.get_slotForce_mode]
      rfl
    · rw [hkept.dstate (by simp [Reg.SEQ_STS_STATE, Reg.LOOP_STS_MODE, Reg.SEQ_STS_STEP]), hx, Dev.dstate, Dev.onSeq, Dev.get_onDeck,
        Dev.get_set_ne _ _ (by simp [Fld.key, Reg.SEQ_STS_STATE, Reg.SEQ_STS_GEN]),
        Dev.get_set_ne _ _ (by simp [Fld.key, Reg.SEQ_STS_STATE, Reg.SEQ_STS_LAYER]), ← Dev.dstate, hst]
    · rw [hkept.others m hm, hx, Dev.onSeq, Dev.deck_onDeck_ne _ _ hm, Dev.deck_set, Dev.deck_set]
  case track =>
    rintro c d q n x hon ⟨hst, hstep, htb, hmode⟩ hslow hpos
    refine ⟨_, exec_trackCapture hon c q x, ?_⟩
    rw [trackCapture_spec hst hstep htb hmode hslow hpos c]
    have hone := Dev.get_slotForce_mode n 1 2 (scaleSet n 1 x.pp d)
    have hbefore : SeqKept [Reg.LOOP_STS_MODE n 1] n d ((scaleSet n 1 x.pp d).slotForce n 1 2) :=
      (scaleSet_seqKept (by decide) ..).trans (Dev.slotForce_seqKept (by decide) (.head _) ..)
    generalize (scaleSet n 1 x.pp d).slotForce n 1 2 = a at hone hbefore ⊢
    have hthree := a.get_slotForce_mode n 3 2
    have hclosed : SeqKept [Reg.LOOP_STS_MODE n 3] n a (a.slotForce n 3 2) := a.slotForce_seqKept (by decide) (.head _) 2
    generalize a.slotForce n 3 2 = b at hthree hclosed ⊢
    have hstate := b.dstate_deckState n dTRACKING
    have htracking : SeqKept [Reg.SEQ_STS_STATE n] n b (b.deckState n dTRACKING) := b.deckState_seqKept (.head _) _
    generalize b.deckState n dTRACKING = t at hstate htracking ⊢
    have hreleased : SeqKept [Reg.SEQ_STS_STEP n] n t ((t.seqStep n 9).lanesRelease n) :=
      (t.seqStep_seqKept (.head _) 9).trans (Dev.lanesRelease_seqKept _)
    have hstep9 : ((t.seqStep n 9).lanesRelease n).get (Reg.SEQ_STS_STEP n) = 9 := by
      rw [((t.seqStep n 9).lanesRelease_seqKept (ex := [])).step List.not_mem_nil]
      exact Dev.get_set_self ..
    generalize (t.seqStep n 9).lanesRelease n = e at hreleased hstep9 ⊢
    refine ⟨?_, (get_rehomeGo ..).trans hstep9, ?_, ?_, ?_, fun m hm => ?_⟩
    · rw [Dev.dstate, get_rehomeGo, ← Dev.dstate, hreleased.dstate (by simp [Reg.SEQ_STS_STATE, Reg.SEQ_STS_STEP]), hstate]
      rfl
    · rw [get_rehomeGo, hreleased.regs _ (loopMode_mem n (by decide)) (loopMode_not_mem_step n _),
        htracking.regs _ (loopMode_mem n (by decide)) (loopMode_not_mem_state n _),
        hclosed.regs _ (loopMode_mem n (by decide)) (fun h => loopMode_ne n (by decide) (List.mem_singleton.1 h)), hone]
      rfl
    · rw [get_rehomeGo, hreleased.regs _ (loopMode_mem n (by decide)) (loopMode_not_mem_step n _),
        htracking.regs _ (loopMode_mem n (by decide)) (loopMode_not_mem_state n _), hthree]
      rfl
    · rw [rehomeGo, Dev.turnSince, Dev.onSeq, Dev.deck_onDeck_self, Dev.deck_onDeck_self]
    · rw [rehomeGo, Dev.turnSince, Dev.onSeq, Dev.deck_onDeck_ne _ _ hm, Dev.deck_onDeck_ne _ _ hm, hreleased.others m hm,
        htracking.others m hm, hclosed.others m hm, hbefore.others m hm]
  case timeout =>
    intro c d q n hon hst hlate
    obtain ⟨hstate, hcause, hdecks⟩ := seqTimeout_faulted hst hlate c
    refine ⟨_, exec_seqTimeout hon c q, hstate, hcause.trans ?_, hdecks⟩
    split
    · rfl
    · split <;> rfl
  case idle =>
    rintro c d q n hon ⟨hst, hidle, hglean⟩ hage ⟨hrun, huv⟩
    refine ⟨_, exec_idleTimer hon c q, ?_⟩
    rw [idleTimer, if_pos ⟨hst, hidle, hglean, hage⟩]
    exact parkGo_spec hrun huv c 6
  case shock =>
    rintro c d q n ⟨hon, hage⟩
    refine ⟨_, exec_shockWindowEnd hon c q, ?_⟩
    rw [shockWindowEnd, if_pos hage, Dev.onSeq]
    exact ⟨Dev.deck_onDeck_self .., fun m hm => Dev.deck_onDeck_ne _ _ hm, rfl⟩
  case within =>
    rintro c d q n swath z hon ⟨hglean, hseen, hgen⟩ hrpm ⟨hz, hy⟩
    refine ⟨_, exec_zoneChange hon c q swath, ?_⟩
    have hat : ((d.onSeq n fun s => { s with swath := swath }).deck n).seq.swath = swath := by
      rw [Dev.onSeq, Dev.deck_onDeck_self]
    rw [zoneChange, zoneGo_within hglean hseen hgen hrpm hz hy, if_pos hat]
    refine ⟨?_, fun m hm => ?_, rfl⟩
    · rw [Dev.onSeq, Dev.onSeq, Dev.deck_onDeck_self, Dev.deck_onDeck_self]
    · rw [Dev.onSeq, Dev.onSeq, Dev.deck_onDeck_ne _ _ hm, Dev.deck_onDeck_ne _ _ hm]
  case zone =>
    rintro c d q n swath y z hon ⟨hglean, hseen, hgen⟩ ⟨hz, hy, hyz⟩ ⟨hst, hwriting, hrun, hslower⟩ hzswap
    obtain ⟨hlow, hhigh⟩ := zones_table.2 z (mem_zones_of_zoneOf hz)
    obtain ⟨p, htrig, hgo⟩ := zoneGo_lower hglean hseen hgen hz hy hyz hst hwriting hrun hslower hzswap c
    refine ⟨_, exec_zoneChange hon c q swath, ?_⟩
    rw [spnSetSpeed_running (d := d.onSeq n fun s => { s with swath := swath }) hrun hlow hhigh] at hgo
    have htarget : ((zoneGo c n swath d).deck n).spn.target = z.readRpm := by
      rw [hgo, Dev.spn_staged, Dev.spn_onSeq, Dev.spn_onSpn]
    have hpend : ((zoneGo c n swath d).deck n).seqPend = [p] := by
      rw [hgo, Dev.deck_onDeck_self]
    have hseq : ((zoneGo c n swath d).deck n).seq = { (d.deck n).seq with swath := swath, newZone := some swath } := by
      rw [hgo, Dev.seq_staged, Dev.seq_onSeq, Dev.seq_onSpn, Dev.deck_set, Dev.deck_spnTake, Dev.seq_onSeq]
    have hget : ∀ f, (zoneGo c n swath d).get f = (((d.onSeq n fun s => { s with swath := swath }).spnTake n 4).set
        (Reg.SPN_CMD_TARGET_RPM n) z.readRpm).get f := fun f => by
      rw [hgo, Dev.get_onDeck, Dev.onSeq, Dev.get_onDeck, Dev.onSpn, Dev.get_onDeck]
    have hothers : DeckOnly n d (zoneGo c n swath d) := fun m hm => by
      rw [hgo, Dev.deck_onDeck_ne _ _ hm, Dev.onSeq, Dev.deck_onDeck_ne _ _ hm, Dev.onSpn, Dev.deck_onDeck_ne _ _ hm, Dev.deck_set,
        (Dev.spnTake_seqKept (ex := []) 4 _).others m hm, Dev.onSeq, Dev.deck_onDeck_ne _ _ hm]
    have hat : ((zoneGo c n swath d).deck n).seq.swath = swath := by rw [hseq]
    have hzone : ((zoneGo c n swath d).deck n).seq.newZone = some swath := by rw [hseq]
    rw [zoneChange, if_pos hat]
    generalize zoneGo c n swath d = e at htarget hpend hzone hat hget hothers ⊢
    refine ⟨?_, ?_, ?_, ?_, ?_, ?_, fun m hm => ?_⟩
    · rw [Dev.onSeq, Dev.get_onDeck, hget, Dev.get_set_self]
    · rw [Dev.onSeq, Dev.get_onDeck, hget, Dev.get_set_ne _ _ (by simp [Fld.key, Reg.SPN_CMD_BUSY, Reg.SPN_CMD_TARGET_RPM]),
        Dev.spnTake]
      exact Dev.get_set_self ..
    · rw [Dev.spn_onSeq, htarget]
    · rw [Dev.onSeq, Dev.deck_onDeck_self]
      simp [hpend, htrig]
    · rw [Dev.seq_onSeq, hat]
    · rw [Dev.seq_onSeq, hzone]
    · rw [Dev.onSeq, Dev.deck_onDeck_ne _ _ hm, hothers m hm]

end Sys2Proof.Machine
end

section
/-! SUPPORT. A read begins the idle time of its decks again (R364), which the statement on reads leaves out of what they change. -/

open Sys2Proof Sys2Proof.Machine

namespace Sys2Proof.Machine

/-! ### What a read leaves of its decks (R364) -/

/-- A deck in READY is not woken: its idle time begins again. -/
theorem deckWake_ready {d : Dev} {n : Nat} (h : d.dstate n = dREADY) (c : Clock) : deckWake c n d = d.touch n :=
  if_neg fun hwake => absurd (h.symm.trans hwake.1) (by decide)

theorem Dev.idle_touch (n : Nat) (d : Dev) : FMap.get (fun _ => 0) ((d.touch n).deck n).ages aIDLE = 0 := by
  rw [Dev.touch, Dev.since, Dev.deck_onDeck_self, FMap.get_ins_self]

theorem Dev.complete_decks (stamp : Nat) (st : Sts) (dw0 dw1 : Nat) (data : List Byte) (d : Dev) :
    (d.complete stamp st dw0 dw1 data).decks = d.decks := by rw [Dev.complete_eq]

theorem Dev.ends_decks (stamp : Nat) (st : Sts) (d : Dev) : (d.ends stamp st).decks = d.decks := Dev.complete_decks ..

theorem Dev.engCount_decks (cid bytes : Nat) (d : Dev) : (d.engCount cid bytes).decks = d.decks := by rw [Dev.engCount_frame]

theorem Dev.streamCheck_decks (c : Clock) (nsid pba offset kind : Nat) (d : Dev) :
    (d.streamCheck c nsid pba offset kind).decks = d.decks := by
  rw [Dev.streamCheck, Dev.set_decks, Dev.fault_eq]

/-- Whatever comes of a read that passes its checks, it changes its decks by their waking only. -/
theorem readCore_decks {c : Clock} {d : Dev} {op : Cmd} {stamp : Nat} {asOf below : Ctx → Option Nat}
    {go : Ctx → BindRec → List Byte → Dev → Dev} {x : Ctx} {b : BindRec} {s : StripeRec}
    (hgo : ∀ x b l d, (go x b l d).decks = d.decks) (hrun : d.running stamp op = some x) (hstop : d.nsStop x.cmd.nsid = none)
    (hbound : d.bound x.cmd.nsid = some (b, s)) (hsize : x.cmd.nlb ≠ 0 ∧ x.cmd.nlb ≤ maxBlocks b)
    (hrange : x.cmd.slba + x.cmd.nlb ≤ d.nsBlocks b s)
    (haway : d.blocksAway s b.nsid (asOf x) (below x) x.parts x.cmd.slba x.cmd.nlb = false)
    (hup : (d.readDecks b s (asOf x) (below x) x.cmd.slba x.cmd.nlb).any d.deckDown = false) :
    (readCore c op stamp asOf below go d).decks =
      ((d.readDecks b s (asOf x) (below x) x.cmd.slba x.cmd.nlb).foldl (fun d n => deckWake c n d) d).decks := by
  rw [readCore, Dev.run_of_running hrun, hstop, ite_self, hbound]
  dsimp only
  rw [if_neg (by omega), if_neg (fun h => by omega), if_neg (by simp [haway]), if_neg (by simp [hup])]
  generalize (d.readDecks b s (asOf x) (below x) x.cmd.slba x.cmd.nlb).foldl (fun d n => deckWake c n d) d = f
  split
  · rfl
  split
  · rfl
  split
  · rfl
  split
  · rw [Dev.complete_decks, Dev.engCount_decks]
    rfl
  · rw [Dev.ends_decks, Dev.streamCheck_decks, Dev.engCount_decks]
    rfl
  · rw [hgo, Dev.engCount_decks]
    rfl

theorem hostRead_decks {c : Clock} {d : Dev} {stamp : Nat} {x : Ctx} {b : BindRec} {s : StripeRec}
    (hrun : d.running stamp .read = some x) (hstop : d.nsStop x.cmd.nsid = none) (hbound : d.bound x.cmd.nsid = some (b, s))
    (hsize : x.cmd.nlb ≠ 0 ∧ x.cmd.nlb ≤ maxBlocks b) (hrange : x.cmd.slba + x.cmd.nlb ≤ d.nsBlocks b s)
    (haway : d.blocksAway s b.nsid none none x.parts x.cmd.slba x.cmd.nlb = false)
    (hup : (d.readDecks b s none none x.cmd.slba x.cmd.nlb).any d.deckDown = false) :
    (hostRead c stamp d).decks = ((d.readDecks b s none none x.cmd.slba x.cmd.nlb).foldl (fun d n => deckWake c n d) d).decks :=
  readCore_decks (fun _ _ _ _ => rfl) hrun hstop hbound hsize hrange haway hup

/-- READ is the reading of its blocks, where its DRAM reads meet no error. -/
theorem exec_read {d : Dev} {stamp : Nat} {x : Ctx} (h : d.running stamp .read = some x) (c : Clock) (q : List Instr) :
    exec (.read stamp x.cid [] []) ⟨c, d, q⟩ = .next ⟨c, hostRead c stamp d, q⟩ := by
  have hsent : d.sentBy x.cid stamp = true := by rw [Dev.sentBy, Dev.ctx_of_running h, Option.any_some, beq_self_eq_true]
  have hdram : readsDram c stamp .read [] [] d = d := by
    rw [readsDram]
    split <;> rfl
  have hgo : (if d.sentBy x.cid stamp then hostRead c stamp (readsDram c stamp .read [] [] d) else d) = hostRead c stamp d := by
    rw [hsent, if_pos rfl, hdram]
  exact congrArg (fun e => Host.Outcome.next (State.mk c e q)) hgo

/-! ### The statement on reads -/

def idleReadCmd : HostCmd := { op := .read, nsid := 5, nlb := 1 }

/-- Deck 1 is READY and has been idle for seven ticks. A read of block 0 of its namespace is in progress, and the swath block that
holds it was delivered whole. -/
def idleReadDev : Dev :=
  (nsBusy idleReadCmd).onDeck 1 (fun k => { k with
    ages := [(aIDLE, 7)], delivered := [{ slot := 9, swath := 40, mask := 0, checked := false, tick := 0, stamp := 0 }],
    disc := k.disc.map (fun y => { y with
      maps := [{ store := 0, enc := false, lbs64 := false, zoned := false, nsid := 5, slba := 0, nlb := 1, part := 0,
                 pba := pbaOf 0 40 9, offset := 0, length := 4096, wid := 1 }],
      commits := [{ nsid := 5, time := 0, writes := [(1, 1)] }] }) })

/-- How the one block of that read is read. -/
def idleRead : List Byte × Option (Nat × BlockRead) :=
  readUntil (fun i => idleReadDev.readBlock bind5 stripe4 none none
    (((busyCtx idleReadCmd).parts.find? (fun p => p.1 == i)).map (fun p => p.2)) ((busyCtx idleReadCmd).cmd.slba + i)) 0
    (List.range (busyCtx idleReadCmd).cmd.nlb)

/-- The block is read from deck 1. -/
theorem readDecks_idleReadDev : idleReadDev.readDecks bind5 stripe4 none none 0 1 = [1] := by decide +kernel

/-- The read ends the seven ticks of deck 1. -/
theorem decks_hostRead_idleReadDev : (hostRead {} 1 idleReadDev).decks = (idleReadDev.touch 1).decks := by
  have hread := hostRead_decks (c := {}) (d := idleReadDev) (stamp := 1) (x := busyCtx idleReadCmd) (b := bind5) (s := stripe4)
    (by decide +kernel) (by decide +kernel) (by decide +kernel) (by decide +kernel) (by decide +kernel) (by decide +kernel)
    (by decide +kernel)
  rw [hread]
  change ((idleReadDev.readDecks bind5 stripe4 none none 0 1).foldl (fun d n => deckWake {} n d) idleReadDev).decks = _
  rw [readDecks_idleReadDev, List.foldl_cons, List.foldl_nil, deckWake_ready (by decide +kernel)]

/-- Refutes O39: its clause on READ has the host side alone change, and a read from a deck in READY also begins the deck's idle
time again (R364). -/
theorem not_hostReads : ¬ Obligations.HostReads := by
  unfold Obligations.HostReads
  rintro ⟨hclause, _⟩
  obtain ⟨e, hexec, -, hframe⟩ := hclause {} idleReadDev [] 1 (busyCtx idleReadCmd) bind5 stripe4 idleRead.1 (by decide +kernel)
    (by decide +kernel) (by decide +kernel) (by decide +kernel) (by decide +kernel) (by decide +kernel)
    (Prod.ext rfl (by decide +kernel))
  rw [exec_read (by decide +kernel)] at hexec
  have hread : hostRead {} 1 idleReadDev = e := congrArg State.dev (Host.Outcome.next.inj hexec)
  have hkept : (idleReadDev.touch 1).decks = idleReadDev.decks := by
    rw [← decks_hostRead_idleReadDev, hread, hframe]
  have hidle : FMap.get (fun _ => 0) (idleReadDev.deck 1).ages aIDLE = 0 :=
    Dev.deck_of_decks hkept 1 ▸ Dev.idle_touch 1 idleReadDev
  exact absurd hidle (by decide +kernel)

end Sys2Proof.Machine
end

section
/-! SUPPORT. An Unmount waits for the ledger unit of its disc (R110, R437), for which the statement on Mount, Unmount, Survey and
Ledger Read leaves no room. -/

open Sys2Proof Sys2Proof.Machine

namespace Sys2Proof.Machine

/-- What an Unmount leaves with its deck while it waits. -/
def unmountJob (d : Dev) (x : Ctx) (stamp nsid n : Nat) (force : Bool) : DeckJob :=
  { stamp := stamp, cid := x.cid, nsid := nsid, deck := n, kind := 1, force := force, who := d.whoOf x.cid rOPERATOR }

theorem exec_unmount (c : Clock) (d : Dev) (q : List Instr) (stamp : Nat) (h : Word) (force nopark : Bool) :
    exec (.unmount stamp h force nopark) ⟨c, d, q⟩ = .next ⟨c, hostUnmount c stamp h.toNat force nopark d, q⟩ := rfl

theorem Dev.addJob_first {d : Dev} (h : d.host.jobs = []) (j : DeckJob) :
    d.addJob j = { d with host := { d.host with jobs := [j] } } := by
  rw [Dev.addJob, h, List.any_nil, if_neg Bool.false_ne_true, List.nil_append]

/-- The first Unmount, of a disc written since its last ledger unit, gets no further than that unit (R437, step 4). -/
theorem hostUnmount_writes_ledger {c : Clock} {d : Dev} {stamp h n nsid : Nat} {force nopark : Bool} {x : Ctx} {y : Disc}
    (hrun : d.running stamp .unmount = some x) (hdeck : d.deckOf h = some n) (hmounted : (d.deck n).mounted = some nsid)
    (hfull : d.ledFull = false) (hreload : d.reloadHolds nsid = false) (hjobs : d.host.jobs = [])
    (hearlier : (d.host.ctxs.any fun y => decide (y.stamp < stamp)) = false) (hopen : d.openOn n = false)
    (hdisc : (d.deck n).disc = some y) (hdirty : y.dirty = true) (hup : d.deckDown n = false)
    (hgate : bit (d.deck n).gate.hold gLATCHED = false) :
    hostUnmount c stamp h force nopark d = deckWake c n (d.addJob (unmountJob d x stamp nsid n force)) := by
  have hwait : (d.host.ctxs.any fun y => decide (y.stamp < stamp) && !Cmd.isAdmin y.cmd.op && y.cmd.nsid == nsid && !y.posted &&
      !(force && Cmd.isWrite y.cmd.op && y.staged)) = false := by
    simp only [List.any_eq_false, decide_eq_true_eq] at hearlier ⊢
    intro y hy
    simp [hearlier y hy]
  rw [hostUnmount, Dev.run_of_running hrun, hdeck]
  dsimp only
  rw [hjobs, List.any_nil, if_neg Bool.false_ne_true, hmounted]
  dsimp only
  rw [← unmountJob]
  generalize hf : d.addJob (unmountJob d x stamp nsid n force) = f
  rw [Dev.addJob_first hjobs] at hf
  have hreload' : f.reloadHolds nsid = false := hf ▸ hreload
  have hfull' : f.ledFull = false := hf ▸ hfull
  have hopen' : f.openOn n = false := hf ▸ hopen
  have hup' : f.deckDown n = false := hf ▸ hup
  have hdeck' : f.deck n = d.deck n := hf ▸ rfl
  have hctxs : f.host.ctxs = d.host.ctxs := hf ▸ rfl
  have hdue : f.ledgerDue n = true := by
    have hjob : f.host.jobs = [unmountJob d x stamp nsid n force] := hf ▸ rfl
    simp [Dev.ledgerDue, hdeck', hdisc, hdirty, hjob, unmountJob, hopen']
  have hpasses : ((f.deck n).pass.isSome || (f.deck n).unit.isSome) = false := by
    simp only [Dev.openOn, Bool.or_eq_false_iff] at hopen'
    obtain ⟨⟨_, hunit⟩, hpass⟩ := hopen'
    rw [hunit, hpass, Bool.or_self]
  rw [hctxs, hwait, hreload', hfull', hopen', hpasses, hdue, hup', hdeck', hgate]
  simp

/-- A disc in deck 1 that was written since its last ledger unit; an Unmount of it is in progress and has nothing staged to wait
for. -/
def writtenDev : Dev :=
  (nsBusy { op := .unmount, nsid := 5 }).onDeck 1 (fun k => { k with disc := k.disc.map (fun y => { y with dirty := true }) })

/-- Refutes O40: its clause on an Unmount that need not wait admits a disc written since its last ledger unit, and such a disc
stays mounted until that unit is written (R437, step 4). -/
theorem not_discCommands : ¬ Obligations.DiscCommands := by
  unfold Obligations.DiscCommands
  rintro ⟨_, _, _, hclause, _⟩
  obtain ⟨e, hexec, hmounted, _⟩ := hclause {} writtenDev [] 1 2 false (busyCtx { op := .unmount, nsid := 5 }) 1 5
    (by decide +kernel) (by decide +kernel) (by decide +kernel) (by decide +kernel) (by decide +kernel) (by decide +kernel)
  rw [exec_unmount] at hexec
  have hwaits : hostUnmount {} 1 2 false true writtenDev = e := congrArg State.dev (Host.Outcome.next.inj hexec)
  rw [hostUnmount_writes_ledger (x := busyCtx { op := .unmount, nsid := 5 }) (n := 1) (nsid := 5)
    (y := { layers := 8, freeUnits := 10, blocksLeft := 1000, dirty := true }) (by decide +kernel) (by decide +kernel)
    (by decide +kernel) (by decide +kernel) (by decide +kernel) (by decide +kernel) (by decide +kernel) (by decide +kernel)
    (by decide +kernel) (by decide +kernel) (by decide +kernel) (by decide +kernel),
    deckWake_ready (by decide +kernel)] at hwaits
  rw [← hwaits] at hmounted
  exact absurd hmounted (by decide +kernel)

end Sys2Proof.Machine
end

section
/-! SUPPORT. Changes that touch one deck and listed fields, and the rows of lanes and of accesses (spec 05). -/

open Sys2Proof Sys2Proof.Machine

namespace Sys2Proof.Machine

/-! ### Changes of one deck and of listed fields -/

/-- A field that is none of the listed ones reads as before. -/
theorem RegsOnly.get {fs : List Fld} {d e : Dev} (h : RegsOnly fs d e) {f : Fld} (hf : ∀ g ∈ fs, f.key ≠ g.key) :
    e.get f = d.get f := by
  refine h f.key fun hm => ?_
  obtain ⟨g, hg, hkey⟩ := List.mem_map.1 hm
  exact hf g hg hkey.symm

/-- Only the listed fields, and what one deck holds, are changed. -/
structure Touches (fs : List Fld) (n : Nat) (d e : Dev) : Prop where
  rest : ∃ r k, e = { d with regs := r, decks := k }
  others : DeckOnly n d e
  regs : RegsOnly fs d e

section
variable {fs : List Fld} {n : Nat} {d e : Dev}

theorem Touches.refl (d : Dev) : Touches fs n d d := ⟨⟨_, _, rfl⟩, fun _ _ => rfl, .refl _ rfl⟩

theorem Touches.trans {f : Dev} (h : Touches fs n d e) (h' : Touches fs n e f) : Touches fs n d f := by
  refine ⟨?_, h.others.trans h'.others, h.regs.trans h'.regs⟩
  obtain ⟨r, k, rfl⟩ := h.rest
  obtain ⟨r', k', rfl⟩ := h'.rest
  exact ⟨r', k', rfl⟩

theorem Touches.onDeck (h : Touches fs n d e) (g : Deck → Deck) : Touches fs n d (e.onDeck n g) :=
  h.trans ⟨⟨_, _, rfl⟩, .onDeck n g e, .refl _ rfl⟩

theorem Touches.onLane (h : Touches fs n d e) (l : Nat) (g : LaneSt → LaneSt) : Touches fs n d (e.onLane n l g) := h.onDeck _

theorem Touches.sets (h : Touches fs n d e) {l : List (Fld × Nat)} (hl : ∀ f ∈ l.map Prod.fst, f ∈ fs) : Touches fs n d (e.sets l) :=
  h.trans ⟨⟨_, _, e.sets_eq l⟩, .of_decks (e.sets_decks l), (RegsOnly.sets e l).mono hl⟩

theorem Touches.set (h : Touches fs n d e) {f : Fld} (hf : f ∈ fs) (v : Nat) : Touches fs n d (e.set f v) :=
  h.sets (l := [(f, v)]) (List.forall_mem_singleton.2 hf)

theorem Touches.ite {p : Prop} [Decidable p] {a b : Dev} (ha : Touches fs n d a) (hb : Touches fs n d b) :
    Touches fs n d (if p then a else b) := by
  split
  · exact ha
  · exact hb

theorem Touches.mono {gs : List Fld} (hfs : ∀ f ∈ fs, f ∈ gs) (h : Touches fs n d e) : Touches gs n d e :=
  ⟨h.rest, h.others, h.regs.mono hfs⟩

theorem Touches.tst (h : Touches fs n d e) : e.tst = d.tst := by
  obtain ⟨r, k, rfl⟩ := h.rest
  rfl

/-- What a row that needs no access leaves. -/
theorem Touches.frame (h : Touches fs n d e) : DeckOnly n d e ∧ e = { d with regs := e.regs, decks := e.decks } ∧ RegsOnly fs d e := by
  refine ⟨h.others, ?_, h.regs⟩
  obtain ⟨r, k, rfl⟩ := h.rest
  rfl

/-- What a row that is an access leaves: who made it is noted as well. -/
theorem Touches.frame_access {w : Who} (h : Touches fs n { d with who := w } e) :
    DeckOnly n d e ∧ e = { d with regs := e.regs, decks := e.decks, who := e.who } ∧ RegsOnly fs d e := by
  refine ⟨h.others, ?_, h.regs⟩
  obtain ⟨r, k, rfl⟩ := h.rest
  rfl

end

/-! ### Rows of lanes -/

/-- The lanes' rows act while the DECK and LANE domains are on. -/
theorem laneRow_of_on {d : Dev} {n : Nat} (h : d.deckOn n = true ∧ d.domOn (dLANE (n / 8)) = true) (f : Dev → Dev) :
    laneRow n f d = f d := by
  rw [laneRow, h.1, h.2, Bool.and_self, if_pos rfl]

/-- Samples of the wedge where the counter stands are taken. -/
theorem laneRow_inGap {d : Dev} {n : Nat} (h : d.deckOn n = true ∧ d.domOn (dLANE (n / 8)) = true) {c : Clock} {wedge : Nat}
    (hw : wedge = c.grain n / 16384) (f : Dev → Dev) :
    laneRow n (fun d => if d.inGap c n wedge then f d else d) d = f d := by
  rw [laneRow_of_on h, Dev.inGap, ← hw, beq_self_eq_true, if_pos rfl]

/-- A row that nothing stands against acts for whoever makes the access. -/
theorem regRow_next {d : Dev} {link off : Nat} (h : d.deny (.bar2 link) true off 4 = none) (c : Clock) (q : List Instr)
    (go : Dev → Dev) : ∃ w, (.next ⟨c, regRow c link off go d, q⟩ : Host.Outcome State Fault Refusal) = .next ⟨c, go { d with who := w }, q⟩ :=
  ⟨_, by rw [regRow_of_none h]⟩

@[simp] theorem Dev.lane_onLane_self (d : Dev) (n l : Nat) (g : LaneSt → LaneSt) :
    ((d.onLane n l g).deck n).lane l = g ((d.deck n).lane l) := by
  rw [Dev.onLane, Dev.deck_onDeck_self, Deck.lane, FMap.get_ins_self]

end Sys2Proof.Machine
end

section
/-! SUPPORT. The gain loop, the winnow and the loop controls of a lane (R119, R120, R123, R124, R126, R128, R130, R145). -/

open Sys2Proof Sys2Proof.Machine

namespace Sys2Proof.Machine

/-! ### The gain loop (R120) -/

/-- The gain in 1/256 of a code after a block of samples. -/
def gainAfter (n l : Nat) (ys : List Int) (d : Dev) : Int :=
  clampI 0 (1023 * 256) ((d.get (Reg.LANE_LOOP_VAL_GAIN n l) : Int) * 256 + ((d.deck n).lane l).gainFr +
    Config.rnd ((d.get (Reg.LANE_GAIN_CFG_AMP_TGT n l) : Int) * 256 - (ys.map fun y => (y.natAbs : Int)).sum)
      (2 ^ acqShift d n l (d.get (Reg.LANE_GAIN_CFG_G_SHIFT n l))))

/-- A code within 0 and 1,023 fits its field. -/
theorem gain_code_lt (g : Int) : (clampI 0 (1023 * 256) g).toNat / 256 < 2 ^ 10 := by
  unfold clampI
  split_ifs <;> omega

theorem gainLoop_touches (n l : Nat) (ys : List Int) (d : Dev) :
    Touches [Reg.LANE_LOOP_VAL_GAIN n l, Reg.LANE_TR_STS_LIM_G n l] n d (gainLoop n l ys d) := by
  have hgain : ∀ v g, Touches [Reg.LANE_LOOP_VAL_GAIN n l, Reg.LANE_TR_STS_LIM_G n l] n d
      ((d.set (Reg.LANE_LOOP_VAL_GAIN n l) v).onLane n l g) := fun v g => ((Touches.refl d).set (by simp) v).onLane l g
  exact .ite ((hgain _ _).set (by simp) 1) (hgain _ _)

theorem get_gainLoop (n l : Nat) (ys : List Int) (d : Dev) :
    (gainLoop n l ys d).get (Reg.LANE_LOOP_VAL_GAIN n l) = (gainAfter n l ys d).toNat / 256 := by
  have hlim : (Reg.LANE_LOOP_VAL_GAIN n l).key ≠ (Reg.LANE_TR_STS_LIM_G n l).key := by
    simp [Fld.key, Reg.LANE_LOOP_VAL_GAIN, Reg.LANE_TR_STS_LIM_G]
    omega
  have hgain : ∀ g, ((d.set (Reg.LANE_LOOP_VAL_GAIN n l) ((gainAfter n l ys d).toNat / 256)).onLane n l g).get
      (Reg.LANE_LOOP_VAL_GAIN n l) = (gainAfter n l ys d).toNat / 256 := fun g =>
    (Dev.get_set_self ..).trans (Nat.mod_eq_of_lt (gain_code_lt _))
  unfold gainLoop
  extract_lets sum g g' e
  split
  · rw [Dev.get_set_ne _ _ hlim]
    exact hgain _
  · exact hgain _

/-- Other fields of the lane read as before. -/
theorem get_gainLoop_other {n l o lo w : Nat} (h : o * 32 + lo ≠ 0x10020 * 32 + 16 ∧ o * 32 + lo ≠ 0x10024 * 32 + 6)
    (ys : List Int) (d : Dev) : (gainLoop n l ys d).get ⟨0x1000000 + n * 0x100000 + o + l * 0x40, lo, w⟩ =
      d.get ⟨0x1000000 + n * 0x100000 + o + l * 0x40, lo, w⟩ := by
  refine (gainLoop_touches n l ys d).regs.get ?_
  simp [Fld.key, Reg.LANE_LOOP_VAL_GAIN, Reg.LANE_TR_STS_LIM_G]
  omega

/-- A clean block of 256 samples with the offset and asymmetry loops held goes to the gain loop alone. -/
theorem laneLoopBlock_gain {n l pos : Nat} {d : Dev} (hruns : laneRuns d n l = true ∧ 2 ≤ d.tbState n)
    (hfree : d.getB (Reg.LANE_LOOP_CTL_HOLD_G n l) = false)
    (hheld : d.getB (Reg.LANE_LOOP_CTL_HOLD_O n l) = true ∧ d.getB (Reg.LANE_LOOP_CTL_HOLD_A n l) = true)
    (hinit : ((d.deck n).lane l).reinit = false)
    (hblock : pos % 256 = 0 ∧ pos + 256 ≤ gapLen d n ∧ chaffIn d n l pos (pos + 256) = false) (prev : Int) (ys : List Int) :
    laneLoopBlock n l false pos prev ys d = gainLoop n l (ys.map (laneCode d n l)) d := by
  obtain ⟨hruns, htb⟩ := hruns
  obtain ⟨hofs, hasym⟩ := hheld
  obtain ⟨hpos, hgap, hchaff⟩ := hblock
  have hofs' : (gainLoop n l (ys.map (laneCode d n l)) d).getB (Reg.LANE_LOOP_CTL_HOLD_O n l) = true :=
    (congrArg (· != 0) (get_gainLoop_other (by decide) _ d)).trans hofs
  have hasym' : (gainLoop n l (ys.map (laneCode d n l)) d).getB (Reg.LANE_LOOP_CTL_HOLD_A n l) = true :=
    (congrArg (· != 0) (get_gainLoop_other (by decide) _ d)).trans hasym
  simp [laneLoopBlock, hruns, htb, hpos, hgap, hchaff, hinit, hfree, hofs', hasym']

/-- A block that touches chaff changes nothing. -/
theorem laneLoopBlock_chaff {n l pos : Nat} {d : Dev} (hinit : ((d.deck n).lane l).reinit = false)
    (hchaff : chaffIn d n l pos (pos + 256) = true) (prev : Int) (ys : List Int) :
    laneLoopBlock n l false pos prev ys d = d := by
  simp [laneLoopBlock, hinit, hchaff]

/-! ### The winnow (R123, R124, R126) -/

/-- The ON_CNT-th clipped window in a row raises the flag. -/
theorem winnowWindow_raises {n l pos : Nat} {d : Dev} {ys : List Int} (hpos : 0 < pos) (hruns : laneRuns d n l = true ∧ 2 ≤ d.tbState n)
    (hflag : d.getB (Reg.LANE_WIN_STS_FLAG n l) = false)
    (hclip : 0 < d.get (Reg.LANE_WIN_CFG_SAT_ON n l) ∧ d.get (Reg.LANE_WIN_CFG_SAT_ON n l) ≤ winClip ys)
    (hcount : d.get (Reg.LANE_WIN_CFG_ON_CNT n l) ≤ ((d.deck n).lane l).onCnt + 1) (c : Clock) :
    ∃ f, winnowWindow c n l pos ys d = ((d.onLane n l f).set (Reg.LANE_WIN_STS_FLAG n l) 1).onLane n l (fun a => { a with
      upLen := 0, spanAt := pos + 32 - 32 * d.get (Reg.LANE_WIN_CFG_ON_CNT n l), long := false, offCnt := 0 }) := by
  obtain ⟨hsat, hle⟩ := hclip
  have hskip : ¬(laneRuns d n l = false ∨ d.tbState n < 2) := by
    rw [hruns.1]
    have := hruns.2
    simp
    omega
  have hon : (decide (d.get (Reg.LANE_WIN_CFG_SAT_ON n l) ≤ winClip ys) && d.get (Reg.LANE_WIN_CFG_SAT_ON n l) != 0) = true := by
    simp [hle, hsat.ne']
  unfold winnowWindow
  rw [if_neg hskip, if_neg hpos.ne']
  simp only [hon, hflag, Bool.or_true, if_true, Dev.get_onLane, Dev.lane_onLane_self, hcount, and_self]
  exact ⟨_, rfl⟩

/-- The flag has stayed up for too long, and the deck core is told. -/
theorem winnowLongSpan_long {n l : Nat} {d : Dev} (hflag : d.getB (Reg.LANE_WIN_STS_FLAG n l) = true)
    (hlong : d.get (Reg.LANE_WIN_SPAN_MAX_SPAN n l) < ((d.deck n).lane l).upLen + 32) :
    winnowLongSpan n l d = ((d.set (Reg.LANE_WIN_STS_LONG n l) 1).onLane n l (fun a => { a with long := true })).onDeck n
      (fun k => { k with longs := if k.longs.contains l then k.longs else k.longs ++ [l] }) :=
  if_pos ⟨hflag, hlong⟩

theorem laneStandbyExit_out {n l : Nat} {d : Dev}
    (h : ((d.deck n).lane l).waking = true ∧ 20 * tickUs ≤ d.age n (aWAKE l)) :
    laneStandbyExit n l d = (d.set (Reg.LANE_STATE_STBY n l) 0).onLane n l (fun a => { a with waking := false }) :=
  if_pos h

theorem clrCnt_eq (n l : Nat) (d : Dev) :
    clrCnt n l d = d.sets [(Reg.LANE_TR_STS_SLIPS n l, 0), (Reg.LANE_WIN_STS_SPANS n l, 0)] := rfl

theorem counts_nodup (n l : Nat) : ([Reg.LANE_TR_STS_SLIPS n l, Reg.LANE_WIN_STS_SPANS n l].map Fld.key).Nodup := by
  simp [Fld.key, Reg.LANE_TR_STS_SLIPS, Reg.LANE_WIN_STS_SPANS]
  omega

/-! ### Rows -/

theorem exec_laneLoopBlock {d : Dev} {n : Fin 16} (hon : d.deckOn n = true ∧ d.domOn (dLANE (n / 8)) = true) {c : Clock} {wedge : Nat}
    (hw : wedge = c.grain n / 16384) (q : List Instr) (l : Fin 66) (pos : Nat) (prev : Int) (ys : List Int) :
    exec (.laneLoopBlock n l false wedge pos prev ys []) ⟨c, d, q⟩ = .next ⟨c, laneLoopBlock n l false pos prev ys d, q⟩ :=
  congrArg (fun e => Host.Outcome.next (State.mk c e q)) (laneRow_inGap hon hw (laneLoopBlock n l false pos prev ys))

theorem exec_winnowWindow {d : Dev} {n : Fin 16} (hon : d.deckOn n = true ∧ d.domOn (dLANE (n / 8)) = true) {c : Clock} {wedge : Nat}
    (hw : wedge = c.grain n / 16384) (q : List Instr) (l : Fin 66) (pos : Nat) (ys : List Int) :
    exec (.winnowWindow n l wedge pos ys) ⟨c, d, q⟩ = .next ⟨c, winnowWindow c n l pos ys d, q⟩ :=
  congrArg (fun e => Host.Outcome.next (State.mk c e q)) (laneRow_inGap hon hw (winnowWindow c n l pos ys))

theorem exec_winnowLongSpan {d : Dev} {n : Fin 16} (hon : d.deckOn n = true ∧ d.domOn (dLANE (n / 8)) = true) (c : Clock)
    (q : List Instr) (l : Fin 66) : exec (.winnowLongSpan n l) ⟨c, d, q⟩ = .next ⟨c, winnowLongSpan n l d, q⟩ :=
  congrArg (fun e => Host.Outcome.next (State.mk c e q)) (laneRow_of_on hon (winnowLongSpan n l))

theorem exec_laneStandbyExit {d : Dev} {n : Fin 16} (hon : d.deckOn n = true ∧ d.domOn (dLANE (n / 8)) = true) (c : Clock)
    (q : List Instr) (l : Fin 66) : exec (.laneStandbyExit n l) ⟨c, d, q⟩ = .next ⟨c, laneStandbyExit n l d, q⟩ :=
  congrArg (fun e => Host.Outcome.next (State.mk c e q)) (laneRow_of_on hon (laneStandbyExit n l))

/-- Settles O20: each row acts where it may, and comes down to one change of the lane's registers and of what its deck holds. -/
theorem laneLoopsAndWinnow : Obligations.LaneLoopsAndWinnow := by
  unfold Obligations.LaneLoopsAndWinnow
  refine ⟨?gain, ?chaff, ?raise, ?long, ?reinit, ?clear, ?wake⟩
  case gain =>
    rintro c d q n l wedge pos prev ys hw hon hruns hfree hheld ⟨hinit, hacq⟩ hblock
    have hexec := exec_laneLoopBlock hon hw q l pos prev ys
    rw [laneLoopBlock_gain hruns hfree hheld hinit hblock] at hexec
    refine ⟨_, hexec, ?_, ?_, ?_, (gainLoop_touches ..).frame⟩
    · rw [get_gainLoop, gainAfter, acqShift, hacq, if_neg (Nat.lt_irrefl 0), List.map_map]
      rfl
    · exact congrArg (sx 8) (get_gainLoop_other (by decide) _ d)
    · exact congrArg (sx 8) (get_gainLoop_other (by decide) _ d)
  case chaff =>
    intro c d q n l wedge pos prev ys hw hon hinit hchaff
    have hexec := exec_laneLoopBlock hon hw q l pos prev ys
    rw [laneLoopBlock_chaff hinit hchaff] at hexec
    exact ⟨_, hexec, rfl⟩
  case raise =>
    intro c d q n l wedge pos ys hw hpos hon hruns hflag hclip hcount
    have hexec := exec_winnowWindow hon hw q l pos ys
    obtain ⟨f, hraised⟩ := winnowWindow_raises hpos hruns hflag hclip hcount c
    rw [hraised] at hexec
    refine ⟨_, hexec, ?_, ?_, ?_, ?_, ((((Touches.refl d).onLane l f).set (by simp) 1).onLane l _).frame⟩
    · rw [Dev.get_onLane]
      exact Dev.get_set_self ..
    all_goals rw [Dev.lane_onLane_self]
  case long =>
    intro c d q n l hon hflag hlong
    have hexec := exec_winnowLongSpan hon c q l
    rw [winnowLongSpan_long hflag hlong] at hexec
    refine ⟨_, hexec, ?_, ?_, ?_, ((((Touches.refl d).set (by simp) 1).onLane l _).onDeck _).frame⟩
    · rw [Dev.get_onDeck, Dev.get_onLane]
      exact Dev.get_set_self ..
    · rw [Dev.deck_onDeck_self]
      exact (Dev.lane_onLane_self ..).trans (by rw [Dev.deck_set])
    · rw [Dev.deck_onDeck_self]
      dsimp only
      split
      · exact List.contains_iff_mem.1 ‹_›
      · exact List.mem_append_right _ (List.mem_singleton_self _)
  case reinit =>
    intro c d q link n l hdeny
    obtain ⟨w, hrow⟩ := regRow_next hdeny c q (reinit n l)
    have hexec : exec (.reinit link n l) ⟨c, d, q⟩ = .next ⟨c, reinit n l { d with who := w }, q⟩ := hrow
    exact ⟨_, hexec, Dev.lane_onLane_self .., .onDeck n _ { d with who := w }, rfl⟩
  case clear =>
    intro c d q link n l hdeny
    obtain ⟨w, hrow⟩ := regRow_next hdeny c q (clrCnt n l)
    have hexec : exec (.clrCnt link n l) ⟨c, d, q⟩ = .next ⟨c, clrCnt n l { d with who := w }, q⟩ := hrow
    rw [clrCnt_eq] at hexec
    refine ⟨_, hexec, ?_, ?_, by rw [Dev.sets_eq], ?_⟩
    · exact Dev.get_sets_of_mem _ (counts_nodup n l) (.head _)
    · exact Dev.get_sets_of_mem _ (counts_nodup n l) (.tail _ (.head _))
    · exact .trans (.refl _ rfl) (RegsOnly.sets { d with who := w } [(Reg.LANE_TR_STS_SLIPS n l, 0), (Reg.LANE_WIN_STS_SPANS n l, 0)])
  case wake =>
    intro c d q n l hon hwake
    have hexec := exec_laneStandbyExit hon c q l
    rw [laneStandbyExit_out hwake] at hexec
    refine ⟨_, hexec, ?_, ?_, (((Touches.refl d).set (by simp) 0).onLane l _).frame⟩
    · rw [Dev.get_onLane]
      exact Dev.get_set_self ..
    · rw [Dev.lane_onLane_self, Dev.deck_set]

end Sys2Proof.Machine
end

section
/-! SUPPORT. The spare lanes: their commands, and the swap at its guard (R116, R129, R132, R133, R134, R148, R150). -/

open Sys2Proof Sys2Proof.Machine

namespace Sys2Proof.Machine

/-! ### Blocks of 64 bytes: a lane's words, and the control words of the spares (R138 to R150) -/

/-- The 64-byte block of the register window that a field lies in. -/
def Fld.block (f : Fld) : Nat := f.key / 0x800

/-- The block of a deck's lane; the control words of its spares lie where lane 68 would. -/
def laneBlock (n l : Nat) : Nat := 0x40400 + n * 0x4000 + l

theorem block_lane {n l o lo w : Nat} (h : 0x10000 ≤ o ∧ o < 0x10040 ∧ lo < 32) :
    Fld.block ⟨0x1000000 + n * 0x100000 + o + l * 0x40, lo, w⟩ = laneBlock n l := by
  simp only [Fld.block, Fld.key, laneBlock]
  omega

theorem block_spare {n s lo w : Nat} (h : s < 2 ∧ lo < 32) :
    Fld.block ⟨0x1000000 + n * 0x100000 + 0x11100 + s * 0x4, lo, w⟩ = laneBlock n 68 := by
  simp only [Fld.block, Fld.key, laneBlock]
  omega

theorem laneBlock_ne {n l m : Nat} (h : l ≠ m) : laneBlock n l ≠ laneBlock n m := fun hb => h (Nat.add_left_cancel hb)

theorem Dev.get_set_of_block (d : Dev) {f g : Fld} (v : Nat) (h : f.block ≠ g.block) : (d.set g v).get f = d.get f :=
  d.get_set_ne v fun hkey => h (by rw [Fld.block, hkey, Fld.block])

/-- A field of another block than all those changed reads as before. -/
theorem Touches.get_of_block {fs : List Fld} {n : Nat} {d e : Dev} (h : Touches fs n d e) {b : Nat} (hfs : ∀ g ∈ fs, g.block = b)
    {f : Fld} (hf : f.block ≠ b) : e.get f = d.get f :=
  h.regs.get fun g hg hkey => hf (by rw [Fld.block, hkey, ← Fld.block, hfs g hg])

/-! ### A lane takes a state and an input (R129, R130, R148) -/

/-- The fields that a lane's state, input and standby are read from. -/
def stateFields (n l : Nat) : List Fld := [Reg.LANE_STATE_LSTATE n l, Reg.LANE_STATE_SRC n l, Reg.LANE_STATE_STBY n l]

theorem stateFields_block (n l : Nat) : ∀ f ∈ stateFields n l, f.block = laneBlock n l := by
  rw [stateFields, List.forall_mem_cons, List.forall_mem_cons, List.forall_mem_singleton]
  exact ⟨block_lane (by decide), block_lane (by decide), block_lane (by decide)⟩

section
variable {fs : List Fld} {n : Nat} {d e : Dev}

theorem Touches.laneFit (h : Touches fs n d e) {l : Nat} (hf : Reg.LANE_STATE_STBY n l ∈ fs) : Touches fs n d (e.laneFit n l) :=
  have hwake : Touches fs n d (e.laneWake n l) := .ite h ((h.onLane l _).onDeck _)
  have hstby : Touches fs n d (e.set (Reg.LANE_STATE_STBY n l) 1) := h.set hf 1
  .ite h (.ite (.ite hwake h) (.ite (hstby.onLane l _) hstby))

theorem Touches.laneTo (h : Touches fs n d e) {l : Nat} (hf : ∀ f ∈ stateFields n l, f ∈ fs) (st src : Nat) :
    Touches fs n d (laneTo n l st src e) :=
  ((h.set (hf _ (by simp [stateFields])) st).set (hf _ (by simp [stateFields])) src).laneFit (hf _ (by simp [stateFields]))

end

theorem get_laneFit {n l : Nat} {f : Fld} (hf : f.key ≠ (Reg.LANE_STATE_STBY n l).key) (d : Dev) : (d.laneFit n l).get f = d.get f :=
  ((Touches.refl d).laneFit (List.mem_singleton_self _)).regs.get (List.forall_mem_singleton.2 hf)

theorem lstate_laneTo (n l st src : Nat) (d : Dev) : (laneTo n l st src d).lstate n l = st % 2 ^ 3 := by
  rw [Dev.lstate, laneTo, get_laneFit (by simp [Fld.key, Reg.LANE_STATE_LSTATE, Reg.LANE_STATE_STBY]),
    Dev.get_set_ne _ _ (by simp [Fld.key, Reg.LANE_STATE_LSTATE, Reg.LANE_STATE_SRC])]
  exact Dev.get_set_self ..

theorem src_laneTo (n l st src : Nat) (d : Dev) : (laneTo n l st src d).get (Reg.LANE_STATE_SRC n l) = src % 2 ^ 7 := by
  rw [laneTo, get_laneFit (by simp [Fld.key, Reg.LANE_STATE_SRC, Reg.LANE_STATE_STBY])]
  exact Dev.get_set_self ..

/-- What lies in another block than the lane's reads as before. -/
theorem get_laneTo_other {n l : Nat} {f : Fld} (hf : f.block ≠ laneBlock n l) (st src : Nat) (d : Dev) :
    (laneTo n l st src d).get f = d.get f :=
  ((Touches.refl d).laneTo (fun _ h => h) st src).get_of_block (stateFields_block n l) hf

/-- A lane that is not in use goes to standby and its release is dropped: of the deck, only its lanes change. -/
theorem deck_laneFit_unused {n l : Nat} {d : Dev} (h : laneUsed d n l = false) :
    ∃ k, (d.laneFit n l).deck n = { d.deck n with lanes := k } := by
  unfold Dev.laneFit
  rw [h, Bool.false_and, if_neg Bool.false_ne_true]
  split
  · exact ⟨_, rfl⟩
  · extract_lets e
    have he : e.deck n = d.deck n := Dev.deck_set ..
    split
    · rw [Dev.onLane, Dev.deck_onDeck_self, he]
      exact ⟨_, rfl⟩
    · exact ⟨_, he⟩

theorem deck_laneTo_spare (n l src : Nat) (d : Dev) : ∃ k, (laneTo n l lSPARE src d).deck n = { d.deck n with lanes := k } := by
  have hstate : ((d.set (Reg.LANE_STATE_LSTATE n l) lSPARE).set (Reg.LANE_STATE_SRC n l) src).get (Reg.LANE_STATE_LSTATE n l) = 2 := by
    rw [Dev.get_set_ne _ _ (by simp [Fld.key, Reg.LANE_STATE_LSTATE, Reg.LANE_STATE_SRC])]
    exact Dev.get_set_self ..
  have hunused : laneUsed ((d.set (Reg.LANE_STATE_LSTATE n l) lSPARE).set (Reg.LANE_STATE_SRC n l) src) n l = false := by
    rw [laneUsed, hstate]
    rfl
  obtain ⟨k, hk⟩ := deck_laneFit_unused hunused
  exact ⟨k, by rw [laneTo, hk, Dev.deck_set, Dev.deck_set]⟩

/-! ### Loop values copied to another lane (R132) -/

/-- The fields that a lane's loop values are read from. -/
def loopFields (n l : Nat) : List Fld :=
  [Reg.LANE_LOOP_VAL_GAIN n l, Reg.LANE_LOOP_VAL_OFS n l, Reg.LANE_LOOP_VAL_ASYM n l, Reg.LANE_TR_STS_FREQ n l]

theorem loopFields_block (n l : Nat) : ∀ f ∈ loopFields n l, f.block = laneBlock n l := by
  rw [loopFields, List.forall_mem_cons, List.forall_mem_cons, List.forall_mem_cons, List.forall_mem_singleton]
  exact ⟨block_lane (by decide), block_lane (by decide), block_lane (by decide), block_lane (by decide)⟩

theorem loopFields_nodup (n l : Nat) : ((loopFields n l).map Fld.key).Nodup := by
  simp [loopFields, Fld.key, Reg.LANE_LOOP_VAL_GAIN, Reg.LANE_LOOP_VAL_OFS, Reg.LANE_LOOP_VAL_ASYM, Reg.LANE_TR_STS_FREQ]
  omega

theorem Touches.copyLoops {fs : List Fld} {n : Nat} {d e : Dev} (h : Touches fs n d e) {dst : Nat} (hf : ∀ f ∈ loopFields n dst, f ∈ fs)
    (src : Nat) : Touches fs n d (copyLoops n src dst e) := by
  unfold Machine.copyLoops
  exact Touches.onLane (h.sets (by exact hf)) dst _

theorem get_copyLoops_other {n dst : Nat} {f : Fld} (hf : f.block ≠ laneBlock n dst) (src : Nat) (d : Dev) :
    (copyLoops n src dst d).get f = d.get f :=
  ((Touches.refl d).copyLoops (fun _ h => h) src).get_of_block (loopFields_block n dst) hf

theorem gain_copyLoops (n src dst : Nat) (d : Dev) :
    (copyLoops n src dst d).get (Reg.LANE_LOOP_VAL_GAIN n dst) = d.get (Reg.LANE_LOOP_VAL_GAIN n src) % 2 ^ 10 := by
  rw [copyLoops, Dev.get_onLane]
  exact Dev.get_sets_of_mem d (loopFields_nodup n dst) (.head _)

/-- A lane keeps its gain through a change of state. -/
theorem gain_laneTo (n l st src : Nat) (d : Dev) :
    (laneTo n l st src d).get (Reg.LANE_LOOP_VAL_GAIN n l) = d.get (Reg.LANE_LOOP_VAL_GAIN n l) := by
  refine ((Touches.refl d).laneTo (fun _ h => h) st src).regs.get ?_
  simp [stateFields, Fld.key, Reg.LANE_LOOP_VAL_GAIN, Reg.LANE_STATE_LSTATE, Reg.LANE_STATE_SRC, Reg.LANE_STATE_STBY]
  omega

/-! ### A lane begins to shadow another (R132) -/

/-- SHADOW and NATIVE_SHADOW: a lane starts from another's loop values, on an input that both take. -/
def shadowBegin (n s src dst target : Nat) (d : Dev) : Dev :=
  (laneTo n dst lSHADOW target (copyLoops n src dst d)).set (Reg.LANE_SPARE_CTL_RESULT n s) 1

/-- The fields that the command which begins it changes. -/
def shadowFields (n s l : Nat) : List Fld :=
  [Reg.LANE_SPARE_CTL_TRIG n s, Reg.LANE_SPARE_CTL_TARGET n s, Reg.LANE_SPARE_CTL_RESULT n s, Reg.LANE_STATE_LSTATE n l,
    Reg.LANE_STATE_SRC n l, Reg.LANE_LOOP_VAL_GAIN n l, Reg.LANE_LOOP_VAL_OFS n l, Reg.LANE_LOOP_VAL_ASYM n l,
    Reg.LANE_TR_STS_FREQ n l, Reg.LANE_STATE_STBY n l]

theorem Touches.shadowBegin {n s l : Nat} {d e : Dev} (h : Touches (shadowFields n s l) n d e) (src target : Nat) :
    Touches (shadowFields n s l) n d (shadowBegin n s src l target e) :=
  ((h.copyLoops (by simp [loopFields, shadowFields]) src).laneTo (by simp [stateFields, shadowFields]) _ _).set
    (by simp [shadowFields]) 1

section
variable {n s : Nat} (hs : s < 2)
include hs

/-- A lane reads the same whatever result a spare's command shows. -/
theorem get_setResult {l : Nat} (hl : l < 66) {f : Fld} (hf : f.block = laneBlock n l) (v : Nat) (d : Dev) :
    (d.set (Reg.LANE_SPARE_CTL_RESULT n s) v).get f = d.get f :=
  d.get_set_of_block v (hf.trans_ne ((laneBlock_ne (by omega)).trans_eq (block_spare ⟨hs, by decide⟩).symm))

/-- The lane that begins to shadow: its state, its input, its gain, and the command's result. -/
theorem shadowBegin_spec {dst target : Nat} (hdst : dst < 66) (ht : target ≤ 63) (src : Nat) (d : Dev) :
    (shadowBegin n s src dst target d).lstate n dst = lSHADOW ∧
      (shadowBegin n s src dst target d).get (Reg.LANE_STATE_SRC n dst) = target ∧
      (shadowBegin n s src dst target d).get (Reg.LANE_SPARE_CTL_RESULT n s) = 1 ∧
      (shadowBegin n s src dst target d).get (Reg.LANE_LOOP_VAL_GAIN n dst) = d.get (Reg.LANE_LOOP_VAL_GAIN n src) % 2 ^ 10 := by
  have hlane : ∀ {f : Fld}, f.block = laneBlock n dst → (shadowBegin n s src dst target d).get f =
      (laneTo n dst lSHADOW target (copyLoops n src dst d)).get f := fun hf => get_setResult hs hdst hf 1 _
  refine ⟨?_, ?_, Dev.get_set_self .., ?_⟩
  · exact (hlane (block_lane (by decide))).trans (lstate_laneTo ..)
  · exact (hlane (block_lane (by decide))).trans ((src_laneTo ..).trans (Nat.mod_eq_of_lt (by omega)))
  · exact (hlane (block_lane (by decide))).trans ((gain_laneTo ..).trans (gain_copyLoops ..))

/-- Other lanes keep their states. -/
theorem lstate_shadowBegin_other {l dst : Nat} (hl : l < 66) (hne : l ≠ dst) (src target : Nat) (d : Dev) :
    (shadowBegin n s src dst target d).lstate n l = d.lstate n l := by
  have hblock : (Reg.LANE_STATE_LSTATE n l).block = laneBlock n l := block_lane (by decide)
  rw [Dev.lstate, shadowBegin, get_setResult hs hl hblock, get_laneTo_other (hblock.trans_ne (laneBlock_ne hne)),
    get_copyLoops_other (hblock.trans_ne (laneBlock_ne hne)), ← Dev.lstate]

end

/-! ### A command to a spare that none holds (R132, R134) -/

/-- TRIG and TARGET take the values written. -/
def spareAsked (n s trig target : Nat) (d : Dev) : Dev :=
  d.sets [(Reg.LANE_SPARE_CTL_TRIG n s, trig), (Reg.LANE_SPARE_CTL_TARGET n s, target)]

theorem Touches.spareAsked {fs : List Fld} {n s : Nat} (hf : ∀ f ∈ [Reg.LANE_SPARE_CTL_TRIG n s, Reg.LANE_SPARE_CTL_TARGET n s], f ∈ fs)
    (trig target : Nat) (d : Dev) : Touches fs n d (spareAsked n s trig target d) :=
  (Touches.refl d).sets hf

/-- No command is pending with a spare, and self-test does not own it. -/
def SpareFree (d : Dev) (n s : Nat) : Prop :=
  d.getB (Reg.LANE_SPARE_CTL_BUSY n s) = false ∧ d.getB (Reg.LANE_SPARE_CTL_TST_OWN n s) = false

theorem spareCmd_of_free {n s trig target : Nat} {d : Dev}
    (hfree : SpareFree d n s) (ht : target ≤ 63)
    (go : Dev → Dev) : spareCmd n s trig target d go = go (spareAsked n s trig target d) := by
  obtain ⟨hbusy, hown⟩ := hfree
  have hown' : (spareAsked n s trig target d).getB (Reg.LANE_SPARE_CTL_TST_OWN n s) = false := by
    rw [← hown, Dev.getB, Dev.getB, (Touches.spareAsked (fun _ h => h) trig target d).regs.get]
    simp [Fld.key, Reg.LANE_SPARE_CTL_TRIG, Reg.LANE_SPARE_CTL_TARGET, Reg.LANE_SPARE_CTL_TST_OWN]
  rw [spareCmd, hbusy, if_neg Bool.false_ne_true]
  refine if_neg ?_
  rintro (h | h)
  · exact Bool.false_ne_true (hown'.symm.trans h)
  · omega

theorem spareCmd_of_no_beam {n s trig target : Nat} {d : Dev} (hbusy : d.getB (Reg.LANE_SPARE_CTL_BUSY n s) = false)
    (ht : 63 < target) (go : Dev → Dev) : spareCmd n s trig target d go = spareErr n s (spareAsked n s trig target d) := by
  rw [spareCmd, hbusy, if_neg Bool.false_ne_true]
  exact if_pos (.inr ht)

section
variable {n s : Nat} (hs : s < 2)
include hs

theorem get_spareAsked {f : Fld} (hf : f.block ≠ laneBlock n 68) (trig target : Nat) (d : Dev) :
    (spareAsked n s trig target d).get f = d.get f := by
  refine (Touches.spareAsked (fun _ h => h) trig target d).get_of_block ?_ hf
  rw [List.forall_mem_cons, List.forall_mem_singleton]
  exact ⟨block_spare ⟨hs, by decide⟩, block_spare ⟨hs, by decide⟩⟩

/-- A lane reads the same whatever is written to the spares' words. -/
theorem get_spareAsked_lane {l o lo w : Nat} (hl : l < 66) (h : 0x10000 ≤ o ∧ o < 0x10040 ∧ lo < 32) (trig target : Nat) (d : Dev) :
    (spareAsked n s trig target d).get ⟨0x1000000 + n * 0x100000 + o + l * 0x40, lo, w⟩ =
      d.get ⟨0x1000000 + n * 0x100000 + o + l * 0x40, lo, w⟩ :=
  get_spareAsked hs ((block_lane h).trans_ne (laneBlock_ne (by omega))) trig target d

theorem lstate_spareAsked {l : Nat} (hl : l < 66) (trig target : Nat) (d : Dev) :
    (spareAsked n s trig target d).lstate n l = d.lstate n l := get_spareAsked_lane hs hl (by decide) trig target d

theorem src_spareAsked {l : Nat} (hl : l < 66) (trig target : Nat) (d : Dev) :
    (spareAsked n s trig target d).get (Reg.LANE_STATE_SRC n l) = d.get (Reg.LANE_STATE_SRC n l) :=
  get_spareAsked_lane hs hl (by decide) trig target d

end

/-! ### SHADOW and NATIVE_SHADOW: at once (R132) -/

theorem servingLane_native {n t : Nat} {d : Dev} (h : d.lstate n t = lACTIVE ∧ d.get (Reg.LANE_STATE_SRC n t) = t) :
    servingLane d n t = some t := by
  rw [servingLane, List.find?_cons_of_pos]
  rw [h.1, h.2]
  simp

theorem spareShadow_begins {n s trig target : Nat} (hs : s < 2) {d : Dev}
    (hfree : SpareFree d n s) (ht : target ≤ 63)
    (hspare : d.lstate n (64 + s) = lSPARE) (hnative : d.lstate n target = lACTIVE ∧ d.get (Reg.LANE_STATE_SRC n target) = target)
    (hother : d.get (Reg.LANE_STATE_SRC n (otherSpare s)) ≠ target) :
    spareShadow n s trig target d = shadowBegin n s target (64 + s) target (spareAsked n s trig target d) := by
  obtain ⟨hactive, hsrc⟩ := hnative
  have hlstate : ∀ l < 66, (spareAsked n s trig target d).lstate n l = d.lstate n l := fun l hl => lstate_spareAsked hs hl ..
  have hsrcs : ∀ l < 66, (spareAsked n s trig target d).get (Reg.LANE_STATE_SRC n l) = d.get (Reg.LANE_STATE_SRC n l) :=
    fun l hl => src_spareAsked hs hl ..
  have hserves : servingLane (spareAsked n s trig target d) n target = some target :=
    servingLane_native ⟨(hlstate target (by omega)).trans hactive, (hsrcs target (by omega)).trans hsrc⟩
  rw [spareShadow, spareCmd_of_free hfree ht]
  dsimp only
  rw [hlstate target (by omega), hlstate (64 + s) (by omega), hsrcs (otherSpare s) (by unfold otherSpare; omega), hspare, hactive,
    hserves, bne_iff_ne.2 hother]
  rfl

theorem spareNativeShadow_begins {n s trig target : Nat} (hs : s < 2) {d : Dev}
    (hfree : SpareFree d n s) (ht : target ≤ 63)
    (h : d.lstate n (64 + s) = lACTIVE ∧ d.get (Reg.LANE_STATE_SRC n (64 + s)) = target ∧ d.lstate n target = lTEST) :
    spareNativeShadow n s trig target d = shadowBegin n s (64 + s) target target (spareAsked n s trig target d) := by
  rw [spareNativeShadow, spareCmd_of_free hfree ht]
  refine if_pos ?_
  rwa [lstate_spareAsked hs (by omega), lstate_spareAsked hs (by omega), src_spareAsked hs (by omega)]

/-! ### SWAP and SWAP_BACK: they wait (R133) -/

/-- The trigger of a swap is one of software's, armed, and the timebase is past SEARCH. -/
def TrigWaits (d : Dev) (n trig : Nat) : Prop :=
  16 ≤ trig ∧ d.getB (Reg.ANG_TRIG_CFG_ARM n trig) = true ∧ d.get (Reg.ANG_TRIG_CFG_MODE n trig) ≠ 0 ∧ 2 ≤ d.tbState n

/-- A swap that waits. -/
def spareWaiting (n s trig : Nat) (back : Bool) (d : Dev) : Dev :=
  (d.set (Reg.LANE_SPARE_CTL_BUSY n s) 1).onDeck n (fun k => { k with spare := k.spare.ins s (some { back := back, trig := trig }) })

theorem spareWait_waits {n s trig : Nat} {d : Dev} (h : TrigWaits d n trig) (back : Bool) :
    spareWait n s trig back d = spareWaiting n s trig back d := by
  obtain ⟨htrig, harm, hmode, htb⟩ := h
  refine if_neg ?_
  rw [harm]
  rintro (h | h | h | h)
  · omega
  · exact Bool.noConfusion h
  · exact hmode h
  · omega

theorem TrigWaits.spareAsked {n s trig : Nat} (hs : s < 2) (ht : trig < 64) {d : Dev} (h : TrigWaits d n trig) (target : Nat) :
    TrigWaits (spareAsked n s trig target d) n trig := by
  obtain ⟨hsoft, harm, hmode, htb⟩ := h
  have hlow : ∀ f : Fld, f.key < (0x1010000 + n * 0x100000) * 32 → (Machine.spareAsked n s trig target d).get f = d.get f := by
    intro f hf
    refine get_spareAsked hs ?_ trig target d
    simp only [Fld.block, laneBlock]
    omega
  refine ⟨hsoft, ?_, ?_, ?_⟩
  · rwa [Dev.getB, hlow _ (by simp only [Fld.key, Reg.ANG_TRIG_CFG_ARM]; omega)]
  · rwa [hlow _ (by simp only [Fld.key, Reg.ANG_TRIG_CFG_MODE]; omega)]
  · rwa [Dev.tbState, hlow _ (by simp only [Fld.key, Reg.ANG_STS_STATE]; omega)]

/-- What a swap that waits leaves. -/
theorem spareWaiting_spec {n s trig : Nat} (back : Bool) (d : Dev) :
    (spareWaiting n s trig back d).get (Reg.LANE_SPARE_CTL_BUSY n s) = 1 ∧
      ((spareWaiting n s trig back d).deck n).sparePend s = some { back := back, trig := trig } := by
  rw [spareWaiting, Dev.get_onDeck, Dev.deck_onDeck_self, Deck.sparePend]
  exact ⟨Dev.get_set_self .., FMap.get_ins_self ..⟩

theorem spareSwap_waits {n s trig target : Nat} (hs : s < 2) (htrig : trig < 64) {d : Dev}
    (hfree : SpareFree d n s) (ht : target ≤ 63)
    (h : d.lstate n (64 + s) = lSHADOW ∧ d.get (Reg.LANE_STATE_SRC n (64 + s)) = target) (hwaits : TrigWaits d n trig) :
    spareSwap n s trig target d = spareWaiting n s trig false (spareAsked n s trig target d) := by
  rw [spareSwap, spareCmd_of_free hfree ht, ← spareWait_waits (hwaits.spareAsked hs htrig target)]
  refine if_pos ?_
  rwa [lstate_spareAsked hs (by omega), src_spareAsked hs (by omega)]

theorem spareSwapBack_waits {n s trig target : Nat} (hs : s < 2) (htrig : trig < 64) {d : Dev}
    (hfree : SpareFree d n s) (ht : target ≤ 63)
    (h : d.lstate n (64 + s) = lACTIVE ∧ d.get (Reg.LANE_STATE_SRC n (64 + s)) = target ∧ d.lstate n target = lSHADOW)
    (hwaits : TrigWaits d n trig) :
    spareSwapBack n s trig target d = spareWaiting n s trig true (spareAsked n s trig target d) := by
  rw [spareSwapBack, spareCmd_of_free hfree ht, ← spareWait_waits (hwaits.spareAsked hs htrig target)]
  refine if_pos ?_
  rwa [lstate_spareAsked hs (by omega), lstate_spareAsked hs (by omega), src_spareAsked hs (by omega)]

theorem spareRelease_releases {n s trig target : Nat} (hs : s < 2) {d : Dev}
    (hfree : SpareFree d n s) (ht : target ≤ 63)
    (h : d.lstate n (64 + s) = lSHADOW) :
    spareRelease n s trig target d =
      (laneTo n (64 + s) lSPARE 127 (spareAsked n s trig target d)).set (Reg.LANE_SPARE_CTL_RESULT n s) 1 := by
  rw [spareRelease, spareCmd_of_free hfree ht]
  refine if_pos ?_
  rwa [lstate_spareAsked hs (by omega)]

/-! ### The swap at its guard (R133) -/

theorem Touches.gateShow {fs : List Fld} {n : Nat} (hf : ∀ f ∈ [Reg.WRP_GATE_STS_EMIT_OPEN n, Reg.WRP_GATE_STS_CLOSED n], f ∈ fs) (d : Dev) :
    Touches fs n d (d.gateShow n) := by
  unfold Dev.gateShow
  extract_lets gone e1 e2 e3
  have h1 : Touches fs n d e1 := by
    simp only [e1]
    split
    · split
      · exact .onDeck (.refl d) _
      · exact .refl d
    · exact .refl d
  have h2 : Touches fs n d e2 := by
    simp only [e2]
    split
    · exact .ite (.onDeck h1 _) h1
    · exact h1
  have h3 : Touches fs n d e3 := .ite (.onDeck h2 _) h2
  exact (h3.set (hf _ (by simp)) _).set (hf _ (by simp)) _

theorem eqNeighbours_touches (n beam : Nat) (d : Dev) : Touches [] n d (eqNeighbours n beam d) := by
  have hside : ∀ e beam side, Touches [] n e (eqSideInit n beam side e) := fun e _ _ => .ite (.refl e) (.onDeck (.refl e) _)
  unfold eqNeighbours
  extract_lets e
  have he : Touches [] n d e := .ite (hside d _ _) (.refl d)
  exact .ite (he.trans (hside e _ _)) he

/-- The lanes once a spare has taken a beam position from its native lane. -/
def spareServes (n s t : Nat) (d : Dev) : Dev :=
  (laneTo n (64 + s) lACTIVE t (laneTo n t lTEST 127 d)).set (Reg.LANE_STATE_ERASED n t) 0

theorem spareServes_spec {n s t : Nat} (ht : t < 64) (d : Dev) :
    (spareServes n s t d).lstate n (64 + s) = lACTIVE ∧ (spareServes n s t d).get (Reg.LANE_STATE_SRC n (64 + s)) = t ∧
      (spareServes n s t d).lstate n t = lTEST ∧ (spareServes n s t d).get (Reg.LANE_STATE_ERASED n t) = 0 := by
  have hspare : laneBlock n (64 + s) ≠ laneBlock n t := laneBlock_ne (by omega)
  have herased : (Reg.LANE_STATE_ERASED n t).block = laneBlock n t := block_lane (by decide)
  have hkeep : ∀ {f : Fld}, f.block = laneBlock n (64 + s) →
      (spareServes n s t d).get f = (laneTo n (64 + s) lACTIVE t (laneTo n t lTEST 127 d)).get f := fun hf =>
    Dev.get_set_of_block _ 0 (hf.trans_ne (hspare.trans_eq herased.symm))
  refine ⟨?_, ?_, ?_, Dev.get_set_self ..⟩
  · exact (hkeep (block_lane (by decide))).trans (lstate_laneTo ..)
  · exact (hkeep (block_lane (by decide))).trans ((src_laneTo ..).trans (Nat.mod_eq_of_lt (by omega)))
  · rw [Dev.lstate, spareServes, Dev.get_set_ne _ _ (by simp [Fld.key, Reg.LANE_STATE_LSTATE, Reg.LANE_STATE_ERASED])]
    exact (get_laneTo_other ((block_lane (by decide)).trans_ne hspare.symm) ..).trans (lstate_laneTo ..)

theorem swapMake_serves {n s t : Nat} {d : Dev} (hsrc : d.get (Reg.LANE_STATE_SRC n (64 + s)) = t) (hactive : d.lstate n t = lACTIVE) :
    Touches [Reg.WRP_GATE_STS_EMIT_OPEN n, Reg.WRP_GATE_STS_CLOSED n] n (spareServes n s t d) (swapMake n s false d) := by
  rw [swapMake, hsrc]
  dsimp only
  rw [if_neg Bool.false_ne_true, if_pos hactive, ← spareServes]
  exact (Touches.ite ((eqNeighbours_touches ..).mono (by simp)) (.refl _)).trans (.gateShow (fun _ h => h) _)

theorem spareSwapAtGuard_makes {n s : Nat} {d : Dev} {p : SparePend} (hpend : (d.deck n).sparePend s = some p ∧ p.fired = true ∧ p.back = false)
    {t : Nat} (hsrc : d.get (Reg.LANE_STATE_SRC n (64 + s)) = t)
    (hflags : d.getB (Reg.LANE_WIN_STS_FLAG n (64 + s)) = false ∧ d.getB (Reg.LANE_WIN_STS_FLAG n t) = false)
    (hlocked : d.tbState n = tbLOCKED) : spareSwapAtGuard n s d = (swapMake n s false d).spareEnd n s 1 := by
  obtain ⟨hsome, hfired, hback⟩ := hpend
  obtain ⟨hflag, hflag'⟩ := hflags
  rw [spareSwapAtGuard, hsome]
  dsimp only
  rw [hsrc, hflag, hflag', hlocked, hfired, hback]
  simp

theorem Touches.spareEnd {fs : List Fld} {n s : Nat} {d e : Dev} (h : Touches fs n d e)
    (hf : ∀ f ∈ [Reg.LANE_SPARE_CTL_BUSY n s, Reg.LANE_SPARE_CTL_RESULT n s], f ∈ fs) (result : Nat) :
    Touches fs n d (e.spareEnd n s result) :=
  ((h.onDeck _).set (hf _ (by simp)) 0).set (hf _ (by simp)) result

theorem spareEnd_spec (n s result : Nat) (d : Dev) :
    (d.spareEnd n s result).get (Reg.LANE_SPARE_CTL_BUSY n s) = 0 ∧
      (d.spareEnd n s result).get (Reg.LANE_SPARE_CTL_RESULT n s) = result % 2 ^ 3 ∧
      ((d.spareEnd n s result).deck n).sparePend s = none := by
  refine ⟨?_, Dev.get_set_self .., ?_⟩
  · rw [Dev.spareEnd, Dev.get_set_ne _ _ (by simp [Fld.key, Reg.LANE_SPARE_CTL_BUSY, Reg.LANE_SPARE_CTL_RESULT])]
    exact Dev.get_set_self ..
  · rw [Dev.spareEnd, Dev.deck_set, Dev.deck_set, Dev.deck_onDeck_self, Deck.sparePend]
    exact FMap.get_ins_self ..

/-- The fields that a swap at its guard changes after the lanes have. -/
def guardFields (n s : Nat) : List Fld :=
  [Reg.WRP_GATE_STS_EMIT_OPEN n, Reg.WRP_GATE_STS_CLOSED n, Reg.LANE_SPARE_CTL_BUSY n s, Reg.LANE_SPARE_CTL_RESULT n s]

/-- None of them is a lane's. -/
theorem guardFields_key_ne {n s m : Nat} (hs : s < 2) (hm : m < 66) {f : Fld} (hf : f.block = laneBlock n m) :
    ∀ g ∈ guardFields n s, f.key ≠ g.key := by
  simp [guardFields, Fld.block, Fld.key, laneBlock, Reg.WRP_GATE_STS_EMIT_OPEN, Reg.WRP_GATE_STS_CLOSED, Reg.LANE_SPARE_CTL_BUSY,
    Reg.LANE_SPARE_CTL_RESULT] at hf ⊢
  omega

/-- A swap that is made leaves visits alone, of which there are none. -/
theorem tstSwapped_quiet {d : Dev} (h : d.tst.visits = []) (c : Clock) : tstSwapped c d = d := by
  rw [tstSwapped, h, List.foldl_nil]

/-! ### The statement -/

/-- Settles O21: a command to a free spare writes its words and then begins a shadow, waits, or ends one; a swap at its guard is a
change of two lanes' states, and what follows it touches no lane. -/
theorem spareLanes : Obligations.SpareLanes := by
  unfold Obligations.SpareLanes
  refine ⟨?shadow, ?noBeam, ?swap, ?swapBack, ?release, ?nativeShadow, ?guard⟩
  case shadow =>
    intro c d q link n sp trig target hdeny hfree ht hspare hnative hother
    obtain ⟨w, hrow⟩ := regRow_next hdeny c q (spareShadow n sp trig target)
    rw [spareShadow_begins (d := { d with who := w }) sp.isLt hfree ht hspare hnative hother] at hrow
    obtain ⟨hstate, hsrc, hresult, hgain⟩ := shadowBegin_spec (n := n) sp.isLt (dst := 64 + sp) (by omega) ht target
      (spareAsked n sp trig target { d with who := w })
    refine ⟨_, hrow, hstate, hsrc, hresult, hgain.trans ?_, ?_, Touches.frame_access (w := w) ?_⟩
    · exact congrArg (· % 2 ^ 10) (get_spareAsked_lane sp.isLt (by omega) (by decide) ..)
    · rw [lstate_shadowBegin_other sp.isLt (by omega) (by omega), lstate_spareAsked sp.isLt (by omega)]
      exact hnative.1
    · exact (Touches.spareAsked (by simp [shadowFields]) ..).shadowBegin ..
  case noBeam =>
    intro c d q link n sp trig target hdeny hbusy ht
    obtain ⟨w, hrow⟩ := regRow_next hdeny c q (spareShadow n sp trig target)
    rw [spareShadow, spareCmd_of_no_beam (d := { d with who := w }) hbusy ht] at hrow
    refine ⟨_, hrow, Dev.get_set_self .., ?_, ?_, ?_⟩
    · exact (get_setResult sp.isLt (by omega) (block_lane (by decide)) 2 _).trans
        (lstate_spareAsked sp.isLt (by omega) ..)
    · rw [spareErr, spareAsked, Dev.sets_eq]
      rfl
    · exact ((Touches.spareAsked (by simp) ..).set (by simp) 2).frame_access.2.2
  case swap =>
    intro c d q link n sp trig target hdeny hfree ht hshadow hwaits
    obtain ⟨w, hrow⟩ := regRow_next hdeny c q (spareSwap n sp trig target)
    rw [spareSwap_waits (d := { d with who := w }) sp.isLt trig.isLt hfree ht hshadow hwaits] at hrow
    obtain ⟨hbusy, hpend⟩ := spareWaiting_spec (n := n) (s := sp) (trig := trig) false (spareAsked n sp trig target { d with who := w })
    exact ⟨_, hrow, hbusy, hpend, (((Touches.spareAsked (by simp) ..).set (by simp) 1).onDeck _).frame_access⟩
  case swapBack =>
    intro c d q link n sp trig target hdeny hfree ht hserves hwaits
    obtain ⟨w, hrow⟩ := regRow_next hdeny c q (spareSwapBack n sp trig target)
    rw [spareSwapBack_waits (d := { d with who := w }) sp.isLt trig.isLt hfree ht hserves hwaits] at hrow
    obtain ⟨hbusy, hpend⟩ := spareWaiting_spec (n := n) (s := sp) (trig := trig) true (spareAsked n sp trig target { d with who := w })
    exact ⟨_, hrow, hbusy, hpend, (((Touches.spareAsked (by simp) ..).set (by simp) 1).onDeck _).frame_access⟩
  case release =>
    intro c d q link n sp trig target hdeny hfree ht hshadow
    obtain ⟨w, hrow⟩ := regRow_next hdeny c q (spareRelease n sp trig target)
    rw [spareRelease_releases (d := { d with who := w }) sp.isLt hfree ht hshadow] at hrow
    refine ⟨_, hrow, ?_, ?_, Dev.get_set_self .., ?_, Touches.frame_access (w := w) ?_⟩
    · exact (get_setResult sp.isLt (by omega) (block_lane (by decide)) 1 _).trans (lstate_laneTo ..)
    · exact (get_setResult sp.isLt (by omega) (block_lane (by decide)) 1 _).trans (src_laneTo ..)
    · obtain ⟨k, hk⟩ := deck_laneTo_spare n (64 + sp) 127 (spareAsked n sp trig target { d with who := w })
      rw [Dev.deck_set, hk, spareAsked, Dev.sets_eq]
      rfl
    · exact ((Touches.spareAsked (by simp) ..).laneTo (by simp [stateFields]) _ _).set (by simp) 1
  case nativeShadow =>
    intro c d q link n sp trig target hdeny hfree ht hserves
    obtain ⟨w, hrow⟩ := regRow_next hdeny c q (spareNativeShadow n sp trig target)
    rw [spareNativeShadow_begins (d := { d with who := w }) sp.isLt hfree ht hserves] at hrow
    obtain ⟨hstate, hsrc, hresult, _⟩ := shadowBegin_spec (n := n) sp.isLt (dst := target) (by omega) ht (64 + sp)
      (spareAsked n sp trig target { d with who := w })
    refine ⟨_, hrow, hstate, hsrc, hresult, ?_, Touches.frame_access (w := w) ?_⟩
    · rw [lstate_shadowBegin_other sp.isLt (by omega) (by omega), lstate_spareAsked sp.isLt (by omega)]
      exact hserves.1
    · exact (Touches.spareAsked (by simp [shadowFields]) ..).shadowBegin ..
  case guard =>
    intro c d q n sp p t hon hpend hsrc hactive hflags hlocked hvisits
    have hmade : Touches (guardFields n sp) n (spareServes n sp t d) ((swapMake n sp false d).spareEnd n sp 1) :=
      ((swapMake_serves hsrc hactive).mono (by simp [guardFields])).spareEnd (by simp [guardFields]) 1
    have hserves : Touches (stateFields n (64 + sp) ++ stateFields n t ++ [Reg.LANE_STATE_ERASED n t]) n d (spareServes n sp t d) :=
      (((Touches.refl d).laneTo (by simp +contextual) _ _).laneTo (by simp +contextual) _ _).set (by simp) 0
    have hexec : exec (.spareSwapAtGuard n sp) ⟨c, d, q⟩ = .next ⟨c, (swapMake n sp false d).spareEnd n sp 1, q⟩ := by
      have hrow : exec (.spareSwapAtGuard n sp) ⟨c, d, q⟩ =
        .next ⟨c, laneRow n (fun d => tstSwapped c (spareSwapAtGuard n sp d)) d, q⟩ := rfl
      rw [hrow, laneRow_of_on hon, spareSwapAtGuard_makes hpend hsrc hflags hlocked, tstSwapped_quiet]
      rw [hmade.tst, hserves.tst, hvisits]
    have hlane : ∀ {m : Nat}, m < 66 → ∀ {f : Fld}, f.block = laneBlock n m →
        ((swapMake n sp false d).spareEnd n sp 1).get f = (spareServes n sp t d).get f :=
      fun hm _ hf => hmade.regs.get (guardFields_key_ne sp.isLt hm hf)
    obtain ⟨hspare, hinput, hnative, herased⟩ := spareServes_spec (n := n) (s := sp) t.isLt d
    obtain ⟨hbusy, hresult, hnone⟩ := spareEnd_spec n sp 1 (swapMake n sp false d)
    exact ⟨_, hexec, (hlane (by omega) (block_lane (by decide))).trans hspare, (hlane (by omega) (block_lane (by decide))).trans hinput,
      (hlane (by omega) (block_lane (by decide))).trans hnative, (hlane (by omega) (block_lane (by decide))).trans herased,
      hbusy, hresult, hnone, hserves.others.trans hmade.others⟩

end Sys2Proof.Machine
end

section
/-! SUPPORT. Sync and resync windows, and the LDPC pool: a sector is placed, decoded and decided (R163 to R170). -/

open Sys2Proof Sys2Proof.Machine

namespace Sys2Proof.Machine

/-! ### Changes of one deck, of registers and of the dies' pools -/

/-- Only registers, what one deck holds, and the dies' pools are changed. -/
def PoolTouches (n : Nat) (d e : Dev) : Prop := DeckOnly n d e ∧ e = { d with regs := e.regs, decks := e.decks, dies := e.dies }

/-- Only what one deck holds is changed. -/
def DeckChange (n : Nat) (d e : Dev) : Prop := DeckOnly n d e ∧ e = { d with decks := e.decks }

section
variable {n : Nat} {d e f : Dev}

theorem PoolTouches.refl (d : Dev) : PoolTouches n d d := ⟨fun _ _ => rfl, rfl⟩

theorem PoolTouches.trans (h : PoolTouches n d e) (h' : PoolTouches n e f) : PoolTouches n d f :=
  ⟨h.1.trans h'.1, h'.2.trans (congrArg (fun x => { x with regs := f.regs, decks := f.decks, dies := f.dies }) h.2)⟩

theorem PoolTouches.onDeck (h : PoolTouches n d e) (g : Deck → Deck) : PoolTouches n d (e.onDeck n g) := h.trans ⟨.onDeck n g e, rfl⟩

theorem PoolTouches.bump (h : PoolTouches n d e) (g : Fld) (k : Nat) : PoolTouches n d (e.bump g k) := h.trans ⟨fun _ _ => rfl, rfl⟩

theorem PoolTouches.onDie (h : PoolTouches n d e) (i : Nat) (g : Die → Die) : PoolTouches n d (e.onDie i g) :=
  h.trans ⟨.of_decks (onDie_decks ..), (onDie_eq i g e).trans (by rw [onDie_decks])⟩

theorem DeckChange.trans (h : DeckChange n d e) (h' : DeckChange n e f) : DeckChange n d f :=
  ⟨h.1.trans h'.1, h'.2.trans (congrArg (fun x => { x with decks := f.decks }) h.2)⟩

theorem DeckChange.onDeck (n : Nat) (g : Deck → Deck) (d : Dev) : DeckChange n d (d.onDeck n g) := ⟨.onDeck n g d, rfl⟩

theorem DeckChange.regs (h : DeckChange n d e) : e.regs = d.regs := (congrArg Dev.regs h.2 :)

theorem DeckChange.dies (h : DeckChange n d e) : e.dies = d.dies := (congrArg Dev.dies h.2 :)

theorem DeckChange.die (h : DeckChange n d e) (i : Nat) : e.die i = d.die i := by
  rw [Dev.die, h.dies, Dev.die]

theorem DeckChange.touches (h : DeckChange n d e) : PoolTouches n d e := by
  refine ⟨h.1, h.2.trans ?_⟩
  rw [h.regs, h.dies]

end

/-- A count field that was added to reads the sum, held at its greatest value. -/
theorem Dev.get_bump_self (d : Dev) (f : Fld) (k : Nat) : (d.bump f k).get f = satAdd f.w (d.get f) k :=
  (Dev.get_set_self ..).trans
    (Nat.mod_eq_of_lt ((Nat.min_le_right ..).trans_lt (Nat.sub_one_lt (Nat.two_pow_pos _).ne')))

/-! ### The die's pool (R168, R170, R187) -/

theorem onDie_die (i : Nat) (f : Die → Die) (d : Dev) : ∃ shed, (d.onDie i f).die i = { f (d.die i) with shed := shed } := by
  obtain ⟨_, shed, _, h⟩ := onDie_stsOnly i f d
  exact ⟨shed, h⟩

theorem Fld.key_mod {f : Fld} (h : f.lo < 32) : f.key % 32 = f.lo := Nat.mul_add_mod_of_lt h

/-- QUEUE of a deck, once it shows a count, shows it still when the words of other decks are set. -/
theorem get_queue_shown {j m v : Nat} {e : Dev} (h : j = m ∨ e.get (Reg.DET_STS_QUEUE m) = v % 2 ^ 16) (s : Nat) :
    ((e.set (Reg.DET_STS_QUEUE j) v).set (Reg.DET_STS_SHED j) s).get (Reg.DET_STS_QUEUE m) = v % 2 ^ 16 := by
  have hshed : (Reg.DET_STS_QUEUE m).key ≠ (Reg.DET_STS_SHED j).key := fun hk =>
    absurd ((congrArg (· % 32) hk).trans (Fld.key_mod (det_sts_bits j).2))
      (by rw [Fld.key_mod (det_sts_bits m).1]; exact (by decide : ¬16 = 15))
  rw [Dev.get_set_ne _ _ hshed]
  by_cases hj : j = m
  · rw [hj]
    exact Dev.get_set_self ..
  · refine (Dev.get_set_of_off_ne _ _ (fun ho => hj ?_) (det_sts_bits m).1 (det_sts_bits j).1).trans (h.resolve_left hj)
    exact (Nat.eq_of_mul_eq_mul_right (by decide) (Nat.add_left_cancel (Nat.add_right_cancel ho))).symm

/-- So does the first of eight decks, when each is set to show it. -/
theorem get_queue_foldl (m v : Nat) (s : Bool) (e : Dev) :
    ((List.range 8).foldl (fun d k => (d.set (Reg.DET_STS_QUEUE (m + k)) v).setB (Reg.DET_STS_SHED (m + k)) s) e).get
      (Reg.DET_STS_QUEUE m) = v % 2 ^ 16 := by
  rw [show List.range 8 = 0 :: [1, 2, 3, 4, 5, 6, 7] from rfl, List.foldl_cons]
  exact List.foldlRecOn (motive := fun (e : Dev) => e.get (Reg.DET_STS_QUEUE m) = v % 2 ^ 16) _ _ (get_queue_shown (.inl rfl) _)
    fun _ he _ _ => get_queue_shown (.inr he) _

/-- QUEUE of the first deck of a die shows how many sectors wait for their first pass. -/
theorem get_queue_onDie (i : Nat) (f : Die → Die) (d : Dev) :
    (d.onDie i f).get (Reg.DET_STS_QUEUE (8 * i)) = (f (d.die i)).first.length % 2 ^ 16 := by
  delta Dev.onDie dieShow
  exact (get_queue_foldl ..).trans (congrArg (fun p => (Die.first p).length % 2 ^ 16) (FMap.get_ins_self ..))

/-! ### What a change of a lane's margin record leaves (R177) -/

/-- Only margin counters of one deck are changed. -/
structure MarginOnly (n : Nat) (d e : Dev) : Prop where
  change : DeckChange n d e
  blocks : (e.deck n).blocks = (d.deck n).blocks
  accepted : (e.deck n).accepted = (d.deck n).accepted

theorem onDeck_marginOnly (n : Nat) {g : Deck → Deck} (h : ∀ k, (g k).blocks = k.blocks ∧ (g k).accepted = k.accepted) (d : Dev) :
    MarginOnly n d (d.onDeck n g) := by
  have hdeck := Dev.deck_onDeck_self d n g
  exact ⟨.onDeck n g d, (congrArg Deck.blocks hdeck).trans (h _).1, (congrArg Deck.accepted hdeck).trans (h _).2⟩

theorem laneMargin_marginOnly (n beam : Nat) (f : LaneMargin → LaneMargin) (d : Dev) : MarginOnly n d (laneMargin n beam f d) := by
  unfold laneMargin
  split
  · delta Dev.onLaneMargin
    refine onDeck_marginOnly n ?_ d
    exact fun _ => ⟨rfl, rfl⟩
  · exact ⟨⟨fun _ _ => rfl, rfl⟩, rfl, rfl⟩

/-! ### A sector is decided (R167, R171) -/

/-- A block with a sector decided: converged with its payload, or an erasure. -/
def Blk.decided (beam : Nat) (pay : Option (List Byte)) (b : Blk) : Blk :=
  match pay with
  | some p => { b with dec := setAt b.dec beam .conv, pay := b.pay.ins beam p }
  | none => { b with dec := setAt b.dec beam .erased }

theorem Blk.decided_mode_slot (beam : Nat) (pay : Option (List Byte)) (b : Blk) :
    (b.decided beam pay).mode = b.mode ∧ (b.decided beam pay).slot = b.slot := by
  cases pay <;> exact ⟨rfl, rfl⟩

/-- A block with darn is not settled sector by sector. -/
theorem blkSettle_of_darn {d : Dev} {n slot : Nat} {b : Blk} (hb : (d.deck n).blocks = [b]) (hs : b.slot = slot) (hm : b.mode ≠ 1)
    (c : Clock) : blkSettle c n slot d = d := by
  rw [blkSettle, Deck.blk_singleton hb hs]
  refine if_neg fun h => hm ?_
  rw [Bool.and_eq_true, Bool.and_eq_true] at h
  exact eq_of_beq h.1.1

/-- What the decision of a sector of the one block in hand leaves. -/
structure SectorDecided (n beam : Nat) (pay : Option (List Byte)) (b : Blk) (d e : Dev) : Prop where
  change : DeckChange n d e
  blocks : (e.deck n).blocks = [b.decided beam pay]

theorem sectorDecide_spec {d : Dev} {n slot : Nat} {b : Blk} (hb : (d.deck n).blocks = [b]) (hs : b.slot = slot) (hm : b.mode ≠ 1)
    (c : Clock) (beam : Nat) (pay : Option (List Byte)) : SectorDecided n beam pay b d (sectorDecide c n slot beam pay d) := by
  have hcount := laneMargin_marginOnly n beam (fun m => { m with sectors := satAdd 32 m.sectors 1 }) d
  have hdecided := blocks_onBlk (hcount.blocks.trans hb) hs (Blk.decided beam pay)
  obtain ⟨hmode, hslot⟩ := b.decided_mode_slot beam pay
  have hset := blkSettle_of_darn hdecided (hslot.trans hs) (hmode ▸ hm) c
  have hrow : sectorDecide c n slot beam pay d = _ := Eq.trans (by cases pay <;> rfl) hset
  rw [hrow]
  exact ⟨hcount.change.trans (.onDeck n _ _), hdecided⟩

/-! ### A sector is placed (R165, R170) -/

/-- A pool that a sector has joined: it waits for its first pass, and its outputs are kept. -/
def Die.joined (s : SectorId) (p : Die) : Die := { p with first := p.first ++ [s], held := p.held ++ [{ id := s }] }

/-- A buffer with room takes the sector; none is given up for it. -/
theorem queueFirst_of_room {d : Dev} {n : Nat} (h : (d.die (dieOf n)).outstanding < 4096) (c : Clock) (slot beam : Nat) :
    queueFirst c n slot beam d = d.onDie (dieOf n) (Die.joined ⟨n, slot, beam⟩) :=
  congrArg (Dev.onDie · (dieOf n) (Die.joined ⟨n, slot, beam⟩)) (if_neg (Nat.not_le.2 h))

/-- A change of a block leaves the rest of its deck. -/
theorem deck_onBlk (n slot : Nat) (f : Blk → Blk) (d : Dev) :
    ((onBlk n slot f d).deck n).align = (d.deck n).align ∧ ((onBlk n slot f d).deck n).accepted = (d.deck n).accepted ∧
      ((onBlk n slot f d).deck n).blocks = mapIf (fun b => b.slot == slot) f (d.deck n).blocks := by
  have h := Dev.deck_onDeck_self d n fun k => { k with blocks := mapIf (fun b => b.slot == slot) f k.blocks }
  exact ⟨(congrArg Deck.align h :), (congrArg Deck.accepted h :), (congrArg Deck.blocks h :)⟩

/-- What is noted of a placed sector: its offset; neither acceptances nor decodes without a header are changed. -/
structure OffsetNoted (n beam : Nat) (delta : Int) (d e : Dev) : Prop where
  change : DeckChange n d e
  align : FMap.get (fun _ => 0) (e.deck n).align beam = delta
  accepted : (e.deck n).accepted = (d.deck n).accepted
  blind : (e.deck n).blocks.map Blk.blind = (d.deck n).blocks.map Blk.blind

theorem map_blind_mapIf (p : Blk → Bool) {f : Blk → Blk} (hf : ∀ b, (f b).blind = b.blind) (l : List Blk) :
    (mapIf p f l).map Blk.blind = l.map Blk.blind := by
  rw [mapIf, List.map_map]
  refine List.map_congr_left fun b _ => ?_
  rw [Function.comp_apply, apply_ite Blk.blind, hf, ite_self]

section
variable {n slot beam : Nat} {d e : Dev} {delta : Int}

theorem onBlk_offsetNoted {g : Deck → Deck} {f : Blk → Blk}
    (hg : ∀ k, FMap.get (fun _ => 0) (g k).align beam = delta ∧ (g k).accepted = k.accepted ∧ (g k).blocks = k.blocks)
    (hf : ∀ b, (f b).blind = b.blind) : OffsetNoted n beam delta d (onBlk n slot f (d.onDeck n g)) := by
  obtain ⟨halign, haccepted, hblocks⟩ := hg (d.deck n)
  obtain ⟨halign', haccepted', hblocks'⟩ := deck_onBlk n slot f (d.onDeck n g)
  rw [Dev.deck_onDeck_self] at halign' haccepted' hblocks'
  rw [hblocks] at hblocks'
  exact ⟨(DeckChange.onDeck n g d).trans (.onDeck n _ _), halign' ▸ halign, haccepted'.trans haccepted,
    (congrArg (List.map Blk.blind) hblocks').trans (map_blind_mapIf _ hf _)⟩

/-- A sector is placed: its offset is noted, and it joins the first-pass queue. -/
theorem sectorPlace_of_room (h : (d.die (dieOf n)).outstanding < 4096) (c : Clock) (slot beam : Nat) (delta : Int) :
    ∃ e, OffsetNoted n beam delta d e ∧ sectorPlace c n slot beam delta d = e.onDie (dieOf n) (Die.joined ⟨n, slot, beam⟩) := by
  refine ⟨_, ?_, queueFirst_of_room (by exact h) c slot beam⟩
  exact onBlk_offsetNoted (fun _ => ⟨FMap.get_ins_self .., rfl, rfl⟩) fun _ => rfl

/-- What the placing of a sector leaves, its acceptance noted before for the loops of its lane. -/
structure SectorPlaced (n slot beam : Nat) (delta : Int) (acc : Option (Nat × Int)) (d e : Dev) : Prop where
  touches : PoolTouches n d e
  align : FMap.get (fun _ => 0) (e.deck n).align beam = delta
  accepted : FMap.get (fun _ => none) (e.deck n).accepted beam = acc
  first : (e.die (dieOf n)).first = (d.die (dieOf n)).first ++ [⟨n, slot, beam⟩]

theorem sectorPlace_placed {acc : Option (Nat × Int)} (hd : PoolTouches n d e) (hdies : e.dies = d.dies)
    (hacc : FMap.get (fun _ => none) (e.deck n).accepted beam = acc) (hroom : (d.die (dieOf n)).outstanding < 4096) (c : Clock)
    (delta : Int) : SectorPlaced n slot beam delta acc d (sectorPlace c n slot beam delta e) := by
  have hdie : e.die (dieOf n) = d.die (dieOf n) := congrArg (fun m => FMap.get _ m _) hdies
  obtain ⟨m, hnoted, heq⟩ := sectorPlace_of_room (hdie ▸ hroom) c slot beam delta
  obtain ⟨_, hjoined⟩ := onDie_die (dieOf n) (Die.joined ⟨n, slot, beam⟩) m
  have hdeck := Dev.deck_of_decks (onDie_decks (dieOf n) (Die.joined ⟨n, slot, beam⟩) m) n
  rw [heq]
  exact ⟨(hd.trans hnoted.change.touches).onDie .., (congrArg (fun k => FMap.get _ (Deck.align k) beam) hdeck).trans hnoted.align,
    (congrArg (fun k => FMap.get _ (Deck.accepted k) beam) hdeck).trans ((congrArg (FMap.get _ · beam) hnoted.accepted).trans hacc),
    (congrArg Die.first hjoined).trans (congrArg (Die.first · ++ [_]) ((hnoted.change.die _).trans hdie))⟩

/-- Fields away from the queue's counts read as before. -/
theorem get_sectorPlace (hroom : (d.die (dieOf n)).outstanding < 4096) (c : Clock) (delta : Int) {a : Fld} (hlo : a.lo < 32)
    (ha : a.off % deckSpan ≠ 0x2001C) : (sectorPlace c n slot beam delta d).get a = d.get a := by
  obtain ⟨_, hnoted, heq⟩ := sectorPlace_of_room hroom c slot beam delta
  exact (congrArg (Dev.get · a) heq).trans ((get_onDie _ _ _ hlo ha).trans (Dev.get_of_regs hnoted.change.regs a))

/-- The marks of decodes without a header stay. -/
theorem blind_sectorPlace (hroom : (d.die (dieOf n)).outstanding < 4096) (c : Clock) (delta : Int) :
    ((sectorPlace c n slot beam delta d).deck n).blocks.map Blk.blind = (d.deck n).blocks.map Blk.blind := by
  obtain ⟨_, hnoted, heq⟩ := sectorPlace_of_room hroom c slot beam delta
  rw [heq, Dev.deck_of_decks (onDie_decks ..), hnoted.blind]

end

/-! ### A sync window is settled (R163 to R165) -/

/-- The window of a sector that waits for it. -/
theorem syncWindow_waiting {d e : Dev} {n slot beam passes : Nat} {b : Blk} (hopen : blkOpen n slot passes d = e)
    (hblk : (e.deck n).blk slot = some b) (hpend : b.pending = false) (hwait : b.dec.getD beam .notRead = .waiting)
    (hheld : (e.die (dieOf n)).held.any (fun h => h.id == ⟨n, slot, beam⟩) = false) (c : Clock) (o : Outs) :
    syncWindow c n beam slot passes o d =
      if e.getB (Reg.LANE_STATE_ERASED n beam) then sectorDecide c n slot beam none e
      else if e.tbState n < 2 ∨ (e.deck n).wins.contains slot = false then sectorSyncLost c n slot beam (e.accept n beam none)
      else syncDecide c n beam b o e := by
  subst hopen
  rw [syncWindow, hblk]
  refine if_neg ?_
  rw [hpend, hwait, hheld]
  exact Bool.false_ne_true

/-- A window of the block in hand opens no block. -/
theorem blkOpen_of_inHand {d : Dev} {n slot : Nat} {b : Blk} (hblk : (d.deck n).blk slot = some b) (passes : Nat) :
    blkOpen n slot passes d = d := if_pos (.inl (by rw [hblk]; rfl))

/-- The window of a sector of the block in hand, of an erased beam position or opened by trigger 2. -/
theorem syncWindow_inHand {d : Dev} {n slot beam : Nat} {b : Blk} (hb : (d.deck n).blocks = [b]) (hs : b.slot = slot)
    (hpend : b.pending = false) (hwait : b.dec.getD beam .notRead = .waiting)
    (hheld : (d.die (dieOf n)).held.any (fun h => h.id == ⟨n, slot, beam⟩) = false) (c : Clock) (passes : Nat) (o : Outs) :
    (d.getB (Reg.LANE_STATE_ERASED n beam) = true → syncWindow c n beam slot passes o d = sectorDecide c n slot beam none d) ∧
    (d.getB (Reg.LANE_STATE_ERASED n beam) = false → 2 ≤ d.tbState n ∧ (d.deck n).wins.contains slot = true →
      syncWindow c n beam slot passes o d = syncDecide c n beam b o d) := by
  have hblk := Deck.blk_singleton hb hs
  have hwindow := syncWindow_waiting (blkOpen_of_inHand hblk passes) hblk hpend hwait hheld c o
  refine ⟨fun he => hwindow.trans (if_pos he),
    fun he ⟨htb, hwin⟩ => hwindow.trans ((if_neg ?_).trans (if_neg (not_or.2 ⟨?_, ?_⟩)))⟩
  · exact Bool.eq_false_iff.1 he
  · exact Nat.not_lt.2 htb
  · rw [hwin]
    exact Bool.false_ne_true.symm

/-- A sector whose sync is lost is an erasure; the pool is left as it was. -/
theorem sectorSyncLost_spec {d : Dev} {n slot : Nat} {b : Blk} (hb : (d.deck n).blocks = [b]) (hs : b.slot = slot) (hm : b.mode ≠ 1)
    (c : Clock) (beam : Nat) : SectorDecided n beam none b d (sectorSyncLost c n slot beam d) :=
  have hcount := laneMargin_marginOnly n beam (fun m => { m with syncLost := satAdd 32 m.syncLost 1 }) d
  have hdec := sectorDecide_spec (hcount.blocks.trans hb) hs hm c beam none
  ⟨hcount.change.trans hdec.change, hdec.blocks⟩

theorem bit_eq_testBit (v i : Nat) : bit v i = v.testBit i := Nat.testBit_eq_decide_div_mod_eq.symm

theorem bit_setBit_self (v i : Nat) : bit (setBit v i) i = true := by
  unfold setBit
  split
  · assumption
  · rename_i h
    rw [bit_eq_testBit] at h ⊢
    rw [Nat.add_comm, Nat.testBit_two_pow_add_eq, Bool.eq_false_iff.2 h]
    rfl

/-- A word of a deck's window keeps its place modulo the deck span. -/
theorem deck_word_mod {t : Nat} (h : t < deckSpan) (n : Nat) : (0x1000000 + n * 0x100000 + t) % deckSpan = t := by
  have hbase : 0x1000000 + n * 0x100000 + t = (16 + n) * deckSpan + t := congrArg (· + t) (Nat.add_mul 16 n 0x100000).symm
  rw [hbase, Nat.mul_add_mod_of_lt h]

/-- SYNC_OK counts the window, FALSE_REJ its rejected candidates (R188, R189). -/
theorem get_sync_counts (d : Dev) (n rej : Nat) :
    ((d.bump (Reg.DET_SYNC_OK_SYNC_OK n) 1).bump (Reg.DET_SYNC_REJ_FALSE_REJ n) rej).get (Reg.DET_SYNC_OK_SYNC_OK n) =
      satAdd 32 (d.get (Reg.DET_SYNC_OK_SYNC_OK n)) 1 ∧
    ((d.bump (Reg.DET_SYNC_OK_SYNC_OK n) 1).bump (Reg.DET_SYNC_REJ_FALSE_REJ n) rej).get (Reg.DET_SYNC_REJ_FALSE_REJ n) =
      satAdd 32 (d.get (Reg.DET_SYNC_REJ_FALSE_REJ n)) rej := by
  have hne : (Reg.DET_SYNC_OK_SYNC_OK n).off ≠ (Reg.DET_SYNC_REJ_FALSE_REJ n).off := fun h => absurd (Nat.add_left_cancel h) (by decide)
  refine ⟨(Dev.get_set_of_off_ne _ _ hne (Nat.zero_lt_succ _) (Nat.zero_lt_succ _)).trans (Dev.get_bump_self ..),
    (Dev.get_bump_self ..).trans (congrArg (satAdd 32 · rej) ?_)⟩
  exact Dev.get_set_of_off_ne _ _ hne.symm (Nat.zero_lt_succ _) (Nat.zero_lt_succ _)

theorem accepted_accept (n beam : Nat) (v : Option (Nat × Int)) (d : Dev) :
    FMap.get (fun _ => none) ((d.accept n beam v).deck n).accepted beam = v := by
  delta Dev.accept
  exact (congrArg (fun k => FMap.get _ (Deck.accepted k) beam) (Dev.deck_onDeck_self ..)).trans (FMap.get_ins_self ..)

/-- Marking the block leaves the acceptance. -/
theorem accepted_marked (n beam slot : Nat) (f : Blk → Blk) (v : Option (Nat × Int)) (d : Dev) :
    FMap.get (fun _ => none) ((onBlk n slot f (d.accept n beam v)).deck n).accepted beam = v :=
  (congrArg (FMap.get _ · beam) (deck_onBlk ..).2.1).trans (accepted_accept ..)

theorem blocks_accept (n beam : Nat) (v : Option (Nat × Int)) (d : Dev) : ((d.accept n beam v).deck n).blocks = (d.deck n).blocks := by
  delta Dev.accept
  exact (congrArg Deck.blocks (Dev.deck_onDeck_self ..)).trans rfl

/-- The header of the sector at a beam position has passed. -/
def Blk.headed (beam : Nat) (b : Blk) : Blk := { b with hdrs := setBit b.hdrs beam, blind := clrBit b.blind beam }

/-- The sector at a beam position waits for a decode without a header. -/
def Blk.headless (beam : Nat) (b : Blk) : Blk := { b with blind := setBit b.blind beam }

section
variable {d : Dev} {n beam : Nat} {b : Blk} {o : Outs} {delta : Int} {rej : Nat}

/-- A window settled at a candidate that passes (R165). -/
theorem syncDecide_ok (h : syncVerdict d n beam b o = .ok delta rej) (hroom : (d.die (dieOf n)).outstanding < 4096) (c : Clock) :
    SectorPlaced n b.slot beam delta (some (b.slot, delta)) d (syncDecide c n beam b o d) ∧
    (syncDecide c n beam b o d).get (Reg.DET_SYNC_OK_SYNC_OK n) = satAdd 32 (d.get (Reg.DET_SYNC_OK_SYNC_OK n)) 1 ∧
    (syncDecide c n beam b o d).get (Reg.DET_SYNC_REJ_FALSE_REJ n) = satAdd 32 (d.get (Reg.DET_SYNC_REJ_FALSE_REJ n)) rej := by
  obtain ⟨hok, hrej⟩ := get_sync_counts d n rej
  rw [syncDecide, h]
  refine ⟨sectorPlace_placed (((((PoolTouches.refl d).bump ..).bump ..).onDeck _).onDeck _) rfl ?_ hroom c delta,
    (get_sectorPlace (by exact hroom) c delta (Nat.zero_lt_succ _) ?_).trans hok,
    (get_sectorPlace (by exact hroom) c delta (Nat.zero_lt_succ _) ?_).trans hrej⟩
  · exact accepted_marked ..
  · exact (deck_word_mod (by decide) n).trans_ne (by decide)
  · exact (deck_word_mod (by decide) n).trans_ne (by decide)

/-- A window placed by the flywheel with a header that passes (R165). -/
theorem syncDecide_fly (h : syncVerdict d n beam b o = .fly delta) (hroom : (d.die (dieOf n)).outstanding < 4096) (c : Clock) :
    SectorPlaced n b.slot beam delta none d (syncDecide c n beam b o d) := by
  have hcount := laneMargin_marginOnly n beam (fun m => { m with flywheel := satAdd 32 m.flywheel 1 })
    (onBlk n b.slot (Blk.headed beam) (d.accept n beam none))
  rw [syncDecide, h]
  exact sectorPlace_placed ((((PoolTouches.refl d).onDeck _).onDeck _).trans hcount.change.touches) hcount.change.dies
    ((congrArg (FMap.get _ · beam) hcount.accepted).trans (accepted_marked ..)) hroom c delta

/-- A window left to a decode without a header: its sector is marked so (R165). -/
theorem syncDecide_blind (h : syncVerdict d n beam b o = .blind) (hroom : (d.die (dieOf n)).outstanding < 4096)
    (hb : (d.deck n).blocks = [b]) (c : Clock) : SectorPlaced n b.slot beam 0 none d (syncDecide c n beam b o d) ∧
      ((syncDecide c n beam b o d).deck n).blocks.map (fun x => bit x.blind beam) = [true] := by
  have hmarked := blocks_onBlk ((blocks_accept n beam none d).trans hb) rfl (Blk.headless beam)
  rw [syncDecide, h]
  refine ⟨sectorPlace_placed (((PoolTouches.refl d).onDeck _).onDeck _) rfl (accepted_marked ..) hroom c 0, ?_⟩
  have hblind := (blind_sectorPlace (slot := b.slot) (beam := beam) (by exact hroom) c 0).trans (congrArg (List.map Blk.blind) hmarked)
  exact (List.map_map ..).symm.trans ((congrArg (List.map (bit · beam)) hblind).trans
    (congrArg (fun v => [v]) (bit_setBit_self ..)))

/-- A window that is lost: its sector is an erasure, and the pool is left as it was (R165). -/
theorem syncDecide_lost (h : syncVerdict d n beam b o = .lost rej) (hb : (d.deck n).blocks = [b]) (hm : b.mode ≠ 1) (c : Clock) :
    PoolTouches n d (syncDecide c n beam b o d) ∧ ((syncDecide c n beam b o d).deck n).blocks = [b.decided beam none] ∧
      (syncDecide c n beam b o d).dies = d.dies := by
  have hlost := sectorSyncLost_spec (d := (d.accept n beam none).bump (Reg.DET_SYNC_REJ_FALSE_REJ n) rej)
    ((blocks_accept ..).trans hb) rfl hm c beam
  rw [syncDecide, h]
  exact ⟨(((PoolTouches.refl d).onDeck _).bump ..).trans hlost.change.touches, hlost.blocks, hlost.change.dies⟩

/-- A sector that is not lost is placed. -/
theorem syncDecide_placed (h : ∀ rej, syncVerdict d n beam b o ≠ .lost rej) (hroom : (d.die (dieOf n)).outstanding < 4096)
    (hb : (d.deck n).blocks = [b]) (c : Clock) : ∃ delta acc, SectorPlaced n b.slot beam delta acc d (syncDecide c n beam b o d) := by
  cases hv : syncVerdict d n beam b o with
  | ok delta rej => exact ⟨_, _, (syncDecide_ok hv hroom c).1⟩
  | fly delta => exact ⟨_, _, syncDecide_fly hv hroom c⟩
  | blind => exact ⟨_, _, (syncDecide_blind hv hroom hb c).1⟩
  | lost rej => exact absurd hv (h rej)

theorem syncDecide_touches (hroom : (d.die (dieOf n)).outstanding < 4096) (hb : (d.deck n).blocks = [b]) (hm : b.mode ≠ 1) (c : Clock) :
    PoolTouches n d (syncDecide c n beam b o d) := by
  by_cases h : ∃ rej, syncVerdict d n beam b o = .lost rej
  · obtain ⟨rej, hv⟩ := h
    exact (syncDecide_lost hv hb hm c).1
  · obtain ⟨_, _, hplaced⟩ := syncDecide_placed (not_exists.1 h) hroom hb c
    exact hplaced.touches

end

/-! ### A resync window (R166) -/

/-- What is left when a fragment lies at an offset and its block notes it. -/
theorem fragment_spec (n slot beam : Nat) (off : Int) (f : Blk → Blk) (d : Dev) {e : Dev}
    (he : (onBlk n slot f d).onDeck n (fun k => { k with frag := k.frag.ins beam off }) = e) :
    Touches [Reg.DET_SYNC_MISC_RS_MISS n] n d e ∧ e.regs = d.regs ∧
      FMap.get (fun _ => 0) (e.deck n).frag beam = off ∧ (e.deck n).align = (d.deck n).align := by
  subst he
  refine ⟨((Touches.refl d).onDeck _).onDeck _, rfl, ?_, ?_⟩
  · rw [Dev.deck_onDeck_self]
    exact FMap.get_ins_self ..
  · rw [Dev.deck_onDeck_self]
    exact (deck_onBlk ..).1

/-- The next fragment of a placed sector lies at an offset: where its resync is found, or where the one before did. -/
theorem resyncWindow_placed {d : Dev} {n slot beam : Nat} {b : Blk} {pred : Int} (hb : (d.deck n).blocks = [b]) (hs : b.slot = slot)
    (hpred : (FMap.get (fun _ => []) b.offs beam).getLast? = some pred)
    (hmore : (FMap.get (fun _ => []) b.offs beam).length ≤ resyncCount (b.p - 240) (slotBits * slot)) (o : Outs) {found : Option Int}
    (hfound : resyncFind d n (softOf d n beam 0 (fun _ => 0) o) pred = found) :
    ∃ e, resyncWindow n beam slot o d = (if found.isSome then e else e.bump (Reg.DET_SYNC_MISC_RS_MISS n) 1) ∧
      Touches [Reg.DET_SYNC_MISC_RS_MISS n] n d e ∧ e.regs = d.regs ∧
      FMap.get (fun _ => 0) (e.deck n).frag beam = found.getD pred ∧ (e.deck n).align = (d.deck n).align := by
  have hlast : (FMap.get (fun _ => []) b.offs beam).getLastD 0 = pred :=
    (List.getLastD_eq_getLast? ..).trans (congrArg (Option.getD · 0) hpred)
  have hsome : FMap.get (fun _ => []) b.offs beam ≠ [] := fun hnil =>
    Option.some_ne_none _ (hpred.symm.trans (congrArg List.getLast? hnil))
  subst hlast hfound
  delta resyncWindow
  rw [Deck.blk_singleton hb hs]
  exact ⟨_, if_neg (not_or.2 ⟨hsome, Nat.not_lt.2 hmore⟩), fragment_spec n slot beam _ _ d rfl⟩

/-- What a resync window comes to, by what was found. -/
theorem resync_outcome {d e e' : Dev} {n beam : Nat} {found : Option Int} {pred : Int}
    (he : e' = (if found.isSome then e else e.bump (Reg.DET_SYNC_MISC_RS_MISS n) 1))
    (htouch : Touches [Reg.DET_SYNC_MISC_RS_MISS n] n d e) (hregs : e.regs = d.regs)
    (hfrag : FMap.get (fun _ => 0) (e.deck n).frag beam = found.getD pred) (halign : (e.deck n).align = (d.deck n).align) :
    (∀ r, found = some r → FMap.get (fun _ => 0) (e'.deck n).frag beam = r ∧
      e'.get (Reg.DET_SYNC_MISC_RS_MISS n) = d.get (Reg.DET_SYNC_MISC_RS_MISS n)) ∧
    (found = none → FMap.get (fun _ => 0) (e'.deck n).frag beam = pred ∧
      e'.get (Reg.DET_SYNC_MISC_RS_MISS n) = satAdd 16 (d.get (Reg.DET_SYNC_MISC_RS_MISS n)) 1) ∧
    FMap.get (fun _ => 0) (e'.deck n).align beam = FMap.get (fun _ => 0) (d.deck n).align beam ∧
    DeckOnly n d e' ∧ e' = { d with regs := e'.regs, decks := e'.decks } ∧ RegsOnly [Reg.DET_SYNC_MISC_RS_MISS n] d e' := by
  have hget := Dev.get_of_regs hregs (Reg.DET_SYNC_MISC_RS_MISS n)
  have hfound : ∀ r, found = some r → e' = e := fun _ h => he.trans (if_pos (h ▸ rfl))
  have hmissed : found = none → e' = e.bump (Reg.DET_SYNC_MISC_RS_MISS n) 1 := fun h => he.trans (if_neg (h ▸ Bool.false_ne_true))
  have hleft : e'.deck n = e.deck n ∧ Touches [Reg.DET_SYNC_MISC_RS_MISS n] n d e' := by
    cases hf : found with
    | some r => exact (hfound r hf).symm ▸ ⟨rfl, htouch⟩
    | none => exact (hmissed hf).symm ▸ ⟨rfl, htouch.set (.head _) _⟩
  have hfrag' := (congrArg (fun k => FMap.get _ (Deck.frag k) beam) hleft.1).trans hfrag
  refine ⟨fun r h => ⟨hfrag'.trans (congrArg (Option.getD · pred) h), (congrArg (Dev.get · _) (hfound r h)).trans hget⟩,
    fun h => ⟨hfrag'.trans (congrArg (Option.getD · pred) h), ?_⟩,
    congrArg (FMap.get _ · beam) ((congrArg Deck.align hleft.1).trans halign), hleft.2.frame⟩
  exact (congrArg (Dev.get · _) (hmissed h)).trans ((Dev.get_bump_self ..).trans (congrArg (satAdd 16 · 1) hget))

/-! ### Engines of the pool (R168, R169) -/

/-- A pool of which an engine has taken the oldest sector that waited for its first pass. -/
def Die.dispatched (s : SectorId) (t : List SectorId) (p : Die) : Die := { p with first := t, active := p.active ++ [s] }

/-- A free engine takes the oldest sector that waits for its first pass. -/
theorem ldpcDispatch_first {d : Dev} {i : Nat} {s : SectorId} {t : List SectorId}
    (hfree : (d.die i).active.length + (d.die i).ldpcOut < 48) (hfirst : (d.die i).first = s :: t) :
    ldpcDispatch i d = d.onDie i (Die.dispatched s t) := by
  rw [ldpcDispatch, if_neg (Nat.not_le.2 hfree), hfirst]
  rfl

/-- An engine is free of its sector; the deck's blocks are those named. -/
structure EngineFreed (n : Nat) (l : List Blk) (d e : Dev) : Prop where
  touches : PoolTouches n d e
  blocks : (e.deck n).blocks = l
  active : (e.die (dieOf n)).active.length < (d.die (dieOf n)).active.length

section
variable {n slot beam : Nat} {s : SectorId} {b : Blk} {l : List Blk} {d e f : Dev}

theorem dieDrop_engineFreed (hb : (d.deck n).blocks = l) (h : (d.die (dieOf n)).active.contains s = true) :
    EngineFreed n l d (dieDrop (dieOf n) (fun x => x == s) d) := by
  obtain ⟨_, hdie⟩ := onDie_die (dieOf n) _ d
  refine ⟨(PoolTouches.refl d).onDie .., (congrArg Deck.blocks (Dev.deck_of_decks (onDie_decks ..) n)).trans hb, ?_⟩
  rw [dieDrop, hdie]
  exact List.length_filter_lt_length_iff_exists.2 ⟨s, List.contains_iff_mem.1 h, by simp⟩

/-- A pool that keeps the outputs of one sector lets them go with it. -/
theorem held_dieDrop {i : Nat} {h : Held} (hheld : (d.die i).held = [h]) (hid : h.id = s) :
    ((dieDrop i (fun x => x == s) d).die i).held = [] := by
  obtain ⟨_, hdie⟩ := onDie_die i _ d
  refine (congrArg Die.held hdie).trans ((congrArg (List.filter fun h => !(h.id == s)) hheld).trans (List.filter_cons_of_neg ?_))
  rw [hid, beq_self_eq_true]
  exact Bool.false_ne_true

/-- The margin may be counted before. -/
theorem MarginOnly.engineFreed (h : MarginOnly n d e) (h' : EngineFreed n l e f) : EngineFreed n l d f :=
  ⟨h.change.touches.trans h'.touches, h'.blocks, h.change.die (dieOf n) ▸ h'.active⟩

/-- Or after. -/
theorem EngineFreed.marginOnly (h : EngineFreed n l d e) (h' : MarginOnly n e f) : EngineFreed n l d f :=
  ⟨h.touches.trans h'.change.touches, h'.blocks.trans h.blocks, (h'.change.die (dieOf n)).symm ▸ h.active⟩

/-- Then the sector is decided. -/
theorem EngineFreed.decided (h : EngineFreed n [b] d e) (hs : b.slot = slot) (hm : b.mode ≠ 1) (c : Clock) (beam : Nat)
    (pay : Option (List Byte)) : EngineFreed n [b.decided beam pay] d (sectorDecide c n slot beam pay e) :=
  have hdec := sectorDecide_spec h.blocks hs hm c beam pay
  ⟨h.touches.trans hdec.change.touches, hdec.blocks, (hdec.change.die (dieOf n)).symm ▸ h.active⟩

/-- A first pass is counted for the lane that serves the beam position, in the bin of its iterations (R177). -/
def passCounted (n beam : Nat) (r : Option Nat) (d : Dev) : Dev :=
  laneMargin n beam (fun m => { m with iterHist := histAdd m.iterHist (match r with | some k => iterBin k | none => 7) }) d

theorem passCounted_marginOnly (n beam : Nat) (r : Option Nat) (d : Dev) : MarginOnly n d (passCounted n beam r d) :=
  laneMargin_marginOnly ..

/-- The sector waits for a second pass, its outputs and values kept (R169). -/
def Die.queuedTurbo (s : SectorId) (o : Outs) (post : List Int) (p : Die) : Die :=
  { p with active := p.active.erase s, turbo := p.turbo ++ [s],
           held := mapIf (fun h => h.id == s) (fun h => { h with outs := o, post := post }) p.held }

/-- Of the branches of a first pass, a sector with a header takes two: it converged, or not. -/
theorem headed_branch {α β : Type} {active blind hdr : Bool} {k : Option Nat} (hactive : active = true) (hblind : blind = false)
    (f : β → α) (p q : β) (x y z : α) :
    (if active = false then x else if (k.isSome && (!blind || hdr)) = true then f (if blind = true then p else q)
      else if blind = true then y else z) = if k.isSome = true then f q else z := by
  subst hactive hblind
  cases k <;> rfl

/-- The first pass of a sector with a header, by its result, by TURBO_EN and by SHED (R167, R169). -/
theorem ldpcFirstPassDone_headed (hblk : (d.deck n).blk slot = some b) (hblind : bit b.blind beam = false)
    (hact : (d.die (dieOf n)).active.contains ⟨n, slot, beam⟩ = true) (c : Clock) (o : Outs) {r : Option Nat × LdpcRun}
    (hr : firstPass d n beam b o = r) (he : passCounted n beam r.1 d = e) {A : Nat} (hA : expectedA e n b beam = A) {again : Bool}
    (hagain : (e.getB (Reg.DET_DEC_CFG_TURBO_EN n) && !(e.die (dieOf n)).shed) = again) :
    ldpcFirstPassDone c n slot beam o d =
      if r.1.isSome then
        sectorDecide c n slot beam (some (sectorPayload A r.2)) (dieDrop (dieOf n) (fun s => s == ⟨n, slot, beam⟩) e)
      else if again then
        (decide1 n slot beam .turbo e).onDie (dieOf n) (Die.queuedTurbo ⟨n, slot, beam⟩ o r.2.values)
      else sectorDecide c n slot beam none (dieDrop (dieOf n) (fun s => s == ⟨n, slot, beam⟩) e) := by
  subst hr he hA hagain
  delta ldpcFirstPassDone
  rw [hblk]
  exact headed_branch hact hblind (fun e => sectorDecide c n slot beam (some (sectorPayload (expectedA e n b beam) _))
    (dieDrop (dieOf n) (fun s => s == ⟨n, slot, beam⟩) e)) ..

theorem expectedA_of_regs (h : e.regs = d.regs) (n beam : Nat) (b : Blk) : expectedA e n b beam = expectedA d n b beam := by
  rw [expectedA, Dev.get_of_regs h, expectedA]

theorem turboEn_of_regs (h : e.regs = d.regs) (n : Nat) :
    e.getB (Reg.DET_DEC_CFG_TURBO_EN n) = d.getB (Reg.DET_DEC_CFG_TURBO_EN n) := by
  rw [Dev.getB, Dev.get_of_regs h, Dev.getB]

/-- A failed first pass queues its sector for a second one. -/
theorem queuedTurbo_engineFreed (hb : (d.deck n).blocks = [b]) (hs : b.slot = slot)
    (hact : (d.die (dieOf n)).active.contains ⟨n, slot, beam⟩ = true) (o : Outs) (post : List Int) {e : Dev}
    (he : (decide1 n slot beam .turbo d).onDie (dieOf n) (Die.queuedTurbo ⟨n, slot, beam⟩ o post) = e) :
    EngineFreed n [{ b with dec := setAt b.dec beam .turbo }] d e ∧
      (e.die (dieOf n)).turbo = (d.die (dieOf n)).turbo ++ [⟨n, slot, beam⟩] := by
  obtain ⟨_, hdie⟩ := onDie_die (dieOf n) (Die.queuedTurbo ⟨n, slot, beam⟩ o post) (decide1 n slot beam .turbo d)
  have hmem := List.contains_iff_mem.1 hact
  subst he
  refine ⟨⟨((PoolTouches.refl d).onDeck _).onDie .., ?_, ?_⟩, (congrArg Die.turbo hdie :)⟩
  · exact (congrArg Deck.blocks (Dev.deck_of_decks (onDie_decks ..) n)).trans (blocks_onBlk hb hs _)
  · rw [hdie]
    exact (List.length_erase_of_mem hmem).trans_lt (Nat.pred_lt (List.length_pos_of_mem hmem).ne')

/-- A block with the first pass of a sector done: it converged, waits for a second pass, or is an erasure. -/
def Blk.passed (beam : Nat) (k : Option Nat) (again : Bool) (pay : List Byte) (b : Blk) : Blk :=
  match k with
  | some _ => b.decided beam (some pay)
  | none => { b with dec := setAt b.dec beam (if again then .turbo else .erased) }

theorem Blk.passed_some {beam i : Nat} {k : Option Nat} (b : Blk) (h : k = some i) (again : Bool) (pay : List Byte) :
    b.passed beam k again pay = b.decided beam (some pay) := by
  rw [h]
  rfl

theorem Blk.passed_none {beam : Nat} {k : Option Nat} (b : Blk) (h : k = none) (again : Bool) (pay : List Byte) :
    b.passed beam k again pay = { b with dec := setAt b.dec beam (if again then .turbo else .erased) } := by
  rw [h]
  rfl

/-- What a first pass leaves, by the iterations it took and by whether a second pass is to come. -/
def FirstPassed (n : Nat) (s : SectorId) (b : Blk) (pay : List Byte) (again : Bool) (d : Dev) (k : Option Nat) (e : Dev) : Prop :=
  EngineFreed n [b.passed s.beam k again pay] d e ∧
    (k = none → again = true → (e.die (dieOf n)).turbo = (d.die (dieOf n)).turbo ++ [s])

/-- A property of both branches of a pass. -/
theorem isSome_branches {k : Option Nat} {P : Option Nat → Dev → Prop} (he : (if k.isSome = true then d else f) = e)
    (hsome : ∀ i, P (some i) d) (hnone : P none f) : P k e := by
  subst he
  cases k with
  | some i => exact hsome i
  | none => exact hnone

theorem ldpcFirstPassDone_spec (hb : (d.deck n).blocks = [b]) (hs : b.slot = slot) (hm : b.mode ≠ 1) (hblind : bit b.blind beam = false)
    (hact : (d.die (dieOf n)).active.contains ⟨n, slot, beam⟩ = true) (c : Clock) (o : Outs) {r : Option Nat × LdpcRun}
    (hr : firstPass d n beam b o = r) {again : Bool}
    (hagain : (d.getB (Reg.DET_DEC_CFG_TURBO_EN n) && !(d.die (dieOf n)).shed) = again) (he : ldpcFirstPassDone c n slot beam o d = e) :
    FirstPassed n ⟨n, slot, beam⟩ b (sectorPayload (expectedA d n b beam) r.2) again d r.1 e := by
  have hcount := passCounted_marginOnly n beam r.1 d
  have hdie := hcount.change.die (dieOf n)
  have hb' := hcount.blocks.trans hb
  have hact' := hdie.symm ▸ hact
  have hfreed := hcount.engineFreed (dieDrop_engineFreed hb' hact')
  refine isSome_branches ((ldpcFirstPassDone_headed (Deck.blk_singleton hb hs) hblind hact c o hr rfl
    (expectedA_of_regs hcount.change.regs ..)
    ((congrArg₂ (· && !Die.shed ·) (turboEn_of_regs hcount.change.regs n) hdie).trans hagain)).symm.trans he)
    (fun _ => ⟨hfreed.decided hs hm c beam (some (sectorPayload (expectedA d n b beam) r.2)),
      fun h => (Option.some_ne_none _ h).elim⟩) ?_
  cases again with
  | true =>
    have hqueued := queuedTurbo_engineFreed hb' hs hact' o r.2.values rfl
    rw [if_pos rfl]
    exact ⟨hcount.engineFreed hqueued.1, fun _ _ => hqueued.2.trans (congrArg (Die.turbo · ++ [_]) hdie)⟩
  | false =>
    rw [if_neg Bool.false_ne_true]
    exact ⟨hfreed.decided hs hm c beam none, fun _ h => (Bool.false_ne_true h).elim⟩

/-- The second pass of a sector that waits for it, by its result (R169). -/
theorem turboPassDone_waiting {h : Held} (hblk : (d.deck n).blk slot = some b) (hdec : b.dec.getD beam .notRead = .turbo)
    (hact : (d.die (dieOf n)).active.contains ⟨n, slot, beam⟩ = true)
    (hfind : (d.die (dieOf n)).held.find? (fun h => h.id == ⟨n, slot, beam⟩) = some h) (c : Clock) {r : Option Nat × LdpcRun}
    (hr : turboPass d n beam b h = r) (he : dieDrop (dieOf n) (fun s => s == ⟨n, slot, beam⟩) d = e) {A : Nat}
    (hA : expectedA e n b beam = A) :
    turboPassDone c n slot beam d =
      if r.1.isSome then
        sectorDecide c n slot beam (some (sectorPayload A r.2))
          (laneMargin n beam (fun m => { m with secondOk := satAdd 32 m.secondOk 1 }) e)
      else sectorDecide c n slot beam none e := by
  subst hr he hA
  rw [turboPassDone, hblk, hfind]
  exact if_neg (not_or.2 ⟨fun hno => absurd (hno.symm.trans hact) Bool.false_ne_true, not_not.2 hdec⟩)

/-- A second pass decides its sector and lets its outputs go. -/
theorem turboPassDone_spec {h : Held} (hb : (d.deck n).blocks = [b]) (hs : b.slot = slot) (hm : b.mode ≠ 1)
    (hdec : b.dec.getD beam .notRead = .turbo) (hact : (d.die (dieOf n)).active.contains ⟨n, slot, beam⟩ = true)
    (hheld : (d.die (dieOf n)).held = [h]) (hid : h.id = ⟨n, slot, beam⟩) (c : Clock) {r : Option Nat × LdpcRun}
    (hr : turboPass d n beam b h = r) (he : turboPassDone c n slot beam d = e) :
    EngineFreed n [b.passed beam r.1 false (sectorPayload (expectedA d n b beam) r.2)] d e ∧ (e.die (dieOf n)).held = [] := by
  have hfind : (d.die (dieOf n)).held.find? (fun h => h.id == ⟨n, slot, beam⟩) = some h := by
    rw [hheld, List.find?_cons, hid, beq_self_eq_true]
  have hgone := held_dieDrop hheld hid
  have hfreed := dieDrop_engineFreed hb hact
  have hA : expectedA (dieDrop (dieOf n) (fun s => s == ⟨n, slot, beam⟩) d) n b beam = expectedA d n b beam := by
    rw [expectedA, dieDrop, get_onDie _ _ _ (layer_elsewhere n).1 (layer_elsewhere n).2, expectedA]
  refine isSome_branches (P := fun k e => EngineFreed n [b.passed beam k false (sectorPayload (expectedA d n b beam) r.2)] d e ∧
      (e.die (dieOf n)).held = []) ((turboPassDone_waiting (Deck.blk_singleton hb hs) hdec hact hfind c hr rfl hA).symm.trans he)
    (fun _ => ?_) ?_
  · have hmargin := laneMargin_marginOnly n beam (fun m => { m with secondOk := satAdd 32 m.secondOk 1 })
      (dieDrop (dieOf n) (fun s => s == ⟨n, slot, beam⟩) d)
    have hsome := sectorDecide_spec (hmargin.blocks.trans hfreed.blocks) hs hm c beam (some (sectorPayload (expectedA d n b beam) r.2))
    exact ⟨(hfreed.marginOnly hmargin).decided hs hm c beam (some (sectorPayload (expectedA d n b beam) r.2)),
      (congrArg Die.held ((hsome.change.die _).trans (hmargin.change.die _))).trans hgone⟩
  · have hnone := sectorDecide_spec hfreed.blocks hs hm c beam none
    exact ⟨hfreed.decided hs hm c beam none, (congrArg Die.held (hnone.change.die _)).trans hgone⟩

end

/-! ### Rows -/

/-- A command leaves some device and what holds of it. -/
theorem next_exists {i : Instr} {s : State} {c : Clock} {q : List Instr} {e : Dev} {P : Dev → Prop} (h : exec i s = .next ⟨c, e, q⟩)
    (hP : P e) : ∃ e, exec i s = .next ⟨c, e, q⟩ ∧ P e := ⟨e, h, hP⟩


/-- SYNC_WINDOW of the swath under the pickup. -/
theorem exec_syncWindow {d : Dev} {n : Fin 16} {swath : Nat} (hswath : (d.deck n).seq.swath = swath)
    (hon : d.deckOn n = true ∧ d.domOn (dLANE (n / 8)) = true) (c : Clock) (q : List Instr) (beam : Fin 64) (slot passes : Nat)
    (o : Outs) {e : Dev} (he : syncWindow c n beam slot passes o d = e) :
    exec (.syncWindow n beam slot swath passes o.start o.z o.chaff) ⟨c, d, q⟩ = .next ⟨c, e, q⟩ :=
  congrArg (fun e => Host.Outcome.next (State.mk c e q)) ((laneRow_of_on hon _).trans ((if_pos hswath).trans he))

theorem exec_resyncWindow {d : Dev} {n : Fin 16} (hon : d.deckOn n = true ∧ d.domOn (dLANE (n / 8)) = true) (c : Clock) (q : List Instr)
    (beam : Fin 64) (slot : Nat) (o : Outs) :
    exec (.resyncWindow n ⟨beam, slot⟩ o) ⟨c, d, q⟩ = .next ⟨c, resyncWindow n beam slot o d, q⟩ :=
  congrArg (fun e => Host.Outcome.next (State.mk c e q)) (laneRow_of_on hon _)

theorem exec_ldpcDispatch {d : Dev} {die : Fin 2} (h : d.domOn (dDEC die) = true) (c : Clock) (q : List Instr) {e : Dev}
    (he : ldpcDispatch die d = e) : exec (.ldpcDispatch die) ⟨c, d, q⟩ = .next ⟨c, e, q⟩ :=
  congrArg (fun e => Host.Outcome.next (State.mk c e q)) ((if_pos h).trans he)

theorem exec_ldpcFirstPassDone {d : Dev} {n : Fin 16} (h : d.domOn (dDEC (n / 8)) = true) (c : Clock) (q : List Instr) (slot : Nat)
    (beam : Fin 64) (o : Outs) :
    exec (.ldpcFirstPassDone n slot beam o) ⟨c, d, q⟩ = .next ⟨c, ldpcFirstPassDone c n slot beam o d, q⟩ :=
  congrArg (fun e => Host.Outcome.next (State.mk c e q)) (if_pos h)

/-- TURBO_PASS_DONE of the block in hand. -/
theorem exec_turboPassDone {d : Dev} {n : Fin 16} {slot : Nat} {b : Blk} (hon : d.domOn (dDEC (n / 8)) = true)
    (hb : (d.deck n).blocks = [b]) (hs : b.slot = slot) (c : Clock) (q : List Instr) (beam : Fin 64) :
    exec (.turboPassDone n slot beam b.swath) ⟨c, d, q⟩ = .next ⟨c, turboPassDone c n slot beam d, q⟩ := by
  have hblock : d.blockOf n b.swath slot = true := by
    rw [Dev.blockOf, Deck.blk_singleton hb hs, Option.any_some, beq_self_eq_true]
  exact congrArg (fun e => Host.Outcome.next (State.mk c e q)) ((if_pos hon).trans (if_pos hblock))

/-! ### The statement -/

/-- Settles O22: a window ends in one of the four ways its outputs say, a pass in one of three, each with its own lemma. -/
theorem syncAndFirstDecode : Obligations.SyncAndFirstDecode := by
  refine ⟨?sync, ?erased, ?resync, ?dispatch, ?firstPass, ?turbo⟩
  case sync =>
    intro c d q n beam slot swath passes o b hswath hon hblock hwait hserved hopen hpool
    obtain ⟨hb, hs, hpend, hm⟩ := hblock
    obtain ⟨hroom, hheld⟩ := hpool
    refine next_exists (exec_syncWindow hswath hon c q beam slot passes o
      ((syncWindow_inHand hb hs hpend hwait hheld c passes o).2 hserved hopen))
      ⟨fun delta rej h => ?_, fun delta h => ?_, fun h => ?_, fun h => ?_, fun rej h => ?_, syncDecide_touches hroom hb hm c⟩
    · obtain ⟨hplaced, hok, hrej⟩ := syncDecide_ok h hroom c
      exact ⟨hok, hrej, hplaced.align, hplaced.accepted.trans (congrArg (fun s => some (s, delta)) hs)⟩
    · have hfly := syncDecide_fly h hroom c
      exact ⟨hfly.align, hfly.accepted⟩
    · have hblind := syncDecide_blind h hroom hb c
      exact ⟨hblind.1.align, hblind.2⟩
    · obtain ⟨_, _, hplaced⟩ := syncDecide_placed h hroom hb c
      exact hplaced.first.trans (congrArg (fun s => _ ++ [(⟨n, s, beam⟩ : SectorId)]) hs)
    · obtain ⟨_, hblocks, hdies⟩ := syncDecide_lost h hb hm c
      exact ⟨congrArg (List.map Blk.dec) hblocks, congrArg (fun m => (FMap.get (fun _ => ({} : Die)) m (dieOf n)).first) hdies⟩
  case erased =>
    intro c d q n beam slot swath passes o b hswath hon hblock hwait hheld herased
    obtain ⟨hb, hs, hpend, hm⟩ := hblock
    have hdec := sectorDecide_spec hb hs hm c beam none
    exact next_exists (exec_syncWindow hswath hon c q beam slot passes o
      ((syncWindow_inHand hb hs hpend hwait hheld c passes o).1 herased)) ⟨hdec.blocks, hdec.change⟩
  case resync =>
    intro c d q n beam slot o b pred hon hblock hpred hmore
    obtain ⟨e, he, htouch, hregs, hfrag, halign⟩ := resyncWindow_placed hblock.1 hblock.2 hpred hmore o rfl
    exact next_exists (exec_resyncWindow hon c q beam slot o) (resync_outcome he htouch hregs hfrag halign)
  case dispatch =>
    intro c d q die s t hon hfree hfirst
    obtain ⟨_, hdie⟩ := onDie_die die (Die.dispatched s t) d
    exact next_exists (exec_ldpcDispatch hon c q (ldpcDispatch_first hfree hfirst)) ⟨(congrArg Die.first hdie :),
      (congrArg Die.active hdie :), (congrArg Die.turbo hdie :), get_queue_onDie die (Die.dispatched s t) d, onDie_eq ..⟩
  case firstPass =>
    intro c d q n slot beam o b hon hblock hact
    obtain ⟨hb, hs, hm, hblind⟩ := hblock
    have hdone := ldpcFirstPassDone_spec hb hs hm hblind hact c o rfl rfl rfl
    exact next_exists (exec_ldpcFirstPassDone hon c q slot beam o)
      ⟨fun k hk => hdone.1.blocks.trans (congrArg (fun b => [b]) (b.passed_some hk ..)),
        fun hnone => hdone.1.blocks.trans (congrArg (fun b => [b]) (b.passed_none hnone ..)),
        fun hnone hen hshed => hdone.2 hnone (by rw [hen, hshed]; rfl), hdone.1.active, hdone.1.touches⟩
  case turbo =>
    intro c d q n slot beam b h hon hblock hact hheld
    obtain ⟨hb, hs, hm, hdec⟩ := hblock
    have hdone := turboPassDone_spec hb hs hm hdec hact hheld.1 hheld.2 c rfl rfl
    exact next_exists (exec_turboPassDone hon hb hs c q beam)
      ⟨fun k hk => hdone.1.blocks.trans (congrArg (fun b => [b]) (b.passed_some hk ..)),
        fun hnone => hdone.1.blocks.trans (congrArg (fun b => [b]) (b.passed_none hnone ..)), hdone.1.active, hdone.2, hdone.1.touches⟩

end Sys2Proof.Machine
end

section
/-! SUPPORT. Margin records, their clearing, and the equalisers' sets (R158, R176 to R178, R184 to R186). -/

open Sys2Proof Sys2Proof.Machine

namespace Sys2Proof.Machine

/-! ### The size of a record (R177, R178) -/

theorem length_le (k v : Nat) : (le k v).length = k := by
  induction k generalizing v with
  | zero => rfl
  | succ k ih => exact congrArg (· + 1) (ih _)

theorem length_slice (l : List Byte) (off len : Nat) : (slice l off len).length = len := by
  rw [slice, List.length_append, List.length_replicate]
  exact Nat.add_sub_of_le (List.length_take_le ..)

theorem length_laneRecord (d : Dev) (n l : Nat) : (laneRecord d n l).length = 64 := rfl

theorem length_discRecord (d : Dev) (n : Nat) (m : Margin) (stamp tick : Nat) : (discRecord d n m stamp tick).length = 128 := by
  simp only [discRecord, List.length_append, length_slice]
  rfl

/-- A snapshot: the disc record, then one of each lane. -/
theorem length_marginRecords (d : Dev) (n : Nat) (m : Margin) (stamp tick : Nat) :
    (discRecord d n m stamp tick ++ (List.range 66).flatMap (laneRecord d n)).length = 128 + 66 * 64 := by
  rw [List.length_append, length_discRecord, List.length_flatMap,
    List.map_congr_left (g := fun _ => 64) fun l _ => length_laneRecord d n l]
  rfl

/-! ### Clearing (R184) -/

/-- The counts of sync windows that the registers show (R188 to R190). -/
def syncCounts (n : Nat) : List Fld :=
  [Reg.DET_SYNC_OK_SYNC_OK n, Reg.DET_SYNC_REJ_FALSE_REJ n, Reg.DET_SYNC_MISC_RS_MISS n, Reg.DET_SYNC_MISC_NOHDR n]

theorem Dev.get_set_zero {d : Dev} {f : Fld} (h : d.get f = 0) (g : Fld) : (d.set g 0).get f = 0 := by
  by_cases hk : f.key = g.key
  · rw [Dev.get, hk]
    exact (d.get_set_self g 0).trans (Nat.zero_mod _)
  · rw [Dev.get_set_ne _ _ hk, h]

/-- A field among those that are set to 0 reads 0. -/
theorem Dev.get_sets_zero {d : Dev} {f : Fld} {fs : List Fld} (h : f ∈ fs ∨ d.get f = 0) : (d.sets (fs.map (·, 0))).get f = 0 := by
  induction fs generalizing d with
  | nil => exact h.resolve_left List.not_mem_nil
  | cons g fs ih =>
    refine ih (d := d.set g 0) ?_
    obtain hmem | hzero := h
    · cases hmem with
      | head => exact .inr ((d.get_set_self f 0).trans (Nat.zero_mod _))
      | tail _ hmem => exact .inl hmem
    · exact .inr (Dev.get_set_zero hzero g)

/-- A clear puts 0 into every count of sync windows. -/
theorem get_marginClr (c : Clock) {n : Nat} (d : Dev) {f : Fld} (hf : f ∈ syncCounts n) : (marginClr c n d).get f = 0 :=
  Dev.get_sets_zero (.inl hf)

/-- What a clear leaves of its deck. -/
theorem deck_marginClr (c : Clock) (n : Nat) (d : Dev) :
    ((marginClr c n d).deck n).margin = { clrStamp := c.angleStamp n, clrTick := c.tick } ∧
    ((marginClr c n d).deck n).snap = (d.deck n).snap := by
  have h : (marginClr c n d).deck n = _ := (Dev.deck_of_decks (Dev.sets_decks ..) n).trans (Dev.deck_onDeck_self ..)
  rw [h]
  exact ⟨rfl, rfl⟩

theorem marginClr_touches (c : Clock) (n : Nat) (d : Dev) : Touches (syncCounts n) n d (marginClr c n d) :=
  ((Touches.refl d).onDeck _).sets fun _ hf => hf

/-! ### Freezing (R178) -/

/-- What a snapshot leaves of its deck. -/
theorem deck_marginSnap (c : Clock) (n : Nat) (d : Dev) :
    ((marginSnap c n d).deck n).snap =
      discRecord d n (d.deck n).margin (c.angleStamp n) c.tick ++ (List.range 66).flatMap (laneRecord d n) ∧
    ((marginSnap c n d).deck n).margin = (d.deck n).margin := by
  have h : (marginSnap c n d).deck n = _ := Dev.deck_onDeck_self ..
  rw [h]
  exact ⟨rfl, rfl⟩

/-! ### The equalisers' sets (R158, R186) -/

theorem deck_eqReinit (n k : Nat) (d : Dev) :
    (eqReinit n k d).deck n = { d.deck n with reinit := ((eqReinit n k d).deck n).reinit } := by
  have h : (eqReinit n k d).deck n = _ := Dev.deck_onDeck_self ..
  rw [h]

theorem mem_ite_append (k : Nat) (l : List Nat) : k ∈ if l.contains k then l else l ++ [k] := by
  split
  · exact List.contains_iff_mem.1 ‹_›
  · exact List.mem_append_right _ (List.mem_singleton_self _)

theorem mem_reinit_eqReinit (n k : Nat) (d : Dev) : k ∈ ((eqReinit n k d).deck n).reinit := by
  have h : (eqReinit n k d).deck n = _ := Dev.deck_onDeck_self ..
  rw [h]
  exact mem_ite_append k _

/-- The tap that EQ_ADDR selects. -/
def Dev.eqKey (d : Dev) (n : Nat) : Nat :=
  tapKey (d.get (Reg.DET_EQ_ADDR_BEAM n)) (d.get (Reg.DET_EQ_ADDR_SIDE n)) (d.get (Reg.DET_EQ_ADDR_TAP n))

/-- A tap of the initial set is written. -/
theorem eqDataWrite_initial {n : Nat} {d : Dev} (hset : d.get (Reg.DET_EQ_ADDR_SET n) ≠ 0)
    (htap : d.get (Reg.DET_EQ_ADDR_SIDE n) ≠ 3 ∧ d.get (Reg.DET_EQ_ADDR_TAP n) ≠ 15) (v : Nat) :
    ∃ g, eqDataWrite n v d = d.onDeck n g ∧ (g (d.deck n)).initTap (d.eqKey n) = sx 12 v ∧ (g (d.deck n)).taps = (d.deck n).taps :=
  ⟨_, if_neg (not_or.2 ⟨hset, not_or.2 htap⟩), FMap.get_set_self .., rfl⟩

/-- A write to the set in force is ignored and flagged. -/
theorem eqDataWrite_inForce {n : Nat} {d : Dev} (hset : d.get (Reg.DET_EQ_ADDR_SET n) = 0) (v : Nat) :
    eqDataWrite n v d = d.set (Reg.DET_EQ_DATA_ERR n) 1 :=
  if_pos (.inl hset)

/-! ### The statement -/

/-- An access that nothing stands against leaves some device and what holds of it, whoever makes it. -/
theorem access_exists {i : Instr} {c : Clock} {d : Dev} {q : List Instr} {link off : Nat} {go : Dev → Dev} {P : Dev → Prop}
    (hdeny : d.deny (.bar2 link) true off 4 = none) (hexec : exec i ⟨c, d, q⟩ = .next ⟨c, regRow c link off go d, q⟩)
    (hP : ∀ w, P (go { d with who := w })) : ∃ e, exec i ⟨c, d, q⟩ = .next ⟨c, e, q⟩ ∧ P e := by
  obtain ⟨w, hrow⟩ := regRow_next hdeny c q go
  exact ⟨_, hexec.trans hrow, hP w⟩

/-- Settles O24: each row is an access that comes down to one change of its deck or of a flag. -/
theorem marginsAndEqualiserSets : Obligations.MarginsAndEqualiserSets := by
  refine ⟨?snap, ?clear, ?reload, ?write, ?refuse⟩
  case snap =>
    intro c d q link n hdeny
    refine access_exists (go := marginSnap c n) hdeny rfl fun w => ?_
    have hdeck := deck_marginSnap c n { d with who := w }
    exact ⟨(congrArg List.length hdeck.1).trans (length_marginRecords ..), hdeck.1, hdeck.2, .onDeck n _ { d with who := w }, rfl⟩
  case clear =>
    intro c d q link n hdeny
    refine access_exists (go := marginClr c n) hdeny rfl fun w => ?_
    have hdeck := deck_marginClr c n { d with who := w }
    have hzero := fun f => get_marginClr c (f := f) (n := n) { d with who := w }
    exact ⟨hdeck.1, hdeck.2, hzero _ (.head _), hzero _ (.tail _ (.head _)), hzero _ (.tail _ (.tail _ (.head _))),
      hzero _ (.tail _ (.tail _ (.tail _ (.head _)))), (marginClr_touches ..).frame_access⟩
  case reload =>
    intro c d q link n k hdeny
    exact access_exists (go := eqReinit n k) hdeny rfl fun w => ⟨mem_reinit_eqReinit .., deck_eqReinit n k { d with who := w },
      .onDeck n _ { d with who := w }, rfl⟩
  case write =>
    intro c d q link n v hdeny hset htap
    refine access_exists (go := eqDataWrite n v.toNat) hdeny rfl fun w => ?_
    obtain ⟨g, heq, htap', htaps⟩ := eqDataWrite_initial (d := { d with who := w }) hset htap v.toNat
    have hdeck := (congrArg (Dev.deck · n) heq).trans (Dev.deck_onDeck_self ..)
    exact ⟨(congrArg (Deck.initTap · _) hdeck).trans htap', (congrArg Deck.taps hdeck).trans htaps,
      heq ▸ .onDeck n g { d with who := w }, heq ▸ rfl⟩
  case refuse =>
    intro c d q link n v hdeny hset
    refine access_exists (go := eqDataWrite n v.toNat) hdeny rfl fun w => ?_
    rw [eqDataWrite_inForce (d := { d with who := w }) hset]
    exact ⟨Dev.get_set_self .., rfl, RegsOnly.sets { d with who := w } [(Reg.DET_EQ_DATA_ERR n, 1)]⟩

end Sys2Proof.Machine
end
